-- ==== Sys2Proof/Word.lean ====
section
/-!
DEFINITION. The words of the CK9200: bytes, 32-bit registers, 64-bit crumbs, and the index types of its instances
(spec/00_scope.md R13, spec/01_architecture.md R15). Nothing here computes.
-/
namespace Sys2Proof

/-- One byte of memory or of a two-wire transfer. -/
abbrev Byte := BitVec 8

/-- One 32-bit register (spec/26_registers.md). -/
abbrev Word := BitVec 32

/-- One crumb: a 64-bit lane word (spec/00_scope.md, Terms). -/
abbrev Crumb := BitVec 64

/-- Head ports HP000 to HP191 (R13, R15). -/
abbrev Port := Fin 192

/-- Slices SL000 to SL207 (R13, R15). -/
abbrev Slice := Fin 208

/-- Lattices LT0 to LT7 (R13). -/
abbrev Lattice := Fin 8

/-- Mailbox channels 0 to 63 (R15). -/
abbrev Chan := Fin 64

/-- DMA channels 0 to 31 (R15). -/
abbrev DmaCh := Fin 32

/-- CAN controllers CAN0 and CAN1 (R13). -/
abbrev CanId := Fin 2

/-- Trigger groups 0 to 63 (spec/05_time.md R156). -/
abbrev Group := Fin 64

/-- SYNC pins 0 to 15 (spec/05_time.md R159). -/
abbrev SyncPin := Fin 16

/-- A unit that SVC_BIST tests (spec/18_rotation_bist.md R525): a slice, a CPX pair, SEC, or an SRAM region of scope bit 3. -/
inductive BistUnit where
  | slice (s : Slice)
  | cpx (pairB : Bool)
  | sec
  | sram (n : Fin 4)
  deriving DecidableEq, Repr

/-- What the test of a unit gives: 0 pass, 1 transient, 2 fail; the failing segment or macro; the MISR or the failing row. -/
structure BistResult where
  part : BistUnit
  result : Fin 3
  segment : BitVec 16
  misr : BitVec 64
  deriving DecidableEq, Repr

/-- The errors of spec/23_memory.md R615: link ECC corrects a transfer, a retry succeeds, a retried read or write fails; inline
SECDED corrects a word, or finds it uncorrectable. -/
inductive LpError where
  | linkFixed | linkRetried | linkRead | linkWrite | inlineFixed | inlineBad
  deriving DecidableEq, Repr

/-- A poisoned word with a consumer that counts it or bypasses a stage (R211, R244, R257): a reference buffer, a warp source,
calibration loaded for the open frame (0 shading, 1 defect map, 2 tone, 3 coefficients, 4 warp mesh). -/
inductive LpUse where
  | other
  | reference (p : Port)
  | warpSource (p : Port)
  | calibration (p : Port) (what : Fin 5)
  deriving DecidableEq, Repr

/-- A link block of spec/03_lanes.md: a head port's, the uplink's or the peer link's. -/
inductive Link where
  | hp (p : Port)
  | upl
  | peer
  deriving DecidableEq, Repr

end Sys2Proof
end

