-- ==== Sys2Proof/Machine/Args.lean ====
section
/-!
DEFINITION. Small operand types of the commands.
-/
namespace Sys2Proof

/-- The TAP instructions (R105, R636, R680); `reset` is Test-Logic-Reset, after which BYPASS is selected, and every code without
an instruction acts as BYPASS. -/
inductive Tap where
  | extest | sample | extestPulse | extestTrain | clamp | highz | intscan | cpxdbg | bypass | reset
  deriving DecidableEq, Repr

/-- The instruction takes the pins from the device logic (R105, R680). -/
def Tap.takes : Tap → Bool
  | .extest | .extestPulse | .extestTrain | .clamp | .highz => true
  | _ => false

/-- The instruction selects the boundary register (R680, R681). -/
def Tap.scans : Tap → Bool
  | .extest | .extestPulse | .extestTrain | .sample => true
  | _ => false

/-- The access paths of R622: the CPX, the bridge, I2CA management, and the keeper over I2CA or over KPR_SCL and KPR_SDA
(R544). -/
inductive Path where
  | cpx | bridge | mgmt | keeperA | keeperK
  deriving DecidableEq, Repr

/-- A number for each path, for tables kept per path. -/
def Path.num : Path → Nat
  | .cpx => 0 | .bridge => 1 | .mgmt => 2 | .keeperA => 3 | .keeperK => 4

end Sys2Proof
end

