-- ==== Sys2Proof/Syntax.lean ====
section
/-!
DEFINITION. The commands of the CK9200 block, one constructor per row of spec/opcode_table.json, in the table's order.
The table gives no row any bits, so a command carries as operands what the spec says the event or operation brings with
it: the instance it happens at, the crumbs or bytes received, the fields of an engine instruction, the address and data
of an access. An operand with a default value is one that the plain event does not bring: a scan, a parity error, the back-channel
in place of the forward group, the peer link in place of the uplink, another lane than lane 0.
-/
namespace Sys2Proof

/-- The commands. Each docstring is the row's summary, with its rule. -/
inductive Instr where
  /-- PWRGOOD_RISING (R62). PWRGOOD rises with all rails in range and BOOT begins: the root PLL starts and the power-up sequence runs. -/
  | pwrgoodRising
  /-- PWRGOOD_FALLING (R646). PWRGOOD falls: every domain except the keeper is held in reset and the outputs take their pre-PWRGOOD states. -/
  | pwrgoodFalling
  /-- RESET_N_RELEASE (R39). RESET_N, held low for at least 10 µs, is released and BOOT runs with the release as reference. -/
  | resetNRelease
  /-- ROOT_PLL_LOCK (R640). The root PLL locks, the domain clocks start and the TSU starts from the keeper's time shadow. -/
  | rootPllLock
  /-- STRAP_SAMPLING (R51). 1.000 ms after the reference, the straps are sampled with pull-up and pull-down and the effective values are latched. -/
  | strapSampling (bootUp : BitVec 2) (bootDn : BitVec 2) (pairUp : Bool) (pairDn : Bool) (twaUp : BitVec 2) (twaDn : BitVec 2)
  /-- BOOT_IMAGE_LOADED (R58). An image slot has been loaded and hashed; the ROM checks DIGEST, SIGNATURE and SVN and starts Sirfiqua. -/
  | bootImageLoaded (slotB : Bool) (octal : Bool) (image : List Byte) (selfTest : Fin 4) (lockstepOk : Bool) (busFreed : Bool := true)
  /-- BOOT_END (R62). BOOT completes: PREPARE is entered, the uplink transmitters are released and FAULT_N is released if no record holds it. -/
  | bootEnd
  /-- BOOT_WATCHDOG_EXPIRY (R39). The BOOT watchdog expires and the device enters SAFE. -/
  | bootWatchdogExpiry
  /-- MODE_TRANSITION_COMPLETE (R38). A mode transition completes; GLB.MODE is updated and a GLB interrupt event is raised. -/
  | modeTransitionComplete
  /-- WAKE_PEND_CLEAR (R37). A write of 1 to GLB.WAKE.PEND clears it and drives WAKE_OUT low. -/
  | wakePendClear
  /-- KPR_SAFE_N_REQUEST (R544). KPR_SAFE_N is held low for at least 10 µs and the keeper requests SAFE. -/
  | kprSafeNRequest
  /-- LANE_LOS (R103). A lane is below the LOS threshold for 1 µs; LOS is asserted and the lane fails. -/
  | laneLos (link : Link) (lane : Fin 16)
  /-- LANE_LOS_RELEASE (R103). A lane stays above the threshold for 10 µs and LOS is released, so the link may leave DETECT. -/
  | laneLosRelease (link : Link) (lane : Fin 16)
  /-- LANE_LOL (R94). The CDR reports loss of lock and the lane fails. -/
  | laneLol (link : Link) (lane : Fin 16)
  /-- LANE_LOCK (R86). CDR lock and lane alignment are achieved at the current rate and the group enters DWELL. -/
  | laneLock (link : Link) (back : Bool)
  /-- ALIGNMENT_MARKER (R80). An alignment marker is received and checked for CRC, SEQ, deskew and re-stripe fields. -/
  | alignmentMarker (link : Link) (lane : Fin 16) (crumb : Crumb) (skew : BitVec 16) (stuffs : BitVec 16)
  /-- LOSS_OF_ALIGNMENT (R80). Four consecutive expected markers are bad or absent and the lane loses alignment. -/
  | lossOfAlignment (link : Link) (lane : Fin 16)
  /-- RSNEXT_TIMEOUT (R97). The far end does not answer RSREQ within two marker intervals and the link returns to DETECT. -/
  | rsnextTimeout (link : Link)
  /-- TRAINING_FRAME (R83). A training frame is received and checked against its CRC; its capability word and RXOK are taken. -/
  | trainingFrame (link : Link) (crumbs : List Crumb) (lane : Fin 16 := 0)
  /-- STEP_REQ (R88). The leader asks the follower to move the group one rate index higher. -/
  | stepReq (link : Link) (back : Bool)
  /-- STEP_ACK (R88). The follower accepts the rate step; each end switches its transmitter at its next marker. -/
  | stepAck (link : Link) (back : Bool)
  /-- STEP_NAK (R85). The follower declines the rate step and the leader ends stepping at the current rate. -/
  | stepNak (link : Link) (back : Bool)
  /-- GO_OPER (R90). GO_OPER is exchanged; the link goes to GO and becomes OPERATING at the next marker. -/
  | goOper (link : Link) (back : Bool)
  /-- QUAD_JOIN (R98). A returning quad trains with QUAD_JOIN and is added to the lane set with one hold. -/
  | quadJoin (link : Link)
  /-- DWELL_PASS (R86). An error-free dwell of 2^20 crumbs completes at the current rate. -/
  | dwellPass (link : Link) (back : Bool)
  /-- STEP_TIMER_EXPIRY (R88). A rate step does not complete before its step timer runs out; each end falls back one rate index. -/
  | stepTimerExpiry (link : Link) (back : Bool)
  /-- DETECT_RETRY (R92). 10 ms after a failed attempt, the link tries bring-up again; after 16 failed attempts lane-train-fail is raised. -/
  | detectRetry (link : Link)
  /-- LINK_RETRAIN (R100). LKCTL.RETRAIN returns the link to DETECT for a bring-up from the lowest rate. -/
  | linkRetrain (link : Link)
  /-- QUAD_RETRAIN (R98). LKCTL.QRETRAIN starts the training of one dropped quad. -/
  | quadRetrain (link : Link)
  /-- LINK_COUNTER_CLEAR (R101). LKCLR.CLRCNT zeroes every counter of the block. -/
  | linkCounterClear (link : Link)
  /-- TAP_INSTRUCTION_UPDATE (R105). A TAP instruction takes effect at Update-IR; a test instruction takes the pins and requests SAFE. -/
  | tapInstructionUpdate (tap : Tap) (scan : Option (List Bool × List Bool) := none)
  /-- FRAME_START (R162). A FRAME_START with a good header CRC is accepted: a frame opens at the frame boundary and is numbered. -/
  | frameStart (port : Port) (crumbs : List Crumb)
  /-- LINE_PACKET (R165). A LINE packet with a good header CRC is checked and accepted, discarded or filled. -/
  | linePacket (port : Port) (crumbs : List Crumb) (full : Bool) (parity : Bool := false)
  /-- FRAME_END (R170). A FRAME_END is accepted; the frame is filled and closed COMPLETE or SHORT, and its counts and CRC are checked. -/
  | frameEnd (port : Port) (crumbs : List Crumb)
  /-- HEADER_CRC_FAILURE (R109). A forward header crumb fails its CRC or has a reserved type and crumbs are discarded until an idle crumb. -/
  | headerCrcFailure (port : Port) (header : Crumb)
  /-- LINE_WATCHDOG_EXPIRY (R168). No crumb of an open LINE packet arrives for LWDOG line times; the packet is closed and filled FILL-WDOG. -/
  | lineWatchdogExpiry (port : Port)
  /-- FRAME_WATCHDOG_EXPIRY (R168). The frame watchdog expires before FRAME_END; the frame closes TRUNCATED and the ingest enters DISCARDING. -/
  | frameWatchdogExpiry (port : Port)
  /-- HEAD_STATUS (R113). A STATUS crumb is received; flags, temperature and thermal cycles are taken and telemetry is sent. -/
  | headStatus (port : Port) (crumbs : List Crumb)
  /-- HEAD_RESPONSE (R118). A RESPONSE is received and matched by TAG to its outstanding back-channel command. -/
  | headResponse (port : Port) (crumbs : List Crumb)
  /-- BACKCHANNEL_COMMAND_SEND (R117). The next back-channel command is sent in priority order once the line is free. -/
  | backchannelCommandSend (port : Port)
  /-- BACKCHANNEL_TIMEOUT (R118). A command receives no RESPONSE within its timeout and is failed to its originator. -/
  | backchannelTimeout (port : Port) (tag : Byte)
  /-- REAUTH_TIMER (R128). The re-authentication period expires and the head is challenged again. -/
  | reauthTimer (port : Port)
  /-- WEAR_WRITE_TIMER (R130). Every 10 minutes of streaming, the wear region is updated and written to the head. -/
  | wearWriteTimer (port : Port)
  /-- LENS_CONTRAST_HOURLY (R134). Each operating hour, the median sharpness value is taken and the lens contrast loss is updated. -/
  | lensContrastHourly (port : Port)
  /-- KEEPER_SHADOW_COPY (R145). Every 1 ms, the keeper copies TSU.NOW into its time shadow. -/
  | keeperShadowCopy
  /-- PPS_EDGE (R147). An edge on PPS_IN is validated, captured and fed to the discipline loop. -/
  | ppsEdge (captured : BitVec 64) (wide : Bool)
  /-- PPS_LOSS (R150). No valid edge arrives for 1,500 ms; pps-lost is raised and the TSU enters HOLDOVER. -/
  | ppsLoss
  /-- SLEW_END (R149). A slew has absorbed its offset and SLEWING returns to 0. -/
  | slewEnd
  /-- PPS_OUT_PULSE (R152). At each whole second of TSU.NOW, PPS_OUT rises. -/
  | ppsOutPulse
  /-- PPS_OUT_PULSE_END (R152). After PPSOUT_W ms, PPS_OUT falls. -/
  | ppsOutPulseEnd
  /-- TSYNC_SCHEDULE (R154). A TSYNC exchange falls due and is queued in class 4. -/
  | tsyncSchedule (port : Port)
  /-- HEAD_TIME_STALE (R154). A streaming port has had no accepted exchange for 2 s and head-time-stale is raised. -/
  | headTimeStale (port : Port)
  /-- TRIGGER_DISPATCH (R157). At T − TRIGLAT − LEAD, a TRIGGER for target T is queued for each group member. -/
  | triggerDispatch (port : Port) (target : BitVec 64)
  /-- SYNC_OUTPUT_EDGE (R159). A SYNC output begins or ends its pulse or window at its TSU time. -/
  | syncOutputEdge (pin : SyncPin) (begins : Bool)
  /-- SYNC_INPUT_EDGE (R160). An edge on a SYNC input is captured into its FIFO, or counted as an overflow. -/
  | syncInputEdge (pin : SyncPin) (falling : Bool) (time : BitVec 64)
  /-- SCAP_POP (R161). A read of SCAPL pops the oldest capture and snapshots SCAPH. -/
  | scapPop (path : Path) (pin : SyncPin)
  /-- TSU_SNAP (R161). A write of 1 to SNAPCTL.SNAP latches TSU.NOW into SNAPL and SNAPH. -/
  | tsuSnap
  /-- MOTION_DEADLINE (R202). Line 0 of frame F reaches step 8 with no queued motion; the motion is predicted and LATE is set. -/
  | motionDeadline (port : Port) (fn : Word)
  /-- LATTICE_ASSEMBLY_START (R269). All contributor frames are VALID, or the deadline passes, and assembly of a lattice frame starts. -/
  | latticeAssemblyStart (lat : Lattice)
  /-- LATTICE_ASSEMBLY_END (R267). Assembly of a lattice frame ends; the overlap records and the lattice record are delivered. -/
  | latticeAssemblyEnd (lat : Lattice)
  /-- LATTICE_SKIP (R270). A lattice frame has not started by D + PERIOD × RDIV and is skipped with a notice. -/
  | latticeSkip (lat : Lattice)
  /-- STREAM_STATUS_REPEAT (R299). Every 1 s while a port condition holds, a STATUS item is repeated. -/
  | streamStatusRepeat (sid : BitVec 12)
  /-- STATS_SET_COMPLETE (R316). A statistics set completes; STATRDY is posted and the set is passed to egress. -/
  | statsSetComplete (port : Port) (fn : Word)
  /-- PQ_SENSOR_DISPATCH (R325). A SENSOR queue entry is sent as a REG_WRITE in its dispatch window. -/
  | pqSensorDispatch (port : Port)
  /-- PQ_PIPE_LATCH (R324). At its latch point, a PIPE field takes its queued value for the frame. -/
  | pqPipeLatch (port : Port) (field : BitVec 16)
  /-- PQ_DEADLINE_PASS (R328). The deadline of an entry or group passes and it is moved to a later frame. -/
  | pqDeadlinePass (port : Port)
  /-- ADD (R342). Scalar add, modulo 2^32. -/
  | engAdd (sl : Slice) (sd : BitVec 5) (sa : BitVec 5) (sb : BitVec 5)
  /-- SUB (R342). Scalar subtract, modulo 2^32. -/
  | engSub (sl : Slice) (sd : BitVec 5) (sa : BitVec 5) (sb : BitVec 5)
  /-- AND (R342). Scalar bitwise AND. -/
  | engAnd (sl : Slice) (sd : BitVec 5) (sa : BitVec 5) (sb : BitVec 5)
  /-- OR (R342). Scalar bitwise OR. -/
  | engOr (sl : Slice) (sd : BitVec 5) (sa : BitVec 5) (sb : BitVec 5)
  /-- XOR (R342). Scalar bitwise XOR. -/
  | engXor (sl : Slice) (sd : BitVec 5) (sa : BitVec 5) (sb : BitVec 5)
  /-- SLL (R342). Scalar shift left by a register. -/
  | engSll (sl : Slice) (sd : BitVec 5) (sa : BitVec 5) (sb : BitVec 5)
  /-- SRL (R342). Scalar logical shift right by a register. -/
  | engSrl (sl : Slice) (sd : BitVec 5) (sa : BitVec 5) (sb : BitVec 5)
  /-- SRA (R342). Scalar arithmetic shift right by a register. -/
  | engSra (sl : Slice) (sd : BitVec 5) (sa : BitVec 5) (sb : BitVec 5)
  /-- MUL (R342). Low 32 bits of the scalar product. -/
  | engMul (sl : Slice) (sd : BitVec 5) (sa : BitVec 5) (sb : BitVec 5)
  /-- MULH (R342). High 32 bits of the signed product. -/
  | engMulh (sl : Slice) (sd : BitVec 5) (sa : BitVec 5) (sb : BitVec 5)
  /-- MULHU (R342). High 32 bits of the unsigned product. -/
  | engMulhu (sl : Slice) (sd : BitVec 5) (sa : BitVec 5) (sb : BitVec 5)
  /-- SLT (R342). Signed set-less-than. -/
  | engSlt (sl : Slice) (sd : BitVec 5) (sa : BitVec 5) (sb : BitVec 5)
  /-- SLTU (R342). Unsigned set-less-than. -/
  | engSltu (sl : Slice) (sd : BitVec 5) (sa : BitVec 5) (sb : BitVec 5)
  /-- MIN (R342). Signed scalar minimum. -/
  | engMin (sl : Slice) (sd : BitVec 5) (sa : BitVec 5) (sb : BitVec 5)
  /-- MAX (R342). Signed scalar maximum. -/
  | engMax (sl : Slice) (sd : BitVec 5) (sa : BitVec 5) (sb : BitVec 5)
  /-- CLZ (R342). Count of the leading zeros of sa. -/
  | engClz (sl : Slice) (sd : BitVec 5) (sa : BitVec 5)
  /-- ADDI (R343). Add a sign-extended immediate. -/
  | engAddi (sl : Slice) (sd : BitVec 5) (sa : BitVec 5) (imm : BitVec 14)
  /-- ANDI (R343). AND with a zero-extended immediate. -/
  | engAndi (sl : Slice) (sd : BitVec 5) (sa : BitVec 5) (imm : BitVec 14)
  /-- ORI (R343). OR with a zero-extended immediate. -/
  | engOri (sl : Slice) (sd : BitVec 5) (sa : BitVec 5) (imm : BitVec 14)
  /-- XORI (R343). XOR with a zero-extended immediate. -/
  | engXori (sl : Slice) (sd : BitVec 5) (sa : BitVec 5) (imm : BitVec 14)
  /-- SLLI (R343). Shift left by an immediate. -/
  | engSlli (sl : Slice) (sd : BitVec 5) (sa : BitVec 5) (sh : BitVec 5)
  /-- SRLI (R343). Logical shift right by an immediate. -/
  | engSrli (sl : Slice) (sd : BitVec 5) (sa : BitVec 5) (sh : BitVec 5)
  /-- SRAI (R343). Arithmetic shift right by an immediate. -/
  | engSrai (sl : Slice) (sd : BitVec 5) (sa : BitVec 5) (sh : BitVec 5)
  /-- SLTI (R343). Set-less-than against a sign-extended immediate. -/
  | engSlti (sl : Slice) (sd : BitVec 5) (sa : BitVec 5) (imm : BitVec 14)
  /-- LUI (R343). Load the upper immediate, shifted left by 13. -/
  | engLui (sl : Slice) (sd : BitVec 5) (imm : BitVec 19)
  /-- BEQ (R344). Branch if equal. -/
  | engBeq (sl : Slice) (sa : BitVec 5) (sb : BitVec 5) (off : BitVec 14)
  /-- BNE (R344). Branch if not equal. -/
  | engBne (sl : Slice) (sa : BitVec 5) (sb : BitVec 5) (off : BitVec 14)
  /-- BLT (R344). Branch if signed less than. -/
  | engBlt (sl : Slice) (sa : BitVec 5) (sb : BitVec 5) (off : BitVec 14)
  /-- BGE (R344). Branch if signed greater or equal. -/
  | engBge (sl : Slice) (sa : BitVec 5) (sb : BitVec 5) (off : BitVec 14)
  /-- BLTU (R344). Branch if unsigned less than. -/
  | engBltu (sl : Slice) (sa : BitVec 5) (sb : BitVec 5) (off : BitVec 14)
  /-- BGEU (R344). Branch if unsigned greater or equal. -/
  | engBgeu (sl : Slice) (sa : BitVec 5) (sb : BitVec 5) (off : BitVec 14)
  /-- JAL (R344). Jump and link to PC + off14. -/
  | engJal (sl : Slice) (sa : BitVec 5) (off : BitVec 14)
  /-- JR (R344). Jump to the register target and link. -/
  | engJr (sl : Slice) (sa : BitVec 5) (sb : BitVec 5)
  /-- LOOP (R344). Repeat the following body s[sa] times with no overhead. -/
  | engLoop (sl : Slice) (sa : BitVec 5) (off : BitVec 14)
  /-- HALT (R358). Stop the engine and raise engine-halt. -/
  | engHalt (sl : Slice)
  /-- ILLEGAL_INSTRUCTION (R340). A reserved class, operation or non-zero marked field traps with ILLEGAL. -/
  | engIllegalInstruction (sl : Slice) (word : Word)
  /-- VADD (R345). Lane-wise vector add, saturating or wrapping. -/
  | engVadd (sl : Slice) (vd : BitVec 3) (va : BitVec 3) (vb : BitVec 3) (sat : Bool) (sgn : Bool)
  /-- VSUB (R345). Lane-wise vector subtract. -/
  | engVsub (sl : Slice) (vd : BitVec 3) (va : BitVec 3) (vb : BitVec 3) (sat : Bool) (sgn : Bool)
  /-- VMULQ (R345). Lane-wise multiply with rounding right shift. -/
  | engVmulq (sl : Slice) (vd : BitVec 3) (va : BitVec 3) (vb : BitVec 3) (sb : BitVec 5) (sat : Bool) (sgn : Bool)
  /-- VMACQ (R345). Lane-wise multiply, shift and accumulate. -/
  | engVmacq (sl : Slice) (vd : BitVec 3) (va : BitVec 3) (vb : BitVec 3) (sb : BitVec 5) (sat : Bool) (sgn : Bool)
  /-- VMIN (R345). Lane-wise minimum. -/
  | engVmin (sl : Slice) (vd : BitVec 3) (va : BitVec 3) (vb : BitVec 3) (sgn : Bool)
  /-- VMAX (R345). Lane-wise maximum. -/
  | engVmax (sl : Slice) (vd : BitVec 3) (va : BitVec 3) (vb : BitVec 3) (sgn : Bool)
  /-- VABSD (R345). Lane-wise absolute difference. -/
  | engVabsd (sl : Slice) (vd : BitVec 3) (va : BitVec 3) (vb : BitVec 3) (sgn : Bool)
  /-- VAND (R345). Lane-wise AND. -/
  | engVand (sl : Slice) (vd : BitVec 3) (va : BitVec 3) (vb : BitVec 3)
  /-- VOR (R345). Lane-wise OR. -/
  | engVor (sl : Slice) (vd : BitVec 3) (va : BitVec 3) (vb : BitVec 3)
  /-- VXOR (R345). Lane-wise XOR. -/
  | engVxor (sl : Slice) (vd : BitVec 3) (va : BitVec 3) (vb : BitVec 3)
  /-- VSHL (R345). Lane-wise shift left. -/
  | engVshl (sl : Slice) (vd : BitVec 3) (va : BitVec 3) (sb : BitVec 5) (sat : Bool) (sgn : Bool)
  /-- VSHR (R345). Lane-wise shift right. -/
  | engVshr (sl : Slice) (vd : BitVec 3) (va : BitVec 3) (sb : BitVec 5) (sgn : Bool)
  /-- VSPLAT (R345). Broadcast a scalar into every lane. -/
  | engVsplat (sl : Slice) (vd : BitVec 3) (sb : BitVec 5)
  /-- VCMPLT (R345). Lane-wise less-than mask. -/
  | engVcmplt (sl : Slice) (vd : BitVec 3) (va : BitVec 3) (vb : BitVec 3) (sgn : Bool)
  /-- VCMPEQ (R345). Lane-wise equality mask. -/
  | engVcmpeq (sl : Slice) (vd : BitVec 3) (va : BitVec 3) (vb : BitVec 3)
  /-- VSEL (R345). Lane-wise select by mask. -/
  | engVsel (sl : Slice) (vd : BitVec 3) (va : BitVec 3) (vb : BitVec 3)
  /-- VSLIDE (R345). Slide lanes across the vector pair. -/
  | engVslide (sl : Slice) (vd : BitVec 3) (va : BitVec 3) (vb : BitVec 3) (sb : BitVec 5)
  /-- VRSUM (R345). Sum the lanes into a scalar register. -/
  | engVrsum (sl : Slice) (va : BitVec 3) (sb : BitVec 5) (sgn : Bool)
  /-- LDW (R346). Load a 32-bit word from data memory. -/
  | engLdw (sl : Slice) (sd : BitVec 5) (sa : BitVec 5) (off : BitVec 15)
  /-- STW (R346). Store a 32-bit word to data memory. -/
  | engStw (sl : Slice) (sd : BitVec 5) (sa : BitVec 5) (off : BitVec 15)
  /-- LDH (R346). Load a halfword, zero-extended. -/
  | engLdh (sl : Slice) (sd : BitVec 5) (sa : BitVec 5) (off : BitVec 15)
  /-- STH (R346). Store a halfword. -/
  | engSth (sl : Slice) (sd : BitVec 5) (sa : BitVec 5) (off : BitVec 15)
  /-- VLD (R346). Load 32 bytes into a vector register. -/
  | engVld (sl : Slice) (vd : BitVec 3) (sa : BitVec 5) (off : BitVec 15)
  /-- VST (R346). Store a vector register as 32 bytes. -/
  | engVst (sl : Slice) (vd : BitVec 3) (sa : BitVec 5) (off : BitVec 15)
  /-- VLUT (R346). Lane-wise table lookup in data memory. -/
  | engVlut (sl : Slice) (vd : BitVec 3) (sa : BitVec 5) (off : BitVec 15)
  /-- TPOP (R347). Pop the next group of 16 samples of a plane at a tap. -/
  | engTpop (sl : Slice) (scaler : Bool) (vd : BitVec 3) (plane : Fin 8)
  /-- TPUSH (R347). Push a group of 16 samples of a plane at a tap. -/
  | engTpush (sl : Slice) (scaler : Bool) (vd : BitVec 3) (plane : Fin 8)
  /-- TLINE (R347). Wait for the next line at a tap and return its number and LSTATE. -/
  | engTline (sl : Slice) (scaler : Bool) (sd : BitVec 5)
  /-- TSTAT (R347). Return the groups per line and the bypass state of a tap. -/
  | engTstat (sl : Slice) (scaler : Bool) (sd : BitVec 5)
  /-- STLW (R348). Read a word of statistics memory. -/
  | engStlw (sl : Slice) (sd : BitVec 5) (sa : BitVec 5) (u : BitVec 15)
  /-- STLV (R348). Read 32 bytes of statistics memory into a vector register. -/
  | engStlv (sl : Slice) (vd : BitVec 3) (sa : BitVec 5) (u : BitVec 15)
  /-- STCPY (R348). Copy blocks of statistics memory into data memory. -/
  | engStcpy (sl : Slice) (sd : BitVec 5) (sa : BitVec 5) (u : BitVec 15)
  /-- SRD (R349). Issue a non-frame-exact sensor register read in class 5. -/
  | engSrd (sl : Slice) (sa : BitVec 5) (sb : BitVec 5) (len : Fin 4)
  /-- SWR (R349). Issue a non-frame-exact sensor register write in class 5. -/
  | engSwr (sl : Slice) (sa : BitVec 5) (sb : BitVec 5) (len : Fin 4)
  /-- SCNT (R349). Return the number of this engine's outstanding sensor commands. -/
  | engScnt (sl : Slice) (sd : BitVec 5)
  /-- PQPUT (R350). Submit a 16-byte entry to the camera's parameter queue and return its status. -/
  | engPqput (sl : Slice) (sd : BitVec 5) (sa : BitVec 5)
  /-- PQFN (R350). Return FNopen. -/
  | engPqfn (sl : Slice) (sd : BitVec 5)
  /-- PQUSED (R350). Return the number of entries in use in the queue pool. -/
  | engPqused (sl : Slice) (sd : BitVec 5)
  /-- EVWAIT (R351). Wait for a latched event in the mask, with an optional timeout. -/
  | engEvwait (sl : Slice) (sd : BitVec 5) (sa : BitVec 5) (imm : BitVec 15)
  /-- EVWAIT_TIMEOUT (R351). The EVWAIT timeout expires and the wait ends with TIMEOUT. -/
  | engEvwaitTimeout (sl : Slice)
  /-- COMMIT (R338). EVSIG COMMIT copies the persistence window into its shadow. -/
  | engCommit (sl : Slice)
  /-- REPORT (R351). EVSIG REPORT raises engine-report with an argument. -/
  | engReport (sl : Slice) (sa : BitVec 5)
  /-- EVARG (R351). Return an argument of the last event. -/
  | engEvarg (sl : Slice) (sd : BitVec 5) (imm : BitVec 15)
  /-- ENGINE_TIME_NOW (R351). TIME with imm 0 returns TSU.NOW[31:0] and snapshots the high word. -/
  | engineTimeNow (sl : Slice) (sd : BitVec 5)
  /-- ENGINE_TIME_HIGH (R351). TIME with imm 1 returns the snapshotted high word. -/
  | engineTimeHigh (sl : Slice) (sd : BitVec 5)
  /-- DMARD (R352). Start an engine-mover copy from a window into data memory. -/
  | engDmard (sl : Slice) (sa : BitVec 5)
  /-- DMAWR (R352). Start an engine-mover copy from data memory into the trace window. -/
  | engDmawr (sl : Slice) (sa : BitVec 5)
  /-- DMAST (R352). Return the state and tag of the engine mover. -/
  | engDmast (sl : Slice) (sd : BitVec 5)
  /-- ENGINE_MOVER_DONE (R352). An engine-mover transfer completes or ends in error. -/
  | engineMoverDone (sl : Slice)
  /-- TAP_UNDERRUN (R357). A tap group misses its due time and the tap enters bypass for the rest of the frame. -/
  | tapUnderrun (sl : Slice) (scaler : Bool)
  /-- ENGINE_WATCHDOG (R358). No EVWAIT or TLINE completes within WDOGF frame periods and the engine traps with WDOG. -/
  | engineWatchdog (sl : Slice)
  /-- ENGINE_LOAD (R364). A program is loaded and checked on a destination engine, which starts at the move boundary. -/
  | engineLoad (sl : Slice)
  /-- ENGINE_RESTART_REQUEST (R367). ENGCTL.RESTART requests a restart at the next frame boundary. -/
  | engineRestartRequest (sl : Slice)
  /-- ENGINE_COUNTER_CLEAR (R367). ENGCTL.CLR zeroes ENGCNT0 to ENGCNT2. -/
  | engineCounterClear (sl : Slice)
  /-- ENGMDATA_READ (R367). A read of ENGMDATA returns a word of engine memory and advances ENGMADDR by 4. -/
  | engmdataRead (path : Path) (sl : Slice)
  /-- NR_COUNTER_CLEAR (R213). NRCTL.CLR zeroes NRCNT0 and NRCNT1. -/
  | nrCounterClear (sl : Slice)
  /-- OUTPUT_COUNTER_CLEAR (R305). OCTL.CLR zeroes OCNT. -/
  | outputCounterClear (sl : Slice) (k : Fin 4)
  /-- STATS_COUNTER_CLEAR (R334). STCTL.CLR zeroes the parameter-queue counters. -/
  | statsCounterClear (sl : Slice)
  /-- READLATE_CLEAR (R334). A write of 1 to STSTAT.READLATE clears it. -/
  | readlateClear (sl : Slice)
  /-- CREDIT (R378). A CREDIT packet is received; the credit limits and the cumulative acknowledgement are applied. On the uplink, or on the peer link (R483). -/
  | uplCredit (crumbs : List Crumb) (peer : Bool := false)
  /-- CREDIT_INIT (R382). An INIT CREDIT is received; the link layer initialises, or re-initialises if it was already up. On the uplink, or on the peer link (R483). -/
  | uplCreditInit (crumbs : List Crumb) (peer : Bool := false)
  /-- CREDIT_NAK (R377). A CREDIT with NAK is received and a replay of unacknowledged packets starts. On the uplink, or on the peer link (R483). -/
  | uplCreditNak (crumbs : List Crumb) (peer : Bool := false)
  /-- INIT_REPEAT (R382). Every 2 µs until a far-end INIT arrives, the INIT CREDIT is resent. On the uplink, or on the peer link (R483). -/
  | uplInitRepeat (peer : Bool := false)
  /-- INIT_TIMEOUT (R382). No INIT arrives within 1 ms of OPERATING and the link is retrained. On the uplink, or on the peer link (R483). -/
  | uplInitTimeout (peer : Bool := false)
  /-- NAK_RESEND (R375). Every 20 µs in NAK state, the NAK CREDIT is resent. On the uplink, or on the peer link (R483). -/
  | uplNakResend (peer : Bool := false)
  /-- ACK_TIMER (R376). At least every 50 µs, an acknowledging CREDIT is sent. On the uplink, or on the peer link (R483). -/
  | uplAckTimer (peer : Bool := false)
  /-- REPLAY_TIMEOUT (R377). No acknowledgement progress for RPLTO and the transmitter replays. On the uplink, or on the peer link (R483). -/
  | uplReplayTimeout (peer : Bool := false)
  /-- ACK_STALL_REINIT (R377). No acknowledgement progress for four marker intervals plus 1 ms and the link layer re-initialises. On the uplink, or on the peer link (R483). -/
  | uplAckStallReinit (peer : Bool := false)
  /-- UPLINK_PACKET_RECEIVE (R375). A sequenced packet is received and accepted, discarded, or put the receiver in NAK state. On the uplink, or on the peer link (R483). -/
  | uplinkPacketReceive (crumbs : List Crumb) (peer : Bool := false)
  /-- UPLINK_PACKET_TRANSMIT (R388). The transmitter chooses and sends the next packet once credit and eligibility allow. -/
  | uplinkPacketTransmit
  /-- INJECT_TX_CRC (R395). UPINJ.TXCRC corrupts the trailer CRC of the next sequenced packet sent. -/
  | injectTxCrc
  /-- INJECT_RX_DROP (R395). UPINJ.RXDROP treats the next good received packet as a trailer CRC failure. -/
  | injectRxDrop
  /-- READ (R406). A bridge RDREQ is tested and answered with data, RETRY or a status. -/
  | brgRead (fast : Bool)
  /-- FASTWIN_EXPIRY (R406). A local read has not completed within FASTWIN; RETRY is sent and the read continues into a buffer. -/
  | brgFastwinExpiry (tag : BitVec 12)
  /-- DELAYED_READ_DONE (R407). The fetch of a delayed-read buffer ends with data or an error. -/
  | brgDelayedReadDone (tag : BitVec 12)
  /-- DELAYED_READ_DISCARD (R407). An unclaimed finished buffer is discarded 1 ms after its fetch ended. -/
  | brgDelayedReadDiscard (tag : BitVec 12)
  /-- WRITE (R402). A posted write is accepted, tested and performed in order in its scope. -/
  | brgWrite
  /-- LREAD (R410). A lock is opened on a head port and n bytes are read. -/
  | brgLread
  /-- LWRITE (R410). n bytes are written and the lock is closed. -/
  | brgLwrite
  /-- LRELEASE (R410). The lock is closed without a write. -/
  | brgLrelease
  /-- LOCK_TIMEOUT (R412). No LWRITE or LRELEASE arrives within LCKTO and the lock expires. -/
  | brgLockTimeout (port : Port)
  /-- PWERR_CLEAR (R405). A write of 1 to BRG.PWERRH.VALID frees the error capture and zeroes LOST. -/
  | pwerrClear
  /-- INTERRUPT_UNMASK (R415). A write to BRG.IMASK makes the pending messages of the unmasked groups eligible. -/
  | interruptUnmask (mask : BitVec 11)
  /-- BRIDGE_COUNTER_CLEAR (R427). CNTCLR.CLR zeroes CNT0 to CNT3. -/
  | bridgeCounterClear
  /-- INTMSG_SEND (R416). A pending interrupt message becomes eligible and is sent. -/
  | intmsgSend
  /-- CAN_TX (R577). A CAN_TX tunnel item enters the controller's transmit queue, or is answered at once. -/
  | canTx
  /-- TW_REQ (R419). A head two-wire tunnel request is performed as a REG_WRITE or REG_READ. -/
  | twReq
  /-- HM_REQ (R419). A head-message tunnel request is sent as a back-channel command. -/
  | hmReq
  /-- COMPAT_SWITCH (R423). Once no transaction is outstanding and no lock is held, the bridge mode changes to COMPAT. -/
  | compatSwitch
  /-- DOORBELL (R430). A write to MBX.DBn advances CPI, or puts the channel in ERROR. -/
  | doorbell (ch : Chan) (v : BitVec 16) (byI2c : Bool)
  /-- RESPONSE_CONSUME (R430). A write to MBX.RCIn advances RCI, or puts the channel in ERROR. -/
  | responseConsume (ch : Chan) (v : BitVec 16)
  /-- CHANNEL_RESET (R431). MBX.CHRST with GO starts the reset of a channel. -/
  | channelReset (ch : Chan)
  /-- CHANNEL_RESET_DONE (R431). The reset completes: the indices are zeroed, the channel is IDLE and RESET_DONE is sent. -/
  | channelResetDone (ch : Chan)
  /-- MAILBOX_ENTRY_ACCEPT (R435). An eligible command entry is accepted when ordering and response-ring room allow. -/
  | mailboxEntryAccept
  /-- SYS_NOP (R445). No operation. -/
  | sysNop (ch : Chan)
  /-- SYS_HELLO (R441). The SHI level of the channel is negotiated. -/
  | sysHello (ch : Chan)
  /-- SYS_INFO (R445). Identity, mode, image and strap information are returned. -/
  | sysInfo (ch : Chan)
  /-- SYS_SET_MODE (R446). A mode transition is requested. -/
  | sysSetMode (ch : Chan)
  /-- SYS_GET_MODE (R445). GLB.MODE and GLB.WAKE are returned. -/
  | sysGetMode (ch : Chan)
  /-- SYS_PRIORITY (R445). The host priority list and shareable marks are written. -/
  | sysPriority (ch : Chan)
  /-- SYS_COMPAT (R445). The bridge compatibility mode and the alias table are set. -/
  | sysCompat (ch : Chan)
  /-- PORT_STATUS (R447). Port state registers are returned. -/
  | portStatus (ch : Chan)
  /-- PORT_RETRAIN (R447). The port's link is retrained. -/
  | portRetrain (ch : Chan)
  /-- PORT_AUTH (R447). HP.PCTL authentication policy is written. -/
  | portAuth (ch : Chan)
  /-- PORT_COUNTERS (R447). Port counters are returned and optionally zeroed. -/
  | portCounters (ch : Chan)
  /-- HEAD_LEDGER (R448). Ledger entries are written to the result buffer. -/
  | headLedger (ch : Chan)
  /-- HEAD_LENS_RESET (R447). The sharpness reference of the lens estimate is restarted. -/
  | headLensReset (ch : Chan)
  /-- HEAD_REAUTH (R447). The head authentication challenge is run again. -/
  | headReauth (ch : Chan)
  /-- HEAD_POLL (R447). POLL is sent and the wear region is returned. -/
  | headPoll (ch : Chan)
  /-- SLICE_STATUS (R449). The state of a slice is returned. -/
  | sliceStatus (ch : Chan)
  /-- SLICE_PQPUT (R450). A host entry is submitted to a camera's parameter queue. -/
  | slicePqput (ch : Chan)
  /-- SLICE_TRACE (R449). A copy of a slice's trace window is returned. -/
  | sliceTrace (ch : Chan)
  /-- SLICE_RESTART (R449). The engine serving a port is restarted. -/
  | sliceRestart (ch : Chan)
  /-- SLICE_PROVING (R515). The rotation PERIOD, MAXWIN and PAUSE are set. -/
  | sliceProving (ch : Chan)
  /-- STREAM_STATUS (R449). The state of a stream is returned. -/
  | streamStatus (ch : Chan)
  /-- STREAM_LIST (R449). A bitmap of open streams is returned. -/
  | streamList (ch : Chan)
  /-- LAT_STATUS (R449). The state of a lattice is returned. -/
  | latStatus (ch : Chan)
  /-- STAT_READ (R449). A copy of the last complete statistics set is returned. -/
  | statRead (ch : Chan)
  /-- STAT_LOAD (R449). Loads, budgets and capacities are returned. -/
  | statLoad (ch : Chan)
  /-- CFG_STAGE (R440). Host window 1 is opened over the configuration staging area. -/
  | cfgStage (ch : Chan)
  /-- CFG_LOAD (R463). The shadow set is rebuilt from a staged Horath image. -/
  | cfgLoad (ch : Chan)
  /-- CFG_EDIT (R461). One field of the shadow set is changed. -/
  | cfgEdit (ch : Chan)
  /-- CFG_COPY (R451). The active set is copied into the shadow. -/
  | cfgCopy (ch : Chan)
  /-- CFG_CHECK (R465). Admission checks are run on the shadow set. -/
  | cfgCheck (ch : Chan)
  /-- CFG_FLIP (R452). The shadow set is admitted and a flip epoch is set. -/
  | cfgFlip (ch : Chan)
  /-- CFG_CANCEL (R451). A pending flip under which no camera has switched is ended. -/
  | cfgCancel (ch : Chan)
  /-- CFG_EXPORT (R463). A Horath image of the chosen set is written to the export area. -/
  | cfgExport (ch : Chan)
  /-- CFG_STATUS (R451). The generation and the flip progress are returned. -/
  | cfgStatus (ch : Chan)
  /-- FLIP_EPOCH_REACHED (R467). At the epoch, the generation rises and system fields switch. -/
  | flipEpochReached
  /-- RESERVATION_RELEASE (R466). An object's old reservation is released after its last old-set frame has left. -/
  | reservationRelease (kind : Fin 8) (inst : BitVec 11)
  /-- PAIR_STATUS (R453). The pair state and levels are returned. -/
  | pairStatus (ch : Chan)
  /-- PAIR_ROLES (R453). Cameras are moved between primaries by orderly handover. -/
  | pairRoles (ch : Chan)
  /-- TIME_GET (R453). TSU time and discipline state are returned. -/
  | timeGet (ch : Chan)
  /-- TIME_SET (R454). Whole seconds are set, at once, at a PPS edge or by slew. -/
  | timeSet (ch : Chan)
  /-- TIME_STEP (R454). A step, or the held PPS jump, is applied. -/
  | timeStep (ch : Chan)
  /-- TIME_DISCIPLINE (R453). TSU.DCTL is written. -/
  | timeDiscipline (ch : Chan)
  /-- TIME_CLRCNT (R453). TSU counters and trigger-group counters are zeroed. -/
  | timeClrcnt (ch : Chan)
  /-- TIME_SYNC (R453). A SYNC pin is configured. -/
  | timeSync (ch : Chan)
  /-- TIME_CAPTURE (R453). Up to MAX captures are popped from a SYNC FIFO. -/
  | timeCapture (ch : Chan)
  /-- CAN_STATUS (R453). Controller status and error counters are returned. -/
  | canStatus (ch : Chan)
  /-- CAN_CONFIG (R575). Mode and bit timing of a controller are requested. -/
  | canConfig (ch : Chan)
  /-- CAN_FILTER (R581). A receive filter is set. -/
  | canFilter (ch : Chan)
  /-- CAN_WAKE (R588). The wake detector is armed for the next STANDBY. -/
  | canWake (ch : Chan)
  /-- CAN_VEHICLE (R583). The vehicle-data source controller and address are chosen. -/
  | canVehicle (ch : Chan)
  /-- FAULT_READ (R455). The next uncleared record is returned and marked read. -/
  | faultRead (ch : Chan)
  /-- FAULT_CLEAR (R455). A read record is cleared. -/
  | faultClear (ch : Chan)
  /-- FAULT_COUNTERS (R455). Overflow counts and first lost codes are returned and cleared. -/
  | faultCounters (ch : Chan)
  /-- FAULT_PINMASK (R543). The FAULT_N class mask is set. -/
  | faultPinmask (ch : Chan)
  /-- FAULT_DUMP (R455). The whole log is written to the result buffer. -/
  | faultDump (ch : Chan)
  /-- UPD_STAGE (R440). Host window 2 is opened over the update staging area. -/
  | updStage (ch : Chan)
  /-- UPD_FLASH (R455). A verified image is programmed into a flash slot and read back. -/
  | updFlash (ch : Chan)
  /-- UPD_CPX_SWITCH (R473). The standby CPX pair is loaded with a verified core and made active. -/
  | updCpxSwitch (ch : Chan)
  /-- CPX_SWITCH_TIMEOUT (R473). The new pair does not report ready within 30 ms and the old pair is restored. -/
  | cpxSwitchTimeout
  /-- UPD_PROG_ADD (R362). A verified kernel binary is entered into the program store. -/
  | updProgAdd (ch : Chan)
  /-- UPD_PROG_REMOVE (R455). A binary not named by either set is removed from the store. -/
  | updProgRemove (ch : Chan)
  /-- UPD_HEAD_FW (R135). Head firmware is transferred and committed. -/
  | updHeadFw (ch : Chan)
  /-- SVC_CHALLENGE (R634). A fresh service nonce is issued and the identity attestation is written. -/
  | svcChallenge (ch : Chan)
  /-- SVC_AUTH_R (R634). The r part of the service signature is taken. -/
  | svcAuthR (ch : Chan)
  /-- SVC_AUTH_S (R634). The s part is taken, the signature verified and a 10 s grant issued. -/
  | svcAuthS (ch : Chan)
  /-- SVC_BIST (R525). BIST of the chosen units is run in SERVICE. -/
  | svcBist (ch : Chan)
  /-- SVC_FUSE (R631). Soft repairs, retirements, SVN counters and revocations are fused. -/
  | svcFuse (ch : Chan)
  /-- BEAT (R487). A peer heartbeat is received; the partner clock offset is updated. -/
  | peerBeat (crumbs : List Crumb) (good : Bool)
  /-- BEAT_SEND (R486). Every 250 µs, a heartbeat is sent on the peer link. -/
  | peerBeatSend
  /-- BEAT_MISS (R488). 250 µs pass without a beat; the fourth consecutive miss declares takeover. -/
  | peerBeatMiss
  /-- MIRROR (R491). A camera state record mirror is received and applied. -/
  | peerMirror (crumbs : List Crumb)
  /-- DONE (R493). A delivery report is received and D is updated. -/
  | peerDone (crumbs : List Crumb)
  /-- LATMIR (R275). The last emitted LFN of a lattice is received. -/
  | peerLatmir (crumbs : List Crumb)
  /-- JOIN_REQ (R481). A join request is received and answered with ACK or NAK. -/
  | peerJoinReq (crumbs : List Crumb)
  /-- JOIN_ACK (R481). The partner accepts the join and both enter PAIRED. -/
  | peerJoinAck (crumbs : List Crumb)
  /-- JOIN_NAK (R481). The partner refuses the join. -/
  | peerJoinNak (crumbs : List Crumb)
  /-- JOIN_TIMEOUT (R42). The partner does not answer within 10 ms and PAIRED is refused. -/
  | peerJoinTimeout
  /-- LEAVE (R482). The partner leaves in order and this device enters PARTNER-LEFT. -/
  | peerLeave (crumbs : List Crumb)
  /-- HANDOVER (R501). A handover of a camera at frame H is proposed and answered. -/
  | peerHandover (crumbs : List Crumb)
  /-- HANDOVER_ACK (R501). The answer to a handover proposal is received. -/
  | peerHandoverAck (crumbs : List Crumb)
  /-- FLIP_PROPOSE (R502). A partner flip proposal is received and admission is run. -/
  | peerFlipPropose (crumbs : List Crumb)
  /-- FLIP_ANSWER (R502). The partner's admission answer is received. -/
  | peerFlipAnswer (crumbs : List Crumb)
  /-- FLIP_ANSWER_TIMEOUT (R502). No FLIP_ANSWER arrives within 1 ms and the flip ends FLIP_INVALID. -/
  | peerFlipAnswerTimeout
  /-- FLIP_EPOCH (R503). The paced epoch time is received from the proposer. -/
  | peerFlipEpoch (crumbs : List Crumb)
  /-- FLIP_DONE (R503). The partner's TDONE is received. -/
  | peerFlipDone (crumbs : List Crumb)
  /-- RESYNC (R485). A request to send the next MIRROR of a port in full is received. -/
  | peerResync (crumbs : List Crumb)
  /-- DIGEST (R485). The set digest of a flip proposal is received. -/
  | peerDigest (crumbs : List Crumb)
  /-- PORTINFO (R477). The partner's attach or detach report is received and cameras are paired or mismatched. -/
  | peerPortinfo (crumbs : List Crumb)
  /-- UNKNOWN (R485). A reserved CTYPE is received and answered with CTYPE 0xFF. -/
  | peerUnknown (crumbs : List Crumb)
  /-- RING_READ_FRAME (R497). The ring reader starts reading the next frame once its predecessor is read and its boundary has passed. -/
  | ringReadFrame (port : Port)
  /-- PROVING_WINDOW_START (R514). The scheduler starts the next proving window and claims a spare. -/
  | provingWindowStart
  /-- SLICE_DRAINED (R510). The slice under test has drained and is isolated for BIST. -/
  | sliceDrained (sl : Slice)
  /-- BIST_SEGMENT_DONE (R511). A logic BIST segment ends and its MISR is compared, with a retest on mismatch. -/
  | bistSegmentDone (sl : Slice) (good : Bool) (misr : BitVec 64)
  /-- BIST_SEGMENT_TIMEOUT (R511). A segment has not finished within 1 ms and counts as a mismatch. -/
  | bistSegmentTimeout (sl : Slice) (misr : BitVec 64)
  /-- MEMORY_BIST_DONE (R512). Memory BIST ends; failing rows are soft-repaired or the slice is retired. -/
  | memoryBistDone (sl : Slice) (rows : List (Fin 11 × Fin 512)) (again : Bool)
  /-- PROVING_WINDOW_ABORT (R513). A window reaches 100 ms and is aborted. -/
  | provingWindowAbort (sl : Slice)
  /-- SLICE_RESET_DONE (R510). The slice reset and SRAM zeroing end and the slice returns to SPARE. -/
  | sliceResetDone (sl : Slice)
  /-- ROTATION_COVERAGE (R517). A slice has not passed a window within 2 × PERIOD and rotation-coverage is raised. -/
  | rotationCoverage (sl : Slice)
  /-- ROTATION_COUNTER_CLEAR (R531). ROTCTL.CLR zeroes ROTCNT0 and ROTCNT1. -/
  | rotationCounterClear
  /-- FAULT_RECORD_WRITE (R539). Every 200 ns, the keeper writes the next report as a log record and updates FAULT_N. -/
  | faultRecordWrite
  /-- KEEPER_MARK_READ (R546). KCMD 0x01 marks a log record read. -/
  | keeperMarkRead (karg : Word)
  /-- KEEPER_CLEAR_RECORD (R546). KCMD 0x02 clears a read log record. -/
  | keeperClearRecord (karg : Word)
  /-- KEEPER_FORCE_UPLINK_IDLE (R546). KCMD 0x03 turns the UT lanes off and empties the bridge. -/
  | keeperForceUplinkIdle (karg : Word)
  /-- KEEPER_RELEASE_UPLINK (R546). KCMD 0x04 lets the uplink leave OFF. -/
  | keeperReleaseUplink (karg : Word)
  /-- KEEPER_RESET_DOMAINS (R547). KCMD 0x05 resets the named power domains for 10 µs. -/
  | keeperResetDomains (karg : Word)
  /-- KEEPER_RESET_DEVICE (R546). KCMD 0x06 resets the whole device into BOOT. -/
  | keeperResetDevice (karg : Word)
  /-- KEEPER_ENTER_SAFE (R546). KCMD 0x07 requests SAFE. -/
  | keeperEnterSafe (karg : Word)
  /-- KEEPER_SET_PINMASK (R546). KCMD 0x08 sets the FAULT_N class mask. -/
  | keeperSetPinmask (karg : Word)
  /-- KEEPER_COMMAND_REFUSED (R546). A reserved KCMD code, a bad argument or a busy keeper sets KSTAT.ERR. -/
  | keeperCommandRefused (code : Byte) (karg : Word)
  /-- HEARTBEAT_WRITE (R548). Sirfiqua writes KPR.HB and HBAGE restarts. -/
  | heartbeatWrite (count : Word)
  /-- CPX_HEARTBEAT_LOST (R548). HBAGE exceeds HBLIM and the keeper acts by HBACT. -/
  | cpxHeartbeatLost
  /-- LOCKSTEP_MISMATCH (R549). A lockstep mismatch in a CPX pair holds that pair and, if active, enters SAFE. -/
  | lockstepMismatch (pairB : Bool)
  /-- GO (R554). CHCTL.GO starts a DMA channel on its descriptor after header checks. -/
  | dmaGo (ch : DmaCh)
  /-- ABORT (R570). CHCTL.ABORT stops a running channel after its current burst and writes back ABORTED. -/
  | dmaAbort (ch : DmaCh)
  /-- MOVE (R557). A DMA MOVE copies LEN bytes from SRC to DST. -/
  | dmaMove (ch : DmaCh)
  /-- DMA_BURST (R558). A burst of at most 256 bytes is read and written when bandwidth allows. -/
  | dmaBurst (ch : DmaCh)
  /-- DMA_LOOP (R560). A DMA LOOP runs its body COUNT times. -/
  | dmaLoop (ch : DmaCh)
  /-- NEST3 (R561). A DMA NEST3 runs its body over three nested counts, if permitted. -/
  | dmaNest3 (ch : DmaCh)
  /-- WAIT (R563). A DMA WAIT waits for a flag, port boundary, TSU time or delay. -/
  | dmaWait (ch : DmaCh)
  /-- DMA_WAIT_TIME (R563). The TSU time or delay of a WAIT is reached. -/
  | dmaWaitTime (ch : DmaCh)
  /-- DMA_WAIT_TIMEOUT (R563). TMO elapses before the WAIT ends and the channel stops with TIMEOUT. -/
  | dmaWaitTimeout (ch : DmaCh)
  /-- SIGNAL (R565). A DMA SIGNAL sets a flag or sends an interrupt message. -/
  | dmaSignal (ch : DmaCh)
  /-- END (R566). A DMA END writes back and starts the next chained descriptor. -/
  | dmaEnd (ch : DmaCh)
  /-- EVSET (R563). A write to EVSETn sets DMA event flags and serves waiting WAITs. -/
  | dmaEvset (n : Fin 2) (mask : Word)
  /-- EVCLR (R563). A write to EVCLRn clears DMA event flags. -/
  | dmaEvclr (n : Fin 2) (mask : Word)
  /-- DMA_COUNTER_CLEAR (R572). DMACTL.CLR zeroes DMACNT. -/
  | dmaCounterClear
  /-- CAN_FRAME_RECEIVE (R580). A CAN frame is received, timestamped, decoded for vehicle data and filtered for tunnelling. -/
  | canFrameReceive (ctrl : CanId) (time : BitVec 64) (id : Word) (dlc : Fin 16) (flags : BitVec 2) (data : List Byte)
  /-- CAN_TX_DONE (R577). A transmit attempt ends in success or abort and CAN_TXDONE is returned. -/
  | canTxDone (ctrl : CanId) (ok : Bool) (time : BitVec 64) (tec : BitVec 9) (rec_ : Byte)
  /-- CAN_TX_LIFETIME (R578). A frame stays at the head of the queue for TXLIFE and is aborted. -/
  | canTxLifetime (ctrl : CanId)
  /-- BUS_OFF_RECOVERY (R585). Bus-off recovery completes and the controller returns to error active. -/
  | busOffRecovery (ctrl : CanId)
  /-- CAN_CONFIG_APPLY (R575). At the next bus idle, a CAN_CONFIG takes effect and the queue is aborted. -/
  | canConfigApply (ctrl : CanId)
  /-- CAN_WAKE_DETECT (R589). In STANDBY, a wake condition on a CAN bus leaves STANDBY. -/
  | canWakeDetect (ctrl : CanId) (id : Word) (dlc : Fin 16) (data : List Byte)
  /-- CAN_COUNTER_CLEAR (R590). CTL.CLR zeroes CNT0 to CNT2. -/
  | canCounterClear (ctrl : CanId)
  /-- I2CA_POINTER_SET (R594). A management transaction sets the 48-bit pointer P. -/
  | i2caPointerSet (addr : BitVec 7) (bytes : List Byte)
  /-- I2CA_WRITE (R595). A management write is tested and performed at its STOP or repeated START. -/
  | i2caWrite (addr : BitVec 7) (p : BitVec 48) (data : List Byte)
  /-- I2CA_READ (R596). A management read fetches device bytes from P onward. -/
  | i2caRead (addr : BitVec 7) (n : Nat)
  /-- I2CA_WAKE_MATCH (R598). In STANDBY, a management address match holds SCL and wakes the device. -/
  | i2caWakeMatch (addr : BitVec 7)
  /-- I2CA_STRETCH_TIMEOUT (R599). SCL has been held for 25 ms; the transaction is discarded and the bus released. -/
  | i2caStretchTimeout (addr : BitVec 7)
  /-- KEEPER_OFFSET_SET (R597). A keeper transaction sets the 16-bit window offset. -/
  | keeperOffsetSet (kpr : Bool) (off : BitVec 16)
  /-- KEEPER_WRITE (R597). Bytes written to KARG and KCMD take effect at the end of the keeper write. -/
  | keeperWrite (kpr : Bool) (off : BitVec 16) (data : List Byte)
  /-- KEEPER_READ (R597). Bytes of the keeper window are read from the offset onward. -/
  | keeperRead (kpr : Bool) (n : Nat)
  /-- I2CA_COUNTER_CLEAR (R603). ISTAT.CLR zeroes ERRS and STRETCHTO. -/
  | i2caCounterClear
  /-- I2CB_GO (R600). CTL.GO starts an I2CB transaction. -/
  | i2cbGo (low : Bool) (freed : Bool)
  /-- I2CB_TRANSACTION_DONE (R600). An I2CB transaction ends and STAT.CODE is set. -/
  | i2cbTransactionDone (code : Fin 4) (ndone : BitVec 7) (data : List Byte) (freed : Bool)
  /-- I2CB_TIMEOUT (R600). A target holds SCL for 25 ms and the transaction ends with TIMEOUT. -/
  | i2cbTimeout (freed : Bool)
  /-- CLRSTUCK (R602). CTL.CLRSTUCK leaves STUCK and runs a bus clear. -/
  | clrstuck (freed : Bool)
  /-- I2CB_COUNTER_CLEAR (R604). CTL.CLR zeroes the I2CB counters. -/
  | i2cbCounterClear
  /-- SRAM_ECC_READ (R608). An SRAM read finds a corrected or uncorrectable word and acts on it. -/
  | sramEccRead (addr : BitVec 48) (double : Bool) (sid : Option (BitVec 12))
  /-- SRAM_SCRUB (R608). The scrubber reads the next SRAM word on its 1 s cycle. -/
  | sramScrub (addr : BitVec 48) (double : Bool)
  /-- LPDDR_ECC_READ (R615). An LPDDR transfer finds a link or inline ECC error and acts on it. -/
  | lpddrEccRead (addr : BitVec 48) (err : LpError) (by_ : LpUse)
  /-- LPDDR_PATROL_SCRUB (R615). The patrol scrubber reads the next filled LPDDR word on its 24 h cycle. -/
  | lpddrPatrolScrub (addr : BitVec 48) (double : Bool)
  /-- LPDDR_CHANNEL_FAIL (R615). A channel does not answer for 10 µs or exceeds the error rate; an F-class fault is raised. -/
  | lpddrChannelFail (channel : Fin 4)
  /-- ZERO_FILL_BLOCK (R613). The zero-fill pass fills the next block and raises the watermark. -/
  | zeroFillBlock
  /-- FILL_ON_WRITE (R614). The first write into an unfilled block fills the block first. -/
  | fillOnWrite (addr : BitVec 48)
  /-- ERRADDR_CLEAR (R625). A write of 1 to ERRADDRH.VALID frees the error address capture. -/
  | erraddrClear
  /-- MEMC_COUNTER_CLEAR (R625). CNTCLR.CLR zeroes SRCNT and every LCNTn. -/
  | memcCounterClear
  /-- SEC_SELF_TEST_FAIL (R633). A continuous health test fails; SEC stops answering and the device enters SAFE. -/
  | secSelfTestFail (test : Fin 4)
  /-- ROOT_PLL_UNLOCK (R641). The keeper detects an ECLK deviation or missing REFCLK and gates the clocks into SAFE. -/
  | rootPllUnlock
  /-- PLL_LOCK_RETRY (R641). Every 1 ms, the keeper retries root PLL lock. -/
  | pllLockRetry (locked : Bool)
  /-- SUPPLY_FAULT (R647). A rail stays outside its ±6 % window for 5 µs and an F-class fault is raised. -/
  | supplyFault (rail : Fin 8) (mv : BitVec 16)
  /-- THERMAL_CONVERSION (R648). Every 100 µs, a thermal sensor converts; three failures make it invalid. -/
  | thermalConversion (sensor : Fin 30) (reading : Option (BitVec 12))
  /-- THROTTLE_STEP_UP (R651). Tmax stays above the next threshold for 10 ms and the throttle step rises. -/
  | throttleStepUp
  /-- THROTTLE_STEP_DOWN (R651). Tmax stays below the leave threshold for 1 s and the throttle step falls. -/
  | throttleStepDown
  /-- CRITICAL_TEMPERATURE (R650). A sensor reads at least 120 °C for 1 ms and the device enters SAFE. -/
  | criticalTemperature (sensor : Fin 30)
  /-- SNAPSHOT_READ (R622). A read of a snapshot register latches its named words on that access path. -/
  | snapshotRead (path : Path) (reg : Word)
  /-- RCLR_READ (R624). A read of an RCLR field returns its value and clears it at the target. -/
  | rclrRead (path : Path) (reg : Word)
  /-- REGISTER_WRITE (R10). A write to a register with no row of its own is tested against owner and access codes and applied. -/
  | registerWrite (host : Option (BitVec 12)) (reg : Word) (value : Word)
  /-- KEEPER_POWER_UP (R645). VIO reaches 1.0 V: the keeper starts from power-up, drives FAULT_N low, and its log, shadow and K fields take their power-up values. -/
  | keeperPowerUp
  /-- KEEPER_POWER_LOSS (R643). VIO falls below 1.0 V and the keeper loses its log, time shadow, soft repairs and all K state. -/
  | keeperPowerLoss
  /-- RESET_N_ASSERT (R45). RESET_N is held low for at least 10 µs and the device is held in reset until release. -/
  | resetNAssert
  /-- RAIL_BACK_IN_WINDOW (R647). A rail that raised supply-fault has been back in its window for 1 ms and its episode ends. -/
  | railBackInWindow (rail : Fin 8) (mv : BitVec 16)
  /-- LANE_LOCK_TIMEOUT (R86). A group at its lowest rate does not achieve CDR lock and alignment within 200 µs plus three marker intervals, and the attempt fails to DETECT. -/
  | laneLockTimeout (link : Link) (back : Bool := false)
  /-- CAN_BUS_ERROR (R585). The controller detects a bus error while receiving, raising its error counters and possibly changing its error state. -/
  | canBusError (ctrl : CanId) (tec : BitVec 9) (rec_ : Byte)
  /-- TAP_LINE_AVAILABLE (R353). A line reaches the demosaic or scaler tap, posting TLINED or TLINES and starting its groups' due times. -/
  | tapLineAvailable (sl : Slice) (scaler : Bool) (fn : Word) (line : BitVec 13)
  /-- OUTPUT_LINE_READY (R297). An output or warp-source line leaves the slice pipeline; the first sends START, the last sends END and sets VALID in the warp buffer header. -/
  | outputLineReady (sl : Slice) (k : Fin 5)
  /-- NEW_PAIR_READY (R473). The new CPX pair reports ready; acceptance resumes, ACTPAIR toggles and UPD_CPX_SWITCH ends OK. -/
  | newPairReady
  /-- FINAL_RESPONSE (R436). The internal work of a long mailbox command ends (flash programming and readback, image or binary verification, BIST, fuse programming, export) and its final response is written. -/
  | finalResponse (ch : Chan) (opcode : BitVec 16) (tag : BitVec 16) (readback : List Byte) (results : List BistResult)
  deriving DecidableEq, Repr

end Sys2Proof
end

