-- ==== Sys2Proof/Machine/Bits.lean ====
section
/-!
DEFINITION. Bit fields, signed readings, saturation, byte order and rounding: the helpers every meaning uses
(spec/00_scope.md R5, R6, R685, and its fixed-point notation).
-/
namespace Sys2Proof.Machine

/-- The width of the field [hi:lo]. -/
def fieldWidth (hi lo : Nat) : Nat := hi + 1 - lo

/-- The value of bits [hi:lo] of a number (R5: bit 0 is the least significant, both ends included). -/
def bitsOf (w hi lo : Nat) : Nat := (w >>> lo) % 2 ^ fieldWidth hi lo

/-- The word with every bit of the field [hi:lo] set. -/
def fieldMask (hi lo : Nat) : Word := BitVec.ofNat 32 ((2 ^ fieldWidth hi lo - 1) <<< lo)

/-- The field [hi:lo] of a register word. -/
def getBits (w : Word) (hi lo : Nat) : Nat := bitsOf w.toNat hi lo

/-- The register word with its field [hi:lo] replaced by the low bits of `v`. -/
def putBits (w : Word) (hi lo v : Nat) : Word :=
  (w &&& ~~~ fieldMask hi lo) ||| (BitVec.ofNat 32 (v <<< lo) &&& fieldMask hi lo)

/-- Bit `i` of a number. -/
def bit (w i : Nat) : Bool := (w >>> i) % 2 == 1

/-- 1 or 0. -/
def b2n (b : Bool) : Nat := if b then 1 else 0

/-- A number with its bit `i` replaced. -/
def withBit (w i : Nat) (b : Bool) : Nat :=
  if bit w i == b then w else if b then w + 2 ^ i else w - 2 ^ i

/-- The two's complement reading of the low `n` bits (R5). -/
def signed (n w : Nat) : Int :=
  let v := w % 2 ^ n
  if 2 * v < 2 ^ n then (v : Int) else (v : Int) - (2 ^ n : Nat)

/-- An integer as `n` bits of two's complement. -/
def unsigned (n : Nat) (v : Int) : Nat := (v % ((2 ^ n : Nat) : Int)).toNat

/-- A saturating sum: the counters of every block saturate at their maximum. -/
def satAdd (width a b : Nat) : Nat := min (a + b) (2 ^ width - 1)

/-- An integer clamped to [lo, hi]. -/
def clamp (lo hi v : Int) : Int := if v < lo then lo else if v > hi then hi else v

/-- An integer clamped to [0, hi], as a number. -/
def clampN (hi : Nat) (v : Int) : Nat := (clamp 0 hi v).toNat

/-- The sum of a list of numbers. -/
def sumN (l : List Nat) : Nat := l.foldl (· + ·) 0

/-- Nearest integer to n / d for d > 0, halves toward +∞ (R685). -/
def roundDiv (n : Int) (d : Nat) : Int := (2 * n + d) / (2 * d : Nat)

/-- The least integer not below n / d. -/
def ceilDiv (n d : Nat) : Nat := (n + d - 1) / d

/-- The integer square root, rounded down, by Newton's steps bounded by `fuel`. -/
def isqrtGo : Nat → Nat → Nat → Nat
  | 0, _, x => x
  | fuel + 1, n, x =>
    let y := (x + n / x) / 2
    if y < x then isqrtGo fuel n y else x

/-- The integer square root, rounded down. -/
def isqrt (n : Nat) : Nat := if n = 0 then 0 else isqrtGo 128 n (2 ^ (n.log2 / 2 + 1))

/-- Insertion into a rising list of integers. -/
def insertSorted (v : Int) : List Int → List Int
  | [] => [v]
  | x :: r => if v ≤ x then v :: x :: r else x :: insertSorted v r

/-- A list of integers in rising order. -/
def sortInts : List Int → List Int
  | [] => []
  | x :: r => insertSorted x (sortInts r)

/-- The median of R685: the middle value, or the mean of the two middle values rounded toward −∞. -/
def median (l : List Int) : Int :=
  let s := sortInts l
  let n := s.length
  if n = 0 then 0
  else if n % 2 = 1 then s.getD (n / 2) 0
  else (s.getD (n / 2 - 1) 0 + s.getD (n / 2) 0) / 2

/-- The value of a list of bytes stored little-endian (R6). -/
def leNat : List Byte → Nat
  | [] => 0
  | b :: r => b.toNat + 256 * leNat r

/-- `n` bytes of a number, little-endian (R6). -/
def leBytes : Nat → Nat → List Byte
  | 0, _ => []
  | n + 1, v => BitVec.ofNat 8 v :: leBytes n (v / 256)

/-- `n` bytes at offset `off` of a byte list, missing bytes reading 0. -/
def bytesAt (l : List Byte) (off n : Nat) : List Byte :=
  (List.range n).map fun i => l.getD (off + i) 0

/-- The little-endian number of `n` bytes at offset `off`. -/
def fieldAt (l : List Byte) (off n : Nat) : Nat := leNat (bytesAt l off n)

/-- The bytes of a crumb, byte 0 in bits [7:0] (R397). -/
def crumbBytes (c : Crumb) : List Byte := leBytes 8 c.toNat

/-- The bytes of a list of crumbs in order. -/
def crumbsBytes (cs : List Crumb) : List Byte := cs.flatMap crumbBytes

/-- Byte lists packed eight to a crumb, the last padded with zeros (R397). -/
def packCrumbsGo : Nat → List Byte → List Crumb
  | 0, _ => []
  | k + 1, l => BitVec.ofNat 64 (leNat (l.take 8)) :: packCrumbsGo k (l.drop 8)

/-- The crumbs that hold a list of bytes (R397). -/
def packCrumbs (l : List Byte) : List Crumb := packCrumbsGo (ceilDiv l.length 8) l

end Sys2Proof.Machine
end

