-- ==== Sys2Proof/Machine/Crc.lean ====
section
/-!
DEFINITION. The two check sums of the manual: the CRC-8 of header crumbs and markers (spec/03_lanes.md R79,
spec/04_heads.md R106, spec/13_uplink.md R369) and the CRC-32 of IEEE 802.3 (R107, R112, R292 and others).
-/
namespace Sys2Proof.Machine

/-- One line bit shifted into the CRC-8 register (R79). -/
def crc8Step (reg : Nat) (d : Bool) : Nat :=
  let fb := xor (bit reg 7) d
  let r := reg * 2 % 256
  if fb then r ^^^ 7 else r

/-- The CRC-8 register after the bits of `w` from bit `i` on, `n` of them (R79). -/
def crc8Run : Nat → Nat → Nat → Nat → Nat
  | 0, reg, _, _ => reg
  | n + 1, reg, w, i => crc8Run n (crc8Step reg (bit w i)) w (i + 1)

/-- Bits of a byte in the opposite order: register bit 7 is placed in crumb bit 56 (R79). -/
def reverse8 (r : Nat) : Nat :=
  (List.range 8).foldl (fun a j => a + if bit r (7 - j) then 2 ^ j else 0) 0

/-- The CRC field, bits [63:56], of a crumb with the given bits [55:0] (R79). -/
def crc8 (w : Nat) : Nat := reverse8 (crc8Run 56 255 w 0)

/-- A crumb with its header CRC placed (R79). -/
def sealCrumb (w : Nat) : Crumb := BitVec.ofNat 64 (w % 2 ^ 56 + 2 ^ 56 * crc8 w)

/-- The CRC-8 check of a received crumb: the register over all 64 bits ends at 0 (R79). -/
def crc8Good (c : Crumb) : Bool := crc8Run 64 255 c.toNat 0 == 0

/-- One bit of the CRC-32 of IEEE 802.3, least significant bit first. -/
def crc32Shift : Nat → Nat → Nat
  | 0, r => r
  | n + 1, r => crc32Shift n (if r % 2 = 1 then (r / 2) ^^^ 0xEDB88320 else r / 2)

/-- The CRC-32 register after a list of bytes. -/
def crc32Run (reg : Nat) : List Byte → Nat
  | [] => reg
  | b :: r => crc32Run (crc32Shift 8 (reg ^^^ b.toNat)) r

/-- The CRC-32 of IEEE 802.3 of a list of bytes. -/
def crc32 (l : List Byte) : Nat := crc32Run 0xFFFFFFFF l ^^^ 0xFFFFFFFF

/-- The CRC-32 over crumbs in line order (R107, R368). -/
def crc32Crumbs (cs : List Crumb) : Nat := crc32 (crumbsBytes cs)

end Sys2Proof.Machine
end

