-- ==== Sys2Proof/Machine/Coef.lean ====
section
/-!
DEFINITION. The filter tables the manual gives by formula: Catmull-Rom weights (R252), the scaler's default tables (R288)
and the default tone table (R238, R246). Sines are taken in fixed point of 2^-60, so that every rounding to 1/4,096 is
that of the exact value.
-/
namespace Sys2Proof.Machine

/-- Index of the first entry of greatest magnitude. -/
def greatestAt (l : List Int) : Nat :=
  let m := (l.map Int.natAbs).foldl max 0
  l.findIdx fun v => v.natAbs == m

/-- A list of weights with the residual to `total` added to the weight of greatest magnitude, the lowest index on a tie
(R252, R288). -/
def settleSum (total : Int) (l : List Int) : List Int :=
  let i := greatestAt l
  l.set i (l.getD i 0 + (total - l.foldl (· + ·) 0))

/-- The Catmull-Rom kernel at n / 64 in units of 1/4,096, rounded half up (R252). -/
def catmullRaw (n : Nat) : Int :=
  let n : Int := n
  if n ≤ 64 then roundDiv (3 * n ^ 3 - 320 * n ^ 2 + 524288) 128
  else if n < 128 then roundDiv (-(n ^ 3) + 320 * n ^ 2 - 32768 * n + 1048576) 128
  else 0

/-- The four Catmull-Rom weights of phase φ / 64, for samples −1 to +2, summing to 4,096 (R252). -/
def catmull (phi : Nat) : List Int :=
  settleSum 4096 ([-64, 0, 64, 128].map fun m : Int => catmullRaw (m - phi).natAbs)

/-- 2^60, the unit of the fixed-point sine. -/
def fixOne : Int := 1152921504606846976

/-- π in units of 2^-60. -/
def fixPi : Int := 3622009729038561421

/-- π² in units of 2^-60. -/
def fixPi2 : Int := 11378879155978302162

/-- Taylor terms of the sine: argument, its square, running term and index, in units of 2^-60. -/
def sinTaylor : Nat → Int → Int → Int → Int
  | 0, _, _, _ => 0
  | fuel + 1, x2, term, k => term + sinTaylor fuel x2 (-(term * x2 / fixOne) / ((k + 1) * (k + 2))) (k + 2)

/-- sin(π × a / b) for 0 ≤ a / b ≤ 1 in units of 2^-60. -/
def sinPiUnit (a b : Int) : Int :=
  let a' := if 2 * a > b then b - a else a
  let x := fixPi * a' / b
  sinTaylor 20 (x * x / fixOne) x 1

/-- sin(π × a / b) in units of 2^-60. -/
def sinPi (a b : Int) : Int :=
  let r := a % (2 * b)
  if r ≤ b then sinPiUnit r b else -(sinPiUnit (r - b) b)

/-- L2(u) = sinc(u) × sinc(u / 2) for |u| = a / b below 2, in units of 2^-60 (R288). -/
def lanczos2 (a b : Int) : Int :=
  if a = 0 then fixOne
  else if a ≥ 2 * b ∨ a ≤ -(2 * b) then 0
  else 2 * b * b * sinPi a b * sinPi a (2 * b) / (fixPi2 * a * a)

/-- Raw weights normalised to 4,096, rounded to nearest, the residual settled (R288). -/
def normalise (raw : List Int) : List Int :=
  let t := raw.foldl (· + ·) 0
  settleSum 4096 (raw.map fun w => if t ≤ 0 then 0 else roundDiv (w * 4096) t.toNat)

/-- Default horizontal taps of phase φ for scale s = sn / sd (R288). -/
def defaultH (sn sd : Nat) (phi : Nat) : List Int :=
  normalise ([-3, -2, -1, 0, 1, 2, 3, 4].map fun m : Int => lanczos2 ((64 * m - phi) * sn) (64 * sd))

/-- Default vertical taps of phase φ for scale s = sn / sd: Catmull-Rom at s = 1, the tent max(0, 1 − s|t|) otherwise
(R288). -/
def defaultV (sn sd : Nat) (phi : Nat) : List Int :=
  if sn = sd then catmull phi
  else normalise ([-1, 0, 1, 2].map fun m : Int =>
    let v := 64 * (sd : Int) - sn * ((64 * m - phi).natAbs : Int)
    if v < 0 then 0 else v)

/-- Entry k of the default tone table: round(Xk × 65,535), halves up (R238, R246). -/
def toneDefault (k : Nat) : Nat :=
  let s := k / 32
  let m := k % 32
  if s = 0 then (roundDiv (m * 65535 : Nat) 4096).toNat
  else (roundDiv ((32 + m) * 2 ^ s * 65535 : Nat) 8192).toNat

end Sys2Proof.Machine
end

