-- ==== Sys2Proof/Config.lean ====
section
/-!
DEFINITION. What one CK9200 fixes and the manual does not compute: its ordering code (R1), its keys (R626), the standard
functions the manual names without defining (SHA-384, ECDSA P-384), and the free values. None of these has a body, so
no proof can rest on a value of them.
-/
namespace Sys2Proof

/-- The ordering code of the part: true for the ECK9200-32G, false for the ECK9200-16G (R1). -/
opaque Config.is32G : Bool

/-- The n-th free value: a value the spec leaves open where the machine goes on (log entry 1). -/
opaque Config.freeValue : Nat → BitVec 64

/-- SHA-384 of a byte string as a 384-bit number, byte 0 the least significant (R56, R627, R630; log entry 2). -/
opaque Config.sha384 : List Byte → Nat

/-- ECDSA P-384 verification of (r, s) by an uncompressed public key of 97 bytes over a digest (R628; log entry 2). -/
opaque Config.ecdsaVerify : List Byte → Nat → Nat → Nat → Bool

/-- The r and s of the identity key's signature over a digest (R626, R634; log entry 2). -/
opaque Config.identitySign : Nat → Nat × Nat

/-- IDPUB: the identity public key, 97 bytes uncompressed (R626). -/
opaque Config.idPub : List Byte

/-- The four vendor root public keys of the ROM, 97 bytes each (R626). -/
opaque Config.romRoot : Nat → List Byte

/-- The build number of a Sirfiqua core image (R664): what the running firmware writes to GLB.BUILD. -/
opaque Config.buildOf : List Byte → Nat

/-- How a result that the manual gives only to within a tolerance lies in it: n-th kind of result and its operand to a
number that each use clamps to its own tolerance (R194, R240; log entry 3). -/
opaque Config.slack : Nat → Int → Int

/-- The spatial filter's result where every weight and the centre weight are 0, so that R197 divides by 0 (log entry 3):
the centre sample to the result in 1/16 DN. -/
opaque Config.noWeight : Nat → Nat

/-- Seconds of TSU time that a time and date message of PGN 65254 gives from its eight data bytes: the manual names the
message and gives no decoding (R146, R583; log entry 61). -/
opaque Config.canSeconds : List Byte → Nat

/-- The unit code of a tested unit in the result of SVC_BIST, which the manual does not list (R525; log entry 86). -/
opaque Config.bistCode : BistUnit → BitVec 16

/-- PMIN and PMAX that a firmware image advertises to its partner: no field of its header holds them (R504, R505; log entry
87). -/
opaque Config.pairRange : List Byte → BitVec 16 × BitVec 16

end Sys2Proof
end

