-- ==== Sys2Proof/Machine/Store.lean ====
section
/-!
DEFINITION. A sparse table from numbers to values: what an unlisted key holds is given where the table is read.
Instances of the device that still hold their reset state are not listed.
-/
namespace Sys2Proof.Machine

/-- Pairs of a key and the value it holds. -/
abbrev Tbl (α : Type) := List (Nat × α)

/-- The value at key `k`, `d` where the table does not list it. -/
def Tbl.get {α : Type} (t : Tbl α) (k : Nat) (d : α) : α :=
  match t with
  | [] => d
  | (k', v) :: r => if k = k' then v else Tbl.get r k d

/-- The table with key `k` holding `v`. -/
def Tbl.set {α : Type} (t : Tbl α) (k : Nat) (v : α) : Tbl α :=
  match t with
  | [] => [(k, v)]
  | (k', v') :: r =>
    if k = k' then (k, v) :: r
    else if k < k' then (k, v) :: (k', v') :: r
    else (k', v') :: Tbl.set r k v

/-- Whether the table lists key `k`. -/
def Tbl.has {α : Type} (t : Tbl α) (k : Nat) : Bool := t.any fun e => e.1 == k

/-- The table without key `k`. -/
def Tbl.drop {α : Type} (t : Tbl α) (k : Nat) : Tbl α := t.filter fun e => e.1 != k

end Sys2Proof.Machine
end

