-- ==== Sys2Proof/Machine/Parts.lean ====
section
/-!
DEFINITION. The pieces of state the manual gives the device beside its registers, chapter by chapter, as plain
structures. A register's value lives in the register file of State; what stands here is what the manual names that no
register holds: queues, timers, histories, open frames, sets of the configuration, programs and buffers.
-/
namespace Sys2Proof.Machine

/-! ## Faults, the keeper and interrupts (spec/19_faults.md, spec/14_bridge.md) -/

/-- A report on its way to the fault log (R539). `count` is the number of reports coalesced in the queue. -/
structure FReport where
  code : Nat
  inst : Nat
  arg : Nat
  time : Nat
  tshadow : Bool
  count : Nat
  tlast : Nat
  deriving DecidableEq, Repr

/-- One written entry of the fault log (R534). -/
structure LogEntry where
  time : Nat
  code : Nat
  cls : Nat
  read : Bool
  cleared : Bool
  tshadow : Bool
  prevrun : Bool
  inst : Nat
  rep : Nat
  arg : Nat
  tlast : Nat
  rseq : Nat
  deriving DecidableEq, Repr

/-- The fault collector and the keeper's own storage beside its registers (R538 to R549). -/
structure Keeper where
  /-- The log: index to entry, unlisted entries never written (R538). -/
  log : Tbl LogEntry := []
  /-- C and U reports waiting, oldest first, at most 64 (R539). -/
  intake : List FReport := []
  /-- F reports waiting on their separate path, one per code and instance (R539). -/
  fpend : List FReport := []
  /-- The number of the next new record (R534). -/
  rseq : Nat := 0
  /-- The time shadow in ns (R145). -/
  shadow : Nat := 0
  /-- Device time of the last heartbeat write, for HBAGE (R548). -/
  hbTime : Nat := 0
  /-- A heartbeat-lost episode is open (R548). -/
  hbLost : Bool := false
  /-- Device time of the last heartbeat restart into SAFE, if any (R548). -/
  hbRestart : Option Nat := none
  /-- Log snapshot of each access path: the entry and its eight words (R545). -/
  logSnap : Tbl (Nat × List Word) := []
  /-- Window offset of each keeper two-wire path (R597). -/
  koff : Tbl Nat := []
  /-- Soft retirements, and soft row repairs: slice, spare row m of SRREPm, row (R523). -/
  retired : List Nat := []
  repairs : List (Nat × Nat × Nat) := []
  deriving DecidableEq, Repr

/-- A pending interrupt message (R413, R415). -/
structure IntMsg where
  src : Nat
  cause : Nat
  count : Nat
  arg : Nat
  time : Nat
  /-- What must have gone before the message may go: key and count entered before its event (R416). -/
  marks : List (Nat × Nat) := []
  deriving DecidableEq, Repr

/-! ## Modes, boot, clocks and security (spec/02_modes.md, spec/24_security.md, spec/25_clocks_power.md) -/

/-- The eight major modes (R33). -/
inductive Mode where
  | boot | safe | standby | prepare | run | paired | degraded | service
  deriving DecidableEq, Repr

/-- Where BOOT stands in the sequence of R62: nothing started, clocks running (step 3), straps latched (step 5),
Sirfiqua started (step 12), or BOOT over (step 13). -/
inductive BootStage where
  | idle | clocks | straps | sirfiqua | ended
  deriving DecidableEq, Repr

/-- A mode transition in progress that ends with MODE_TRANSITION_COMPLETE (R38, R39): its target, its cause and the
mailbox command that waits for its end, if one does. -/
structure Trans where
  target : Mode
  cause : Nat
  chan : Option Nat
  tag : Nat
  deriving DecidableEq, Repr

/-- What a verified boot image gives the running firmware (R56, R629, R631): slot, security version, revocation mask,
service key, kernel signer keys, and its body. -/
structure Image where
  slot : Nat
  svn : Nat
  revoke : Nat
  serviceKey : Option (List Byte)
  kernelKeys : List (List Byte)
  body : List Byte
  deriving DecidableEq, Repr

/-- The states of a CPX pair (R27, R63, R548, R549); halted by a poisoned word of its SRAM (R609). -/
inductive PairState where
  | reset | rom | standby | active | held | halted
  deriving DecidableEq, Repr

/-- Power, boot, transitions and the CPX (R39 to R69, R641 to R649). -/
structure Sys where
  /-- VIO is at or above 1.0 V: the keeper runs (R643). -/
  vio : Bool := true
  /-- PWRGOOD is high (R646). -/
  pwrgood : Bool := false
  /-- RESET_N is low (R39). -/
  resetLow : Bool := false
  /-- The keeper has gated the root-derived clocks after root-pll-unlock (R641). -/
  gated : Bool := false
  stage : BootStage := .idle
  /-- The straps are sampled in this BOOT: it follows PWRGOOD or RESET_N (R51). -/
  resample : Bool := true
  /-- Flash slots that have failed verification in this BOOT (R59): 0 A, 1 B. -/
  failed : List Nat := []
  /-- The BOOT watchdog in ms: 250, or 8000 after a slow load (R60). -/
  bootWdog : Nat := 250
  trans : Option Trans := none
  /-- A wake that arrived during entry to STANDBY, with its cause (R48). -/
  wake : Option Nat := none
  /-- The mode DEGRADED was entered from (R34). -/
  degradedFrom : Mode := .run
  pairA : PairState := .reset
  pairB : PairState := .reset
  /-- SEC answers no request after a failed self-test (R633). -/
  secDead : Bool := false
  image : Option Image := none
  /-- Rails that have raised supply-fault in an open episode (R647). -/
  railEp : List Nat := []
  /-- Consecutive failed conversions of each thermal sensor (R649). -/
  convFail : Tbl Nat := []
  /-- From when on Tmax has stayed at or above the entry threshold of step k + 1, and below the leave threshold of step k; and each
  sensor at or above 120.0 °C (R650, R651). -/
  hotAt : Tbl Nat := []
  coolAt : Tbl Nat := []
  critAt : Tbl Nat := []
  /-- The TAP instruction in force (R680), the latches of the boundary register (all 0 before the first scan), what the last scan gave at TDO, first bit first
  (R681), and whether the lanes stay off since a test instruction (R105). -/
  tap : Tap := .bypass
  cells : List Bool := []
  scanOut : List Bool := []
  lanesHeld : Bool := false
  /-- Levels of outputs that events move: PPS_OUT (R152), and SYNC pins by number (R159). -/
  ppsOut : Bool := false
  syncOut : Tbl Bool := []
  /-- The content last programmed into each flash slot by this device (R455). -/
  flash : Tbl (List Byte) := []
  deriving DecidableEq, Repr

/-- The fuses SVC_FUSE programs (R524, R626, R631). -/
structure Fuses where
  rootRev : Nat := 0
  fwSvn : Nat := 0
  kbSvn : Nat := 0
  /-- Slices retired by fuse (R524). -/
  retired : List Nat := []
  /-- Repairs fused: (slice, spare row index m of SRREPm, row) (R524, R532). -/
  repairs : List (Nat × Nat × Nat) := []
  deriving DecidableEq, Repr

/-- The volatile items of SEC (R634, R635). -/
structure Sec where
  /-- The service nonce held: value, issue time and channel. -/
  nonce : Option (Nat × Nat × Nat) := none
  /-- The r part taken by SVC_AUTH_R, with its channel. -/
  sigR : Option (Nat × Nat) := none
  /-- Expiry of the service grant held (R634). -/
  grant : Option Nat := none
  deriving DecidableEq, Repr

/-! ## Serial lanes (spec/03_lanes.md) -/

/-- One receive lane beside its counters (R74, R75, R80, R94). -/
structure Lane where
  /-- Descrambler state, and whether the first crumb after lock is still to be discarded (R74, R75). -/
  descr : Nat := 0
  first : Bool := true
  /-- Consecutive bad markers at their expected positions (R80). -/
  misses : Nat := 0
  /-- SEQ at the last marker position, if a good marker was received since lock; a bad marker counts it on (R80). -/
  seq : Option Nat := none
  /-- The lane number its markers carry (R80). -/
  mapped : Option Nat := none
  /-- The lane has failed and is reported in RSREQ (R95). -/
  failed : Bool := false
  deriving DecidableEq, Repr

/-- One transmit lane (R74 to R76): scrambler state, all ones on entering training, and the stuffer's last bit and run. -/
structure TxLane where
  scr : Nat := 2 ^ 58 - 1
  last : Bool := false
  run : Nat := 0
  deriving DecidableEq, Repr

/-- What the last good training frame of the far end said beside its capability word (R83). -/
structure FarFrame where
  lane : Nat := 0
  tseq : Nat := 0
  state : Nat := 0
  cur : Nat := 0
  req : Nat := 0
  cmd : Nat := 0
  rxok : Nat := 0
  deriving DecidableEq, Repr

/-- One link beside its registers (R73 to R99). The active lanes are LKACT and ACTRX. For a head port the fields beginning
with b are the back-channel group's, which steps alone (R71, R89). -/
structure LinkSt where
  /-- Consecutive failed attempts (R92), whether lane-train-fail is reported, and the 10 ms before the next attempt. -/
  attempts : Nat := 0
  failRep : Bool := false
  retry : Bool := false
  /-- MAXRATE and BMAXRATE as this bring-up took them (R100). -/
  max : Nat := 0
  bmax : Nat := 0
  /-- Capability word received (R84); none before it. `wrong`: its KIND does not pair. -/
  cap : Option Nat := none
  wrong : Bool := false
  /-- The last good training frame received (R83). -/
  far : FarFrame := {}
  /-- The dwell at the current rate has passed; a step is asked for; stepping has ended by STEP_NAK; the link is falling
  back, and in FALLBACK the rate index it locks at next (R85, R88, R90, R91). -/
  dwelt : Bool := false
  stepReq : Bool := false
  stop : Bool := false
  falling : Bool := false
  fallTo : Nat := 0
  bstate : Nat := 0
  bdwelt : Bool := false
  bstepReq : Bool := false
  bstop : Bool := false
  bfalling : Bool := false
  /-- SEQ of the interval whose markers are arriving (R81). -/
  gseq : Option Nat := none
  /-- Sets that follow the hold in progress: receive and transmit lanes, and whether the rate doubles (R95, R96). -/
  newRx : Option Nat := none
  newTx : Option Nat := none
  doubles : Bool := false
  /-- The transmit set that RSNEXT names at the next marker (R95, R98). -/
  txNext : Option Nat := none
  /-- Failed lanes of the reverse group asked for in RSREQ, oldest first, waiting for RSNEXT (R95, R97). -/
  rsreq : List Nat := []
  /-- The quad being retrained, if one is (R98). -/
  quad : Option Nat := none
  lanes : Tbl Lane := []
  /-- Transmit lanes, SEQ of the next marker sent, group crumbs since the last, and the count of training frames (R73, R79,
  R83). -/
  tx : Tbl TxLane := []
  txSeq : Nat := 0
  txPos : Nat := 0
  tseq : Nat := 0
  deriving DecidableEq, Repr

/-! ## Heads and ports (spec/04_heads.md) -/

/-- Who waits for the answer of a back-channel command (R117, R118). -/
inductive Origin where
  /-- Read k of the descriptor at enumeration, and whether it is the retry (R125). -/
  | descriptor (k : Nat) (retry : Bool)
  /-- The second read of the wear region at enumeration (R132). -/
  | wearReread
  /-- AUTH_CHAL with its nonce, and whether it is a repeat (R126, R128). -/
  | auth (nonce : Nat) (again : Bool)
  /-- A bridge read into the delayed-read buffer of tag, address and count (R407). -/
  | bridgeRead (tag addr n : Nat)
  /-- A posted write of the bridge (R403). -/
  | bridgeWrite (tag addr : Nat)
  /-- A step of a locked sequence: 0 LREAD, 1 LWRITE (R410). -/
  | locked (step tag addr n : Nat)
  /-- A head tunnel request: SID, TTYPE of the answer, TTAG and its 8-byte item head (R419). -/
  | tunnel (sid ttype ttag : Nat) (head : List Byte)
  /-- SRD or SWR of the engine of a slice: result address and width (R349). -/
  | engine (slice addr : Nat) (rd : Bool)
  /-- A TRIGGER of a group for target T and frame number FN (R157). -/
  | trigger (group target fn : Nat)
  /-- A TSYNC exchange sent at T1 (R153). -/
  | tsync (t1 : Nat)
  /-- HEAD_POLL of a mailbox channel and tag (R447). -/
  | poll (chan tag : Nat)
  /-- A wear write (R130). -/
  | wear
  /-- A block or the commit of a firmware transfer (R135). -/
  | firmware
  /-- MASTER claim (R121). -/
  | master
  /-- Entry k of the sensor initialisation list (R139). -/
  | initList (k : Nat)
  /-- The SENSOR entry of a sequence number in the parameter queue (R325). -/
  | queue (seq : Nat)
  /-- Write k of a poll of the bridge or another internal command with no waiting party. -/
  | internal
  deriving DecidableEq, Repr

/-- One back-channel command (R115): type, type fields, payload bytes, class of R117 and originator. -/
structure BcCmd where
  btype : Nat
  fields : Nat
  payload : List Byte
  cls : Nat
  origin : Origin
  deriving DecidableEq, Repr

/-- A command outstanding on a port: TAG, the command and the device time it was sent (R117, R118). -/
structure BcOut where
  tag : Nat
  cmd : BcCmd
  sent : Nat
  deriving DecidableEq, Repr

/-- One accepted TSYNC exchange: T1, offset in 2^-16 ns, and rtt (R153). -/
structure Tsync where
  t1 : Nat
  offset : Int
  rtt : Int
  accepted : Bool
  deriving DecidableEq, Repr

/-- A head port and its head (R113 to R139). -/
structure PortSt where
  /-- Commands waiting, in order of issue (R117). -/
  queue : List BcCmd := []
  out : List BcOut := []
  nextTag : Nat := 0
  /-- Bytes of the descriptor read so far (R125). -/
  desc : List Byte := []
  /-- The last wear region taken or written (R129). -/
  wear : List Byte := []
  /-- Minutes in STREAMING since the last wear write (R130). -/
  minutes : Nat := 0
  /-- Extremes of TEMP for thermal cycles: lowest since the last fall, and highest since the last rise (R131). -/
  tlow : Option Int := none
  thigh : Option Int := none
  armed : Bool := true
  /-- SENSERR of the last STATUS, for its rise (R113). -/
  senserr : Bool := false
  /-- S values of the running hour and the hourly medians, newest first (R134). -/
  sharp : List Int := []
  hours : List Int := []
  /-- SERIAL of the head that they belong to. -/
  sharpOf : List Byte := []
  /-- Mastership epoch known (R121, R122), and the device time at which the head last answered a claim of this device with its
  epoch (R158). -/
  mepoch : Nat := 0
  masterAt : Option Nat := none
  /-- TSYNC exchanges, newest first (R153), the offset and rate in use, and Tref. -/
  tsync : List Tsync := []
  offset : Int := 0
  /-- Rate as a fraction (difference of offsets, difference of T1). -/
  rate : Int × Nat := (0, 1)
  tref : Nat := 0
  /-- Time of the last accepted exchange or of the entry to ENUMERATING; stale episode open (R154). -/
  tsyncAt : Nat := 0
  stale : Bool := false
  /-- TSYNC exchanges still to send during ENUMERATING (R154). -/
  enumTsync : Nat := 0
  /-- The port trains after HELD or UPDATING (R137). -/
  fromHeld : Bool := false
  /-- The head was admitted without passing authentication (R127). -/
  unauth : Bool := false
  /-- The head failed the comparison with the expected head (R139). -/
  mismatch : Bool := false
  /-- TRIGGERs sent, not missed, whose frames have not opened: target and frame number, oldest first (R157). -/
  trigs : List (Nat × Nat) := []
  /-- Thermal cycles counted, and fields of the wear region changed, since the last write (R130, R131, R134). -/
  cycles : Nat := 0
  wearPend : List (Nat × Nat × Nat) := []
  /-- The port enters REFUSED, or UPDATING, at its next frame boundary (R128, R136). -/
  refuseNext : Bool := false
  updateNext : Bool := false
  /-- The partner was named as master: this device stops serving the camera (R500). -/
  deposed : Bool := false
  /-- The firmware transfer: the image, the next block to send, and 0 or 1 for the commit that follows, 2 for none (R135). -/
  fw : Option (List Byte × Nat × Nat) := none
  /-- A new PCTL value waits for the next frame boundary (R141). -/
  pctlNext : Option Nat := none
  /-- Entries of the initialisation list not yet acknowledged, and whether the list of the next attach has been queued (R139). -/
  initLeft : Nat := 0
  inited : Bool := false
  deriving DecidableEq, Repr

/-- One ledger entry (R133). -/
structure LedgerEntry where
  serial : List Byte
  model : List Byte
  port : Nat
  firstSeen : Nat
  lastSeen : Nat
  auth : Nat
  wear : List Byte
  attached : Bool
  deriving DecidableEq, Repr

/-! ## Time (spec/05_time.md) -/

/-- A pending time change of the TSU (R149, R151). -/
inductive TimeChange where
  /-- Step by -e at the next valid edge. -/
  | jump (e : Int)
  /-- Set whole seconds at the next valid edge, for a mailbox channel, opcode and tag. -/
  | set (sec : Nat) (chan opcode tag : Nat)
  deriving DecidableEq, Repr

/-- The TSU beside its registers (R143 to R160). -/
structure Tsu where
  /-- TSU.NOW with its 28-bit fraction, in 2^-28 ns (R143). -/
  now : Nat := 0
  running : Bool := false
  /-- integ of the discipline loop, in ppb (R148). -/
  integ : Int := 0
  /-- adj of the last run of the loop, in ppb, or integ in HOLDOVER: what INC is set from (R148). -/
  adj : Int := 0
  /-- TSU time of the last valid edge (R147), and of the last accepted one (R146). -/
  lastEdge : Option Nat := none
  accepted : Option Nat := none
  /-- Errors of the run of consecutive outliers, newest first (R149). -/
  outliers : List Int := []
  /-- Edges with |e| <= 20 ns in a row (R146). -/
  good : Nat := 0
  /-- Offset still to be absorbed by the slew in progress, in ns (R149). -/
  slew : Int := 0
  change : Option TimeChange := none
  /-- A jump held for TIME_STEP (R149). -/
  held : Option Int := none
  /-- TSU time at entry to HOLDOVER (R148). -/
  holdAt : Nat := 0
  /-- Capture FIFO of each SYNC pin, oldest first: time and falling edge (R160), last capture, overflow episode. -/
  caps : Tbl (List (Nat × Bool)) := []
  capLast : Tbl Nat := []
  capOvf : Tbl Bool := []
  /-- Sum of steps applied since TSU start: shift of every trigger target (R151). -/
  shift : Int := 0
  /-- First target at or after which triggering of a port begins (R157). -/
  trigFrom : Tbl Nat := []
  /-- pps-lost is raised in the present HOLDOVER (R150). -/
  lostRep : Bool := false
  /-- TSU time at which the pulse of each SYNC output ends, by pin (R159, R160). -/
  syncEnd : Tbl Nat := []
  deriving DecidableEq, Repr

/-! ## Memory (spec/23_memory.md) -/

/-- Memory beside its bytes: poisoned 64-bit words, the zero-fill watermark's filled blocks, reservations (R613 to
R618). -/
structure MemX where
  /-- Addresses of poisoned words, each a multiple of 8 (R616). -/
  poison : List Nat := []
  /-- 64 KiB blocks above the watermark filled by a write (R614). -/
  filled : List Nat := []
  /-- The times of the uncorrectable transfers of each channel in the last millisecond (R615). -/
  errs : Tbl (List Nat) := []
  /-- Places of the pool buffers: object key to base and size (R618). -/
  place : Tbl (Nat × Nat) := []
  deriving DecidableEq, Repr

/-! ## Configuration sets (spec/16_config_sets.md) -/

/-- A configuration set: key kind * 2^32 + inst * 2^16 + field to the bytes loaded; a field not listed takes its default
(R461). -/
abbrev CfgSet := Tbl (List Byte)

/-- The pending flip (R467 to R471). -/
structure Flip where
  chan : Nat
  tag : Nat
  /-- Epoch in TSU time once known; the pace port until then. -/
  epoch : Option Nat
  pace : Option Nat
  admitted : Nat
  reached : Bool
  /-- Ports still to switch and ports switched. -/
  todo : List Nat
  done : List Nat
  /-- Cameras with a new PROGID and the spare reserved for each (R471). -/
  moves : List (Nat × Nat)
  /-- First camera whose load failed twice (R471). -/
  failed : Option Nat
  /-- Proposed by the partner (R502). -/
  remote : Bool
  /-- This device waits for the partner's answer, its epoch or its TDONE (R502, R503). -/
  wait : Nat
  tdone : Nat
  /-- Number of the FLIP_PROPOSE sent (R485), the generation a partner proposed, and the partner's TDONE (R503). -/
  num : Nat := 0
  gen : Nat := 0
  peer : Nat := 0
  /-- Admitted in DEGRADED (R529). -/
  degraded : Bool := false
  deriving DecidableEq, Repr

/-- Configuration state beside the registers of R475. -/
structure Cfg where
  active : CfgSet := []
  shadow : CfgSet := []
  flip : Option Flip := none
  /-- Ports whose cameras run under the shadow set during SWITCHING (R468). -/
  switched : List Nat := []
  /-- Cameras whose program could not be loaded in a flip: the generation and the set they stay under (R471). -/
  kept : Tbl (Nat × CfgSet) := []
  /-- Buffers kept until the last frame of their object under the old set has left: buffer key to address and size (R466). -/
  old : Tbl (Nat × Nat) := []
  /-- Bandwidth still reserved for objects under the old set, in bytes per second: KIND × 65,536 + INST to it (R466). -/
  oldBw : Tbl Nat := []
  /-- Placements that an admitted flip reserves: buffer key to address and size (R466, R618). -/
  next : Tbl (Nat × Nat) := []
  deriving DecidableEq, Repr

end Sys2Proof.Machine
end

