-- ==== Sys2Proof/Machine/PathParts.lean ====
section
/-!
DEFINITION. What the pixel path and the uplink hold beside registers: frames in an ingest and in a slice, the camera
state record, the streams of a port or lattice, the egress FIFOs and the link layer of Zorip-U, as plain structures.
-/
namespace Sys2Proof.Machine

/-! ## Frames (spec/06_ingest.md) -/

/-- What the ingest holds of one line of a frame: the accepted pixels of the single or L burst and of the S burst, and
the fill states that failed bursts took (R163, R165, R183). -/
structure Line where
  l : Option (List Nat) := none
  s : Option (List Nat) := none
  lfail : Option Nat := none
  sfail : Option Nat := none
  /-- A burst of the line stopped waiting and is merged alone (R175). -/
  alone : Bool := false
  deriving DecidableEq, Repr

/-- The temporal noise reduction of one frame: warm-up count, cause of the last loss, motion used (R199, R202). -/
structure TnrUse where
  n : Nat := 0
  cause : Nat := 0
  motx : Int := 0
  moty : Int := 0
  src : Nat := 3
  late : Bool := false
  /-- ΔT of the frame, and of the frame before it; 0 where there is none (R200, R202). -/
  dt : Int := 0
  dtWas : Int := 0
  /-- Valid block bits and block residuals (R204). -/
  valid : List Nat := []
  resid : Tbl (Int × Int) := []
  deriving DecidableEq, Repr

/-- A frame from its boundary to the last output it owes (R162 to R185, R292). -/
structure Frame where
  fn : Nat
  hf : Nat
  skip : Nat
  /-- INTEG without CLOSE (R182). -/
  flags : Nat
  gen : Nat
  width : Nat
  height : Nat
  dt : Nat
  hdr : Bool
  stagger : Nat
  fillMode : Bool
  fillV : Nat
  /-- TSU arrival of the FRAME_START header (R162). -/
  arrival : Nat
  tfirst : Nat
  /-- Line time in 2^-8 ns (R111). -/
  linet : Nat
  expl : Nat
  exps : Nat
  nlines : Nat
  timeEst : Bool
  /-- K12 of the merge (R177). -/
  k12 : Nat
  lines : Tbl Line := []
  lastL : Option Nat := none
  lastS : Option Nat := none
  lcount : Nat := 0
  scount : Nat := 0
  /-- Trailer CRCs received, newest first (R170). -/
  crcs : List Nat := []
  ovf : Bool := false
  /-- Shift added to the frame watchdog by time steps (R168). -/
  wdShift : Int := 0
  closed : Bool := false
  close : Nat := 0
  vlines : Nat := 0
  nfill : Nat := 0
  nsingle : Nat := 0
  tclose : Nat := 0
  /-- The slice that processes the frame; none for a port with no slice (R187). -/
  slice : Option Nat := none
  /-- Bits of R294 known so far. -/
  sflags : Nat := 0
  /-- The camera's and its streams' fields of the set that governs the frame (R24). -/
  set : CfgSet := []
  /-- Why the slice does not process the frame: 0 it does, else the SFLAGS bit number (R298). -/
  skipWhy : Nat := 0
  /-- PIPE fields latched for the frame (R324). -/
  pipe : Tbl Nat := []
  latched : List Nat := []
  qappl : Nat := 0
  qlate : Nat := 0
  tnr : TnrUse := {}
  /-- Next line to leave of each output 0 to 3 and of the warp source, 4 (R297). -/
  next : Tbl Nat := []
  /-- Outputs whose frame has ended or been abandoned. -/
  ended : List Nat := []
  statsDone : Bool := false
  /-- Warp source buffer the frame writes and the frame number whose warp source it samples (R249). -/
  warpLate : Bool := false
  /-- Samples a kernel returned at a tap: (8 × tap + plane) × 65,536 + line to the line's samples so far (R347, R357). -/
  taps : Tbl (List Nat) := []
  /-- Calibration read poisoned for the frame: 0 shading, 1 defect map, 2 tone, 3 coefficients, 4 warp mesh (R244, R257). -/
  bypass : List Nat := []
  /-- Temporal reference read for the frame: buffer address, exposure ratio in U4.12; none where there is none (R207,
  R210). -/
  ref : Option (Nat × Nat) := none
  /-- Buffer address the frame writes as its reference, and its warp source buffer (R207, R249). -/
  refOut : Option Nat := none
  /-- Planes that the camera's warped outputs and its lattice need of the frame, as WPLANES (R247). -/
  planes : Nat := 0
  warpBuf : Option Nat := none
  /-- FSEQ that each output's START took (R296). -/
  fseqs : Tbl Nat := []
  /-- The slice had begun the frame and it is lost with it, so that its NOTICE carries DROPPED (R182, R520). -/
  lost : Bool := false
  /-- Crumbs 1 to 3 of FRAME_START (R494). -/
  fstart : List Crumb := []
  /-- The frame goes to the reserve ring (R494). -/
  ring : Bool := false
  /-- Outputs that account for the frame by a NOTICE in its place, and the SFLAGS bit that says why: 13 STOREFULL (R298,
  R390). -/
  quit : Tbl Nat := []
  /-- The frame is replayed from the reserve ring (R496). -/
  replay : Bool := false
  /-- Reference and warp source words that a failed link retry delivered poisoned to the frame (R211, R257, R615). -/
  badReads : List Nat := []
  /-- SERIAL of the head at the frame boundary (R292). -/
  serial : List Byte := []
  deriving DecidableEq, Repr

/-- The ingest of a port beside its registers (R162 to R180). -/
structure Ingest where
  frame : Option Frame := none
  /-- Baseline and last counter of the FN extension (R172). -/
  baseline : Bool := false
  lastH : Nat := 0
  lastFN : Nat := 0
  fnNext : Nat := 0
  /-- HFCNT of the last closed frame (R165). -/
  lastClosed : Option Nat := none
  /-- A packet was discarded since the last frame closed (R169). -/
  orphans : Bool := false
  /-- TSU time of the last frame boundary (R14). -/
  boundary : Nat := 0
  /-- (arrival - t(0)) of the last 16 frames without TIME-EST, newest first (R174). -/
  lag : List Int := []
  /-- Previous frame: t(0) and TIME-EST (R174). -/
  prev : Option (Nat × Bool) := none
  /-- A LINE packet cut short on the line: line, exposure and last crumb time (R168). -/
  openLine : Option (Nat × Nat × Nat) := none
  /-- NLINES, LINET and EXPL of the last FRAME_START, if the port has had one (R159). -/
  lastStart : Option (Nat × Nat × Nat) := none
  deriving DecidableEq, Repr

/-! ## The camera state record (R21, spec/11_stats_params.md) -/

/-- One entry of the parameter queue (R323) with its issue number, its first target and DISPATCHED mark (R331). -/
structure PqEntry where
  tfn : Nat
  kind : Nat
  lsel : Nat
  len : Nat
  grp : Nat
  gend : Bool
  addr : Nat
  data : Nat
  seq : Nat
  sent : Bool := false
  deriving DecidableEq, Repr

/-- A camera: what its state record holds and what its serving slice keeps for it from frame to frame (R21, R200 to
R205, R322 to R331). -/
structure Cam where
  queue : List PqEntry := []
  seq : Nat := 0
  /-- Groups closed and groups moved before they closed: ID and original target, with the present target (R327). -/
  closed : List (Nat × Nat) := []
  moved : List (Nat × Nat × Nat) := []
  /-- Held values (R324). -/
  gain : Option Nat := none
  expns : Option Nat := none
  hgain : Option Nat := none
  /-- Entries applied to a frame before it opened: FN to count (R157, R324). -/
  early : Tbl Nat := []
  /-- Entries moved away from a frame not yet measured: FN to count (R328). -/
  late : Tbl Nat := []
  /-- Warm-up count, cause of the last loss and the motion history of R202. -/
  warm : Nat := 0
  cause : Nat := 0
  /-- Causes 1 to 4 of R200 that apply at the next frame boundary, as bits. -/
  losses : Nat := 0
  /-- Last motion used: MOTX, MOTY and the boundary time of that frame (R202). -/
  motion : Option (Int × Int) := none
  /-- ΔT of the last frame, and the steps of the time scale since its start (R200, R202). -/
  dt : Int := 0
  stepD : Int := 0
  /-- Bias b, and rmed of the latest frame matched with at least 8 valid blocks (R205). -/
  bias : Int × Int := (0, 0)
  rmed : Option (Int × Int) := none
  /-- The buffer that holds the newest reference and the frame that wrote it; which of the two it is (R207, R213). -/
  refBuf : Option (Nat × Nat) := none
  refSel : Nat := 0
  /-- Step 8 ran on the last frame, and WIDTH, HEIGHT, CFA, DT and HDR of it (R200). -/
  tnrRan : Bool := false
  geo : List Nat := []
  /-- Warp source buffers: base address to the frame that each holds; the buffer the next frame takes (R249). -/
  warps : Tbl Frame := []
  warpNext : Nat := 0
  /-- Persistence area and PERSVER of the engine program that wrote it (R364). -/
  persist : List Byte := []
  persVer : Nat := 0
  /-- TSU times of the engine traps under the running program, and the default program kept after three (R359). -/
  traps : List Nat := []
  fallback : Bool := false
  /-- Throttle mark: 0 none, 1 HALVED, 2 WITHHELD; parity of the next frame of a halved camera (R652). -/
  mark : Nat := 0
  odd : Bool := false
  /-- PROGID running, and the slice move due at the next boundary: destination and reason (R333, R518). -/
  move : Option (Nat × Nat) := none
  /-- Loads of the move that have failed, whether its destination is loaded, and the FN of its boundary once LEAVE has
  named it (R364, R365). -/
  moveTry : Nat := 0
  moveReady : Bool := false
  moveAt : Option Nat := none
  /-- Reason of a planned move whose spare a takeover has claimed: it takes another at the next boundary (R25). -/
  moveLost : Option Nat := none
  /-- Device time before which the slice that a migration brought makes no sensor dispatch (R333). -/
  dispatchFrom : Nat := 0
  /-- The camera is dropped in DEGRADED (R526). -/
  dropped : Bool := false
  /-- What R526 decided for the camera's next frame boundary: a slice, or 255 to drop it. -/
  plan : Option Nat := none
  /-- An immediate repair: the earliest boundary time of its move (R520). -/
  repairAt : Option Nat := none
  /-- Frames in the slice pipelines, newest first. -/
  frames : List Frame := []
  /-- First frame after a time step is still to open (R294). -/
  timeStep : Bool := false
  deriving DecidableEq, Repr

/-! ## Streams (spec/10_outputs.md) -/

/-- What an egress unit is (R371, R392). -/
inductive Role where
  | start | line | fend | notice | status | fmt | telem | stats
  deriving DecidableEq, Repr

/-- One unit in a stream FIFO: its role, the frame and FSEQ it belongs to, its bytes and how many of its crumbs have gone
(R371). -/
structure EgUnit where
  role : Role
  fn : Nat
  fseq : Nat
  bytes : List Byte
  gone : Nat := 0
  deriving DecidableEq, Repr

/-- A stream (R279 to R303): whether it is open, its counters, its format in force, its frame store and the conditions of
R299 that hold on it. -/
structure StreamSt where
  opened : Bool := false
  /-- FSEQ of the next item and TSEQ of the next record (R296, R301). -/
  fseq : Nat := 0
  /-- FN of the last END or NOTICE (R299, R305). -/
  lastFn : Nat := 0
  /-- Format in force: FMT, DW, DH, CROP0, CROP1, warp size and WARP_EN (R303). -/
  fmt : List Nat := []
  fmtFirst : Bool := false
  /-- Frame abandoned in the egress (R389). -/
  abandoned : Option Nat := none
  /-- Units of the frame being stored, and stored frames not yet in the FIFO (R297, R298). -/
  storing : Option (Nat × List EgUnit) := none
  stored : List (List EgUnit) := []
  /-- STATUS reasons that hold, the reason last sent or due, and the items due after the frame of a number (R299). -/
  reasons : List Nat := []
  shown : Option Nat := none
  due : List (Nat × Nat) := []
  /-- The stream's frames are replaced by NOTICE by shedding (R390). -/
  shed : Bool := false
  /-- Frames whose START has left and whose END is not acknowledged: FN and FSEQ (R392). -/
  live : List (Nat × Nat) := []
  /-- The stream closes once its last frame is accounted for (R303, R481). -/
  closing : Bool := false
  /-- It closes with no FORMAT_CHANGE: its camera has gone to the partner (R304). -/
  silent : Bool := false
  /-- Streams taken or handed over: the cause of the FORMAT_CHANGE that its next frame brings, 3 or 4 (R304). -/
  taken : Option Nat := none
  /-- A lattice stream whose first frame after a time step is still to come (R151, R294). -/
  timeStep : Bool := false
  deriving DecidableEq, Repr

/-! ## The uplink (spec/13_uplink.md) -/

/-- A packet without its sequence number (R368, R369). -/
structure Pkt where
  kind : Nat
  tc : Nat
  id : Nat
  seg : Nat := 3
  kspec : Nat := 0
  payload : List Crumb
  deriving DecidableEq, Repr

/-- The link layer of the peer link (R483): it has the state of the uplink's, without registers that show it. -/
structure PeerLl where
  /-- INIT sent and received, and the link layer up (R382). -/
  initSent : Bool := false
  initGot : Bool := false
  up : Bool := false
  /-- The receiver is in NAK state (R375). -/
  nakWait : Bool := false
  /-- Next LSEQ sent, last LSEQ acknowledged, next LSEQ expected (R374, R375, R376). -/
  txNext : Nat := 0
  txAck : Nat := 0xFFFF
  rxNext : Nat := 0
  /-- Limit and blocks consumed of each class, as a transmitter and as a receiver (R379). -/
  txcl : Tbl Nat := []
  txcc : Tbl Nat := []
  rxcl : Tbl Nat := []
  rxcc : Tbl Nat := []
  /-- Classes whose first limit is below their least (R483). -/
  closed : List Nat := []
  /-- Replay buffer, oldest first, with LSEQ; packets that wait for credit or the link layer (R374, R379). -/
  replay : List (Nat × Pkt) := []
  wait : List Pkt := []
  /-- Time of the last replay start and of the last acknowledgement progress (R377). -/
  replayAt : Option Nat := none
  ackAt : Nat := 0
  deriving DecidableEq, Repr

/-- A posted write, and a tunnel request, of the host on a port; any command of the host (R402, R410, R419). -/
def BcCmd.isPosted (c : BcCmd) : Bool :=
  match c.origin with
  | .bridgeWrite _ _ => true
  | _ => false
def BcCmd.isTunnel (c : BcCmd) : Bool :=
  match c.origin with
  | .tunnel _ _ _ _ => true
  | _ => false
def BcCmd.ofHost (c : BcCmd) : Bool :=
  match c.origin with
  | .bridgeWrite _ _ | .locked _ _ _ _ | .tunnel _ _ _ _ | .bridgeRead _ _ _ => true
  | _ => false

/-- A port without the host's commands: those not yet sent go, the result of one on the back-channel is nobody's (R425). -/
def PortSt.dropHost (x : PortSt) : PortSt :=
  { x with queue := x.queue.filter (fun c => !c.ofHost),
           out := x.out.map fun o => if o.cmd.ofHost then { o with cmd := { o.cmd with origin := .internal } } else o }

/-- The key of R416 for a posted write of a scope, for a head tunnel of a port and for a CAN tunnel. -/
def keyWrite (scope : Nat) : Nat := 0x10000 + scope
def keyHeadTunnel (p : Nat) : Nat := 0x20000 + p
def keyCanTunnel (c : Nat) : Nat := 0x20100 + c

/-- A packet in the replay buffer: LSEQ, and for a stream packet the unit it carries (R374, R392). -/
structure Held where
  lseq : Nat
  pkt : Pkt
  unit : Option EgUnit := none
  deriving DecidableEq, Repr

/-- The link layer and egress of the uplink beside their registers (R368 to R394). -/
structure Upl where
  /-- Packets of classes 0, 1 and 3 waiting (R385). -/
  q0 : List Pkt := []
  q1 : List Pkt := []
  q3 : List Pkt := []
  /-- Stream FIFOs by SID, and their sizes (R385, R386). -/
  fifo : Tbl (List EgUnit) := []
  alloc : Tbl Nat := []
  /-- Replay buffer, oldest first, and the packets of the replay in progress (R374, R377). -/
  replay : List Held := []
  again : List Held := []
  initSent : Bool := false
  initGot : Bool := false
  /-- INIT CREDIT, acknowledging CREDIT and NAK CREDIT due (R375, R376, R382). -/
  initDue : Nat := 0
  ackDue : Bool := false
  nakDue : Bool := false
  /-- HELLO and LINKSTATE to send (R383, R384). -/
  hello : Bool := false
  linkState : Bool := false
  injTx : Bool := false
  injRx : Bool := false
  /-- Time of the last replay start and of the last acknowledgement progress (R377). -/
  replayAt : Option Nat := none
  ackAt : Nat := 0
  /-- Packets of classes 0, 1 and 3 sent in the last 10 µs: when, and how many crumbs (R388). -/
  low : List (Nat × Nat) := []
  /-- Deficits of the round robin and the SID served last (R388). -/
  deficit : Tbl Nat := []
  last : Nat := 0
  /-- FNs discarded while the link was down: SID to first FN, count, first FSEQ (R394). -/
  lost : Tbl (Nat × Nat × Nat) := []
  /-- Receive blocks consumed by class (R379), and packets delivered to the layers above, oldest first. -/
  rxcc : Tbl Nat := []
  rxq : List Pkt := []
  /-- Units, tunnel packets and posted writes that have entered, by key of R416. -/
  entered : Tbl Nat := []
  deriving DecidableEq, Repr

/-- What leaves the device on its pins, in order (a record of outputs: R368, R115, R485, R577, R591). -/
inductive Sent where
  /-- A packet on the UT lanes: header, payload and trailer crumbs. -/
  | uplink (crumbs : List Crumb)
  /-- A back-channel command on HPnnn_B. -/
  | back (port : Nat) (crumbs : List Crumb)
  /-- A packet on the PT lanes: its kind and payload crumbs (R484). -/
  | peer (pkind : Nat) (crumbs : List Crumb)
  /-- Line bits on a transmit lane, after scrambler and stuffer: markers and training frames (R73, R79, R83). -/
  | lane (l : Link) (lane : Nat) (bits : List Bool)
  /-- A frame on a CAN bus. -/
  | can (c : Nat) (id : Nat) (fd : Bool) (data : List Byte)
  /-- Bytes given on a two-wire path. -/
  | wire (path : Path) (data : List Byte)
  /-- A transaction on I2CB: address byte, bytes written, count to read. -/
  | i2cb (addr : Nat) (wr : List Byte) (rd : Nat)
  /-- Bytes programmed into the boot flash at an address. -/
  | flash (addr n : Nat)
  deriving DecidableEq, Repr

end Sys2Proof.Machine
end

