-- ==== Sys2Proof/Machine/EngineParts.lean ====
section
/-!
DEFINITION. What a slice engine holds beside its registers and memories, and the engine program store
(spec/12_slice_engines.md R336, R351 to R361).
-/
namespace Sys2Proof.Machine

/-- One tap of an engine during a line: the line presented, how many lines are available, and the groups popped
of each plane (R347, R353, R357). -/
structure TapSt where
  /-- Lines the tap has presented so far: line number, last line of the frame, LSTATE; oldest first, not yet taken. -/
  ready : List (Nat × Bool × Nat) := []
  line : Option Nat := none
  /-- Frame number of the lines at the tap. -/
  fn : Nat := 0
  popped : Tbl Nat := []
  bypass : Bool := false
  deriving DecidableEq, Repr

/-- The engine mover: 0 done, 1 busy, 2 error; the tag of the last transfer and the copy in progress (R352): from the
window, byte address in LPDDR, data memory address, length. -/
structure Mover where
  state : Nat := 0
  tag : Nat := 0
  job : Option (Bool × Nat × Nat × Nat) := none
  deriving DecidableEq, Repr

/-- A slice engine (R336). -/
structure Eng where
  /-- Scalar registers; s0 is never listed. -/
  sreg : Tbl (BitVec 32) := []
  vreg : Tbl (List (BitVec 16)) := []
  /-- Loop registers: count left, body start, body end (R344). -/
  loop : Option (Nat × Nat × Nat) := none
  /-- Event latches: code to the four arguments (R354), and the arguments of the event returned last (R351). -/
  latch : Tbl (List Nat) := []
  last : List Nat := []
  /-- The EVWAIT in progress: mask, destination, and TSU time of its timeout (R351). -/
  wait : Option (Nat × Nat × Option Nat) := none
  timeHi : Nat := 0
  /-- The shadow of the persistence window as of the last COMMIT of the running service (R338). -/
  shadow : Option (List Byte) := none
  mover : Mover := {}
  tapD : TapSt := {}
  tapS : TapSt := {}
  /-- The camera the engine serves; none once the service has ended (R365). -/
  port : Option Nat := none
  /-- The port its program was started for (R339). -/
  cam : Nat := 0
  /-- Lengths of the sections loaded, in bytes, entry index, PERSVER, KFLAGS (R361). -/
  codeLen : Nat := 0
  dataLen : Nat := 0
  tabLen : Nat := 0
  entry : Nat := 0
  persVer : Nat := 0
  kflags : Nat := 0
  /-- Address of the table section in the store (R352). -/
  tabAddr : Nat := 0
  /-- Cycles neither waiting nor stalled since the last frame close (R367). -/
  busy : Nat := 0
  /-- TSU time at which an EVWAIT or TLINE last completed (R358). -/
  fed : Nat := 0
  /-- A restart is asked for at the next frame boundary (R359, R367). -/
  restart : Bool := false
  /-- The service ends when the last line of its last frame has passed the taps (R365). -/
  ending : Bool := false
  deriving DecidableEq, Repr

/-- A binary in the engine program store: PROGID, address and length of its bytes (R360). -/
structure Binary where
  progid : Nat
  addr : Nat
  len : Nat
  deriving DecidableEq, Repr

end Sys2Proof.Machine
end

