-- ==== Sys2Proof/Machine/HostParts.lean ====
section
/-!
DEFINITION. What the bridge and the mailboxes hold beside their registers and rings (spec/14_bridge.md,
spec/15_mailbox.md).
-/
namespace Sys2Proof.Machine

/-- A read in progress or a delayed-read buffer (R406, R407): identified by tag, address and byte count. -/
structure Drb where
  tag : Nat
  addr : Nat
  n : Nat
  /-- A read of the local scope still within the fast window: no buffer yet. -/
  fast : Bool
  head : Bool
  /-- Status, DETAIL and data once the fetch has ended; the time of its start, then of its end. -/
  result : Option (Nat × Nat × List Byte) := none
  endAt : Nat := 0
  deriving DecidableEq, Repr

/-- A lock on a head port (R410): 0 LREAD on its way, 1 open, 2 LWRITE on its way; the time of the LREAD's end. -/
structure Lock where
  tag : Nat
  port : Nat
  stage : Nat
  at_ : Nat := 0
  deriving DecidableEq, Repr

/-- The bridge (R396 to R427). -/
structure Bridge where
  drbs : List Drb := []
  locks : List Lock := []
  /-- Expired locks: tag, time of expiry, DETAIL (R412). -/
  expired : List (Nat × Nat × Nat) := []
  /-- TTAG count of CAN_RX by controller (R418). -/
  ttag : Tbl Nat := []
  deriving DecidableEq, Repr

/-- An accepted mailbox command that owes a response (R435, R436): its header, its 48 body bytes, the level it runs at,
whether its interim response is written, and whether its responses are discarded (R430, R431). -/
structure Req where
  ch : Nat
  opcode : Nat
  tag : Nat
  noint : Bool
  level : Nat
  len : Nat
  body : List Byte
  interim : Bool := false
  mute : Bool := false
  /-- The staging area the command consumes (R440). -/
  base : Nat := 0
  deriving DecidableEq, Repr

/-- The mailboxes beside their registers and rings (R428 to R458). -/
structure Mbx where
  /-- Eligible entries in the order of their doorbells: channel, index, and whether the doorbell came over I2CA. -/
  order : List (Nat × Nat × Bool) := []
  /-- The accepted command of each channel whose first response is not written. -/
  cur : Tbl Req := []
  /-- Commands whose interim response is written. -/
  runs : List Req := []
  /-- The priority list and the ports marked shareable (R445). -/
  priority : List Nat := []
  share : List Nat := []
  /-- ALIAS of SYS_COMPAT (R443). -/
  ck2100 : List Byte := []
  /-- Staging windows 1 and 2: the channel that holds each, its base and size (R440). -/
  stages : Tbl (Nat × Nat × Nat) := []
  /-- AGENT of the last SYS_HELLO of each channel (R445). -/
  agents : Tbl Nat := []
  /-- Acceptance pauses while a CPX switch runs (R438). -/
  paused : Bool := false
  deriving DecidableEq, Repr

/-! ## DMA (spec/20_dma.md R552 to R572) -/

/-- The MOVE in progress of a DMA channel: next addresses, bytes to go, and the fixed sides (R557). -/
structure DmaMove where
  src : Nat
  dst : Nat
  left : Nat
  sfix : Bool
  dfix : Bool
  deriving DecidableEq, Repr

/-- The loop a DMA channel is in (R560, R561): the index of its instruction, its body, the index in the body, counts, indices
and steps; for LOOP the addresses at which each MOVE of the body goes on. -/
structure DmaLoop where
  nest : Bool
  pc : Nat
  body : List (List Byte)
  j : Nat := 0
  c0 : Nat
  c1 : Nat := 1
  c2 : Nat := 1
  i0 : Nat := 0
  i1 : Nat := 0
  i2 : Nat := 0
  steps : List Int := []
  curs : Tbl (Nat × Nat) := []
  deriving DecidableEq, Repr

/-- The WAIT of a DMA channel (R563): kind, CLR, flag or port, the time at which KIND 2 or 3 ends, and the time at which TMO runs
out, if it has one. -/
structure DmaWait where
  kind : Nat
  clr : Bool
  arg : Nat
  ends : Nat := 0
  tmo : Option Nat := none
  deriving DecidableEq, Repr

/-- A running DMA channel (R553, R554). -/
structure Dma where
  desc : Nat
  irq : Bool
  nins : Nat
  next : Nat
  tag : Nat
  pc : Nat := 0
  moved : Nat := 0
  loop : Option DmaLoop := none
  move : Option DmaMove := none
  wait : Option DmaWait := none
  deriving DecidableEq, Repr

/-! ## CAN (spec/21_can.md R573 to R590) -/

/-- What a CAN controller holds beside its registers. -/
structure CanSt where
  /-- Transmit queue: TTAG and item (R577). -/
  queue : List (Nat × List Byte) := []
  /-- A CAN_CONFIG that waits for bus idle: MODE, NBT, DBT (R575). -/
  config : Option (Nat × Nat × Nat) := none
  /-- TSU times of the last accepted speed and yaw messages (R584). -/
  vAt : Option Nat := none
  wAt : Option Nat := none
  /-- Frames lost in the episode of overflow (R582). -/
  lost : Nat := 0
  /-- The time at which the frame at the head of the queue came there (R578). -/
  headAt : Nat := 0
  deriving DecidableEq, Repr

/-! ## I2C (spec/22_i2c.md R591 to R604) -/

/-- What the I2C interfaces hold beside their registers. -/
structure I2c where
  /-- I2CA holds SCL for a wake from STANDBY (R598). -/
  held : Bool := false
  /-- I2CB has not been used since its reset: its next use runs a bus clear (R601). -/
  fresh : Bool := true
  deriving DecidableEq, Repr

end Sys2Proof.Machine
end

