-- ==== Sys2Proof/Machine/SliceParts.lean ====
section
/-!
DEFINITION. What slice rotation and repair hold beside registers (spec/18_rotation_bist.md R508 to R529).
-/
namespace Sys2Proof.Machine

/-- A proving window (R510): 0 the camera has still to move, 1 draining, 2 logic BIST, 3 memory BIST, 4 reset. -/
structure Window where
  slice : Nat
  stage : Nat := 0
  seg : Nat := 0
  /-- The running segment is a retest; the window has had a transient. -/
  retest : Bool := false
  transient : Bool := false
  /-- The window ends in retirement, or is aborted (R513). -/
  retire : Bool := false
  abort : Bool := false
  /-- TSU time of its isolation. -/
  start : Nat := 0
  /-- It follows a repair: the trigger of R519, 1 hang, 3 SRAM word, 4 engine ECC. -/
  after : Option Nat := none
  deriving DecidableEq, Repr

/-- The rotation (R509, R514 to R519). -/
structure Rot where
  windows : List Window := []
  /-- Spares claimed and not yet in service: slice to purpose, 1 takeover to 5 proving (R509). -/
  claims : Tbl Nat := []
  /-- Slices marked FIRST, in the order of marking (R514). -/
  first : List Nat := []
  /-- The slice proved last, the start of the cycle, windows started and slices passed in it. -/
  last : Nat := 207
  /-- Slices passed over, to be taken next once settled (R514). -/
  passedOver : List Nat := []
  cycleAt : Nat := 0
  started : Nat := 0
  passed : List Nat := []
  /-- Slices whose last window was aborted (R513). -/
  aborted : List Nat := []
  /-- Slices that passed a window after a hang, with its time (R519). -/
  hung : Tbl Nat := []
  /-- Slices for which rotation-coverage is raised and that have not passed since (R517), and entry to RUN or PAIRED. -/
  covered : List Nat := []
  since : Option Nat := none
  /-- An episode of rotation-paused is open (R516). -/
  paused : Bool := false
  /-- Deferred repairs waiting for a spare: slice and trigger (R521). -/
  waits : List (Nat × Nat) := []
  /-- Time-shared slices: the port served last, and when the slice drained after it (R528). -/
  turns : Tbl (Nat × Option Nat) := []
  deriving DecidableEq, Repr

end Sys2Proof.Machine
end

