-- ==== Sys2Proof/Machine/PairParts.lean ====
section
/-!
DEFINITION. What lattices and the pair hold beside registers (spec/09_geometry_lattice.md R258 to R278,
spec/17_pairing.md R476 to R507).
-/
namespace Sys2Proof.Machine

/-! ## Lattices -/

/-- A lattice frame that waits for its contributors (R268, R269): its number, target, deadline, the moment it is skipped, its
reference time, and the set and generation active at its target. -/
structure LatFrame where
  lfn : Nat
  target : Nat
  dead : Nat
  limit : Nat
  tref : Nat
  gen : Nat
  set : CfgSet
  /-- Its deadline was extended at a takeover (R276). -/
  tkover : Bool := false
  deriving DecidableEq, Repr

/-- A contributor frame as assembly takes it: slot, port, frame, and its warp source buffer (R249, R271). -/
structure LatSlot where
  slot : Nat
  port : Nat
  base : Nat
  frame : Frame
  deriving DecidableEq, Repr

/-- The lattice frame being assembled (R267 to R273). -/
structure LatBusy where
  frame : LatFrame
  /-- The contributors present, and the slots present, damaged and replayed at the start (R271). -/
  slots : List LatSlot
  present : Nat
  damaged : Nat
  tko : Nat
  v : Int
  omega : Int
  nomotion : Bool
  /-- The number of tiles, and the warp source buffers as they stood at the start: assembly reads them before they are taken
  (R249, R271). -/
  ntile : Nat
  mem : List Host.Cell
  poison : List Nat
  /-- Slots whose buffer was taken during assembly, with the first tile that lacks them (R271). -/
  gone : List (Nat × Nat) := []
  fseq : Nat
  /-- The frame was abandoned in the egress (R389). -/
  dead : Bool := false
  deriving DecidableEq, Repr

/-- A lattice (R268 to R276). -/
structure LatSt where
  /-- LFN of the next target, and the last target numbered. -/
  next : Nat := 0
  lastT : Option Nat := none
  /-- Lattice frames waiting, oldest first, and the one in assembly. -/
  frames : List LatFrame := []
  busy : Option LatBusy := none
  /-- Last LFN mirrored by the partner (R275). -/
  mirrored : Option Nat := none
  /-- An episode of lattice-split is open (R275). -/
  split : Bool := false
  deriving DecidableEq, Repr

/-! ## The pair -/

/-- What the partner reports of a port: present, dual-homed, SERIAL (R477). -/
structure PeerPort where
  present : Bool
  dual : Bool
  serial : List Byte
  deriving DecidableEq, Repr

/-- A handover of a camera in progress (R501): the device that gives it (true: this one), its frame H, how often it was
proposed, whether it is accepted, and the mailbox command that waits. -/
structure Handover where
  giver : Bool
  h : Nat
  tries : Nat := 0
  accepted : Bool := false
  req : Nat := 0
  deriving DecidableEq, Repr

/-- A camera being brought up from its reserve ring (R497): whether a handover began it, its boundary G, and the number of the
frame to be read next. -/
structure RingRun where
  handover : Bool
  g : Nat
  next : Nat
  /-- The record that a handover waits for has arrived (R501). -/
  ready : Bool := true
  deriving DecidableEq, Repr

/-- A JOIN_REQ this device has sent: its request number and the mailbox command that waits for its outcome (R481). -/
structure JoinReq where
  num : Nat
  chan : Nat
  tag : Nat
  /-- TSU time at which it was sent (R42). -/
  sent : Nat
  deriving DecidableEq, Repr

/-- The pair (R476 to R507). -/
structure Pair where
  /-- Beats sent, modulo 256; the last good beat's TSEND and arrival (R486). -/
  bseq : Nat := 0
  last : Option (Nat × Nat) := none
  /-- TSU time of the last beat received or missed, and of the last one sent (R486, R488). -/
  beatAt : Nat := 0
  sentAt : Nat := 0
  /-- DEV and MODE of the partner's last beat (R486). -/
  dev : Nat := 0
  mode : Nat := 0
  /-- Offsets of the last 16 beats, newest first, beats in a row with a large skew, and its episode (R487). -/
  offs : List Int := []
  skewRun : Nat := 0
  skewed : Bool := false
  /-- Number of the last PAIRCTL request sent (R485). -/
  num : Nat := 0
  join : Option JoinReq := none
  /-- The record last sent in a MIRROR of each port; none before the first, after which it is sent in full (R491). -/
  sentRec : Tbl (List Byte) := []
  /-- The last two good records of each camera stood by for, newest first (R492). -/
  recs : Tbl (List (List Byte)) := []
  /-- Highest FN that DONE reported: by SID, or under 8 × port + 7 for the whole port (R493). -/
  dones : Tbl Nat := []
  /-- DONE reports below level 0x0102: SID to the highest FN acknowledged (R493). -/
  acks : Tbl Nat := []
  /-- Frames in the reserve ring, newest first, at most two of each port (R494). -/
  ring : Tbl (List Frame) := []
  info : Tbl PeerPort := []
  /-- Ports for which pair-camera-mismatch is raised (R477). -/
  mismatch : List Nat := []
  handovers : Tbl Handover := []
  /-- The PAIR_ROLES command, mode change or LEAVE that the handovers serve: 0 none, 1 PAIR_ROLES, 2 RUN, 3 PREPARE. -/
  purpose : Nat := 0
  /-- PAIR_ROLES that waits: channel, tag, and whether a camera could not be moved (R501). -/
  roles : Option (Nat × Nat × Bool) := none
  /-- Cameras to take over at their next frame boundary, and those served from the ring (R496, R497). -/
  taking : List Nat := []
  runs : Tbl RingRun := []
  /-- pair-time-skew was outstanding as the takeover was declared (R496). -/
  skewTaken : Bool := false
  /-- A FLIP_PROPOSE received that waits for its DIGEST: request number, generation, EKIND, FFLAGS, PACE, EPOCH (R485). -/
  proposed : Option (Nat × Nat × Nat × Nat × Nat × Nat) := none
  /-- Cameras stood by for that have become unpaired: this device serves them from their next boundary (R477). -/
  alone : List Nat := []
  deriving DecidableEq, Repr

end Sys2Proof.Machine
end

