-- ==== Sys2Proof/Machine/Csr.lean ====
section
/-!
DEFINITION. The addresses of the CK9200's registers and of their fields, block by block, under the manual's own names
(spec/26_registers.md R654, R661 to R664, and the register tables they name). A register's address is its block base
plus the instance stride plus its offset; a field is a register address with its bit range.
-/
namespace Sys2Proof.Machine

/-- A field of a register: the register's byte address in the CSR window and the bit range [hi:lo]. -/
structure Fld where
  addr : Nat
  hi : Nat
  lo : Nat
  deriving DecidableEq, Repr

/-- The base of a link block: HP at 0x0020_0000 + 0x4000 x port, UPL and PEER (R654). -/
def linkBase : Link → Nat
  | .hp p => 0x200000 + 0x4000 * p.val
  | .upl => 0x80000
  | .peer => 0xA0000

/-- GLB.IDCODE (R2). -/
def GLB.IDCODE : Nat := 0x0 + 0x0
def GLB.IDCODE_STEP : Fld := ⟨GLB.IDCODE, 31, 24⟩
def GLB.IDCODE_PART : Fld := ⟨GLB.IDCODE, 23, 8⟩
def GLB.IDCODE_MEMCFG : Fld := ⟨GLB.IDCODE, 7, 4⟩
/-- GLB.MODE (R35). -/
def GLB.MODE : Nat := 0x0 + 0x10
def GLB.MODE_CUR : Fld := ⟨GLB.MODE, 3, 0⟩
def GLB.MODE_PREV : Fld := ⟨GLB.MODE, 7, 4⟩
def GLB.MODE_CAUSE : Fld := ⟨GLB.MODE, 15, 8⟩
def GLB.MODE_BUSY : Fld := ⟨GLB.MODE, 16, 16⟩
def GLB.MODE_INPAIR : Fld := ⟨GLB.MODE, 17, 17⟩
def GLB.MODE_BOOTSLOT : Fld := ⟨GLB.MODE, 19, 18⟩
def GLB.MODE_FALLBACK : Fld := ⟨GLB.MODE, 20, 20⟩
def GLB.MODE_SLOWFLASH : Fld := ⟨GLB.MODE, 21, 21⟩
/-- GLB.WAKE (R37). -/
def GLB.WAKE : Nat := 0x0 + 0x14
def GLB.WAKE_PEND : Fld := ⟨GLB.WAKE, 0, 0⟩
/-- GLB.CFGGEN (R475). -/
def GLB.CFGGEN : Nat := 0x0 + 0x18
def GLB.CFGGEN_GEN : Fld := ⟨GLB.CFGGEN, 31, 0⟩
/-- GLB.CFGSTAT (R475). -/
def GLB.CFGSTAT : Nat := 0x0 + 0x1C
def GLB.CFGSTAT_PENDING : Fld := ⟨GLB.CFGSTAT, 0, 0⟩
def GLB.CFGSTAT_DIRTY : Fld := ⟨GLB.CFGSTAT, 1, 1⟩
def GLB.CFGSTAT_SWITCHING : Fld := ⟨GLB.CFGSTAT, 2, 2⟩
def GLB.CFGSTAT_SWITCHED : Fld := ⟨GLB.CFGSTAT, 23, 16⟩
def GLB.CFGSTAT_TOTAL : Fld := ⟨GLB.CFGSTAT, 31, 24⟩
/-- GLB.CAPS (R664). -/
def GLB.CAPS : Nat := 0x0 + 0x4
def GLB.CAPS_NPORT : Fld := ⟨GLB.CAPS, 7, 0⟩
def GLB.CAPS_NSLICE : Fld := ⟨GLB.CAPS, 15, 8⟩
def GLB.CAPS_NUT : Fld := ⟨GLB.CAPS, 22, 16⟩
def GLB.CAPS_PAIRCAP : Fld := ⟨GLB.CAPS, 23, 23⟩
def GLB.CAPS_NLAT : Fld := ⟨GLB.CAPS, 27, 24⟩
/-- GLB.BUILD (R664). -/
def GLB.BUILD : Nat := 0x0 + 0x8
def GLB.BUILD_BUILD : Fld := ⟨GLB.BUILD, 31, 0⟩
/-- KPR.STRAPS (R54). -/
def KPR.STRAPS : Nat := 0x10000 + 0x20
def KPR.STRAPS_BOOTSEL_UP : Fld := ⟨KPR.STRAPS, 1, 0⟩
def KPR.STRAPS_BOOTSEL_DN : Fld := ⟨KPR.STRAPS, 3, 2⟩
def KPR.STRAPS_BOOTSEL_EFF : Fld := ⟨KPR.STRAPS, 5, 4⟩
def KPR.STRAPS_PAIRID_UP : Fld := ⟨KPR.STRAPS, 6, 6⟩
def KPR.STRAPS_PAIRID_DN : Fld := ⟨KPR.STRAPS, 7, 7⟩
def KPR.STRAPS_PAIRID_EFF : Fld := ⟨KPR.STRAPS, 9, 8⟩
def KPR.STRAPS_TWA_UP : Fld := ⟨KPR.STRAPS, 11, 10⟩
def KPR.STRAPS_TWA_DN : Fld := ⟨KPR.STRAPS, 13, 12⟩
def KPR.STRAPS_TWA_EFF : Fld := ⟨KPR.STRAPS, 15, 14⟩
def KPR.STRAPS_IND_BOOTSEL : Fld := ⟨KPR.STRAPS, 16, 16⟩
def KPR.STRAPS_IND_PAIRID : Fld := ⟨KPR.STRAPS, 17, 17⟩
def KPR.STRAPS_IND_TWA : Fld := ⟨KPR.STRAPS, 18, 18⟩
/-- KPR.KCMD (R551). -/
def KPR.KCMD : Nat := 0x10000 + 0x0
def KPR.KCMD_CODE : Fld := ⟨KPR.KCMD, 7, 0⟩
/-- KPR.KARG (R551). -/
def KPR.KARG : Nat := 0x10000 + 0x4
def KPR.KARG_ARG : Fld := ⟨KPR.KARG, 31, 0⟩
/-- KPR.KSTAT (R551). -/
def KPR.KSTAT : Nat := 0x10000 + 0x8
def KPR.KSTAT_BUSY : Fld := ⟨KPR.KSTAT, 0, 0⟩
def KPR.KSTAT_ERR : Fld := ⟨KPR.KSTAT, 1, 1⟩
def KPR.KSTAT_LAST : Fld := ⟨KPR.KSTAT, 15, 8⟩
/-- KPR.TSHL (R551). -/
def KPR.TSHL : Nat := 0x10000 + 0x10
def KPR.TSHL_TSH : Fld := ⟨KPR.TSHL, 31, 0⟩
/-- KPR.TSHH (R551). -/
def KPR.TSHH : Nat := 0x10000 + 0x14
def KPR.TSHH_TSH : Fld := ⟨KPR.TSHH, 31, 0⟩
/-- KPR.TSHSTAT (R551). -/
def KPR.TSHSTAT : Nat := 0x10000 + 0x18
def KPR.TSHSTAT_COPYING : Fld := ⟨KPR.TSHSTAT, 0, 0⟩
def KPR.TSHSTAT_TIMEVALID : Fld := ⟨KPR.TSHSTAT, 1, 1⟩
/-- KPR.HB (R551). -/
def KPR.HB : Nat := 0x10000 + 0x1C
def KPR.HB_COUNT : Fld := ⟨KPR.HB, 31, 0⟩
/-- KPR.HBAGE (R551). -/
def KPR.HBAGE : Nat := 0x10000 + 0x24
def KPR.HBAGE_AGE : Fld := ⟨KPR.HBAGE, 31, 0⟩
/-- KPR.HBCTL (R551). -/
def KPR.HBCTL : Nat := 0x10000 + 0x28
def KPR.HBCTL_HBLIM : Fld := ⟨KPR.HBCTL, 15, 0⟩
def KPR.HBCTL_HBACT : Fld := ⟨KPR.HBCTL, 17, 16⟩
/-- KPR.HBLAST (R551). -/
def KPR.HBLAST : Nat := 0x10000 + 0x2C
def KPR.HBLAST_TIME : Fld := ⟨KPR.HBLAST, 31, 0⟩
/-- KPR.DOMST (R551). -/
def KPR.DOMST : Nat := 0x10000 + 0x30
def KPR.DOMST_HELD : Fld := ⟨KPR.DOMST, 8, 0⟩
def KPR.DOMST_CPXHOLDA : Fld := ⟨KPR.DOMST, 9, 9⟩
def KPR.DOMST_CPXHOLDB : Fld := ⟨KPR.DOMST, 10, 10⟩
def KPR.DOMST_UPIDLE : Fld := ⟨KPR.DOMST, 11, 11⟩
/-- FCU.PINMASK (R550). -/
def FCU.PINMASK : Nat := 0x20000 + 0x0
def FCU.PINMASK_MASK : Fld := ⟨FCU.PINMASK, 2, 0⟩
/-- FCU.PINSTAT (R550). -/
def FCU.PINSTAT : Nat := 0x20000 + 0x4
def FCU.PINSTAT_ASSERTED : Fld := ⟨FCU.PINSTAT, 0, 0⟩
def FCU.PINSTAT_BOOTHOLD : Fld := ⟨FCU.PINSTAT, 1, 1⟩
def FCU.PINSTAT_OVFHOLD : Fld := ⟨FCU.PINSTAT, 2, 2⟩
/-- FCU.LOGCNT (R550). -/
def FCU.LOGCNT : Nat := 0x20000 + 0x8
def FCU.LOGCNT_NC : Fld := ⟨FCU.LOGCNT, 9, 0⟩
def FCU.LOGCNT_NU : Fld := ⟨FCU.LOGCNT, 19, 10⟩
def FCU.LOGCNT_NF : Fld := ⟨FCU.LOGCNT, 25, 20⟩
/-- FCU.LOGWR (R550). -/
def FCU.LOGWR : Nat := 0x20000 + 0xC
def FCU.LOGWR_LAST : Fld := ⟨FCU.LOGWR, 9, 0⟩
/-- FCU.OVFC (R550). -/
def FCU.OVFC : Nat := 0x20000 + 0x10
def FCU.OVFC_LOST : Fld := ⟨FCU.OVFC, 31, 0⟩
/-- FCU.OVFU (R550). -/
def FCU.OVFU : Nat := 0x20000 + 0x14
def FCU.OVFU_LOST : Fld := ⟨FCU.OVFU, 31, 0⟩
/-- FCU.OVFF (R550). -/
def FCU.OVFF : Nat := 0x20000 + 0x18
def FCU.OVFF_LOST : Fld := ⟨FCU.OVFF, 31, 0⟩
/-- FCU.FIRSTLOST (R550). -/
def FCU.FIRSTLOST : Nat := 0x20000 + 0x1C
def FCU.FIRSTLOST_CCODE : Fld := ⟨FCU.FIRSTLOST, 15, 0⟩
def FCU.FIRSTLOST_UCODE : Fld := ⟨FCU.FIRSTLOST, 31, 16⟩
/-- FCU.INTAKE (R550). -/
def FCU.INTAKE : Nat := 0x20000 + 0x20
def FCU.INTAKE_QUEUED : Fld := ⟨FCU.INTAKE, 6, 0⟩
def FCU.INTAKE_PEAK : Fld := ⟨FCU.INTAKE, 14, 8⟩
/-- FCU.LOG (R550). -/
def FCU.LOG (k : Nat) : Nat := 0x20000 + 0x1000 + 0x4 * k
def FCU.LOG_DATA (k : Nat) : Fld := ⟨FCU.LOG k, 31, 0⟩
/-- TSU.NOWL (R161). -/
def TSU.NOWL : Nat := 0x30000 + 0x0
def TSU.NOWL_NOWL : Fld := ⟨TSU.NOWL, 31, 0⟩
/-- TSU.NOWH (R161). -/
def TSU.NOWH : Nat := 0x30000 + 0x4
def TSU.NOWH_NOWH : Fld := ⟨TSU.NOWH, 31, 0⟩
/-- TSU.NOWF (R161). -/
def TSU.NOWF : Nat := 0x30000 + 0x8
def TSU.NOWF_FRAC : Fld := ⟨TSU.NOWF, 15, 0⟩
/-- TSU.SNAPCTL (R161). -/
def TSU.SNAPCTL : Nat := 0x30000 + 0x10
def TSU.SNAPCTL_SNAP : Fld := ⟨TSU.SNAPCTL, 0, 0⟩
/-- TSU.SNAPL (R161). -/
def TSU.SNAPL : Nat := 0x30000 + 0x14
def TSU.SNAPL_SNAPL : Fld := ⟨TSU.SNAPL, 31, 0⟩
/-- TSU.SNAPH (R161). -/
def TSU.SNAPH : Nat := 0x30000 + 0x18
def TSU.SNAPH_SNAPH : Fld := ⟨TSU.SNAPH, 31, 0⟩
/-- TSU.INC (R161). -/
def TSU.INC : Nat := 0x30000 + 0x20
def TSU.INC_INC : Fld := ⟨TSU.INC, 31, 0⟩
/-- TSU.DCTL (R161). -/
def TSU.DCTL : Nat := 0x30000 + 0x24
def TSU.DCTL_PPS_EN : Fld := ⟨TSU.DCTL, 0, 0⟩
def TSU.DCTL_PPS_POL : Fld := ⟨TSU.DCTL, 1, 1⟩
def TSU.DCTL_PPSOUT_EN : Fld := ⟨TSU.DCTL, 2, 2⟩
def TSU.DCTL_PPSOUT_W : Fld := ⟨TSU.DCTL, 12, 3⟩
/-- TSU.DSTAT (R161). -/
def TSU.DSTAT : Nat := 0x30000 + 0x28
def TSU.DSTAT_STATE : Fld := ⟨TSU.DSTAT, 3, 0⟩
def TSU.DSTAT_TIMEVALID : Fld := ⟨TSU.DSTAT, 4, 4⟩
def TSU.DSTAT_SLEWING : Fld := ⟨TSU.DSTAT, 5, 5⟩
def TSU.DSTAT_HOLDSEC : Fld := ⟨TSU.DSTAT, 31, 16⟩
/-- TSU.PHERR (R161). -/
def TSU.PHERR : Nat := 0x30000 + 0x2C
def TSU.PHERR_E : Fld := ⟨TSU.PHERR, 31, 0⟩
/-- TSU.PCNT (R161). -/
def TSU.PCNT : Nat := 0x30000 + 0x30
def TSU.PCNT_PPSBAD : Fld := ⟨TSU.PCNT, 15, 0⟩
def TSU.PCNT_OUTLIER : Fld := ⟨TSU.PCNT, 31, 16⟩
/-- TSU.SYNC (R161). -/
def TSU.SYNC (k : Nat) : Nat := 0x30000 + 0x100 + 0x10 * k
def TSU.SYNC_MODE (k : Nat) : Fld := ⟨TSU.SYNC k, 2, 0⟩
def TSU.SYNC_POL (k : Nat) : Fld := ⟨TSU.SYNC k, 3, 3⟩
def TSU.SYNC_GROUP (k : Nat) : Fld := ⟨TSU.SYNC k, 9, 4⟩
/-- TSU.SYNCOFS (R161). -/
def TSU.SYNCOFS (k : Nat) : Nat := 0x30000 + 0x104 + 0x10 * k
def TSU.SYNCOFS_OFFSET (k : Nat) : Fld := ⟨TSU.SYNCOFS k, 31, 0⟩
/-- TSU.SYNCW (R161). -/
def TSU.SYNCW (k : Nat) : Nat := 0x30000 + 0x108 + 0x10 * k
def TSU.SYNCW_WIDTH (k : Nat) : Fld := ⟨TSU.SYNCW k, 31, 0⟩
/-- TSU.SYNCST (R161). -/
def TSU.SYNCST (k : Nat) : Nat := 0x30000 + 0x10C + 0x10 * k
def TSU.SYNCST_FILL (k : Nat) : Fld := ⟨TSU.SYNCST k, 4, 0⟩
def TSU.SYNCST_OVF (k : Nat) : Fld := ⟨TSU.SYNCST k, 20, 5⟩
/-- TSU.SCAPL (R161). -/
def TSU.SCAPL (k : Nat) : Nat := 0x30000 + 0x200 + 0x8 * k
def TSU.SCAPL_CAPL (k : Nat) : Fld := ⟨TSU.SCAPL k, 31, 0⟩
/-- TSU.SCAPH (R161). -/
def TSU.SCAPH (k : Nat) : Nat := 0x30000 + 0x204 + 0x8 * k
def TSU.SCAPH_CAPH (k : Nat) : Fld := ⟨TSU.SCAPH k, 30, 0⟩
def TSU.SCAPH_EDGE (k : Nat) : Fld := ⟨TSU.SCAPH k, 31, 31⟩
/-- TSU.TGSENT (R335). -/
def TSU.TGSENT (k : Nat) : Nat := 0x30000 + 0x400 + 0x8 * k
def TSU.TGSENT_SENT (k : Nat) : Fld := ⟨TSU.TGSENT k, 31, 0⟩
/-- TSU.TGMISS (R335). -/
def TSU.TGMISS (k : Nat) : Nat := 0x30000 + 0x404 + 0x8 * k
def TSU.TGMISS_MISSED (k : Nat) : Fld := ⟨TSU.TGMISS k, 15, 0⟩
def TSU.TGMISS_RESENT (k : Nat) : Fld := ⟨TSU.TGMISS k, 31, 16⟩
/-- CLK.CLKSTAT (R653). -/
def CLK.CLKSTAT : Nat := 0x40000 + 0x0
def CLK.CLKSTAT_ROOTLOCK : Fld := ⟨CLK.CLKSTAT, 0, 0⟩
def CLK.CLKSTAT_REFOK : Fld := ⟨CLK.CLKSTAT, 1, 1⟩
def CLK.CLKSTAT_MEMLOCK : Fld := ⟨CLK.CLKSTAT, 2, 2⟩
def CLK.CLKSTAT_UNLOCKS : Fld := ⟨CLK.CLKSTAT, 15, 8⟩
/-- CLK.RAILSTAT (R653). -/
def CLK.RAILSTAT : Nat := 0x40000 + 0x4
def CLK.RAILSTAT_INWIN : Fld := ⟨CLK.RAILSTAT, 7, 0⟩
def CLK.RAILSTAT_FAULTED : Fld := ⟨CLK.RAILSTAT, 15, 8⟩
/-- CLK.RAILMV (R653). -/
def CLK.RAILMV (k : Nat) : Nat := 0x40000 + 0x10 + 0x4 * k
def CLK.RAILMV_MV (k : Nat) : Fld := ⟨CLK.RAILMV k, 15, 0⟩
/-- CLK.TS (R653). -/
def CLK.TS (k : Nat) : Nat := 0x40000 + 0x100 + 0x4 * k
def CLK.TS_TJ (k : Nat) : Fld := ⟨CLK.TS k, 11, 0⟩
def CLK.TS_VALID (k : Nat) : Fld := ⟨CLK.TS k, 12, 12⟩
/-- CLK.THRSTAT (R653). -/
def CLK.THRSTAT : Nat := 0x40000 + 0x200
def CLK.THRSTAT_STEP : Fld := ⟨CLK.THRSTAT, 2, 0⟩
def CLK.THRSTAT_HOT : Fld := ⟨CLK.THRSTAT, 12, 8⟩
/-- CLK.THRTMAX (R653). -/
def CLK.THRTMAX : Nat := 0x40000 + 0x204
def CLK.THRTMAX_TMAX : Fld := ⟨CLK.THRTMAX, 11, 0⟩
/-- CLK.THRBUD (R653). -/
def CLK.THRBUD : Nat := 0x40000 + 0x208
def CLK.THRBUD_BUDGET : Fld := ⟨CLK.THRBUD, 31, 0⟩
/-- CLK.THRCNT (R653). -/
def CLK.THRCNT : Nat := 0x40000 + 0x20C
def CLK.THRCNT_STEPUPS : Fld := ⟨CLK.THRCNT, 15, 0⟩
def CLK.THRCNT_NCAM : Fld := ⟨CLK.THRCNT, 23, 16⟩
/-- CLK.THRMAP (R653). -/
def CLK.THRMAP (k : Nat) : Nat := 0x40000 + 0x220 + 0x4 * k
def CLK.THRMAP_THR (k : Nat) : Fld := ⟨CLK.THRMAP k, 31, 0⟩
/-- UPL.UPCTL (R395). -/
def UPL.UPCTL : Nat := 0x80000 + 0x0
def UPL.UPCTL_RPLTO : Fld := ⟨UPL.UPCTL, 15, 0⟩
def UPL.UPCTL_LPBK : Fld := ⟨UPL.UPCTL, 16, 16⟩
/-- UPL.UPSTAT (R395). -/
def UPL.UPSTAT : Nat := 0x80000 + 0x4
def UPL.UPSTAT_UP : Fld := ⟨UPL.UPSTAT, 0, 0⟩
def UPL.UPSTAT_NAKWAIT : Fld := ⟨UPL.UPSTAT, 1, 1⟩
def UPL.UPSTAT_SHEDDING : Fld := ⟨UPL.UPSTAT, 2, 2⟩
def UPL.UPSTAT_CLOSED : Fld := ⟨UPL.UPSTAT, 7, 3⟩
def UPL.UPSTAT_TXQ : Fld := ⟨UPL.UPSTAT, 15, 8⟩
def UPL.UPSTAT_RXQ : Fld := ⟨UPL.UPSTAT, 19, 16⟩
/-- UPL.UPINJ (R395). -/
def UPL.UPINJ : Nat := 0x80000 + 0x8
def UPL.UPINJ_TXCRC : Fld := ⟨UPL.UPINJ, 0, 0⟩
def UPL.UPINJ_RXDROP : Fld := ⟨UPL.UPINJ, 1, 1⟩
/-- UPL.UPSEQ (R395). -/
def UPL.UPSEQ : Nat := 0x80000 + 0xC
def UPL.UPSEQ_TXNEXT : Fld := ⟨UPL.UPSEQ, 15, 0⟩
def UPL.UPSEQ_TXACK : Fld := ⟨UPL.UPSEQ, 31, 16⟩
/-- UPL.UPRXSEQ (R395). -/
def UPL.UPRXSEQ : Nat := 0x80000 + 0x10
def UPL.UPRXSEQ_RXNEXT : Fld := ⟨UPL.UPRXSEQ, 15, 0⟩
/-- UPL.UPRPL (R395). -/
def UPL.UPRPL : Nat := 0x80000 + 0x14
def UPL.UPRPL_RPLBYTES : Fld := ⟨UPL.UPRPL, 22, 0⟩
/-- UPL.UPTXCL (R395). -/
def UPL.UPTXCL (k : Nat) : Nat := 0x80000 + 0x20 + 0x8 * k
def UPL.UPTXCL_CL (k : Nat) : Fld := ⟨UPL.UPTXCL k, 31, 0⟩
/-- UPL.UPTXCC (R395). -/
def UPL.UPTXCC (k : Nat) : Nat := 0x80000 + 0x24 + 0x8 * k
def UPL.UPTXCC_CC (k : Nat) : Fld := ⟨UPL.UPTXCC k, 31, 0⟩
/-- UPL.UPRXCL (R395). -/
def UPL.UPRXCL (k : Nat) : Nat := 0x80000 + 0x50 + 0x4 * k
def UPL.UPRXCL_CL (k : Nat) : Fld := ⟨UPL.UPRXCL k, 31, 0⟩
/-- UPL.UPEGR (R395). -/
def UPL.UPEGR : Nat := 0x80000 + 0x68
def UPL.UPEGR_ALLOC : Fld := ⟨UPL.UPEGR, 11, 0⟩
def UPL.UPEGR_PEAK : Fld := ⟨UPL.UPEGR, 27, 16⟩
/-- UPL.UPCAP (R395). -/
def UPL.UPCAP : Nat := 0x80000 + 0x6C
def UPL.UPCAP_CAP : Fld := ⟨UPL.UPCAP, 31, 0⟩
/-- UPL.UPLOAD (R395). -/
def UPL.UPLOAD : Nat := 0x80000 + 0x70
def UPL.UPLOAD_LOAD : Fld := ⟨UPL.UPLOAD, 31, 0⟩
/-- UPL.UPCNT0 (R395). -/
def UPL.UPCNT0 : Nat := 0x80000 + 0x74
def UPL.UPCNT0_NAKRX : Fld := ⟨UPL.UPCNT0, 15, 0⟩
def UPL.UPCNT0_NAKTX : Fld := ⟨UPL.UPCNT0, 31, 16⟩
/-- UPL.UPCNT1 (R395). -/
def UPL.UPCNT1 : Nat := 0x80000 + 0x78
def UPL.UPCNT1_REPLAYS : Fld := ⟨UPL.UPCNT1, 15, 0⟩
def UPL.UPCNT1_RPLTIMEOUT : Fld := ⟨UPL.UPCNT1, 31, 16⟩
/-- UPL.UPCNT2 (R395). -/
def UPL.UPCNT2 : Nat := 0x80000 + 0x7C
def UPL.UPCNT2_HCRCERR : Fld := ⟨UPL.UPCNT2, 15, 0⟩
def UPL.UPCNT2_TCRCERR : Fld := ⟨UPL.UPCNT2, 31, 16⟩
/-- UPL.UPCNT3 (R395). -/
def UPL.UPCNT3 : Nat := 0x80000 + 0x80
def UPL.UPCNT3_CREDV : Fld := ⟨UPL.UPCNT3, 15, 0⟩
def UPL.UPCNT3_BADKIND : Fld := ⟨UPL.UPCNT3, 31, 16⟩
/-- UPL.UPCNT4 (R395). -/
def UPL.UPCNT4 : Nat := 0x80000 + 0x84
def UPL.UPCNT4_SHED : Fld := ⟨UPL.UPCNT4, 15, 0⟩
def UPL.UPCNT4_EGOVF : Fld := ⟨UPL.UPCNT4, 31, 16⟩
/-- UPL.UPCNT5 (R395). -/
def UPL.UPCNT5 : Nat := 0x80000 + 0x88
def UPL.UPCNT5_REINIT : Fld := ⟨UPL.UPCNT5, 15, 0⟩
def UPL.UPCNT5_LOST : Fld := ⟨UPL.UPCNT5, 31, 16⟩
/-- BRG.CTL (R427). -/
def BRG.CTL : Nat := 0x90000 + 0x0
def BRG.CTL_COMPAT : Fld := ⟨BRG.CTL, 0, 0⟩
def BRG.CTL_COMPATNOW : Fld := ⟨BRG.CTL, 1, 1⟩
def BRG.CTL_FASTWIN : Fld := ⟨BRG.CTL, 15, 8⟩
def BRG.CTL_LCKTO : Fld := ⟨BRG.CTL, 23, 16⟩
/-- BRG.STAT (R427). -/
def BRG.STAT : Nat := 0x90000 + 0x4
def BRG.STAT_DRBUSY : Fld := ⟨BRG.STAT, 6, 0⟩
def BRG.STAT_LOCKS : Fld := ⟨BRG.STAT, 11, 8⟩
/-- BRG.PWERRL (R427). -/
def BRG.PWERRL : Nat := 0x90000 + 0x10
def BRG.PWERRL_ADDRL : Fld := ⟨BRG.PWERRL, 31, 0⟩
/-- BRG.PWERRH (R427). -/
def BRG.PWERRH : Nat := 0x90000 + 0x14
def BRG.PWERRH_ADDRH : Fld := ⟨BRG.PWERRH, 15, 0⟩
def BRG.PWERRH_CODE : Fld := ⟨BRG.PWERRH, 23, 16⟩
def BRG.PWERRH_DETAIL : Fld := ⟨BRG.PWERRH, 30, 24⟩
def BRG.PWERRH_VALID : Fld := ⟨BRG.PWERRH, 31, 31⟩
/-- BRG.PWERRT (R427). -/
def BRG.PWERRT : Nat := 0x90000 + 0x18
def BRG.PWERRT_TAG : Fld := ⟨BRG.PWERRT, 11, 0⟩
def BRG.PWERRT_LOST : Fld := ⟨BRG.PWERRT, 31, 16⟩
/-- BRG.IMASK (R427). -/
def BRG.IMASK : Nat := 0x90000 + 0x20
def BRG.IMASK_EN : Fld := ⟨BRG.IMASK, 10, 0⟩
/-- BRG.IPEND (R427). -/
def BRG.IPEND : Nat := 0x90000 + 0x24
def BRG.IPEND_PEND : Fld := ⟨BRG.IPEND, 10, 0⟩
/-- BRG.HWINL (R427). -/
def BRG.HWINL (k : Nat) : Nat := 0x90000 + 0x30 + 0x10 * k
def BRG.HWINL_BASEL (k : Nat) : Fld := ⟨BRG.HWINL k, 31, 0⟩
/-- BRG.HWINH (R427). -/
def BRG.HWINH (k : Nat) : Nat := 0x90000 + 0x34 + 0x10 * k
def BRG.HWINH_BASEH (k : Nat) : Fld := ⟨BRG.HWINH k, 15, 0⟩
/-- BRG.HWINS (R427). -/
def BRG.HWINS (k : Nat) : Nat := 0x90000 + 0x38 + 0x10 * k
def BRG.HWINS_SIZE (k : Nat) : Fld := ⟨BRG.HWINS k, 31, 0⟩
/-- BRG.CNT0 (R427). -/
def BRG.CNT0 : Nat := 0x90000 + 0x70
def BRG.CNT0_RETRYTX : Fld := ⟨BRG.CNT0, 15, 0⟩
def BRG.CNT0_NOBUF : Fld := ⟨BRG.CNT0, 31, 16⟩
/-- BRG.CNT1 (R427). -/
def BRG.CNT1 : Nat := 0x90000 + 0x74
def BRG.CNT1_DRDISCARD : Fld := ⟨BRG.CNT1, 15, 0⟩
def BRG.CNT1_REFUSED : Fld := ⟨BRG.CNT1, 31, 16⟩
/-- BRG.CNT2 (R427). -/
def BRG.CNT2 : Nat := 0x90000 + 0x78
def BRG.CNT2_QFULL : Fld := ⟨BRG.CNT2, 15, 0⟩
def BRG.CNT2_LOCKTO : Fld := ⟨BRG.CNT2, 31, 16⟩
/-- BRG.CNT3 (R427). -/
def BRG.CNT3 : Nat := 0x90000 + 0x7C
def BRG.CNT3_TUNERR : Fld := ⟨BRG.CNT3, 15, 0⟩
/-- BRG.CNTCLR (R427). -/
def BRG.CNTCLR : Nat := 0x90000 + 0x80
def BRG.CNTCLR_CLR : Fld := ⟨BRG.CNTCLR, 0, 0⟩
/-- PEER.PCTL (R506). -/
def PEER.PCTL : Nat := 0xA0000 + 0x0
def PEER.PCTL_CATCHUP : Fld := ⟨PEER.PCTL, 1, 0⟩
/-- PEER.PSTAT (R506). -/
def PEER.PSTAT : Nat := 0xA0000 + 0x4
def PEER.PSTAT_STATE : Fld := ⟨PEER.PSTAT, 2, 0⟩
def PEER.PSTAT_DEV : Fld := ⟨PEER.PSTAT, 5, 4⟩
def PEER.PSTAT_MISSED : Fld := ⟨PEER.PSTAT, 15, 8⟩
def PEER.PSTAT_LEVEL : Fld := ⟨PEER.PSTAT, 31, 16⟩
/-- PEER.PLEVEL (R506). -/
def PEER.PLEVEL : Nat := 0xA0000 + 0x8
def PEER.PLEVEL_PMIN : Fld := ⟨PEER.PLEVEL, 15, 0⟩
def PEER.PLEVEL_PMAX : Fld := ⟨PEER.PLEVEL, 31, 16⟩
/-- PEER.PPEER (R506). -/
def PEER.PPEER : Nat := 0xA0000 + 0xC
def PEER.PPEER_PMIN : Fld := ⟨PEER.PPEER, 15, 0⟩
def PEER.PPEER_PMAX : Fld := ⟨PEER.PPEER, 31, 16⟩
/-- PEER.PSKEW (R506). -/
def PEER.PSKEW : Nat := 0xA0000 + 0x10
def PEER.PSKEW_SKEW : Fld := ⟨PEER.PSKEW, 31, 0⟩
/-- PEER.PLASTB (R506). -/
def PEER.PLASTB : Nat := 0xA0000 + 0x14
def PEER.PLASTB_TBEAT : Fld := ⟨PEER.PLASTB, 31, 0⟩
/-- PEER.PCNT0 (R506). -/
def PEER.PCNT0 : Nat := 0xA0000 + 0x20
def PEER.PCNT0_TAKEOVERS : Fld := ⟨PEER.PCNT0, 15, 0⟩
def PEER.PCNT0_HANDOVERS : Fld := ⟨PEER.PCNT0, 31, 16⟩
/-- PEER.PCNT1 (R506). -/
def PEER.PCNT1 : Nat := 0xA0000 + 0x24
def PEER.PCNT1_BEATMISS : Fld := ⟨PEER.PCNT1, 15, 0⟩
def PEER.PCNT1_REINIT : Fld := ⟨PEER.PCNT1, 31, 16⟩
/-- PEER.PCNT2 (R506). -/
def PEER.PCNT2 : Nat := 0xA0000 + 0x28
def PEER.PCNT2_REPLAYED : Fld := ⟨PEER.PCNT2, 15, 0⟩
def PEER.PCNT2_NOTICED : Fld := ⟨PEER.PCNT2, 31, 16⟩
/-- PEER.PRIMA (R506). -/
def PEER.PRIMA (k : Nat) : Nat := 0xA0000 + 0x40 + 0x4 * k
def PEER.PRIMA_PRIMA (k : Nat) : Fld := ⟨PEER.PRIMA k, 31, 0⟩
/-- PEER.ARMED (R506). -/
def PEER.ARMED (k : Nat) : Nat := 0xA0000 + 0x60 + 0x4 * k
def PEER.ARMED_ARMED (k : Nat) : Fld := ⟨PEER.ARMED k, 31, 0⟩
/-- DMA.DMACTL (R572). -/
def DMA.DMACTL : Nat := 0xC0000 + 0x0
def DMA.DMACTL_CLR : Fld := ⟨DMA.DMACTL, 0, 0⟩
/-- DMA.DMACNT (R572). -/
def DMA.DMACNT : Nat := 0xC0000 + 0x4
def DMA.DMACNT_ERRORS : Fld := ⟨DMA.DMACNT, 15, 0⟩
def DMA.DMACNT_IGNGO : Fld := ⟨DMA.DMACNT, 31, 16⟩
/-- DMA.GRANT (R572). -/
def DMA.GRANT : Nat := 0xC0000 + 0x10
def DMA.GRANT_MASK : Fld := ⟨DMA.GRANT, 31, 0⟩
/-- DMA.GRANTUL (R572). -/
def DMA.GRANTUL : Nat := 0xC0000 + 0x14
def DMA.GRANTUL_UNTIL : Fld := ⟨DMA.GRANTUL, 31, 0⟩
/-- DMA.GRANTUH (R572). -/
def DMA.GRANTUH : Nat := 0xC0000 + 0x18
def DMA.GRANTUH_UNTIL : Fld := ⟨DMA.GRANTUH, 31, 0⟩
/-- DMA.EVFLAG (R572). -/
def DMA.EVFLAG (k : Nat) : Nat := 0xC0000 + 0x20 + 0x4 * k
def DMA.EVFLAG_FLAG (k : Nat) : Fld := ⟨DMA.EVFLAG k, 31, 0⟩
/-- DMA.EVSET (R572). -/
def DMA.EVSET (k : Nat) : Nat := 0xC0000 + 0x28 + 0x4 * k
def DMA.EVSET_SET (k : Nat) : Fld := ⟨DMA.EVSET k, 31, 0⟩
/-- DMA.EVCLR (R572). -/
def DMA.EVCLR (k : Nat) : Nat := 0xC0000 + 0x30 + 0x4 * k
def DMA.EVCLR_CLR (k : Nat) : Fld := ⟨DMA.EVCLR k, 31, 0⟩
/-- DMA.CHCTL (R572). -/
def DMA.CHCTL (k : Nat) : Nat := 0xC0000 + 0x100 + 0x20 * k
def DMA.CHCTL_GO (k : Nat) : Fld := ⟨DMA.CHCTL k, 0, 0⟩
def DMA.CHCTL_ABORT (k : Nat) : Fld := ⟨DMA.CHCTL k, 1, 1⟩
/-- DMA.CHDESCL (R572). -/
def DMA.CHDESCL (k : Nat) : Nat := 0xC0000 + 0x104 + 0x20 * k
def DMA.CHDESCL_ADDR (k : Nat) : Fld := ⟨DMA.CHDESCL k, 31, 0⟩
/-- DMA.CHDESCH (R572). -/
def DMA.CHDESCH (k : Nat) : Nat := 0xC0000 + 0x108 + 0x20 * k
def DMA.CHDESCH_ADDR (k : Nat) : Fld := ⟨DMA.CHDESCH k, 15, 0⟩
/-- DMA.CHSTAT (R572). -/
def DMA.CHSTAT (k : Nat) : Nat := 0xC0000 + 0x10C + 0x20 * k
def DMA.CHSTAT_STATE (k : Nat) : Fld := ⟨DMA.CHSTAT k, 2, 0⟩
def DMA.CHSTAT_CODE (k : Nat) : Fld := ⟨DMA.CHSTAT k, 15, 8⟩
def DMA.CHSTAT_PC (k : Nat) : Fld := ⟨DMA.CHSTAT k, 31, 16⟩
/-- DMA.CHCUR (R572). -/
def DMA.CHCUR (k : Nat) : Nat := 0xC0000 + 0x110 + 0x20 * k
def DMA.CHCUR_ADDRL (k : Nat) : Fld := ⟨DMA.CHCUR k, 31, 0⟩
/-- DMA.CHMOVED (R572). -/
def DMA.CHMOVED (k : Nat) : Nat := 0xC0000 + 0x114 + 0x20 * k
def DMA.CHMOVED_MOVED (k : Nat) : Fld := ⟨DMA.CHMOVED k, 31, 0⟩
/-- CAN.CTL (R590). -/
def CAN.CTL (i : Nat) : Nat := 0xD0000 + 0x8000 * i + 0x0
def CAN.CTL_EN (i : Nat) : Fld := ⟨CAN.CTL i, 0, 0⟩
def CAN.CTL_FDEN (i : Nat) : Fld := ⟨CAN.CTL i, 1, 1⟩
def CAN.CTL_LISTEN (i : Nat) : Fld := ⟨CAN.CTL i, 2, 2⟩
def CAN.CTL_ONESHOT (i : Nat) : Fld := ⟨CAN.CTL i, 3, 3⟩
def CAN.CTL_AUTOREC (i : Nat) : Fld := ⟨CAN.CTL i, 4, 4⟩
def CAN.CTL_YAWNEG (i : Nat) : Fld := ⟨CAN.CTL i, 5, 5⟩
def CAN.CTL_CLR (i : Nat) : Fld := ⟨CAN.CTL i, 6, 6⟩
/-- CAN.NBT (R590). -/
def CAN.NBT (i : Nat) : Nat := 0xD0000 + 0x8000 * i + 0x4
def CAN.NBT_BRP (i : Nat) : Fld := ⟨CAN.NBT i, 7, 0⟩
def CAN.NBT_NTQ (i : Nat) : Fld := ⟨CAN.NBT i, 15, 8⟩
def CAN.NBT_SP (i : Nat) : Fld := ⟨CAN.NBT i, 23, 16⟩
def CAN.NBT_SJW (i : Nat) : Fld := ⟨CAN.NBT i, 31, 24⟩
/-- CAN.DBT (R590). -/
def CAN.DBT (i : Nat) : Nat := 0xD0000 + 0x8000 * i + 0x8
def CAN.DBT_BRP (i : Nat) : Fld := ⟨CAN.DBT i, 7, 0⟩
def CAN.DBT_NTQ (i : Nat) : Fld := ⟨CAN.DBT i, 15, 8⟩
def CAN.DBT_SP (i : Nat) : Fld := ⟨CAN.DBT i, 23, 16⟩
def CAN.DBT_SJW (i : Nat) : Fld := ⟨CAN.DBT i, 31, 24⟩
/-- CAN.TXLIFE (R590). -/
def CAN.TXLIFE (i : Nat) : Nat := 0xD0000 + 0x8000 * i + 0xC
def CAN.TXLIFE_MS (i : Nat) : Fld := ⟨CAN.TXLIFE i, 15, 0⟩
/-- CAN.STAT (R590). -/
def CAN.STAT (i : Nat) : Nat := 0xD0000 + 0x8000 * i + 0x10
def CAN.STAT_STATE (i : Nat) : Fld := ⟨CAN.STAT i, 1, 0⟩
def CAN.STAT_VEHOK (i : Nat) : Fld := ⟨CAN.STAT i, 2, 2⟩
def CAN.STAT_YAWOK (i : Nat) : Fld := ⟨CAN.STAT i, 3, 3⟩
def CAN.STAT_SOURCE (i : Nat) : Fld := ⟨CAN.STAT i, 4, 4⟩
def CAN.STAT_TXDEPTH (i : Nat) : Fld := ⟨CAN.STAT i, 15, 8⟩
def CAN.STAT_RXFILL (i : Nat) : Fld := ⟨CAN.STAT i, 22, 16⟩
/-- CAN.ERRC (R590). -/
def CAN.ERRC (i : Nat) : Nat := 0xD0000 + 0x8000 * i + 0x14
def CAN.ERRC_TEC (i : Nat) : Fld := ⟨CAN.ERRC i, 7, 0⟩
def CAN.ERRC_REC (i : Nat) : Fld := ⟨CAN.ERRC i, 23, 16⟩
/-- CAN.VEHSA (R590). -/
def CAN.VEHSA (i : Nat) : Nat := 0xD0000 + 0x8000 * i + 0x18
def CAN.VEHSA_SA (i : Nat) : Fld := ⟨CAN.VEHSA i, 7, 0⟩
/-- CAN.VSPD (R590). -/
def CAN.VSPD (i : Nat) : Nat := 0xD0000 + 0x8000 * i + 0x1C
def CAN.VSPD_V (i : Nat) : Fld := ⟨CAN.VSPD i, 31, 0⟩
/-- CAN.VYAW (R590). -/
def CAN.VYAW (i : Nat) : Nat := 0xD0000 + 0x8000 * i + 0x20
def CAN.VYAW_OMEGA (i : Nat) : Fld := ⟨CAN.VYAW i, 31, 0⟩
/-- CAN.CNT0 (R590). -/
def CAN.CNT0 (i : Nat) : Nat := 0xD0000 + 0x8000 * i + 0x24
def CAN.CNT0_RXFRAMES (i : Nat) : Fld := ⟨CAN.CNT0 i, 15, 0⟩
def CAN.CNT0_TXFRAMES (i : Nat) : Fld := ⟨CAN.CNT0 i, 31, 16⟩
/-- CAN.CNT1 (R590). -/
def CAN.CNT1 (i : Nat) : Nat := 0xD0000 + 0x8000 * i + 0x28
def CAN.CNT1_RXLOST (i : Nat) : Fld := ⟨CAN.CNT1 i, 15, 0⟩
def CAN.CNT1_TXABORT (i : Nat) : Fld := ⟨CAN.CNT1 i, 31, 16⟩
/-- CAN.CNT2 (R590). -/
def CAN.CNT2 (i : Nat) : Nat := 0xD0000 + 0x8000 * i + 0x2C
def CAN.CNT2_VEHBAD (i : Nat) : Fld := ⟨CAN.CNT2 i, 15, 0⟩
def CAN.CNT2_BUSOFF (i : Nat) : Fld := ⟨CAN.CNT2 i, 31, 16⟩
/-- CAN.WCTL (R590). -/
def CAN.WCTL (i : Nat) : Nat := 0xD0000 + 0x8000 * i + 0x40
def CAN.WCTL_WKIND (i : Nat) : Fld := ⟨CAN.WCTL i, 1, 0⟩
/-- CAN.WID (R590). -/
def CAN.WID (i : Nat) : Nat := 0xD0000 + 0x8000 * i + 0x44
def CAN.WID_ID (i : Nat) : Fld := ⟨CAN.WID i, 31, 0⟩
/-- CAN.WMASK (R590). -/
def CAN.WMASK (i : Nat) : Nat := 0xD0000 + 0x8000 * i + 0x48
def CAN.WMASK_MASK (i : Nat) : Fld := ⟨CAN.WMASK i, 31, 0⟩
/-- CAN.WDATAL (R590). -/
def CAN.WDATAL (i : Nat) : Nat := 0xD0000 + 0x8000 * i + 0x4C
def CAN.WDATAL_DATA (i : Nat) : Fld := ⟨CAN.WDATAL i, 31, 0⟩
/-- CAN.WDATAH (R590). -/
def CAN.WDATAH (i : Nat) : Nat := 0xD0000 + 0x8000 * i + 0x50
def CAN.WDATAH_DATA (i : Nat) : Fld := ⟨CAN.WDATAH i, 31, 0⟩
/-- CAN.WDMASKL (R590). -/
def CAN.WDMASKL (i : Nat) : Nat := 0xD0000 + 0x8000 * i + 0x54
def CAN.WDMASKL_DMASK (i : Nat) : Fld := ⟨CAN.WDMASKL i, 31, 0⟩
/-- CAN.WDMASKH (R590). -/
def CAN.WDMASKH (i : Nat) : Nat := 0xD0000 + 0x8000 * i + 0x58
def CAN.WDMASKH_DMASK (i : Nat) : Fld := ⟨CAN.WDMASKH i, 31, 0⟩
/-- CAN.FID (R590). -/
def CAN.FID (i : Nat) (k : Nat) : Nat := 0xD0000 + 0x8000 * i + 0x100 + 0x10 * k
def CAN.FID_ID (i : Nat) (k : Nat) : Fld := ⟨CAN.FID i k, 31, 0⟩
/-- CAN.FMASK (R590). -/
def CAN.FMASK (i : Nat) (k : Nat) : Nat := 0xD0000 + 0x8000 * i + 0x104 + 0x10 * k
def CAN.FMASK_MASK (i : Nat) (k : Nat) : Fld := ⟨CAN.FMASK i k, 31, 0⟩
/-- CAN.FACT (R590). -/
def CAN.FACT (i : Nat) (k : Nat) : Nat := 0xD0000 + 0x8000 * i + 0x108 + 0x10 * k
def CAN.FACT_ACTION (i : Nat) (k : Nat) : Fld := ⟨CAN.FACT i k, 1, 0⟩
/-- I2CA.ADRS (R603). -/
def I2CA.ADRS : Nat := 0xE0000 + 0x0
def I2CA.ADRS_MGMT : Fld := ⟨I2CA.ADRS, 6, 0⟩
def I2CA.ADRS_KEEPER : Fld := ⟨I2CA.ADRS, 14, 8⟩
/-- I2CA.ADR2 (R603). -/
def I2CA.ADR2 : Nat := 0xE0000 + 0x4
def I2CA.ADR2_ADDR : Fld := ⟨I2CA.ADR2, 6, 0⟩
def I2CA.ADR2_EN : Fld := ⟨I2CA.ADR2, 7, 7⟩
/-- I2CA.ADR3 (R603). -/
def I2CA.ADR3 : Nat := 0xE0000 + 0x8
def I2CA.ADR3_ADDR : Fld := ⟨I2CA.ADR3, 6, 0⟩
def I2CA.ADR3_EN : Fld := ⟨I2CA.ADR3, 7, 7⟩
def I2CA.ADR3_MASK : Fld := ⟨I2CA.ADR3, 14, 8⟩
/-- I2CA.MSTAT (R603). -/
def I2CA.MSTAT : Nat := 0xE0000 + 0xC
def I2CA.MSTAT_CODE : Fld := ⟨I2CA.MSTAT, 7, 0⟩
def I2CA.MSTAT_DETAIL : Fld := ⟨I2CA.MSTAT, 15, 8⟩
def I2CA.MSTAT_ERRS : Fld := ⟨I2CA.MSTAT, 31, 16⟩
/-- I2CA.ISTAT (R603). -/
def I2CA.ISTAT : Nat := 0xE0000 + 0x10
def I2CA.ISTAT_MREADY : Fld := ⟨I2CA.ISTAT, 0, 0⟩
def I2CA.ISTAT_BUSY : Fld := ⟨I2CA.ISTAT, 1, 1⟩
def I2CA.ISTAT_CLR : Fld := ⟨I2CA.ISTAT, 2, 2⟩
/-- I2CA.IPTRL (R603). -/
def I2CA.IPTRL : Nat := 0xE0000 + 0x14
def I2CA.IPTRL_P : Fld := ⟨I2CA.IPTRL, 31, 0⟩
/-- I2CA.IPTRH (R603). -/
def I2CA.IPTRH : Nat := 0xE0000 + 0x18
def I2CA.IPTRH_P : Fld := ⟨I2CA.IPTRH, 15, 0⟩
/-- I2CA.ICNT (R603). -/
def I2CA.ICNT : Nat := 0xE0000 + 0x1C
def I2CA.ICNT_STRETCHTO : Fld := ⟨I2CA.ICNT, 15, 0⟩
/-- I2CB.CTL (R604). -/
def I2CB.CTL : Nat := 0xE8000 + 0x0
def I2CB.CTL_EN : Fld := ⟨I2CB.CTL, 0, 0⟩
def I2CB.CTL_SPEED : Fld := ⟨I2CB.CTL, 2, 1⟩
def I2CB.CTL_GO : Fld := ⟨I2CB.CTL, 3, 3⟩
def I2CB.CTL_CLRSTUCK : Fld := ⟨I2CB.CTL, 4, 4⟩
def I2CB.CTL_CLR : Fld := ⟨I2CB.CTL, 5, 5⟩
/-- I2CB.TXN (R604). -/
def I2CB.TXN : Nat := 0xE8000 + 0x4
def I2CB.TXN_ADDR : Fld := ⟨I2CB.TXN, 6, 0⟩
def I2CB.TXN_WLEN : Fld := ⟨I2CB.TXN, 14, 8⟩
def I2CB.TXN_RLEN : Fld := ⟨I2CB.TXN, 22, 16⟩
/-- I2CB.STAT (R604). -/
def I2CB.STAT : Nat := 0xE8000 + 0x8
def I2CB.STAT_STATE : Fld := ⟨I2CB.STAT, 2, 0⟩
def I2CB.STAT_CODE : Fld := ⟨I2CB.STAT, 15, 8⟩
def I2CB.STAT_NDONE : Fld := ⟨I2CB.STAT, 22, 16⟩
/-- I2CB.CNT (R604). -/
def I2CB.CNT : Nat := 0xE8000 + 0xC
def I2CB.CNT_CLEARS : Fld := ⟨I2CB.CNT, 15, 0⟩
def I2CB.CNT_ERRORS : Fld := ⟨I2CB.CNT, 31, 16⟩
/-- I2CB.DATA (R604). -/
def I2CB.DATA (k : Nat) : Nat := 0xE8000 + 0x40 + 0x4 * k
def I2CB.DATA_D (k : Nat) : Fld := ⟨I2CB.DATA k, 31, 0⟩
/-- MBX.INFO (R457). -/
def MBX.INFO : Nat := 0xF0000 + 0x0
def MBX.INFO_SHI : Fld := ⟨MBX.INFO, 15, 0⟩
def MBX.INFO_SHIMIN : Fld := ⟨MBX.INFO, 31, 16⟩
/-- MBX.SERVE (R457). -/
def MBX.SERVE : Nat := 0xF0000 + 0x4
def MBX.SERVE_SERVING : Fld := ⟨MBX.SERVE, 0, 0⟩
def MBX.SERVE_ACTPAIR : Fld := ⟨MBX.SERVE, 1, 1⟩
/-- MBX.CHRST (R457). -/
def MBX.CHRST : Nat := 0xF0000 + 0x8
def MBX.CHRST_CH : Fld := ⟨MBX.CHRST, 5, 0⟩
def MBX.CHRST_GO : Fld := ⟨MBX.CHRST, 31, 31⟩
/-- MBX.CHERR0 (R457). -/
def MBX.CHERR0 : Nat := 0xF0000 + 0x10
def MBX.CHERR0_ERR : Fld := ⟨MBX.CHERR0, 31, 0⟩
/-- MBX.CHERR1 (R457). -/
def MBX.CHERR1 : Nat := 0xF0000 + 0x14
def MBX.CHERR1_ERR : Fld := ⟨MBX.CHERR1, 31, 0⟩
/-- MBX.DB (R457). -/
def MBX.DB (k : Nat) : Nat := 0xF0000 + 0x1000 + 0x10 * k
def MBX.DB_CPI (k : Nat) : Fld := ⟨MBX.DB k, 15, 0⟩
/-- MBX.RCI (R457). -/
def MBX.RCI (k : Nat) : Nat := 0xF0000 + 0x1004 + 0x10 * k
def MBX.RCI_RCI (k : Nat) : Fld := ⟨MBX.RCI k, 15, 0⟩
/-- MBX.IDX (R457). -/
def MBX.IDX (k : Nat) : Nat := 0xF0000 + 0x1008 + 0x10 * k
def MBX.IDX_CCI (k : Nat) : Fld := ⟨MBX.IDX k, 15, 0⟩
def MBX.IDX_RPI (k : Nat) : Fld := ⟨MBX.IDX k, 31, 16⟩
/-- MBX.CST (R457). -/
def MBX.CST (k : Nat) : Nat := 0xF0000 + 0x100C + 0x10 * k
def MBX.CST_STATE (k : Nat) : Fld := ⟨MBX.CST k, 2, 0⟩
def MBX.CST_COMPAT (k : Nat) : Fld := ⟨MBX.CST k, 3, 3⟩
def MBX.CST_LEVEL (k : Nat) : Fld := ⟨MBX.CST k, 31, 16⟩
/-- XBAR.MAP (R190). -/
def XBAR.MAP (k : Nat) : Nat := 0x100000 + 0x0 + 0x4 * k
def XBAR.MAP_CUR (k : Nat) : Fld := ⟨XBAR.MAP k, 7, 0⟩
def XBAR.MAP_NEXT (k : Nat) : Fld := ⟨XBAR.MAP k, 15, 8⟩
def XBAR.MAP_PEND (k : Nat) : Fld := ⟨XBAR.MAP k, 16, 16⟩
/-- XBAR.RMAP (R190). -/
def XBAR.RMAP (k : Nat) : Nat := 0x100000 + 0x400 + 0x4 * k
def XBAR.RMAP_PORT (k : Nat) : Fld := ⟨XBAR.RMAP k, 7, 0⟩
def XBAR.RMAP_PORT2 (k : Nat) : Fld := ⟨XBAR.RMAP k, 15, 8⟩
def XBAR.RMAP_DUAL (k : Nat) : Fld := ⟨XBAR.RMAP k, 16, 16⟩
/-- XBAR.ROTPER (R531). -/
def XBAR.ROTPER : Nat := 0x100000 + 0x800
def XBAR.ROTPER_PERIOD : Fld := ⟨XBAR.ROTPER, 31, 0⟩
/-- XBAR.ROTCTL (R531). -/
def XBAR.ROTCTL : Nat := 0x100000 + 0x804
def XBAR.ROTCTL_MAXWIN : Fld := ⟨XBAR.ROTCTL, 2, 0⟩
def XBAR.ROTCTL_PAUSE : Fld := ⟨XBAR.ROTCTL, 3, 3⟩
def XBAR.ROTCTL_CLR : Fld := ⟨XBAR.ROTCTL, 4, 4⟩
/-- XBAR.ROTSTAT (R531). -/
def XBAR.ROTSTAT : Nat := 0x100000 + 0x808
def XBAR.ROTSTAT_ACTIVE : Fld := ⟨XBAR.ROTSTAT, 2, 0⟩
def XBAR.ROTSTAT_PCAUSE : Fld := ⟨XBAR.ROTSTAT, 7, 4⟩
def XBAR.ROTSTAT_FREE : Fld := ⟨XBAR.ROTSTAT, 15, 8⟩
def XBAR.ROTSTAT_RETIRED : Fld := ⟨XBAR.ROTSTAT, 23, 16⟩
def XBAR.ROTSTAT_NEXT : Fld := ⟨XBAR.ROTSTAT, 31, 24⟩
/-- XBAR.ROTCYC (R531). -/
def XBAR.ROTCYC : Nat := 0x100000 + 0x80C
def XBAR.ROTCYC_CYCLES : Fld := ⟨XBAR.ROTCYC, 31, 0⟩
/-- XBAR.ROTCNT0 (R531). -/
def XBAR.ROTCNT0 : Nat := 0x100000 + 0x810
def XBAR.ROTCNT0_WINDOWS : Fld := ⟨XBAR.ROTCNT0, 15, 0⟩
def XBAR.ROTCNT0_TRANSIENT : Fld := ⟨XBAR.ROTCNT0, 31, 16⟩
/-- XBAR.ROTCNT1 (R531). -/
def XBAR.ROTCNT1 : Nat := 0x100000 + 0x814
def XBAR.ROTCNT1_REPAIRS : Fld := ⟨XBAR.ROTCNT1, 15, 0⟩
def XBAR.ROTCNT1_DEFERRED : Fld := ⟨XBAR.ROTCNT1, 31, 16⟩
/-- XBAR.SPAREMAP (R531). -/
def XBAR.SPAREMAP (k : Nat) : Nat := 0x100000 + 0x820 + 0x4 * k
def XBAR.SPAREMAP_SPARE (k : Nat) : Fld := ⟨XBAR.SPAREMAP k, 31, 0⟩
/-- XBAR.RETMAP (R531). -/
def XBAR.RETMAP (k : Nat) : Nat := 0x100000 + 0x840 + 0x4 * k
def XBAR.RETMAP_RET (k : Nat) : Fld := ⟨XBAR.RETMAP k, 31, 0⟩
/-- XBAR.DROPMAP (R531). -/
def XBAR.DROPMAP (k : Nat) : Nat := 0x100000 + 0x860 + 0x4 * k
def XBAR.DROPMAP_DROP (k : Nat) : Fld := ⟨XBAR.DROPMAP k, 31, 0⟩
/-- XBAR.SHAREMAP (R531). -/
def XBAR.SHAREMAP (k : Nat) : Nat := 0x100000 + 0x880 + 0x4 * k
def XBAR.SHAREMAP_SHARE (k : Nat) : Fld := ⟨XBAR.SHAREMAP k, 31, 0⟩
/-- HP.PSTAT (R140). -/
def HP.PSTAT (i : Nat) : Nat := 0x200000 + 0x4000 * i + 0x0
def HP.PSTAT_PSTATE (i : Nat) : Fld := ⟨HP.PSTAT i, 3, 0⟩
def HP.PSTAT_WEAR (i : Nat) : Fld := ⟨HP.PSTAT i, 5, 4⟩
def HP.PSTAT_AUTH (i : Nat) : Fld := ⟨HP.PSTAT i, 7, 6⟩
def HP.PSTAT_DUAL (i : Nat) : Fld := ⟨HP.PSTAT i, 8, 8⟩
def HP.PSTAT_MASTER (i : Nat) : Fld := ⟨HP.PSTAT i, 9, 9⟩
def HP.PSTAT_HITLESS (i : Nat) : Fld := ⟨HP.PSTAT i, 10, 10⟩
def HP.PSTAT_OVT (i : Nat) : Fld := ⟨HP.PSTAT i, 11, 11⟩
def HP.PSTAT_DVER (i : Nat) : Fld := ⟨HP.PSTAT i, 31, 16⟩
/-- HP.PCTL (R141). -/
def HP.PCTL (i : Nat) : Nat := 0x200000 + 0x4000 * i + 0x4
def HP.PCTL_ALLOW_UNAUTH (i : Nat) : Fld := ⟨HP.PCTL i, 0, 0⟩
def HP.PCTL_RSPTO (i : Nat) : Fld := ⟨HP.PCTL i, 15, 8⟩
def HP.PCTL_REAUTH (i : Nat) : Fld := ⟨HP.PCTL i, 23, 16⟩
/-- HP.HSERIAL (R142). -/
def HP.HSERIAL (i : Nat) (k : Nat) : Nat := 0x200000 + 0x4000 * i + 0x10 + 0x4 * k
def HP.HSERIAL_SER (i : Nat) (k : Nat) : Fld := ⟨HP.HSERIAL i k, 31, 0⟩
/-- HP.PCNT0 (R142). -/
def HP.PCNT0 (i : Nat) : Nat := 0x200000 + 0x4000 * i + 0x20
def HP.PCNT0_HCRCERR (i : Nat) : Fld := ⟨HP.PCNT0 i, 15, 0⟩
def HP.PCNT0_BADTYPE (i : Nat) : Fld := ⟨HP.PCNT0 i, 31, 16⟩
/-- HP.PCNT1 (R142). -/
def HP.PCNT1 (i : Nat) : Nat := 0x200000 + 0x4000 * i + 0x24
def HP.PCNT1_BCTIMEOUT (i : Nat) : Fld := ⟨HP.PCNT1 i, 15, 0⟩
def HP.PCNT1_RSPCRC (i : Nat) : Fld := ⟨HP.PCNT1 i, 31, 16⟩
/-- HP.INGGEOM (R189). -/
def HP.INGGEOM (i : Nat) : Nat := 0x200000 + 0x4000 * i + 0x400
def HP.INGGEOM_WIDTH (i : Nat) : Fld := ⟨HP.INGGEOM i, 13, 0⟩
def HP.INGGEOM_HEIGHT (i : Nat) : Fld := ⟨HP.INGGEOM i, 29, 16⟩
/-- HP.INGFMT (R189). -/
def HP.INGFMT (i : Nat) : Nat := 0x200000 + 0x4000 * i + 0x404
def HP.INGFMT_DT (i : Nat) : Fld := ⟨HP.INGFMT i, 5, 0⟩
def HP.INGFMT_HDR (i : Nat) : Fld := ⟨HP.INGFMT i, 6, 6⟩
def HP.INGFMT_FILLMODE (i : Nat) : Fld := ⟨HP.INGFMT i, 7, 7⟩
def HP.INGFMT_STAGGER (i : Nat) : Fld := ⟨HP.INGFMT i, 14, 8⟩
def HP.INGFMT_LWDOG (i : Nat) : Fld := ⟨HP.INGFMT i, 23, 16⟩
def HP.INGFMT_FWDOG (i : Nat) : Fld := ⟨HP.INGFMT i, 31, 24⟩
/-- HP.INGLT (R189). -/
def HP.INGLT (i : Nat) : Nat := 0x200000 + 0x4000 * i + 0x408
def HP.INGLT_LTIME (i : Nat) : Fld := ⟨HP.INGLT i, 31, 0⟩
/-- HP.INGFPER (R189). -/
def HP.INGFPER (i : Nat) : Nat := 0x200000 + 0x4000 * i + 0x40C
def HP.INGFPER_FPERIOD (i : Nat) : Fld := ⟨HP.INGFPER i, 31, 0⟩
/-- HP.INGFILL (R189). -/
def HP.INGFILL (i : Nat) : Nat := 0x200000 + 0x4000 * i + 0x410
def HP.INGFILL_FILLV (i : Nat) : Fld := ⟨HP.INGFILL i, 15, 0⟩
/-- HP.INGKNEE (R189). -/
def HP.INGKNEE (i : Nat) : Nat := 0x200000 + 0x4000 * i + 0x414
def HP.INGKNEE_T0 (i : Nat) : Fld := ⟨HP.INGKNEE i, 15, 0⟩
def HP.INGKNEE_T1 (i : Nat) : Fld := ⟨HP.INGKNEE i, 31, 16⟩
/-- HP.INGSTAT (R189). -/
def HP.INGSTAT (i : Nat) : Nat := 0x200000 + 0x4000 * i + 0x418
def HP.INGSTAT_FSTATE (i : Nat) : Fld := ⟨HP.INGSTAT i, 1, 0⟩
def HP.INGSTAT_OVFNOW (i : Nat) : Fld := ⟨HP.INGSTAT i, 2, 2⟩
def HP.INGSTAT_LASTLINE (i : Nat) : Fld := ⟨HP.INGSTAT i, 29, 16⟩
/-- HP.INGFN (R189). -/
def HP.INGFN (i : Nat) : Nat := 0x200000 + 0x4000 * i + 0x41C
def HP.INGFN_FN (i : Nat) : Fld := ⟨HP.INGFN i, 31, 0⟩
/-- HP.INGLAST (R189). -/
def HP.INGLAST (i : Nat) (k : Nat) : Nat := 0x200000 + 0x4000 * i + 0x420 + 0x4 * k
def HP.INGLAST_REC (i : Nat) (k : Nat) : Fld := ⟨HP.INGLAST i k, 31, 0⟩
/-- HP.ICNT0 (R189). -/
def HP.ICNT0 (i : Nat) : Nat := 0x200000 + 0x4000 * i + 0x460
def HP.ICNT0_LCRCERR (i : Nat) : Fld := ⟨HP.ICNT0 i, 15, 0⟩
def HP.ICNT0_MALFORMED (i : Nat) : Fld := ⟨HP.ICNT0 i, 31, 16⟩
/-- HP.ICNT1 (R189). -/
def HP.ICNT1 (i : Nat) : Nat := 0x200000 + 0x4000 * i + 0x464
def HP.ICNT1_ORPHAN (i : Nat) : Fld := ⟨HP.ICNT1 i, 15, 0⟩
def HP.ICNT1_LATEDISC (i : Nat) : Fld := ⟨HP.ICNT1 i, 31, 16⟩
/-- HP.ICNT2 (R189). -/
def HP.ICNT2 (i : Nat) : Nat := 0x200000 + 0x4000 * i + 0x468
def HP.ICNT2_LONGDROP (i : Nat) : Fld := ⟨HP.ICNT2 i, 15, 0⟩
def HP.ICNT2_OVFLINES (i : Nat) : Fld := ⟨HP.ICNT2 i, 31, 16⟩
/-- HP.ICNT3 (R189). -/
def HP.ICNT3 (i : Nat) : Nat := 0x200000 + 0x4000 * i + 0x46C
def HP.ICNT3_JUMPS (i : Nat) : Fld := ⟨HP.ICNT3 i, 15, 0⟩
def HP.ICNT3_DAMAGED (i : Nat) : Fld := ⟨HP.ICNT3 i, 31, 16⟩
/-- HP.ICNT4 (R189). -/
def HP.ICNT4 (i : Nat) : Nat := 0x200000 + 0x4000 * i + 0x470
def HP.ICNT4_DUPLINE (i : Nat) : Fld := ⟨HP.ICNT4 i, 15, 0⟩
def HP.ICNT4_HDRSINGLE (i : Nat) : Fld := ⟨HP.ICNT4 i, 31, 16⟩
/-- SL.NRCTL (R213). -/
def SL.NRCTL (i : Nat) : Nat := 0x800000 + 0x8000 * i + 0x1000
def SL.NRCTL_SNR_EN (i : Nat) : Fld := ⟨SL.NRCTL i, 0, 0⟩
def SL.NRCTL_TNR_EN (i : Nat) : Fld := ⟨SL.NRCTL i, 1, 1⟩
def SL.NRCTL_CLR (i : Nat) : Fld := ⟨SL.NRCTL i, 2, 2⟩
def SL.NRCTL_S (i : Nat) : Fld := ⟨SL.NRCTL i, 15, 8⟩
def SL.NRCTL_CW (i : Nat) : Fld := ⟨SL.NRCTL i, 27, 16⟩
/-- SL.NRLUT (R213). -/
def SL.NRLUT (i : Nat) (k : Nat) : Nat := 0x800000 + 0x8000 * i + 0x1004 + 0x4 * k
def SL.NRLUT_LUT (i : Nat) (k : Nat) : Fld := ⟨SL.NRLUT i k, 31, 0⟩
/-- SL.TNRCTL (R213). -/
def SL.TNRCTL (i : Nat) : Nat := 0x800000 + 0x8000 * i + 0x1014
def SL.TNRCTL_BMAX (i : Nat) : Fld := ⟨SL.TNRCTL i, 7, 0⟩
def SL.TNRCTL_KLO (i : Nat) : Fld := ⟨SL.TNRCTL i, 15, 8⟩
def SL.TNRCTL_KHI (i : Nat) : Fld := ⟨SL.TNRCTL i, 23, 16⟩
/-- SL.TNRLIM (R213). -/
def SL.TNRLIM (i : Nat) : Nat := 0x800000 + 0x8000 * i + 0x1018
def SL.TNRLIM_MAXMOT (i : Nat) : Fld := ⟨SL.TNRLIM i, 10, 0⟩
def SL.TNRLIM_REFAGE (i : Nat) : Fld := ⟨SL.TNRLIM i, 23, 16⟩
/-- SL.MOTION (R213). -/
def SL.MOTION (i : Nat) : Nat := 0x800000 + 0x8000 * i + 0x1020
def SL.MOTION_MOTX (i : Nat) : Fld := ⟨SL.MOTION i, 15, 0⟩
def SL.MOTION_MOTY (i : Nat) : Fld := ⟨SL.MOTION i, 31, 16⟩
/-- SL.MOTSTAT (R213). -/
def SL.MOTSTAT (i : Nat) : Nat := 0x800000 + 0x8000 * i + 0x1024
def SL.MOTSTAT_SRC (i : Nat) : Fld := ⟨SL.MOTSTAT i, 1, 0⟩
def SL.MOTSTAT_LATE (i : Nat) : Fld := ⟨SL.MOTSTAT i, 2, 2⟩
def SL.MOTSTAT_VALIDBLK (i : Nat) : Fld := ⟨SL.MOTSTAT i, 10, 4⟩
/-- SL.NMODEL (R213). -/
def SL.NMODEL (i : Nat) : Nat := 0x800000 + 0x8000 * i + 0x1028
def SL.NMODEL_SHOT (i : Nat) : Fld := ⟨SL.NMODEL i, 15, 0⟩
def SL.NMODEL_READ (i : Nat) : Fld := ⟨SL.NMODEL i, 31, 16⟩
/-- SL.GAIN (R213). -/
def SL.GAIN (i : Nat) : Nat := 0x800000 + 0x8000 * i + 0x102C
def SL.GAIN_G (i : Nat) : Fld := ⟨SL.GAIN i, 15, 0⟩
/-- SL.TNRSTAT (R213). -/
def SL.TNRSTAT (i : Nat) : Nat := 0x800000 + 0x8000 * i + 0x1030
def SL.TNRSTAT_WARMN (i : Nat) : Fld := ⟨SL.TNRSTAT i, 3, 0⟩
def SL.TNRSTAT_LCAUSE (i : Nat) : Fld := ⟨SL.TNRSTAT i, 7, 4⟩
def SL.TNRSTAT_REFSEL (i : Nat) : Fld := ⟨SL.TNRSTAT i, 8, 8⟩
/-- SL.NRCNT0 (R213). -/
def SL.NRCNT0 (i : Nat) : Nat := 0x800000 + 0x8000 * i + 0x1040
def SL.NRCNT0_MOTLATE (i : Nat) : Fld := ⟨SL.NRCNT0 i, 15, 0⟩
def SL.NRCNT0_REFLOSS (i : Nat) : Fld := ⟨SL.NRCNT0 i, 31, 16⟩
/-- SL.NRCNT1 (R213). -/
def SL.NRCNT1 (i : Nat) : Nat := 0x800000 + 0x8000 * i + 0x1044
def SL.NRCNT1_POISON (i : Nat) : Fld := ⟨SL.NRCNT1 i, 15, 0⟩
/-- SL.CLRCTL (R245). -/
def SL.CLRCTL (i : Nat) : Nat := 0x800000 + 0x8000 * i + 0x1100
def SL.CLRCTL_BLK_EN (i : Nat) : Fld := ⟨SL.CLRCTL i, 0, 0⟩
def SL.CLRCTL_SDEF_EN (i : Nat) : Fld := ⟨SL.CLRCTL i, 1, 1⟩
def SL.CLRCTL_DDEF_EN (i : Nat) : Fld := ⟨SL.CLRCTL i, 2, 2⟩
def SL.CLRCTL_SHD_EN (i : Nat) : Fld := ⟨SL.CLRCTL i, 3, 3⟩
def SL.CLRCTL_WB_EN (i : Nat) : Fld := ⟨SL.CLRCTL i, 4, 4⟩
def SL.CLRCTL_FCS_EN (i : Nat) : Fld := ⟨SL.CLRCTL i, 5, 5⟩
def SL.CLRCTL_SEP_EN (i : Nat) : Fld := ⟨SL.CLRCTL i, 6, 6⟩
def SL.CLRCTL_CCM_EN (i : Nat) : Fld := ⟨SL.CLRCTL i, 7, 7⟩
def SL.CLRCTL_IDX_EN (i : Nat) : Fld := ⟨SL.CLRCTL i, 8, 8⟩
def SL.CLRCTL_TONE_EN (i : Nat) : Fld := ⟨SL.CLRCTL i, 9, 9⟩
def SL.CLRCTL_GAMMA (i : Nat) : Fld := ⟨SL.CLRCTL i, 11, 10⟩
def SL.CLRCTL_CSC_STD (i : Nat) : Fld := ⟨SL.CLRCTL i, 12, 12⟩
def SL.CLRCTL_RANGE (i : Nat) : Fld := ⟨SL.CLRCTL i, 13, 13⟩
def SL.CLRCTL_BLKDESC (i : Nat) : Fld := ⟨SL.CLRCTL i, 14, 14⟩
def SL.CLRCTL_SHDSRC (i : Nat) : Fld := ⟨SL.CLRCTL i, 15, 15⟩
def SL.CLRCTL_NIRBYP (i : Nat) : Fld := ⟨SL.CLRCTL i, 16, 16⟩
/-- SL.BLKOFS0 (R245). -/
def SL.BLKOFS0 (i : Nat) : Nat := 0x800000 + 0x8000 * i + 0x1104
def SL.BLKOFS0_OFS0 (i : Nat) : Fld := ⟨SL.BLKOFS0 i, 15, 0⟩
def SL.BLKOFS0_OFS1 (i : Nat) : Fld := ⟨SL.BLKOFS0 i, 31, 16⟩
/-- SL.BLKOFS1 (R245). -/
def SL.BLKOFS1 (i : Nat) : Nat := 0x800000 + 0x8000 * i + 0x1108
def SL.BLKOFS1_OFS2 (i : Nat) : Fld := ⟨SL.BLKOFS1 i, 15, 0⟩
def SL.BLKOFS1_OFS3 (i : Nat) : Fld := ⟨SL.BLKOFS1 i, 31, 16⟩
/-- SL.DDEF (R245). -/
def SL.DDEF (i : Nat) : Nat := 0x800000 + 0x8000 * i + 0x110C
def SL.DDEF_DDK (i : Nat) : Fld := ⟨SL.DDEF i, 7, 0⟩
def SL.DDEF_DDMIN (i : Nat) : Fld := ⟨SL.DDEF i, 23, 8⟩
/-- SL.WBG0 (R245). -/
def SL.WBG0 (i : Nat) : Nat := 0x800000 + 0x8000 * i + 0x1110
def SL.WBG0_WB0 (i : Nat) : Fld := ⟨SL.WBG0 i, 15, 0⟩
def SL.WBG0_WB1 (i : Nat) : Fld := ⟨SL.WBG0 i, 31, 16⟩
/-- SL.WBG1 (R245). -/
def SL.WBG1 (i : Nat) : Nat := 0x800000 + 0x8000 * i + 0x1114
def SL.WBG1_WB2 (i : Nat) : Fld := ⟨SL.WBG1 i, 15, 0⟩
def SL.WBG1_WB3 (i : Nat) : Fld := ⟨SL.WBG1 i, 31, 16⟩
/-- SL.DMSCTL (R245). -/
def SL.DMSCTL (i : Nat) : Nat := 0x800000 + 0x8000 * i + 0x1118
def SL.DMSCTL_EDGET (i : Nat) : Fld := ⟨SL.DMSCTL i, 7, 0⟩
def SL.DMSCTL_FCS (i : Nat) : Fld := ⟨SL.DMSCTL i, 15, 8⟩
/-- SL.SHDGEOM (R245). -/
def SL.SHDGEOM (i : Nat) : Nat := 0x800000 + 0x8000 * i + 0x111C
def SL.SHDGEOM_MX (i : Nat) : Fld := ⟨SL.SHDGEOM i, 5, 0⟩
def SL.SHDGEOM_MY (i : Nat) : Fld := ⟨SL.SHDGEOM i, 12, 8⟩
/-- SL.SEP (R245). -/
def SL.SEP (i : Nat) (k : Nat) : Nat := 0x800000 + 0x8000 * i + 0x1120 + 0x4 * k
def SL.SEP_LO (i : Nat) (k : Nat) : Fld := ⟨SL.SEP i k, 15, 0⟩
def SL.SEP_HI (i : Nat) (k : Nat) : Fld := ⟨SL.SEP i k, 31, 16⟩
/-- SL.CCM (R245). -/
def SL.CCM (i : Nat) (k : Nat) : Nat := 0x800000 + 0x8000 * i + 0x1140 + 0x4 * k
def SL.CCM_LO (i : Nat) (k : Nat) : Fld := ⟨SL.CCM i k, 15, 0⟩
def SL.CCM_HI (i : Nat) (k : Nat) : Fld := ⟨SL.CCM i k, 31, 16⟩
/-- SL.CCMOFS (R245). -/
def SL.CCMOFS (i : Nat) (k : Nat) : Nat := 0x800000 + 0x8000 * i + 0x1154 + 0x4 * k
def SL.CCMOFS_O (i : Nat) (k : Nat) : Fld := ⟨SL.CCMOFS i k, 23, 0⟩
/-- SL.TONEW (R245). -/
def SL.TONEW (i : Nat) : Nat := 0x800000 + 0x8000 * i + 0x1160
def SL.TONEW_WHITE (i : Nat) : Fld := ⟨SL.TONEW i, 23, 0⟩
/-- SL.IDXSEL (R245). -/
def SL.IDXSEL (i : Nat) : Nat := 0x800000 + 0x8000 * i + 0x1170
def SL.IDXSEL_XSEL (i : Nat) : Fld := ⟨SL.IDXSEL i, 2, 0⟩
def SL.IDXSEL_YSEL (i : Nat) : Fld := ⟨SL.IDXSEL i, 5, 3⟩
def SL.IDXSEL_W16 (i : Nat) : Fld := ⟨SL.IDXSEL i, 6, 6⟩
def SL.IDXSEL_OSCALE (i : Nat) : Fld := ⟨SL.IDXSEL i, 23, 8⟩
/-- SL.IDXNUM (R245). -/
def SL.IDXNUM (i : Nat) : Nat := 0x800000 + 0x8000 * i + 0x1174
def SL.IDXNUM_A (i : Nat) : Fld := ⟨SL.IDXNUM i, 15, 0⟩
def SL.IDXNUM_B (i : Nat) : Fld := ⟨SL.IDXNUM i, 31, 16⟩
/-- SL.IDXNUM2 (R245). -/
def SL.IDXNUM2 (i : Nat) : Nat := 0x800000 + 0x8000 * i + 0x1178
def SL.IDXNUM2_C (i : Nat) : Fld := ⟨SL.IDXNUM2 i, 15, 0⟩
/-- SL.IDXDEN (R245). -/
def SL.IDXDEN (i : Nat) : Nat := 0x800000 + 0x8000 * i + 0x117C
def SL.IDXDEN_D (i : Nat) : Fld := ⟨SL.IDXDEN i, 15, 0⟩
def SL.IDXDEN_E (i : Nat) : Fld := ⟨SL.IDXDEN i, 31, 16⟩
/-- SL.IDXDEN2 (R245). -/
def SL.IDXDEN2 (i : Nat) : Nat := 0x800000 + 0x8000 * i + 0x1180
def SL.IDXDEN2_F (i : Nat) : Fld := ⟨SL.IDXDEN2 i, 15, 0⟩
def SL.IDXDEN2_DMIN (i : Nat) : Fld := ⟨SL.IDXDEN2 i, 31, 16⟩
/-- SL.IDXOFS (R245). -/
def SL.IDXOFS (i : Nat) : Nat := 0x800000 + 0x8000 * i + 0x1184
def SL.IDXOFS_OOFS (i : Nat) : Fld := ⟨SL.IDXOFS i, 15, 0⟩
/-- SL.DEFCNT0 (R245). -/
def SL.DEFCNT0 (i : Nat) : Nat := 0x800000 + 0x8000 * i + 0x1190
def SL.DEFCNT0_STATIC (i : Nat) : Fld := ⟨SL.DEFCNT0 i, 15, 0⟩
def SL.DEFCNT0_DYNAMIC (i : Nat) : Fld := ⟨SL.DEFCNT0 i, 31, 16⟩
/-- SL.DEFCNT1 (R245). -/
def SL.DEFCNT1 (i : Nat) : Nat := 0x800000 + 0x8000 * i + 0x1194
def SL.DEFCNT1_UNCORR (i : Nat) : Fld := ⟨SL.DEFCNT1 i, 15, 0⟩
/-- SL.TLUT (R246). -/
def SL.TLUT (i : Nat) (k : Nat) : Nat := 0x800000 + 0x8000 * i + 0x1200 + 0x4 * k
def SL.TLUT_T (i : Nat) (k : Nat) : Fld := ⟨SL.TLUT i k, 15, 0⟩
/-- SL.WCTL (R277). -/
def SL.WCTL (i : Nat) : Nat := 0x800000 + 0x8000 * i + 0x1800
def SL.WCTL_WARP_EN (i : Nat) : Fld := ⟨SL.WCTL i, 0, 0⟩
def SL.WCTL_BICUBIC (i : Nat) : Fld := ⟨SL.WCTL i, 1, 1⟩
def SL.WCTL_BMODE (i : Nat) : Fld := ⟨SL.WCTL i, 2, 2⟩
def SL.WCTL_NBUF3 (i : Nat) : Fld := ⟨SL.WCTL i, 3, 3⟩
def SL.WCTL_WRDF (i : Nat) : Fld := ⟨SL.WCTL i, 15, 8⟩
/-- SL.WOSIZE (R277). -/
def SL.WOSIZE (i : Nat) : Nat := 0x800000 + 0x8000 * i + 0x1804
def SL.WOSIZE_OW (i : Nat) : Fld := ⟨SL.WOSIZE i, 13, 0⟩
def SL.WOSIZE_OH (i : Nat) : Fld := ⟨SL.WOSIZE i, 29, 16⟩
/-- SL.WPLANES (R277). -/
def SL.WPLANES (i : Nat) : Nat := 0x800000 + 0x8000 * i + 0x1808
def SL.WPLANES_PLANES (i : Nat) : Fld := ⟨SL.WPLANES i, 7, 0⟩
/-- SL.WBORDER (R277). -/
def SL.WBORDER (i : Nat) : Nat := 0x800000 + 0x8000 * i + 0x180C
def SL.WBORDER_BY (i : Nat) : Fld := ⟨SL.WBORDER i, 15, 0⟩
def SL.WBORDER_BC (i : Nat) : Fld := ⟨SL.WBORDER i, 31, 16⟩
/-- SL.WBORDER2 (R277). -/
def SL.WBORDER2 (i : Nat) : Nat := 0x800000 + 0x8000 * i + 0x1810
def SL.WBORDER2_BN (i : Nat) : Fld := ⟨SL.WBORDER2 i, 15, 0⟩
/-- SL.WSTAT (R277). -/
def SL.WSTAT (i : Nat) : Nat := 0x800000 + 0x8000 * i + 0x1814
def SL.WSTAT_OLINE (i : Nat) : Fld := ⟨SL.WSTAT i, 13, 0⟩
def SL.WSTAT_LATE (i : Nat) : Fld := ⟨SL.WSTAT i, 14, 14⟩
/-- SL.WFETCH (R277). -/
def SL.WFETCH (i : Nat) : Nat := 0x800000 + 0x8000 * i + 0x1818
def SL.WFETCH_TILES (i : Nat) : Fld := ⟨SL.WFETCH i, 31, 0⟩
/-- SL.WCNT (R277). -/
def SL.WCNT (i : Nat) : Nat := 0x800000 + 0x8000 * i + 0x181C
def SL.WCNT_WLATE (i : Nat) : Fld := ⟨SL.WCNT i, 15, 0⟩
def SL.WCNT_POISON (i : Nat) : Fld := ⟨SL.WCNT i, 31, 16⟩
/-- SL.OCTL (R305). -/
def SL.OCTL (i : Nat) (k : Nat) : Nat := 0x800000 + 0x8000 * i + 0x1A00 + 0x40 * k
def SL.OCTL_EN (i : Nat) (k : Nat) : Fld := ⟨SL.OCTL i k, 0, 0⟩
def SL.OCTL_FMT (i : Nat) (k : Nat) : Fld := ⟨SL.OCTL i k, 5, 1⟩
def SL.OCTL_POLICY (i : Nat) (k : Nat) : Fld := ⟨SL.OCTL i k, 7, 6⟩
def SL.OCTL_STORE (i : Nat) (k : Nat) : Fld := ⟨SL.OCTL i k, 8, 8⟩
def SL.OCTL_DEFCOEF (i : Nat) (k : Nat) : Fld := ⟨SL.OCTL i k, 9, 9⟩
def SL.OCTL_CLR (i : Nat) (k : Nat) : Fld := ⟨SL.OCTL i k, 10, 10⟩
/-- SL.OCROP0 (R305). -/
def SL.OCROP0 (i : Nat) (k : Nat) : Nat := 0x800000 + 0x8000 * i + 0x1A04 + 0x40 * k
def SL.OCROP0_CX (i : Nat) (k : Nat) : Fld := ⟨SL.OCROP0 i k, 13, 0⟩
def SL.OCROP0_CY (i : Nat) (k : Nat) : Fld := ⟨SL.OCROP0 i k, 29, 16⟩
/-- SL.OCROP1 (R305). -/
def SL.OCROP1 (i : Nat) (k : Nat) : Nat := 0x800000 + 0x8000 * i + 0x1A08 + 0x40 * k
def SL.OCROP1_CWD (i : Nat) (k : Nat) : Fld := ⟨SL.OCROP1 i k, 13, 0⟩
def SL.OCROP1_CHT (i : Nat) (k : Nat) : Fld := ⟨SL.OCROP1 i k, 29, 16⟩
/-- SL.OSIZE (R305). -/
def SL.OSIZE (i : Nat) (k : Nat) : Nat := 0x800000 + 0x8000 * i + 0x1A0C + 0x40 * k
def SL.OSIZE_DW (i : Nat) (k : Nat) : Fld := ⟨SL.OSIZE i k, 13, 0⟩
def SL.OSIZE_DH (i : Nat) (k : Nat) : Fld := ⟨SL.OSIZE i k, 29, 16⟩
/-- SL.OSTAT (R305). -/
def SL.OSTAT (i : Nat) (k : Nat) : Nat := 0x800000 + 0x8000 * i + 0x1A10 + 0x40 * k
def SL.OSTAT_KH (i : Nat) (k : Nat) : Fld := ⟨SL.OSTAT i k, 1, 0⟩
def SL.OSTAT_KV (i : Nat) (k : Nat) : Fld := ⟨SL.OSTAT i k, 3, 2⟩
def SL.OSTAT_KHC (i : Nat) (k : Nat) : Fld := ⟨SL.OSTAT i k, 5, 4⟩
def SL.OSTAT_KVC (i : Nat) (k : Nat) : Fld := ⟨SL.OSTAT i k, 7, 6⟩
def SL.OSTAT_OLINE (i : Nat) (k : Nat) : Fld := ⟨SL.OSTAT i k, 21, 8⟩
/-- SL.OFSEQ (R305). -/
def SL.OFSEQ (i : Nat) (k : Nat) : Nat := 0x800000 + 0x8000 * i + 0x1A14 + 0x40 * k
def SL.OFSEQ_FSEQ (i : Nat) (k : Nat) : Fld := ⟨SL.OFSEQ i k, 31, 0⟩
/-- SL.OFN (R305). -/
def SL.OFN (i : Nat) (k : Nat) : Nat := 0x800000 + 0x8000 * i + 0x1A18 + 0x40 * k
def SL.OFN_FN (i : Nat) (k : Nat) : Fld := ⟨SL.OFN i k, 31, 0⟩
/-- SL.OCNT (R305). -/
def SL.OCNT (i : Nat) (k : Nat) : Nat := 0x800000 + 0x8000 * i + 0x1A1C + 0x40 * k
def SL.OCNT_FRAMES (i : Nat) (k : Nat) : Fld := ⟨SL.OCNT i k, 15, 0⟩
def SL.OCNT_NOTICES (i : Nat) (k : Nat) : Fld := ⟨SL.OCNT i k, 31, 16⟩
/-- SL.OCNT2 (R305). -/
def SL.OCNT2 (i : Nat) (k : Nat) : Nat := 0x800000 + 0x8000 * i + 0x1A20 + 0x40 * k
def SL.OCNT2_STATUS (i : Nat) (k : Nat) : Fld := ⟨SL.OCNT2 i k, 15, 0⟩
def SL.OCNT2_STOREFULL (i : Nat) (k : Nat) : Fld := ⟨SL.OCNT2 i k, 31, 16⟩
/-- SL.HCOEF (R306). -/
def SL.HCOEF (i : Nat) (k : Nat) : Nat := 0x800000 + 0x8000 * i + 0x2000 + 0x4 * k
def SL.HCOEF_LO (i : Nat) (k : Nat) : Fld := ⟨SL.HCOEF i k, 15, 0⟩
def SL.HCOEF_HI (i : Nat) (k : Nat) : Fld := ⟨SL.HCOEF i k, 31, 16⟩
/-- SL.VCOEF (R306). -/
def SL.VCOEF (i : Nat) (k : Nat) : Nat := 0x800000 + 0x8000 * i + 0x3000 + 0x4 * k
def SL.VCOEF_LO (i : Nat) (k : Nat) : Fld := ⟨SL.VCOEF i k, 15, 0⟩
def SL.VCOEF_HI (i : Nat) (k : Nat) : Fld := ⟨SL.VCOEF i k, 31, 16⟩
/-- SL.STCTL (R334). -/
def SL.STCTL (i : Nat) : Nat := 0x800000 + 0x8000 * i + 0x1C00
def SL.STCTL_EN (i : Nat) : Fld := ⟨SL.STCTL i, 0, 0⟩
def SL.STCTL_STATPOL (i : Nat) : Fld := ⟨SL.STCTL i, 2, 1⟩
def SL.STCTL_CLR (i : Nat) : Fld := ⟨SL.STCTL i, 3, 3⟩
def SL.STCTL_SATL (i : Nat) : Fld := ⟨SL.STCTL i, 15, 8⟩
/-- SL.STWIN0 (R334). -/
def SL.STWIN0 (i : Nat) : Nat := 0x800000 + 0x8000 * i + 0x1C04
def SL.STWIN0_X0 (i : Nat) : Fld := ⟨SL.STWIN0 i, 13, 0⟩
def SL.STWIN0_Y0 (i : Nat) : Fld := ⟨SL.STWIN0 i, 29, 16⟩
/-- SL.STWIN1 (R334). -/
def SL.STWIN1 (i : Nat) : Nat := 0x800000 + 0x8000 * i + 0x1C08
def SL.STWIN1_W (i : Nat) : Fld := ⟨SL.STWIN1 i, 13, 0⟩
def SL.STWIN1_H (i : Nat) : Fld := ⟨SL.STWIN1 i, 29, 16⟩
/-- SL.STSTAT (R334). -/
def SL.STSTAT (i : Nat) : Nat := 0x800000 + 0x8000 * i + 0x1C0C
def SL.STSTAT_BANK (i : Nat) : Fld := ⟨SL.STSTAT i, 0, 0⟩
def SL.STSTAT_READLATE (i : Nat) : Fld := ⟨SL.STSTAT i, 1, 1⟩
/-- SL.STFN (R334). -/
def SL.STFN (i : Nat) : Nat := 0x800000 + 0x8000 * i + 0x1C10
def SL.STFN_FN (i : Nat) : Fld := ⟨SL.STFN i, 31, 0⟩
/-- SL.PQSTAT (R334). -/
def SL.PQSTAT (i : Nat) : Nat := 0x800000 + 0x8000 * i + 0x1D00
def SL.PQSTAT_USED (i : Nat) : Fld := ⟨SL.PQSTAT i, 7, 0⟩
def SL.PQSTAT_NEXTL (i : Nat) : Fld := ⟨SL.PQSTAT i, 15, 8⟩
/-- SL.PQNEXT (R334). -/
def SL.PQNEXT (i : Nat) : Nat := 0x800000 + 0x8000 * i + 0x1D04
def SL.PQNEXT_TFN (i : Nat) : Fld := ⟨SL.PQNEXT i, 31, 0⟩
/-- SL.PQCNT0 (R334). -/
def SL.PQCNT0 (i : Nat) : Nat := 0x800000 + 0x8000 * i + 0x1D10
def SL.PQCNT0_RETARGET (i : Nat) : Fld := ⟨SL.PQCNT0 i, 15, 0⟩
def SL.PQCNT0_DISCARD (i : Nat) : Fld := ⟨SL.PQCNT0 i, 31, 16⟩
/-- SL.PQCNT1 (R334). -/
def SL.PQCNT1 (i : Nat) : Nat := 0x800000 + 0x8000 * i + 0x1D14
def SL.PQCNT1_SUPERSEDED (i : Nat) : Fld := ⟨SL.PQCNT1 i, 15, 0⟩
def SL.PQCNT1_LAPSED (i : Nat) : Fld := ⟨SL.PQCNT1 i, 31, 16⟩
/-- SL.PQCNT2 (R334). -/
def SL.PQCNT2 (i : Nat) : Nat := 0x800000 + 0x8000 * i + 0x1D18
def SL.PQCNT2_QFULL (i : Nat) : Fld := ⟨SL.PQCNT2 i, 15, 0⟩
/-- SL.ENGCTL (R367). -/
def SL.ENGCTL (i : Nat) : Nat := 0x800000 + 0x8000 * i + 0x800
def SL.ENGCTL_RUN (i : Nat) : Fld := ⟨SL.ENGCTL i, 0, 0⟩
def SL.ENGCTL_RESTART (i : Nat) : Fld := ⟨SL.ENGCTL i, 1, 1⟩
def SL.ENGCTL_TAPD_EN (i : Nat) : Fld := ⟨SL.ENGCTL i, 2, 2⟩
def SL.ENGCTL_TAPS_EN (i : Nat) : Fld := ⟨SL.ENGCTL i, 3, 3⟩
def SL.ENGCTL_CLR (i : Nat) : Fld := ⟨SL.ENGCTL i, 4, 4⟩
def SL.ENGCTL_WDOGF (i : Nat) : Fld := ⟨SL.ENGCTL i, 15, 8⟩
/-- SL.ENGSTAT (R367). -/
def SL.ENGSTAT (i : Nat) : Nat := 0x800000 + 0x8000 * i + 0x804
def SL.ENGSTAT_STATE (i : Nat) : Fld := ⟨SL.ENGSTAT i, 2, 0⟩
def SL.ENGSTAT_TRAPC (i : Nat) : Fld := ⟨SL.ENGSTAT i, 15, 8⟩
/-- SL.ENGPC (R367). -/
def SL.ENGPC (i : Nat) : Nat := 0x800000 + 0x8000 * i + 0x808
def SL.ENGPC_PC (i : Nat) : Fld := ⟨SL.ENGPC i, 12, 0⟩
/-- SL.ENGPROG (R367). -/
def SL.ENGPROG (i : Nat) : Nat := 0x800000 + 0x8000 * i + 0x80C
def SL.ENGPROG_PROGID (i : Nat) : Fld := ⟨SL.ENGPROG i, 31, 0⟩
/-- SL.TAPCFGD (R367). -/
def SL.TAPCFGD (i : Nat) : Nat := 0x800000 + 0x8000 * i + 0x810
def SL.TAPCFGD_POPMASK (i : Nat) : Fld := ⟨SL.TAPCFGD i, 7, 0⟩
def SL.TAPCFGD_PUSHMASK (i : Nat) : Fld := ⟨SL.TAPCFGD i, 15, 8⟩
def SL.TAPCFGD_TAPLAT (i : Nat) : Fld := ⟨SL.TAPCFGD i, 24, 16⟩
/-- SL.TAPCFGS (R367). -/
def SL.TAPCFGS (i : Nat) : Nat := 0x800000 + 0x8000 * i + 0x814
def SL.TAPCFGS_POPMASK (i : Nat) : Fld := ⟨SL.TAPCFGS i, 7, 0⟩
def SL.TAPCFGS_PUSHMASK (i : Nat) : Fld := ⟨SL.TAPCFGS i, 15, 8⟩
def SL.TAPCFGS_TAPLAT (i : Nat) : Fld := ⟨SL.TAPCFGS i, 24, 16⟩
/-- SL.TAPSTAT (R367). -/
def SL.TAPSTAT (i : Nat) : Nat := 0x800000 + 0x8000 * i + 0x818
def SL.TAPSTAT_BYPD (i : Nat) : Fld := ⟨SL.TAPSTAT i, 0, 0⟩
def SL.TAPSTAT_BYPS (i : Nat) : Fld := ⟨SL.TAPSTAT i, 1, 1⟩
/-- SL.SCQSTAT (R367). -/
def SL.SCQSTAT (i : Nat) : Nat := 0x800000 + 0x8000 * i + 0x81C
def SL.SCQSTAT_OUTST (i : Nat) : Fld := ⟨SL.SCQSTAT i, 2, 0⟩
def SL.SCQSTAT_SCQERR (i : Nat) : Fld := ⟨SL.SCQSTAT i, 31, 16⟩
/-- SL.ENGCNT0 (R367). -/
def SL.ENGCNT0 (i : Nat) : Nat := 0x800000 + 0x8000 * i + 0x820
def SL.ENGCNT0_TRAPS (i : Nat) : Fld := ⟨SL.ENGCNT0 i, 15, 0⟩
def SL.ENGCNT0_UNDERRUN (i : Nat) : Fld := ⟨SL.ENGCNT0 i, 31, 16⟩
/-- SL.ENGCNT1 (R367). -/
def SL.ENGCNT1 (i : Nat) : Nat := 0x800000 + 0x8000 * i + 0x824
def SL.ENGCNT1_EVOVR (i : Nat) : Fld := ⟨SL.ENGCNT1 i, 15, 0⟩
def SL.ENGCNT1_LOSTCOMMIT (i : Nat) : Fld := ⟨SL.ENGCNT1 i, 31, 16⟩
/-- SL.ENGCNT2 (R367). -/
def SL.ENGCNT2 (i : Nat) : Nat := 0x800000 + 0x8000 * i + 0x828
def SL.ENGCNT2_BUSY (i : Nat) : Fld := ⟨SL.ENGCNT2 i, 31, 0⟩
/-- SL.ENGMADDR (R367). -/
def SL.ENGMADDR (i : Nat) : Nat := 0x800000 + 0x8000 * i + 0x830
def SL.ENGMADDR_ADDR (i : Nat) : Fld := ⟨SL.ENGMADDR i, 14, 0⟩
def SL.ENGMADDR_SPACE (i : Nat) : Fld := ⟨SL.ENGMADDR i, 15, 15⟩
/-- SL.ENGMDATA (R367). -/
def SL.ENGMDATA (i : Nat) : Nat := 0x800000 + 0x8000 * i + 0x834
def SL.ENGMDATA_DATA (i : Nat) : Fld := ⟨SL.ENGMDATA i, 31, 0⟩
/-- SL.PRVSTAT (R532). -/
def SL.PRVSTAT (i : Nat) : Nat := 0x800000 + 0x8000 * i + 0x400
def SL.PRVSTAT_SSTATE (i : Nat) : Fld := ⟨SL.PRVSTAT i, 2, 0⟩
def SL.PRVSTAT_RSV (i : Nat) : Fld := ⟨SL.PRVSTAT i, 3, 3⟩
def SL.PRVSTAT_FIRST (i : Nat) : Fld := ⟨SL.PRVSTAT i, 4, 4⟩
def SL.PRVSTAT_LASTSEG (i : Nat) : Fld := ⟨SL.PRVSTAT i, 13, 8⟩
def SL.PRVSTAT_RESULT (i : Nat) : Fld := ⟨SL.PRVSTAT i, 17, 16⟩
/-- SL.PRVTIMEL (R532). -/
def SL.PRVTIMEL (i : Nat) : Nat := 0x800000 + 0x8000 * i + 0x404
def SL.PRVTIMEL_TPASS (i : Nat) : Fld := ⟨SL.PRVTIMEL i, 31, 0⟩
/-- SL.PRVTIMEH (R532). -/
def SL.PRVTIMEH (i : Nat) : Nat := 0x800000 + 0x8000 * i + 0x408
def SL.PRVTIMEH_TPASS (i : Nat) : Fld := ⟨SL.PRVTIMEH i, 31, 0⟩
/-- SL.PRVCNT (R532). -/
def SL.PRVCNT (i : Nat) : Nat := 0x800000 + 0x8000 * i + 0x40C
def SL.PRVCNT_PASSES (i : Nat) : Fld := ⟨SL.PRVCNT i, 15, 0⟩
def SL.PRVCNT_MISMATCH (i : Nat) : Fld := ⟨SL.PRVCNT i, 31, 16⟩
/-- SL.PRVSIGL (R532). -/
def SL.PRVSIGL (i : Nat) : Nat := 0x800000 + 0x8000 * i + 0x410
def SL.PRVSIGL_MISR (i : Nat) : Fld := ⟨SL.PRVSIGL i, 31, 0⟩
/-- SL.PRVSIGH (R532). -/
def SL.PRVSIGH (i : Nat) : Nat := 0x800000 + 0x8000 * i + 0x414
def SL.PRVSIGH_MISR (i : Nat) : Fld := ⟨SL.PRVSIGH i, 31, 0⟩
/-- SL.SRREP (R532). -/
def SL.SRREP (i : Nat) (k : Nat) : Nat := 0x800000 + 0x8000 * i + 0x440 + 0x4 * k
def SL.SRREP_VALID (i : Nat) (k : Nat) : Fld := ⟨SL.SRREP i k, 0, 0⟩
def SL.SRREP_FUSED (i : Nat) (k : Nat) : Fld := ⟨SL.SRREP i k, 1, 1⟩
def SL.SRREP_ROW (i : Nat) (k : Nat) : Fld := ⟨SL.SRREP i k, 16, 8⟩
/-- LAT.LATSTAT (R278). -/
def LAT.LATSTAT : Nat := 0xF00000 + 0x0
def LAT.LATSTAT_DEFINED : Fld := ⟨LAT.LATSTAT, 7, 0⟩
def LAT.LATSTAT_OWNER : Fld := ⟨LAT.LATSTAT, 15, 8⟩
def LAT.LATSTAT_BUSY : Fld := ⟨LAT.LATSTAT, 23, 16⟩
/-- LT.LCTL (R278). -/
def LT.LCTL (i : Nat) : Nat := 0xF01000 + 0x1000 * i + 0x0
def LT.LCTL_GROUP (i : Nat) : Fld := ⟨LT.LCTL i, 5, 0⟩
def LT.LCTL_LFMT (i : Nat) : Fld := ⟨LT.LCTL i, 7, 6⟩
def LT.LCTL_RDIV (i : Nat) : Fld := ⟨LT.LCTL i, 14, 8⟩
def LT.LCTL_LDMG (i : Nat) : Fld := ⟨LT.LCTL i, 15, 15⟩
/-- LT.LSIZE (R278). -/
def LT.LSIZE (i : Nat) : Nat := 0xF01000 + 0x1000 * i + 0x4
def LT.LSIZE_CWM1 (i : Nat) : Fld := ⟨LT.LSIZE i, 15, 0⟩
def LT.LSIZE_CHM1 (i : Nat) : Fld := ⟨LT.LSIZE i, 28, 16⟩
/-- LT.LGSD (R278). -/
def LT.LGSD (i : Nat) : Nat := 0xF01000 + 0x1000 * i + 0x8
def LT.LGSD_GSD (i : Nat) : Fld := ⟨LT.LGSD i, 31, 0⟩
/-- LT.LXORG (R278). -/
def LT.LXORG (i : Nat) : Nat := 0xF01000 + 0x1000 * i + 0xC
def LT.LXORG_XORG (i : Nat) : Fld := ⟨LT.LXORG i, 31, 0⟩
/-- LT.LYORG (R278). -/
def LT.LYORG (i : Nat) : Nat := 0xF01000 + 0x1000 * i + 0x10
def LT.LYORG_YORG (i : Nat) : Fld := ⟨LT.LYORG i, 31, 0⟩
/-- LT.LGLAZE (R278). -/
def LT.LGLAZE (i : Nat) : Nat := 0xF01000 + 0x1000 * i + 0x14
def LT.LGLAZE_GLAZE (i : Nat) : Fld := ⟨LT.LGLAZE i, 12, 0⟩
/-- LT.LDEAD (R278). -/
def LT.LDEAD (i : Nat) : Nat := 0xF01000 + 0x1000 * i + 0x18
def LT.LDEAD_LDEAD (i : Nat) : Fld := ⟨LT.LDEAD i, 31, 0⟩
/-- LT.LTOFS (R278). -/
def LT.LTOFS (i : Nat) : Nat := 0xF01000 + 0x1000 * i + 0x1C
def LT.LTOFS_TOFS (i : Nat) : Fld := ⟨LT.LTOFS i, 31, 0⟩
/-- LT.LBG (R278). -/
def LT.LBG (i : Nat) : Nat := 0xF01000 + 0x1000 * i + 0x20
def LT.LBG_BG0 (i : Nat) : Fld := ⟨LT.LBG i, 15, 0⟩
def LT.LBG_BG1 (i : Nat) : Fld := ⟨LT.LBG i, 31, 16⟩
/-- LT.LLFN (R278). -/
def LT.LLFN (i : Nat) : Nat := 0xF01000 + 0x1000 * i + 0x24
def LT.LLFN_LFN (i : Nat) : Fld := ⟨LT.LLFN i, 31, 0⟩
/-- LT.LMOTV (R278). -/
def LT.LMOTV (i : Nat) : Nat := 0xF01000 + 0x1000 * i + 0x28
def LT.LMOTV_V (i : Nat) : Fld := ⟨LT.LMOTV i, 31, 0⟩
/-- LT.LMOTW (R278). -/
def LT.LMOTW (i : Nat) : Nat := 0xF01000 + 0x1000 * i + 0x2C
def LT.LMOTW_OMEGA (i : Nat) : Fld := ⟨LT.LMOTW i, 31, 0⟩
/-- LT.LCNT (R278). -/
def LT.LCNT (i : Nat) : Nat := 0xF01000 + 0x1000 * i + 0x30
def LT.LCNT_INCOMPLETE (i : Nat) : Fld := ⟨LT.LCNT i, 15, 0⟩
def LT.LCNT_SKIPPED (i : Nat) : Fld := ⟨LT.LCNT i, 31, 16⟩
/-- LT.LREC (R278). -/
def LT.LREC (i : Nat) (k : Nat) : Nat := 0xF01000 + 0x1000 * i + 0x40 + 0x4 * k
def LT.LREC_REC (i : Nat) (k : Nat) : Fld := ⟨LT.LREC i k, 31, 0⟩
/-- LTS.CPORT (R278). -/
def LTS.CPORT (n : Nat) (t : Nat) : Nat := 0xF01000 + 0x1000 * n + 0x400 + 0x40 * t + 0x0
def LTS.CPORT_PORT (n : Nat) (t : Nat) : Fld := ⟨LTS.CPORT n t, 7, 0⟩
/-- LTS.CGS (R278). -/
def LTS.CGS (n : Nat) (t : Nat) : Nat := 0xF01000 + 0x1000 * n + 0x400 + 0x40 * t + 0x4
def LTS.CGS_GS (n : Nat) (t : Nat) : Fld := ⟨LTS.CGS n t, 15, 0⟩
/-- LTS.CH (R278). -/
def LTS.CH (n : Nat) (t : Nat) (k : Nat) : Nat := 0xF01000 + 0x1000 * n + 0x400 + 0x40 * t + 0x8 + 0x4 * k
def LTS.CH_HINV (n : Nat) (t : Nat) (k : Nat) : Fld := ⟨LTS.CH n t k, 31, 0⟩
/-- LTS.CHG (R278). -/
def LTS.CHG (n : Nat) (t : Nat) : Nat := 0xF01000 + 0x1000 * n + 0x400 + 0x40 * t + 0x2C
def LTS.CHG_HGAIN (n : Nat) (t : Nat) : Fld := ⟨LTS.CHG n t, 15, 0⟩
/-- MEMC.MCFG (R625). -/
def MEMC.MCFG : Nat := 0xF80000 + 0x0
def MEMC.MCFG_SIZE : Fld := ⟨MEMC.MCFG, 1, 0⟩
def MEMC.MCFG_CHOK : Fld := ⟨MEMC.MCFG, 5, 2⟩
/-- MEMC.INITWML (R625). -/
def MEMC.INITWML : Nat := 0xF80000 + 0x8
def MEMC.INITWML_WM : Fld := ⟨MEMC.INITWML, 31, 0⟩
/-- MEMC.INITWMH (R625). -/
def MEMC.INITWMH : Nat := 0xF80000 + 0xC
def MEMC.INITWMH_WM : Fld := ⟨MEMC.INITWMH, 15, 0⟩
/-- MEMC.INITSTAT (R625). -/
def MEMC.INITSTAT : Nat := 0xF80000 + 0x10
def MEMC.INITSTAT_RUNNING : Fld := ⟨MEMC.INITSTAT, 0, 0⟩
def MEMC.INITSTAT_DONE : Fld := ⟨MEMC.INITSTAT, 1, 1⟩
def MEMC.INITSTAT_FOWBLK : Fld := ⟨MEMC.INITSTAT, 31, 16⟩
/-- MEMC.SRCNT (R625). -/
def MEMC.SRCNT : Nat := 0xF80000 + 0x20
def MEMC.SRCNT_CE : Fld := ⟨MEMC.SRCNT, 15, 0⟩
def MEMC.SRCNT_UE : Fld := ⟨MEMC.SRCNT, 31, 16⟩
/-- MEMC.LCNTA (R625). -/
def MEMC.LCNTA (k : Nat) : Nat := 0xF80000 + 0x30 + 0x8 * k
def MEMC.LCNTA_CE (k : Nat) : Fld := ⟨MEMC.LCNTA k, 15, 0⟩
def MEMC.LCNTA_UE (k : Nat) : Fld := ⟨MEMC.LCNTA k, 31, 16⟩
/-- MEMC.LCNTB (R625). -/
def MEMC.LCNTB (k : Nat) : Nat := 0xF80000 + 0x34 + 0x8 * k
def MEMC.LCNTB_LINKCE (k : Nat) : Fld := ⟨MEMC.LCNTB k, 15, 0⟩
def MEMC.LCNTB_LINKRETRY (k : Nat) : Fld := ⟨MEMC.LCNTB k, 31, 16⟩
/-- MEMC.ERRADDRL (R625). -/
def MEMC.ERRADDRL : Nat := 0xF80000 + 0x60
def MEMC.ERRADDRL_ADDR : Fld := ⟨MEMC.ERRADDRL, 31, 0⟩
/-- MEMC.ERRADDRH (R625). -/
def MEMC.ERRADDRH : Nat := 0xF80000 + 0x64
def MEMC.ERRADDRH_ADDR : Fld := ⟨MEMC.ERRADDRH, 15, 0⟩
def MEMC.ERRADDRH_SRC : Fld := ⟨MEMC.ERRADDRH, 17, 16⟩
def MEMC.ERRADDRH_VALID : Fld := ⟨MEMC.ERRADDRH, 31, 31⟩
/-- MEMC.SCRUB (R625). -/
def MEMC.SCRUB : Nat := 0xF80000 + 0x70
def MEMC.SCRUB_SR_EN : Fld := ⟨MEMC.SCRUB, 0, 0⟩
def MEMC.SCRUB_LP_EN : Fld := ⟨MEMC.SCRUB, 1, 1⟩
/-- MEMC.BWRES (R625). -/
def MEMC.BWRES : Nat := 0xF80000 + 0x80
def MEMC.BWRES_MBS : Fld := ⟨MEMC.BWRES, 31, 0⟩
/-- MEMC.CAPRES (R625). -/
def MEMC.CAPRES : Nat := 0xF80000 + 0x84
def MEMC.CAPRES_MIB : Fld := ⟨MEMC.CAPRES, 31, 0⟩
/-- MEMC.POOL (R625). -/
def MEMC.POOL : Nat := 0xF80000 + 0x88
def MEMC.POOL_MIB : Fld := ⟨MEMC.POOL, 31, 0⟩
/-- MEMC.BWLIM (R625). -/
def MEMC.BWLIM : Nat := 0xF80000 + 0x8C
def MEMC.BWLIM_MBS : Fld := ⟨MEMC.BWLIM, 31, 0⟩
/-- MEMC.CNTCLR (R625). -/
def MEMC.CNTCLR : Nat := 0xF80000 + 0x90
def MEMC.CNTCLR_CLR : Fld := ⟨MEMC.CNTCLR, 0, 0⟩
/-- SEC.SECSTAT (R638). -/
def SEC.SECSTAT : Nat := 0xFC0000 + 0x0
def SEC.SECSTAT_KEYLOCK : Fld := ⟨SEC.SECSTAT, 0, 0⟩
def SEC.SECSTAT_STOK : Fld := ⟨SEC.SECSTAT, 1, 1⟩
def SEC.SECSTAT_GRANT : Fld := ⟨SEC.SECSTAT, 2, 2⟩
def SEC.SECSTAT_ATTERR : Fld := ⟨SEC.SECSTAT, 3, 3⟩
def SEC.SECSTAT_ROOTREV : Fld := ⟨SEC.SECSTAT, 7, 4⟩
/-- SEC.SVNFUSE (R638). -/
def SEC.SVNFUSE : Nat := 0xFC0000 + 0x4
def SEC.SVNFUSE_FW : Fld := ⟨SEC.SVNFUSE, 6, 0⟩
def SEC.SVNFUSE_KB : Fld := ⟨SEC.SVNFUSE, 22, 16⟩
/-- SEC.DEVID (R638). -/
def SEC.DEVID (k : Nat) : Nat := 0xFC0000 + 0x10 + 0x4 * k
def SEC.DEVID_ID (k : Nat) : Fld := ⟨SEC.DEVID k, 31, 0⟩
/-- SEC.DEVPUB (R638). -/
def SEC.DEVPUB (k : Nat) : Nat := 0xFC0000 + 0x40 + 0x4 * k
def SEC.DEVPUB_KEY (k : Nat) : Fld := ⟨SEC.DEVPUB k, 31, 0⟩
/-- SEC.ATTSIG (R638). -/
def SEC.ATTSIG (k : Nat) : Nat := 0xFC0000 + 0x100 + 0x4 * k
def SEC.ATTSIG_SIG (k : Nat) : Fld := ⟨SEC.ATTSIG k, 31, 0⟩
/-- LK.LKCTL (R100). -/
def LK.LKCTL (l : Link) : Nat := linkBase l + 0x100
def LK.LKCTL_ENABLE (l : Link) : Fld := ⟨LK.LKCTL l, 0, 0⟩
def LK.LKCTL_RETRAIN (l : Link) : Fld := ⟨LK.LKCTL l, 1, 1⟩
def LK.LKCTL_DEGR_EN (l : Link) : Fld := ⟨LK.LKCTL l, 2, 2⟩
def LK.LKCTL_QRETRAIN (l : Link) : Fld := ⟨LK.LKCTL l, 3, 3⟩
def LK.LKCTL_QSEL (l : Link) : Fld := ⟨LK.LKCTL l, 6, 4⟩
def LK.LKCTL_MAXRATE (l : Link) : Fld := ⟨LK.LKCTL l, 11, 8⟩
def LK.LKCTL_BMAXRATE (l : Link) : Fld := ⟨LK.LKCTL l, 15, 12⟩
/-- LK.LKSTAT (R102). -/
def LK.LKSTAT (l : Link) : Nat := linkBase l + 0x104
def LK.LKSTAT_STATE (l : Link) : Fld := ⟨LK.LKSTAT l, 3, 0⟩
def LK.LKSTAT_RATE (l : Link) : Fld := ⟨LK.LKSTAT l, 7, 4⟩
def LK.LKSTAT_TARGET (l : Link) : Fld := ⟨LK.LKSTAT l, 11, 8⟩
def LK.LKSTAT_BRATE (l : Link) : Fld := ⟨LK.LKSTAT l, 15, 12⟩
def LK.LKSTAT_FELLBACK (l : Link) : Fld := ⟨LK.LKSTAT l, 16, 16⟩
def LK.LKSTAT_DEGRADED (l : Link) : Fld := ⟨LK.LKSTAT l, 17, 17⟩
def LK.LKSTAT_HOLD (l : Link) : Fld := ⟨LK.LKSTAT l, 18, 18⟩
/-- LK.LKACT (R102). -/
def LK.LKACT (l : Link) : Nat := linkBase l + 0x10C
def LK.LKACT_ACTTX (l : Link) : Fld := ⟨LK.LKACT l, 31, 0⟩
/-- LK.ACTRX (R102). -/
def LK.ACTRX (l : Link) : Nat := linkBase l + 0x110
def LK.ACTRX_ACTRX (l : Link) : Fld := ⟨LK.ACTRX l, 15, 0⟩
/-- LK.LANEC0 (R102). -/
def LK.LANEC0 (l : Link) (k : Nat) : Nat := linkBase l + 0x200 + 0x10 * k
def LK.LANEC0_LOS (l : Link) (k : Nat) : Fld := ⟨LK.LANEC0 l k, 15, 0⟩
def LK.LANEC0_LOL (l : Link) (k : Nat) : Fld := ⟨LK.LANEC0 l k, 31, 16⟩
/-- LK.LANEC1 (R102). -/
def LK.LANEC1 (l : Link) (k : Nat) : Nat := linkBase l + 0x204 + 0x10 * k
def LK.LANEC1_MCRC (l : Link) (k : Nat) : Fld := ⟨LK.LANEC1 l k, 31, 0⟩
/-- LK.LANEC2 (R102). -/
def LK.LANEC2 (l : Link) (k : Nat) : Nat := linkBase l + 0x208 + 0x10 * k
def LK.LANEC2_STUFV (l : Link) (k : Nat) : Fld := ⟨LK.LANEC2 l k, 31, 0⟩
/-- LK.LANEC3 (R102). -/
def LK.LANEC3 (l : Link) (k : Nat) : Nat := linkBase l + 0x20C + 0x10 * k
def LK.LANEC3_DSKW (l : Link) (k : Nat) : Fld := ⟨LK.LANEC3 l k, 15, 0⟩
def LK.LANEC3_LOSNOW (l : Link) (k : Nat) : Fld := ⟨LK.LANEC3 l k, 16, 16⟩
def LK.LANEC3_ALIGNED (l : Link) (k : Nat) : Fld := ⟨LK.LANEC3 l k, 17, 17⟩
def LK.LANEC3_INV (l : Link) (k : Nat) : Fld := ⟨LK.LANEC3 l k, 18, 18⟩
/-- LK.LKCLR (R101). -/
def LK.LKCLR (l : Link) : Nat := linkBase l + 0x108
def LK.LKCLR_CLRCNT (l : Link) : Fld := ⟨LK.LKCLR l, 0, 0⟩

end Sys2Proof.Machine
end

