-- ==== Sys2Proof/Machine/RegTable.lean ====
section
/-!
DEFINITION. The register tables of the manual as data: for each block its registers (offset, stride, count) and for each
register its defined fields with their access code (R10), owner code (R11) and reset value. Reserved fields are not
listed: they read 0 and ignore writes (R7). A field whose reset is "per code", "per fuses", "sampled" or "shadow", or is
given by a formula, carries 0 here and is evaluated where it is read (R657).
-/
namespace Sys2Proof.Machine

/-- The access codes of R10. -/
inductive Access where
  | ro | rw | w1c | wo | rclr
  deriving DecidableEq, Repr

/-- The owner codes of R11. -/
inductive Owner where
  | h | f | k
  deriving DecidableEq, Repr

/-- One field of a register table. -/
structure FieldDesc where
  name : String
  hi : Nat
  lo : Nat
  access : Access
  owner : Owner
  reset : Nat
  deriving DecidableEq, Repr

/-- One register of a block: it lies at offset `off + stride * k` for k below `count`. -/
structure RegDesc where
  name : String
  off : Nat
  stride : Nat
  count : Nat
  fields : List FieldDesc
  deriving DecidableEq, Repr

/-- The blocks of the CSR window (R654); LT and LTS are a lattice and a contributor slot of LAT (R278). -/
inductive Block where
  | glb | kpr | fcu | tsu | clk | upl | brg | peer | dma | can | i2ca | i2cb | mbx | xbar | hp | sl | lat | lt | lts
  | memc | sec
  deriving DecidableEq, Repr

/-- Registers of GLB, part 0: R2, R35, R37, R475, R664. -/
def regsGLB0 : List RegDesc := [
  ⟨"IDCODE", 0x0, 0x4, 1, [⟨"STEP", 31, 24, .ro, .k, 33⟩, ⟨"PART", 23, 8, .ro, .k, 37376⟩, ⟨"MEMCFG", 7, 4, .ro, .k, 0⟩]⟩,
  ⟨"MODE", 0x10, 0x4, 1, [⟨"CUR", 3, 0, .ro, .k, 0⟩, ⟨"PREV", 7, 4, .ro, .k, 0⟩, ⟨"CAUSE", 15, 8, .ro, .k, 0⟩, ⟨"BUSY", 16, 16, .ro, .k, 0⟩, ⟨"INPAIR", 17, 17, .ro, .k, 0⟩, ⟨"BOOTSLOT", 19, 18, .ro, .k, 0⟩, ⟨"FALLBACK", 20, 20, .ro, .k, 0⟩, ⟨"SLOWFLASH", 21, 21, .ro, .k, 0⟩]⟩,
  ⟨"WAKE", 0x14, 0x4, 1, [⟨"PEND", 0, 0, .w1c, .h, 0⟩]⟩,
  ⟨"CFGGEN", 0x18, 0x4, 1, [⟨"GEN", 31, 0, .ro, .f, 0⟩]⟩,
  ⟨"CFGSTAT", 0x1C, 0x4, 1, [⟨"PENDING", 0, 0, .ro, .f, 0⟩, ⟨"DIRTY", 1, 1, .ro, .f, 0⟩, ⟨"SWITCHING", 2, 2, .ro, .f, 0⟩, ⟨"SWITCHED", 23, 16, .ro, .f, 0⟩, ⟨"TOTAL", 31, 24, .ro, .f, 0⟩]⟩,
  ⟨"CAPS", 0x4, 0x4, 1, [⟨"NPORT", 7, 0, .ro, .f, 192⟩, ⟨"NSLICE", 15, 8, .ro, .f, 208⟩, ⟨"NUT", 22, 16, .ro, .f, 32⟩, ⟨"PAIRCAP", 23, 23, .ro, .f, 1⟩, ⟨"NLAT", 27, 24, .ro, .f, 8⟩]⟩,
  ⟨"BUILD", 0x8, 0x4, 1, [⟨"BUILD", 31, 0, .rw, .f, 0⟩]⟩]
/-- All registers of GLB. -/
def regsGLB : List RegDesc := regsGLB0
/-- Registers of KPR, part 0: R54, R551. -/
def regsKPR0 : List RegDesc := [
  ⟨"STRAPS", 0x20, 0x4, 1, [⟨"BOOTSEL_UP", 1, 0, .ro, .k, 0⟩, ⟨"BOOTSEL_DN", 3, 2, .ro, .k, 0⟩, ⟨"BOOTSEL_EFF", 5, 4, .ro, .k, 0⟩, ⟨"PAIRID_UP", 6, 6, .ro, .k, 0⟩, ⟨"PAIRID_DN", 7, 7, .ro, .k, 0⟩, ⟨"PAIRID_EFF", 9, 8, .ro, .k, 0⟩, ⟨"TWA_UP", 11, 10, .ro, .k, 0⟩, ⟨"TWA_DN", 13, 12, .ro, .k, 0⟩, ⟨"TWA_EFF", 15, 14, .ro, .k, 0⟩, ⟨"IND_BOOTSEL", 16, 16, .ro, .k, 0⟩, ⟨"IND_PAIRID", 17, 17, .ro, .k, 0⟩, ⟨"IND_TWA", 18, 18, .ro, .k, 0⟩]⟩,
  ⟨"KCMD", 0x0, 0x4, 1, [⟨"CODE", 7, 0, .wo, .k, 0⟩]⟩,
  ⟨"KARG", 0x4, 0x4, 1, [⟨"ARG", 31, 0, .rw, .k, 0⟩]⟩,
  ⟨"KSTAT", 0x8, 0x4, 1, [⟨"BUSY", 0, 0, .ro, .k, 0⟩, ⟨"ERR", 1, 1, .ro, .k, 0⟩, ⟨"LAST", 15, 8, .ro, .k, 0⟩]⟩,
  ⟨"TSHL", 0x10, 0x4, 1, [⟨"TSH", 31, 0, .ro, .k, 0⟩]⟩,
  ⟨"TSHH", 0x14, 0x4, 1, [⟨"TSH", 31, 0, .ro, .k, 0⟩]⟩,
  ⟨"TSHSTAT", 0x18, 0x4, 1, [⟨"COPYING", 0, 0, .ro, .k, 0⟩, ⟨"TIMEVALID", 1, 1, .ro, .k, 0⟩]⟩,
  ⟨"HB", 0x1C, 0x4, 1, [⟨"COUNT", 31, 0, .rw, .f, 0⟩]⟩,
  ⟨"HBAGE", 0x24, 0x4, 1, [⟨"AGE", 31, 0, .ro, .k, 0⟩]⟩,
  ⟨"HBCTL", 0x28, 0x4, 1, [⟨"HBLIM", 15, 0, .rw, .f, 100⟩, ⟨"HBACT", 17, 16, .rw, .f, 1⟩]⟩,
  ⟨"HBLAST", 0x2C, 0x4, 1, [⟨"TIME", 31, 0, .ro, .k, 0⟩]⟩,
  ⟨"DOMST", 0x30, 0x4, 1, [⟨"HELD", 8, 0, .ro, .k, 0⟩, ⟨"CPXHOLDA", 9, 9, .ro, .k, 0⟩, ⟨"CPXHOLDB", 10, 10, .ro, .k, 0⟩, ⟨"UPIDLE", 11, 11, .ro, .k, 0⟩]⟩]
/-- All registers of KPR. -/
def regsKPR : List RegDesc := regsKPR0
/-- Registers of FCU, part 0: R550. -/
def regsFCU0 : List RegDesc := [
  ⟨"PINMASK", 0x0, 0x4, 1, [⟨"MASK", 2, 0, .rw, .f, 6⟩]⟩,
  ⟨"PINSTAT", 0x4, 0x4, 1, [⟨"ASSERTED", 0, 0, .ro, .k, 1⟩, ⟨"BOOTHOLD", 1, 1, .ro, .k, 1⟩, ⟨"OVFHOLD", 2, 2, .ro, .k, 0⟩]⟩,
  ⟨"LOGCNT", 0x8, 0x4, 1, [⟨"NC", 9, 0, .ro, .k, 0⟩, ⟨"NU", 19, 10, .ro, .k, 0⟩, ⟨"NF", 25, 20, .ro, .k, 0⟩]⟩,
  ⟨"LOGWR", 0xC, 0x4, 1, [⟨"LAST", 9, 0, .ro, .k, 991⟩]⟩,
  ⟨"OVFC", 0x10, 0x4, 1, [⟨"LOST", 31, 0, .rclr, .k, 0⟩]⟩,
  ⟨"OVFU", 0x14, 0x4, 1, [⟨"LOST", 31, 0, .rclr, .k, 0⟩]⟩,
  ⟨"OVFF", 0x18, 0x4, 1, [⟨"LOST", 31, 0, .ro, .k, 0⟩]⟩,
  ⟨"FIRSTLOST", 0x1C, 0x4, 1, [⟨"CCODE", 15, 0, .ro, .k, 0⟩, ⟨"UCODE", 31, 16, .ro, .k, 0⟩]⟩,
  ⟨"INTAKE", 0x20, 0x4, 1, [⟨"QUEUED", 6, 0, .ro, .k, 0⟩, ⟨"PEAK", 14, 8, .ro, .k, 0⟩]⟩,
  ⟨"LOG", 0x1000, 0x4, 8192, [⟨"DATA", 31, 0, .ro, .k, 0⟩]⟩]
/-- All registers of FCU. -/
def regsFCU : List RegDesc := regsFCU0
/-- Registers of TSU, part 0: R161. -/
def regsTSU0 : List RegDesc := [
  ⟨"NOWL", 0x0, 0x4, 1, [⟨"NOWL", 31, 0, .ro, .f, 0⟩]⟩,
  ⟨"NOWH", 0x4, 0x4, 1, [⟨"NOWH", 31, 0, .ro, .f, 0⟩]⟩,
  ⟨"NOWF", 0x8, 0x4, 1, [⟨"FRAC", 15, 0, .ro, .f, 0⟩]⟩,
  ⟨"SNAPCTL", 0x10, 0x4, 1, [⟨"SNAP", 0, 0, .wo, .h, 0⟩]⟩,
  ⟨"SNAPL", 0x14, 0x4, 1, [⟨"SNAPL", 31, 0, .ro, .h, 0⟩]⟩,
  ⟨"SNAPH", 0x18, 0x4, 1, [⟨"SNAPH", 31, 0, .ro, .h, 0⟩]⟩,
  ⟨"INC", 0x20, 0x4, 1, [⟨"INC", 31, 0, .ro, .f, 223696213⟩]⟩,
  ⟨"DCTL", 0x24, 0x4, 1, [⟨"PPS_EN", 0, 0, .rw, .f, 0⟩, ⟨"PPS_POL", 1, 1, .rw, .f, 0⟩, ⟨"PPSOUT_EN", 2, 2, .rw, .f, 0⟩, ⟨"PPSOUT_W", 12, 3, .rw, .f, 100⟩]⟩,
  ⟨"DSTAT", 0x28, 0x4, 1, [⟨"STATE", 3, 0, .ro, .f, 0⟩, ⟨"TIMEVALID", 4, 4, .ro, .f, 0⟩, ⟨"SLEWING", 5, 5, .ro, .f, 0⟩, ⟨"HOLDSEC", 31, 16, .ro, .f, 0⟩]⟩,
  ⟨"PHERR", 0x2C, 0x4, 1, [⟨"E", 31, 0, .ro, .f, 0⟩]⟩,
  ⟨"PCNT", 0x30, 0x4, 1, [⟨"PPSBAD", 15, 0, .ro, .f, 0⟩, ⟨"OUTLIER", 31, 16, .ro, .f, 0⟩]⟩,
  ⟨"SYNC", 0x100, 0x10, 16, [⟨"MODE", 2, 0, .rw, .f, 0⟩, ⟨"POL", 3, 3, .rw, .f, 0⟩, ⟨"GROUP", 9, 4, .rw, .f, 0⟩]⟩]
/-- Registers of TSU, part 1: R161, R335. -/
def regsTSU1 : List RegDesc := [
  ⟨"SYNCOFS", 0x104, 0x10, 16, [⟨"OFFSET", 31, 0, .rw, .f, 0⟩]⟩,
  ⟨"SYNCW", 0x108, 0x10, 16, [⟨"WIDTH", 31, 0, .rw, .f, 0⟩]⟩,
  ⟨"SYNCST", 0x10C, 0x10, 16, [⟨"FILL", 4, 0, .ro, .f, 0⟩, ⟨"OVF", 20, 5, .ro, .f, 0⟩]⟩,
  ⟨"SCAPL", 0x200, 0x8, 16, [⟨"CAPL", 31, 0, .ro, .f, 0⟩]⟩,
  ⟨"SCAPH", 0x204, 0x8, 16, [⟨"CAPH", 30, 0, .ro, .f, 0⟩, ⟨"EDGE", 31, 31, .ro, .f, 0⟩]⟩,
  ⟨"TGSENT", 0x400, 0x8, 64, [⟨"SENT", 31, 0, .ro, .f, 0⟩]⟩,
  ⟨"TGMISS", 0x404, 0x8, 64, [⟨"MISSED", 15, 0, .ro, .f, 0⟩, ⟨"RESENT", 31, 16, .ro, .f, 0⟩]⟩]
/-- All registers of TSU. -/
def regsTSU : List RegDesc := regsTSU0 ++ regsTSU1
/-- Registers of CLK, part 0: R653. -/
def regsCLK0 : List RegDesc := [
  ⟨"CLKSTAT", 0x0, 0x4, 1, [⟨"ROOTLOCK", 0, 0, .ro, .k, 0⟩, ⟨"REFOK", 1, 1, .ro, .k, 0⟩, ⟨"MEMLOCK", 2, 2, .ro, .f, 0⟩, ⟨"UNLOCKS", 15, 8, .ro, .k, 0⟩]⟩,
  ⟨"RAILSTAT", 0x4, 0x4, 1, [⟨"INWIN", 7, 0, .ro, .k, 0⟩, ⟨"FAULTED", 15, 8, .ro, .k, 0⟩]⟩,
  ⟨"RAILMV", 0x10, 0x4, 8, [⟨"MV", 15, 0, .ro, .k, 0⟩]⟩,
  ⟨"TS", 0x100, 0x4, 30, [⟨"TJ", 11, 0, .ro, .f, 0⟩, ⟨"VALID", 12, 12, .ro, .f, 0⟩]⟩,
  ⟨"THRSTAT", 0x200, 0x4, 1, [⟨"STEP", 2, 0, .ro, .f, 0⟩, ⟨"HOT", 12, 8, .ro, .f, 0⟩]⟩,
  ⟨"THRTMAX", 0x204, 0x4, 1, [⟨"TMAX", 11, 0, .ro, .f, 0⟩]⟩,
  ⟨"THRBUD", 0x208, 0x4, 1, [⟨"BUDGET", 31, 0, .ro, .f, 48000⟩]⟩,
  ⟨"THRCNT", 0x20C, 0x4, 1, [⟨"STEPUPS", 15, 0, .ro, .f, 0⟩, ⟨"NCAM", 23, 16, .ro, .f, 0⟩]⟩,
  ⟨"THRMAP", 0x220, 0x4, 6, [⟨"THR", 31, 0, .ro, .f, 0⟩]⟩]
/-- All registers of CLK. -/
def regsCLK : List RegDesc := regsCLK0
/-- Registers of UPL, part 0: R395. -/
def regsUPL0 : List RegDesc := [
  ⟨"UPCTL", 0x0, 0x4, 1, [⟨"RPLTO", 15, 0, .rw, .f, 100⟩, ⟨"LPBK", 16, 16, .rw, .f, 0⟩]⟩,
  ⟨"UPSTAT", 0x4, 0x4, 1, [⟨"UP", 0, 0, .ro, .f, 0⟩, ⟨"NAKWAIT", 1, 1, .ro, .f, 0⟩, ⟨"SHEDDING", 2, 2, .ro, .f, 0⟩, ⟨"CLOSED", 7, 3, .ro, .f, 0⟩, ⟨"TXQ", 15, 8, .ro, .f, 0⟩, ⟨"RXQ", 19, 16, .ro, .f, 0⟩]⟩,
  ⟨"UPINJ", 0x8, 0x4, 1, [⟨"TXCRC", 0, 0, .wo, .h, 0⟩, ⟨"RXDROP", 1, 1, .wo, .h, 0⟩]⟩,
  ⟨"UPSEQ", 0xC, 0x4, 1, [⟨"TXNEXT", 15, 0, .ro, .f, 0⟩, ⟨"TXACK", 31, 16, .ro, .f, 65535⟩]⟩,
  ⟨"UPRXSEQ", 0x10, 0x4, 1, [⟨"RXNEXT", 15, 0, .ro, .f, 0⟩]⟩,
  ⟨"UPRPL", 0x14, 0x4, 1, [⟨"RPLBYTES", 22, 0, .ro, .f, 0⟩]⟩,
  ⟨"UPTXCL", 0x20, 0x8, 5, [⟨"CL", 31, 0, .ro, .f, 0⟩]⟩,
  ⟨"UPTXCC", 0x24, 0x8, 5, [⟨"CC", 31, 0, .ro, .f, 0⟩]⟩,
  ⟨"UPRXCL", 0x50, 0x4, 5, [⟨"CL", 31, 0, .ro, .f, 0⟩]⟩,
  ⟨"UPEGR", 0x68, 0x4, 1, [⟨"ALLOC", 11, 0, .ro, .f, 0⟩, ⟨"PEAK", 27, 16, .ro, .f, 0⟩]⟩,
  ⟨"UPCAP", 0x6C, 0x4, 1, [⟨"CAP", 31, 0, .ro, .f, 0⟩]⟩,
  ⟨"UPLOAD", 0x70, 0x4, 1, [⟨"LOAD", 31, 0, .ro, .f, 0⟩]⟩]
/-- Registers of UPL, part 1: R395. -/
def regsUPL1 : List RegDesc := [
  ⟨"UPCNT0", 0x74, 0x4, 1, [⟨"NAKRX", 15, 0, .ro, .f, 0⟩, ⟨"NAKTX", 31, 16, .ro, .f, 0⟩]⟩,
  ⟨"UPCNT1", 0x78, 0x4, 1, [⟨"REPLAYS", 15, 0, .ro, .f, 0⟩, ⟨"RPLTIMEOUT", 31, 16, .ro, .f, 0⟩]⟩,
  ⟨"UPCNT2", 0x7C, 0x4, 1, [⟨"HCRCERR", 15, 0, .ro, .f, 0⟩, ⟨"TCRCERR", 31, 16, .ro, .f, 0⟩]⟩,
  ⟨"UPCNT3", 0x80, 0x4, 1, [⟨"CREDV", 15, 0, .ro, .f, 0⟩, ⟨"BADKIND", 31, 16, .ro, .f, 0⟩]⟩,
  ⟨"UPCNT4", 0x84, 0x4, 1, [⟨"SHED", 15, 0, .ro, .f, 0⟩, ⟨"EGOVF", 31, 16, .ro, .f, 0⟩]⟩,
  ⟨"UPCNT5", 0x88, 0x4, 1, [⟨"REINIT", 15, 0, .ro, .f, 0⟩, ⟨"LOST", 31, 16, .ro, .f, 0⟩]⟩]
/-- The link set of UPL: R100, R101, R102. In UPL every field of it has owner H (R662). -/
def regsUPLLink : List RegDesc := [
  ⟨"LKCTL", 0x100, 0x4, 1, [⟨"ENABLE", 0, 0, .rw, .h, 1⟩, ⟨"RETRAIN", 1, 1, .wo, .h, 0⟩, ⟨"DEGR_EN", 2, 2, .rw, .h, 1⟩, ⟨"QRETRAIN", 3, 3, .wo, .h, 0⟩, ⟨"QSEL", 6, 4, .rw, .h, 0⟩, ⟨"MAXRATE", 11, 8, .rw, .h, 6⟩]⟩,
  ⟨"LKSTAT", 0x104, 0x4, 1, [⟨"STATE", 3, 0, .ro, .h, 0⟩, ⟨"RATE", 7, 4, .ro, .h, 0⟩, ⟨"TARGET", 11, 8, .ro, .h, 0⟩, ⟨"FELLBACK", 16, 16, .ro, .h, 0⟩, ⟨"DEGRADED", 17, 17, .ro, .h, 0⟩, ⟨"HOLD", 18, 18, .ro, .h, 0⟩]⟩,
  ⟨"LKACT", 0x10C, 0x4, 1, [⟨"ACTTX", 31, 0, .ro, .h, 0⟩]⟩,
  ⟨"ACTRX", 0x110, 0x4, 1, [⟨"ACTRX", 15, 0, .ro, .h, 0⟩]⟩,
  ⟨"LANEC0", 0x200, 0x10, 16, [⟨"LOS", 15, 0, .ro, .h, 0⟩, ⟨"LOL", 31, 16, .ro, .h, 0⟩]⟩,
  ⟨"LANEC1", 0x204, 0x10, 16, [⟨"MCRC", 31, 0, .ro, .h, 0⟩]⟩,
  ⟨"LANEC2", 0x208, 0x10, 16, [⟨"STUFV", 31, 0, .ro, .h, 0⟩]⟩,
  ⟨"LANEC3", 0x20C, 0x10, 16, [⟨"DSKW", 15, 0, .ro, .h, 0⟩, ⟨"LOSNOW", 16, 16, .ro, .h, 0⟩, ⟨"ALIGNED", 17, 17, .ro, .h, 0⟩, ⟨"INV", 18, 18, .ro, .h, 0⟩]⟩,
  ⟨"LKCLR", 0x108, 0x4, 1, [⟨"CLRCNT", 0, 0, .wo, .h, 0⟩]⟩]
/-- All registers of UPL. -/
def regsUPL : List RegDesc := regsUPL0 ++ regsUPL1 ++ regsUPLLink
/-- Registers of BRG, part 0: R427. -/
def regsBRG0 : List RegDesc := [
  ⟨"CTL", 0x0, 0x4, 1, [⟨"COMPAT", 0, 0, .rw, .f, 0⟩, ⟨"COMPATNOW", 1, 1, .ro, .f, 0⟩, ⟨"FASTWIN", 15, 8, .rw, .f, 8⟩, ⟨"LCKTO", 23, 16, .rw, .f, 10⟩]⟩,
  ⟨"STAT", 0x4, 0x4, 1, [⟨"DRBUSY", 6, 0, .ro, .f, 0⟩, ⟨"LOCKS", 11, 8, .ro, .f, 0⟩]⟩,
  ⟨"PWERRL", 0x10, 0x4, 1, [⟨"ADDRL", 31, 0, .ro, .h, 0⟩]⟩,
  ⟨"PWERRH", 0x14, 0x4, 1, [⟨"ADDRH", 15, 0, .ro, .h, 0⟩, ⟨"CODE", 23, 16, .ro, .h, 0⟩, ⟨"DETAIL", 30, 24, .ro, .h, 0⟩, ⟨"VALID", 31, 31, .w1c, .h, 0⟩]⟩,
  ⟨"PWERRT", 0x18, 0x4, 1, [⟨"TAG", 11, 0, .ro, .h, 0⟩, ⟨"LOST", 31, 16, .ro, .h, 0⟩]⟩,
  ⟨"IMASK", 0x20, 0x4, 1, [⟨"EN", 10, 0, .rw, .h, 2047⟩]⟩,
  ⟨"IPEND", 0x24, 0x4, 1, [⟨"PEND", 10, 0, .ro, .h, 0⟩]⟩,
  ⟨"HWINL", 0x30, 0x10, 4, [⟨"BASEL", 31, 0, .rw, .f, 0⟩]⟩,
  ⟨"HWINH", 0x34, 0x10, 4, [⟨"BASEH", 15, 0, .rw, .f, 0⟩]⟩,
  ⟨"HWINS", 0x38, 0x10, 4, [⟨"SIZE", 31, 0, .rw, .f, 0⟩]⟩,
  ⟨"CNT0", 0x70, 0x4, 1, [⟨"RETRYTX", 15, 0, .ro, .h, 0⟩, ⟨"NOBUF", 31, 16, .ro, .h, 0⟩]⟩,
  ⟨"CNT1", 0x74, 0x4, 1, [⟨"DRDISCARD", 15, 0, .ro, .h, 0⟩, ⟨"REFUSED", 31, 16, .ro, .h, 0⟩]⟩]
/-- Registers of BRG, part 1: R427. -/
def regsBRG1 : List RegDesc := [
  ⟨"CNT2", 0x78, 0x4, 1, [⟨"QFULL", 15, 0, .ro, .h, 0⟩, ⟨"LOCKTO", 31, 16, .ro, .h, 0⟩]⟩,
  ⟨"CNT3", 0x7C, 0x4, 1, [⟨"TUNERR", 15, 0, .ro, .h, 0⟩]⟩,
  ⟨"CNTCLR", 0x80, 0x4, 1, [⟨"CLR", 0, 0, .wo, .h, 0⟩]⟩]
/-- All registers of BRG. -/
def regsBRG : List RegDesc := regsBRG0 ++ regsBRG1
/-- Registers of PEER, part 0: R506. -/
def regsPEER0 : List RegDesc := [
  ⟨"PCTL", 0x0, 0x4, 1, [⟨"CATCHUP", 1, 0, .rw, .f, 2⟩]⟩,
  ⟨"PSTAT", 0x4, 0x4, 1, [⟨"STATE", 2, 0, .ro, .f, 0⟩, ⟨"DEV", 5, 4, .ro, .f, 0⟩, ⟨"MISSED", 15, 8, .ro, .f, 0⟩, ⟨"LEVEL", 31, 16, .ro, .f, 0⟩]⟩,
  ⟨"PLEVEL", 0x8, 0x4, 1, [⟨"PMIN", 15, 0, .ro, .f, 257⟩, ⟨"PMAX", 31, 16, .ro, .f, 258⟩]⟩,
  ⟨"PPEER", 0xC, 0x4, 1, [⟨"PMIN", 15, 0, .ro, .f, 0⟩, ⟨"PMAX", 31, 16, .ro, .f, 0⟩]⟩,
  ⟨"PSKEW", 0x10, 0x4, 1, [⟨"SKEW", 31, 0, .ro, .f, 0⟩]⟩,
  ⟨"PLASTB", 0x14, 0x4, 1, [⟨"TBEAT", 31, 0, .ro, .f, 0⟩]⟩,
  ⟨"PCNT0", 0x20, 0x4, 1, [⟨"TAKEOVERS", 15, 0, .ro, .f, 0⟩, ⟨"HANDOVERS", 31, 16, .ro, .f, 0⟩]⟩,
  ⟨"PCNT1", 0x24, 0x4, 1, [⟨"BEATMISS", 15, 0, .ro, .f, 0⟩, ⟨"REINIT", 31, 16, .ro, .f, 0⟩]⟩,
  ⟨"PCNT2", 0x28, 0x4, 1, [⟨"REPLAYED", 15, 0, .ro, .f, 0⟩, ⟨"NOTICED", 31, 16, .ro, .f, 0⟩]⟩,
  ⟨"PRIMA", 0x40, 0x4, 6, [⟨"PRIMA", 31, 0, .ro, .f, 0⟩]⟩,
  ⟨"ARMED", 0x60, 0x4, 6, [⟨"ARMED", 31, 0, .ro, .f, 0⟩]⟩]
/-- The link set of PEER: R100, R101, R102. -/
def regsPEERLink : List RegDesc := [
  ⟨"LKCTL", 0x100, 0x4, 1, [⟨"ENABLE", 0, 0, .rw, .f, 0⟩, ⟨"RETRAIN", 1, 1, .wo, .f, 0⟩, ⟨"DEGR_EN", 2, 2, .rw, .f, 1⟩, ⟨"QRETRAIN", 3, 3, .wo, .f, 0⟩, ⟨"QSEL", 6, 4, .rw, .f, 0⟩, ⟨"MAXRATE", 11, 8, .rw, .f, 6⟩]⟩,
  ⟨"LKSTAT", 0x104, 0x4, 1, [⟨"STATE", 3, 0, .ro, .f, 0⟩, ⟨"RATE", 7, 4, .ro, .f, 0⟩, ⟨"TARGET", 11, 8, .ro, .f, 0⟩, ⟨"FELLBACK", 16, 16, .ro, .f, 0⟩, ⟨"DEGRADED", 17, 17, .ro, .f, 0⟩, ⟨"HOLD", 18, 18, .ro, .f, 0⟩]⟩,
  ⟨"LKACT", 0x10C, 0x4, 1, [⟨"ACTTX", 31, 0, .ro, .f, 0⟩]⟩,
  ⟨"ACTRX", 0x110, 0x4, 1, [⟨"ACTRX", 15, 0, .ro, .f, 0⟩]⟩,
  ⟨"LANEC0", 0x200, 0x10, 8, [⟨"LOS", 15, 0, .ro, .f, 0⟩, ⟨"LOL", 31, 16, .ro, .f, 0⟩]⟩,
  ⟨"LANEC1", 0x204, 0x10, 8, [⟨"MCRC", 31, 0, .ro, .f, 0⟩]⟩,
  ⟨"LANEC2", 0x208, 0x10, 8, [⟨"STUFV", 31, 0, .ro, .f, 0⟩]⟩,
  ⟨"LANEC3", 0x20C, 0x10, 8, [⟨"DSKW", 15, 0, .ro, .f, 0⟩, ⟨"LOSNOW", 16, 16, .ro, .f, 0⟩, ⟨"ALIGNED", 17, 17, .ro, .f, 0⟩, ⟨"INV", 18, 18, .ro, .f, 0⟩]⟩,
  ⟨"LKCLR", 0x108, 0x4, 1, [⟨"CLRCNT", 0, 0, .wo, .h, 0⟩]⟩]
/-- All registers of PEER. -/
def regsPEER : List RegDesc := regsPEER0 ++ regsPEERLink
/-- Registers of DMA, part 0: R572. -/
def regsDMA0 : List RegDesc := [
  ⟨"DMACTL", 0x0, 0x4, 1, [⟨"CLR", 0, 0, .wo, .f, 0⟩]⟩,
  ⟨"DMACNT", 0x4, 0x4, 1, [⟨"ERRORS", 15, 0, .ro, .f, 0⟩, ⟨"IGNGO", 31, 16, .ro, .f, 0⟩]⟩,
  ⟨"GRANT", 0x10, 0x4, 1, [⟨"MASK", 31, 0, .rw, .f, 0⟩]⟩,
  ⟨"GRANTUL", 0x14, 0x4, 1, [⟨"UNTIL", 31, 0, .rw, .f, 0⟩]⟩,
  ⟨"GRANTUH", 0x18, 0x4, 1, [⟨"UNTIL", 31, 0, .rw, .f, 0⟩]⟩,
  ⟨"EVFLAG", 0x20, 0x4, 2, [⟨"FLAG", 31, 0, .ro, .f, 0⟩]⟩,
  ⟨"EVSET", 0x28, 0x4, 2, [⟨"SET", 31, 0, .wo, .f, 0⟩]⟩,
  ⟨"EVCLR", 0x30, 0x4, 2, [⟨"CLR", 31, 0, .wo, .f, 0⟩]⟩,
  ⟨"CHCTL", 0x100, 0x20, 32, [⟨"GO", 0, 0, .wo, .f, 0⟩, ⟨"ABORT", 1, 1, .wo, .f, 0⟩]⟩,
  ⟨"CHDESCL", 0x104, 0x20, 32, [⟨"ADDR", 31, 0, .rw, .f, 0⟩]⟩,
  ⟨"CHDESCH", 0x108, 0x20, 32, [⟨"ADDR", 15, 0, .rw, .f, 0⟩]⟩,
  ⟨"CHSTAT", 0x10C, 0x20, 32, [⟨"STATE", 2, 0, .ro, .f, 0⟩, ⟨"CODE", 15, 8, .ro, .f, 0⟩, ⟨"PC", 31, 16, .ro, .f, 0⟩]⟩]
/-- Registers of DMA, part 1: R572. -/
def regsDMA1 : List RegDesc := [
  ⟨"CHCUR", 0x110, 0x20, 32, [⟨"ADDRL", 31, 0, .ro, .f, 0⟩]⟩,
  ⟨"CHMOVED", 0x114, 0x20, 32, [⟨"MOVED", 31, 0, .ro, .f, 0⟩]⟩]
/-- All registers of DMA. -/
def regsDMA : List RegDesc := regsDMA0 ++ regsDMA1
/-- Registers of CAN, part 0: R590. -/
def regsCAN0 : List RegDesc := [
  ⟨"CTL", 0x0, 0x4, 1, [⟨"EN", 0, 0, .rw, .f, 0⟩, ⟨"FDEN", 1, 1, .rw, .f, 0⟩, ⟨"LISTEN", 2, 2, .rw, .f, 0⟩, ⟨"ONESHOT", 3, 3, .rw, .f, 0⟩, ⟨"AUTOREC", 4, 4, .rw, .f, 1⟩, ⟨"YAWNEG", 5, 5, .rw, .f, 0⟩, ⟨"CLR", 6, 6, .wo, .f, 0⟩]⟩,
  ⟨"NBT", 0x4, 0x4, 1, [⟨"BRP", 7, 0, .rw, .f, 0⟩, ⟨"NTQ", 15, 8, .rw, .f, 0⟩, ⟨"SP", 23, 16, .rw, .f, 0⟩, ⟨"SJW", 31, 24, .rw, .f, 0⟩]⟩,
  ⟨"DBT", 0x8, 0x4, 1, [⟨"BRP", 7, 0, .rw, .f, 0⟩, ⟨"NTQ", 15, 8, .rw, .f, 0⟩, ⟨"SP", 23, 16, .rw, .f, 0⟩, ⟨"SJW", 31, 24, .rw, .f, 0⟩]⟩,
  ⟨"TXLIFE", 0xC, 0x4, 1, [⟨"MS", 15, 0, .rw, .f, 0⟩]⟩,
  ⟨"STAT", 0x10, 0x4, 1, [⟨"STATE", 1, 0, .ro, .f, 3⟩, ⟨"VEHOK", 2, 2, .ro, .f, 0⟩, ⟨"YAWOK", 3, 3, .ro, .f, 0⟩, ⟨"SOURCE", 4, 4, .ro, .f, 0⟩, ⟨"TXDEPTH", 15, 8, .ro, .f, 0⟩, ⟨"RXFILL", 22, 16, .ro, .f, 0⟩]⟩,
  ⟨"ERRC", 0x14, 0x4, 1, [⟨"TEC", 7, 0, .ro, .f, 0⟩, ⟨"REC", 23, 16, .ro, .f, 0⟩]⟩,
  ⟨"VEHSA", 0x18, 0x4, 1, [⟨"SA", 7, 0, .rw, .f, 254⟩]⟩,
  ⟨"VSPD", 0x1C, 0x4, 1, [⟨"V", 31, 0, .ro, .f, 0⟩]⟩,
  ⟨"VYAW", 0x20, 0x4, 1, [⟨"OMEGA", 31, 0, .ro, .f, 0⟩]⟩,
  ⟨"CNT0", 0x24, 0x4, 1, [⟨"RXFRAMES", 15, 0, .ro, .f, 0⟩, ⟨"TXFRAMES", 31, 16, .ro, .f, 0⟩]⟩,
  ⟨"CNT1", 0x28, 0x4, 1, [⟨"RXLOST", 15, 0, .ro, .f, 0⟩, ⟨"TXABORT", 31, 16, .ro, .f, 0⟩]⟩,
  ⟨"CNT2", 0x2C, 0x4, 1, [⟨"VEHBAD", 15, 0, .ro, .f, 0⟩, ⟨"BUSOFF", 31, 16, .ro, .f, 0⟩]⟩]
/-- Registers of CAN, part 1: R590. -/
def regsCAN1 : List RegDesc := [
  ⟨"WCTL", 0x40, 0x4, 1, [⟨"WKIND", 1, 0, .rw, .f, 0⟩]⟩,
  ⟨"WID", 0x44, 0x4, 1, [⟨"ID", 31, 0, .rw, .f, 0⟩]⟩,
  ⟨"WMASK", 0x48, 0x4, 1, [⟨"MASK", 31, 0, .rw, .f, 0⟩]⟩,
  ⟨"WDATAL", 0x4C, 0x4, 1, [⟨"DATA", 31, 0, .rw, .f, 0⟩]⟩,
  ⟨"WDATAH", 0x50, 0x4, 1, [⟨"DATA", 31, 0, .rw, .f, 0⟩]⟩,
  ⟨"WDMASKL", 0x54, 0x4, 1, [⟨"DMASK", 31, 0, .rw, .f, 0⟩]⟩,
  ⟨"WDMASKH", 0x58, 0x4, 1, [⟨"DMASK", 31, 0, .rw, .f, 0⟩]⟩,
  ⟨"FID", 0x100, 0x10, 32, [⟨"ID", 31, 0, .rw, .f, 0⟩]⟩,
  ⟨"FMASK", 0x104, 0x10, 32, [⟨"MASK", 31, 0, .rw, .f, 0⟩]⟩,
  ⟨"FACT", 0x108, 0x10, 32, [⟨"ACTION", 1, 0, .rw, .f, 0⟩]⟩]
/-- All registers of CAN. -/
def regsCAN : List RegDesc := regsCAN0 ++ regsCAN1
/-- Registers of I2CA, part 0: R603. -/
def regsI2CA0 : List RegDesc := [
  ⟨"ADRS", 0x0, 0x4, 1, [⟨"MGMT", 6, 0, .ro, .k, 0⟩, ⟨"KEEPER", 14, 8, .ro, .k, 0⟩]⟩,
  ⟨"ADR2", 0x4, 0x4, 1, [⟨"ADDR", 6, 0, .rw, .f, 0⟩, ⟨"EN", 7, 7, .rw, .f, 0⟩]⟩,
  ⟨"ADR3", 0x8, 0x4, 1, [⟨"ADDR", 6, 0, .rw, .f, 0⟩, ⟨"EN", 7, 7, .rw, .f, 0⟩, ⟨"MASK", 14, 8, .rw, .f, 127⟩]⟩,
  ⟨"MSTAT", 0xC, 0x4, 1, [⟨"CODE", 7, 0, .rclr, .f, 0⟩, ⟨"DETAIL", 15, 8, .rclr, .f, 0⟩, ⟨"ERRS", 31, 16, .ro, .f, 0⟩]⟩,
  ⟨"ISTAT", 0x10, 0x4, 1, [⟨"MREADY", 0, 0, .ro, .f, 0⟩, ⟨"BUSY", 1, 1, .ro, .f, 0⟩, ⟨"CLR", 2, 2, .wo, .f, 0⟩]⟩,
  ⟨"IPTRL", 0x14, 0x4, 1, [⟨"P", 31, 0, .ro, .f, 0⟩]⟩,
  ⟨"IPTRH", 0x18, 0x4, 1, [⟨"P", 15, 0, .ro, .f, 0⟩]⟩,
  ⟨"ICNT", 0x1C, 0x4, 1, [⟨"STRETCHTO", 15, 0, .ro, .f, 0⟩]⟩]
/-- All registers of I2CA. -/
def regsI2CA : List RegDesc := regsI2CA0
/-- Registers of I2CB, part 0: R604. -/
def regsI2CB0 : List RegDesc := [
  ⟨"CTL", 0x0, 0x4, 1, [⟨"EN", 0, 0, .rw, .f, 0⟩, ⟨"SPEED", 2, 1, .rw, .f, 0⟩, ⟨"GO", 3, 3, .wo, .f, 0⟩, ⟨"CLRSTUCK", 4, 4, .wo, .f, 0⟩, ⟨"CLR", 5, 5, .wo, .f, 0⟩]⟩,
  ⟨"TXN", 0x4, 0x4, 1, [⟨"ADDR", 6, 0, .rw, .f, 0⟩, ⟨"WLEN", 14, 8, .rw, .f, 0⟩, ⟨"RLEN", 22, 16, .rw, .f, 0⟩]⟩,
  ⟨"STAT", 0x8, 0x4, 1, [⟨"STATE", 2, 0, .ro, .f, 0⟩, ⟨"CODE", 15, 8, .ro, .f, 0⟩, ⟨"NDONE", 22, 16, .ro, .f, 0⟩]⟩,
  ⟨"CNT", 0xC, 0x4, 1, [⟨"CLEARS", 15, 0, .ro, .f, 0⟩, ⟨"ERRORS", 31, 16, .ro, .f, 0⟩]⟩,
  ⟨"DATA", 0x40, 0x4, 16, [⟨"D", 31, 0, .rw, .f, 0⟩]⟩]
/-- All registers of I2CB. -/
def regsI2CB : List RegDesc := regsI2CB0
/-- Registers of MBX, part 0: R457. -/
def regsMBX0 : List RegDesc := [
  ⟨"INFO", 0x0, 0x4, 1, [⟨"SHI", 15, 0, .ro, .f, 770⟩, ⟨"SHIMIN", 31, 16, .ro, .f, 516⟩]⟩,
  ⟨"SERVE", 0x4, 0x4, 1, [⟨"SERVING", 0, 0, .ro, .f, 0⟩, ⟨"ACTPAIR", 1, 1, .ro, .f, 0⟩]⟩,
  ⟨"CHRST", 0x8, 0x4, 1, [⟨"CH", 5, 0, .wo, .h, 0⟩, ⟨"GO", 31, 31, .wo, .h, 0⟩]⟩,
  ⟨"CHERR0", 0x10, 0x4, 1, [⟨"ERR", 31, 0, .ro, .f, 0⟩]⟩,
  ⟨"CHERR1", 0x14, 0x4, 1, [⟨"ERR", 31, 0, .ro, .f, 0⟩]⟩,
  ⟨"DB", 0x1000, 0x10, 64, [⟨"CPI", 15, 0, .rw, .h, 0⟩]⟩,
  ⟨"RCI", 0x1004, 0x10, 64, [⟨"RCI", 15, 0, .rw, .h, 0⟩]⟩,
  ⟨"IDX", 0x1008, 0x10, 64, [⟨"CCI", 15, 0, .ro, .f, 0⟩, ⟨"RPI", 31, 16, .ro, .f, 0⟩]⟩,
  ⟨"CST", 0x100C, 0x10, 64, [⟨"STATE", 2, 0, .ro, .f, 0⟩, ⟨"COMPAT", 3, 3, .ro, .f, 0⟩, ⟨"LEVEL", 31, 16, .ro, .f, 768⟩]⟩]
/-- All registers of MBX. -/
def regsMBX : List RegDesc := regsMBX0
/-- Registers of XBAR, part 0: R190, R531. -/
def regsXBAR0 : List RegDesc := [
  ⟨"MAP", 0x0, 0x4, 192, [⟨"CUR", 7, 0, .ro, .f, 255⟩, ⟨"NEXT", 15, 8, .rw, .f, 255⟩, ⟨"PEND", 16, 16, .ro, .f, 0⟩]⟩,
  ⟨"RMAP", 0x400, 0x4, 208, [⟨"PORT", 7, 0, .ro, .f, 255⟩, ⟨"PORT2", 15, 8, .ro, .f, 255⟩, ⟨"DUAL", 16, 16, .ro, .f, 0⟩]⟩,
  ⟨"ROTPER", 0x800, 0x4, 1, [⟨"PERIOD", 31, 0, .rw, .f, 60⟩]⟩,
  ⟨"ROTCTL", 0x804, 0x4, 1, [⟨"MAXWIN", 2, 0, .rw, .f, 4⟩, ⟨"PAUSE", 3, 3, .rw, .f, 0⟩, ⟨"CLR", 4, 4, .wo, .f, 0⟩]⟩,
  ⟨"ROTSTAT", 0x808, 0x4, 1, [⟨"ACTIVE", 2, 0, .ro, .f, 0⟩, ⟨"PCAUSE", 7, 4, .ro, .f, 6⟩, ⟨"FREE", 15, 8, .ro, .f, 0⟩, ⟨"RETIRED", 23, 16, .ro, .f, 0⟩, ⟨"NEXT", 31, 24, .ro, .f, 0⟩]⟩,
  ⟨"ROTCYC", 0x80C, 0x4, 1, [⟨"CYCLES", 31, 0, .ro, .f, 0⟩]⟩,
  ⟨"ROTCNT0", 0x810, 0x4, 1, [⟨"WINDOWS", 15, 0, .ro, .f, 0⟩, ⟨"TRANSIENT", 31, 16, .ro, .f, 0⟩]⟩,
  ⟨"ROTCNT1", 0x814, 0x4, 1, [⟨"REPAIRS", 15, 0, .ro, .f, 0⟩, ⟨"DEFERRED", 31, 16, .ro, .f, 0⟩]⟩,
  ⟨"SPAREMAP", 0x820, 0x4, 7, [⟨"SPARE", 31, 0, .ro, .f, 0⟩]⟩,
  ⟨"RETMAP", 0x840, 0x4, 7, [⟨"RET", 31, 0, .ro, .k, 0⟩]⟩,
  ⟨"DROPMAP", 0x860, 0x4, 6, [⟨"DROP", 31, 0, .ro, .f, 0⟩]⟩,
  ⟨"SHAREMAP", 0x880, 0x4, 6, [⟨"SHARE", 31, 0, .ro, .f, 0⟩]⟩]
/-- All registers of XBAR. -/
def regsXBAR : List RegDesc := regsXBAR0
/-- Registers of HP, part 0: R140, R141, R142, R189. -/
def regsHP0 : List RegDesc := [
  ⟨"PSTAT", 0x0, 0x4, 1, [⟨"PSTATE", 3, 0, .ro, .f, 0⟩, ⟨"WEAR", 5, 4, .ro, .f, 0⟩, ⟨"AUTH", 7, 6, .ro, .f, 0⟩, ⟨"DUAL", 8, 8, .ro, .f, 0⟩, ⟨"MASTER", 9, 9, .ro, .f, 0⟩, ⟨"HITLESS", 10, 10, .ro, .f, 0⟩, ⟨"OVT", 11, 11, .ro, .f, 0⟩, ⟨"DVER", 31, 16, .ro, .f, 0⟩]⟩,
  ⟨"PCTL", 0x4, 0x4, 1, [⟨"ALLOW_UNAUTH", 0, 0, .rw, .f, 0⟩, ⟨"RSPTO", 15, 8, .rw, .f, 10⟩, ⟨"REAUTH", 23, 16, .rw, .f, 60⟩]⟩,
  ⟨"HSERIAL", 0x10, 0x4, 4, [⟨"SER", 31, 0, .ro, .f, 0⟩]⟩,
  ⟨"PCNT0", 0x20, 0x4, 1, [⟨"HCRCERR", 15, 0, .ro, .f, 0⟩, ⟨"BADTYPE", 31, 16, .ro, .f, 0⟩]⟩,
  ⟨"PCNT1", 0x24, 0x4, 1, [⟨"BCTIMEOUT", 15, 0, .ro, .f, 0⟩, ⟨"RSPCRC", 31, 16, .ro, .f, 0⟩]⟩,
  ⟨"INGGEOM", 0x400, 0x4, 1, [⟨"WIDTH", 13, 0, .rw, .f, 0⟩, ⟨"HEIGHT", 29, 16, .rw, .f, 0⟩]⟩,
  ⟨"INGFMT", 0x404, 0x4, 1, [⟨"DT", 5, 0, .rw, .f, 44⟩, ⟨"HDR", 6, 6, .rw, .f, 0⟩, ⟨"FILLMODE", 7, 7, .rw, .f, 0⟩, ⟨"STAGGER", 14, 8, .rw, .f, 8⟩, ⟨"LWDOG", 23, 16, .rw, .f, 64⟩, ⟨"FWDOG", 31, 24, .rw, .f, 24⟩]⟩,
  ⟨"INGLT", 0x408, 0x4, 1, [⟨"LTIME", 31, 0, .rw, .f, 0⟩]⟩,
  ⟨"INGFPER", 0x40C, 0x4, 1, [⟨"FPERIOD", 31, 0, .rw, .f, 0⟩]⟩,
  ⟨"INGFILL", 0x410, 0x4, 1, [⟨"FILLV", 15, 0, .rw, .f, 0⟩]⟩,
  ⟨"INGKNEE", 0x414, 0x4, 1, [⟨"T0", 15, 0, .rw, .f, 0⟩, ⟨"T1", 31, 16, .rw, .f, 65535⟩]⟩,
  ⟨"INGSTAT", 0x418, 0x4, 1, [⟨"FSTATE", 1, 0, .ro, .f, 0⟩, ⟨"OVFNOW", 2, 2, .ro, .f, 0⟩, ⟨"LASTLINE", 29, 16, .ro, .f, 0⟩]⟩]
/-- Registers of HP, part 1: R189. -/
def regsHP1 : List RegDesc := [
  ⟨"INGFN", 0x41C, 0x4, 1, [⟨"FN", 31, 0, .ro, .f, 0⟩]⟩,
  ⟨"INGLAST", 0x420, 0x4, 12, [⟨"REC", 31, 0, .ro, .f, 0⟩]⟩,
  ⟨"ICNT0", 0x460, 0x4, 1, [⟨"LCRCERR", 15, 0, .ro, .f, 0⟩, ⟨"MALFORMED", 31, 16, .ro, .f, 0⟩]⟩,
  ⟨"ICNT1", 0x464, 0x4, 1, [⟨"ORPHAN", 15, 0, .ro, .f, 0⟩, ⟨"LATEDISC", 31, 16, .ro, .f, 0⟩]⟩,
  ⟨"ICNT2", 0x468, 0x4, 1, [⟨"LONGDROP", 15, 0, .ro, .f, 0⟩, ⟨"OVFLINES", 31, 16, .ro, .f, 0⟩]⟩,
  ⟨"ICNT3", 0x46C, 0x4, 1, [⟨"JUMPS", 15, 0, .ro, .f, 0⟩, ⟨"DAMAGED", 31, 16, .ro, .f, 0⟩]⟩,
  ⟨"ICNT4", 0x470, 0x4, 1, [⟨"DUPLINE", 15, 0, .ro, .f, 0⟩, ⟨"HDRSINGLE", 31, 16, .ro, .f, 0⟩]⟩]
/-- The link set of HP: R100, R101, R102. -/
def regsHPLink : List RegDesc := [
  ⟨"LKCTL", 0x100, 0x4, 1, [⟨"ENABLE", 0, 0, .rw, .f, 0⟩, ⟨"RETRAIN", 1, 1, .wo, .f, 0⟩, ⟨"DEGR_EN", 2, 2, .rw, .f, 1⟩, ⟨"QRETRAIN", 3, 3, .wo, .f, 0⟩, ⟨"QSEL", 6, 4, .rw, .f, 0⟩, ⟨"MAXRATE", 11, 8, .rw, .f, 3⟩, ⟨"BMAXRATE", 15, 12, .rw, .f, 1⟩]⟩,
  ⟨"LKSTAT", 0x104, 0x4, 1, [⟨"STATE", 3, 0, .ro, .f, 0⟩, ⟨"RATE", 7, 4, .ro, .f, 0⟩, ⟨"TARGET", 11, 8, .ro, .f, 0⟩, ⟨"BRATE", 15, 12, .ro, .f, 0⟩, ⟨"FELLBACK", 16, 16, .ro, .f, 0⟩, ⟨"DEGRADED", 17, 17, .ro, .f, 0⟩, ⟨"HOLD", 18, 18, .ro, .f, 0⟩]⟩,
  ⟨"LKACT", 0x10C, 0x4, 1, [⟨"ACTTX", 31, 0, .ro, .f, 0⟩]⟩,
  ⟨"ACTRX", 0x110, 0x4, 1, [⟨"ACTRX", 15, 0, .ro, .f, 0⟩]⟩,
  ⟨"LANEC0", 0x200, 0x10, 4, [⟨"LOS", 15, 0, .ro, .f, 0⟩, ⟨"LOL", 31, 16, .ro, .f, 0⟩]⟩,
  ⟨"LANEC1", 0x204, 0x10, 4, [⟨"MCRC", 31, 0, .ro, .f, 0⟩]⟩,
  ⟨"LANEC2", 0x208, 0x10, 4, [⟨"STUFV", 31, 0, .ro, .f, 0⟩]⟩,
  ⟨"LANEC3", 0x20C, 0x10, 4, [⟨"DSKW", 15, 0, .ro, .f, 0⟩, ⟨"LOSNOW", 16, 16, .ro, .f, 0⟩, ⟨"ALIGNED", 17, 17, .ro, .f, 0⟩, ⟨"INV", 18, 18, .ro, .f, 0⟩]⟩,
  ⟨"LKCLR", 0x108, 0x4, 1, [⟨"CLRCNT", 0, 0, .wo, .h, 0⟩]⟩]
/-- All registers of HP. -/
def regsHP : List RegDesc := regsHP0 ++ regsHP1 ++ regsHPLink
/-- Registers of SL, part 0: R213, R245. -/
def regsSL0 : List RegDesc := [
  ⟨"NRCTL", 0x1000, 0x4, 1, [⟨"SNR_EN", 0, 0, .rw, .f, 0⟩, ⟨"TNR_EN", 1, 1, .rw, .f, 0⟩, ⟨"CLR", 2, 2, .wo, .f, 0⟩, ⟨"S", 15, 8, .rw, .f, 64⟩, ⟨"CW", 27, 16, .rw, .f, 256⟩]⟩,
  ⟨"NRLUT", 0x1004, 0x4, 4, [⟨"LUT", 31, 0, .rw, .f, 0⟩]⟩,
  ⟨"TNRCTL", 0x1014, 0x4, 1, [⟨"BMAX", 7, 0, .rw, .f, 192⟩, ⟨"KLO", 15, 8, .rw, .f, 24⟩, ⟨"KHI", 23, 16, .rw, .f, 48⟩]⟩,
  ⟨"TNRLIM", 0x1018, 0x4, 1, [⟨"MAXMOT", 10, 0, .rw, .f, 512⟩, ⟨"REFAGE", 23, 16, .rw, .f, 100⟩]⟩,
  ⟨"MOTION", 0x1020, 0x4, 1, [⟨"MOTX", 15, 0, .rw, .f, 0⟩, ⟨"MOTY", 31, 16, .rw, .f, 0⟩]⟩,
  ⟨"MOTSTAT", 0x1024, 0x4, 1, [⟨"SRC", 1, 0, .ro, .f, 3⟩, ⟨"LATE", 2, 2, .ro, .f, 0⟩, ⟨"VALIDBLK", 10, 4, .ro, .f, 0⟩]⟩,
  ⟨"NMODEL", 0x1028, 0x4, 1, [⟨"SHOT", 15, 0, .ro, .f, 0⟩, ⟨"READ", 31, 16, .ro, .f, 128⟩]⟩,
  ⟨"GAIN", 0x102C, 0x4, 1, [⟨"G", 15, 0, .rw, .f, 256⟩]⟩,
  ⟨"TNRSTAT", 0x1030, 0x4, 1, [⟨"WARMN", 3, 0, .ro, .f, 0⟩, ⟨"LCAUSE", 7, 4, .ro, .f, 0⟩, ⟨"REFSEL", 8, 8, .ro, .f, 0⟩]⟩,
  ⟨"NRCNT0", 0x1040, 0x4, 1, [⟨"MOTLATE", 15, 0, .ro, .f, 0⟩, ⟨"REFLOSS", 31, 16, .ro, .f, 0⟩]⟩,
  ⟨"NRCNT1", 0x1044, 0x4, 1, [⟨"POISON", 15, 0, .ro, .f, 0⟩]⟩,
  ⟨"CLRCTL", 0x1100, 0x4, 1, [⟨"BLK_EN", 0, 0, .rw, .f, 1⟩, ⟨"SDEF_EN", 1, 1, .rw, .f, 1⟩, ⟨"DDEF_EN", 2, 2, .rw, .f, 1⟩, ⟨"SHD_EN", 3, 3, .rw, .f, 1⟩, ⟨"WB_EN", 4, 4, .rw, .f, 1⟩, ⟨"FCS_EN", 5, 5, .rw, .f, 1⟩, ⟨"SEP_EN", 6, 6, .rw, .f, 0⟩, ⟨"CCM_EN", 7, 7, .rw, .f, 0⟩, ⟨"IDX_EN", 8, 8, .rw, .f, 0⟩, ⟨"TONE_EN", 9, 9, .rw, .f, 0⟩, ⟨"GAMMA", 11, 10, .rw, .f, 1⟩, ⟨"CSC_STD", 12, 12, .rw, .f, 0⟩, ⟨"RANGE", 13, 13, .rw, .f, 1⟩, ⟨"BLKDESC", 14, 14, .rw, .f, 1⟩, ⟨"SHDSRC", 15, 15, .rw, .f, 0⟩, ⟨"NIRBYP", 16, 16, .rw, .f, 0⟩]⟩]
/-- Registers of SL, part 1: R245. -/
def regsSL1 : List RegDesc := [
  ⟨"BLKOFS0", 0x1104, 0x4, 1, [⟨"OFS0", 15, 0, .rw, .f, 0⟩, ⟨"OFS1", 31, 16, .rw, .f, 0⟩]⟩,
  ⟨"BLKOFS1", 0x1108, 0x4, 1, [⟨"OFS2", 15, 0, .rw, .f, 0⟩, ⟨"OFS3", 31, 16, .rw, .f, 0⟩]⟩,
  ⟨"DDEF", 0x110C, 0x4, 1, [⟨"DDK", 7, 0, .rw, .f, 96⟩, ⟨"DDMIN", 23, 8, .rw, .f, 16⟩]⟩,
  ⟨"WBG0", 0x1110, 0x4, 1, [⟨"WB0", 15, 0, .rw, .f, 4096⟩, ⟨"WB1", 31, 16, .rw, .f, 4096⟩]⟩,
  ⟨"WBG1", 0x1114, 0x4, 1, [⟨"WB2", 15, 0, .rw, .f, 4096⟩, ⟨"WB3", 31, 16, .rw, .f, 4096⟩]⟩,
  ⟨"DMSCTL", 0x1118, 0x4, 1, [⟨"EDGET", 7, 0, .rw, .f, 64⟩, ⟨"FCS", 15, 8, .rw, .f, 128⟩]⟩,
  ⟨"SHDGEOM", 0x111C, 0x4, 1, [⟨"MX", 5, 0, .rw, .f, 9⟩, ⟨"MY", 12, 8, .rw, .f, 7⟩]⟩,
  ⟨"SEP", 0x1120, 0x4, 6, [⟨"LO", 15, 0, .rw, .f, 0⟩, ⟨"HI", 31, 16, .rw, .f, 0⟩]⟩,
  ⟨"CCM", 0x1140, 0x4, 4, [⟨"LO", 15, 0, .rw, .f, 0⟩, ⟨"HI", 31, 16, .rw, .f, 0⟩]⟩,
  ⟨"CCM4", 0x1150, 0x4, 1, [⟨"LO", 15, 0, .rw, .f, 0x1000⟩]⟩,
  ⟨"CCMOFS", 0x1154, 0x4, 3, [⟨"O", 23, 0, .rw, .f, 0⟩]⟩,
  ⟨"TONEW", 0x1160, 0x4, 1, [⟨"WHITE", 23, 0, .rw, .f, 4095⟩]⟩,
  ⟨"IDXSEL", 0x1170, 0x4, 1, [⟨"XSEL", 2, 0, .rw, .f, 3⟩, ⟨"YSEL", 5, 3, .rw, .f, 0⟩, ⟨"W16", 6, 6, .rw, .f, 0⟩, ⟨"OSCALE", 23, 8, .rw, .f, 127⟩]⟩]
/-- Registers of SL, part 2: R245, R246, R277. -/
def regsSL2 : List RegDesc := [
  ⟨"IDXNUM", 0x1174, 0x4, 1, [⟨"A", 15, 0, .rw, .f, 4096⟩, ⟨"B", 31, 16, .rw, .f, 61440⟩]⟩,
  ⟨"IDXNUM2", 0x1178, 0x4, 1, [⟨"C", 15, 0, .rw, .f, 0⟩]⟩,
  ⟨"IDXDEN", 0x117C, 0x4, 1, [⟨"D", 15, 0, .rw, .f, 4096⟩, ⟨"E", 31, 16, .rw, .f, 4096⟩]⟩,
  ⟨"IDXDEN2", 0x1180, 0x4, 1, [⟨"F", 15, 0, .rw, .f, 0⟩, ⟨"DMIN", 31, 16, .rw, .f, 0⟩]⟩,
  ⟨"IDXOFS", 0x1184, 0x4, 1, [⟨"OOFS", 15, 0, .rw, .f, 0⟩]⟩,
  ⟨"DEFCNT0", 0x1190, 0x4, 1, [⟨"STATIC", 15, 0, .ro, .f, 0⟩, ⟨"DYNAMIC", 31, 16, .ro, .f, 0⟩]⟩,
  ⟨"DEFCNT1", 0x1194, 0x4, 1, [⟨"UNCORR", 15, 0, .ro, .f, 0⟩]⟩,
  ⟨"TLUT", 0x1200, 0x4, 257, [⟨"T", 15, 0, .rw, .f, 0⟩]⟩,
  ⟨"WCTL", 0x1800, 0x4, 1, [⟨"WARP_EN", 0, 0, .rw, .f, 0⟩, ⟨"BICUBIC", 1, 1, .rw, .f, 0⟩, ⟨"BMODE", 2, 2, .rw, .f, 0⟩, ⟨"NBUF3", 3, 3, .ro, .f, 0⟩, ⟨"WRDF", 15, 8, .rw, .f, 20⟩]⟩,
  ⟨"WOSIZE", 0x1804, 0x4, 1, [⟨"OW", 13, 0, .rw, .f, 0⟩, ⟨"OH", 29, 16, .rw, .f, 0⟩]⟩,
  ⟨"WPLANES", 0x1808, 0x4, 1, [⟨"PLANES", 7, 0, .ro, .f, 0⟩]⟩,
  ⟨"WBORDER", 0x180C, 0x4, 1, [⟨"BY", 15, 0, .rw, .f, 4096⟩, ⟨"BC", 31, 16, .rw, .f, 32768⟩]⟩]
/-- Registers of SL, part 3: R277, R305. -/
def regsSL3 : List RegDesc := [
  ⟨"WBORDER2", 0x1810, 0x4, 1, [⟨"BN", 15, 0, .rw, .f, 0⟩]⟩,
  ⟨"WSTAT", 0x1814, 0x4, 1, [⟨"OLINE", 13, 0, .ro, .f, 0⟩, ⟨"LATE", 14, 14, .ro, .f, 0⟩]⟩,
  ⟨"WFETCH", 0x1818, 0x4, 1, [⟨"TILES", 31, 0, .ro, .f, 0⟩]⟩,
  ⟨"WCNT", 0x181C, 0x4, 1, [⟨"WLATE", 15, 0, .ro, .f, 0⟩, ⟨"POISON", 31, 16, .ro, .f, 0⟩]⟩,
  ⟨"OCTL", 0x1A00, 0x40, 4, [⟨"EN", 0, 0, .rw, .f, 0⟩, ⟨"FMT", 5, 1, .rw, .f, 0⟩, ⟨"POLICY", 7, 6, .rw, .f, 0⟩, ⟨"STORE", 8, 8, .ro, .f, 0⟩, ⟨"DEFCOEF", 9, 9, .rw, .f, 1⟩, ⟨"CLR", 10, 10, .wo, .f, 0⟩]⟩,
  ⟨"OCROP0", 0x1A04, 0x40, 4, [⟨"CX", 13, 0, .rw, .f, 0⟩, ⟨"CY", 29, 16, .rw, .f, 0⟩]⟩,
  ⟨"OCROP1", 0x1A08, 0x40, 4, [⟨"CWD", 13, 0, .rw, .f, 0⟩, ⟨"CHT", 29, 16, .rw, .f, 0⟩]⟩,
  ⟨"OSIZE", 0x1A0C, 0x40, 4, [⟨"DW", 13, 0, .rw, .f, 0⟩, ⟨"DH", 29, 16, .rw, .f, 0⟩]⟩,
  ⟨"OSTAT", 0x1A10, 0x40, 4, [⟨"KH", 1, 0, .ro, .f, 0⟩, ⟨"KV", 3, 2, .ro, .f, 0⟩, ⟨"KHC", 5, 4, .ro, .f, 0⟩, ⟨"KVC", 7, 6, .ro, .f, 0⟩, ⟨"OLINE", 21, 8, .ro, .f, 0⟩]⟩,
  ⟨"OFSEQ", 0x1A14, 0x40, 4, [⟨"FSEQ", 31, 0, .ro, .f, 0⟩]⟩,
  ⟨"OFN", 0x1A18, 0x40, 4, [⟨"FN", 31, 0, .ro, .f, 0⟩]⟩,
  ⟨"OCNT", 0x1A1C, 0x40, 4, [⟨"FRAMES", 15, 0, .ro, .f, 0⟩, ⟨"NOTICES", 31, 16, .ro, .f, 0⟩]⟩]
/-- Registers of SL, part 4: R305, R306, R334. -/
def regsSL4 : List RegDesc := [
  ⟨"OCNT2", 0x1A20, 0x40, 4, [⟨"STATUS", 15, 0, .ro, .f, 0⟩, ⟨"STOREFULL", 31, 16, .ro, .f, 0⟩]⟩,
  ⟨"HCOEF", 0x2000, 0x4, 1024, [⟨"LO", 15, 0, .rw, .f, 0⟩, ⟨"HI", 31, 16, .rw, .f, 0⟩]⟩,
  ⟨"VCOEF", 0x3000, 0x4, 512, [⟨"LO", 15, 0, .rw, .f, 0⟩, ⟨"HI", 31, 16, .rw, .f, 0⟩]⟩,
  ⟨"STCTL", 0x1C00, 0x4, 1, [⟨"EN", 0, 0, .rw, .f, 0⟩, ⟨"STATPOL", 2, 1, .rw, .f, 0⟩, ⟨"CLR", 3, 3, .wo, .f, 0⟩, ⟨"SATL", 15, 8, .rw, .f, 240⟩]⟩,
  ⟨"STWIN0", 0x1C04, 0x4, 1, [⟨"X0", 13, 0, .rw, .f, 0⟩, ⟨"Y0", 29, 16, .rw, .f, 0⟩]⟩,
  ⟨"STWIN1", 0x1C08, 0x4, 1, [⟨"W", 13, 0, .rw, .f, 0⟩, ⟨"H", 29, 16, .rw, .f, 0⟩]⟩,
  ⟨"STSTAT", 0x1C0C, 0x4, 1, [⟨"BANK", 0, 0, .ro, .f, 0⟩, ⟨"READLATE", 1, 1, .w1c, .f, 0⟩]⟩,
  ⟨"STFN", 0x1C10, 0x4, 1, [⟨"FN", 31, 0, .ro, .f, 0⟩]⟩,
  ⟨"PQSTAT", 0x1D00, 0x4, 1, [⟨"USED", 7, 0, .ro, .f, 0⟩, ⟨"NEXTL", 15, 8, .ro, .f, 0⟩]⟩,
  ⟨"PQNEXT", 0x1D04, 0x4, 1, [⟨"TFN", 31, 0, .ro, .f, 0⟩]⟩,
  ⟨"PQCNT0", 0x1D10, 0x4, 1, [⟨"RETARGET", 15, 0, .ro, .f, 0⟩, ⟨"DISCARD", 31, 16, .ro, .f, 0⟩]⟩,
  ⟨"PQCNT1", 0x1D14, 0x4, 1, [⟨"SUPERSEDED", 15, 0, .ro, .f, 0⟩, ⟨"LAPSED", 31, 16, .ro, .f, 0⟩]⟩]
/-- Registers of SL, part 5: R334, R367. -/
def regsSL5 : List RegDesc := [
  ⟨"PQCNT2", 0x1D18, 0x4, 1, [⟨"QFULL", 15, 0, .ro, .f, 0⟩]⟩,
  ⟨"ENGCTL", 0x800, 0x4, 1, [⟨"RUN", 0, 0, .rw, .f, 0⟩, ⟨"RESTART", 1, 1, .wo, .f, 0⟩, ⟨"TAPD_EN", 2, 2, .rw, .f, 0⟩, ⟨"TAPS_EN", 3, 3, .rw, .f, 0⟩, ⟨"CLR", 4, 4, .wo, .f, 0⟩, ⟨"WDOGF", 15, 8, .rw, .f, 32⟩]⟩,
  ⟨"ENGSTAT", 0x804, 0x4, 1, [⟨"STATE", 2, 0, .ro, .f, 0⟩, ⟨"TRAPC", 15, 8, .ro, .f, 0⟩]⟩,
  ⟨"ENGPC", 0x808, 0x4, 1, [⟨"PC", 12, 0, .ro, .f, 0⟩]⟩,
  ⟨"ENGPROG", 0x80C, 0x4, 1, [⟨"PROGID", 31, 0, .ro, .f, 0⟩]⟩,
  ⟨"TAPCFGD", 0x810, 0x4, 1, [⟨"POPMASK", 7, 0, .ro, .f, 0⟩, ⟨"PUSHMASK", 15, 8, .ro, .f, 0⟩, ⟨"TAPLAT", 24, 16, .ro, .f, 0⟩]⟩,
  ⟨"TAPCFGS", 0x814, 0x4, 1, [⟨"POPMASK", 7, 0, .ro, .f, 0⟩, ⟨"PUSHMASK", 15, 8, .ro, .f, 0⟩, ⟨"TAPLAT", 24, 16, .ro, .f, 0⟩]⟩,
  ⟨"TAPSTAT", 0x818, 0x4, 1, [⟨"BYPD", 0, 0, .ro, .f, 0⟩, ⟨"BYPS", 1, 1, .ro, .f, 0⟩]⟩,
  ⟨"SCQSTAT", 0x81C, 0x4, 1, [⟨"OUTST", 2, 0, .ro, .f, 0⟩, ⟨"SCQERR", 31, 16, .ro, .f, 0⟩]⟩,
  ⟨"ENGCNT0", 0x820, 0x4, 1, [⟨"TRAPS", 15, 0, .ro, .f, 0⟩, ⟨"UNDERRUN", 31, 16, .ro, .f, 0⟩]⟩,
  ⟨"ENGCNT1", 0x824, 0x4, 1, [⟨"EVOVR", 15, 0, .ro, .f, 0⟩, ⟨"LOSTCOMMIT", 31, 16, .ro, .f, 0⟩]⟩,
  ⟨"ENGCNT2", 0x828, 0x4, 1, [⟨"BUSY", 31, 0, .ro, .f, 0⟩]⟩]
/-- Registers of SL, part 6: R367, R532. -/
def regsSL6 : List RegDesc := [
  ⟨"ENGMADDR", 0x830, 0x4, 1, [⟨"ADDR", 14, 0, .rw, .h, 0⟩, ⟨"SPACE", 15, 15, .rw, .h, 0⟩]⟩,
  ⟨"ENGMDATA", 0x834, 0x4, 1, [⟨"DATA", 31, 0, .ro, .h, 0⟩]⟩,
  ⟨"PRVSTAT", 0x400, 0x4, 1, [⟨"SSTATE", 2, 0, .ro, .f, 1⟩, ⟨"RSV", 3, 3, .ro, .f, 0⟩, ⟨"FIRST", 4, 4, .ro, .f, 0⟩, ⟨"LASTSEG", 13, 8, .ro, .f, 0⟩, ⟨"RESULT", 17, 16, .ro, .f, 0⟩]⟩,
  ⟨"PRVTIMEL", 0x404, 0x4, 1, [⟨"TPASS", 31, 0, .ro, .f, 0⟩]⟩,
  ⟨"PRVTIMEH", 0x408, 0x4, 1, [⟨"TPASS", 31, 0, .ro, .f, 0⟩]⟩,
  ⟨"PRVCNT", 0x40C, 0x4, 1, [⟨"PASSES", 15, 0, .ro, .f, 0⟩, ⟨"MISMATCH", 31, 16, .ro, .f, 0⟩]⟩,
  ⟨"PRVSIGL", 0x410, 0x4, 1, [⟨"MISR", 31, 0, .ro, .f, 0⟩]⟩,
  ⟨"PRVSIGH", 0x414, 0x4, 1, [⟨"MISR", 31, 0, .ro, .f, 0⟩]⟩,
  ⟨"SRREP", 0x440, 0x4, 22, [⟨"VALID", 0, 0, .ro, .k, 0⟩, ⟨"FUSED", 1, 1, .ro, .k, 0⟩, ⟨"ROW", 16, 8, .ro, .k, 0⟩]⟩]
/-- All registers of SL. -/
def regsSL : List RegDesc := regsSL0 ++ regsSL1 ++ regsSL2 ++ regsSL3 ++ regsSL4 ++ regsSL5 ++ regsSL6
/-- Registers of LAT, part 0: R278. -/
def regsLAT0 : List RegDesc := [
  ⟨"LATSTAT", 0x0, 0x4, 1, [⟨"DEFINED", 7, 0, .ro, .f, 0⟩, ⟨"OWNER", 15, 8, .ro, .f, 0⟩, ⟨"BUSY", 23, 16, .ro, .f, 0⟩]⟩]
/-- All registers of LAT. -/
def regsLAT : List RegDesc := regsLAT0
/-- Registers of LT, part 0: R278. -/
def regsLT0 : List RegDesc := [
  ⟨"LCTL", 0x0, 0x4, 1, [⟨"GROUP", 5, 0, .rw, .f, 0⟩, ⟨"LFMT", 7, 6, .rw, .f, 0⟩, ⟨"RDIV", 14, 8, .rw, .f, 1⟩, ⟨"LDMG", 15, 15, .rw, .f, 0⟩]⟩,
  ⟨"LSIZE", 0x4, 0x4, 1, [⟨"CWM1", 15, 0, .rw, .f, 0⟩, ⟨"CHM1", 28, 16, .rw, .f, 0⟩]⟩,
  ⟨"LGSD", 0x8, 0x4, 1, [⟨"GSD", 31, 0, .rw, .f, 65536⟩]⟩,
  ⟨"LXORG", 0xC, 0x4, 1, [⟨"XORG", 31, 0, .rw, .f, 0⟩]⟩,
  ⟨"LYORG", 0x10, 0x4, 1, [⟨"YORG", 31, 0, .rw, .f, 0⟩]⟩,
  ⟨"LGLAZE", 0x14, 0x4, 1, [⟨"GLAZE", 12, 0, .rw, .f, 200⟩]⟩,
  ⟨"LDEAD", 0x18, 0x4, 1, [⟨"LDEAD", 31, 0, .rw, .f, 0⟩]⟩,
  ⟨"LTOFS", 0x1C, 0x4, 1, [⟨"TOFS", 31, 0, .rw, .f, 0⟩]⟩,
  ⟨"LBG", 0x20, 0x4, 1, [⟨"BG0", 15, 0, .rw, .f, 4096⟩, ⟨"BG1", 31, 16, .rw, .f, 32768⟩]⟩,
  ⟨"LLFN", 0x24, 0x4, 1, [⟨"LFN", 31, 0, .ro, .f, 0⟩]⟩,
  ⟨"LMOTV", 0x28, 0x4, 1, [⟨"V", 31, 0, .ro, .f, 0⟩]⟩,
  ⟨"LMOTW", 0x2C, 0x4, 1, [⟨"OMEGA", 31, 0, .ro, .f, 0⟩]⟩]
/-- Registers of LT, part 1: R278. -/
def regsLT1 : List RegDesc := [
  ⟨"LCNT", 0x30, 0x4, 1, [⟨"INCOMPLETE", 15, 0, .ro, .f, 0⟩, ⟨"SKIPPED", 31, 16, .ro, .f, 0⟩]⟩,
  ⟨"LREC", 0x40, 0x4, 16, [⟨"REC", 31, 0, .ro, .f, 0⟩]⟩]
/-- All registers of LT. -/
def regsLT : List RegDesc := regsLT0 ++ regsLT1
/-- Registers of LTS, part 0: R278. -/
def regsLTS0 : List RegDesc := [
  ⟨"CPORT", 0x0, 0x4, 1, [⟨"PORT", 7, 0, .rw, .f, 255⟩]⟩,
  ⟨"CGS", 0x4, 0x4, 1, [⟨"GS", 15, 0, .rw, .f, 256⟩]⟩,
  ⟨"CH", 0x8, 0x4, 9, [⟨"HINV", 31, 0, .rw, .f, 0⟩]⟩,
  ⟨"CHG", 0x2C, 0x4, 1, [⟨"HGAIN", 15, 0, .ro, .f, 16384⟩]⟩]
/-- All registers of LTS. -/
def regsLTS : List RegDesc := regsLTS0
/-- Registers of MEMC, part 0: R625. -/
def regsMEMC0 : List RegDesc := [
  ⟨"MCFG", 0x0, 0x4, 1, [⟨"SIZE", 1, 0, .ro, .f, 0⟩, ⟨"CHOK", 5, 2, .ro, .f, 0⟩]⟩,
  ⟨"INITWML", 0x8, 0x4, 1, [⟨"WM", 31, 0, .ro, .f, 0⟩]⟩,
  ⟨"INITWMH", 0xC, 0x4, 1, [⟨"WM", 15, 0, .ro, .f, 1⟩]⟩,
  ⟨"INITSTAT", 0x10, 0x4, 1, [⟨"RUNNING", 0, 0, .ro, .f, 0⟩, ⟨"DONE", 1, 1, .ro, .f, 0⟩, ⟨"FOWBLK", 31, 16, .ro, .f, 0⟩]⟩,
  ⟨"SRCNT", 0x20, 0x4, 1, [⟨"CE", 15, 0, .ro, .f, 0⟩, ⟨"UE", 31, 16, .ro, .f, 0⟩]⟩,
  ⟨"LCNTA", 0x30, 0x8, 4, [⟨"CE", 15, 0, .ro, .f, 0⟩, ⟨"UE", 31, 16, .ro, .f, 0⟩]⟩,
  ⟨"LCNTB", 0x34, 0x8, 4, [⟨"LINKCE", 15, 0, .ro, .f, 0⟩, ⟨"LINKRETRY", 31, 16, .ro, .f, 0⟩]⟩,
  ⟨"ERRADDRL", 0x60, 0x4, 1, [⟨"ADDR", 31, 0, .ro, .f, 0⟩]⟩,
  ⟨"ERRADDRH", 0x64, 0x4, 1, [⟨"ADDR", 15, 0, .ro, .f, 0⟩, ⟨"SRC", 17, 16, .ro, .f, 0⟩, ⟨"VALID", 31, 31, .w1c, .f, 0⟩]⟩,
  ⟨"SCRUB", 0x70, 0x4, 1, [⟨"SR_EN", 0, 0, .rw, .f, 1⟩, ⟨"LP_EN", 1, 1, .rw, .f, 1⟩]⟩,
  ⟨"BWRES", 0x80, 0x4, 1, [⟨"MBS", 31, 0, .ro, .f, 0⟩]⟩,
  ⟨"CAPRES", 0x84, 0x4, 1, [⟨"MIB", 31, 0, .ro, .f, 0⟩]⟩]
/-- Registers of MEMC, part 1: R625. -/
def regsMEMC1 : List RegDesc := [
  ⟨"POOL", 0x88, 0x4, 1, [⟨"MIB", 31, 0, .ro, .f, 0⟩]⟩,
  ⟨"BWLIM", 0x8C, 0x4, 1, [⟨"MBS", 31, 0, .ro, .f, 230000⟩]⟩,
  ⟨"CNTCLR", 0x90, 0x4, 1, [⟨"CLR", 0, 0, .wo, .f, 0⟩]⟩]
/-- All registers of MEMC. -/
def regsMEMC : List RegDesc := regsMEMC0 ++ regsMEMC1
/-- Registers of SEC, part 0: R638. -/
def regsSEC0 : List RegDesc := [
  ⟨"SECSTAT", 0x0, 0x4, 1, [⟨"KEYLOCK", 0, 0, .ro, .k, 0⟩, ⟨"STOK", 1, 1, .ro, .f, 0⟩, ⟨"GRANT", 2, 2, .ro, .f, 0⟩, ⟨"ATTERR", 3, 3, .ro, .f, 0⟩, ⟨"ROOTREV", 7, 4, .ro, .k, 0⟩]⟩,
  ⟨"SVNFUSE", 0x4, 0x4, 1, [⟨"FW", 6, 0, .ro, .k, 0⟩, ⟨"KB", 22, 16, .ro, .k, 0⟩]⟩,
  ⟨"DEVID", 0x10, 0x4, 4, [⟨"ID", 31, 0, .ro, .k, 0⟩]⟩,
  ⟨"DEVPUB", 0x40, 0x4, 24, [⟨"KEY", 31, 0, .ro, .k, 0⟩]⟩,
  ⟨"ATTSIG", 0x100, 0x4, 24, [⟨"SIG", 31, 0, .ro, .f, 0⟩]⟩]
/-- All registers of SEC. -/
def regsSEC : List RegDesc := regsSEC0
/-- The registers of a block. -/
def Block.regs : Block → List RegDesc
  | .glb => regsGLB
  | .kpr => regsKPR
  | .fcu => regsFCU
  | .tsu => regsTSU
  | .clk => regsCLK
  | .upl => regsUPL
  | .brg => regsBRG
  | .peer => regsPEER
  | .dma => regsDMA
  | .can => regsCAN
  | .i2ca => regsI2CA
  | .i2cb => regsI2CB
  | .mbx => regsMBX
  | .xbar => regsXBAR
  | .hp => regsHP
  | .sl => regsSL
  | .lat => regsLAT
  | .lt => regsLT
  | .lts => regsLTS
  | .memc => regsMEMC
  | .sec => regsSEC

end Sys2Proof.Machine
end

