-- ==== Sys2Proof/Machine/State.lean ====
section
/-!
DEFINITION. The state of the CK9200 as plain data, its reasons to stop, and the state right after reset.
-/
namespace Sys2Proof.Machine

/-- Reasons a step can stop the block. No meaning raises one: every event of the manual leaves the device in a state. -/
inductive Fault where
  /-- Kept for a command whose operands name nothing the device has; raised by nobody, safe. -/
  | impossible
  deriving DecidableEq, Repr

/-- Reasons a command has no meaning. -/
inductive Refusal where
  /-- Raised by exec for a row whose meaning is not written yet; safe. -/
  | notModelled (mnemonic : String)
  deriving DecidableEq, Repr

/-- The CK9200: its registers, its memory, and what no register holds, chapter by chapter; and the commands waiting. -/
structure State where
  /-- The register file: byte address in the CSR window to the word stored; an unlisted register holds its reset value. -/
  csr : Tbl Word
  /-- SRAM and LPDDR bytes, addresses rising, no zero listed: an unlisted byte reads 0 (R607, R614). -/
  mem : List Host.Cell
  memx : MemX
  keeper : Keeper
  /-- Interrupt messages pending, oldest first (R415), and ISEQ of each source (R413). -/
  intr : List IntMsg
  iseq : Tbl Nat
  sys : Sys
  /-- The fuses as they took effect at the last BOOT, and as they are programmed (R524, R631). -/
  fuses : Fuses
  blown : Fuses
  sec : Sec
  tsu : Tsu
  links : Tbl LinkSt
  ports : Tbl PortSt
  ledger : List LedgerEntry
  cfg : Cfg
  /-- Ingest of each port, state of each camera, and streams by SID. -/
  ingests : Tbl Ingest
  cams : Tbl Cam
  streams : Tbl StreamSt
  rot : Rot
  lats : Tbl LatSt
  pair : Pair
  pl : PeerLl
  /-- Accepted speed and yaw updates, newest first: message time, v and ω, S16.16 (R203, R264, R584). -/
  motions : List (Nat × Int × Int)
  upl : Upl
  bridge : Bridge
  mbx : Mbx
  /-- Running DMA channels, CAN controllers, and the I2C interfaces. -/
  dma : Tbl Dma
  cans : Tbl CanSt
  i2c : I2c
  /-- The slice engines, and the binaries of the program store (R360). -/
  engs : Tbl Eng
  progs : List Binary
  /-- What has left the device on its pins, oldest first. -/
  sent : List Sent
  /-- Latched words of the snapshot registers, by path and address (R622). -/
  snaps : Tbl Word
  /-- Bytes given out by the last read on each path (R621). -/
  readOut : Tbl (List Byte)
  /-- MODEL FIELD, not the spec's: the number of free values taken so far (log entry 1). -/
  fresh : Nat
  /-- The commands waiting, first in, first out. -/
  pending : List Instr
  deriving DecidableEq, Repr

/-- The device right after reset: the keeper has just started from power-up (R645), PWRGOOD is low, every domain but the
keeper's is off, and every register holds the reset value of its table. -/
def State.reset : State where
  csr := []
  mem := []
  memx := {}
  keeper := {}
  intr := []
  iseq := []
  sys := {}
  fuses := {}
  blown := {}
  sec := {}
  tsu := {}
  links := []
  ports := []
  ledger := []
  cfg := {}
  ingests := []
  cams := []
  streams := []
  rot := {}
  lats := []
  pair := {}
  pl := {}
  motions := []
  upl := {}
  bridge := {}
  mbx := {}
  dma := []
  cans := []
  i2c := {}
  engs := []
  progs := []
  sent := []
  snaps := []
  readOut := []
  fresh := 0
  pending := []

end Sys2Proof.Machine
end

