-- ==== Sys2Proof/Machine/Ops.lean ====
section
/-!
DEFINITION. The named operations over the state that the meanings share: the register file with its power domains and
reset values, time, free values, interrupt messages and fault reports.
-/
namespace Sys2Proof.Machine

/-- What every meaning answers. -/
abbrev Out := Host.Outcome State Fault Refusal

/-! ## The register map (R654, R655) -/

/-- The block, instance and offset of an address in the CSR window; none in a gap or beyond the last instance (R654). -/
def locate (a : Nat) : Option (Block × Nat × Nat) :=
  if a < 0x10000 then some (.glb, 0, a)
  else if a < 0x20000 then some (.kpr, 0, a - 0x10000)
  else if a < 0x30000 then some (.fcu, 0, a - 0x20000)
  else if a < 0x40000 then some (.tsu, 0, a - 0x30000)
  else if a < 0x80000 then some (.clk, 0, a - 0x40000)
  else if a < 0x90000 then some (.upl, 0, a - 0x80000)
  else if a < 0xA0000 then some (.brg, 0, a - 0x90000)
  else if a < 0xB0000 then some (.peer, 0, a - 0xA0000)
  else if a < 0xC0000 then none
  else if a < 0xD0000 then some (.dma, 0, a - 0xC0000)
  else if a < 0xE0000 then some (.can, (a - 0xD0000) / 0x8000, (a - 0xD0000) % 0x8000)
  else if a < 0xE8000 then some (.i2ca, 0, a - 0xE0000)
  else if a < 0xF0000 then some (.i2cb, 0, a - 0xE8000)
  else if a < 0x100000 then some (.mbx, 0, a - 0xF0000)
  else if a < 0x110000 then some (.xbar, 0, a - 0x100000)
  else if a < 0x200000 then none
  else if a < 0x500000 then some (.hp, (a - 0x200000) / 0x4000, (a - 0x200000) % 0x4000)
  else if a < 0x800000 then none
  else if a < 0xE80000 then some (.sl, (a - 0x800000) / 0x8000, (a - 0x800000) % 0x8000)
  else if a < 0xF00000 then none
  else if a < 0xF01000 then some (.lat, 0, a - 0xF00000)
  else if a < 0xF09000 then
    let o := (a - 0xF01000) % 0x1000
    if o < 0x400 then some (.lt, (a - 0xF01000) / 0x1000, o)
    else if o < 0xC00 then some (.lts, (a - 0xF01000) / 0x1000 * 32 + (o - 0x400) / 0x40, (o - 0x400) % 0x40)
    else none
  else if a < 0xF80000 then none
  else if a < 0xF90000 then some (.memc, 0, a - 0xF80000)
  else if a < 0xFC0000 then none
  else if a < 0xFD0000 then some (.sec, 0, a - 0xFC0000)
  else none

/-- Whether a register row covers an offset, and at which index. -/
def RegDesc.index (r : RegDesc) (off : Nat) : Option Nat :=
  if off < r.off then none
  else
    let k := (off - r.off) / r.stride
    if (off - r.off) % r.stride = 0 ∧ k < r.count then some k else none

/-- The row and index of an offset in a list of rows. -/
def findReg : List RegDesc → Nat → Option (RegDesc × Nat)
  | [], _ => none
  | r :: rest, off =>
    match r.index off with
    | some k => some (r, k)
    | none => findReg rest off

/-- The register at an address: its block, instance, row and index; none at a hole (R658). -/
def regAt (a : Nat) : Option (Block × Nat × RegDesc × Nat) :=
  match locate a with
  | none => none
  | some (b, i, off) =>
    match findReg b.regs off with
    | none => none
    | some (r, k) => some (b, i, r, k)

/-- The power domains of R655. -/
inductive Domain where
  | keeper | fabric | uplink | peer | can | boardBus | pixel | lpddr
  deriving DecidableEq, Repr

/-- The domain of a block (R655). -/
def Block.domain : Block → Domain
  | .kpr | .fcu => .keeper
  | .glb | .tsu | .clk | .brg | .dma | .i2ca | .mbx | .sec => .fabric
  | .upl => .uplink
  | .peer => .peer
  | .can => .can
  | .i2cb => .boardBus
  | .xbar | .hp | .sl | .lat | .lt | .lts => .pixel
  | .memc => .lpddr

/-- 16 bits of a tap in two's complement. -/
def tap16 (v : Int) : Nat := unsigned 16 v

/-- Two 16-bit values in one word, the first in bits [15:0]. -/
def word2 (lo hi : Int) : Nat := tap16 lo + 65536 * tap16 hi

/-- Reset words that a table gives by a formula or an index (R213, R245, R246, R278, R306) and those "per code" (R2,
R625); none where the fields' own reset values stand. -/
def specialReset (b : Block) (r : RegDesc) (k : Nat) : Option Nat :=
  match b with
  | .glb => if r.name = "IDCODE" then some (0x21920000 + if Config.is32G then 0x20 else 0x10) else none
  | .memc =>
    if r.name = "MCFG" then some (if Config.is32G then 2 else 1)
    else if r.name = "POOL" then some (if Config.is32G then 31744 else 15360)
    else none
  | .sl =>
    if r.name = "NRLUT" then some ([0xDCF0FCFF, 0x3C709CC0, 0, 0].getD k 0)
    else if r.name = "SEP" then some (if k = 0 then 0x1000 else if k = 2 then 0x10000000 else if k = 5 then 0x1000 else 0)
    else if r.name = "CCM" then some (if k = 0 ∨ k = 2 then 0x1000 else 0)
    else if r.name = "TLUT" then some (toneDefault k)
    else if r.name = "HCOEF" then
      let t := defaultH 1 1 (k / 4 % 64)
      some (word2 (t.getD (2 * (k % 4)) 0) (t.getD (2 * (k % 4) + 1) 0))
    else if r.name = "VCOEF" then
      let t := defaultV 1 1 (k / 2 % 64)
      some (word2 (t.getD (2 * (k % 2)) 0) (t.getD (2 * (k % 2) + 1) 0))
    else none
  | .lts => if r.name = "CH" ∧ (k = 0 ∨ k = 4 ∨ k = 8) then some 0x3F800000 else none
  | _ => none

/-- The word the fields' reset values make. -/
def fieldsReset : List FieldDesc → Nat
  | [] => 0
  | f :: r => f.reset <<< f.lo + fieldsReset r

/-- The reset value of the register at an address (R657); 0 at a hole. -/
def resetWord (a : Nat) : Word :=
  match regAt a with
  | none => 0
  | some (b, _, r, k) =>
    match specialReset b r k with
    | some v => BitVec.ofNat 32 v
    | none => BitVec.ofNat 32 (fieldsReset r.fields)

/-- The mask of the fields of a register that satisfy a test. -/
def maskWhere (p : FieldDesc → Bool) : List FieldDesc → Word
  | [] => 0
  | f :: r => (if p f then fieldMask f.hi f.lo else 0) ||| maskWhere p r

/-- The bits of the register at an address that the keeper keeps (R11, R655). -/
def keeperMask (a : Nat) : Word :=
  match regAt a with
  | none => 0
  | some (b, _, r, _) => if b.domain = .keeper then BitVec.allOnes 32 else maskWhere (fun f => f.owner = .k) r.fields

/-! ## Registers -/

/-- The word a register holds. -/
def State.reg (s : State) (a : Nat) : Word := s.csr.get a (resetWord a)

/-- The state with a register holding a word. -/
def State.setReg (s : State) (a : Nat) (w : Word) : State := { s with csr := s.csr.set a w }

/-- The value of a field. -/
def State.fld (s : State) (f : Fld) : Nat := getBits (s.reg f.addr) f.hi f.lo

/-- The state with a field holding the low bits of a value. -/
def State.setFld (s : State) (f : Fld) (v : Nat) : State := s.setReg f.addr (putBits (s.reg f.addr) f.hi f.lo v)

/-- A field as a Bool. -/
def State.flag (s : State) (f : Fld) : Bool := s.fld f != 0

/-- The signed reading of a field. -/
def State.sfld (s : State) (f : Fld) : Int := signed (fieldWidth f.hi f.lo) (s.fld f)

/-- A saturating counter field raised by n: every counter of the manual saturates. -/
def State.bump (s : State) (f : Fld) (n : Nat) : State := s.setFld f (satAdd (fieldWidth f.hi f.lo) (s.fld f) n)

/-- Several fields set in order. -/
def State.setFlds (s : State) : List (Fld × Nat) → State
  | [] => s
  | (f, v) :: r => (s.setFld f v).setFlds r

/-- Registers at addresses dropped to their reset values but for the bits the keeper keeps (R657). -/
def resetRegs (p : Nat → Bool) : Tbl Word → Tbl Word
  | [] => []
  | (a, w) :: r =>
    if p a then
      let m := keeperMask a
      if m = 0 then resetRegs p r else (a, (w &&& m) ||| (resetWord a &&& ~~~ m)) :: resetRegs p r
    else (a, w) :: resetRegs p r

/-- Whether an address lies in a block of a domain. -/
def inDomain (d : Domain) (a : Nat) : Bool :=
  match locate a with
  | none => false
  | some (b, _, _) => b.domain = d

/-! ## Modes and power domains (R33, R35, R655) -/

/-- Mode codes (R33). -/
def Mode.code : Mode → Nat
  | .boot => 0 | .safe => 1 | .standby => 2 | .prepare => 3 | .run => 4 | .paired => 5 | .degraded => 6 | .service => 7

/-- The mode of a code; reserved codes are never held (R35). -/
def Mode.ofCode : Nat → Mode
  | 1 => .safe | 2 => .standby | 3 => .prepare | 4 => .run | 5 => .paired | 6 => .degraded | 7 => .service | _ => .boot

/-- The current mode (R35). -/
def State.mode (s : State) : Mode := Mode.ofCode (s.fld GLB.MODE_CUR)

/-- Modes in which frames are delivered (R33). -/
def Mode.streaming : Mode → Bool
  | .run | .paired | .degraded => true
  | _ => false

/-- Modes in which the pixel path, the links and LPDDR are powered (R655). -/
def Mode.full : Mode → Bool
  | .prepare | .run | .paired | .degraded | .service => true
  | _ => false

/-- The rails are up, PWRGOOD is high, no reset is held and the clocks are not gated (R641, R646). -/
def State.alive (s : State) : Bool := s.sys.vio && s.sys.pwrgood && !s.sys.resetLow && !s.sys.gated

/-- Whether a domain is on (R655, R656); the fabric runs while a wake leaves STANDBY (R598, R642). -/
def State.domainOn (s : State) : Domain → Bool
  | .keeper => s.sys.vio
  | .fabric => s.alive && (match s.mode with
      | .boot => s.sys.stage != .idle
      | .standby => s.sys.trans.any fun t => t.target == .prepare
      | _ => true)
  | .boardBus => s.alive && (match s.mode with
      | .boot => s.sys.stage == .sirfiqua || s.sys.stage == .ended
      | .standby => false
      | _ => true)
  | .uplink | .peer | .can | .pixel | .lpddr => s.alive && s.mode.full

/-- Whether Sirfiqua runs: a pair is active in a mode in which the CPX runs (R33, R548). -/
def State.cpxRuns (s : State) : Bool := s.alive && (s.sys.pairA == .active || s.sys.pairB == .active) && s.mode != .standby

/-! ## Time (R143, R145, R534) -/

/-- TSU.NOW in whole nanoseconds. -/
def State.now (s : State) : Nat := s.tsu.now / 2 ^ 28

/-- The device's time: TSU.NOW while the TSU runs, the keeper's shadow otherwise (R145, R534). -/
def State.clock (s : State) : Nat := if s.tsu.running then s.now else s.keeper.shadow

/-! ## Free values -/

/-- A free value taken: a value the spec leaves open (log entry 1). -/
def State.free (s : State) : BitVec 64 := Config.freeValue s.fresh

/-- The state after a free value is taken. -/
def State.took (s : State) : State := { s with fresh := s.fresh + 1 }

/-! ## Interrupt messages (R413 to R415) -/

/-- The mask bit of a source number (R414); none for a reserved source. -/
def srcGroup (src : Nat) : Option Nat :=
  if src < 0xC0 then some 0
  else if 0x100 ≤ src ∧ src < 0x1D0 then some 1
  else if src = 0x200 then some 2
  else if src = 0x201 then some 3
  else if src = 0x202 then some 4
  else if src = 0x203 then some 5
  else if 0x210 ≤ src ∧ src < 0x250 then some 6
  else if src = 0x280 ∨ src = 0x281 then some 7
  else if 0x290 ≤ src ∧ src < 0x2B0 then some 8
  else if src = 0x2C0 then some 9
  else if 0x2D0 ≤ src ∧ src < 0x2D8 then some 10
  else none

/-- The keys of R416 that a source's messages wait for: the streams and tunnels of the source, and the posted writes to
its scope. -/
def State.srcKeys (s : State) (src : Nat) : List Nat :=
  let port := fun p : Nat => (List.range 6).map fun k => 8 * p + k
  if src < 0xC0 then port src ++ [keyHeadTunnel src, keyWrite src]
  else if 0x100 ≤ src ∧ src < 0x1D0 then port (s.fld (XBAR.RMAP_PORT (src - 0x100))) ++ [keyWrite 0xFFFF]
  else if 0x2D0 ≤ src ∧ src < 0x2D8 then [0x600 + (src - 0x2D0), keyWrite 0xFFFF]
  else if src = 0x280 ∨ src = 0x281 then [keyCanTunnel (src - 0x280), keyWrite 0xFFFF]
  else [keyWrite 0xFFFF]

/-- A message list with one more event of a source and cause: coalesced into a pending message of the same source and
cause, whose TIME and ARG stay, or appended (R415). -/
def addMsg (n : IntMsg) : List IntMsg → List IntMsg
  | [] => [n]
  | m :: r =>
    if m.src = n.src ∧ m.cause = n.cause then { m with count := satAdd 8 m.count 1 } :: r
    else m :: addMsg n r

/-- An interrupt event (R415), with what must go before its message (R416). -/
def State.intrEvent (s : State) (src cause arg : Nat) : State :=
  let m := (s.srcKeys src).map fun k => (k, s.upl.entered.get k 0)
  { s with intr := addMsg ⟨src, cause, 1, arg % 2 ^ 32, s.clock, m⟩ s.intr }

/-! ## Fault reports (R533 to R540) -/

/-- Class of a fault code: 0 C, 1 U, 2 F (R537). -/
def faultClass (code : Nat) : Nat :=
  if code ∈ [0x0201, 0x0202, 0x0503, 0x0601, 0x5005, 0x6001] then 2
  else if code ∈ [0x0102, 0x0104, 0x0401, 0x0502, 0x0602, 0x0603, 0x2002, 0x2003, 0x0802, 0x0803, 0x0A02, 0x0A03,
      0x0810, 0x0812, 0x0813, 0x0814, 0x0A10, 0x0A11, 0x0A12, 0x0A13, 0x0A14, 0x0A15, 0x0A16, 0x0C01, 0x0C02, 0x0D02,
      0x0E02, 0x0F01, 0x1004, 0x1005, 0x2011, 0x2012, 0x2015, 0x2016, 0x2017, 0x2022, 0x3011, 0x3022, 0x3042, 0x3050,
      0x3052, 0x3053, 0x3061, 0x3063, 0x4003, 0x4004, 0x5002, 0x5004] then 1
  else 0

/-- An argument packed from bit 0 upward: each part with its width in bits (R535). -/
def packArg : List (Nat × Nat) → Nat
  | [] => 0
  | (w, v) :: r => v % 2 ^ w + 2 ^ w * packArg r

/-- Whether the newest report of a queue has a code and instance, to coalesce with (R539). -/
def mergeNewest (code inst now : Nat) : List FReport → Option (List FReport)
  | [] => none
  | [r] => if r.code = code ∧ r.inst = inst then some [{ r with count := satAdd 16 r.count 1, tlast := now }] else none
  | r :: rest => (mergeNewest code inst now rest).map (r :: ·)

/-- Whether the F path already holds a report of a code and instance, which then takes the new one (R539). -/
def mergeF (code inst now : Nat) : List FReport → Option (List FReport)
  | [] => none
  | r :: rest =>
    if r.code = code ∧ r.inst = inst then some ({ r with count := satAdd 16 r.count 1, tlast := now } :: rest)
    else (mergeF code inst now rest).map (r :: ·)

/-- The loss of a C or U report or record: counted, the first code since the counter was read kept, FCU cause 0x02
(R540, R542). -/
def State.loseFault (s : State) (code : Nat) : State :=
  if faultClass code = 0 then
    let s := if s.fld FCU.OVFC_LOST = 0 then s.setFld FCU.FIRSTLOST_CCODE code else s
    (s.bump FCU.OVFC_LOST 1).intrEvent 0x201 0x02 0
  else
    let s := if s.fld FCU.OVFU_LOST = 0 then s.setFld FCU.FIRSTLOST_UCODE code else s
    (s.bump FCU.OVFU_LOST 1).intrEvent 0x201 0x02 1

/-- Number of uncleared records of a class in the log (R550). -/
def uncleared (cls : Nat) (log : Tbl LogEntry) : Nat := (log.filter fun e => e.2.cls == cls && !e.2.cleared).length

/-- FAULT_N recomputed (R543): low while BOOT holds it, an uncleared record of an enabled class exists or the overflow
counter of an enabled class is not zero; a change sends FCU cause 0x03 (R542). -/
def State.driveFaultN (s : State) : State :=
  let m := s.fld FCU.PINMASK_MASK
  let rec_ := (List.range 3).any fun c => bit m c && uncleared c s.keeper.log != 0
  let ovf := (bit m 0 && s.flag FCU.OVFC_LOST) || (bit m 1 && s.flag FCU.OVFU_LOST)
  let low := s.flag FCU.PINSTAT_BOOTHOLD || rec_ || ovf
  let was := s.flag FCU.PINSTAT_ASSERTED
  let s := (s.setFld FCU.PINSTAT_OVFHOLD (b2n ovf)).setFld FCU.PINSTAT_ASSERTED (b2n low)
  if low = was then s else s.intrEvent 0x201 0x03 (b2n low)

/-- A fault report enters the collector (R539): an F report its separate path, a C or U report the intake queue, coalesced
with the newest report there, or lost when 64 wait (R540). -/
def State.report (s : State) (code inst arg : Nat) : State :=
  let now := s.clock
  let r : FReport := ⟨code, inst, arg % 2 ^ 64, now, !s.tsu.running, 1, now⟩
  if faultClass code = 2 then
    match mergeF code inst now s.keeper.fpend with
    | some l => { s with keeper := { s.keeper with fpend := l } }
    | none => { s with keeper := { s.keeper with fpend := s.keeper.fpend ++ [r] } }
  else
    match mergeNewest code inst now s.keeper.intake with
    | some l => { s with keeper := { s.keeper with intake := l } }
    | none =>
      if s.keeper.intake.length < 64 then
        let l := s.keeper.intake ++ [r]
        let s := { s with keeper := { s.keeper with intake := l } }
        if s.fld FCU.INTAKE_PEAK < l.length then s.setFld FCU.INTAKE_PEAK l.length else s
      else (s.loseFault code).driveFaultN

end Sys2Proof.Machine
end

