-- ==== Sys2Proof/Machine/SetAccess.lean ====
section
/-!
DEFINITION. Reading a configuration set: which field of a set a register or item is, its default, and the set that
governs a port (spec/16_config_sets.md R459 to R461, R468).
-/
namespace Sys2Proof.Machine

/-- The key of a field in a set (R461). -/
def setKey (kind inst field : Nat) : Nat := kind * 2 ^ 32 + inst * 2 ^ 16 + field

/-- The bytes of an item, `d` where the set does not hold it. -/
def CfgSet.item (c : CfgSet) (kind inst field : Nat) (d : List Byte) : List Byte := Tbl.get c (setKey kind inst field) d

/-- The number in an item, `d` where the set does not hold it. -/
def CfgSet.num (c : CfgSet) (kind inst field d : Nat) : Nat :=
  if Tbl.has c (setKey kind inst field) then leNat (CfgSet.item c kind inst field []) else d

/-- The base of the block that the FIELD numbers of a KIND count from, at instance 0 (R461). -/
def kindBase : Nat → Nat
  | 1 => 0x200000
  | 2 | 3 => 0x800000
  | 4 => 0xF01000
  | _ => 0x30000

/-- The register image of a set: the field that the register at instance-0 address `a` is, or its reset value (R461). -/
def CfgSet.word (c : CfgSet) (kind inst a : Nat) : Word :=
  BitVec.ofNat 32 (CfgSet.num c kind inst ((a - kindBase kind) / 4) (resetWord a).toNat)

/-- A register field of a set, named by the field at instance 0. -/
def CfgSet.fld (c : CfgSet) (kind inst : Nat) (f : Fld) : Nat := getBits (CfgSet.word c kind inst f.addr) f.hi f.lo

/-- A register field of a set as a Bool. -/
def CfgSet.flag (c : CfgSet) (kind inst : Nat) (f : Fld) : Bool := CfgSet.fld c kind inst f != 0

/-- The signed reading of a register field of a set. -/
def CfgSet.sfld (c : CfgSet) (kind inst : Nat) (f : Fld) : Int := signed (fieldWidth f.hi f.lo) (CfgSet.fld c kind inst f)

/-- ENABLE of a port (R461: default 1). -/
def CfgSet.portEnabled (c : CfgSet) (p : Nat) : Bool := CfgSet.num c 1 p 0x8000 1 != 0

/-- ASYM of a port, signed ns (R461). -/
def CfgSet.asym (c : CfgSet) (p : Nat) : Int := signed 32 (CfgSet.num c 1 p 0x8001 0)

/-- The expected head of a port, empty if none is loaded (R461). -/
def CfgSet.expected (c : CfgSet) (p : Nat) : List Byte := CfgSet.item c 1 p 0x8002 []

/-- The sensor initialisation list of a port: offset, length and data of each entry (R461). -/
def CfgSet.initList (c : CfgSet) (p : Nat) : List (Nat × Nat × Nat) :=
  let b := CfgSet.item c 1 p 0x8003 []
  (List.range (b.length / 8)).map fun i => (fieldAt b (8 * i) 3, fieldAt b (8 * i + 3) 1, fieldAt b (8 * i + 4) 4)

/-- PROGID of a camera (R461). -/
def CfgSet.progId (c : CfgSet) (p : Nat) : Nat := CfgSet.num c 2 p 0x8000 0

/-- A lattice is defined (R461). -/
def CfgSet.latDefined (c : CfgSet) (n : Nat) : Bool := CfgSet.num c 4 n 0x8000 0 != 0

/-- A trigger group is defined (R461). -/
def CfgSet.grpDefined (c : CfgSet) (g : Nat) : Bool := CfgSet.num c 5 g 0x8000 0 != 0
def CfgSet.grpPeriod (c : CfgSet) (g : Nat) : Nat := CfgSet.num c 5 g 0x8001 0
def CfgSet.grpPhase (c : CfgSet) (g : Nat) : Nat := CfgSet.num c 5 g 0x8002 0
def CfgSet.grpMembers (c : CfgSet) (g : Nat) : Nat := CfgSet.num c 5 g 0x8003 0
def CfgSet.grpAlign (c : CfgSet) (g : Nat) : Nat := CfgSet.num c 5 g 0x8004 0
def CfgSet.grpLead (c : CfgSet) (g : Nat) : Nat := CfgSet.num c 5 g 0x8005 100000

/-- The group that a port is a member of, if any. -/
def CfgSet.groupOf (c : CfgSet) (p : Nat) : Option Nat :=
  (List.range 64).find? fun g => CfgSet.grpDefined c g && bit (CfgSet.grpMembers c g) p

/-- FPERIOD of a port: the PERIOD of its trigger group, or the configured period (R168). -/
def CfgSet.fperiod (c : CfgSet) (p : Nat) : Nat :=
  match CfgSet.groupOf c p with
  | some g => CfgSet.grpPeriod c g
  | none => CfgSet.fld c 1 p (HP.INGFPER_FPERIOD 0)

/-- SYSRES, PIXCAP, pairing enable and default primaries (R461). -/
def CfgSet.sysres (c : CfgSet) : Nat := CfgSet.num c 6 0 0x8000 4096
def CfgSet.pixcap (c : CfgSet) : Nat :=
  let v := CfgSet.num c 6 0 0x8001 0
  if v = 0 then 48000 else v
def CfgSet.pairEn (c : CfgSet) : Bool := CfgSet.num c 7 0 0x8000 0 != 0
def CfgSet.primaryA (c : CfgSet) (p : Nat) : Bool :=
  if Tbl.has c (setKey 7 0 0x8002) then bit (CfgSet.num c 7 0 0x8002 0) p else p % 2 == 0

/-- Whether a key belongs to a port, its camera or one of its streams. -/
def keyOfPort (p k : Nat) : Bool :=
  let kind := k / 2 ^ 32
  let inst := k / 2 ^ 16 % 2 ^ 16
  (kind == 1 || kind == 2) && inst == p || kind == 3 && inst / 8 == p

/-- The fields of a set that govern one camera: its port, its pipeline and its streams. -/
def CfgSet.ofPort (c : CfgSet) (p : Nat) : CfgSet := c.filter fun e => keyOfPort p e.1

/-- The set that governs a port: the shadow for a port that has switched in a flip in progress, the active set otherwise
(R468). -/
def State.setFor (s : State) (p : Nat) : CfgSet :=
  if s.cfg.switched.contains p then s.cfg.shadow
  else if s.cfg.kept.has p then (s.cfg.kept.get p (0, [])).2
  else s.cfg.active

/-- The generation of the set that governs a port (R24, R460). -/
def State.genFor (s : State) (p : Nat) : Nat :=
  let g := s.fld GLB.CFGGEN_GEN
  if s.cfg.switched.contains p then g
  else if s.cfg.kept.has p then (s.cfg.kept.get p (0, [])).1
  else if s.flag GLB.CFGSTAT_SWITCHING then (g + 2 ^ 32 - 1) % 2 ^ 32
  else g

/-- The register image of the set written into a block's RW fields with owner F, at the instance address `a` of the
instance-0 address `a0` (R461). -/
def State.loadReg (s : State) (c : CfgSet) (kind inst a0 a : Nat) : State :=
  match regAt a with
  | none => s
  | some (_, _, r, _) =>
    let m := maskWhere (fun f => f.access = .rw && f.owner = .f) r.fields
    s.setReg a ((s.reg a &&& ~~~ m) ||| (CfgSet.word c kind inst a0 &&& m))

/-- A run of registers loaded from a set: pairs of instance-0 address and instance address. -/
def State.loadRegs (s : State) (c : CfgSet) (kind inst : Nat) : List (Nat × Nat) → State
  | [] => s
  | (a0, a) :: r => (s.loadReg c kind inst a0 a).loadRegs c kind inst r

end Sys2Proof.Machine
end

