-- ==== Sys2Proof/Machine/Formats.lean ====
section
/-!
DEFINITION. Rates, stream identifiers, line sizes, headers and capacity: the arithmetic of what a stream sends
(spec/10_outputs.md R279 to R302, spec/13_uplink.md R386, R387, spec/03_lanes.md R70, R78).
-/
namespace Sys2Proof.Machine

/-! ## Lane rates (R70, R78, R82) -/

/-- Line rate of a forward, uplink or peer lane in kb/s, by rate index; 0 for a reserved index (R70). -/
def rateKb (l : Link) (idx : Nat) : Nat :=
  match l with
  | .hp _ => [750000, 1500000, 3000000, 6000000].getD idx 0
  | _ => [1250000, 2500000, 5000000, 10000000, 16000000, 25000000, 32000000].getD idx 0

/-- Line rate of a head back-channel in kb/s (R70). -/
def backKb (idx : Nat) : Nat := [31250, 125000].getD idx 0

/-- Assured capacity of a group in Mb/s: lanes × rate × 24/25 × 16,384/16,385, rounded down over the group (R78). -/
def assuredMb (lanes kb : Nat) : Nat := lanes * kb * 24 * 16384 / (25 * 16385 * 1000)

/-- A marker interval in ns, without stuffing (R82). -/
def markerNs (kb : Nat) : Nat := if kb = 0 then 0 else 1048640 * 1000000 / kb

/-- Active lanes of a quad mask, four to a quad. -/
def quadLanes (m : Nat) : Nat := 4 * ((List.range 8).filter fun i => bit m i).length

/-! ## Stream identifiers (R279) -/

/-- SID of stream k of a port. -/
def sidOf (port k : Nat) : Nat := 8 * port + k

/-- SID of a lattice's stream. -/
def latSid (n : Nat) : Nat := 0x600 + n

/-- Whether a SID is a lattice's. -/
def isLatSid (sid : Nat) : Bool := 0x600 ≤ sid && sid < 0x608

/-- Whether a SID is an image stream of a port. -/
def isImageSid (sid : Nat) : Bool := sid < 0x600 && sid % 8 < 4

/-! ## Lines and formats (R281, R283, R300) -/

/-- Bytes of a payload padded to a multiple of n. -/
def padTo (n v : Nat) : Nat := ceilDiv v n * n

/-- Payload bytes of a line of a format before padding; odd lines of 4:2:0 carry a chroma line too (R281, R259). -/
def payloadBytes (fmt dw : Nat) (odd : Bool) : Nat :=
  match fmt with
  | 0x01 => if odd then 2 * dw else dw
  | 0x02 => if odd then 4 * dw else 2 * dw
  | 0x03 => 2 * dw
  | 0x04 => 4 * dw
  | 0x05 => 3 * dw
  | 0x06 | 0x08 | 0x0A => dw
  | 0x07 | 0x09 | 0x0B | 0x0C => 2 * dw
  | 0x10 | 0x11 | 0x12 | 0x13 => 2 * dw
  | _ => 0

/-- Bytes of a line: prefix, payload and padding (R281). -/
def lineBytes (fmt dw : Nat) (odd : Bool) : Nat := 16 + padTo 8 (payloadBytes fmt dw odd)

/-- Lines a frame of an image output sends: two per ingest line for RAW of a staggered frame (R290). -/
def outLines (fmt dh : Nat) (hdr : Bool) : Nat := if fmt = 0x0C ∧ hdr then 2 * dh else dh

/-- Bytes of a frame without trailing data: lines, START and END (R291). -/
def frameBytes (fmt dw lines : Nat) : Nat :=
  256 + lineBytes fmt dw false * ((lines + 1) / 2) + lineBytes fmt dw true * (lines / 2)

/-- Largest unit of a stream: the longest line or END with its bitmap (R371, R386). -/
def largestUnit (fmt dw h : Nat) : Nat := max (lineBytes fmt dw true) (128 + padTo 64 (ceilDiv h 8))

/-- Warp-source plane that a format needs, as the bit of WPLANES: YC8, YC10, Y8, RGB8, N8, N16, I8, I16 are numbered by
R247; none for NONE and RAW (R281). -/
def fmtIs420 (fmt : Nat) : Bool := fmt == 1 || fmt == 2
def fmtIs42x (fmt : Nat) : Bool := fmt == 1 || fmt == 2 || fmt == 3 || fmt == 4
def fmtIsNir (fmt : Nat) : Bool := fmt == 8 || fmt == 9
def fmtIsIdx (fmt : Nat) : Bool := fmt == 0xA || fmt == 0xB
def fmtIsRaw (fmt : Nat) : Bool := fmt == 0xC

/-! ## Headers (R292, R302) -/

/-- Bytes of a layout given as (size, value) in order of offset. -/
def layout : List (Nat × Nat) → List Byte
  | [] => []
  | (n, v) :: r => leBytes n v ++ layout r

/-- A layout followed by the CRC-32 over it (R292, R302). -/
def withCrc (l : List Byte) : List Byte := l ++ leBytes 4 (crc32 l)

/-- The fields of a START, END, NOTICE or STATUS header (R292). -/
structure Hdr where
  sid : Nat
  hkind : Nat
  fmt : Nat := 0
  fn : Nat := 0
  fseq : Nat := 0
  gen : Nat := 0
  tfirst : Nat := 0
  tlast : Nat := 0
  integ : Nat := 0
  sflags : Nat := 0
  vlines : Nat := 0
  height : Nat := 0
  dw : Nat := 0
  dh : Nat := 0
  skip : Nat := 0
  nfill : Nat := 0
  nsingle : Nat := 0
  trlen : Nat := 0
  wear : Nat := 0
  auth : Nat := 0
  dev : Nat := 0
  reason : Nat := 0
  tclose : Nat := 0
  serial : List Byte := []
  crop0 : Nat := 0
  crop1 : Nat := 0
  deriving DecidableEq, Repr

/-- The 128 bytes of a header (R292). -/
def Hdr.bytes (h : Hdr) : List Byte :=
  withCrc (layout [(2, h.sid + 2 ^ 12 * h.hkind), (1, 1), (1, h.fmt), (4, h.fn), (4, h.fseq), (4, h.gen), (8, h.tfirst),
    (8, h.tlast), (4, h.integ), (4, h.sflags), (2, h.vlines), (2, h.height), (2, h.dw), (2, h.dh), (2, h.skip),
    (2, h.nfill), (2, h.nsingle), (2, h.trlen), (1, h.wear), (1, h.auth), (1, h.dev), (1, h.reason), (4, h.tclose)]
    ++ bytesAt h.serial 0 16 ++ layout [(4, h.crop0), (4, h.crop1), (36, 0)])

/-- The 64 bytes of a FORMAT_CHANGE (R302). -/
def formatChangeBytes (sid fmt fn fseq gen cause dev dw dh crop0 crop1 : Nat) : List Byte :=
  withCrc (layout [(2, sid + 2 ^ 12 * 5), (1, 1), (1, fmt), (4, fn), (4, fseq), (4, gen), (1, cause), (1, dev), (2, 0),
    (4, dw + 2 ^ 16 * dh), (4, crop0), (4, crop1), (4, if fmt = 0 then 0 else lineBytes fmt dw false),
    (4, if fmt = 0 then 0 else lineBytes fmt dw true), (20, 0)])

/-- A 32-byte telemetry header with its payload, padded to 8 bytes (R301). -/
def telemetryBytes (sid ttype tseq time : Nat) (payload : List Byte) : List Byte :=
  withCrc (layout [(2, sid + 2 ^ 12 * 6), (1, 1), (1, ttype), (4, tseq), (8, time), (2, payload.length), (10, 0)])
    ++ bytesAt payload 0 (padTo 8 payload.length)

/-- DEV of a header: solo, device A or device B, from the straps (R292, R54). -/
def State.dev (s : State) : Nat :=
  match s.fld KPR.STRAPS_PAIRID_EFF with
  | 0 => 1
  | 1 => 2
  | _ => 0

/-- SERIAL of the head of a port (R140, R292). -/
def State.serial (s : State) (p : Nat) : List Byte := (List.range 4).flatMap fun k => leBytes 4 (s.fld (HP.HSERIAL_SER p k))

/-! ## Streams of a set: rates and FIFO sizes (R386, R387) -/

/-- Whether a set opens stream k of a port: EN and a format other than NONE for an image (R281), STCTL.EN for
statistics, EN of the set for telemetry (R461). -/
def CfgSet.streamOn (c : CfgSet) (p k : Nat) : Bool :=
  if k < 4 then CfgSet.flag c 3 (sidOf p k) (SL.OCTL_EN 0 k) && CfgSet.fld c 3 (sidOf p k) (SL.OCTL_FMT 0 k) != 0
  else if k = 4 then CfgSet.flag c 3 (sidOf p 4) (SL.STCTL_EN 0)
  else if k = 5 then CfgSet.num c 3 (sidOf p 5) 0x8000 0 != 0
  else false

/-- Whether a port's camera is configured: enabled, with a geometry (R20, R189). -/
def CfgSet.camera (c : CfgSet) (p : Nat) : Bool :=
  let w := CfgSet.fld c 1 p (HP.INGGEOM_WIDTH 0)
  let h := CfgSet.fld c 1 p (HP.INGGEOM_HEIGHT 0)
  CfgSet.portEnabled c p && 0 < w && w ≤ 8192 && 0 < h && h ≤ 8192

/-- Format, width, height, crop words of an image stream in a set. -/
def CfgSet.fmtOf (c : CfgSet) (p k : Nat) : Nat := CfgSet.fld c 3 (sidOf p k) (SL.OCTL_FMT 0 k)
def CfgSet.dwOf (c : CfgSet) (p k : Nat) : Nat := CfgSet.fld c 3 (sidOf p k) (SL.OSIZE_DW 0 k)
def CfgSet.dhOf (c : CfgSet) (p k : Nat) : Nat := CfgSet.fld c 3 (sidOf p k) (SL.OSIZE_DH 0 k)
def CfgSet.crop0 (c : CfgSet) (p k : Nat) : Nat := (CfgSet.word c 3 (sidOf p k) (SL.OCROP0 0 k)).toNat
def CfgSet.crop1 (c : CfgSet) (p k : Nat) : Nat := (CfgSet.word c 3 (sidOf p k) (SL.OCROP1 0 k)).toNat

/-- Bytes that a stream of a port sends per frame (R387): image frames, statistics sets, and one STATUS record of
telemetry per frame (R113, R301; log entry 20). -/
def CfgSet.frameLoad (c : CfgSet) (p k : Nat) : Nat :=
  if k < 4 then
    let f := CfgSet.fmtOf c p k
    frameBytes f (CfgSet.dwOf c p k) (outLines f (CfgSet.dhOf c p k) (CfgSet.flag c 1 p (HP.INGFMT_HDR 0)))
  else if k = 4 then 14912 else 40

/-- So many units per period in ns as units per second; 0 for a period of 0. -/
def perSecond (n period : Nat) : Rat := mkRat (n * 1000000000 : Nat) period

/-- The sum of a list of rates. -/
def sumQ (l : List Rat) : Rat := l.foldl (· + ·) 0

/-- The least whole number not below a rate. -/
def ceilQ (x : Rat) : Nat := x.ceil.toNat

/-- Lattice frame period in ns: PERIOD of its group × RDIV (R260). -/
def CfgSet.latPeriod (c : CfgSet) (n : Nat) : Nat :=
  CfgSet.grpPeriod c (CfgSet.fld c 4 n (LT.LCTL_GROUP 0)) * max 1 (CfgSet.fld c 4 n (LT.LCTL_RDIV 0))

/-- Canvas size of a lattice (R258). -/
def CfgSet.latW (c : CfgSet) (n : Nat) : Nat := CfgSet.fld c 4 n (LT.LSIZE_CWM1 0) + 1
def CfgSet.latH (c : CfgSet) (n : Nat) : Nat := CfgSet.fld c 4 n (LT.LSIZE_CHM1 0) + 1

/-- The configured slots of a lattice with their ports (R258, R278). -/
def CfgSet.latSlots (c : CfgSet) (n : Nat) : List (Nat × Nat) :=
  ((List.range 32).map fun t => (t, CfgSet.fld c 4 n (LTS.CPORT_PORT 0 t))).filter fun e => e.2 != 0xFF

/-- A lattice of a set draws on the camera of a port (R258). -/
def CfgSet.contributes (c : CfgSet) (p : Nat) : Bool :=
  (List.range 8).any fun n => CfgSet.latDefined c n && (List.range 32).any fun k =>
    CfgSet.fld c 4 n (LTS.CPORT_PORT 0 k) == p

/-- Bit rate of a SID under a set, in bit/s (R387). -/
def CfgSet.sidRate (c : CfgSet) (sid : Nat) : Rat :=
  if isLatSid sid then
    let n := sid - 0x600
    if CfgSet.latDefined c n then perSecond (8 * frameBytes 0x10 (CfgSet.latW c n) (CfgSet.latH c n)) (CfgSet.latPeriod c n) else 0
  else
    let p := sid / 8
    if CfgSet.camera c p && CfgSet.streamOn c p (sid % 8) then perSecond (8 * CfgSet.frameLoad c p (sid % 8)) (CfgSet.fperiod c p)
    else 0

/-- The SIDs that a set opens: streams of configured cameras and defined lattices. -/
def CfgSet.sids (c : CfgSet) : List Nat :=
  ((List.range 192).filter (CfgSet.camera c)).flatMap (fun p =>
    ((List.range 6).filter (CfgSet.streamOn c p)).map (sidOf p))
  ++ ((List.range 8).filter (CfgSet.latDefined c)).map latSid

/-- FIFO size of a SID under a set: 16 KiB for statistics, 4 KiB for telemetry, else max(8 KiB, twice the largest unit,
byte rate × 128 µs) rounded up to 4 KiB (R386). -/
def CfgSet.fifoSize (c : CfgSet) (sid : Nat) : Nat :=
  if isLatSid sid then
    let n := sid - 0x600
    let tiles := ceilDiv (CfgSet.latW c n) 256 * ceilDiv (CfgSet.latH c n) 256
    let unit := max (lineBytes 0x10 (CfgSet.latW c n) false) (128 + padTo 64 (64 + tiles))
    padTo 4096 (max 8192 (max (2 * unit) (ceilQ (CfgSet.sidRate c sid * 16 / 1000000))))
  else if sid % 8 = 4 then 16384
  else if sid % 8 = 5 then 4096
  else
    let p := sid / 8
    let k := sid % 8
    let unit := largestUnit (CfgSet.fmtOf c p k) (CfgSet.dwOf c p k) (CfgSet.fld c 1 p (HP.INGGEOM_HEIGHT 0))
    padTo 4096 (max 8192 (max (2 * unit) (ceilQ (CfgSet.sidRate c sid * 16 / 1000000))))

/-- Admitted stream load of a set in Mb/s, rounded up (R387). -/
def CfgSet.loadMb (c : CfgSet) : Nat := ceilQ (sumQ ((CfgSet.sids c).map (CfgSet.sidRate c)) / 1000000)

end Sys2Proof.Machine
end

