-- ==== Sys2Proof/Machine/FrameOps.lean ====
section
/-!
DEFINITION. What follows from the lines a frame holds: line states, valid line count, fills, bitmap, times, record
(spec/06_ingest.md R163, R167, R174, R181 to R185).
-/
namespace Sys2Proof.Machine

/-- How far frame number a lies ahead of b, modulo 2^32; negative if it lies behind. -/
def fnAhead (a b : Nat) : Int :=
  let d : Nat := (a + 2 ^ 32 - b % 2 ^ 32) % 2 ^ 32
  if d < 2 ^ 31 then (d : Int) else (d : Int) - 2 ^ 32

/-- What the ingest holds of line n. -/
def Frame.line (f : Frame) (n : Nat) : Line := f.lines.get n {}

/-- Line n holds verified data: at least one burst of it does (R163). -/
def Frame.verified (f : Frame) (n : Nat) : Bool := (f.line n).l.isSome || (f.line n).s.isSome

/-- LSTATE of line n (R163, R183). -/
def Frame.lstate (f : Frame) (n : Nat) : Nat :=
  let x := f.line n
  if f.hdr then
    match x.l, x.s with
    | some _, some _ => 0
    | some _, none => 5
    | none, some _ => 6
    | none, none => if x.lfail.isSome || x.sfail.isSome then 7 else 3
  else
    match x.l with
    | some _ => 0
    | none => x.lfail.getD 3

/-- The highest line below `n` that satisfies a test, plus 1; 0 if none does. -/
def highestPlus (p : Nat → Bool) : Nat → Nat
  | 0 => 0
  | n + 1 => if p n then n + 1 else highestPlus p n

/-- VLINES (R163). -/
def Frame.valid (f : Frame) : Nat := highestPlus f.verified f.height

/-- The states of all lines (R183). -/
def Frame.lstates (f : Frame) : List Nat := (List.range f.height).map f.lstate

/-- Filled lines and lines merged from one burst (R181). -/
def Frame.countFill (f : Frame) : Nat := (f.lstates.filter fun x => x = 1 ∨ x = 2 ∨ x = 3 ∨ x = 4 ∨ x = 7).length
def Frame.countSingle (f : Frame) : Nat := (f.lstates.filter fun x => x = 5 ∨ x = 6).length

/-- The line-defect bitmap (R184). -/
def Frame.bitmap (f : Frame) : List Byte :=
  (List.range (ceilDiv f.height 8)).map fun b =>
    BitVec.ofNat 8 ((List.range 8).foldl (fun a i =>
      a + if 8 * b + i < f.height ∧ f.lstate (8 * b + i) ≠ 0 then 2 ^ i else 0) 0)

/-- The nearest lower line, from `n` down, whose burst was accepted (R167). -/
def nearestBelow (get : Nat → Option (List Nat)) : Nat → Option (List Nat)
  | 0 => none
  | n + 1 =>
    match get n with
    | some l => some l
    | none => nearestBelow get n

/-- The pixels of a line's burst as the slice takes them: verified data, or the fill of R167. -/
def Frame.burst (f : Frame) (second : Bool) (n : Nat) : List Nat :=
  let get := fun k => if second then (f.line k).s else (f.line k).l
  match get n with
  | some l => l
  | none =>
    let flat := List.replicate f.width f.fillV
    if f.fillMode then (nearestBelow get n).getD flat else flat

/-- Capture time of line n (R155, R174). -/
def Frame.time (f : Frame) (n : Nat) : Nat := f.tfirst + n * f.linet / 256

/-- TLAST of a frame with so many valid lines (R181). -/
def Frame.tlast (f : Frame) : Nat := if f.vlines = 0 then f.tfirst else f.time (f.vlines - 1)

/-- INTEG: the flags with CLOSE in bits [2:0] (R182). -/
def Frame.integ (f : Frame) : Nat := f.flags + f.close

/-- Flag bits of INTEG (R182). -/
def igLong : Nat := 3
def igDefect : Nat := 4
def igJump : Nat := 5
def igRestart : Nat := 6
def igCount : Nat := 7
def igFcrc : Nat := 8
def igTimeEst : Nat := 9
def igSingle : Nat := 10
def igOrphans : Nat := 11
def igRatio : Nat := 12
def igDropped : Nat := 13

/-- A number with DROPPED set (R182). -/
def dropped (integ : Nat) : Nat := withBit integ igDropped true

/-- A frame is damaged if it is not COMPLETE or has LINE-DEFECT (R185). -/
def Frame.damaged (f : Frame) : Bool := f.close != 0 || bit f.flags igDefect

/-- The frame with a flag of INTEG set. -/
def Frame.mark (f : Frame) (b : Nat) : Frame := { f with flags := withBit f.flags b true }

/-- The frame with a flag of SFLAGS set (R294). -/
def Frame.sflag (f : Frame) (b : Nat) : Frame := { f with sflags := withBit f.sflags b true }

/-- The frame closed with a cause at a time (R162, R163, R178, R181): OVERFLOW takes precedence, lines from VLINES on are
filled, and the counts and flags take their final values. -/
def Frame.shut (f : Frame) (cause now : Nat) : Frame :=
  let v := f.valid
  let defect := f.lstates.any fun x => x != 0
  let single := f.countSingle
  let fl := if defect then withBit f.flags igDefect true else f.flags
  let fl := if single != 0 then withBit fl igSingle true else fl
  { f with closed := true, close := if f.ovf then 4 else cause, vlines := v, nfill := f.countFill, nsingle := single,
           flags := fl, tclose := now }

/-- The 48-byte frame record (R181). -/
def Frame.record (f : Frame) : List Byte :=
  layout [(4, f.fn), (2, f.hf), (2, f.skip), (4, f.integ), (2, f.vlines), (2, f.height), (8, f.tfirst), (8, f.tlast),
    (4, f.gen), (2, f.nfill), (2, f.nsingle), (4, f.tclose), (4, 0)]

/-- The trailing data of a port stream's END or NOTICE: the bitmap if LINE-DEFECT is set (R295). -/
def Frame.trailing (f : Frame) : List Byte := if bit f.flags igDefect then f.bitmap else []

/-- A field of the set that governs a frame, of the camera's pipeline registers. -/
def Frame.cam (f : Frame) (p : Nat) (r : Fld) : Nat := CfgSet.fld f.set 2 p r

/-- A PIPE field latched for the frame, else `d` (R324, R242). -/
def Frame.piped (f : Frame) (id d : Nat) : Nat := f.pipe.get id d

end Sys2Proof.Machine
end

