-- ==== Sys2Proof/Machine/Mem.lean ====
section
/-!
DEFINITION. SRAM and LPDDR as bytes in one canonical list, with the poison of R616, the regions of R605 and the
fill-on-write of R614.
-/
namespace Sys2Proof.Machine

/-! ## Bytes -/

/-- The byte at an address; an unlisted byte reads 0 (R607, R614). -/
def Memory.get : List Host.Cell → Nat → Byte
  | [], _ => 0
  | (a', b) :: r, a => if a = a' then b else Memory.get r a

/-- A byte written, the canonical form kept: addresses rising, no zero listed. -/
def Memory.put : List Host.Cell → Nat → Byte → List Host.Cell
  | [], a, b => if b = 0 then [] else [(a, b)]
  | (a', b') :: r, a, b =>
    if a = a' then (if b = 0 then r else (a, b) :: r)
    else if a < a' then (if b = 0 then (a', b') :: r else (a, b) :: (a', b') :: r)
    else (a', b') :: Memory.put r a b

/-- The canonical form, from a lower bound: every address at least `lo`, rising strictly, no zero byte listed. -/
def Memory.wfFrom : Nat → List Host.Cell → Bool
  | _, [] => true
  | lo, (a, b) :: r => decide (lo ≤ a) && b != 0 && Memory.wfFrom (a + 1) r

/-- The canonical form of a memory. -/
def Memory.wf (m : List Host.Cell) : Bool := Memory.wfFrom 0 m

/-- Bytes written at rising addresses from `a`. -/
def Memory.putList (m : List Host.Cell) (a : Nat) : List Byte → List Host.Cell
  | [] => m
  | b :: r => Memory.putList (Memory.put m a b) (a + 1) r

/-- `n` bytes from address `a`. -/
def Memory.getList (m : List Host.Cell) (a n : Nat) : List Byte :=
  (List.range n).map fun i => Memory.get m (a + i)

/-! ## The address map (R396, R605, R610 to R612) -/

/-- On-die SRAM (R605). -/
def inSram (a : Nat) : Bool := 0x10000000 ≤ a && a < 0x16000000

/-- First address above the populated LPDDR of the ordering code (R1, R611). -/
def lpddrTop : Nat := if Config.is32G then 0x900000000 else 0x500000000

/-- Populated LPDDR (R1, R611). -/
def inLpddr (a : Nat) : Bool := 0x100000000 ≤ a && a < lpddrTop

/-- The SRAM region number of an address, the instance of the SRAM fault codes (R605). -/
def sramRegion (a : Nat) : Nat :=
  if a < 0x14780000 then (a - 0x10000000) / 0x58000
  else if a < 0x15780000 then 0x100
  else if a < 0x15B80000 then 0x101
  else if a < 0x15D80000 then 0x102
  else if a < 0x15E80000 then 0x103
  else if a < 0x15F00000 then 0x104
  else 0x105

/-- The keeper's SRAM region, which keeps its content at every BOOT but the first after keeper power-up (R607). -/
def inKeeperRegion (a : Nat) : Bool := 0x15D80000 ≤ a && a < 0x15E80000

/-- Regions STANDBY retains: CPX and mailbox rings, with the keeper's own and LPDDR in self-refresh (R34, R607). -/
def standbyRetains (a : Nat) : Bool :=
  (0x15780000 ≤ a && a < 0x15B80000) || inKeeperRegion a || (0x15E80000 ≤ a && a < 0x15F00000) || 0x100000000 ≤ a

/-- The LPDDR channel of an address: bits [9:8] (R610). -/
def lpddrChannel (a : Nat) : Nat := a / 256 % 4

/-- Base of a slice's engine data memory, code memory and statistics memory (R606). -/
def engDataBase (sl : Nat) : Nat := 0x10000000 + 0x58000 * sl + 0x50000
def engCodeBase (sl : Nat) : Nat := 0x10000000 + 0x58000 * sl + 0x48000
def statsBase (sl : Nat) : Nat := 0x10000000 + 0x58000 * sl + 0x40000

/-! ## Accesses -/

/-- The watermark (R613). -/
def State.watermark (s : State) : Nat := s.fld MEMC.INITWML_WM + 2 ^ 32 * s.fld MEMC.INITWMH_WM

/-- Whether the 64 KiB block of an LPDDR address is filled: below the watermark or filled on write (R614). -/
def State.blockFilled (s : State) (a : Nat) : Bool :=
  a < s.watermark || s.memx.filled.contains (a / 0x10000)

/-- Fill-on-write of the block of an LPDDR address: filled, marked and counted unless it already is (R614). -/
def State.fillBlock (s : State) (a : Nat) : State :=
  if inLpddr a && !s.blockFilled a then
    { s with memx := { s.memx with filled := s.memx.filled ++ [a / 0x10000] } }.bump MEMC.INITSTAT_FOWBLK 1
  else s

/-- The first words of the 64-bit words that n bytes from `a` touch. -/
def wordsOf (a n : Nat) : List Nat :=
  if n = 0 then [] else (List.range ((a + n - 1) / 8 - a / 8 + 1)).map fun i => 8 * (a / 8 + i)

/-- Whether a read of n bytes meets a poisoned word (R616). -/
def State.poisoned (s : State) (a n : Nat) : Bool := (wordsOf a n).any fun w => s.memx.poison.contains w

/-- `n` bytes read from memory. -/
def State.bytes (s : State) (a n : Nat) : List Byte := Memory.getList s.mem a n

/-- `n` bytes of memory, those of poisoned words as 0 (R320, R352). -/
def State.cleanBytes (s : State) (a n : Nat) : List Byte :=
  (List.range n).map fun i => if s.memx.poison.contains (8 * ((a + i) / 8)) then 0 else Memory.get s.mem (a + i)

/-- The little-endian number in n bytes of memory (R6). -/
def State.num (s : State) (a n : Nat) : Nat := leNat (s.bytes a n)

/-- Bytes written with no test: the words covered whole lose their poison (R616). -/
def State.poke (s : State) (a : Nat) (l : List Byte) : State :=
  let n := l.length
  let whole := fun w => decide (a ≤ w) && decide (w + 8 ≤ a + n)
  let s := { s with mem := Memory.putList s.mem a l
                    memx := { s.memx with poison := s.memx.poison.filter fun w => !whole w } }
  let s := if n = 0 then s else s.fillBlock a
  if n = 0 then s else s.fillBlock (a + n - 1)

/-- Whether a write of n bytes at `a` updates a poisoned word only in part, which is not performed (R616). -/
def State.partialPoison (s : State) (a n : Nat) : Bool :=
  (wordsOf a n).any fun w => s.memx.poison.contains w && !(decide (a ≤ w) && decide (w + 8 ≤ a + n))

/-- A write under R616: words updated only in part while poisoned are left, all other bytes are written. -/
def State.store (s : State) (a : Nat) (l : List Byte) : State :=
  if s.partialPoison a l.length then
    let bad := (wordsOf a l.length).filter fun w =>
      s.memx.poison.contains w && !(decide (a ≤ w) && decide (w + 8 ≤ a + l.length))
    let kept := (List.range l.length).map fun i =>
      if bad.contains (8 * ((a + i) / 8)) then Memory.get s.mem (a + i) else l.getD i 0
    s.poke a kept
  else s.poke a l

/-- A 64-bit word marked as poisoned (R616). -/
def State.poisonWord (s : State) (w : Nat) : State :=
  let w := 8 * (w / 8)
  if s.memx.poison.contains w then s else { s with memx := { s.memx with poison := s.memx.poison ++ [w] } }

/-- The address of the first uncorrectable word captured while VALID is 0: SRC 0 SRAM, 1 inline LPDDR, 2 link (R616,
R625). -/
def State.captureErr (s : State) (a src : Nat) : State :=
  if s.flag MEMC.ERRADDRH_VALID then s
  else s.setFlds [(MEMC.ERRADDRL_ADDR, a), (MEMC.ERRADDRH_ADDR, a / 2 ^ 32), (MEMC.ERRADDRH_SRC, src),
    (MEMC.ERRADDRH_VALID, 1)]

/-- SRAM and LPDDR bytes kept where a test holds; poison goes with them. -/
def State.keepMem (s : State) (p : Nat → Bool) : State :=
  { s with mem := s.mem.filter fun c => p c.1
           memx := { s.memx with poison := s.memx.poison.filter p } }

end Sys2Proof.Machine
end

