-- ==== Sys2Proof/Machine/FaultLog.lean ====
section
/-!
DEFINITION. The fault log: where a record goes, when a report coalesces, what is lost, and how a record is marked read
and cleared (spec/19_faults.md R534 to R543).
-/
namespace Sys2Proof.Machine

/-- Age of a record: 0 for the newest, from RSEQ modulo 2^32 (R534). -/
def recAge (next : Nat) (e : LogEntry) : Nat := (next + 2 ^ 32 - 1 - e.rseq) % 2 ^ 32

/-- The newest entry of a log that satisfies a test, with its index. -/
def newestWhere (next : Nat) (p : LogEntry → Bool) : Tbl LogEntry → Option (Nat × LogEntry)
  | [] => none
  | (i, e) :: r =>
    match newestWhere next p r with
    | none => if p e then some (i, e) else none
    | some (j, f) => if p e && decide (recAge next e < recAge next f) then some (i, e) else some (j, f)

/-- The oldest entry of a log that satisfies a test, with its index. -/
def oldestWhere (next : Nat) (p : LogEntry → Bool) : Tbl LogEntry → Option (Nat × LogEntry)
  | [] => none
  | (i, e) :: r =>
    match oldestWhere next p r with
    | none => if p e then some (i, e) else none
    | some (j, f) => if p e && decide (recAge next f < recAge next e) then some (i, e) else some (j, f)

/-- The entry at an index, none if it was never written. -/
def logEntry (log : Tbl LogEntry) (i : Nat) : Option LogEntry :=
  match log with
  | [] => none
  | (j, e) :: r => if i = j then some e else logEntry r i

/-- An entry is free if it has never been written or is cleared (R538). -/
def entryFree (log : Tbl LogEntry) (i : Nat) : Bool :=
  match logEntry log i with
  | none => true
  | some e => e.cleared

/-- The first free entry of the general ring after LOGWR, wrapping within 0 to 991 (R538). -/
def freeGeneral (log : Tbl LogEntry) (last : Nat) : Option Nat :=
  ((List.range 992).map fun k => (last + 1 + k) % 992).find? (entryFree log)

/-- The first free entry of 992 to 1,023 (R538). -/
def freeF (log : Tbl LogEntry) : Option Nat :=
  ((List.range 32).map fun k => 992 + k).find? (entryFree log)

/-- The record a report makes (R534). -/
def newEntry (r : FReport) (rseq : Nat) : LogEntry :=
  { time := r.time, code := r.code, cls := faultClass r.code, read := false, cleared := false, tshadow := r.tshadow,
    prevrun := false, inst := r.inst, rep := r.count, arg := r.arg, tlast := r.tlast, rseq := rseq }

/-- A record grown by a coalesced report: REPEAT and TLAST change, TIME and ARG stay (R539). -/
def growEntry (e : LogEntry) (r : FReport) : LogEntry :=
  { e with rep := satAdd 16 e.rep r.count, tlast := r.tlast }

/-- The message of a new record: CODE, CLASS and index (R542). -/
def recordArg (code cls idx : Nat) : Nat := code + cls * 2 ^ 16 + idx * 2 ^ 18

/-- A record placed at an index (R534, R538, R542). -/
def State.placeRecord (s : State) (i : Nat) (r : FReport) : State :=
  let e := newEntry r s.keeper.rseq
  let s := { s with keeper := { s.keeper with log := s.keeper.log.set i e, rseq := (s.keeper.rseq + 1) % 2 ^ 32 } }
  let s := if faultClass r.code = 2 then s else s.setFld FCU.LOGWR_LAST i
  s.intrEvent 0x201 0x01 (recordArg r.code (faultClass r.code) i)

/-- An F report written: coalesced into an uncleared record of its code and instance, read or not, with READ back at 0,
or a new record in 992 to 1,023 (R538, R539). -/
def State.writeF (s : State) (r : FReport) : State :=
  match newestWhere s.keeper.rseq (fun e => e.code == r.code && e.inst == r.inst && !e.cleared) s.keeper.log with
  | some (i, e) =>
    { s with keeper := { s.keeper with log := s.keeper.log.set i { growEntry e r with read := false } } }
  | none =>
    match freeF s.keeper.log with
    | some i => s.placeRecord i r
    | none => s

/-- A C or U report written: coalesced into the most recent record of its block and instance if that has the same code
and is neither read nor cleared; else a new record; else, for U, over the oldest uncleared C record; else lost (R538 to
R540). -/
def State.writeCU (s : State) (r : FReport) : State :=
  let recent := newestWhere s.keeper.rseq (fun e => e.code / 256 == r.code / 256 && e.inst == r.inst) s.keeper.log
  let fresh (s : State) : State :=
    match freeGeneral s.keeper.log (s.fld FCU.LOGWR_LAST) with
    | some i => s.placeRecord i r
    | none =>
      if faultClass r.code = 0 then s.loseFault r.code
      else
        match oldestWhere s.keeper.rseq (fun e => e.cls == 0 && !e.cleared) s.keeper.log with
        | some (i, e) => (s.loseFault e.code).placeRecord i r
        | none => s.loseFault r.code
  match recent with
  | some (i, e) =>
    if e.code = r.code ∧ e.read = false ∧ e.cleared = false then
      { s with keeper := { s.keeper with log := s.keeper.log.set i (growEntry e r) } }
    else fresh s
  | none => fresh s

/-- The keeper's next write slot: a waiting F report first, else the oldest report of the intake queue; FAULT_N follows
(R539, R543). -/
def State.writeNext (s : State) : State :=
  match s.keeper.fpend with
  | r :: rest => ({ s with keeper := { s.keeper with fpend := rest } }.writeF r).driveFaultN
  | [] =>
    match s.keeper.intake with
    | r :: rest => ({ s with keeper := { s.keeper with intake := rest } }.writeCU r).driveFaultN
    | [] => s

/-- FAULT_RECORD_WRITE (R539). -/
def execFaultRecordWrite (s : State) : Out :=
  .next (if s.sys.vio then s.writeNext else s)

/-- The SRAM address of word k of the log entry at an index (log entry 5: the manual gives no place within the region). -/
def logAddr (i k : Nat) : Nat := 0x15D80000 + 32 * i + 4 * k

/-- A record marked read (R541, R546): refused where its entry is free. -/
def State.markRead (s : State) (i : Nat) : Option State :=
  if i < 1024 then
    match logEntry s.keeper.log i with
    | none => none
    | some e =>
      if e.cleared then none
      else some { s with keeper := { s.keeper with log := s.keeper.log.set i { e with read := true } } }
  else none

/-- A read record of a code cleared, FAULT_N following (R455, R541): refused where the entry is free, holds another code
or has not been read. The code 0xFFFF serves for an entry whose CODE word is poisoned (R609). -/
def State.clearRecord (s : State) (i code : Nat) : Option State :=
  if i < 1024 then
    match logEntry s.keeper.log i with
    | none => none
    | some e =>
      if e.cleared ∨ ¬(e.code = code ∨ (code = 0xFFFF ∧ s.poisoned (logAddr i 2) 4)) ∨ e.read = false then none
      else
        let s := { s with keeper := { s.keeper with log := s.keeper.log.set i { e with cleared := true } } }
        some s.driveFaultN
  else none

/-- The bytes of a log entry, all zero if it was never written (R534). -/
def entryBytes : Option LogEntry → List Byte
  | none => List.replicate 32 0
  | some e =>
    leBytes 8 e.time ++ leBytes 2 e.code ++ leBytes 1 e.cls ++
      leBytes 1 (b2n e.read + 2 * b2n e.cleared + 4 * b2n e.tshadow + 8 * b2n e.prevrun) ++ leBytes 2 e.inst ++
      leBytes 2 e.rep ++ leBytes 8 e.arg ++ leBytes 4 e.tlast ++ leBytes 4 e.rseq

/-- The eight words of the log entry at an index, a poisoned word reading 0xFFFF_FFFF (R545, R550, R609). -/
def State.logWords (s : State) (i : Nat) : List Word :=
  let b := entryBytes (logEntry s.keeper.log i)
  (List.range 8).map fun k =>
    if s.poisoned (logAddr i k) 4 then 0xFFFFFFFF else BitVec.ofNat 32 (fieldAt b (4 * k) 4)

/-- Word k of the log entry at an index on a path: word 0 snapshots the other seven on that path; words 1 to 7 of the
snapshot's entry come from it, of any other entry from the log (R545). -/
def State.readLog (s : State) (path i k : Nat) : Word × State :=
  if k = 0 then
    let w := s.logWords i
    (w.getD 0 0, { s with keeper := { s.keeper with logSnap := s.keeper.logSnap.set path (i, w) } })
  else
    let snap := s.keeper.logSnap.get path (1024, [])
    (if snap.1 = i then snap.2.getD k 0 else (s.logWords i).getD k 0, s)

/-- PREVRUN set in every record present, at an entry to BOOT (R534). -/
def markPrev : Tbl LogEntry → Tbl LogEntry
  | [] => []
  | (i, e) :: r => (i, { e with prevrun := true }) :: markPrev r

end Sys2Proof.Machine
end

