-- ==== Sys2Proof/Machine/LanePath.lean ====
section
/-!
DEFINITION. The path of a lane: scrambler and stuffing, the markers and training frames this device sends, and the striping
of crumbs over the active lanes (spec/03_lanes.md R73 to R85).
-/
namespace Sys2Proof.Machine

/-! ## Scrambler and stuffer (R74 to R77) -/

/-- One step of the scrambler on a data bit: the bit sent and the next state (R74). -/
def scrambleBit (state : Nat) (d : Bool) : Bool × Nat :=
  let o := (d != bit state 38) != bit state 57
  (o, (2 * state + b2n o) % 2 ^ 58)

/-- One step of the descrambler on a received bit (R74). -/
def descrambleBit (state : Nat) (o : Bool) : Bool × Nat :=
  ((o != bit state 38) != bit state 57, (2 * state + b2n o) % 2 ^ 58)

/-- Bits scrambled in line order, with the state left (R74). -/
def scramble (state : Nat) : List Bool → List Bool × Nat
  | [] => ([], state)
  | d :: r =>
    let a := scrambleBit state d
    let b := scramble a.2 r
    (a.1 :: b.1, b.2)

/-- Bits descrambled in line order, with the state left (R74). -/
def descramble (state : Nat) : List Bool → List Bool × Nat
  | [] => ([], state)
  | o :: r =>
    let a := descrambleBit state o
    let b := descramble a.2 r
    (a.1 :: b.1, b.2)

/-- The stuffer: after 24 identical line bits one bit of the opposite value is inserted, which starts a run of 1. `last` and
`run` are the bit sent last and its run, before and after: the count goes on across crumbs and markers (R76). -/
def stuff (last : Bool) (run : Nat) : List Bool → List Bool × Bool × Nat
  | [] => ([], last, run)
  | d :: r =>
    let n := if d = last ∧ run ≠ 0 then run + 1 else 1
    let b := if n = 24 then stuff (!d) 1 r else stuff d n r
    (if n = 24 then d :: (!d) :: b.1 else d :: b.1, b.2)

/-- The destuffer: the bit after 24 identical bits is removed; one of the same value is a stuff violation, counted (R76,
R77). -/
def destuff (last : Bool) (run : Nat) (skip : Bool) : List Bool → List Bool × Nat
  | [] => ([], 0)
  | d :: r =>
    if skip then
      let b := destuff d 1 false r
      (b.1, b.2 + b2n (d == last))
    else
      let n := if d = last ∧ run ≠ 0 then run + 1 else 1
      let b := destuff d n (n == 24) r
      (d :: b.1, b.2)

/-- The bits of a crumb in line order: bit 0 first (R73). -/
def lineBits (c : Crumb) : List Bool := (List.range 64).map fun i => bit c.toNat i

/-- The crumb of 64 bits in line order (R73). -/
def ofLine (l : List Bool) : Crumb := BitVec.ofNat 64 (l.foldr (fun b a => b2n b + 2 * a) 0)

/-- One crumb through the transmit path of a lane: a marker bypasses the scrambler, which holds its state; then the stuffer.
The line bits, and what the lane holds after them (R73, R74, R76). -/
def TxLane.put (t : TxLane) (marker : Bool) (c : Crumb) : List Bool × TxLane :=
  let a := if marker then (lineBits c, t.scr) else scramble t.scr (lineBits c)
  let b := stuff t.last t.run a.1
  (b.1, ⟨a.2, b.2.1, b.2.2⟩)

/-- Crumbs in order through the transmit path of a lane. -/
def TxLane.putAll (t : TxLane) (marker : Bool) : List Crumb → List Bool × TxLane
  | [] => ([], t)
  | c :: r =>
    let a := t.put marker c
    let b := a.2.putAll marker r
    (a.1 ++ b.1, b.2)

/-- Received crumbs that are no markers through the descrambler of a lane; the first crumb after lock is discarded (R74,
R75). -/
def Lane.take (y : Lane) : List Crumb → List Crumb × Lane
  | [] => ([], y)
  | c :: r =>
    let a := descramble y.descr (lineBits c)
    let b := ({ y with descr := a.2, first := false } : Lane).take r
    (if y.first then b.1 else ofLine a.1 :: b.1, b.2)

/-! ## Links (R70, R73) -/

/-- A number for each link: ports 0 to 191, the uplink, the peer link. -/
def linkNo : Link → Nat
  | .hp p => p.val
  | .upl => 192
  | .peer => 193

/-- The link of a number, and of a port. -/
def headLink (p : Nat) : Link := .hp ⟨p % 192, Nat.mod_lt _ (by decide)⟩
def linkOf (n : Nat) : Link := if n = 192 then .upl else if n = 193 then .peer else headLink n

def State.link (s : State) (l : Link) : LinkSt := s.links.get (linkNo l) {}
def State.setLink (s : State) (l : Link) (x : LinkSt) : State := { s with links := s.links.set (linkNo l) x }
def State.lkState (s : State) (l : Link) : Nat := s.fld (LK.LKSTAT_STATE l)
def State.setLk (s : State) (l : Link) (st : Nat) : State := s.setFld (LK.LKSTAT_STATE l) st

/-- Link state codes (R90). -/
def lsOff : Nat := 0
def lsDetect : Nat := 1
def lsLock : Nat := 2
def lsDwell : Nat := 3
def lsStep : Nat := 4
def lsFallback : Nat := 5
def lsGo : Nat := 6
def lsOper : Nat := 7
def lsHold : Nat := 8

/-- The lanes of a mask in ascending number (R73). -/
def lanesOf (mask : Nat) : List Nat := (List.range 32).filter fun k => bit mask k

/-- The transmit lanes of a link that send, in ascending number: the active ones, in a hold those of the new set (R73, R95,
R102). -/
def State.txActive (s : State) (l : Link) : List Nat := lanesOf ((s.link l).newTx.getD (s.fld (LK.LKACT_ACTTX l)))

/-- Crumbs through one transmit lane of a link: the line bits, and the link after them (R73). -/
def LinkSt.put (x : LinkSt) (k : Nat) (marker : Bool) (cs : List Crumb) : List Bool × LinkSt :=
  let a := (x.tx.get k {}).putAll marker cs
  (a.1, { x with tx := x.tx.set k a.2 })

/-- Markers and training frames leave on one lane (R73). -/
def State.laneSend (s : State) (l : Link) (k : Nat) (marker : Bool) (cs : List Crumb) : State :=
  let a := (s.link l).put k marker cs
  { s.setLink l a.2 with sent := s.sent ++ [.lane l k a.1] }

/-! ## Markers and training frames that leave (R79, R83 to R85) -/

/-- An alignment marker (R79): lane, SEQ, the lane asked for with RSREQ, and the set and rate change named with RSNEXT. -/
def markerCrumb (lane seq : Nat) (rsreq : Option Nat) (newSet : Option Nat) : Crumb :=
  sealCrumb (packArg [(24, 0xE41B2D), (8, lane), (8, seq), (6, rsreq.getD 0), (1, b2n newSet.isSome), (1, b2n rsreq.isSome),
    (8, newSet.getD 0)])

/-- The next marker of every active transmit lane, all with one SEQ; the oldest failed lane stands in FLANE until it is
answered (R73, R79, R95). The count of group crumbs starts again. -/
def State.sendMarkers (s : State) (l : Link) (newSet : Option Nat) : State :=
  let x := s.link l
  let c := fun k => markerCrumb k x.txSeq x.rsreq.head? newSet
  let s := (s.txActive l).foldl (fun s k => s.laneSend l k true [c k]) s
  s.setLink l { s.link l with txSeq := (x.txSeq + 1) % 256, txPos := 0 }

/-- One data crumb of a group: it goes to active lane k mod N, and after 16,384 crumbs of each lane the markers follow
(R73). -/
def State.toLane (s : State) (l : Link) (c : Crumb) : State :=
  let act := s.txActive l
  let x := s.link l
  let n := x.txPos + 1
  let s := s.setLink l { (x.put (act.getD (x.txPos % act.length) 0) false [c]).2 with txPos := n }
  if n = 16384 * act.length then s.sendMarkers l none else s

/-- The crumbs of a packet on the lanes of a group (R73). The packet itself stands in `sent`; what lies between packets,
idle crumbs in every slot, is not stepped (log entry 183). -/
def State.toLanes (s : State) (l : Link) (cs : List Crumb) : State :=
  if s.txActive l = [] then s else cs.foldl (fun s c => s.toLane l c) s

/-- KIND of the words this device sends (R84): head back-channel, Zorip-U device side, Zorip-P. -/
def ownKind : Link → Nat
  | .hp _ => 2
  | .upl => 3
  | .peer => 5

/-- The rate indices of this device's transmit group, as a mask (R70). -/
def ownRates : Link → Nat
  | .hp _ => 3
  | _ => 0x7F

/-- Lanes of this device's transmit group (R70). -/
def ownLanes : Link → Nat
  | .hp _ => 1
  | .upl => 32
  | .peer => 8

/-- The capability word this device sends (R84): lane-layer level 1, with degradation. -/
def ownCap (l : Link) : Nat := packArg [(4, ownKind l), (4, 1), (8, ownRates l), (6, ownLanes l), (1, 1)]

/-- The lanes of the receive group that are aligned and in use, for RXOK (R83). -/
def State.rxOk (s : State) (l : Link) : Nat :=
  sumN ((lanesOf (s.fld (LK.ACTRX_ACTRX l))).map fun k => if s.flag (LK.LANEC3_ALIGNED l k) then 2 ^ k else 0)

/-- The rate index at which this device transmits: the back-channel's on a head port (R70, R83). -/
def State.txRate (s : State) (l : Link) : Nat :=
  match l with
  | .hp _ => s.fld (LK.LKSTAT_BRATE l)
  | _ => s.fld (LK.LKSTAT_RATE l)

/-- The training frame of a lane (R83), with its command and requested rate. -/
def State.trainFrame (s : State) (l : Link) (lane cmd req : Nat) : List Crumb :=
  let c := [BitVec.ofNat 64 (packArg [(32, 0x96E15A3C), (8, lane), (8, (s.link l).tseq), (4, s.lkState l)]),
    BitVec.ofNat 64 (ownCap l),
    BitVec.ofNat 64 (packArg [(4, s.txRate l), (4, req), (4, cmd), (4, 0), (32, s.rxOk l)])]
  c ++ [BitVec.ofNat 64 (crc32Crumbs c)]

/-- A training frame with a command leaves on the given lanes: every lane the same frame apart from LANE (R83, R85). -/
def State.trainOn (s : State) (l : Link) (lanes : List Nat) (cmd req : Nat) : State :=
  let t := lanes.foldl (fun t k => t.laneSend l k false (s.trainFrame l k cmd req)) s
  t.setLink l { t.link l with tseq := ((s.link l).tseq + 1) % 256 }

/-- A training frame with a command leaves on every active lane (R83, R85). -/
def State.tell (s : State) (l : Link) (cmd req : Nat) : State := s.trainOn l (s.txActive l) cmd req

/-- CMD codes (R85). -/
def tkNone : Nat := 0
def tkStepReq : Nat := 1
def tkStepAck : Nat := 2
def tkStepNak : Nat := 3
def tkGoOper : Nat := 4
def tkQuadJoin : Nat := 5

end Sys2Proof.Machine
end

