-- ==== Sys2Proof/Machine/Pins.lean ====
section
/-!
DEFINITION. The pins: what the device drives on each output in each mode (spec/02_modes.md R37, R67, R68), PPS_OUT and the SYNC
pins (spec/05_time.md R152, R159), and the TAP with the boundary register that takes the pins (spec/03_lanes.md R104, R105,
spec/27_pins_package.md R667 to R669, R680, R681).
-/
namespace Sys2Proof.Machine

/-! ## The pins in ball order (R667 to R669, R681) -/

/-- A pin, a lane pair taken once. -/
inductive Pin where
  | fwd (p k : Nat) | back (p : Nat) | ut (n : Nat) | ur (n : Nat) | pr (n : Nat) | pt (n : Nat)
  | refclk | ppsIn | ppsOut | sync (n : Nat) | faultN | resetN | pwrgood | wakeOut
  | bootsel (n : Nat) | pairId | twaAdr (n : Nat) | xspiClk | xspiCsN | xspiDs | xspiIo (n : Nat)
  | i2ca (sda : Bool) | i2cb (sda : Bool) | canTx (c : Nat) | canRx (c : Nat) | tdo
  deriving DecidableEq, Repr

/-- Pins of one shape by number. -/
def pinRun (n : Nat) (f : Nat → Pin) : List Pin := (List.range n).map f

/-- The pins of a row of 16 head-port cells from port p: F0 and F1, then B, then F2 and F3 (R667). -/
def cellRows (p : Nat) : List Pin :=
  (List.range 16).flatMap (fun i => [Pin.fwd (p + i) 0, Pin.fwd (p + i) 1]) ++ pinRun 16 (fun i => Pin.back (p + i))
    ++ (List.range 16).flatMap fun i => [Pin.fwd (p + i) 2, Pin.fwd (p + i) 3]

/-- The pins of the boundary register in ball order, row by row (R681): FAULT_N and the keeper's pins are not in it. -/
def bsPins : List Pin :=
  (List.range 6).flatMap (fun r => cellRows (16 * r)) ++ pinRun 32 Pin.ut
    ++ [.refclk, .ppsIn, .ppsOut] ++ pinRun 16 Pin.sync ++ [.resetN, .pwrgood, .wakeOut]
    ++ pinRun 2 Pin.bootsel ++ [.pairId] ++ pinRun 2 Pin.twaAdr ++ [.xspiClk, .xspiCsN, .xspiDs] ++ pinRun 8 Pin.xspiIo
    ++ [.i2ca false, .i2ca true, .i2cb false, .i2cb true, .canTx 0, .canRx 0, .canTx 1, .canRx 1]
    ++ pinRun 16 Pin.ur ++ pinRun 8 Pin.pr ++ pinRun 8 Pin.pt ++ (List.range 6).flatMap fun r => cellRows (96 + 16 * r)

/-- What a boundary cell is for its pin (R681). -/
inductive ScanCell where
  | input | output | control
  deriving DecidableEq, Repr

/-- The cells of a pin in order: input, output and control, as it has them (R681). -/
def Pin.cells : Pin → List ScanCell
  | .fwd _ _ | .ur _ | .pr _ | .refclk | .ppsIn | .resetN | .pwrgood | .bootsel _ | .pairId | .twaAdr _ | .xspiDs | .canRx _ => [.input]
  | .back _ | .ut _ | .pt _ | .ppsOut | .wakeOut | .xspiClk | .xspiCsN | .canTx _ => [.output, .control]
  | .sync _ | .xspiIo _ | .i2ca _ | .i2cb _ => [.input, .output, .control]
  | .faultN | .tdo => []

/-- The boundary register, cell 0 first, which lies nearest TDO (R681). -/
def bsCells : List (Pin × ScanCell) := bsPins.flatMap fun p => p.cells.map fun c => (p, c)

/-! ## What a pin drives (R37, R67, R68, R152, R159, R543) -/

/-- What an output drives: a level, nothing, nothing with its weak pull-down, no swing on a lane, or the signals of its
protocol. -/
inductive Drive where
  | low | high | hiZ | weakDown | off | active
  deriving DecidableEq, Repr

/-- A level. -/
def driveOf (v : Bool) : Drive := if v then .high else .low

/-- A lane of a link. -/
def State.driveLane (s : State) (l : Link) : Drive := if s.lkState l = lsOff then .off else .active

/-- A SYNC pin: an output in the modes PULSE, WINDOW and PPS, with its polarity (R159). -/
def State.driveSync (s : State) (n : Nat) : Drive :=
  let m := s.fld (TSU.SYNC_MODE n)
  if s.mode.full && s.mode != .service && (m == 1 || m == 2 || m == 6) then
    driveOf (s.sys.syncOut.get n false != s.flag (TSU.SYNC_POL n))
  else .weakDown

/-- What the device logic drives on a pin in the present mode (R67, R68). XSPI shows no flash command in progress: a command ends
with the row that runs it. -/
def State.driveLogic (s : State) (p : Pin) : Drive :=
  let m := s.mode
  let on := s.sys.pwrgood
  let pre := m.full && m != .service
  match p with
  | .back n => if h : n < 192 then s.driveLane (.hp ⟨n, h⟩) else .off
  | .ut _ => s.driveLane .upl
  | .pt _ => s.driveLane .peer
  | .faultN => if s.flag FCU.PINSTAT_ASSERTED then .low else .hiZ
  | .ppsOut => driveOf (on && pre && s.sys.ppsOut)
  | .sync n => if on then s.driveSync n else .weakDown
  | .wakeOut => driveOf (on && pre && s.flag GLB.WAKE_PEND)
  | .canTx c =>
    if on && m.full && s.flag (CAN.CTL_EN c) && !s.flag (CAN.CTL_LISTEN c) && s.fld (CAN.STAT_STATE c) < 2 then .active else .high
  | .i2ca _ => if !on || (m == .boot && (s.sys.stage == .idle || s.sys.stage == .clocks)) then .hiZ else .active
  | .i2cb _ =>
    if !on || m == .standby || (m == .boot && s.sys.stage != .sirfiqua) || s.fld I2CB.STAT_STATE == 3 then .hiZ else .active
  | .xspiClk => if !on then .hiZ else if m == .boot then .active else .low
  | .xspiIo _ => if on && m == .boot then .active else .hiZ
  | .xspiCsN => if !on then .hiZ else if m == .boot then .active else .high
  | _ => .hiZ

/-! ## The TAP (R105, R680) -/

/-- The pins are taken from the device logic (R105, R680). -/
def State.pinsTaken (s : State) : Bool := s.sys.tap.takes

/-- What the boundary latches drive on a pin: nothing where its control cell is 0 (R681). -/
def State.driveTest (s : State) (p : Pin) : Drive :=
  let at_ := fun (c : ScanCell) => match bsCells.findIdx? fun (x : Pin × ScanCell) => x == (p, c) with
    | some i => s.sys.cells.getD i false
    | none => false
  if !p.cells.contains .output || s.sys.tap == .highz || !at_ .control then .hiZ else driveOf (at_ .output)

/-- What a pin drives: FAULT_N stays with the keeper (R681). -/
def State.drive (s : State) (p : Pin) : Drive := if s.pinsTaken && p != .faultN && p != .tdo then s.driveTest p else s.driveLogic p

/-- A control cell as it is captured: the output is enabled. -/
def Drive.enabled : Drive → Bool
  | .hiZ | .weakDown | .off => false
  | _ => true

/-- The boundary register captured, from the levels at the balls in the order of the input cells: outputs as the device drives
them, a running signal as a free value (R681; log entry 198). -/
def State.capture (s : State) (levels : List Bool) : List Bool :=
  let ins := fun (i : Nat) => ((bsCells.take i).filter fun (x : Pin × ScanCell) => x.2 == .input).length
  (List.range 1364).map fun i =>
    match (bsCells[i]? : Option (Pin × ScanCell)) with
    | some (_, .input) => levels.getD (ins i) false
    | some (p, .output) =>
      match s.drive p with
      | .high => true
      | .active => (Config.freeValue (s.fresh + i / 64)).getLsbD (i % 64)
      | _ => false
    | some (p, .control) => (s.drive p).enabled
    | none => false

/-- A scan of the boundary register under the instruction in force: captured, shifted by the bits that enter at TDI while those
nearest TDO leave, and updated (R681). -/
def State.scan (s : State) (levels tdi : List Bool) : State :=
  if !s.sys.tap.scans then s
  else
    let l := s.capture levels ++ tdi
    { s with fresh := s.fresh + 22, sys := { s.sys with cells := l.drop tdi.length, scanOut := l.take tdi.length } }

/-! ## PPS_OUT and the SYNC outputs (R152, R159) -/

/-- PPS_OUT driven, with the SYNC pins that copy it (R152, R159). -/
def State.drivePps (s : State) (v : Bool) : State :=
  let pins := (List.range 16).filter fun n => s.fld (TSU.SYNC_MODE n) == 6
  { s with sys := { s.sys with ppsOut := v, syncOut := pins.foldl (fun t n => t.set n v) s.sys.syncOut } }

/-- A SYNC output set active or inactive. -/
def State.setSync (s : State) (n : Nat) (on : Bool) : State := { s with sys := { s.sys with syncOut := s.sys.syncOut.set n on } }

/-- A SYNC pin after its MODE or a system load: a copy of PPS_OUT, a pulse that goes on, or no output (R159). -/
def State.syncMode (s : State) (n : Nat) : State :=
  let m := s.fld (TSU.SYNC_MODE n)
  if m = 6 then s.setSync n s.sys.ppsOut
  else if m = 1 ∨ m = 2 then s
  else { s with sys := { s.sys with syncOut := s.sys.syncOut.drop n } }

/-- The pins after DCTL or a SYNC register changes: PPS_OUT is low unless it is enabled and the time is valid (R152, R159). -/
def State.timePins (s : State) : State :=
  let s := if s.flag TSU.DCTL_PPSOUT_EN && s.flag TSU.DSTAT_TIMEVALID then s else s.drivePps false
  (List.range 16).foldl (fun (s : State) n => s.syncMode n) s

end Sys2Proof.Machine
end

