-- ==== Sys2Proof/Machine/Registers.lean ====
section
/-!
DEFINITION. Reading and writing a register as R7, R10, R12, R621 and R656 to R660 give it: views of state that no stored
word holds, access codes, owner codes, power domains and holes. The actions of write-only fields stand in the families'
own files.
-/
namespace Sys2Proof.Machine

/-- HBAGE: µs since the last heartbeat write, saturating (R548, R551). -/
def State.hbAge (s : State) : Nat := min ((s.clock - s.keeper.hbTime) / 1000) (2 ^ 32 - 1)

/-- 32 bits of a number, the n-th word of it. -/
def wordOf (v n : Nat) : Word := BitVec.ofNat 32 (v >>> (32 * n))

/-- DEVID: the first 16 bytes of SHA-384 of IDPUB (R627). -/
def devId : Nat := Config.sha384 Config.idPub % 2 ^ 128

/-- The oldest capture of a SYNC pin (R160, R161). -/
def State.capOldest (s : State) (n : Nat) : Option (Nat × Bool) := (s.tsu.caps.get n []).head?

/-- A word of a register whose value is a view of other state: time, captures, the log and its counts, the fuses. -/
def State.view (s : State) (b : Block) (r : RegDesc) (k : Nat) : Option Word :=
  match b with
  | .tsu =>
    if r.name = "NOWL" then some (wordOf s.now 0)
    else if r.name = "NOWH" then some (wordOf s.now 1)
    else if r.name = "NOWF" then some (BitVec.ofNat 32 (s.tsu.now % 2 ^ 28 / 2 ^ 12))
    else if r.name = "DSTAT" ∧ s.fld TSU.DSTAT_STATE = 4 then
      some (putBits (s.reg TSU.DSTAT) 31 16 (min ((s.now - s.tsu.holdAt) / 1000000000) 65535))
    else if r.name = "SYNCST" then
      some (putBits (s.reg (TSU.SYNCST k)) 4 0 (s.tsu.caps.get k []).length)
    else if r.name = "SCAPL" then some (wordOf ((s.capOldest k).getD (0, false)).1 0)
    else if r.name = "SCAPH" then
      let c := (s.capOldest k).getD (0, false)
      some (BitVec.ofNat 32 (c.1 / 2 ^ 32 % 2 ^ 31 + 2 ^ 31 * b2n c.2))
    else none
  | .kpr =>
    if r.name = "TSHL" then some (wordOf s.keeper.shadow 0)
    else if r.name = "TSHH" then some (wordOf s.keeper.shadow 1)
    else if r.name = "HBAGE" then some (BitVec.ofNat 32 s.hbAge)
    else if r.name = "TSHSTAT" then
      some (BitVec.ofNat 32 (if s.tsu.running then 1 + 2 * s.fld TSU.DSTAT_TIMEVALID else 0))
    else none
  | .fcu =>
    if r.name = "LOGCNT" then
      some (BitVec.ofNat 32 (uncleared 0 s.keeper.log + 2 ^ 10 * uncleared 1 s.keeper.log + 2 ^ 20 * uncleared 2 s.keeper.log))
    else if r.name = "INTAKE" then some (putBits (s.reg FCU.INTAKE) 6 0 s.keeper.intake.length)
    else if r.name = "LOG" then some ((s.logWords (k / 8)).getD (k % 8) 0)
    else none
  | .i2ca =>
    if r.name = "ADRS" then
      let t := s.fld KPR.STRAPS_TWA_EFF
      some (BitVec.ofNat 32 (0x50 + t + 256 * (0x58 + t)))
    else none
  | .brg =>
    if r.name = "STAT" then
      some (BitVec.ofNat 32 ((s.bridge.drbs.filter fun d => !d.fast).length + 256 * s.bridge.locks.length))
    else if r.name = "IPEND" then
      let held := fun g => !bit (s.fld BRG.IMASK_EN) g && s.intr.any fun m => srcGroup m.src == some g
      some (BitVec.ofNat 32 ((List.range 11).foldl (fun a g => a + if held g then 2 ^ g else 0) 0))
    else none
  | .sec =>
    if r.name = "SECSTAT" then
      some (putBits (putBits (s.reg SEC.SECSTAT) 7 4 s.fuses.rootRev) 2 2 (b2n (s.sec.grant.any fun e => decide (s.now < e))))
    else if r.name = "SVNFUSE" then some (BitVec.ofNat 32 (s.fuses.fwSvn + 2 ^ 16 * s.fuses.kbSvn))
    else if r.name = "DEVID" then some (wordOf devId k)
    else if r.name = "DEVPUB" then some (BitVec.ofNat 32 (fieldAt (Config.idPub.drop 1) (4 * k) 4))
    else none
  | _ => none

/-- Whether an offset of a slice block is a camera register (R660). -/
def cameraReg (off : Nat) : Bool :=
  !((0x400 ≤ off && off < 0x498) || off == 0x804 || off == 0x808 || (0x820 ≤ off && off < 0x838))

/-- The slice states of R508, shown in PRVSTAT.SSTATE: the code of PROVING. -/
def ssProving : Nat := 2

/-- What of a register's word a read gives: its readable fields; in an off domain those with owner K; of a camera register of a
slice in PROVING none (R7, R10, R656, R658, R660). -/
def State.gate (s : State) (a off : Nat) (b : Block) (i : Nat) (r : RegDesc) (v : Word) : Word :=
  let w := v &&& maskWhere (fun f => f.access != .wo) r.fields
  if s.domainOn b.domain then
    if b = .sl ∧ cameraReg off ∧ s.fld (SL.PRVSTAT_SSTATE i) = ssProving then w &&& keeperMask a else w
  else if s.sys.vio then w &&& keeperMask a
  else 0

/-- A register as it reads with no side effect (R7, R10, R656, R658, R660). -/
def State.peek (s : State) (a : Nat) : Word :=
  match locate a, regAt a with
  | some (_, _, off), some (b, i, r, k) => s.gate a off b i r ((s.view b r k).getD (s.reg a))
  | _, _ => 0

/-- Whether a register has a field with owner H, so that a host write passes R12 (R659). -/
def hostOwned (a : Nat) : Bool :=
  match regAt a with
  | none => false
  | some (_, _, r, _) => r.fields.any fun f => f.owner = .h

/-- The register word after a write: RW fields take the written bits, W1C bits written 1 are cleared, every other bit
stays (R7, R10). -/
def writtenWord (r : RegDesc) (old v : Word) : Word :=
  let rw := maskWhere (fun f => f.access = .rw) r.fields
  let w1c := maskWhere (fun f => f.access = .w1c) r.fields
  ((old &&& ~~~ rw) ||| (v &&& rw)) &&& ~~~ (v &&& w1c)

/-- The RW and W1C part of a register write; a hole and a field of an off domain discard it (R656, R658). Fields with
owner K are written only through the keeper paths (R551). -/
def State.writePlain (s : State) (a : Nat) (v : Word) : State :=
  match regAt a with
  | none => s
  | some (b, _, r, _) =>
    if s.domainOn b.domain then
      let fs := r.fields.filter fun f => f.owner != .k
      s.setReg a (writtenWord { r with fields := fs } (s.reg a) v)
    else s

/-- The snapshot key of a register on a path (R622). -/
def snapKey (p : Path) (a : Nat) : Nat := p.num * 2 ^ 24 + a

/-- The words that reading a register latches (R622): from its address, the addresses snapshotted. -/
def snapshotsOf (a : Nat) : List Nat :=
  match regAt a with
  | none => []
  | some (b, i, r, k) =>
    if b = .tsu ∧ r.name = "NOWL" then [TSU.NOWH, TSU.NOWF]
    else if b = .tsu ∧ r.name = "SCAPL" then [TSU.SCAPH k]
    else if b = .kpr ∧ r.name = "TSHL" then [KPR.TSHH]
    else if b = .memc ∧ r.name = "INITWML" then [MEMC.INITWMH]
    else if b = .sl ∧ r.name = "PRVTIMEL" then [SL.PRVTIMEH i]
    else if b = .sl ∧ r.name = "PRVSIGL" then [SL.PRVSIGH i]
    else if b = .hp ∧ r.name = "INGLAST" ∧ k = 0 then (List.range 11).map fun j => HP.INGLAST i (j + 1)
    else if b = .lt ∧ r.name = "LREC" ∧ k = 0 then (List.range 15).map fun j => LT.LREC i (j + 1)
    else []

/-- Whether a register's word is latched by the read of another (R622), and so reads the latch. -/
def latchedBy (a : Nat) : Bool :=
  match regAt a with
  | none => false
  | some (b, _, r, k) =>
    (b = .tsu ∧ (r.name = "NOWH" ∨ r.name = "NOWF" ∨ r.name = "SCAPH")) ∨ (b = .kpr ∧ r.name = "TSHH")
      ∨ (b = .memc ∧ r.name = "INITWMH") ∨ (b = .sl ∧ (r.name = "PRVTIMEH" ∨ r.name = "PRVSIGH"))
      ∨ (b = .hp ∧ r.name = "INGLAST" ∧ k ≠ 0) ∨ (b = .lt ∧ r.name = "LREC" ∧ k ≠ 0)

/-- The words a snapshot register names, latched on a path (R622). -/
def State.latch (s : State) (p : Path) : List Nat → State
  | [] => s
  | a :: r => { s with snaps := s.snaps.set (snapKey p a) (s.peek a) }.latch p r

/-- What the fetch of a register clears: RCLR fields, with the first lost code of an overflow counter (R10, R550, R624). -/
def State.clearOnRead (s : State) (a : Nat) : State :=
  match regAt a with
  | none => s
  | some (b, _, r, _) =>
    let m := maskWhere (fun f => f.access = .rclr) r.fields
    if m = 0 then s
    else
      let s := s.setReg a (s.reg a &&& ~~~ m)
      if b = .fcu ∧ r.name = "OVFC" then (s.setFld FCU.FIRSTLOST_CCODE 0).driveFaultN
      else if b = .fcu ∧ r.name = "OVFU" then (s.setFld FCU.FIRSTLOST_UCODE 0).driveFaultN
      else s

end Sys2Proof.Machine
end

