-- ==== Sys2Proof/Machine/Egress.lean ====
section
/-!
DEFINITION. What a stream puts into its FIFO on the way to the uplink: units, notices, headers, format changes, frame
stores, and what is lost when there is no room (spec/10_outputs.md R291 to R303, spec/13_uplink.md R385, R389, R394).
-/
namespace Sys2Proof.Machine

/-! ## Tables of state -/

def State.stream (s : State) (sid : Nat) : StreamSt := s.streams.get sid {}
def State.setStream (s : State) (sid : Nat) (x : StreamSt) : State := { s with streams := s.streams.set sid x }
def State.camOf (s : State) (p : Nat) : Cam := s.cams.get p {}
def State.setCam (s : State) (p : Nat) (x : Cam) : State := { s with cams := s.cams.set p x }
def State.setUpl (s : State) (x : Upl) : State := { s with upl := x }

/-- The slice that serves a port, none for 0xFF (R190). -/
def State.sliceOf (s : State) (p : Nat) : Option Nat :=
  let c := s.fld (XBAR.MAP_CUR p)
  if c < 208 then some c else none

/-- The port that a slice serves, none for 0xFF (R190). -/
def State.portOf (s : State) (sl : Nat) : Option Nat :=
  let c := s.fld (XBAR.RMAP_PORT sl)
  if c < 192 then some c else none

/-! ## FIFOs (R385, R386, R389, R394) -/

/-- Bytes a unit still takes in its FIFO. -/
def EgUnit.left (u : EgUnit) : Nat := u.bytes.length - 8 * u.gone

/-- Bytes in a list of units. -/
def unitsBytes (l : List EgUnit) : Nat := (l.map EgUnit.left).foldl (· + ·) 0

/-- The units waiting in the FIFO of a SID. -/
def State.fifo (s : State) (sid : Nat) : List EgUnit := s.upl.fifo.get sid []

/-- Whether n more bytes fit the FIFO of a SID. -/
def State.fits (s : State) (sid n : Nat) : Bool := decide (unitsBytes (s.fifo sid) + n ≤ s.upl.alloc.get sid 0)

/-- A unit at the end of a stream's FIFO; UPEGR.PEAK follows the highest occupancy (R395). -/
def State.push (s : State) (sid : Nat) (u : EgUnit) : State :=
  let f := s.upl.fifo.set sid (s.fifo sid ++ [u])
  let s := s.setUpl { s.upl with fifo := f, entered := s.upl.entered.set sid (s.upl.entered.get sid 0 + 1) }
  let all := ceilDiv ((f.map fun e => unitsBytes e.2).foldl (· + ·) 0) 4096
  if s.fld UPL.UPEGR_PEAK < all then s.setFld UPL.UPEGR_PEAK all else s

/-- A frame number whose NOTICE, record or STATUS found no room: counted for the LOST of its SID (R394). -/
def State.loseUnit (s : State) (sid fn fseq : Nat) : State :=
  let l := match s.upl.lost.get sid (0, 0, 0) with
    | (_, 0, _) => (fn, 1, fseq)
    | (a, n, q) => (a, n + 1, q)
  s.setUpl { s.upl with lost := s.upl.lost.set sid l }

/-- A unit that accounts for something: queued, or lost and counted where it does not fit (R394). Behind stored frames that the
FIFO has not taken yet it waits its turn, so that the items of a stream never interleave (R291, R297). -/
def State.pushOrLose (s : State) (sid : Nat) (u : EgUnit) : State :=
  let x := s.stream sid
  if x.stored != [] then s.setStream sid { x with stored := x.stored ++ [[u]] }
  else if s.fits sid u.bytes.length then s.push sid u
  else s.loseUnit sid u.fn u.fseq

/-! ## Headers of a frame's items (R292) -/

/-- The header of an item of a port's image stream for a frame: START holds 0 in every field that END completes. -/
def State.frameHdr (s : State) (p sid hkind : Nat) (f : Frame) (fseq integ sflags trlen : Nat) : Hdr :=
  let k := sid % 8
  let fin := hkind != 1
  { sid := sid, hkind := hkind, fmt := CfgSet.fmtOf f.set p k, fn := f.fn, fseq := fseq, gen := f.gen, tfirst := f.tfirst,
    tlast := if fin then f.tlast else 0, integ := if fin then integ else 0, sflags := sflags,
    vlines := if fin then f.vlines else 0, height := f.height, dw := CfgSet.dwOf f.set p k, dh := CfgSet.dhOf f.set p k,
    skip := f.skip, nfill := if fin then f.nfill else 0, nsingle := if fin then f.nsingle else 0, trlen := trlen,
    wear := s.fld (HP.PSTAT_WEAR p), auth := s.fld (HP.PSTAT_AUTH p), dev := s.dev, tclose := if fin then f.tclose else 0,
    serial := f.serial, crop0 := CfgSet.crop0 f.set p k, crop1 := CfgSet.crop1 f.set p k }

/-- The counters that the slice serving a port shows for output k: FSEQ and FN of the last item (R305). -/
def State.showOut (s : State) (p sid fseq fn : Nat) : State :=
  match s.sliceOf p with
  | some sl => if sid % 8 < 4 then s.setFlds [(SL.OFSEQ_FSEQ sl (sid % 8), fseq), (SL.OFN_FN sl (sid % 8), fn)] else s
  | none => s

/-- A counter of output k of the slice serving a port raised (R305). -/
def State.bumpOut (s : State) (p sid : Nat) (f : Nat → Nat → Fld) : State :=
  match s.sliceOf p with
  | some sl => if sid % 8 < 4 then s.bump (f sl (sid % 8)) 1 else s
  | none => s

/-- A NOTICE for a frame of a port's image stream (R291, R295, R296, R298): the FSEQ of the frame if its START has gone,
else the stream's next. -/
def State.noticeAt (s : State) (p sid : Nat) (f : Frame) (fseq integ sflags : Nat) : State :=
  let t := if bit integ igDefect then f.bitmap else []
  let h := s.frameHdr p sid 3 f fseq integ sflags t.length
  let s := s.pushOrLose sid ⟨.notice, f.fn, fseq, h.bytes ++ bytesAt t 0 (padTo 64 t.length), 0⟩
  let s := s.setStream sid { s.stream sid with lastFn := f.fn }
  (s.bumpOut p sid SL.OCNT_NOTICES).showOut p sid fseq f.fn

/-- A NOTICE that takes the stream's next FSEQ. -/
def State.notice (s : State) (p sid : Nat) (f : Frame) (integ sflags : Nat) : State :=
  let x := s.stream sid
  let s := s.setStream sid { x with fseq := (x.fseq + 1) % 2 ^ 32 }
  s.noticeAt p sid f x.fseq integ sflags

/-- A frame abandoned in the egress: nothing more of it is sent, and a NOTICE with its FSEQ, DROPPED and STOREFULL follows
what is queued; counted and reported (R389). -/
def State.abandon (s : State) (p sid : Nat) (f : Frame) (fseq : Nat) : State :=
  let s := s.setStream sid { s.stream sid with abandoned := some f.fn }
  let s := (s.bump UPL.UPCNT4_EGOVF 1).report 0x0811 sid 0
  s.noticeAt p sid f fseq (dropped f.integ) (withBit f.sflags 13 true)

/-- Units of a frame put into a stream's FIFO in order; true if all fitted (R389). -/
def State.pushAll (s : State) (sid : Nat) : List EgUnit → Bool × State
  | [] => (true, s)
  | u :: r => if s.fits sid u.bytes.length then (s.push sid u).pushAll sid r else (false, s)

/-! ## FORMAT_CHANGE and the opening of a stream (R303) -/

/-- The format of a stream under a set: what a change of it announces (R303). -/
def CfgSet.formatOf (c : CfgSet) (sid : Nat) : List Nat :=
  if isLatSid sid then
    let n := sid - 0x600
    [0x10 + CfgSet.fld c 4 n (LT.LCTL_LFMT 0), CfgSet.latW c n, CfgSet.latH c n, 0, 0, 0, 0, 0]
  else
    let p := sid / 8
    let k := sid % 8
    [CfgSet.fmtOf c p k, CfgSet.dwOf c p k, CfgSet.dhOf c p k, CfgSet.crop0 c p k, CfgSet.crop1 c p k,
     CfgSet.fld c 2 p (SL.WOSIZE_OW 0), CfgSet.fld c 2 p (SL.WOSIZE_OH 0), CfgSet.fld c 2 p (SL.WCTL_WARP_EN 0)]

/-- A FORMAT_CHANGE of a stream with a cause, FN and generation (R302, R303): 0 OPEN, 1 CHANGE, 2 CLOSE, 3 TAKEOVER,
4 HANDOVER. -/
def State.formatChange (s : State) (sid : Nat) (fmt : List Nat) (cause fn gen : Nat) : State :=
  let x := s.stream sid
  let f := if cause = 2 then 0 else fmt.getD 0 0
  let b := formatChangeBytes sid f fn x.fseq gen cause s.dev (fmt.getD 1 0) (fmt.getD 2 0) (fmt.getD 3 0) (fmt.getD 4 0)
  let s := s.pushOrLose sid ⟨.fmt, fn, x.fseq, b, 0⟩
  s.setStream sid { s.stream sid with opened := cause != 2, fmt := (if cause = 2 then [] else fmt), fmtFirst := cause != 2 }

/-- A stream opened or changed for a frame under a set: a FORMAT_CHANGE if it is not open or its format differs (R303).
Statistics and telemetry streams open without one (R301, R318). -/
def State.openStream (s : State) (sid : Nat) (c : CfgSet) (fn gen : Nat) : State :=
  let x := s.stream sid
  if !isLatSid sid && 4 ≤ sid % 8 then s.setStream sid { x with opened := true }
  else
    let f := CfgSet.formatOf c sid
    if x.opened then (if x.fmt = f then s else s.formatChange sid f 1 fn gen)
    else s.formatChange sid f 0 fn gen

/-- A stream closed by a flip or an orderly exit: FORMAT_CHANGE with CLOSE naming the last FN sent (R302, R303). -/
def State.closeStream (s : State) (sid gen : Nat) : State :=
  let x := s.stream sid
  if x.opened then
    if !isLatSid sid && 4 ≤ sid % 8 then s.setStream sid { x with opened := false }
    else s.formatChange sid x.fmt 2 x.lastFn gen
  else s

/-- The open streams of a port (R449). -/
def State.openSids (s : State) (p : Nat) : List Nat := ((List.range 6).map (sidOf p)).filter fun sid => (s.stream sid).opened

/-- The FIFO sizes that a set gives its streams, with the total in UPEGR.ALLOC (R386, R395). -/
def State.allocFifos (s : State) (c : CfgSet) : State :=
  let a : Tbl Nat := (CfgSet.sids c).map fun sid => (sid, CfgSet.fifoSize c sid)
  let s := s.setUpl { s.upl with alloc := a }
  s.setFld UPL.UPEGR_ALLOC ((a.map (·.2)).foldl (· + ·) 0 / 4096)

/-! ## STATUS (R299) -/

/-- The lowest of the reasons that hold, 0 if none does. -/
def lowestReason (l : List Nat) : Nat := l.foldl (fun a r => if a = 0 ∨ r < a then r else a) 0

/-- A frame owes an item on image stream k of its port (R186). -/
def Frame.owesImage (f : Frame) (p k : Nat) : Bool := !f.ring && decide (k < 4) && CfgSet.streamOn f.set p k && !f.ended.contains k

/-- The frames of a port that still owe an item on stream k, oldest first (R186, R297). -/
def State.unended (s : State) (p k : Nat) : List Frame :=
  ((s.camOf p).frames.reverse ++ ((s.ingests.get p {}).frame).toList).filter fun f => f.owesImage p k

/-- A STATUS item with a reason; it consumes no frame number (R291, R292, R299). -/
def State.statusNow (s : State) (p sid reason : Nat) : State :=
  let x := s.stream sid
  let h : Hdr :=
    { sid := sid, hkind := 4, fmt := x.fmt.getD 0 0, fn := x.lastFn, fseq := x.fseq,
      gen := s.fld GLB.CFGGEN_GEN, sflags := 8, height := s.fld (HP.INGGEOM_HEIGHT p), dw := x.fmt.getD 1 0, dh := x.fmt.getD 2 0, wear := s.fld (HP.PSTAT_WEAR p),
      auth := s.fld (HP.PSTAT_AUTH p), dev := s.dev, reason := reason, serial := s.serial p, crop0 := x.fmt.getD 3 0,
      crop1 := x.fmt.getD 4 0 }
  let s := s.pushOrLose sid ⟨.status, x.lastFn, x.fseq, h.bytes, 0⟩
  let s := s.setStream sid { s.stream sid with fseq := (x.fseq + 1) % 2 ^ 32 }
  (s.bumpOut p sid SL.OCNT2_STATUS).showOut p sid x.fseq x.lastFn

/-- A STATUS sent, or due after the END or NOTICE of the port's last frame where one is still owed (R299). -/
def State.statusItem (s : State) (p sid reason : Nat) : State :=
  let x := s.stream sid
  let s := s.setStream sid { x with shown := if reason = 0 then none else some reason }
  match (s.unended p (sid % 8)).getLast? with
  | none => if x.due = [] then s.statusNow p sid reason else s.setStream sid { s.stream sid with due := x.due ++ [(reason, x.lastFn)] }
  | some f => s.setStream sid { s.stream sid with due := x.due ++ [(reason, f.fn)] }

/-- The reasons that hold on an image stream changed: a STATUS at once where the lowest one changes or none holds any more
(R299). -/
def State.setReasons (s : State) (p sid : Nat) (l : List Nat) : State :=
  let x := s.stream sid
  let s := s.setStream sid { x with reasons := l }
  if !x.opened then s
  else
    let now := lowestReason l
    match x.shown with
    | none => if now = 0 then s else s.statusItem p sid now
    | some r => if r = now then s else s.statusItem p sid now

/-- A change of reasons on the image streams of a port. -/
def State.eachReason (s : State) (p : Nat) (g : List Nat → List Nat) : List Nat → State
  | [] => s
  | sid :: r => (s.setReasons p sid (g (s.stream sid).reasons)).eachReason p g r

/-- A condition begins on a port (R299). -/
def State.raiseReason (s : State) (p reason : Nat) : State :=
  s.eachReason p (fun l => if l.contains reason then l else l ++ [reason]) ((List.range 4).map (sidOf p))

/-- Conditions end on a port (R299). -/
def State.endReasons (s : State) (p : Nat) (gone : List Nat) : State :=
  s.eachReason p (fun l => l.filter fun r => !gone.contains r) ((List.range 4).map (sidOf p))

/-! ## Telemetry (R301) -/

/-- A telemetry record of a port, if its stream is open (R301). -/
def State.telemetry (s : State) (p ttype : Nat) (payload : List Byte) : State :=
  let sid := sidOf p 5
  let x := s.stream sid
  if !x.opened then s
  else
    let s := s.pushOrLose sid ⟨.telem, 0, x.fseq, telemetryBytes sid ttype x.fseq s.clock payload, 0⟩
    s.setStream sid { x with fseq := (x.fseq + 1) % 2 ^ 32 }

/-! ## Header-only statistics records (R315, R318) -/

/-- A field of the head descriptor of a port: n bytes at an offset (R123). -/
def State.desc (s : State) (p off n : Nat) : Nat := fieldAt ((s.ports.get p {}).desc) off n

/-- The 64 header bytes of a statistics set or record of a frame (R315). -/
def State.statHdr (s : State) (p : Nat) (f : Frame) (fseq integ sflags slen white gain stflags : Nat) : List Byte :=
  withCrc (layout [(2, sidOf p 4 + 2 ^ 12 * 7), (1, 1), (1, s.desc p 0x64 1), (4, f.fn), (4, fseq), (4, f.gen),
    (8, f.tfirst), (4, integ), (4, sflags), (2, f.vlines), (2, f.height), (2, f.width), (2, slen), (4, white), (2, gain),
    (1, min f.qappl 255), (1, min f.qlate 255), (4, f.expl), (4, f.tclose), (4, stflags)])

/-- A header-only record of a frame on the statistics stream of a port, if it is open (R318). -/
def State.statRecord (s : State) (p : Nat) (f : Frame) (integ sflags : Nat) : State :=
  let sid := sidOf p 4
  let x := s.stream sid
  if !x.opened then s
  else
    let white := max 1 (CfgSet.fld f.set 2 p (SL.TONEW_WHITE 0))
    let s := s.pushOrLose sid ⟨.stats, f.fn, x.fseq, s.statHdr p f x.fseq integ sflags 0 white (f.piped 2 0x100) 4, 0⟩
    s.setStream sid { x with fseq := (x.fseq + 1) % 2 ^ 32, lastFn := f.fn }

end Sys2Proof.Machine
end

