-- ==== Sys2Proof/Machine/Operands.lean ====
section
/-!
DEFINITION. The operand forms of the slice engine: scalar and vector registers, immediates, addresses in data memory
and statistics memory, and the running of one instruction (spec/12_slice_engines.md R336 to R346, R358).
-/
namespace Sys2Proof.Machine

/-! ## Registers (R336) -/

def State.eng (s : State) (sl : Nat) : Eng := s.engs.get sl {}
def State.setEng (s : State) (sl : Nat) (e : Eng) : State := { s with engs := s.engs.set sl e }

/-- A scalar register; s0 reads 0 (R336). -/
def Eng.sget (e : Eng) (r : BitVec 5) : BitVec 32 := if r = 0 then 0 else e.sreg.get r.toNat 0

/-- A scalar register written; a write to s0 is discarded (R336). -/
def Eng.sset (e : Eng) (r : BitVec 5) (v : BitVec 32) : Eng :=
  if r = 0 then e else { e with sreg := e.sreg.set r.toNat v }

/-- The sixteen lanes of a vector register. -/
def Eng.vget (e : Eng) (r : BitVec 3) : List (BitVec 16) := e.vreg.get r.toNat (List.replicate 16 0)

/-- A vector register written. -/
def Eng.vset (e : Eng) (r : BitVec 3) (v : List (BitVec 16)) : Eng := { e with vreg := e.vreg.set r.toNat v }

/-- Lane i of a vector. -/
def lane (v : List (BitVec 16)) (i : Nat) : BitVec 16 := v.getD i 0

/-- A vector from its lanes. -/
def lanes (f : Nat → BitVec 16) : List (BitVec 16) := (List.range 16).map f

/-! ## Running (R340, R341, R344, R358, R367) -/

/-- The states of ENGSTAT.STATE (R367). -/
def esIdle : Nat := 0
def esLoading : Nat := 1
def esRunning : Nat := 2
def esWaiting : Nat := 3
def esHalted : Nat := 4
def esTrapped : Nat := 5

/-- Whether the engine of a slice issues instructions: it may execute, runs, and its slice is powered (R367). -/
def State.engReady (s : State) (sl : Nat) : Bool :=
  s.domainOn .pixel && s.flag (SL.ENGCTL_RUN sl) && s.fld (SL.ENGSTAT_STATE sl) == esRunning

/-- The program counter of an engine (R367). -/
def State.engPc (s : State) (sl : Nat) : Nat := s.fld (SL.ENGPC_PC sl)

/-- Both taps of an engine in bypass for the rest of the frame (R357, R358). -/
def State.bypassTaps (s : State) (sl : Nat) : State :=
  let e := s.eng sl
  (s.setEng sl { e with tapD := { e.tapD with bypass := true }, tapS := { e.tapS with bypass := true } }).setFlds
    [(SL.TAPSTAT_BYPD sl, 1), (SL.TAPSTAT_BYPS sl, 1)]

/-- Frames of a camera in a slice marked with a bit of SFLAGS (R294). -/
def flagFrames (b sl : Nat) : List Frame → List Frame
  | [] => []
  | f :: r => (if f.slice = some sl ∧ f.ended.length < 5 then f.sflag b else f) :: flagFrames b sl r

/-- The frames that a slice is processing flagged (R357, R358). -/
def State.flagSlice (s : State) (sl b : Nat) : State :=
  match s.portOf sl with
  | none => s
  | some p =>
    let c := s.camOf p
    let s := s.setCam p { c with frames := flagFrames b sl c.frames }
    let g := s.ingests.get p {}
    match g.frame with
    | some f => if f.slice = some sl then { s with ingests := s.ingests.set p { g with frame := some (f.sflag b) } } else s
    | none => s

/-- The taps of a slice carry a kernel: one of them is enabled (R367). -/
def State.hasKernel (s : State) (sl : Nat) : Bool := s.flag (SL.ENGCTL_TAPD_EN sl) || s.flag (SL.ENGCTL_TAPS_EN sl)

/-- An engine stops: state, cause and PC shown, taps bypassed, every frame in that time flagged TAP-UNDERRUN (R358). -/
def State.engStop (s : State) (sl st cause : Nat) : State :=
  let s := s.setFlds [(SL.ENGSTAT_STATE sl, st), (SL.ENGSTAT_TRAPC sl, cause)]
  let s := s.setEng sl { s.eng sl with wait := none, loop := none }
  (s.bypassTaps sl).flagSlice sl 7

/-- An engine trap: the engine stops and engine-trap is raised with slice, cause and PC (R358, R535). The trap is kept for
the count of R359. -/
def State.engTrap (s : State) (sl cause : Nat) : State :=
  let s := (s.engStop sl esTrapped cause).bump (SL.ENGCNT0_TRAPS sl) 1
  let s := s.report 0x3050 sl (packArg [(16, sl), (16, cause), (32, s.engPc sl)])
  let e := s.eng sl
  let s := s.setEng sl { e with restart := true }
  match e.port with
  | some p => s.setCam p { s.camOf p with traps := s.clock :: (s.camOf p).traps }
  | none => s

/-- How an instruction ends: the next index, a jump to an index, a stop, a wait, or a trap with its cause. -/
inductive Flow where
  | seq
  | jump (target : Int)
  | stop
  | again
  | trap (cause : Nat)
  deriving DecidableEq, Repr

/-- The index after an instruction that does not jump, with the loop registers that follow: at the end of the body the
body repeats while its count lasts (R344). -/
def nextIndex (pc : Nat) (loop : Option (Nat × Nat × Nat)) : Nat × Option (Nat × Nat × Nat) :=
  match loop with
  | some (n, b, e) =>
    if pc + 1 = e then (if 1 < n then (b, some (n - 1, b, e)) else (e, none)) else (pc + 1, loop)
  | none => (pc + 1, none)

/-- The loop registers after a jump: a target outside the body ends the loop (R344). -/
def afterJump (t : Nat) : Option (Nat × Nat × Nat) → Option (Nat × Nat × Nat)
  | some (n, b, e) => if b ≤ t ∧ t < e then some (n, b, e) else none
  | none => none

/-- The flow of an instruction applied: the program counter and the loop registers move, or the engine traps. An index that no
program counter holds traps with CRANGE, as its fetch would (R344, R358; log entry 207). -/
def State.engFlow (s : State) (sl cycles : Nat) : Flow → State
  | .trap c => s.engTrap sl c
  | .stop => s
  | .again => s
  | .seq =>
    let e := s.eng sl
    let n := nextIndex (s.engPc sl) e.loop
    if 8192 ≤ n.1 then s.engTrap sl 4
    else (s.setEng sl { e with loop := n.2, busy := e.busy + cycles }).setFld (SL.ENGPC_PC sl) n.1
  | .jump t =>
    let e := s.eng sl
    if t < 0 ∨ 8192 ≤ t then s.engTrap sl 4
    else
      let s := s.setEng sl { e with loop := afterJump t.toNat e.loop, busy := e.busy + cycles }
      s.setFld (SL.ENGPC_PC sl) t.toNat

/-- One instruction of a ready engine: a fetch at or above CODELEN / 4 traps with CRANGE, one of a poisoned word with ECC (R344,
R358, R609); an engine that does not issue does nothing (log entry 21). -/
def State.engIssue (s : State) (sl : Slice) (cycles : Nat) (body : State → Eng → State × Flow) : State :=
  if !s.engReady sl then s
  else if (s.eng sl).codeLen / 4 ≤ s.engPc sl then s.engTrap sl 4
  else if s.poisoned (engCodeBase sl + 4 * s.engPc sl) 4 then s.engTrap sl 5
  else
    let r := body s (s.eng sl)
    r.1.engFlow sl cycles r.2

/-- An instruction that writes a scalar register from the engine's own registers. -/
def State.engScalar (s : State) (sl : Slice) (sd : BitVec 5) (v : Eng → BitVec 32) : State :=
  s.engIssue sl 1 fun s e => (s.setEng sl (e.sset sd (v e)), .seq)

/-- An instruction that writes a vector register from the engine's own registers. -/
def State.engVector (s : State) (sl : Slice) (vd : BitVec 3) (v : Eng → List (BitVec 16)) : State :=
  s.engIssue sl 1 fun s e => (s.setEng sl (e.vset vd (v e)), .seq)

/-! ## Memory operands (R337, R346, R348) -/

/-- The byte address of a load or store: s[sa] plus a signed 15-bit offset, as an integer (R346). -/
def Eng.addr (e : Eng) (sa : BitVec 5) (off : BitVec 15) : Int := ((e.sget sa).toNat : Int) + off.toInt

/-- The trap that an access of n bytes with an alignment raises: DALIGN, DRANGE, or ECC for a poisoned word that it reads or, as
a write, replaces only in part (R337, R346, R609, R616); none where it may proceed. -/
def State.accessTrap (s : State) (sl : Nat) (a : Int) (n align : Nat) (wr : Bool := false) : Option Nat :=
  let w := (a % (2 ^ 32 : Nat)).toNat
  if w % align ≠ 0 then some 2
  else if 0x8000 < w + n then some 3
  else if (if wr then s.partialPoison (engDataBase sl + w) n else s.poisoned (engDataBase sl + w) n) then some 5
  else none

/-- Bytes of an engine's data memory. -/
def State.dataBytes (s : State) (sl a n : Nat) : List Byte := s.bytes (engDataBase sl + a) n

/-- Bytes written to an engine's data memory. -/
def State.dataPoke (s : State) (sl a : Nat) (l : List Byte) : State := s.poke (engDataBase sl + a) l

/-- A vector from 32 bytes: lane 0 is the lowest-addressed halfword (R336). -/
def vecOf (l : List Byte) : List (BitVec 16) := lanes fun i => BitVec.ofNat 16 (fieldAt l (2 * i) 2)

/-- The 32 bytes of a vector. -/
def bytesOfVec (v : List (BitVec 16)) : List Byte := (List.range 16).flatMap fun i => leBytes 2 (lane v i).toNat

/-- A load or store of n bytes: the trap of R346, or `k` on the address in data memory. -/
def State.engAccess (s : State) (sl : Slice) (sa : BitVec 5) (off : BitVec 15) (n align cycles : Nat)
    (k : State → Eng → Nat → State) (wr : Bool := false) : State :=
  s.engIssue sl cycles fun s e =>
    let a := e.addr sa off
    match s.accessTrap sl a n align wr with
    | some c => (s, .trap c)
    | none => (k s e (a % (2 ^ 32 : Nat)).toNat, .seq)

end Sys2Proof.Machine
end

