-- ==== Sys2Proof/Machine/Flags.lean ====
section
/-!
DEFINITION. Lane results of the slice engine: saturation, signedness, rounding shifts and comparisons
(spec/12_slice_engines.md R345), and the comparisons of the branches (R344).
-/
namespace Sys2Proof.Machine

/-- A lane read as S16 if SGN = 1, as U16 otherwise (R345). -/
def laneInt (sgn : Bool) (x : BitVec 16) : Int := if sgn then x.toInt else x.toNat

/-- An exact result brought to a lane: clamped to the lane range if SAT = 1, wrapped modulo 2^16 otherwise (R345). -/
def laneFit (sat sgn : Bool) (v : Int) : BitVec 16 :=
  if sat then BitVec.ofInt 16 (if sgn then clamp (-32768) 32767 v else clamp 0 65535 v) else BitVec.ofInt 16 v

/-- The rounding shift of VMULQ: p plus half, shifted right by sh, arithmetic or logical as the sign of p asks (R345). -/
def mulqShift (p : Int) (sh : Nat) : Int := if sh = 0 then p else (p + (2 ^ (sh - 1) : Nat)) / ((2 ^ sh : Nat) : Int)

/-- The exact VMULQ result of two lanes for a shift count n (R345). -/
def mulq (sgn : Bool) (a b : BitVec 16) (n : Nat) : Int := mulqShift (laneInt sgn a * laneInt sgn b) (min n 16)

/-- A lane-by-lane result of two vectors. -/
def laneMap (f : BitVec 16 → BitVec 16 → BitVec 16) (a b : List (BitVec 16)) : List (BitVec 16) :=
  lanes fun i => f (lane a i) (lane b i)

/-- 0xFFFF or 0 (R345). -/
def laneFlag (b : Bool) : BitVec 16 := if b then 0xFFFF else 0

/-- The sum of a list of integers. -/
def sumInts (l : List Int) : Int := l.foldl (· + ·) 0

/-- The six branch comparisons of R344. -/
inductive Cond where
  | eq | ne | lt | ge | ltu | geu
  deriving DecidableEq, Repr

/-- Whether a branch is taken (R344). -/
def Cond.holds (c : Cond) (a b : BitVec 32) : Bool :=
  match c with
  | .eq => a == b
  | .ne => a != b
  | .lt => decide (a.toInt < b.toInt)
  | .ge => decide (b.toInt ≤ a.toInt)
  | .ltu => decide (a.toNat < b.toNat)
  | .geu => decide (b.toNat ≤ a.toNat)

end Sys2Proof.Machine
end

