-- ==== Sys2Proof/Machine/EngineMem.lean ====
section
/-!
DEFINITION. Loads, stores and statistics reads of the slice engine (spec/12_slice_engines.md R346, R348), and what the
engine does on a reserved word (R340).
-/
namespace Sys2Proof.Machine

/-- LDW: a word of data memory (R346). -/
def execEngLdw (sl : Slice) (sd sa : BitVec 5) (off : BitVec 15) (s : State) : Out :=
  .next (s.engAccess sl sa off 4 4 1 fun s e a =>
    s.setEng sl (e.sset sd (BitVec.ofNat 32 (leNat (s.dataBytes sl a 4)))))

/-- STW: a word to data memory (R346). -/
def execEngStw (sl : Slice) (sd sa : BitVec 5) (off : BitVec 15) (s : State) : Out :=
  .next (s.engAccess sl sa off 4 4 1 (wr := true) fun s e a => s.dataPoke sl a (leBytes 4 (e.sget sd).toNat))

/-- LDH: a halfword of data memory, zero-extended (R346). -/
def execEngLdh (sl : Slice) (sd sa : BitVec 5) (off : BitVec 15) (s : State) : Out :=
  .next (s.engAccess sl sa off 2 2 1 fun s e a =>
    s.setEng sl (e.sset sd (BitVec.ofNat 32 (leNat (s.dataBytes sl a 2)))))

/-- STH: the low halfword to data memory (R346). -/
def execEngSth (sl : Slice) (sd sa : BitVec 5) (off : BitVec 15) (s : State) : Out :=
  .next (s.engAccess sl sa off 2 2 1 (wr := true) fun s e a => s.dataPoke sl a (leBytes 2 (e.sget sd).toNat))

/-- VLD: 32 bytes of data memory to a vector (R346). -/
def execEngVld (sl : Slice) (vd : BitVec 3) (sa : BitVec 5) (off : BitVec 15) (s : State) : Out :=
  .next (s.engAccess sl sa off 32 2 1 fun s e a => s.setEng sl (e.vset vd (vecOf (s.dataBytes sl a 32))))

/-- VST: a vector to 32 bytes of data memory (R346). -/
def execEngVst (sl : Slice) (vd : BitVec 3) (sa : BitVec 5) (off : BitVec 15) (s : State) : Out :=
  .next (s.engAccess sl sa off 32 2 1 (wr := true) fun s e a => s.dataPoke sl a (bytesOfVec (e.vget vd)))

/-- VLUT: each lane replaced by the halfword at the address plus twice the lane; four cycles. The first lane that may not
be read traps (R341, R346). -/
def execEngVlut (sl : Slice) (vd : BitVec 3) (sa : BitVec 5) (off : BitVec 15) (s : State) : Out :=
  .next (s.engIssue sl 4 fun s e =>
    let at_ := fun i => e.addr sa off + 2 * ((lane (e.vget vd) i).toNat : Int)
    match (List.range 16).findSome? fun i => s.accessTrap sl (at_ i) 2 2 with
    | some c => (s, .trap c)
    | none =>
      let v := lanes fun i => BitVec.ofNat 16 (leNat (s.dataBytes sl ((at_ i) % (2 ^ 32 : Nat)).toNat 2))
      (s.setEng sl (e.vset vd v), .seq))

/-! ## Statistics memory (R316, R317, R348) -/

/-- Whether a byte range of the statistics memory lies in a bank whose frame's successor but one has begun on the slice, so
that the bank accumulates another frame (R317). -/
def State.bankReused (s : State) (sl a : Nat) : Bool :=
  if 0x7800 ≤ a then false
  else
    let bank := a / 0x3C00
    let fn := leNat (s.bytes (statsBase sl + 0x3C00 * bank + 4) 4)
    match s.portOf sl with
    | none => false
    | some p => (s.camOf p).frames.any fun f => !f.statsDone && f.slice == some sl && (f.fn + 2 ^ 32 - fn) % 2 ^ 32 == 2

/-- A read of the statistics memory: n bytes at an address; the values accumulated so far in a reused bank depend on the
moment and are free values (R317; log entry 23), and READLATE is set. A poisoned word is delivered as 0 (R320). -/
def State.statRead (s : State) (sl a n : Nat) : List Byte × State :=
  if s.bankReused sl a then
    ((List.range n).map fun i => ((Config.freeValue (s.fresh + i / 8)).toNat >>> (8 * (i % 8)) : Nat) |> BitVec.ofNat 8,
     { s with fresh := s.fresh + ceilDiv n 8 }.setFld (SL.STSTAT_READLATE sl) 1)
  else (s.cleanBytes (statsBase sl + a) n, s)

/-- The trap of a statistics address: DALIGN, or DRANGE beyond 0x7FFF (R348). -/
def statTrap (a n align : Nat) : Option Nat := if a % align ≠ 0 then some 2 else if 0x8000 < a + n then some 3 else none

/-- STLW: a word of the statistics memory (R348). -/
def execEngStlw (sl : Slice) (sd sa : BitVec 5) (u : BitVec 15) (s : State) : Out :=
  .next (s.engIssue sl 1 fun s e =>
    let a := (e.sget sa).toNat + u.toNat
    match statTrap a 4 4 with
    | some c => (s, .trap c)
    | none =>
      let r := s.statRead sl a 4
      (r.2.setEng sl (e.sset sd (BitVec.ofNat 32 (leNat r.1))), .seq))

/-- STLV: 32 bytes of the statistics memory to a vector (R348). -/
def execEngStlv (sl : Slice) (vd : BitVec 3) (sa : BitVec 5) (u : BitVec 15) (s : State) : Out :=
  .next (s.engIssue sl 1 fun s e =>
    let a := (e.sget sa).toNat + u.toNat
    match statTrap a 32 32 with
    | some c => (s, .trap c)
    | none =>
      let r := s.statRead sl a 32
      (r.2.setEng sl (e.vset vd (vecOf r.1)), .seq))

/-- STCPY: u15 blocks of 64 bytes, 1 to 480, from the statistics memory to data memory, two cycles a block. A block count
outside 1 to 480 is a field outside what R348 defines and traps ILLEGAL (log entry 24). -/
def execEngStcpy (sl : Slice) (sd sa : BitVec 5) (u : BitVec 15) (s : State) : Out :=
  .next (s.engIssue sl (2 * u.toNat) fun s e =>
    let n := u.toNat
    let a := (e.sget sa).toNat
    let d := (e.sget sd).toNat
    if n = 0 ∨ 480 < n then (s, .trap 1)
    else if a % 64 ≠ 0 ∨ d % 64 ≠ 0 then (s, .trap 2)
    else if 0x8000 < a + 64 * n ∨ 0x8000 < d + 64 * n then (s, .trap 3)
    else
      let r := s.statRead sl a (64 * n)
      (r.2.dataPoke sl d r.1, .seq))

/-! ## Reserved words (R340, R342 to R352) -/

/-- Whether an instruction word is one the engine executes: its class and operation are defined and the fields marked 0 are
0 (R340, R342 to R352). -/
def engLegal (w : Word) : Bool :=
  let f := getBits w
  match f 31 28 with
  | 0x0 => f 27 22 ≤ 0x0F && f 6 0 == 0 && (f 27 22 != 0x0F || f 11 7 == 0)
  | 0x1 => f 27 24 ≤ 0x8 && (!(4 ≤ f 27 24 && f 27 24 ≤ 6) || f 13 5 == 0)
  | 0x2 => f 27 24 ≤ 0x9 && (f 27 24 != 7 || f 13 0 == 0) && (f 27 24 != 8 || (f 13 0 != 0 && f 13 13 == 0))
  | 0x3 => f 27 22 ≤ 0x11 && f 5 0 == 0 && (f 27 22 != 0xC || (f 18 16 == 0 && f 15 13 == 0))
      && (f 27 22 != 0x11 || (f 21 19 == 0 && f 15 13 == 0))
  | 0x4 => f 27 25 ≤ 6 && (f 27 25 < 4 || f 24 23 == 0)
  | 0x5 => f 27 25 ≤ 3 && f 12 0 == 0
  | 0x6 => f 27 25 ≤ 2 && (f 27 25 != 2 || (1 ≤ f 14 0 && f 14 0 ≤ 480))
  | 0x7 => f 27 25 ≤ 2 && f 7 0 == 0
  | 0x8 => f 27 25 ≤ 2 && f 14 0 == 0
  | 0x9 => match f 27 25 with
    | 0 => f 14 8 == 0
    | 1 => f 14 0 ≤ 1
    | 2 => f 14 0 ≤ 3
    | 3 => f 14 0 ≤ 1
    | _ => false
  | 0xA => f 27 25 ≤ 2 && f 14 0 == 0
  | _ => false

/-- ILLEGAL_INSTRUCTION: a word of a reserved class or operation, or with a non-zero field marked 0, traps with ILLEGAL; a
word that the engine executes has its own command and does nothing here (R340). -/
def execEngIllegalInstruction (sl : Slice) (word : Word) (s : State) : Out :=
  .next (if engLegal word then s else s.engIssue sl 1 fun s _ => (s, .trap 1))

end Sys2Proof.Machine
end

