-- ==== Sys2Proof/Machine/PixelRaw.lean ====
section
/-!
DEFINITION. The raw steps of the pixel path as functions of one frame: black level, defects, the two-exposure merge,
spatial and temporal noise reduction (spec/08_colour.md R214 to R222, spec/06_ingest.md R177, spec/07_noise.md R191 to
R211). Samples after step 8 are integers in 1/16 DN.
-/
namespace Sys2Proof.Machine

/-- A square root to 24 bits after the point, rounded down. -/
def sqrtQ (x : Rat) : Rat := mkRat (isqrt (x * 2 ^ 48).floor.toNat) (2 ^ 24)

/-- The least integer whose square is not below x. -/
def ceilSqrt (x : Rat) : Nat :=
  let c := x.ceil.toNat
  let r := isqrt c
  if r * r < c then r + 1 else r

/-- Nearest integer, halves up (R685). -/
def roundHalf (x : Rat) : Int := (x + mkRat 1 2).floor

/-- The absolute value of a rational. -/
def absQ (x : Rat) : Rat := if x < 0 then -x else x

/-- Everything the pipeline holds fixed for one frame (R24, R243). -/
structure Scene where
  f : Frame
  port : Nat
  cfa : Nat
  bits : Nat
  /-- Shot coefficient and read-noise variance at the frame's gain; none where the model table is empty (R193, R195). -/
  noise : Option (Rat × Rat)
  /-- BASE of R216. -/
  base : Nat
  /-- Raster indices of the static defect map (R218). -/
  smap : List Nat
  /-- Shading mesh: columns, rows and gains in the order of SHADE; none for gain 1.0 (R223). -/
  mesh : Option (Nat × Nat × List Nat)
  mem : List Host.Cell
  poison : List Nat
  deriving DecidableEq, Repr

/-- The pipeline word of the register at instance-0 address `a`: the frame's queued value, else the set's (R242). -/
def Scene.word (c : Scene) (a : Nat) : Nat :=
  let queued := [(0x10, SL.BLKOFS0 0), (0x11, SL.BLKOFS1 0), (0x12, SL.WBG0 0), (0x13, SL.WBG1 0), (0x14, SL.CCM 0 0),
    (0x15, SL.CCM 0 1), (0x16, SL.CCM 0 2), (0x17, SL.CCM 0 3), (0x18, SL.CCM 0 4), (0x19, SL.CCMOFS 0 0), (0x1A, SL.CCMOFS 0 1),
    (0x1B, SL.CCMOFS 0 2)]
  match queued.find? fun e => e.2 == a with
  | some (id, _) => if c.f.pipe.has id then c.f.pipe.get id 0 else (CfgSet.word c.f.set 2 c.port a).toNat
  | none => (CfgSet.word c.f.set 2 c.port a).toNat

/-- A field of the pipeline registers for the frame. -/
def Scene.fld (c : Scene) (x : Fld) : Nat := bitsOf (c.word x.addr) x.hi x.lo
def Scene.flag (c : Scene) (x : Fld) : Bool := c.fld x != 0

/-- G of the frame, U8.8 (R193): 0x0100 until a GAIN entry is queued. -/
def Frame.gain (f : Frame) : Nat := f.piped 2 0x100

/-! ## Channels (R214, R215) -/

/-- The phase period of a CFA (R214). -/
def cfaPeriod (cfa : Nat) : Nat := if cfa = 5 then 1 else if cfa = 6 then 4 else 2

/-- The channel index of the sample at (x, y) (R214). -/
def cfaCh (cfa x y : Nat) : Nat :=
  let q := 2 * (y % 2) + x % 2
  match cfa with
  | 0 | 4 => [0, 1, 2, 3].getD q 0
  | 1 => [1, 0, 3, 2].getD q 0
  | 2 => [2, 3, 0, 1].getD q 0
  | 3 => [3, 2, 1, 0].getD q 0
  | 6 => if (x + y) % 2 = 1 then 1 else if x % 2 = 1 then 3 else if (x % 4 + y % 4) % 4 = 2 then 0 else 2
  | _ => 0

/-- The colour of a channel: Gr and Gb, or Cr and Cb, are one (R196); 0 R, 1 G or C, 2 B, 3 N. -/
def chColour (cfa ch : Nat) : Nat := if cfa ≤ 4 then [0, 1, 1, 2].getD ch 0 else ch

/-- The colour at (x, y). -/
def Scene.colour (c : Scene) (x y : Nat) : Nat := chColour c.cfa (cfaCh c.cfa x y)

/-- A coordinate brought into 0 to n − 1 by phase-preserving replication (R215). -/
def replicate (p n : Nat) (x : Int) : Nat :=
  if x < 0 then (x + p * ((-x + p - 1) / p)).toNat
  else if x ≥ n then (x - p * ((x - n + 1 + p - 1) / p)).toNat
  else x.toNat

/-- Whether a position lies in the frame. -/
def Scene.inside (c : Scene) (x y : Int) : Bool := decide (0 ≤ x ∧ x < c.f.width ∧ 0 ≤ y ∧ y < c.f.height)

/-- A valid line: VALID, SINGLE-L or SINGLE-S (spec/07_noise.md). -/
def Scene.validLine (c : Scene) (y : Nat) : Bool := [0, 5, 6].contains (c.f.lstate y)

/-! ## The noise model (R193, R194) -/

/-- Linear interpolation of a column of a rising table at gain g, clamped to its ends (R193). -/
def interpolate (g : Nat) : List (Nat × Rat) → Rat
  | [] => 0
  | [(_, v)] => v
  | (g0, v0) :: (g1, v1) :: r =>
    if g ≤ g0 then v0
    else if g < g1 then v0 + (v1 - v0) * mkRat (g - g0 : Nat) (g1 - g0)
    else interpolate g ((g1, v1) :: r)

/-- The entries of a noise table with non-zero gain: gain, a, b, black level (R123, R193). -/
def noiseRows (t : List Byte) : List (Nat × Rat × Rat × Rat) :=
  ((List.range 16).map fun i =>
    let s := fieldAt t (16 * i + 4) 2
    (fieldAt t (16 * i) 2, mkRat (fieldAt t (16 * i + 2) 2) 4096, mkRat (s * s : Nat) 65536, mkRat (fieldAt t (16 * i + 6) 2) 1)).filter
      fun e => e.1 != 0

/-- a and b at a gain, b at least 0.25; none for an empty table (R193, R195). -/
def noiseAt (t : List Byte) (g : Nat) : Option (Rat × Rat) :=
  match noiseRows t with
  | [] => none
  | rows =>
    let b := interpolate g (rows.map fun e => (e.1, e.2.2.1))
    some (interpolate g (rows.map fun e => (e.1, e.2.1)), if b < mkRat 1 4 then mkRat 1 4 else b)

/-- The black-level column at a gain (R216). -/
def blackAt (t : List Byte) (g : Nat) : Nat := (roundHalf (interpolate g ((noiseRows t).map fun e => (e.1, e.2.2.2)))).toNat

/-- The model table of a camera under a set: its own, else the head's (R193). -/
def modelTable (set : CfgSet) (p : Nat) (desc : List Byte) : List Byte :=
  if Tbl.has set (setKey 2 p 0x8001) then CfgSet.item set 2 p 0x8001 [] else bytesAt desc 0xC0 256

/-- The noise sigma of a sample of value v with merge weight w8 (R194), to a relative precision of 2^-10. -/
def Scene.sigma (c : Scene) (v : Rat) (w8 : Nat) : Rat :=
  let (a, b) := c.noise.getD (0, mkRat 1 4)
  let k := mkRat c.f.k12 4096
  let varL := a * v + b
  let varS := k * a * v + k * k * b
  let l : Rat := ((256 - w8 : Nat) : Int)
  let s : Rat := (w8 : Int)
  let q := sqrtQ ((l * l * varL + s * s * varS) / 65536)
  q + q * mkRat (clamp (-1048576) 1048576 (Config.slack 0 (q * 4096).floor)) (2 ^ 30)

/-! ## Black level and defects (R216 to R222) -/

/-- BLK of a channel (R216). -/
def Scene.blk (c : Scene) (ch : Nat) : Nat :=
  let w := c.word (if ch < 2 then SL.BLKOFS0 0 else SL.BLKOFS1 0)
  clampN 65535 ((c.base : Int) + signed 16 (w >>> (16 * (ch % 2))))

/-- A sample of a burst after step 4 (R216, R217). -/
def Scene.black (c : Scene) (sec : Bool) (x y : Nat) : Nat :=
  let v := (c.f.burst sec y).getD x 0
  if c.flag (SL.CLRCTL_BLK_EN 0) then v - c.blk (cfaCh c.cfa x y) else v

/-- Candidate offsets of a sample (R219). -/
def Scene.candOffsets (c : Scene) (x y : Nat) : List (Int × Int) :=
  let col := c.colour x y
  if c.cfa = 5 then [(-1, 0), (1, 0), (0, -1), (0, 1)]
  else if col = 1 then [(-1, -1), (1, -1), (-1, 1), (1, 1)]
  else if c.cfa = 6 ∧ col ≠ 3 then [(-2, -2), (2, -2), (-2, 2), (2, 2)]
  else [(-2, 0), (2, 0), (0, -2), (0, 2)]

/-- Whether the static map applies and names a pixel. -/
def Scene.mapped (c : Scene) (x y : Nat) : Bool := c.smap.contains (y * c.f.width + x)

/-- The candidate values that are not excluded (R219). -/
def Scene.cands (c : Scene) (sec : Bool) (x y : Nat) : List Int :=
  (c.candOffsets x y).filterMap fun (dx, dy) =>
    let x' := (x : Int) + dx
    let y' := (y : Int) + dy
    if c.inside x' y' && !c.mapped x'.toNat y'.toNat && c.validLine y'.toNat then some (c.black sec x'.toNat y'.toNat : Int)
    else none

/-- T(u) of the dynamic test (R221). -/
def Scene.ddThreshold (c : Scene) (u : Nat) : Nat :=
  let m := c.fld (SL.DDEF_DDMIN 0)
  match c.noise with
  | none => m
  | some (a, b) =>
    let k := mkRat (c.fld (SL.DDEF_DDK 0)) 16
    max (ceilSqrt (k * k * (a * ((u : Nat) : Int) + b))) m

/-- A sample of a burst after step 5, and what was done to it: 0 nothing, 1 static, 2 dynamic, 3 uncorrected (R220,
R221). -/
def Scene.defect (c : Scene) (sec : Bool) (x y : Nat) : Nat × Nat :=
  let v := c.black sec x y
  if !c.validLine y then (v, 0)
  else
    let cs := c.cands sec x y
    if c.mapped x y then
      if !c.flag (SL.CLRCTL_SDEF_EN 0) then (v, 0) else if cs = [] then (v, 3) else ((median cs).toNat, 1)
    else if c.flag (SL.CLRCTL_DDEF_EN 0) && decide (3 ≤ cs.length) then
      let hi := cs.foldl max 0
      let lo := cs.foldl min (cs.headD 0)
      if decide (hi + c.ddThreshold hi.toNat ≤ v) || decide (v + (c.ddThreshold lo.toNat : Nat) ≤ lo) then ((median cs).toNat, 2)
      else (v, 0)
    else (v, 0)

/-! ## Step 6: the merge (R177, R178, R191) -/

/-- K12 of a frame (R177), and whether its ratio is bad. -/
def hdrRatio (expl exps : Nat) (est : Bool) : Nat × Bool :=
  if est ∨ exps = 0 ∨ expl < exps then (4096, true)
  else ((clamp 4096 1048576 (roundDiv (expl * 4096 : Nat) exps)).toNat, false)

/-- w8 of two bursts (R177). -/
def mergeWeight (l t0 t1 : Nat) : Nat := if t1 ≤ t0 then 256 else clampN 256 (256 * ((l : Int) - t0) / ((t1 - t0 : Nat) : Int))

/-- SK of an S sample (R177). -/
def scaleS (s k12 : Nat) : Nat := min ((s * k12 + 2048) / 4096) 16777215

/-- OUT of both bursts (R177). -/
def mergeBoth (l sk w8 : Nat) : Nat := ((256 - w8) * l + w8 * sk + 128) / 256

/-- The merged sample in native DN with its side value w8 (R177, R191). A line neither of whose bursts survives passes the
fill of its L burst. -/
def Scene.merged (c : Scene) (x y : Nat) : Nat × Nat :=
  let l := (c.defect false x y).1
  if !c.f.hdr then (l, 0)
  else
    let st := c.f.lstate y
    let sk := scaleS (c.defect true x y).1 c.f.k12
    if st = 0 then
      let w := mergeWeight l (CfgSet.fld c.f.set 1 c.port (HP.INGKNEE_T0 0)) (CfgSet.fld c.f.set 1 c.port (HP.INGKNEE_T1 0))
      (mergeBoth l sk w, w)
    else if st = 6 then (sk, 256)
    else (l, 0)

/-! ## Step 7: spatial noise reduction (R192, R195 to R197) -/

/-- Whether step 7 filters (R192, R195, R197). -/
def Scene.snrOn (c : Scene) : Bool := c.flag (SL.NRCTL_SNR_EN 0) && c.noise.isSome && c.fld (SL.NRCTL_S 0) != 0

/-- Entry q of the weight table (R197). -/
def Scene.nrLut (c : Scene) (q : Nat) : Nat := bitsOf (c.word (SL.NRLUT 0 (q / 4))) (8 * (q % 4) + 7) (8 * (q % 4))

/-- The sums acc and wsum of R197 over the window offsets. -/
def Scene.snrSums (c : Scene) (x y : Nat) (p0 : Nat) (thr : Rat) : Int × Nat :=
  let offs := (List.range 49).map fun i => (((i % 7 : Nat) : Int) - 3, ((i / 7 : Nat) : Int) - 3)
  offs.foldl (fun (s : Int × Nat) (o : Int × Int) =>
    let x' := (x : Int) + o.1
    let y' := (y : Int) + o.2
    if (o == (0, 0)) || !c.inside x' y' then s
    else if !c.validLine y'.toNat || c.colour x'.toNat y'.toNat != c.colour x y then s
    else
      let d := ((c.merged x'.toNat y'.toNat).1 : Int) - p0
      let q := if thr ≤ 0 then 15 else min (mkRat (8 * d.natAbs : Nat) 1 / thr).floor.toNat 15
      (s.1 + c.nrLut q * d, s.2 + c.nrLut q)) (0, c.fld (SL.NRCTL_CW 0))

/-- Step 7's output at (x, y) in 1/16 DN (R197). -/
def Scene.spatial (c : Scene) (x y : Nat) : Nat :=
  let (p0, w8) := c.merged x y
  if !c.snrOn || !c.validLine y then 16 * p0
  else
    let thr := mkRat (c.fld (SL.NRCTL_S 0)) 32 * c.sigma ((p0 : Nat) : Int) w8
    let (acc, ws) := c.snrSums x y p0 thr
    if ws = 0 then Config.noWeight p0 % 2 ^ 28
    else clampN (2 ^ 28 - 1) (roundHalf (mkRat (16 * ((p0 : Int) * ws + acc)) ws))

/-! ## Step 8: temporal noise reduction (R198, R206, R208, R210) -/

/-- A number of n bytes in the scene's memory. -/
def Scene.num (c : Scene) (a n : Nat) : Nat := leNat (Memory.getList c.mem a n)

/-- The code of a reference pixel; NOREF, 1,023, where its word is poisoned (R207, R211). -/
def Scene.refCode (c : Scene) (base x y : Nat) : Nat :=
  let bitno := 10 * (y * c.f.width + x)
  let a := base + 64 + bitno / 8
  if (wordsOf a 2).any fun w => c.poison.contains w then 1023 else (c.num a 2 >>> (bitno % 8)) % 1024

/-- D(c) of R208 in 1/16 DN, from the header's AQ and BQ. -/
def refDecode (aQ bQ : Rat) (code : Nat) : Rat :=
  let rb := sqrtQ bQ
  let ch := mkRat (code * 45 : Nat) 100
  let v := if aQ = 0 then ch * rb else ((ch * aQ / 2 + rb) * (ch * aQ / 2 + rb) - bQ) / aQ
  mkRat (roundHalf (16 * v)) 1

/-- The header of a reference is poisoned: the reference is unusable (R211). -/
def Scene.headPoisoned (c : Scene) (base : Nat) : Bool := (wordsOf base 64).any fun w => c.poison.contains w

/-- The motion-compensated reference at (x, y) in 1/16 DN, scaled by the exposure ratio; none is NOREF (R210). A fetch position on a
sample takes the right and lower neighbours of it with weight 0, and is NOREF where they are (DESIGN CHOICE, log entry 205). -/
def Scene.refAt (c : Scene) (x y : Int) : Option Rat :=
  match c.f.ref with
  | none => none
  | some (base, e) =>
    let p : Int := cfaPeriod c.cfa
    let aQ := mkRat (c.num (base + 0x1A) 2) 4096
    let bQ := mkRat (c.num (base + 0x1C) 4) 256
    let kx := (-c.f.tnr.motx) / (16 * p)
    let ky := (-c.f.tnr.moty) / (16 * p)
    let fx := mkRat ((-c.f.tnr.motx) % (16 * p)) (16 * p.toNat)
    let fy := mkRat ((-c.f.tnr.moty) % (16 * p)) (16 * p.toNat)
    let at_ := fun (i j : Int) =>
      let x' := x + p * (kx + i)
      let y' := y + p * (ky + j)
      if c.inside x' y' && !c.headPoisoned base then
        let k := c.refCode base x'.toNat y'.toNat
        if k = 1023 then none else some (refDecode aQ bQ k)
      else none
    match at_ 0 0, at_ 1 0, at_ 0 1, at_ 1 1 with
    | some a, some b, some d, some f =>
      let top := a * (1 - fx) + b * fx
      let bot := d * (1 - fx) + f * fx
      some (mkRat (roundHalf ((top * (1 - fy) + bot * fy) * mkRat e 4096)) 1)
    | _, _, _, _ => none

/-- The terms of the motion detector over the samples of a block down to a line: their sum in 1/16 and their number
(R206). -/
def Scene.detectSums (c : Scene) (bx by_ last : Nat) : Nat × Nat :=
  let xs := (List.range 16).map fun i => 16 * bx + i
  let ys := ((List.range 16).map fun j => 16 * by_ + j).filter fun y => decide (y ≤ last ∧ y < c.f.height) && c.validLine y
  ys.foldl (fun s y => xs.foldl (fun (s : Nat × Nat) x =>
    if x ≥ c.f.width then s
    else
      match c.refAt ((x : Nat) : Int) ((y : Nat) : Int) with
      | none => s
      | some r =>
        let (v, w8) := c.merged x y
        let sg := c.sigma (r / 16) w8
        let d := absQ (((v : Nat) : Int) - r / 16)
        let t := if sg = 0 then 255 else min (16 * d / sg).floor.toNat 255
        (s.1 + t, s.2 + 1)) s) (0, 0)

/-- Z of a block for an output line, in U4.4; none where no sample was used (R206). -/
def Scene.detectZ (c : Scene) (bx by_ y : Nat) : Option Nat :=
  let (z, n) := c.detectSums bx by_ (min (y + 3) (16 * by_ + 15))
  if n = 0 then none else some (z / n)

/-- fb of a block for an output line (R206). -/
def Scene.blendFb (c : Scene) (x y : Nat) : Nat :=
  match c.detectZ (x / 16) (y / 16) y with
  | none => 0
  | some z =>
    let lo := c.fld (SL.TNRCTL_KLO 0)
    let hi := c.fld (SL.TNRCTL_KHI 0)
    if hi ≤ lo then 0 else clampN 256 (256 * ((hi : Int) - z) / ((hi - lo : Nat) : Int))

/-- Whether step 8 blends (R192, R195). -/
def Scene.tnrOn (c : Scene) : Bool := c.flag (SL.NRCTL_TNR_EN 0) && c.noise.isSome

/-- βcap of the frame (R198). -/
def Scene.betaCap (c : Scene) : Nat := c.fld (SL.TNRCTL_BMAX 0) * min c.f.tnr.n 8 / 8

/-- Step 8's output at (x, y) in 1/16 DN (R198). -/
def Scene.temporal (c : Scene) (x y : Nat) : Nat :=
  let s := c.spatial x y
  if !c.tnrOn || !c.validLine y then s
  else
    match c.refAt x y with
    | none => s
    | some r =>
      let beta := c.betaCap * c.blendFb x y / 256
      clampN (2 ^ 28 - 1) ((s : Int) + (beta * (r.floor - s) + 128) / 256)

/-- The poisoned words of the reference whose codes the frame fetches (R211): a pixel of the frame, displaced by the motion to its
four neighbours, lies in them. -/
def Scene.refPoison (c : Scene) : List Nat :=
  match c.f.ref with
  | none => []
  | some (base, _) =>
    let p : Int := cfaPeriod c.cfa
    let n := c.f.width * c.f.height
    let kx := p * ((-c.f.tnr.motx) / (16 * p))
    let ky := p * ((-c.f.tnr.moty) / (16 * p))
    let hit := fun (i : Nat) =>
      let u : Int := ((i % c.f.width : Nat) : Int) - kx
      let v : Int := ((i / c.f.width : Nat) : Int) - ky
      (c.inside u v || c.inside (u - p) v || c.inside u (v - p) || c.inside (u - p) (v - p))
    c.poison.filter fun w =>
      decide (base + 64 ≤ w + 7 ∧ w < base + 64 + ceilDiv (10 * n) 8)
        && ((List.range 9).map fun k => (8 * (w - (base + 64)) / 10 + k)).any fun i => decide (i < n ∧ 10 * i < 8 * (w + 8 - (base + 64))) && hit i

/-! ## The reference written (R207 to R209) -/

/-- aQ in U4.12 and bQ in U24.8 of the frame being written (R208). -/
def Scene.quant (c : Scene) : Nat × Nat :=
  let (a, b) := c.noise.getD (0, mkRat 1 4)
  let a := if c.f.hdr then a / 2 else a
  let b := if c.f.hdr then b / 2 else b
  let b := if b < mkRat 1 4 then mkRat 1 4 else b
  ((roundHalf (a * 4096)).toNat, (roundHalf (b * 256)).toNat)

/-- The code of a value in 1/16 DN; 1,023 is NOREF (R208). -/
def refEncode (aQ bQ : Rat) (v16 : Nat) : Nat :=
  let v := mkRat v16 16
  let t := if aQ = 0 then v / sqrtQ bQ else 2 / aQ * (sqrtQ (aQ * v + bQ) - sqrtQ bQ)
  let k := (roundHalf (t * 100 / 45)).toNat
  if k > 1022 then 1023 else k

/-- Codes packed ten bits each, little-endian (R207). -/
def packCodes (l : List Nat) : List Byte := leBytes (ceilDiv (10 * l.length) 8) (l.foldr (fun c a => c + 1024 * a) 0)

/-- The codes of one line as they are written (R208). -/
def Scene.refLine (c : Scene) (y : Nat) : List Nat :=
  let (a, b) := c.quant
  (List.range c.f.width).map fun x =>
    if c.validLine y then refEncode (mkRat a 4096) (mkRat b 256) (c.temporal x y) else 1023

/-- The 64-byte reference header (R209). -/
def Scene.refHeader (c : Scene) (valid : Bool) : List Byte :=
  let (a, b) := c.quant
  let f := c.f
  withCrc (layout [(4, f.fn), (2, f.width), (2, f.height), (1, c.cfa), (1, b2n f.hdr + 2 * b2n valid), (2, f.vlines),
    (4, f.expl), (8, f.tfirst), (2, f.gain), (2, a), (4, b), (2, unsigned 16 f.tnr.motx), (2, unsigned 16 f.tnr.moty),
    (4, f.gen), (20, 0)])

/-- The bytes of the reference of a frame: its data after the header (R207). -/
def Scene.refData (c : Scene) : List Byte := packCodes ((List.range c.f.height).flatMap c.refLine)

end Sys2Proof.Machine
end

