-- ==== Sys2Proof/Machine/PixelColour.lean ====
section
/-!
DEFINITION. The colour steps of the pixel path as functions of one frame: shading, white balance, demosaic, false-colour
suppression, the demosaic tap, separation, colour matrix, index, tone, gamma and colour space conversion
(spec/08_colour.md R223 to R241, spec/12_slice_engines.md R355).
-/
namespace Sys2Proof.Machine

/-- The largest U24.4 value in 1/16 DN. -/
def u24max : Nat := 2 ^ 28 - 1

/-! ## Steps 9 and 10 (R223 to R225) -/

/-- The mesh node below a position and the weight of the next one to 2^-12 (R224). -/
def meshPos (x w m : Nat) : Nat × Nat :=
  if w ≤ 1 ∨ m ≤ 1 then (0, 0)
  else
    let n := x * (m - 1)
    let i := min (n / (w - 1)) (m - 2)
    (i, (roundDiv ((n - i * (w - 1)) * 4096 : Nat) (w - 1)).toNat)

/-- The shading gain of a sample in U4.12 (R224). -/
def Scene.shadeGain (c : Scene) (x y : Nat) : Nat :=
  match c.mesh with
  | none => 4096
  | some (mx, my, g) =>
    let ch := if c.cfa = 5 then 0 else cfaCh c.cfa x y
    let (i, fx) := meshPos x c.f.width mx
    let (j, fy) := meshPos y c.f.height my
    let node := fun i j => g.getD (ch * mx * my + min j (my - 1) * mx + min i (mx - 1)) 4096
    let top := node i j * (4096 - fx) + node (i + 1) j * fx
    let bot := node i (j + 1) * (4096 - fx) + node (i + 1) (j + 1) * fx
    (roundDiv (top * (4096 - fy) + bot * fy : Nat) (4096 * 4096)).toNat

/-- A U24.4 value times a U4.12 gain (R224). -/
def gainMul (v g : Nat) : Nat := min ((v * g + 2048) / 4096) u24max

/-- A sample after step 9, where the statistics tap lies (R17, R224). -/
def Scene.shaded (c : Scene) (x y : Nat) : Nat :=
  let v := c.temporal x y
  if c.flag (SL.CLRCTL_SHD_EN 0) && !c.f.bypass.contains 0 then gainMul v (c.shadeGain x y) else v

/-- WB of a channel (R225). -/
def Scene.wb (c : Scene) (ch : Nat) : Nat := bitsOf (c.word (if ch < 2 then SL.WBG0 0 else SL.WBG1 0) >>> (16 * (ch % 2))) 15 0

/-- The mosaic sample after step 10, replicated beyond the frame (R215, R225). -/
def Scene.mosaic (c : Scene) (x y : Int) : Nat :=
  let p := cfaPeriod c.cfa
  let x' := replicate p c.f.width x
  let y' := replicate p c.f.height y
  let v := c.shaded x' y'
  if c.flag (SL.CLRCTL_WB_EN 0) then gainMul v (c.wb (cfaCh c.cfa x' y')) else v

/-! ## Step 11 (R226 to R230) -/

/-- The colour at a position that may lie outside the frame, by its phase. -/
def Scene.colourAt (c : Scene) (x y : Int) : Nat := c.colour (x % 4).toNat (y % 4).toNat

/-- Ĝ at a position, in 1/16 DN (R226, R228). -/
def Scene.green (c : Scene) (x y : Int) : Rat :=
  let p := fun (dx dy : Int) => (((c.mosaic (x + dx) (y + dy) : Nat) : Int) : Rat)
  if c.colourAt x y = 1 then p 0 0
  else
    let far := fun (dx dy : Int) => if c.cfa = 6 then (0 : Rat) else 2 * p 0 0 - p (-dx) (-dy) - p dx dy
    let one : Rat := if c.cfa = 6 then 2 else 1
    let dH := one * absQ (p (-1) 0 - p 1 0) + absQ (far 2 0)
    let dV := one * absQ (p 0 (-1) - p 0 1) + absQ (far 0 2)
    let gH := (p (-1) 0 + p 1 0) / 2 + far 2 0 / 4
    let gV := (p 0 (-1) + p 0 1) / 2 + far 0 2 / 4
    let t : Rat := ((256 - c.fld (SL.DMSCTL_EDGET 0) : Nat) : Int)
    if dH * 256 < dV * t then gH
    else if dV * 256 < dH * t then gV
    else if dH + dV = 0 then (gH + gV) / 2
    else (gH * dV + gV * dH) / (dH + dV)

/-- The sites of a colour around a position from which it is interpolated, with their weights (R227, R228). -/
def Scene.sites (c : Scene) (col : Nat) (x y : Int) : List (Int × Int × Rat) :=
  let r : Int := if c.cfa = 6 then 2 else 1
  let n := (2 * r + 1).toNat
  ((List.range (n * n)).map fun i => (((i % n : Nat) : Int) - r, ((i / n : Nat) : Int) - r)).filterMap fun (dx, dy) =>
    if (dx = 0 ∧ dy = 0) ∨ c.colourAt (x + dx) (y + dy) ≠ col then none
    else some (dx, dy, 1 / ((dx * dx + dy * dy : Int) : Rat))

/-- The plane of a colour at a pixel in 1/16 DN: 0 R, 1 G or C, 2 B, 3 N (R226 to R229).
The colour differences take the interpolated green exact, before it is rounded and clamped to its plane
(R227 leaves it open; DESIGN CHOICE, log entry 219). -/
def Scene.plane (c : Scene) (col : Nat) (x y : Nat) : Nat :=
  if c.cfa = 5 then c.mosaic x y
  else if c.colour x y = col then c.mosaic x y
  else
    let g := c.green x y
    if col = 1 then clampN u24max (roundHalf g)
    else
      let l := c.sites col x y
      let ws := l.foldl (fun (a : Rat) e => a + e.2.2) 0
      let ds := l.foldl (fun (a : Rat) e =>
        a + e.2.2 * ((((c.mosaic (x + e.1) (y + e.2.1) : Nat) : Int) : Rat) - c.green (x + e.1) (y + e.2.1))) 0
      clampN u24max (roundHalf (if ws = 0 then g else g + ds / ws))

/-- The colour difference of plane `col` against P1 at a position, replicated beyond the frame. -/
def Scene.diff (c : Scene) (col : Nat) (x y : Int) : Int :=
  let p := cfaPeriod c.cfa
  let x' := replicate p c.f.width x
  let y' := replicate p c.f.height y
  (c.plane col x' y' : Int) - c.plane 1 x' y'

/-- A plane after the false-colour suppressor (R230). -/
def Scene.suppressed (c : Scene) (col : Nat) (x y : Nat) : Nat :=
  let v := c.plane col x y
  if !c.flag (SL.CLRCTL_FCS_EN 0) || c.cfa == 5 || col == 1 || col == 3 then v
  else
    let d := c.diff col x y
    let med := median ((List.range 9).map fun i => c.diff col (x + ((i % 3 : Nat) : Int) - 1) (y + ((i / 3 : Nat) : Int) - 1))
    clampN u24max ((c.plane 1 x y : Int) + d + (c.fld (SL.DMSCTL_FCS 0) * (med - d) + 128) / 256)

/-! ## The demosaic tap (R355) -/

/-- WHITE of the frame, 0 taken as 1 (R239). -/
def Scene.white (c : Scene) : Nat := max 1 (c.fld (SL.TONEW_WHITE 0))

/-- A sample as the demosaic tap presents it (R355). -/
def Scene.tapPop (c : Scene) (col x y : Nat) : Nat := min (c.suppressed col x y * 2048 / c.white) 65535

/-- The key of a plane's samples returned at a tap for a line. -/
def tapKey (tap plane line : Nat) : Nat := (8 * tap + plane) * 65536 + line

/-- A plane after the demosaic tap: a pushed sample where a kernel returned one (R355). -/
def Scene.tapped (c : Scene) (col x y : Nat) : Nat :=
  match (c.f.taps.get (tapKey 0 col y) []).drop x with
  | p :: _ => min ((p * c.white * 16 + 16384) / 32768) u24max
  | [] => c.suppressed col x y

/-! ## Step 12 (R231, R232) -/

/-- A 16-bit signed coefficient of a run of registers, two to a word. -/
def Scene.coef (c : Scene) (a n : Nat) : Int := signed 16 (c.word (a + 4 * (n / 2)) >>> (16 * (n % 2)))

/-- Vi of R231. -/
def Scene.separated (c : Scene) (i x y : Nat) : Nat :=
  if c.cfa = 6 ∧ c.flag (SL.CLRCTL_SEP_EN 0) ∧ !c.f.bypass.contains 3 then
    let s := (List.range 4).foldl (fun (a : Int) j => a + c.coef (SL.SEP 0 0) (4 * i + j) * c.tapped j x y) 0
    clampN u24max (roundDiv s 4096)
  else c.tapped i x y

/-- The linear output Li; L3 is N (R232). -/
def Scene.linear (c : Scene) (i x y : Nat) : Nat :=
  if i = 3 then c.tapped 3 x y
  else if c.cfa ≠ 5 ∧ c.flag (SL.CLRCTL_CCM_EN 0) ∧ !c.f.bypass.contains 3 then
    let s := (List.range 3).foldl (fun (a : Int) j => a + c.coef (SL.CCM 0 0) (3 * i + j) * c.separated j x y) 0
    clampN u24max (roundDiv (s + 4096 * signed 24 (c.word (SL.CCMOFS 0 i))) 4096)
  else c.separated i x y

/-! ## Step 13 (R234 to R236) -/

/-- A linear plane normalised by WHITE (R234). -/
def Scene.normed (c : Scene) (i x y : Nat) : Nat := min (c.linear i x y * 4096 / c.white) 131071

/-- An index input (R234). -/
def Scene.idxInput (c : Scene) (sel x y : Nat) : Nat :=
  if sel ≤ 3 then c.normed sel x y else min (c.normed 0 x y + c.normed 1 x y + c.normed 2 x y) 131071

/-- The index of a quotient of R235 with its bias, scale and limits; none is NOVAL. -/
def indexOf (num den : Int) (dmin oscale : Nat) (oofs lim : Int) : Option Int :=
  if den.natAbs < dmin * 4096 ∨ den = 0 then none
  else
    let num := if den < 0 then -num else num
    let d := den.natAbs
    some (clamp (-lim) lim ((2 * num * oscale + d) / ((2 * d : Nat) : Int) + oofs))

/-- The index at a pixel as an integer, NOVAL included (R235, R236). -/
def Scene.index (c : Scene) (x y : Nat) : Int :=
  let wide := c.flag (SL.IDXSEL_W16 0)
  let noval : Int := if wide then -32768 else -128
  if !c.flag (SL.CLRCTL_IDX_EN 0) || c.f.bypass.contains 3 then noval
  else
    let xn : Int := c.idxInput (c.fld (SL.IDXSEL_XSEL 0)) x y
    let yn : Int := c.idxInput (c.fld (SL.IDXSEL_YSEL 0)) x y
    let k := fun (f : Fld) => signed 16 (c.fld f)
    let num := k (SL.IDXNUM_A 0) * xn + k (SL.IDXNUM_B 0) * yn + k (SL.IDXNUM2_C 0) * 65536
    let den := k (SL.IDXDEN_D 0) * xn + k (SL.IDXDEN_E 0) * yn + k (SL.IDXDEN2_F 0) * 65536
    (indexOf num den (c.fld (SL.IDXDEN2_DMIN 0)) (c.fld (SL.IDXSEL_OSCALE 0)) (k (SL.IDXOFS_OOFS 0))
      (if wide then 32767 else 127)).getD noval

/-! ## Step 14 (R238 to R240) -/

/-- The tone lookup of R239 through a table, for a value in 1/16 DN. -/
def toneLookup (t : Nat → Nat) (white v : Nat) : Nat :=
  let xi := min (v * 2 ^ 20 / white) (2 ^ 24 - 1)
  let s := if xi < 2 ^ 17 then 0 else xi.log2 - 16
  let width := if s = 0 then 2 ^ 12 else 2 ^ (s + 11)
  let base := if s = 0 then 0 else 2 ^ (s + 16)
  let m := (xi - base) / width
  let k := 32 * s + m
  ((t k : Int) + (((t (k + 1) : Int) - t k) * ((xi - base - m * width : Nat) : Int) + ((width / 2 : Nat) : Int)) / (width : Int)).toNat

/-- Entry k of the tone table in force (R239, R244). -/
def Scene.tone (c : Scene) (k : Nat) : Nat :=
  if c.flag (SL.CLRCTL_TONE_EN 0) && !c.f.bypass.contains 2 then c.word (SL.TLUT 0 k) % 65536 else toneDefault k

/-- The greatest n below 2^bits with a test true at n, the test falling from true to false. -/
def greatestBit (p : Nat → Bool) : Nat → Nat → Nat
  | 0, n => n
  | b + 1, n => if p (n + 2 ^ b) then greatestBit p b (n + 2 ^ b) else greatestBit p b n

/-- (E / 65,535)^(num / den) in units of 2^-48, rounded down. -/
def powerQ (num den e : Nat) : Nat := greatestBit (fun y => decide (y ^ den * 65535 ^ num ≤ e ^ num * 2 ^ (48 * den))) 49 0

/-- The transfer function of R240 on a code, exact before its last rounding. -/
def gammaExact (g e : Nat) : Rat :=
  let x := mkRat e 65535
  if g = 1 then
    if x < mkRat 18 1000 then mkRat 45 10 * x else mkRat 1099 1000 * mkRat (powerQ 9 20 e) (2 ^ 48) - mkRat 99 1000
  else if g = 2 then
    if x ≤ mkRat 31308 10000000 then mkRat 1292 100 * x else mkRat 1055 1000 * mkRat (powerQ 5 12 e) (2 ^ 48) - mkRat 55 1000
  else x

/-- The transfer function of R240 on a code: a code within ±1 LSB of the function's value, which one a free value; the
linear one is exact (log entry 3). -/
def gammaOf (g e : Nat) : Nat :=
  let v := 65535 * gammaExact g e
  if g = 1 ∨ g = 2 then clampN 65535 (clamp (v - 1).ceil (v + 1).floor (v.floor + Config.slack g e)) else e

/-- A linear plane after step 14 in U0.16: 0 to 2 the colours, 3 N (R239, R240). -/
def Scene.toned (c : Scene) (i x y : Nat) : Nat :=
  let v := c.linear i x y
  if i = 3 ∧ c.flag (SL.CLRCTL_NIRBYP 0) then min (v * 4096 / c.white) 65535
  else gammaOf (c.fld (SL.CLRCTL_GAMMA 0)) (toneLookup c.tone c.white v)

/-! ## Step 15 (R241) -/

/-- Coefficients of the luma of a standard, and the two chroma divisors (R241). -/
def cscCoef (std : Nat) : Rat × Rat × Rat × Rat × Rat :=
  if std = 0 then (mkRat 2126 10000, mkRat 7152 10000, mkRat 722 10000, mkRat 18556 10000, mkRat 15748 10000)
  else (mkRat 299 1000, mkRat 587 1000, mkRat 114 1000, mkRat 1772 1000, mkRat 1402 1000)

/-- Y, Cb or Cr of three codes (R241): 0, 1, 2. -/
def cscOf (std range which r g b : Nat) : Nat :=
  let (kr, kg, kb, db, dr) := cscCoef std
  let q := fun n : Nat => mkRat n 65535
  let y := kr * q r + kg * q g + kb * q b
  let v : Rat :=
    if which = 0 then (if range = 0 then 65535 * y else 256 * (219 * y + 16))
    else
      let cx := if which = 1 then (q b - y) / db else (q r - y) / dr
      if range = 0 then 32768 + 65535 * cx else 256 * (224 * cx + 128)
  clampN 65535 (roundHalf v)

/-- The planes step 15 passes on, by the scaler tap's plane codes: 0 Y, 1 Cb, 2 Cr, 3 R', 4 G', 5 B', 6 N, 7 index
(R241, R280, R347). The index is its integer modulo 2^16. -/
def Scene.out15 (c : Scene) (pl x y : Nat) : Nat :=
  if pl ≤ 2 then
    cscOf (c.fld (SL.CLRCTL_CSC_STD 0)) (c.fld (SL.CLRCTL_RANGE 0)) pl (c.toned 0 x y) (c.toned 1 x y) (c.toned 2 x y)
  else if pl ≤ 6 then c.toned (pl - 3) x y
  else unsigned 16 (c.index x y)

end Sys2Proof.Machine
end

