-- ==== Sys2Proof/Machine/PixelOut.lean ====
section
/-!
DEFINITION. The warp and the four crop-and-scale outputs as functions of one frame: warp source planes, mesh, samplers,
scaler, and the bytes of an output line (spec/09_geometry_lattice.md R247 to R257, spec/10_outputs.md R280 to R290).
-/
namespace Sys2Proof.Machine

/-! ## Warp source planes (R247, R248) -/

/-- Bytes per pixel of a warp source plane. -/
def planeB (bitno : Nat) : Nat := [2, 4, 4, 1, 1, 2, 1, 2].getD bitno 0

/-- The warp source planes the warped outputs and the lattice of a camera need under a set (R247, R259, R281). -/
def CfgSet.wplanes (c : CfgSet) (p : Nat) : Nat :=
  let fmts := if CfgSet.flag c 2 p (SL.WCTL_WARP_EN 0) then
      ((List.range 4).filter fun k => CfgSet.flag c 3 (sidOf p k) (SL.OCTL_EN 0 k)).map (CfgSet.fmtOf c p)
    else []
  let lats := ((List.range 8).filter fun n => CfgSet.latDefined c n && (List.range 32).any fun i =>
    CfgSet.fld c 4 n (LTS.CPORT_PORT 0 i) == p).map fun n => CfgSet.fld c 4 n (LT.LCTL_LFMT 0)
  let has := fun l : List Nat => fmts.any l.contains
  let lat := fun l : List Nat => lats.any l.contains
  let yc8 := has [1, 3] || lat [0]
  let m := fun (b : Bool) (i : Nat) => if b then 2 ^ i else 0
  m yc8 0 + m (has [2, 4, 7]) 1 + m (has [5]) 2 + m ((has [6] || lat [1, 2]) && !yc8) 3 + m (has [8] || lat [2]) 4
    + m (has [9]) 5 + m (has [0xA] || lat [1]) 6 + m (has [0xB] || lat [3]) 7

/-- Bytes per source pixel over the planes present: B of R247. -/
def planesB (planes : Nat) : Nat := ((List.range 8).map fun i => if bit planes i then planeB i else 0).foldl (· + ·) 0

/-- Offset of a plane in a warp source buffer (R248). -/
def planeOff (planes sw sh : Nat) : Nat → Nat
  | 0 => padTo 4096 (64 + padTo 64 sh)
  | n + 1 => if bit planes n then padTo 4096 (planeOff planes sw sh n + sh * padTo 64 (sw * planeB n)) else planeOff planes sw sh n

/-- Bytes of a warp source buffer before rounding (R248). -/
def warpBufBytes (planes sw sh : Nat) : Nat := planeOff planes sw sh 8

/-- A 16-bit code reduced to 8 or 10 bits (R247, R282). -/
def to8 (v : Nat) : Nat := min ((v + 128) / 256) 255
def to10 (v : Nat) : Nat := min ((v + 32) / 64) 1023

/-- The bytes of a pixel in a plane (R247). -/
def Scene.planeBytes (c : Scene) (bitno x y : Nat) : List Byte :=
  let o := fun pl x => c.out15 pl x y
  let chroma := o (if x % 2 = 0 then 1 else 2) (x - x % 2)
  match bitno with
  | 0 => leBytes 1 (to8 (o 0 x)) ++ leBytes 1 (to8 chroma)
  | 1 => leBytes 2 (64 * to10 (o 0 x)) ++ leBytes 2 (64 * to10 chroma)
  | 2 => leBytes 1 (to8 (o 3 x)) ++ leBytes 1 (to8 (o 4 x)) ++ leBytes 1 (to8 (o 5 x)) ++ [0]
  | 3 => leBytes 1 (to8 (o 0 x))
  | 4 => leBytes 1 (to8 (o 6 x))
  | 5 => leBytes 2 (o 6 x)
  | 6 => leBytes 1 (o 7 x)
  | _ => leBytes 2 (o 7 x)

/-- The writes of line y of a frame into its warp source buffer: (offset, bytes) (R248). -/
def Scene.warpLine (c : Scene) (planes y : Nat) : List (Nat × List Byte) :=
  let f := c.f
  (64 + y, leBytes 1 (f.lstate y)) :: ((List.range 8).filter (bit planes)).map fun i =>
    let l := (List.range f.width).flatMap fun x => c.planeBytes i x y
    (planeOff planes f.width f.height i + y * padTo 64 (f.width * planeB i), bytesAt l 0 (padTo 64 l.length))

/-- The 64-byte header of a warp source buffer (R248). -/
def Frame.warpHeader (f : Frame) (planes hgain lwr : Nat) (valid : Bool) : List Byte :=
  withCrc (layout [(4, f.fn), (2, f.width), (2, f.height), (1, planes), (1, b2n valid + 2 * b2n (f.closed && f.damaged)), (2, lwr),
    (2, f.vlines), (2, hgain), (8, f.tfirst), (4, f.linet), (4, f.gen), (4, f.expl), (4, f.integ), (20, 0)])

/-! ## The mesh (R250, R251) -/

/-- Node (i, j) of a warp mesh: SX and SY in 2^-16 pixels; none for NOSRC (R250). -/
def meshNode (m : List Byte) (i j : Nat) : Option (Int × Int) :=
  let o := 8 * (65 * j + i)
  let sx := fieldAt m o 4
  if sx = 0x80000000 then none else some (signed 32 sx, signed 32 (fieldAt m (o + 4) 4))

/-- The source position of an output point of a mesh, in 1/256 pixels; none for NOSRC (R251). The point may lie between
pixels, as a lattice takes it. -/
def meshAt (m : List Byte) (ow oh : Nat) (x y : Rat) : Option (Int × Int) :=
  let sx := 64 * x / ((max (ow - 1) 1 : Nat) : Int)
  let sy := 48 * y / ((max (oh - 1) 1 : Nat) : Int)
  let i := min sx.floor.toNat 63
  let j := min sy.floor.toNat 47
  let fx := sx - ((i : Nat) : Int)
  let fy := sy - ((j : Nat) : Int)
  match meshNode m i j, meshNode m (i + 1) j, meshNode m i (j + 1), meshNode m (i + 1) (j + 1) with
  | some a, some b, some c, some d =>
    let mix := fun (p q r s : Int) =>
      roundHalf (((p : Rat) * (1 - fx) * (1 - fy) + q * fx * (1 - fy) + r * (1 - fx) * fy + s * fx * fy) / 256)
    some (mix a.1 b.1 c.1 d.1, mix a.2 b.2 c.2 d.2)
  | _, _, _, _ => none

/-- The identity mesh (R257). -/
def identityAt (sw sh ow oh : Nat) (x y : Rat) : Int × Int :=
  (roundHalf (256 * x * ((sw - 1 : Nat) : Int) / ((max (ow - 1) 1 : Nat) : Int)),
   roundHalf (256 * y * ((sh - 1 : Nat) : Int) / ((max (oh - 1) 1 : Nat) : Int)))

/-- Whether a source position in 1/256 pixels is in-source (R253). -/
def inSource (sw sh : Nat) (s : Int × Int) : Bool :=
  decide (0 ≤ s.1 ∧ s.1 ≤ 256 * ((sw : Int) - 1) ∧ 0 ≤ s.2 ∧ s.2 ≤ 256 * ((sh : Int) - 1))

/-! ## Sampling (R252) -/

/-- Bilinear sampling at a position in 1/256, taps replicated at the edges; none where a tap is poisoned (R252, R257). -/
def bilinear (get : Int → Int → Option Nat) (sx sy : Int) : Option Nat :=
  let x := sx / 256
  let y := sy / 256
  let fx := sx % 256
  let fy := sy % 256
  match get x y, get (x + 1) y, get x (y + 1), get (x + 1) (y + 1) with
  | some a, some b, some c, some d =>
    some (((256 - fx) * (256 - fy) * a + fx * (256 - fy) * b + (256 - fx) * fy * c + fx * fy * d + 32768) / 65536).toNat
  | _, _, _, _ => none

/-- Bicubic sampling, the fractions taken to 1/64 (R252); `top` is the greatest code of the plane. -/
def bicubic (get : Int → Int → Option Nat) (top : Nat) (sx sy : Int) : Option Nat :=
  let x := sx / 256
  let y := sy / 256
  let wx := catmull ((sx % 256) / 4).toNat
  let wy := catmull ((sy % 256) / 4).toNat
  let taps := (List.range 16).map fun i => (get (x - 1 + (i % 4 : Nat)) (y - 1 + (i / 4 : Nat)), wx.getD (i % 4) 0 * wy.getD (i / 4) 0)
  if taps.any fun t => t.1.isNone then none
  else some (clampN top (roundDiv (taps.foldl (fun (a : Int) t => a + t.2 * (t.1.getD 0)) 0) (4096 * 4096)))

/-! ## Reading a warp source buffer -/

/-- A source for sampling: memory, poison, and a buffer's address, size and planes. -/
structure WSrc where
  mem : List Host.Cell
  poison : List Nat
  base : Nat
  sw : Nat
  sh : Nat
  planes : Nat
  deriving DecidableEq, Repr

/-- n bytes of a plane's line at an offset within it; none where a word is poisoned. -/
def WSrc.read (w : WSrc) (bitno y off n : Nat) : Option Nat :=
  let a := w.base + planeOff w.planes w.sw w.sh bitno + y * padTo 64 (w.sw * planeB bitno) + off
  if (wordsOf a n).any fun x => w.poison.contains x then none else some (leNat (Memory.getList w.mem a n))

/-- A coordinate held within 0 to n − 1. -/
def hold (n : Nat) (x : Int) : Nat := (clamp 0 ((n : Int) - 1) x).toNat

/-- The component a plane code of the scaler tap is in a warp source plane: a reader of its code by position in its own
grid, and the greatest code (R247). -/
def WSrc.comp (w : WSrc) (bitno pl : Nat) (x y : Int) : Option Nat :=
  let y' := hold w.sh y
  let half := hold ((w.sw + 1) / 2) x
  let x' := hold w.sw x
  match bitno, pl with
  | 0, 0 => w.read 0 y' (2 * x') 1
  | 0, 1 => w.read 0 y' (4 * half + 1) 1
  | 0, _ => w.read 0 y' (if 2 * half + 1 < w.sw then 4 * half + 3 else 4 * half + 1) 1
  | 1, 0 => (w.read 1 y' (4 * x') 2).map (· / 64)
  | 1, 1 => (w.read 1 y' (8 * half + 2) 2).map (· / 64)
  | 1, _ => (w.read 1 y' (if 2 * half + 1 < w.sw then 8 * half + 6 else 8 * half + 2) 2).map (· / 64)
  | 2, _ => w.read 2 y' (4 * x' + (pl - 3)) 1
  | 3, _ => w.read 3 y' x' 1
  | 4, _ => w.read 4 y' x' 1
  | 5, _ => w.read 5 y' (2 * x') 2
  | 6, _ => w.read 6 y' x' 1
  | _, _ => w.read 7 y' (2 * x') 2

/-- What an 8-bit, 10-bit or 16-bit code counts in 16-bit codes, and the greatest code, for a plane (R280). -/
def planeUnit (bitno : Nat) : Nat × Nat := if bitno = 1 then (64, 1023) else if bitno = 5 ∨ bitno = 7 then (1, 65535) else (256, 255)

/-! ## Step 16 (R250 to R257) -/

/-- Whether the frame's camera is warped, and the size its outputs take as input (R250, R280). -/
def Scene.warped (c : Scene) : Bool := c.flag (SL.WCTL_WARP_EN 0)
def Scene.inW (c : Scene) : Nat := if c.warped then c.fld (SL.WOSIZE_OW 0) else c.f.width
def Scene.inH (c : Scene) : Nat := if c.warped then c.fld (SL.WOSIZE_OH 0) else c.f.height

/-- The warp mesh of the frame's camera. -/
def Scene.warpMesh (c : Scene) : List Byte := CfgSet.item c.f.set 2 c.port 0x8004 []

/-- The source position of a warp output point (R251, R257). -/
def Scene.warpPos (c : Scene) (x y : Nat) : Option (Int × Int) :=
  if c.f.bypass.contains 4 then some (identityAt c.f.width c.f.height c.inW c.inH ((x : Int) : Rat) ((y : Int) : Rat))
  else meshAt c.warpMesh c.inW c.inH ((x : Int) : Rat) ((y : Int) : Rat)

/-- The border value of a plane as a 16-bit code (R253, R277). -/
def Scene.border (c : Scene) (pl : Nat) : Nat :=
  if pl = 1 ∨ pl = 2 then c.fld (SL.WBORDER_BC 0)
  else if pl = 6 then c.fld (SL.WBORDER2_BN 0)
  else if pl = 7 then (if c.flag (SL.IDXSEL_W16 0) then 0x8000 else 0xFF80)
  else c.fld (SL.WBORDER_BY 0)

/-- The source buffer of the frame. -/
def Scene.wsrc (c : Scene) : WSrc :=
  ⟨c.mem, c.poison, c.f.warpBuf.getD 0, c.f.width, c.f.height, c.f.planes⟩

/-- The warp source plane that a plane code is read from for a format (R281). -/
def planeFor (planes fmt pl : Nat) : Nat :=
  if pl = 6 then (if fmt = 9 then 5 else 4)
  else if pl = 7 then (if fmt = 0xB then 7 else 6)
  else if pl ≥ 3 then 2
  else if fmt = 2 ∨ fmt = 4 ∨ fmt = 7 then 1
  else if bit planes 0 then 0
  else 3

/-- A sample of a plane after step 16 at a point of the plane's own grid, as a 16-bit code; border values once the frame is late
(R252, R253, R256, R257, R280). -/
def Scene.warpSample (c : Scene) (fmt pl x y : Nat) : Nat :=
  let chroma := pl = 1 ∨ pl = 2
  let s := if c.f.warpLate then none else c.warpPos (if chroma then 2 * x else x) y
  let bn := planeFor c.f.planes fmt pl
  let (unit_, top) := planeUnit bn
  let w := c.wsrc
  match s with
  | none => c.border pl
  | some s =>
    if !inSource w.sw w.sh s && !c.flag (SL.WCTL_BMODE 0) then c.border pl
    else
      let sx := clamp 0 (256 * ((w.sw : Int) - 1)) s.1
      let sy := clamp 0 (256 * ((w.sh : Int) - 1)) s.2
      if pl = 7 then
        match w.comp bn 7 ((sx + 128) / 256) ((sy + 128) / 256) with
        | some v => if bn = 6 then unsigned 16 (signed 8 v) else v
        | none => c.border 7
      else
        let sx := if chroma then (sx + 1) / 2 else sx
        let v := if c.flag (SL.WCTL_BICUBIC 0) then bicubic (w.comp bn pl) top sx sy else bilinear (w.comp bn pl) sx sy
        match v with
        | some v => v * unit_
        | none => c.border pl

/-! ## The tile cache (R254) -/

/-- A tile fetched through a cache of so many entries, most recently used first, and whether it missed (R254). -/
def touch (n : Nat) (cache : List Nat) (t : Nat) : List Nat × Bool :=
  if cache.contains t then (t :: cache.filter (· != t), false) else ((t :: cache).take n, true)

/-- The byte offsets in its line, with the lines, that the sampler reads of a plane for a source position in 1/256 px (R247, R252). -/
def Scene.tapBytes (c : Scene) (bn : Nat) (sp : Int × Int) : List (Nat × Nat) :=
  let w := c.wsrc
  let cubic := c.flag (SL.WCTL_BICUBIC 0)
  let lo : Int := if cubic then -1 else 0
  let n := if cubic then 4 else 2
  let b := planeB bn
  if bn = 6 ∨ bn = 7 then [(hold w.sw ((sp.1 + 128) / 256) * b, hold w.sh ((sp.2 + 128) / 256))]
  else
    (List.range n).flatMap fun j =>
      let y := hold w.sh (sp.2 / 256 + lo + (j : Nat))
      let luma := (List.range n).map fun i => (hold w.sw (sp.1 / 256 + lo + (i : Nat)) * b, y)
      let chroma := if bn ≤ 1 then (List.range n).map fun i => (hold ((w.sw + 1) / 2) ((sp.1 + 1) / 2 / 256 + lo + (i : Nat)) * (2 * b) + b / 2, y) else []
      luma ++ chroma

/-- What step 16 reads for output pixel (x, y): each read's plane, byte offset in the line, and line (R252, R253). -/
def Scene.readsAt (c : Scene) (x y : Nat) : List (Nat × Nat × Nat) :=
  let w := c.wsrc
  match c.warpPos x y with
  | none => []
  | some sp =>
    if !inSource w.sw w.sh sp && !c.flag (SL.WCTL_BMODE 0) then []
    else
      let sp := (clamp 0 (256 * ((w.sw : Int) - 1)) sp.1, clamp 0 (256 * ((w.sh : Int) - 1)) sp.2)
      ((List.range 8).filter (bit c.f.planes)).flatMap fun b => (c.tapBytes b sp).map fun e => (b, e.1, e.2)

/-- The tile of a read: plane, tile row and tile column (R254). -/
def tileOf (e : Nat × Nat × Nat) : Nat := e.1 * 2 ^ 32 + e.2.2 / 8 * 2 ^ 16 + e.2.1 / 64

/-- The tiles fetched for the warp output of a frame, in raster order through the 120 entries that are not kept for prefetch, and the
poisoned words read (R254, R257; DESIGN CHOICE, log entry 90). -/
def Scene.warpFetch (c : Scene) : Nat × List Nat :=
  let w := c.wsrc
  let word := fun (e : Nat × Nat × Nat) => (w.base + planeOff w.planes w.sw w.sh e.1 + e.2.2 * padTo 64 (w.sw * planeB e.1) + e.2.1) / 8 * 8
  let step := fun (a : List Nat × Nat × List Nat) (e : Nat × Nat × Nat) =>
    let r := touch 120 a.1 (tileOf e)
    let bad := if w.poison.contains (word e) && !a.2.2.contains (word e) then word e :: a.2.2 else a.2.2
    (r.1, a.2.1 + (if r.2 then 1 else 0), bad)
  let r := (List.range c.inH).foldl (fun a y => (List.range c.inW).foldl (fun a x => (c.readsAt x y).foldl step a) a) ([], 0, [])
  r.2

/-- A plane as it enters the scaler: the samples a kernel returned at the scaler tap, else step 16 or step 15 (R280,
R355). -/
def Scene.input (c : Scene) (fmt pl x y : Nat) : Nat :=
  match (c.f.taps.get (tapKey 1 pl y) []).drop x with
  | v :: _ => v
  | [] => if c.warped then c.warpSample fmt pl x y else c.out15 pl x y

/-! ## Scaling one axis (R285 to R288) -/

/-- Pre-decimation of an axis: extent in, extent out (R286). -/
def preK (e d : Nat) : Nat := if e ≤ 2 * d then 0 else if e ≤ 4 * d then 1 else if e ≤ 8 * d then 2 else 3

/-- Pre-decimated sample m of a cropped line of extent e (R286). -/
def boxed (get : Nat → Nat) (e k m : Nat) : Nat :=
  let s := (List.range (2 ^ k)).foldl (fun a i => a + get (min (m * 2 ^ k + i) (e - 1))) 0
  (s + 2 ^ k / 2) / 2 ^ k

/-- Phase and whole part of a position xp (R287). -/
def phaseOf (xp : Rat) : Nat × Int :=
  let phi := (64 * (xp - xp.floor) + mkRat 1 2).floor.toNat
  if phi = 64 then (0, xp.floor + 1) else (phi, xp.floor)

/-- One output sample of an axis: samples of the crop, extents, position relative to the crop, taps of each phase and the
first tap's offset (R286, R287). -/
def scaleAxis (get : Nat → Nat) (e d : Nat) (rel : Rat) (coef : Nat → List Int) (first : Int) : Nat :=
  let k := preK e d
  let n := ceilDiv e (2 ^ k)
  let (phi, x) := phaseOf ((rel + mkRat 1 2) / ((2 ^ k : Nat) : Int) - mkRat 1 2)
  let ws := coef phi
  let s := (List.range ws.length).foldl (fun (a : Int) i => a + ws.getD i 0 * boxed get e k (hold n (x + first + i))) 0
  clampN 65535 ((s + 2048) / 4096)

/-- An output's geometry and formats, from the frame's set. -/
structure OutGeo where
  k : Nat
  fmt : Nat
  cx : Nat
  cy : Nat
  cw : Nat
  ch : Nat
  dw : Nat
  dh : Nat
  deriving DecidableEq, Repr

/-- The geometry of output k of a frame (R305). -/
def Scene.geo (c : Scene) (k : Nat) : OutGeo :=
  let w0 := CfgSet.crop0 c.f.set c.port k
  let w1 := CfgSet.crop1 c.f.set c.port k
  ⟨k, CfgSet.fmtOf c.f.set c.port k, bitsOf w0 13 0, bitsOf w0 29 16, bitsOf w1 13 0, bitsOf w1 29 16,
   CfgSet.dwOf c.f.set c.port k, CfgSet.dhOf c.f.set c.port k⟩

/-- The horizontal taps of a phase of an output (R287, R288, R306). -/
def Scene.hTaps (c : Scene) (g : OutGeo) (phi : Nat) : List Int :=
  let sid := sidOf c.port g.k
  if CfgSet.flag c.f.set 3 sid (SL.OCTL_DEFCOEF 0 g.k) then defaultH (g.dw * 2 ^ preK g.cw g.dw) g.cw phi
  else (List.range 8).map fun t =>
    let w := (CfgSet.word c.f.set 3 sid (SL.HCOEF 0 (g.k * 256 + phi * 4 + t / 2))).toNat
    signed 16 (w >>> (16 * (t % 2)))

/-- The vertical taps of a phase of an output. -/
def Scene.vTaps (c : Scene) (g : OutGeo) (phi : Nat) : List Int :=
  let sid := sidOf c.port g.k
  if CfgSet.flag c.f.set 3 sid (SL.OCTL_DEFCOEF 0 g.k) then defaultV (g.dh * 2 ^ preK g.ch g.dh) g.ch phi
  else (List.range 4).map fun t =>
    let w := (CfgSet.word c.f.set 3 sid (SL.VCOEF 0 (g.k * 128 + phi * 2 + t / 2))).toNat
    signed 16 (w >>> (16 * (t % 2)))

/-- Source coordinate of an output coordinate p, given in half pixels, on an axis (R285). -/
def srcCoord (c0 e d p2 : Nat) : Rat := ((c0 : Nat) : Int) + (mkRat (p2 + 1 : Nat) 2) * mkRat e d - mkRat 1 2

/-- A scaled sample of a plane at sample (i, j) of the plane's own output grid (R285 to R289). -/
def Scene.scaled (c : Scene) (g : OutGeo) (pl i j : Nat) : Nat :=
  let sub := fmtIs42x g.fmt && (pl == 1 || pl == 2)
  let sub2 := fmtIs420 g.fmt && (pl == 1 || pl == 2)
  let halfIn := c.warped && (pl == 1 || pl == 2)
  let xl := srcCoord g.cx g.cw g.dw (if sub then 4 * i else 2 * i)
  let yl := srcCoord g.cy g.ch g.dh (if sub2 then 4 * j + 1 else 2 * j)
  if pl = 7 then
    c.input g.fmt 7 (hold c.inW (xl + mkRat 1 2).floor) (hold c.inH (yl + mkRat 1 2).floor)
  else
    let cx := if halfIn then g.cx / 2 else g.cx
    let cw := if halfIn then g.cw / 2 else g.cw
    let x := if halfIn then xl / 2 else xl
    let row := fun y => scaleAxis (fun m => c.input g.fmt pl (cx + m) (g.cy + y)) cw (if sub then g.dw / 2 else g.dw)
      (x - ((cx : Nat) : Int)) (c.hTaps g) (-3)
    scaleAxis row g.ch (if sub2 then g.dh / 2 else g.dh) (yl - ((g.cy : Nat) : Int)) (c.vTaps g) (-1)

/-! ## Output lines (R281 to R283, R290) -/

/-- Nearest ingest line of the centre of output line j, before the warp (R283). -/
def OutGeo.centre (g : OutGeo) (j : Nat) : Nat := (roundHalf (srcCoord g.cy g.ch g.dh (2 * j))).toNat

/-- The ingest line whose time and state the prefix of output line j carries; none at a NOSRC centre (R283). -/
def Scene.prefixLine (c : Scene) (g : OutGeo) (j : Nat) : Option Nat :=
  if g.fmt = 0xC then some (g.cy + (if c.f.hdr then j / 2 else j))
  else if c.warped then (c.warpPos ((c.inW - 1) / 2) (g.centre j)).map fun s => hold c.f.height ((s.2 + 128) / 256)
  else some (hold c.f.height (g.centre j))

/-- Time and LSTATE of the prefix of an output line: of the line before where its own centre is NOSRC (R283). -/
def Scene.prefixOf (c : Scene) (g : OutGeo) : Nat → Nat × Nat
  | 0 => match c.prefixLine g 0 with
    | some n => (c.f.time n, c.f.lstate n)
    | none => (c.f.tfirst, 0)
  | j + 1 => match c.prefixLine g (j + 1) with
    | some n => (c.f.time n, c.f.lstate n)
    | none => c.prefixOf g j

/-- The payload of output line j (R281, R282, R290). -/
def Scene.payload (c : Scene) (g : OutGeo) (j : Nat) : List Byte :=
  let row := fun pl n => (List.range n).map fun i => c.scaled g pl i j
  let crow := fun jj => (List.range (g.dw / 2)).flatMap fun i => [c.scaled g 1 i jj, c.scaled g 2 i jj]
  let b8 := fun l : List Nat => l.flatMap fun v => leBytes 1 (to8 v)
  let b10 := fun l : List Nat => l.flatMap fun v => leBytes 2 (64 * to10 v)
  let odd := fun f : List Nat → List Byte => if j % 2 = 1 then f (crow ((j - 1) / 2)) else []
  let mix := fun f : List Nat → List Byte => f ((List.range (g.dw / 2)).flatMap fun i =>
    [c.scaled g 0 (2 * i) j, c.scaled g 1 i j, c.scaled g 0 (2 * i + 1) j, c.scaled g 2 i j])
  match g.fmt with
  | 1 => b8 (row 0 g.dw) ++ odd b8
  | 2 => b10 (row 0 g.dw) ++ odd b10
  | 3 => mix b8
  | 4 => mix b10
  | 5 => b8 ((List.range g.dw).flatMap fun i => [c.scaled g 3 i j, c.scaled g 4 i j, c.scaled g 5 i j])
  | 6 => b8 (row 0 g.dw)
  | 7 => b10 (row 0 g.dw)
  | 8 => b8 (row 6 g.dw)
  | 9 => (row 6 g.dw).flatMap (leBytes 2)
  | 0xA => (row 7 g.dw).flatMap (leBytes 1)
  | 0xB => (row 7 g.dw).flatMap (leBytes 2)
  | 0xC =>
    let n := g.cy + (if c.f.hdr then j / 2 else j)
    ((c.f.burst (c.f.hdr && j % 2 == 1) n).drop g.cx |>.take g.dw).flatMap (leBytes 2)
  | _ => []

/-- The bytes of output line j: prefix, payload, padding (R281, R283).
The line number of a RAW line counts the output lines (j / 2 for HDR) and not the ingest lines from CY
(R183 and R281 leave it open; DESIGN CHOICE, log entry 218). -/
def Scene.outLine (c : Scene) (k j : Nat) : List Byte :=
  let g := c.geo k
  let (t, st) := c.prefixOf g j
  let num := if g.fmt = 0xC ∧ c.f.hdr then j / 2 else j
  let l := c.payload g j
  layout [(8, t), (2, num), (1, st), (5, 0)] ++ bytesAt l 0 (padTo 8 l.length)

/-- The number of ingest lines that must have come before output line j can leave: the scaler's and the windows' reach
below its centre, or for a warped output the lines its points touch. -/
def Scene.linesNeeded (c : Scene) (k j : Nat) : Nat :=
  let g := c.geo k
  let reach := g.centre j + 4 * 2 ^ preK g.ch (if fmtIs420 g.fmt then g.dh / 2 else g.dh) + 4
  if g.fmt = 0xC then min c.f.height (g.cy + (if c.f.hdr then j / 2 else j) + 1)
  else if c.warped then
    let rows := List.range (min (reach + 1) c.inH)
    let top := rows.foldl (fun a y => (List.range c.inW).foldl (fun a x => match c.warpPos x y with
      | some s => max a (s.2 / 256).toNat
      | none => a) a) 0
    min c.f.height (top + 3)
  else min c.f.height (reach + 11)

end Sys2Proof.Machine
end

