-- ==== Sys2Proof/Machine/PixelStats.lean ====
section
/-!
DEFINITION. What a slice measures of a frame: block matching, histograms, zones, metering, sharpness, the motion section
and the bytes of a statistics set; and the counts of defect correction (spec/07_noise.md R204, R205, spec/11_stats_params.md
R307 to R314, spec/08_colour.md R222).
-/
namespace Sys2Proof.Machine

/-- The cell size of a CFA (R204, R307). -/
def cellSize (cfa : Nat) : Nat := if cfa = 6 then 4 else 2

/-! ## Block matching (R204) -/

/-- Top-left pixel of block b of the 8 × 8 grid, on a cell boundary; none where the block leaves the frame. -/
def Scene.blockOrigin (c : Scene) (b : Nat) : Option (Nat × Nat) :=
  let z := cellSize c.cfa
  let cx := (2 * (b % 8) + 1) * c.f.width / 16
  let cy := (2 * (b / 8) + 1) * c.f.height / 16
  if cx < 8 * z ∨ cy < 8 * z then none
  else
    let x := (cx - 8 * z) / z * z
    let y := (cy - 8 * z) / z * z
    if x + 16 * z ≤ c.f.width ∧ y + 16 * z ≤ c.f.height then some (x, y) else none

/-- The sum of a cell's merged samples; none from a line that is not valid. -/
def Scene.cellSum (c : Scene) (x y : Nat) : Option Int :=
  let z := cellSize c.cfa
  if (List.range z).any fun j => !c.validLine (y + j) then none
  else some ((List.range (z * z)).foldl (fun (a : Int) i => a + (c.merged (x + i % z) (y + i / z)).1) 0)

/-- The sum of a cell of the displaced reference; none with a NOREF sample or outside it. -/
def Scene.refCell (c : Scene) (x y : Int) : Option Rat :=
  let z := cellSize c.cfa
  (List.range (z * z)).foldl (fun (a : Option Rat) i =>
    let x' := x + (i % z : Nat)
    let y' := y + (i / z : Nat)
    match a with
    | none => none
    | some s => (c.refAt x' y').map fun r => s + r / 16) (some 0)

/-- A list of options as an option of a list. -/
def allSome {α : Type} : List (Option α) → Option (List α)
  | [] => some []
  | none :: _ => none
  | some a :: r => (allSome r).map (a :: ·)

/-- The SAD of a block at a cell offset (R204). -/
def Scene.blockSad (c : Scene) (ox oy : Nat) (cells : List Int) (dx dy : Int) : Option Rat :=
  let z : Int := cellSize c.cfa
  (List.range 256).foldl (fun (a : Option Rat) i =>
    match a, c.refCell ((ox : Int) + z * ((i % 16 : Nat) - dx)) ((oy : Int) + z * ((i / 16 : Nat) - dy)) with
    | some s, some r => some (s + absQ ((cells.getD i 0 : Rat) - r))
    | _, _ => none) (some 0)

/-- The offset of a parabola's minimum from its middle sample, 0 for a flat one. -/
def parabola (m z p : Rat) : Rat := let d := m - 2 * z + p; if d ≤ 0 then 0 else (m - p) / (2 * d)

/-- The residual of block b in 1/16 px, none if the block is not valid (R204). -/
def Scene.blockMatch (c : Scene) (b : Nat) : Option (Int × Int) :=
  let z := cellSize c.cfa
  match c.blockOrigin b with
  | none => none
  | some (x, y) =>
    match allSome ((List.range 256).map fun i => c.cellSum (x + z * (i % 16)) (y + z * (i / 16))) with
    | none => none
    | some cells =>
      match allSome ((List.range 289).map fun i => c.blockSad x y cells ((i % 17 : Nat) - 8) ((i / 17 : Nat) - 8)) with
      | none => none
      | some sads =>
        let least := sads.foldl min (sads.headD 0)
        let i := sads.findIdx (· == least)
        let bx := i % 17
        let by_ := i / 17
        if bx = 0 ∨ bx = 16 ∨ by_ = 0 ∨ by_ = 16 then none
        else
          let at_ := fun k => sads.getD k 0
          let other := (List.range 289).filter fun k => decide (k % 17 + 1 < bx ∨ bx + 1 < k % 17 ∨ k / 17 + 1 < by_ ∨ by_ + 1 < k / 17)
          let second := other.foldl (fun a k => min a (at_ k)) (at_ (other.headD 0))
          let mean : Rat := (cells.foldl (· + ·) 0 : Int) / ((256 * z * z : Nat) : Int)
          let sc := ((z : Nat) : Int) * c.sigma mean 0
          if least > 512 * sc ∨ second * 10 < least * 11 then none
          else
            let px := parabola (at_ (i - 1)) least (at_ (i + 1))
            let py := parabola (at_ (i - 17)) least (at_ (i + 17))
            let res := fun (k : Nat) (p : Rat) => roundHalf (16 * ((z : Nat) : Int) * (((k : Int) - 8 : Int) + p))
            some (res bx px, res by_ py)

/-- The residuals of the valid blocks of a frame (R204). -/
def Scene.matches (c : Scene) : Tbl (Int × Int) :=
  if c.tnrOn && c.f.ref.isSome then (List.range 64).filterMap fun b => (c.blockMatch b).map fun r => (b, r) else []

/-! ## Corrections of a frame (R222) -/

/-- Static corrections, dynamic corrections and uncorrected samples of a frame, each burst apart. -/
def Scene.defectCounts (c : Scene) : Nat × Nat × Nat :=
  let bursts := if c.f.hdr then [false, true] else [false]
  let kinds := bursts.flatMap fun b => (List.range c.f.height).flatMap fun y =>
    let here := if b then (c.f.line y).s.isSome else (c.f.line y).l.isSome || !c.f.hdr
    if here then (List.range c.f.width).map fun x => (c.defect b x y).2 else []
  (kinds.count 1, kinds.count 2, kinds.count 3)

/-! ## The window and its grids (R307) -/

/-- A statistics register word of the frame's set. -/
def Scene.stFld (c : Scene) (x : Fld) : Nat := CfgSet.fld c.f.set 3 (sidOf c.port 4) x

/-- The window: X0, Y0, W, H (R307). -/
def Scene.stWin (c : Scene) : Nat × Nat × Nat × Nat :=
  let w := c.stFld (SL.STWIN1_W 0)
  let h := c.stFld (SL.STWIN1_H 0)
  if w = 0 ∨ h = 0 then (0, 0, c.f.width, c.f.height) else (c.stFld (SL.STWIN0_X0 0), c.stFld (SL.STWIN0_Y0 0), w, h)

/-- The spans of an n-part division of m cells (R307). -/
def span (i m n : Nat) : List Nat := (List.range ((i + 1) * m / n)).drop (i * m / n)

/-- Whether a sample is saturated (R307). -/
def Scene.saturated (c : Scene) (x y : Nat) : Bool := decide (c.stFld (SL.STCTL_SATL 0) * c.white * 16 ≤ c.shaded x y * 256)

/-- The pixels of cell (i, j) of the window. -/
def Scene.cellPixels (c : Scene) (i j : Nat) : List (Nat × Nat) :=
  let z := cellSize c.cfa
  let (x0, y0, _, _) := c.stWin
  (List.range (z * z)).map fun k => (x0 + z * i + k % z, y0 + z * j + k / z)

/-- The 8-bit mean of a cell's samples of a colour (R309). -/
def Scene.mean8 (c : Scene) (col : Nat) (px : List (Nat × Nat)) : Nat :=
  let l := if c.cfa = 5 then px else px.filter fun p => c.colour p.1 p.2 == col
  let s := l.foldl (fun a p => a + c.shaded p.1 p.2) 0
  if l.length = 0 then 0 else min (s * 16 / (l.length * c.white)) 255

/-- r8, g8, b8, y8 of a cell and whether it is saturated (R309, R310). -/
def Scene.cell8 (c : Scene) (i j : Nat) : Nat × Nat × Nat × Nat × Bool :=
  let px := c.cellPixels i j
  let r := c.mean8 0 px
  let g := c.mean8 1 px
  let b := c.mean8 2 px
  (r, g, b, (r + 2 * g + b + 2) / 4, px.any fun p => c.saturated p.1 p.2)

/-! ## Sections (R308 to R314) -/

/-- The histogram bins of a channel (R308). -/
def Scene.histogram (c : Scene) (ch : Nat) : List Nat :=
  let (x0, y0, w, h) := c.stWin
  let bins := (List.range h).flatMap fun j => ((List.range w).filter fun i => cfaCh c.cfa (x0 + i) (y0 + j) == ch).map fun i =>
    min (c.shaded (x0 + i) (y0 + j) * 16 / c.white) 255
  (List.range 256).map fun k => bins.count k

/-- The cells of grid part (i, j) of an n × m grid. -/
def Scene.gridCells (c : Scene) (n m i j : Nat) : List (Nat × Nat × Nat × Nat × Bool) :=
  let z := cellSize c.cfa
  let (_, _, w, h) := c.stWin
  (span j (h / z) m).flatMap fun y => (span i (w / z) n).map fun x => c.cell8 x y

/-- The white-balance zones (R309). -/
def Scene.zones (c : Scene) : List Byte :=
  (List.range 768).flatMap fun k =>
    let l := (c.gridCells 32 24 (k % 32) (k / 32)).filter fun e => !e.2.2.2.2
    layout [(3, l.foldl (fun a e => a + e.1) 0), (3, l.foldl (fun a e => a + e.2.1) 0), (3, l.foldl (fun a e => a + e.2.2.1) 0),
      (3, l.length)]

/-- The exposure metering grid (R310). -/
def Scene.metering (c : Scene) : List Byte :=
  (List.range 48).flatMap fun k =>
    let l := c.gridCells 8 6 (k % 8) (k / 8)
    layout [(4, l.foldl (fun a e => a + e.2.2.2.1) 0), (4, (l.filter fun e => e.2.2.2.2).length)]

/-- P1 after the false-colour suppressor, replicated beyond the frame (R311). -/
def Scene.p1 (c : Scene) (x y : Int) : Int :=
  let p := cfaPeriod c.cfa
  c.suppressed 1 (replicate p c.f.width x) (replicate p c.f.height y)

/-- aS of a pixel (R311). -/
def Scene.sharp (c : Scene) (x y : Nat) : Nat :=
  let lap := (4 * c.p1 x y - c.p1 ((x : Int) - 1) y - c.p1 (x + 1) y - c.p1 x ((y : Int) - 1) - c.p1 x (y + 1)).natAbs
  min (lap * 16 / c.white) 1023

/-- The sharpness grid (R311). -/
def Scene.sharpness (c : Scene) : List Byte :=
  let z := cellSize c.cfa
  let (x0, y0, w, h) := c.stWin
  (List.range 192).flatMap fun k =>
    let xs := (span (k % 16) (w / z) 16).flatMap fun i => (List.range z).map fun d => x0 + z * i + d
    let ys := (span (k / 16) (h / z) 12).flatMap fun j => (List.range z).map fun d => y0 + z * j + d
    leBytes 4 ((ys.flatMap fun y => xs.map fun x => c.sharp x y).foldl (· + ·) 0)

/-- ZHIST (R312). -/
def Scene.zhist (c : Scene) : List Nat :=
  let zs := (List.range (ceilDiv c.f.width 16 * ceilDiv c.f.height 16)).filterMap fun k =>
    c.detectZ (k % ceilDiv c.f.width 16) (k / ceilDiv c.f.width 16) (16 * (k / ceilDiv c.f.width 16) + 15)
  (List.range 8).map fun k => (zs.filter fun z => min (z / 8) 7 == k).length

/-- The motion section (R312). -/
def Scene.motionSection (c : Scene) : List Byte :=
  let t := c.f.tnr
  if !c.flag (SL.NRCTL_TNR_EN 0) then layout [(4, 0), (1, 3), (315, 0)]
  else
    let bm := (List.range 64).foldl (fun a b => a + if t.resid.has b then 2 ^ b else 0) 0
    let rb := (List.range 64).flatMap fun b =>
      let r := t.resid.get b (0, 0)
      layout [(2, unsigned 16 r.1), (2, unsigned 16 r.2)]
    layout [(2, unsigned 16 t.motx), (2, unsigned 16 t.moty), (1, t.src), (1, t.resid.length), (1, b2n t.late), (1, 0), (8, bm)]
      ++ rb ++ c.zhist.flatMap (leBytes 4) ++ List.replicate 16 0

/-- The body of a statistics set: every section but the header and the trailer (R314). -/
def Scene.statBody (c : Scene) : List Byte :=
  (List.range 4).flatMap (fun ch => if c.cfa = 5 ∧ ch ≠ 0 then List.replicate 1024 0 else (c.histogram ch).flatMap (leBytes 4))
    ++ c.zones ++ c.sharpness ++ c.metering ++ c.motionSection

/-- A set from its header and body: the trailer carries the CRC over the body (R314, R321). -/
def statSet (hdr body : List Byte) : List Byte := hdr ++ body ++ leBytes 4 (crc32 body) ++ List.replicate 60 0

end Sys2Proof.Machine
end

