-- ==== Sys2Proof/Machine/Queue.lean ====
section
/-!
DEFINITION. The parameter queue: acceptance, groups, deadlines, moves, supersession, discards and jumps
(spec/11_stats_params.md R322 to R333).
-/
namespace Sys2Proof.Machine

/-- The FN of the frame most recently opened at a port (R322). -/
def State.fnOpen (s : State) (p : Nat) : Nat := (s.ingests.get p {}).lastFN

/-- Field IDs that PIPE entries may name (R324). -/
def pipeFields : List Nat :=
  [0x01, 0x02, 0x03, 0x10, 0x11, 0x12, 0x13, 0x14, 0x15, 0x16, 0x17, 0x18, 0x19, 0x1A, 0x1B, 0x20]

/-- The held fields of R324. -/
def heldField (id : Nat) : Bool := id == 2 || id == 3 || id == 0x20

/-- An entry from its 16 bytes (R323). -/
def pqDecode (b : List Byte) : PqEntry :=
  { tfn := fieldAt b 0 4, kind := fieldAt b 4 1, lsel := fieldAt b 5 1, len := fieldAt b 6 1, grp := fieldAt b 7 1 % 128,
    gend := bit (fieldAt b 7 1) 7, addr := fieldAt b 8 4, data := fieldAt b 12 4, seq := 0 }

/-- The latency of a SENSOR entry in frames (R323, R325). -/
def State.pqLatency (s : State) (p : Nat) (e : PqEntry) : Nat :=
  match e.lsel % 8 with
  | 0 => s.desc p 0xB0 1
  | 1 => s.desc p 0xB1 1
  | 2 => s.desc p 0xB2 1
  | _ => bitsOf e.lsel 6 4

/-- Start and end of the write window of the head of a port, ns after the boundary (R123, R325). -/
def State.wwin (s : State) (p : Nat) : Nat × Nat := (1000 * s.desc p 0xB4 2, 1000 * s.desc p 0xB6 2)

/-- The newest frame of a camera: the open one, or the newest in its slice. -/
def State.newestFrame (s : State) (p : Nat) : Option Frame :=
  match (s.ingests.get p {}).frame with
  | some f => some f
  | none => (s.camOf p).frames.head?

/-- The TSU time at which the next TRIGGER of a port leaves that has not been sent, if its group sends any (R156, R157, R326). -/
def State.nextTrigger (s : State) (p : Nat) : Option Int :=
  let c := s.setFor p
  match CfgSet.groupOf c p with
  | none => none
  | some g =>
    let per : Int := CfgSet.grpPeriod c g
    let back : Int := s.desc p 0x88 4 + CfgSet.grpLead c g
    let base : Int := match (s.ports.get p {}).trigs.getLast? with
      | some e => (e.1 : Int)
      | none => (s.now : Int) + back - 1
    some (base + per - (base - s.tsu.shift - (CfgSet.grpPhase c g : Int)) % per - back)

/-- Whether the deadline of an entry has passed for a target (R325, R326); a PIPE entry for a frame still to be read from the
reserve ring waits for it (R331). -/
def State.pqPassed (s : State) (p : Nat) (e : PqEntry) (target : Nat) : Bool :=
  let g := s.ingests.get p {}
  if e.kind = 1 then
    let x := (target + 2 ^ 32 - s.pqLatency p e) % 2 ^ 32
    let d := fnAhead x g.lastFN
    if d < 0 then true
    else if d = 0 then decide (g.boundary + (s.wwin p).2 < s.now + 100000)
    else false
  else if e.addr = 3 then
    let d := fnAhead target g.lastFN - ((s.ports.get p {}).trigs.length : Int)
    decide (d ≤ 0) || (d == 1 && (s.nextTrigger p).any fun t => decide (t < (s.now : Int) + 1000))
  else if s.pair.runs.has p && decide (0 ≤ fnAhead target (s.pair.runs.get p ⟨false, 0, 0, true⟩).next) then false
  else
    let d := fnAhead target g.lastFN
    if d < 0 then true
    else if d = 0 then
      match s.newestFrame p with
      | some f => f.fn == g.lastFN && f.latched.contains e.addr
      | none => false
    else false

/-- The least k, from `k` on, at which none of the entries has passed its deadline for target + k. -/
def State.pqFirst (s : State) (p : Nat) (es : List PqEntry) (target : Nat) : Nat → Nat → Nat
  | 0, k => k
  | fuel + 1, k =>
    if es.any fun e => s.pqPassed p e ((target + k) % 2 ^ 32) then s.pqFirst p es target fuel (k + 1) else k

/-- Registers of the slice that serves a camera following its queue (R334). -/
def State.pqShow (s : State) (p : Nat) : State :=
  match s.sliceOf p with
  | none => s
  | some sl =>
    let q := (s.camOf p).queue
    let low := q.foldl (fun a e => match a with
      | none => some e.tfn
      | some t => if fnAhead e.tfn t < 0 then some e.tfn else some t) none
    let disp := fun e : PqEntry => (e.tfn + 2 ^ 32 - s.pqLatency p e) % 2 ^ 32
    let next := (q.filter fun e => e.kind = 1 && !e.sent).foldl (fun (a : Option PqEntry) e => match a with
      | none => some e
      | some x => if fnAhead (disp e) (disp x) < 0 then some e else some x) none
    let nextl := (next.map (s.pqLatency p)).getD 0
    s.setFlds [(SL.PQSTAT_USED sl, q.length), (SL.PQSTAT_NEXTL sl, nextl), (SL.PQNEXT_TFN sl, low.getD 0)]

/-- A queue counter of the slice that serves a camera raised (R334). -/
def State.pqBump (s : State) (p : Nat) (f : Nat → Fld) (n : Nat) : State :=
  match s.sliceOf p with
  | some sl => s.bump (f sl) n
  | none => s

/-- The slice instance of a fault about a camera: 0xFFFF if it has none (R537). -/
def State.slInst (s : State) (p : Nat) : Nat := (s.sliceOf p).getD 0xFFFF

/-- Whether a later entry of a queue applies to the same field or register and frame (R329). -/
def supersededBy (e : PqEntry) (q : List PqEntry) : Bool :=
  q.any fun x => decide (e.seq < x.seq) && x.kind == e.kind && x.addr == e.addr && x.tfn == e.tfn

/-- Earlier entries for the same field or register and frame removed and counted; a dispatched write stays (R329). -/
def State.pqSupersede (s : State) (p : Nat) : State :=
  let c := s.camOf p
  let kept := c.queue.filter fun e => e.sent || !supersededBy e c.queue
  let n := c.queue.length - kept.length
  if n = 0 then s.pqShow p
  else ((s.setCam p { c with queue := kept }).pqBump p SL.PQCNT1_SUPERSEDED n).pqShow p

/-- Entries counted as moved away from frame fn (R328). -/
def State.pqLate (s : State) (p fn n : Nat) : State :=
  let c := s.camOf p
  (s.setCam p { c with late := c.late.set fn (c.late.get fn 0 + n) }).pqBump p SL.PQCNT0_RETARGET n

/-- The entries of a queue that satisfy a test given a new target. -/
def retarget (p : PqEntry → Bool) (t : Nat) (q : List PqEntry) : List PqEntry :=
  q.map fun e => if p e then { e with tfn := t } else e

/-- Entries that satisfy a test moved from their target to target + k: counted and reported (R328). -/
def State.pqMove (s : State) (p : Nat) (sel : PqEntry → Bool) (target k : Nat) : State :=
  if k = 0 then s
  else
    let c := s.camOf p
    let n := (c.queue.filter sel).length
    let t := (target + k) % 2 ^ 32
    let s := s.setCam p { c with queue := retarget sel t c.queue }
    let s := s.pqLate p target n
    (s.report 0x3040 (s.slInst p) (packArg [(16, p), (16, k)])).pqSupersede p

/-- Whether an entry belongs to the group of an ID and target, and has not been dispatched. -/
def inGroup (grp t : Nat) (e : PqEntry) : Bool := e.grp == grp && e.tfn == t && !e.sent

/-- Whether a group is closed (R327). -/
def Cam.groupClosed (c : Cam) (grp t : Nat) : Bool := c.closed.contains (grp, t)

/-- The closed and moved marks of a group after its move (R327). -/
def Cam.moveGroup (c : Cam) (grp t t' : Nat) : Cam :=
  let old := match c.moved.find? fun m => m.1 == grp && m.2.2 == t with
    | some m => m.2.1
    | none => t
  { c with closed := c.closed.map fun g => if g = (grp, t) then (grp, t') else g
           moved := (grp, old, t') :: c.moved.filter fun m => !(m.1 == grp && m.2.2 == t) }

/-- A group moved as a whole if a deadline of its members has passed (R327, R328). -/
def State.pqSettleGroup (s : State) (p grp t : Nat) : State :=
  let c := s.camOf p
  let es := c.queue.filter (inGroup grp t)
  let k := s.pqFirst p es t 64 0
  if k = 0 ∨ es = [] then s
  else
    let s := s.setCam p (c.moveGroup grp t ((t + k) % 2 ^ 32))
    s.pqMove p (inGroup grp t) t k

/-- The status of an entry: KIND, then RANGE (R322 to R324); 0 if it passes. -/
def pqCheck (fnOpen : Nat) (e : PqEntry) : Nat :=
  let kindBad :=
    if e.kind = 1 then decide (4 ≤ e.lsel % 8) || e.len == 0 || decide (4 < e.len)
    else if e.kind = 2 then e.lsel != 0 || e.len != 4 || decide (2 ^ 16 ≤ e.addr) || !pipeFields.contains e.addr
    else true
  if kindBad then 4
  else
    let d := fnAhead e.tfn fnOpen
    if d < 0 ∨ 16 < d then 1
    else if e.kind = 1 ∧ (e.addr < 0x800000 ∨ 0xFFFFFF < e.addr) then 1
    else 0

/-- An entry submitted to a camera's queue (R322 to R329): its status (0 OK, 1 RANGE, 2 FULL, 3 NOTOWNER, 4 KIND, 5 GROUP)
and the state. -/
def State.pqPut (s : State) (p : Nat) (owner : Bool) (e : PqEntry) : Nat × State :=
  let c := s.camOf p
  if !owner then (3, s)
  else
    match pqCheck (s.fnOpen p) e with
    | 0 =>
      let moved := if e.grp = 0 then none else c.moved.find? fun m => m.1 == e.grp && m.2.1 == e.tfn
      let t := match moved with
        | some m => m.2.2
        | none => e.tfn
      if e.grp ≠ 0 ∧ c.groupClosed e.grp t then (5, s)
      else if 128 ≤ c.queue.length then (2, s.pqBump p SL.PQCNT2_QFULL 1)
      else
        let x := { e with tfn := t, seq := c.seq }
        let c := { c with queue := c.queue ++ [x], seq := c.seq + 1
                          closed := if e.grp ≠ 0 ∧ e.gend then (e.grp, t) :: c.closed else c.closed }
        let s := s.setCam p c
        let s := if moved.isSome then s.pqLate p e.tfn 1 else s
        let s := if e.grp ≠ 0 then s.pqSettleGroup p e.grp t
          else s.pqMove p (fun y => y.seq == x.seq) t (s.pqFirst p [x] t 64 0)
        (0, s.pqSupersede p)
    | n => (n, s)

/-- A closed group whose last member has been applied leaves the queue, and its marks with it (R327). -/
def State.pqDropGroups (s : State) (p : Nat) : State :=
  let c := s.camOf p
  let live := fun g : Nat × Nat => c.queue.any fun e => e.grp == g.1 && e.tfn == g.2
  s.setCam p { c with closed := c.closed.filter live
                      moved := c.moved.filter fun m => live (m.1, m.2.2) || !c.closed.contains (m.1, m.2.2) }

/-- Every deadline that has passed acted on: an entry of no group, and a member left behind in its window, move alone; a
group that is not closed moves whole (R325, R327, R328). -/
def State.pqDeadlines (s : State) (p : Nat) : List PqEntry → State
  | [] => s.pqDropGroups p
  | e :: r =>
    let s :=
      if e.sent then s
      else if e.grp = 0 ∨ (s.camOf p).groupClosed e.grp e.tfn then
        if e.kind = 1 ∨ e.grp = 0 then s.pqMove p (fun y => y.seq == e.seq) e.tfn (s.pqFirst p [e] e.tfn 64 0) else s
      else s.pqSettleGroup p e.grp e.tfn
    s.pqDeadlines p r

/-- An entry may proceed: it is in no group or its group is closed (R327). -/
def Cam.mayProceed (c : Cam) (e : PqEntry) : Bool := e.grp == 0 || c.groupClosed e.grp e.tfn

/-- Entries that satisfy a test discarded, counted and reported once (R330). -/
def State.pqDiscard (s : State) (p : Nat) (sel : PqEntry → Bool) : State :=
  let c := s.camOf p
  let kept := c.queue.filter fun e => !sel e
  let n := c.queue.length - kept.length
  if n = 0 then s
  else
    let s := (s.setCam p { c with queue := kept }).pqBump p SL.PQCNT0_DISCARD n
    ((s.report 0x3041 (s.slInst p) (packArg [(16, p), (16, n)])).pqDropGroups p).pqShow p

/-- The value of a PIPE entry for frame fn, the one issued last (R329). -/
def Cam.pipeEntry (c : Cam) (id fn : Nat) : Option PqEntry :=
  (c.queue.filter fun e => e.kind == 2 && e.addr == id && e.tfn == fn && c.mayProceed e).getLast?

/-- The value that an entry gives a PIPE field: GAIN and HGAIN have 16 bits (R193, R267, R324). -/
def pipeValue (id d : Nat) : Nat := if id = 2 ∨ id = 0x20 then d % 65536 else d

/-- The held values changed by one field (R324). -/
def Cam.hold (c : Cam) (id v : Nat) : Cam :=
  if id = 2 then { c with gain := some v }
  else if id = 3 then { c with expns := some v }
  else if id = 0x20 then { c with hgain := some v }
  else c

/-- One frame changed among the frames of a camera and the open frame of its port. -/
def State.onFrame (s : State) (p fn : Nat) (k : Frame → Frame) : State :=
  let g := s.ingests.get p {}
  let s := match g.frame with
    | some f => if f.fn = fn then { s with ingests := s.ingests.set p { g with frame := some (k f) } } else s
    | none => s
  let c := s.camOf p
  s.setCam p { c with frames := c.frames.map fun f => if f.fn = fn then k f else f }

/-- The latch of a PIPE field for a frame: the queued value applies over the set's; on a frame that is not processed a held
field still takes its value and a per-frame one lapses (R324, R330, R332). -/
def State.pqLatch (s : State) (p id : Nat) (f : Frame) : State :=
  let c := s.camOf p
  let heldNow := fun c : Cam => if id = 2 then c.gain else if id = 3 then c.expns else if id = 0x20 then c.hgain else none
  match c.pipeEntry id f.fn with
  | some e =>
    let c := { c with queue := c.queue.filter fun x => x.seq != e.seq }
    let c := if heldField id then c.hold id (pipeValue id e.data) else c
    let s := s.setCam p c
    let s := if !heldField id && f.skipWhy != 0 then s.pqBump p SL.PQCNT1_LAPSED 1 else s
    let s := s.onFrame p f.fn fun x =>
      if !heldField id && x.skipWhy != 0 then { x with latched := id :: x.latched }
      else { x with latched := id :: x.latched, pipe := x.pipe.set id (pipeValue id e.data), qappl := x.qappl + 1 }
    (s.pqDropGroups p).pqShow p
  | none =>
    s.onFrame p f.fn fun x => { x with latched := id :: x.latched, pipe := match heldNow c with
      | some v => x.pipe.set id v
      | none => x.pipe }

/-- SENSOR entries that have been dispatched apply as their frame opens, and leave the queue (R327, R329). -/
def State.pqApplied (s : State) (p fn : Nat) : State :=
  let c := s.camOf p
  let done := fun e : PqEntry => e.sent && decide (fnAhead e.tfn fn ≤ 0)
  let n := (c.queue.filter fun e => done e && e.tfn == fn).length
  let s := s.setCam p { c with queue := c.queue.filter fun e => !done e }
  let s := s.onFrame p fn fun f => { f with qappl := f.qappl + n }
  (s.pqDropGroups p).pqShow p

/-- The new target of an entry after a HEAD-JUMP that opened frame fn with d numbers skipped (R330): a SENSOR entry whose
dispatch frame was skipped takes the next boundary plus its latency; a skipped target moves to the first frame after the
jump whose deadline has not passed. -/
def State.jumpTarget (s : State) (p : Nat) (fn d : Nat) (e : PqEntry) : Nat :=
  let skipped := fun x : Nat => decide (fnAhead x fn < 0 ∧ -(d : Int) ≤ fnAhead x fn)
  if e.kind = 1 ∧ !e.sent then
    let l := s.pqLatency p e
    if skipped ((e.tfn + 2 ^ 32 - l) % 2 ^ 32) then (fn + l) % 2 ^ 32 else e.tfn
  else if skipped e.tfn then (fn + s.pqFirst p [e] fn 64 0) % 2 ^ 32
  else e.tfn

/-- Entries moved to a common target by a jump: counted and reported (R328, R330). -/
def State.jumpMove (s : State) (p : Nat) (sel : PqEntry → Bool) (old new : Nat) : State :=
  if old = new then s
  else
    let k := (new + 2 ^ 32 - old) % 2 ^ 32
    s.pqMove p sel old k

/-- The queue after a HEAD-JUMP: entries one by one, groups together to the latest new target (R330). -/
def State.pqJump (s : State) (p fn d : Nat) : List PqEntry → State
  | [] => s.pqDropGroups p
  | e :: r =>
    let q := (s.camOf p).queue
    match q.find? fun x => x.seq == e.seq with
    | none => s.pqJump p fn d r
    | some e =>
      let s :=
        if e.sent then s
        else if e.grp = 0 then s.jumpMove p (fun y => y.seq == e.seq) e.tfn (s.jumpTarget p fn d e)
        else
          let ms := q.filter (inGroup e.grp e.tfn)
          let t := (ms.map (s.jumpTarget p fn d)).foldl (fun a b => if fnAhead a b < 0 then b else a) e.tfn
          if t = e.tfn then s
          else
            let c := s.camOf p
            (s.setCam p (c.moveGroup e.grp e.tfn t)).jumpMove p (inGroup e.grp e.tfn) e.tfn t
      s.pqJump p fn d r

end Sys2Proof.Machine
end

