-- ==== Sys2Proof/Machine/EngOps.lean ====
section
/-!
DEFINITION. Events of the slice engines: posting into a latch, the wait that a post ends, and taking the lowest latched
event (spec/12_slice_engines.md R351, R353, R354).
-/
namespace Sys2Proof.Machine

/-- Codes of the engine events (R353). -/
def evFstart : Nat := 0
def evFend : Nat := 1
def evStatrdy : Nat := 2
def evMotion : Nat := 3
def evProve : Nat := 4
def evTlined : Nat := 5
def evTlines : Nat := 6
def evTimeout : Nat := 7

/-- The lowest latched event of an engine whose bit is set in a mask (R354). -/
def Eng.lowest (e : Eng) (mask : Nat) : Option Nat := (List.range 7).find? fun c => bit mask c && e.latch.has c

/-- An EVWAIT that ends with a code: the destination takes it, the arguments are kept, the latch empties and the engine goes
on (R351, R354, R358). -/
def State.endWait (s : State) (sl : Nat) (sd code : Nat) : State :=
  let e := s.eng sl
  let e := e.sset (BitVec.ofNat 5 sd) (BitVec.ofNat 32 code)
  let e := { e with last := e.latch.get code [0, 0, 0, 0], latch := e.latch.drop code, wait := none, fed := s.now }
  ((s.setEng sl e).setFld (SL.ENGSTAT_STATE sl) esRunning).engFlow sl 1 .seq

/-- An EVWAIT in progress ends if an event of its mask is latched (R351). -/
def State.pollWait (s : State) (sl : Nat) : State :=
  match (s.eng sl).wait with
  | none => s
  | some (m, d, _) =>
    match (s.eng sl).lowest m with
    | some c => s.endWait sl d c
    | none => s

/-- An event posted to an engine: its latch takes the arguments, and an overwritten event is counted in EVOVR; a waiting
engine goes on (R353, R354). -/
def State.post (s : State) (sl code : Nat) (args : List Nat) : State :=
  let e := s.eng sl
  let s := if e.latch.has code then s.bump (SL.ENGCNT1_EVOVR sl) 1 else s
  let a := (List.range 4).map fun i => args.getD i 0 % 2 ^ 32
  (s.setEng sl { e with latch := e.latch.set code a }).pollWait sl

/-- An event posted to the engine that serves a camera, if it has a slice. -/
def State.postCam (s : State) (p code : Nat) (args : List Nat) : State :=
  match s.sliceOf p with
  | some sl => s.post sl code args
  | none => s

end Sys2Proof.Machine
end

