-- ==== Sys2Proof/Machine/Packets.lean ====
section
/-!
DEFINITION. Packets of the link layer that the uplink and the peer link share: kinds, header, trailer, credit blocks and the fields of
a CREDIT (spec/13_uplink.md R368 to R370, R375, R378).
-/
namespace Sys2Proof.Machine

/-! ## Packets (R368, R369) -/

/-- Packet kinds (R370). -/
def pkVideo : Nat := 1
def pkStats : Nat := 2
def pkFmt : Nat := 3
def pkTunnel : Nat := 4
def pkRdreq : Nat := 5
def pkRdcpl : Nat := 6
def pkPwrite : Nat := 7
def pkLocked : Nat := 8
def pkIntmsg : Nat := 9
def pkCredit : Nat := 10
def pkMgmt : Nat := 11

/-- The header crumb of a packet (R369). -/
def Pkt.header (p : Pkt) (lseq : Nat) : Crumb :=
  sealCrumb (packArg [(6, p.kind), (3, p.tc), (12, p.id), (16, lseq), (10, p.payload.length), (2, p.seg), (7, p.kspec)])

/-- The crumbs of a packet: header, payload and trailer (R368). -/
def Pkt.crumbs (p : Pkt) (lseq : Nat) : List Crumb :=
  let b := p.header lseq :: p.payload
  b ++ [BitVec.ofNat 64 (crc32Crumbs b)]

/-- Credit blocks of a packet (R370). -/
def Pkt.blocks (p : Pkt) : Nat := ceilDiv (p.payload.length + 2) 32

/-- The checks of a received packet: its header CRC, then its length and trailer CRC. 0 both pass, 1 HCRC, 2 trailer. -/
def pktCheck (cs : List Crumb) : Nat :=
  match cs with
  | [] => 1
  | h :: r =>
    if !crc8Good h then 1
    else
      let plen := bitsOf h.toNat 46 37
      let body := h :: r.take plen
      if r.length = plen + 1 ∧ (r.getD plen 0).toNat = crc32Crumbs body then 0 else 2

/-- The limit of class c in a CREDIT payload (R378). -/
def creditLimit (payload : List Crumb) (c : Nat) : Nat :=
  let w := (payload.getD (c / 2) 0).toNat
  if c % 2 = 0 then bitsOf w 31 0 else bitsOf w 63 32

/-- Bits of a CREDIT's KSPEC (R378). -/
def creditInit (h : Crumb) : Bool := bit h.toNat 49
def creditNak (h : Crumb) : Bool := bit h.toNat 50

end Sys2Proof.Machine
end

