-- ==== Sys2Proof/Machine/PairBase.lean ====
section
/-!
DEFINITION. The pair as the other blocks see it: which cameras are paired, who serves them, and what goes to the partner
(spec/17_pairing.md R476 to R493).
-/
namespace Sys2Proof.Machine

/-! ## Pair states (R480) -/

def prSolo : Nat := 0
def prLinking : Nat := 1
def prJoining : Nat := 2
def prPaired : Nat := 3
def prLeft : Nat := 4
def prLost : Nat := 5
def prLeaving : Nat := 6

def State.prState (s : State) : Nat := s.fld PEER.PSTAT_STATE
def State.setPair (s : State) (x : Pair) : State := { s with pair := x }

/-- An event of the PEER source (R507). -/
def State.peerIntr (s : State) (cause arg : Nat) : State := s.intrEvent 0x2C0 cause arg

/-- A pair state entered, with its message (R480). -/
def State.setPrState (s : State) (st : Nat) : State :=
  if s.prState = st then s
  else
    let s := s.setFld PEER.PSTAT_STATE st
    s.peerIntr 1 (s.reg PEER.PSTAT).toNat

/-- Both devices mirror: PAIRED, or LEAVING until its handovers are done (R480, R482). -/
def State.mirrors (s : State) : Bool := s.prState == prPaired || s.prState == prLeaving

/-! ## Roles (R477, R478, R506) -/

/-- Device A is primary for a port. -/
def State.prima (s : State) (p : Nat) : Bool := bit (s.fld (PEER.PRIMA_PRIMA (p / 32))) (p % 32)
def State.setPrima (s : State) (p : Nat) (a : Bool) : State :=
  s.setFld (PEER.PRIMA_PRIMA (p / 32)) (withBit (s.fld (PEER.PRIMA_PRIMA (p / 32))) (p % 32) a)

/-- This device is an armed standby for a port (R481). -/
def State.armed (s : State) (p : Nat) : Bool := bit (s.fld (PEER.ARMED_ARMED (p / 32))) (p % 32)
def State.setArmed (s : State) (p : Nat) (a : Bool) : State :=
  s.setFld (PEER.ARMED_ARMED (p / 32)) (withBit (s.fld (PEER.ARMED_ARMED (p / 32))) (p % 32) a)

/-- This device's PAIRID names it the primary of a port. -/
def State.primaryHere (s : State) (p : Nat) : Bool := s.prima p == (s.dev == 1)

/-- This device is made the primary of a port, or its partner is. -/
def State.setPrimary (s : State) (p : Nat) (here : Bool) : State := s.setPrima p (here == (s.dev == 1))

/-- Both devices have enumerated a dual-homed head of one SERIAL on a port (R477). -/
def State.pairedCam (s : State) (p : Nat) : Bool :=
  if s.pair.info.has p then
    let i := s.pair.info.get p ⟨false, false, []⟩
    i.present && i.dual && s.flag (HP.PSTAT_DUAL p) && i.serial == s.serial p
  else false

/-- The partner serves a paired camera that this device stands by for (R478). -/
def State.standby (s : State) (p : Nat) : Bool := s.mirrors && s.pairedCam p && !s.primaryHere p

/-- This device serves a paired camera that its partner stands by for. -/
def State.primary (s : State) (p : Nat) : Bool := s.mirrors && s.pairedCam p && s.primaryHere p

/-- The common level (R504). -/
def State.prLevel (s : State) : Nat := s.fld PEER.PSTAT_LEVEL

/-! ## Packets to the partner (R484, R485) -/

/-- The peer link carries packets. -/
def State.peerUp (s : State) : Bool := s.domainOn .peer && s.fld (LK.LKSTAT_STATE .peer) == 7

/-- The peer link carries packets, or is in a hold that ends with packets (R95). -/
def State.peerLinked (s : State) : Bool :=
  s.domainOn .peer && (s.fld (LK.LKSTAT_STATE .peer) == 7 || s.fld (LK.LKSTAT_STATE .peer) == 8)

def State.setPl (s : State) (x : PeerLl) : State := { s with pl := x }

/-- A packet leaves on the PT lanes (R73, R368). -/
def State.peerPut (s : State) (p : Pkt) (lseq : Nat) : State :=
  let t := s.toLanes .peer (p.crumbs lseq)
  { t with sent := t.sent ++ [.peer p.kind p.payload] }

/-- A packet of a kind with its class (R484). -/
def peerPkt (kind : Nat) (cs : List Crumb) : Pkt :=
  { kind := kind, tc := if kind = 0x10 ∨ kind = 0x13 then 0 else 1, id := 0, payload := cs }

/-- Bytes of the packets in the replay buffer, of which it takes 512 KiB (R483). -/
def PeerLl.held (x : PeerLl) : Nat := sumN (x.replay.map fun e => 8 * (e.2.payload.length + 2))

/-- A new packet may go: the link layer is up, its class is open and has the credit, and the replay buffer and the window have
room (R374, R379, R382, R483). -/
def PeerLl.may (x : PeerLl) (p : Pkt) : Bool :=
  let room := (x.txcl.get p.tc 0 + 2 ^ 32 - x.txcc.get p.tc 0) % 2 ^ 32
  x.up && !x.closed.contains p.tc && decide (p.blocks ≤ room ∧ room < 2 ^ 31) && decide (x.replay.length < 32767)
    && decide (x.held + 8 * (p.payload.length + 2) ≤ 524288)

/-- A new sequenced packet sent: numbered, charged to its class and kept until it is acknowledged (R374, R379). -/
def State.peerNew (s : State) (p : Pkt) : State :=
  let x := s.pl
  (s.setPl { x with txNext := (x.txNext + 1) % 65536, txcc := x.txcc.set p.tc ((x.txcc.get p.tc 0 + p.blocks) % 2 ^ 32),
                    replay := x.replay ++ [(x.txNext, p)], ackAt := if x.replay = [] then s.clock else x.ackAt }).peerPut p x.txNext

/-- Waiting packets sent in order as far as they may go; those of a class wait behind one of it that may not. -/
def State.peerPump (s : State) : List Pkt → List Pkt → State
  | [], held => s.setPl { s.pl with wait := held }
  | p :: r, held =>
    if s.peerUp && s.pl.may p && held.all (fun q => q.tc != p.tc) then (s.peerNew p).peerPump r held else s.peerPump r (held ++ [p])

/-- A packet for the partner (R483, R484): a BEAT goes at once while the link carries packets, the others once they may; none is kept
while the link is neither OPERATING nor in a hold (log entry 58). -/
def State.peerSend (s : State) (kind : Nat) (cs : List Crumb) : State :=
  if kind = 0x10 then (if s.peerUp then s.peerPut (peerPkt kind cs) 0 else s)
  else if s.peerLinked then s.peerPump (s.pl.wait ++ [peerPkt kind cs]) [] else s

/-- A PAIRCTL message: CTYPE, CODE, request number, ARG and further crumbs (R485). -/
def State.pairCtl (s : State) (ctype code num arg : Nat) (more : List Nat) : State :=
  s.peerSend 0x13 ((packArg [(8, ctype), (8, code), (16, num), (32, arg)] :: more).map (BitVec.ofNat 64))

/-- A PAIRCTL request under the next request number. -/
def State.pairReq (s : State) (ctype code arg : Nat) (more : List Nat) : State :=
  let n := (s.pair.num + 1) % 65536
  (s.setPair { s.pair with num := n }).pairCtl ctype code n arg more

/-- PORTINFO of a port (R477, R485). -/
def State.portInfo (s : State) (p : Nat) (present : Bool) : State :=
  if s.prState = prSolo then s
  else
    let l := s.serial p
    s.pairReq 0x0D 0 (packArg [(8, p), (1, b2n (s.flag (HP.PSTAT_DUAL p))), (1, b2n present)]) [fieldAt l 0 8, fieldAt l 8 8]

/-- pair-camera-mismatch of a port, raised once until it no longer holds (R477). -/
def State.pairMismatch (s : State) (p : Nat) : State :=
  let i := s.pair.info.get p ⟨false, false, []⟩
  let bad := s.pair.info.has p && s.flag (HP.PSTAT_DUAL p) && 4 ≤ s.fld (HP.PSTAT_PSTATE p)
    && (!i.present || !i.dual || i.serial != s.serial p)
  let was := s.pair.mismatch.contains p
  if bad then (if was then s else (s.setPair { s.pair with mismatch := p :: s.pair.mismatch }).report 0x0A13 p p)
  else s.setPair { s.pair with mismatch := s.pair.mismatch.filter (· != p) }

/-! ## Delivery reports (R493) -/

/-- A DONE message. -/
def State.sendDone (s : State) (p k fn : Nat) : State := s.peerSend 0x12 [BitVec.ofNat 64 (packArg [(8, p), (3, k), (21, 0), (32, fn)])]

/-- The END or NOTICE of frame fn, or its statistics set, acknowledged on stream k of a port: DONE per stream at level
0x0102, else once every open stream of the port has it (R493). -/
def State.delivered (s : State) (sid fn : Nat) : State :=
  let p := sid / 8
  if isLatSid sid || !s.primary p || sid % 8 == 5 then s
  else if 0x0102 ≤ s.prLevel then s.sendDone p (sid % 8) fn
  else
    let a := s.pair.acks.set sid (fn + 1)
    let s := s.setPair { s.pair with acks := a }
    let all := (s.openSids p).filter fun x => x % 8 ≤ 4
    if all.all fun x => decide (fn + 1 ≤ a.get x 0) then s.sendDone p 7 fn else s

end Sys2Proof.Machine
end

