-- ==== Sys2Proof/Machine/PeerLink.lean ====
section
/-!
DEFINITION. The link layer of the peer link: start-up, reception, credits, acknowledgement and replay as on the uplink
(spec/17_pairing.md R483, R484, spec/13_uplink.md R374 to R379, R381, R382, R390, R391). Its packets leave as soon as they may; no row
of the table is its transmitter (log entry 58).
-/
namespace Sys2Proof.Machine

/-! ## Start and re-initialisation (R382, R391, R483) -/

/-- A CREDIT sent (R378): INIT or NAK, ACKSEQ and the limits advertised. -/
def State.plSendCredit (s : State) (init nak : Bool) : State :=
  let x := s.pl
  let ack := if init then 0xFFFF else (x.rxNext + 65535) % 65536
  let l := fun c => x.rxcl.get c 0
  let p : Pkt :=
    { kind := pkCredit, tc := 0, id := 0, kspec := b2n init + 2 * b2n nak,
      payload := [BitVec.ofNat 64 (l 0 + 2 ^ 32 * l 1), BitVec.ofNat 64 (l 2 + 2 ^ 32 * l 3), BitVec.ofNat 64 (l 4)] }
  s.peerPut p ack

/-- The link layer starts as the link reaches OPERATING: its first INIT CREDIT advertises 64 blocks of class 0 and 1,920 of class 1
(R382, R483). -/
def State.plStart (s : State) : State :=
  (s.setPl { wait := s.pl.wait, initSent := true, rxcl := [(0, 64), (1, 1920)], ackAt := s.clock }).plSendCredit true false

/-- The link layer re-initialises with a cause: what is not acknowledged waits to be sent again, and the next MIRROR of every port is
full (R391, R483, R491). -/
def State.pairReinit (s : State) (cause : Nat) : State :=
  let s := s.setPl { wait := s.pl.replay.map (·.2) ++ s.pl.wait }
  ((s.report 0x0A15 0 cause).bump PEER.PCNT1_REINIT 1).setPair { s.pair with sentRec := [] }

/-- The link layer re-initialises on a link that stays OPERATING, and starts again. -/
def State.plRestart (s : State) (cause : Nat) : State := (s.pairReinit cause).plStart

/-- What waits is sent as far as it may go. -/
def State.plPumped (s : State) : State := s.peerPump s.pl.wait []

/-! ## Reception (R375, R381) -/

/-- The receiver enters NAK state and sends a NAK CREDIT; one in NAK state stays there (R375). -/
def State.plNak (s : State) : State :=
  if s.pl.nakWait then s else (s.setPl { s.pl with nakWait := true }).plSendCredit false true

/-- Kind, class and length of a sequenced packet of the partner (R484). -/
def goodPeerKind (kind tc plen : Nat) : Bool :=
  (kind == 0x11 && tc == 1 && decide (2 ≤ plen ∧ plen ≤ 514)) || (kind == 0x12 && tc == 1 && plen == 1)
    || (kind == 0x13 && tc == 0 && decide (1 ≤ plen ∧ plen ≤ 8)) || (kind == 0x14 && tc == 1 && plen == 1)

/-- A packet accepted (R375, R379, R381): its class is charged and its blocks are free again, since its own row takes it from here; it
is acknowledged, or it has violated the credit. -/
def State.plAccept (s : State) (h : Crumb) (payload : List Crumb) : State :=
  let kind := bitsOf h.toNat 5 0
  let tc := bitsOf h.toNat 8 6
  let n := ({ kind := kind, tc := tc, id := 0, payload := payload } : Pkt).blocks
  let x := s.pl
  let room := (x.rxcl.get tc 0 + 2 ^ 32 - x.rxcc.get tc 0) % 2 ^ 32
  let y := { x with rxNext := (x.rxNext + 1) % 65536, nakWait := false }
  let s := s.setPl (if tc ≤ 4 then { y with rxcc := x.rxcc.set tc ((x.rxcc.get tc 0 + n) % 2 ^ 32),
                                            rxcl := x.rxcl.set tc ((x.rxcl.get tc 0 + n) % 2 ^ 32) } else y)
  if goodPeerKind kind tc payload.length ∧ (room < n ∨ 2 ^ 31 ≤ room) then s.plRestart 2 else s.plSendCredit false false

/-- A packet of the partner at the link layer (R375): `k` on a header and payload that pass their checks. -/
def State.plChecked (s : State) (cs : List Crumb) (k : State → Crumb → List Crumb → State) : State :=
  if !s.peerUp || !s.pl.initSent then s
  else
    match pktCheck cs, cs with
    | 0, h :: r => k s h (r.take (bitsOf h.toNat 46 37))
    | _, _ => s.plNak

/-- A sequenced packet taken by its LSEQ (R375); a CREDIT is taken by its own rows, and a BEAT has no LSEQ (R484). -/
def State.plTake (s : State) (crumbs : List Crumb) : State :=
  s.plChecked crumbs fun s h payload =>
    if bitsOf h.toNat 5 0 = pkCredit ∨ bitsOf h.toNat 5 0 = 0x10 then s
    else
      let d := (bitsOf h.toNat 36 21 + 65536 - s.pl.rxNext) % 65536
      if d = 0 then s.plAccept h payload
      else if d ≤ 32767 then s.plNak
      else s.plSendCredit false false

/-! ## Credits, acknowledgement and replay (R376 to R379, R382, R390) -/

/-- A cumulative acknowledgement applied; one outside the window is ignored (R376). -/
def State.plAcked (s : State) (seq : Nat) : State :=
  let x := s.pl
  let d := (seq + 65536 - x.txAck) % 65536
  if d = 0 ∨ x.replay.length < d then s else s.setPl { x with replay := x.replay.drop d, txAck := seq, ackAt := s.clock }

/-- The limits of a CREDIT. -/
def creditLimits (payload : List Crumb) : Tbl Nat := (List.range 5).map fun c => (c, creditLimit payload c)

/-- A received CREDIT of a form: `k` on its payload and ACKSEQ (R375, R378). One of another class or length is a bad kind (R370). -/
def State.plOnCredit (s : State) (cs : List Crumb) (init nak : Bool) (k : State → List Crumb → Nat → State) : State :=
  s.plChecked cs fun s h payload =>
    if bitsOf h.toNat 5 0 ≠ pkCredit ∨ creditInit h ≠ init ∨ (!init ∧ creditNak h ≠ nak) ∨ payload.length ≠ 3 ∨ bitsOf h.toNat 8 6 ≠ 0 then s
    else k s payload (bitsOf h.toNat 36 21)

/-- A CREDIT taken: limits and acknowledgement applied, and what waits is sent (R378, R379). -/
def State.plCredit (s : State) (crumbs : List Crumb) : State :=
  s.plOnCredit crumbs false false fun s payload seq =>
    if s.pl.up then ((s.setPl { s.pl with txcl := creditLimits payload }).plAcked seq).plPumped else s

/-- The link layer comes up once INIT is sent and received: the attempts start anew, and what waits is sent (R382; log entry 211). -/
def State.plUp (s : State) : State :=
  if s.pl.initSent ∧ s.pl.initGot ∧ !s.pl.up then
    ((s.setPl { s.pl with up := true }).setLink .peer { s.link .peer with attempts := 0, failRep := false }).plPumped
  else s

/-- An INIT CREDIT taken (R382): classes below their least limit stay closed (R483), one more INIT CREDIT is sent, and the link layer
comes up; where it was up it re-initialises first. -/
def State.plInit (s : State) (crumbs : List Crumb) : State :=
  s.plOnCredit crumbs true false fun s payload _ =>
    let s := if s.pl.up then s.plRestart 3 else s
    let shut := (if creditLimit payload 0 < 1 then [0] else []) ++ if creditLimit payload 1 < 17 then [1] else []
    ((s.setPl { s.pl with txcl := creditLimits payload, initGot := true, closed := shut }).plSendCredit true false).plUp

/-- Every packet not acknowledged is sent again, oldest first (R377). -/
def State.plReplay (s : State) : State :=
  if s.pl.replay = [] then s
  else s.pl.replay.foldl (fun s e => s.peerPut e.2 e.1) (s.setPl { s.pl with replayAt := some s.clock })

/-- A replay for a NAK or a timeout: at most one in 10 µs (R377). -/
def State.plReplaySoon (s : State) : State :=
  let soon : Bool := match s.pl.replayAt with
    | some t => decide (s.clock < t + 10000)
    | none => false
  if soon = true then s else s.plReplay

/-- A NAK CREDIT taken (R377). -/
def State.plNakCredit (s : State) (crumbs : List Crumb) : State :=
  s.plOnCredit crumbs false true fun s payload seq =>
    if s.pl.up then (((s.setPl { s.pl with txcl := creditLimits payload }).plAcked seq).plReplaySoon).plPumped else s

/-- The link layer is up on a link that carries packets. -/
def State.plRuns (s : State) : Bool := s.peerUp && s.pl.up

/-- No acknowledgement progress for a time, in ns (R377). -/
def State.plIdle (s : State) (ns : Nat) : Bool := decide (s.pl.ackAt + ns ≤ s.clock)

end Sys2Proof.Machine
end

