-- ==== Sys2Proof/Machine/Settle.lean ====
section
/-!
DEFINITION. The order of a stream's items: what a frame's turn is, FORMAT_CHANGE before a frame, NOTICEs of frames that are
not delivered, frame stores, and what is due once frames have ended (spec/10_outputs.md R293 to R303).
-/
namespace Sys2Proof.Machine

/-- A frame changed among the frames of a camera. -/
def State.editFrame (s : State) (p fn : Nat) (k : Frame → Frame) : State :=
  let c := s.camOf p
  let g := s.ingests.get p {}
  let s := { s with ingests := match g.frame with
    | some f => if f.fn = fn then s.ingests.set p { g with frame := some (k f) } else s.ingests
    | none => s.ingests }
  s.setCam p { c with frames := c.frames.map fun f => if f.fn = fn then k f else f }

/-- A frame has its turn on stream k: no older frame owes an item there, no STATUS is due before it, and the store is empty
of what must go first (R297, R299). -/
def State.turn (s : State) (p k fn : Nat) : Bool :=
  let x := s.stream (sidOf p k)
  (match s.unended p k with
    | f :: _ => f.fn == fn
    | [] => false)
    && x.due.all fun d => decide (0 ≤ fnAhead d.2 fn)

/-- The FORMAT_CHANGE that goes before a frame where its stream is not open, was taken, or changes format (R303, R304). -/
def State.announce (s : State) (sid : Nat) (f : Frame) : State :=
  let x := s.stream sid
  let fmt := CfgSet.formatOf f.set sid
  match x.taken with
  | some c =>
    let s := s.formatChange sid fmt c f.fn f.gen
    s.setStream sid { s.stream sid with taken := none }
  | none => if x.opened && x.fmt == fmt then s else s.formatChange sid fmt (if x.opened then 1 else 0) f.fn f.gen

/-- SFLAGS of a frame on a stream, with FMT-FIRST where the frame is the first after a FORMAT_CHANGE (R294). -/
def State.flagsOn (s : State) (sid : Nat) (f : Frame) : Nat := withBit f.sflags 12 (s.stream sid).fmtFirst

/-- The item of a frame on a stream has gone: the frame has ended there. -/
def State.endOn (s : State) (p k fn : Nat) : State :=
  let sid := sidOf p k
  let s := s.setStream sid { s.stream sid with fmtFirst := false }
  s.editFrame p fn fun x => { x with ended := k :: x.ended }

/-- The NOTICE of a frame that is not delivered on a stream (R295, R298). -/
def State.giveNotice (s : State) (p k : Nat) (f : Frame) : State :=
  let sid := sidOf p k
  let s := s.announce sid f
  let integ := if f.lost || f.quit.has k then dropped f.integ else f.integ
  let fl := withBit (s.flagsOn sid f) (f.quit.get k f.skipWhy) true
  let s := if f.fseqs.has k then s.noticeAt p sid f (f.fseqs.get k 0) integ fl else s.notice p sid f integ fl
  s.endOn p k f.fn

/-- Frames of a stream in order: NOTICEs leave for those closed and not delivered, until one is still to come (R297). -/
def State.settleOut (s : State) (p k : Nat) : List Frame → State
  | [] => s
  | f :: r => if f.closed && (f.skipWhy != 0 || f.quit.has k) && s.turn p k f.fn then (s.giveNotice p k f).settleOut p k r else s

/-- Units of a stored frame moved to the FIFO while they fit (R297). -/
def State.drainUnits (s : State) (sid : Nat) : List EgUnit → List EgUnit × State
  | [] => ([], s)
  | u :: r => if s.fits sid u.bytes.length then (s.push sid u).drainUnits sid r else (u :: r, s)

/-- The stored frames of a stream drained in order (R297). -/
def State.drainStores (s : State) (sid : Nat) : List (List EgUnit) → List (List EgUnit) × State
  | [] => ([], s)
  | us :: r =>
    match s.drainUnits sid us with
    | ([], s) => s.drainStores sid r
    | (left, s) => (left :: r, s)

/-- The frame store of a stream drained as its FIFO allows. -/
def State.drainStore (s : State) (sid : Nat) : State :=
  let x := s.stream sid
  if x.stored = [] then s
  else
    let r := s.drainStores sid x.stored
    r.2.setStream sid { r.2.stream sid with stored := r.1 }

/-- The STATUS items whose frames have ended leave (R299). -/
def State.dueOut (s : State) (p k : Nat) : List (Nat × Nat) → State
  | [] => s
  | d :: r =>
    let sid := sidOf p k
    let before := (s.unended p k).any fun f => decide (0 ≤ fnAhead d.2 f.fn)
    if before then s.setStream sid { s.stream sid with due := d :: r }
    else ((s.setStream sid { s.stream sid with due := r }).statusNow p sid d.1).dueOut p k r

/-- Everything that may leave on stream k of a port leaves: stored frames, NOTICEs, STATUS, and the closing of the stream
(R297 to R303). -/
def State.settleK (s : State) (p k : Nat) : State :=
  let sid := sidOf p k
  let s := s.drainStore sid
  if (s.stream sid).stored != [] then s
  else
    let s := s.settleOut p k (s.unended p k)
    let s := s.dueOut p k (s.stream sid).due
    let s := s.settleOut p k (s.unended p k)
    let x := s.stream sid
    if x.closing && (s.unended p k) == [] && x.due == [] then
      let s := if x.silent then s else s.closeStream sid (s.fld GLB.CFGGEN_GEN)
      s.setStream sid { s.stream sid with closing := false, silent := false, opened := false, fmt := [] }
    else s

/-- The streams of a port settled; statistics and telemetry close once no frame of the port is left. -/
def State.settle (s : State) (p : Nat) : State :=
  let s := (((s.settleK p 0).settleK p 1).settleK p 2).settleK p 3
  let idle := (s.ingests.get p {}).frame.isNone && (s.camOf p).frames.all (·.statsDone)
  let shut := fun (s : State) (k : Nat) =>
    let sid := sidOf p k
    let x := s.stream sid
    if x.closing && idle then (s.closeStream sid 0).setStream sid { x with opened := false, closing := false } else s
  shut (shut s 4) 5

end Sys2Proof.Machine
end

