-- ==== Sys2Proof/Machine/UplOps.lean ====
section
/-!
DEFINITION. What the layers above hand to the uplink, the capacity of the link, shedding, and re-initialisation with what
becomes of the packets and units held (spec/13_uplink.md R368 to R373, R384, R387, R390 to R394, spec/14_bridge.md R418,
R424, R425).
-/
namespace Sys2Proof.Machine

/-- A number kept in a table of counters raised by one. -/
def bumpKey (t : Tbl Nat) (k : Nat) : Tbl Nat := t.set k (t.get k 0 + 1)

/-- The address crumb (R373). -/
def addrCrumb (addr n opc : Nat) : Crumb := BitVec.ofNat 64 (packArg [(48, addr), (10, if n = 512 then 0 else n), (6, opc)])

/-- A read completion with its status (R401); data only with OK. -/
def State.complete (s : State) (tag addr n status detail : Nat) (data : List Byte) : State :=
  let p : Pkt := { kind := pkRdcpl, tc := 3, id := tag, kspec := detail, payload := addrCrumb addr n status :: packCrumbs data }
  let s := if status = 1 then s.bump BRG.CNT0_RETRYTX 1 else s
  s.setUpl { s.upl with q3 := s.upl.q3 ++ [p] }

/-- A tunnel packet to the host (R418); a response with a TSTAT other than OK is counted (R427). In COMPAT it keeps its place
among the completions (R423). -/
def State.tunnel (s : State) (sid key ttype tstat inst ttag : Nat) (item : List Byte) : State :=
  let h := BitVec.ofNat 64 (packArg [(8, ttype), (8, tstat), (8, inst), (8, 0), (16, ttag), (16, item.length)])
  let p : Pkt := { kind := pkTunnel, tc := 1, id := sid, payload := h :: packCrumbs item }
  let s := if tstat = 0 then s else s.bump BRG.CNT3_TUNERR 1
  if s.flag BRG.CTL_COMPATNOW then s.setUpl { s.upl with q3 := s.upl.q3 ++ [p], entered := bumpKey s.upl.entered key }
  else s.setUpl { s.upl with q1 := s.upl.q1 ++ [p], entered := bumpKey s.upl.entered key }

/-! ## Capacity and shedding (R387, R390) -/

/-- Assured capacity of the transmit group as trained (R78, R387). -/
def State.capacity (s : State) : Nat :=
  assuredMb (quadLanes (s.fld UPL.UPSTAT_TXQ)) (rateKb .upl (s.fld (LK.LKSTAT_RATE .upl)))

/-- The order of shedding: configured ports that are not listed, highest number first, then the priority list from its
bottom, as lists of image SIDs; then lattices from LT7 down (R390, R445). -/
def State.shedOrder (s : State) (c : CfgSet) : List (List Nat) :=
  let rest := ((List.range 192).filter fun p => CfgSet.camera c p && !s.mbx.priority.contains p).reverse
  let ports := rest ++ s.mbx.priority.reverse.filter (CfgSet.camera c)
  (ports.map fun p => ((List.range 4).filter (CfgSet.streamOn c p)).map (sidOf p))
    ++ ((List.range 8).reverse.filter (CfgSet.latDefined c)).map fun n => [latSid n]

/-- The SIDs shed for a limit in bit/s: taken in order until the rest fits (R390). -/
def shedPick (c : CfgSet) (limit : Rat) : Rat → List (List Nat) → List Nat
  | _, [] => []
  | load, g :: r => if load ≤ limit then [] else g ++ shedPick c limit (load - sumQ (g.map (CfgSet.sidRate c))) r

/-- Streams marked as shed or not. -/
def State.markShed (s : State) (shed : List Nat) : List Nat → State
  | [] => s
  | sid :: r => (s.setStream sid { s.stream sid with shed := shed.contains sid }).markShed shed r

/-- A group carries data: its link is OPERATING, or in a hold that ends with data (R90, R95). -/
def State.uplCarries (s : State) : Bool :=
  s.domainOn .uplink && (s.fld (LK.LKSTAT_STATE .upl) == 7 || s.fld (LK.LKSTAT_STATE .upl) == 8)

/-- A frame of a stream shed: counted (R390, R395). -/
def State.countShed (s : State) : State := s.bump UPL.UPCNT4_SHED 1

/-- Capacity and load shown, and shedding begun, continued or lifted, with a LINKSTATE (R384, R390, R395). -/
def State.capacityChanged (s : State) : State :=
  let c := s.cfg.active
  let cap := s.capacity
  let load := CfgSet.loadMb c
  let s := s.setFlds [(UPL.UPCAP_CAP, cap), (UPL.UPLOAD_LOAD, load)]
  let sids := CfgSet.sids c
  let shed := if cap = 0 then [] else shedPick c ((cap * 900000 : Nat) : Int) (sumQ (sids.map (CfgSet.sidRate c))) (s.shedOrder c)
  let more := shed.any fun sid => !(s.stream sid).shed
  let s := s.markShed shed sids
  let s := s.setFld UPL.UPSTAT_SHEDDING (b2n (shed != []))
  let s := if more then s.report 0x0812 0 cap else s
  s.setUpl { s.upl with linkState := true }

/-! ## Abandoned frames at a re-initialisation (R392) -/

/-- The NOTICE that replaces a frame whose END has been produced: its header and bitmap with HKIND 3, DROPPED and STOREFULL
set (R392). -/
def noticeOfEnd (b : List Byte) : List Byte :=
  let sidk := fieldAt b 0 2 % 2 ^ 12 + 3 * 2 ^ 12
  let integ := dropped (fieldAt b 0x20 4)
  let sf := withBit (fieldAt b 0x24 4) 13 true
  withCrc (leBytes 2 sidk ++ bytesAt b 2 0x1E ++ leBytes 4 integ ++ leBytes 4 sf ++ bytesAt b 0x28 0x54) ++ b.drop 128

/-- Whether a unit belongs to an image or lattice frame. -/
def Role.inFrame : Role → Bool
  | .start | .line | .fend => true
  | _ => false

/-- Units of the packets held, each once, in order (R392). -/
def heldUnits (sid : Nat) : List Held → List EgUnit
  | [] => []
  | h :: r =>
    let rest := heldUnits sid r
    match h.unit with
    | none => rest
    | some u => if h.pkt.id = sid ∧ h.pkt.kind ≠ pkTunnel ∧ !rest.contains { u with gone := 0 } then { u with gone := 0 } :: rest else rest

/-- The NOTICE of an abandoned frame: from its END where that was produced, else from the frame in progress. -/
def State.abandonUnit (s : State) (sid : Nat) (units : List EgUnit) (l : Nat × Nat) : EgUnit :=
  let bytes := match units.find? fun u => u.role == .fend && u.fn == l.1 && u.fseq == l.2 with
    | some u => noticeOfEnd u.bytes
    | none =>
      let p := sid / 8
      match ((s.camOf p).frames ++ ((s.ingests.get p {}).frame).toList).find? fun f => f.fn == l.1 with
      | some f =>
        let t := if bit f.integ igDefect then f.bitmap else []
        (s.frameHdr p sid 3 f l.2 (dropped f.integ) (withBit f.sflags 13 true) t.length).bytes ++ bytesAt t 0 (padTo 64 t.length)
      | none =>
        match units.find? fun u => u.role == .start && u.fn == l.1 && u.fseq == l.2 with
        | some u => noticeOfEnd u.bytes
        | none => (Hdr.mk sid 3 0 l.1 l.2 0 0 0 (dropped 0) (2 ^ 13) 0 0 0 0 0 0 0 0 0 0 0 0 0 [] 0 0).bytes
  ⟨.notice, l.1, l.2, bytes, 0⟩

/-- The END of a frame, among units. -/
def endOf (l : Nat × Nat) (u : EgUnit) : Bool := u.role == .fend && u.fn == l.1 && u.fseq == l.2

/-- A lattice frame in assembly: if it is abandoned, its NOTICE carries the record and comes with the end of assembly (R300). -/
def State.assembling (s : State) (sid : Nat) (l : Nat × Nat) : Bool :=
  isLatSid sid && (s.lats.get (sid - 0x600) {}).busy.any fun b => b.frame.lfn == l.1

/-- The units of a frame that have not entered the FIFO go no further: the rest of a stored frame is dropped, a lattice frame is
dead, and an image frame still produced has ended on its stream (R389, R392, R609). -/
def State.stopFrame (s : State) (sid : Nat) (l : Nat × Nat) : State :=
  let x := s.stream sid
  let s := s.setStream sid { x with abandoned := some l.1, lastFn := l.1, stored := x.stored.filter fun us => !us.any (endOf l) }
  if isLatSid sid then
    let y := s.lats.get (sid - 0x600) {}
    let y := { y with busy := y.busy.map fun b => if b.frame.lfn = l.1 then { b with dead := true } else b }
    { s with lats := s.lats.set (sid - 0x600) y }
  else s.endOn (sid / 8) (sid % 8) l.1

/-- The frames of a list whose END the units do not hold stopped. -/
def State.stopFrames (s : State) (sid : Nat) (all : List EgUnit) : List (Nat × Nat) → State
  | [] => s
  | l :: r => (if all.any (endOf l) then s else s.stopFrame sid l).stopFrames sid all r

/-- What a stream's FIFO holds after a re-initialisation: NOTICEs for the frames abandoned, units resent whole, then the
units that had not been sent (R392). -/
def State.refill (s : State) (sid : Nat) : State :=
  let held := heldUnits sid s.upl.replay
  let fifo := s.fifo sid
  let x := s.stream sid
  let all := held ++ fifo
  let gone := fun u : EgUnit => u.role.inFrame && x.live.contains (u.fn, u.fseq)
  let notices := (x.live.filter fun l => !s.assembling sid l).map (s.abandonUnit sid (all ++ x.stored.flatten))
  let again := held.filter fun u => !u.role.inFrame
  let keep := (fifo.filter fun u => !gone u && !again.contains { u with gone := 0 }).map fun u => { u with gone := 0 }
  let f := notices ++ again ++ keep
  let s := (s.stopFrames sid all x.live)
  let s := s.setStream sid { s.stream sid with live := [] }
  if f = [] then s.setUpl { s.upl with fifo := s.upl.fifo.drop sid } else s.setUpl { s.upl with fifo := s.upl.fifo.set sid f }

/-- All streams refilled. -/
def State.refillAll (s : State) : List Nat → State
  | [] => s
  | sid :: r => (s.refill sid).refillAll r

/-- Packets of TUNNEL and RDCPL that were not acknowledged, of a kind, to be resent (R392). -/
def resent (k : Nat) (l : List Held) : List Pkt := (l.filter fun h => h.pkt.kind == k).map (·.pkt)

/-- A lock of the bridge ends with LOCK_EXPIRED (R412). -/
def State.expireLock (s : State) (l : Lock) (detail : Nat) : State :=
  let b := s.bridge
  let s := { s with bridge := { b with locks := b.locks.filter fun x => x != l, expired := (l.tag, s.clock, detail) :: b.expired } }
  (s.bump BRG.CNT2_LOCKTO 1).report 0x0902 l.port detail

/-- Every lock ended with a DETAIL. -/
def State.expireLocks (s : State) (detail : Nat) : List Lock → State
  | [] => s
  | l :: r => (s.expireLock l detail).expireLocks detail r

/-- A replay begins: every unacknowledged packet goes again, oldest first (R377, R390). -/
def State.replayAll (s : State) : State :=
  if s.upl.replay = [] then s
  else (s.setUpl { s.upl with again := s.upl.replay, replayAt := some s.clock }).bump UPL.UPCNT1_REPLAYS 1

/-- The link layer re-initialises with a cause (R391, R392, R424): sequence numbers, credits and replay restart, what is
resent goes back to its queue, and the locks of the bridge close. -/
def State.uplReinit (s : State) (cause : Nat) : State :=
  let s := (s.report 0x0813 0 cause).bump UPL.UPCNT5_REINIT 1
  let u := s.upl
  let sids := (u.fifo.map (·.1) ++ (u.replay.filter fun h => h.unit.isSome).map (·.pkt.id)
    ++ (s.streams.filter fun e => e.2.live != []).map (·.1)).eraseDups
  let s := s.refillAll sids
  let u := s.upl
  let ints := resent pkIntmsg u.replay
  let s := s.setUpl { u with
    q0 := ints ++ u.q0, q1 := resent pkTunnel u.replay ++ u.q1, q3 := resent pkRdcpl u.replay ++ u.q3,
    replay := [], again := [], initSent := false, initGot := false, initDue := 0, ackDue := false, nakDue := false,
    hello := false, linkState := false, replayAt := none, rxcc := [] }
  let s := s.expireLocks 2 s.bridge.locks
  s.setFlds ([(UPL.UPSTAT_UP, 0), (UPL.UPSTAT_NAKWAIT, 0), (UPL.UPSEQ_TXNEXT, 0), (UPL.UPSEQ_TXACK, 0xFFFF), (UPL.UPRXSEQ_RXNEXT, 0),
    (UPL.UPRPL_RPLBYTES, 0), (UPL.UPSTAT_CLOSED, 0)]
    ++ (List.range 5).flatMap fun c => [(UPL.UPTXCL_CL c, 0), (UPL.UPTXCC_CC c, 0), (UPL.UPRXCL_CL c, 0)])

/-- The link layer starts as the link reaches OPERATING: INIT CREDITs begin (R382). -/
def State.uplStart (s : State) : State :=
  let s := s.setUpl { s.upl with initDue := 1, initSent := false, initGot := false, ackAt := s.clock }
  let s := s.setFlds [(UPL.UPRXCL_CL 0, 64), (UPL.UPRXCL_CL 1, 512), (UPL.UPRXCL_CL 2, 256)]
  s.capacityChanged

/-- The uplink leaves OPERATING and HOLD for DETECT or OFF (R391 cause 0). -/
def State.uplDown (s : State) : State := s.uplReinit 0

/-- What the bridge discards when the uplink turns off (R425): buffers, locks, pending messages, the results of head commands, and
the reads, writes and tunnel requests not performed, of which the last two are counted in REFUSED. -/
def State.bridgeOff (s : State) : State :=
  let lost := s.upl.rxq.filter fun p => p.kind == pkPwrite || p.kind == pkTunnel
  let held := s.ports.flatMap fun (e : Nat × PortSt) => e.2.queue.filter fun c => c.isPosted || c.isTunnel
  let s := s.setUpl { s.upl with rxq := [], q0 := [], q1 := [], q3 := [] }
  let s := { s with bridge := { s.bridge with drbs := [], locks := [], expired := [] }, intr := [],
                      ports := s.ports.map fun (e : Nat × PortSt) => (e.1, e.2.dropHost) }
  s.bump BRG.CNT1_REFUSED (lost.length + held.length)

end Sys2Proof.Machine
end

