-- ==== Sys2Proof/Machine/MbxOps.lean ====
section
/-!
DEFINITION. Mailbox rings and responses: where entries lie, how a response is written and announced, channel errors, and
how running commands end (spec/15_mailbox.md R428 to R438).
-/
namespace Sys2Proof.Machine

/-! ## Status codes (R434) -/

def mbOk : Nat := 0x0000
def mbAccepted : Nat := 0x0001
def mbUnknown : Nat := 0x0002
def mbLength : Nat := 0x0003
def mbArg : Nat := 0x0004
def mbLevel : Nat := 0x0005
def mbMode : Nat := 0x0006
def mbBusy : Nat := 0x0007
def mbNoResource : Nat := 0x0008
def mbAborted : Nat := 0x0009
def mbDenied : Nat := 0x000A
def mbReserved : Nat := 0x000B
def mbNotFound : Nat := 0x000C
def mbInternal : Nat := 0x000D

/-! ## Rings (R428, R429, R457) -/

/-- Address of entry i of the command ring and of the response ring of a channel (R428). -/
def cmdEntry (ch i : Nat) : Nat := 0x15E80000 + 0x2000 * ch + 0x40 * (i % 64)
def rspEntry (ch i : Nat) : Nat := 0x15E81000 + 0x2000 * ch + 0x40 * (i % 64)

/-- Address of the result buffer of a channel (R439). -/
def resultBuf (ch : Nat) : Nat := 0x100000000 + 0x10000 * ch

/-- The difference of two indices modulo 65,536. -/
def idxDiff (a b : Nat) : Nat := (a + 65536 - b % 65536) % 65536

/-- The states of CSTn.STATE (R457). -/
def csIdle : Nat := 0
def csBusy : Nat := 1
def csStalled : Nat := 2
def csError : Nat := 3
def csResetting : Nat := 4

/-- The bit of CHERR that shows a channel in ERROR. -/
def chErrFld (ch : Nat) : Fld := if ch < 32 then ⟨MBX.CHERR0, ch, ch⟩ else ⟨MBX.CHERR1, ch - 32, ch - 32⟩

/-- An interrupt event of a channel (R437). -/
def State.mbxIntr (s : State) (ch cause arg : Nat) : State := s.intrEvent (0x210 + ch) cause arg

/-- A channel enters ERROR: nothing more is accepted, and the responses of its running commands are discarded (R430). -/
def State.chError (s : State) (ch v : Nat) : State :=
  let mute := fun r : Req => if r.ch = ch then { r with mute := true } else r
  let m := s.mbx
  let s := { s with mbx := { m with order := m.order.filter fun e => e.1 != ch, cur := m.cur.map fun (e : Nat × Req) => (e.1, mute e.2),
                                    runs := m.runs.map mute } }
  ((s.setFld (chErrFld ch) 1).setFld (MBX.CST_STATE ch) csError).mbxIntr ch 3 v

/-- Final responses owed on a channel (R435). -/
def State.owed (s : State) (ch : Nat) : Nat :=
  (s.mbx.runs.filter fun r => r.ch == ch && !r.mute).length + b2n (s.mbx.cur.any fun e => e.2.ch == ch && !e.2.mute)

/-- The response ring has room for another command: its free slots exceed the final responses owed by at least 2 (R435). -/
def State.chRoom (s : State) (ch : Nat) : Bool :=
  decide (s.owed ch + 2 ≤ idxDiff (s.fld (MBX.RCI_RCI ch) + 64) (s.fld (MBX.IDX_RPI ch)))

/-- CSTn.STATE after a command ends or begins: BUSY while one owes a response; ERROR and RESETTING stand, and STALLED while the
ring has no room (R435, R457). -/
def State.chState (s : State) (ch : Nat) : State :=
  let st := s.fld (MBX.CST_STATE ch)
  if st = csError ∨ st = csResetting ∨ (st = csStalled ∧ !s.chRoom ch) then s
  else s.setFld (MBX.CST_STATE ch) (if s.owed ch = 0 then csIdle else csBusy)

/-- A response entry written into the response ring with RPI raised and announced (R433, R436, R437); discarded for a
muted command. -/
def State.putResponse (s : State) (r : Req) (final : Bool) (status detail : Nat) (result : List Byte) : State :=
  if r.mute then s
  else
    let rpi := s.fld (MBX.IDX_RPI r.ch)
    let b := layout [(2, r.opcode), (2, b2n final), (2, r.tag), (2, result.length), (2, status), (2, r.level), (4, detail)]
      ++ bytesAt result 0 48
    let s := s.poke (rspEntry r.ch rpi) b
    let rpi' := (rpi + 1) % 65536
    let s := s.setFld (MBX.IDX_RPI r.ch) rpi'
    if r.noint then s else s.mbxIntr r.ch 1 rpi'

/-- A command leaves the commands that owe a response. -/
def State.dropReq (s : State) (r : Req) : State :=
  let m := s.mbx
  let cur := if (m.cur.get r.ch r) = r then m.cur.drop r.ch else m.cur
  { s with mbx := { m with cur := cur, runs := m.runs.filter fun x => x != r } }

/-- The final response of a command (R436). -/
def State.final (s : State) (r : Req) (status detail : Nat) (result : List Byte) : State :=
  ((s.dropReq r).putResponse r true status detail result).chState r.ch

/-- A final response of success with its result; in error responses no result is carried (R434). -/
def State.done (s : State) (r : Req) (result : List Byte) : State := s.final r mbOk 0 result

/-- A final response of an error. -/
def State.refuse (s : State) (r : Req) (status detail : Nat) : State := s.final r status detail []

/-- The interim response of a command whose checks have passed; none at level 2.4 (R436, R443). -/
def State.interim (s : State) (r : Req) (result : List Byte) : State :=
  let s := s.dropReq r
  let r' := { r with interim := true }
  let s := { s with mbx := { s.mbx with runs := s.mbx.runs ++ [r'] } }
  let s := if r.level = 0x0204 then s else s.putResponse r false mbAccepted 0 result
  s.chState r.ch

/-- The interim response of a command that has consumed a staging area. -/
def State.interimAt (s : State) (r : Req) (base : Nat) (result : List Byte) : State :=
  let r' := { r with base := base }
  let m := s.mbx
  ({ s with mbx := { m with cur := if (m.cur.get r.ch r) = r then m.cur.set r.ch r' else m.cur } }).interim r' result

/-- A command of an opcode on a channel with a tag that owes its final response, if there is one. -/
def State.running (s : State) (ch opcode tag : Nat) : Option Req :=
  (s.mbx.runs ++ s.mbx.cur.map fun (e : Nat × Req) => e.2).find? fun r => r.ch == ch && r.opcode == opcode && r.tag == tag

/-- A running command of a channel and tag answered, if it still runs. -/
def State.finish (s : State) (ch opcode tag status detail : Nat) (result : List Byte) : State :=
  match s.running ch opcode tag with
  | some r => s.final r status detail result
  | none => s

/-- Running commands that satisfy a test ended with ABORTED and a DETAIL (R434, R438). -/
def State.abortRuns (s : State) (p : Req → Bool) (detail : Nat) : List Req → State
  | [] => s
  | r :: rest => (if p r then s.refuse r mbAborted detail else s).abortRuns p detail rest

/-- The accepted command of a channel that has a given opcode and has written no response yet (R435). -/
def State.takes (s : State) (ch : Nat) (opcode : Nat) : Option Req :=
  match s.mbx.cur.find? fun e => e.1 == ch && e.2.opcode == opcode with
  | some e => some e.2
  | none => none

/-- The meaning of a mailbox command: it acts on the accepted entry of its channel if that entry carries its opcode, and
does nothing otherwise (log entry 25). -/
def State.onCommand (s : State) (ch : Chan) (opcode : Nat) (k : State → Req → State) : State :=
  match s.takes ch.val opcode with
  | some r => k s r
  | none => s

/-- A number in the body of a command. -/
def Req.arg (r : Req) (off n : Nat) : Nat := fieldAt r.body off n

/-- Bytes written to the result buffer of a channel, with the result that names them: address and length (R439). -/
def State.toBuffer (s : State) (ch : Nat) (l : List Byte) : State × List Byte :=
  (s.poke (resultBuf ch) l, layout [(8, resultBuf ch), (4, l.length)])

/-- A staging window closed (R440). -/
def State.closeStage (s : State) (n : Nat) : State :=
  let s := { s with mbx := { s.mbx with stages := s.mbx.stages.drop n } }
  s.setFld (BRG.HWINS_SIZE n) 0

/-- A staging window opened for a channel (R440). -/
def State.openStage (s : State) (n ch base size : Nat) : State :=
  let s := { s with mbx := { s.mbx with stages := s.mbx.stages.set n (ch, base, size) } }
  s.setFlds [(BRG.HWINL_BASEL n, base), (BRG.HWINH_BASEH n, base / 2 ^ 32), (BRG.HWINS_SIZE n, padTo 4096 size)]

/-- All staging windows closed, as at any entry to SAFE, STANDBY or BOOT (R440). -/
def State.closeStages (s : State) : State := (s.closeStage 1).closeStage 2

end Sys2Proof.Machine
end

