-- ==== Sys2Proof/Machine/SecOps.lean ====
section
/-!
DEFINITION. What SEC verifies: certificates, paths, boot images, kernel binaries, head certificates, and the numbers it
draws (spec/24_security.md R626 to R636, spec/02_modes.md R56, R57, spec/12_slice_engines.md R361, R362).
-/
namespace Sys2Proof.Machine

/-- SHA-384 as 48 bytes. -/
def sha384Bytes (l : List Byte) : List Byte := leBytes 48 (Config.sha384 l)

/-- The key identifier of a public key (R628). -/
def keyId (key : List Byte) : List Byte := (sha384Bytes key).take 16

/-- An ECDSA signature of 96 bytes (r, s) at an offset of a byte list, verified over a digest (R628). -/
def sigGood (key : List Byte) (digest : Nat) (l : List Byte) (off : Nat) : Bool :=
  Config.ecdsaVerify key digest (fieldAt l off 48) (fieldAt l (off + 48) 48)

/-- Whether n bytes at an offset are all zero. -/
def allZero (l : List Byte) (off n : Nat) : Bool := (bytesAt l off n).all (· == 0)

/-! ## Certificates (R628, R629, R632) -/

/-- Fields of a certificate. -/
def certUsage (c : List Byte) : Nat := fieldAt c 6 1
def certModel (c : List Byte) : List Byte := bytesAt c 0x08 16
def certSerial (c : List Byte) : List Byte := bytesAt c 0x18 16
def certIssuer (c : List Byte) : List Byte := bytesAt c 0x28 16
def certKey (c : List Byte) : List Byte := bytesAt c 0x38 97

/-- A certificate's magic, version, usage and reserved bytes (R628). -/
def certWell (c : List Byte) : Bool :=
  fieldAt c 0 4 == 0x54434B43 && fieldAt c 4 2 == 1 && decide (1 ≤ certUsage c ∧ certUsage c ≤ 6) && allZero c 7 1
    && (certUsage c == 3 || allZero c 0x08 32) && allZero c 0x99 7

/-- A certificate signed by a key (R628). -/
def certSigned (c key : List Byte) : Bool :=
  certIssuer c == keyId key && sigGood key (Config.sha384 (bytesAt c 0 0xA0)) c 0xA0

/-- The certificates of the CERT field of an image (R629); none if its count or padding is wrong. -/
def imageCerts (f : List Byte) : Option (List (List Byte)) :=
  let n := fieldAt f 0 2
  if n ≤ 13 ∧ allZero f 2 14 ∧ allZero f (16 + 256 * n) (3488 - (16 + 256 * n)) then
    some ((List.range n).map fun i => bytesAt f (16 + 256 * i) 256)
  else none

/-- The unrevoked ROM roots whose key signs a certificate (R626, R629). -/
def romSigners (rev : Nat) (c : List Byte) : List Nat :=
  (List.range 4).filter fun r => !bit rev r && certSigned c (Config.romRoot r)

/-- The ROM roots that end a path from a certificate within so many steps (R629). -/
def pathRoots (rev : Nat) (all : List (List Byte)) : Nat → List Byte → List Nat
  | 0, _ => []
  | k + 1, c =>
    if certWell c then
      romSigners rev c ++ (all.filter fun i => certWell i && certUsage i == 6 && certSigned c (certKey i)).flatMap (pathRoots rev all k)
    else []

/-- The certificates of a usage that have a valid path (R629). -/
def validOf (rev : Nat) (all : List (List Byte)) (usage : Nat) : List (List Byte) :=
  all.filter fun c => certUsage c == usage && pathRoots rev all 4 c != []

/-! ## Boot and head images (R56, R57, R630, R631) -/

/-- An image section: offset, length, destination, type (R56). -/
def sections (h : List Byte) : List (Nat × Nat × Nat × Nat) :=
  (List.range 16).map fun i =>
    (fieldAt h (0x50 + 16 * i) 4, fieldAt h (0x54 + 16 * i) 4, fieldAt h (0x58 + 16 * i) 4, fieldAt h (0x5C + 16 * i) 4)

/-- Two sections overlap. -/
def overlap (a b : Nat × Nat × Nat × Nat) : Bool := decide (a.1 < b.1 + b.2.1 ∧ b.1 < a.1 + a.2.1)

/-- No section of a list overlaps a later one. -/
def disjoint : List (Nat × Nat × Nat × Nat) → Bool
  | [] => true
  | a :: r => !(r.any (overlap a)) && disjoint r

/-- REVOKE of an image header (R56). -/
def imgRevoke (h : List Byte) : Nat := fieldAt h 6 2 / 256 % 16

/-- The header checks of R56 and R57 for a wanted section type; the path check is apart. -/
def headerGood (h : List Byte) (want : Nat) : Bool :=
  let fl := fieldAt h 6 2
  let len := fieldAt h 8 4
  let n := fieldAt h 0x12 2
  let ss := sections h
  let used := ss.take n
  fieldAt h 0 4 == 0x4D494B43 && fieldAt h 4 2 == 1 && decide (len ≤ 16773120) && fl &&& 0xF0FC == 0
    && allZero h 0x14 12 && allZero h 0x150 176 && decide (1 ≤ n ∧ n ≤ 16)
    && used.all (fun s => decide (0 < s.2.1 ∧ s.1 + s.2.1 ≤ len)) && disjoint used
    && (ss.drop n).all (fun s => s.1 == 0 && s.2.1 == 0 && s.2.2.1 == 0 && s.2.2.2 == 0)
    && (used.filter fun s => s.2.2.2 == want).length == 1
    && used.all (fun s => s.2.2.2 != 1 || decide (s.2.1 ≤ 3145728))

/-- The roots on the signing path of an image's signer. -/
def signerRoots (rev : Nat) (h : List Byte) : List Nat :=
  match imageCerts (bytesAt h 0x260 3488) with
  | none => []
  | some cs => (validOf rev cs 1).flatMap (pathRoots rev cs 4)

/-- A REVOKE bit names a root on the image's own signing path (R56). -/
def revokesOwn (rev : Nat) (h : List Byte) : Bool := (signerRoots rev h).any fun r => bit (imgRevoke h) r

/-- The verification of R630: 0 passes, else the number of the first step that fails: 1 header, 2 DIGEST, 3 paths,
4 SIGNATURE, 5 SVN. `svn` is the fuse count compared, none for a head image (R631). -/
def verifyImage (rev : Nat) (svn : Option Nat) (want : Nat) (img : List Byte) : Nat :=
  let h := bytesAt img 0 4096
  let body := img.drop 4096
  let len := fieldAt h 8 4
  if !headerGood h want || revokesOwn rev h then 1
  else if Config.sha384 (body.take len) != fieldAt h 0x20 48 || decide (body.length < len) then 2
  else
    match imageCerts (bytesAt h 0x260 3488) with
    | none => 3
    | some cs =>
      match validOf rev cs 1 with
      | [c] =>
        if !sigGood (certKey c) (Config.sha384 (bytesAt h 0 0x200)) h 0x200 then 4
        else if (match svn with
          | some f => decide (fieldAt h 0x0C 4 < f)
          | none => false) then 5
        else 0
      | _ => 3

/-- What a verified image gives the firmware that runs it (R629, R631). -/
def imageOf (rev slot : Nat) (img : List Byte) : Image :=
  let h := bytesAt img 0 4096
  let cs := (imageCerts (bytesAt h 0x260 3488)).getD []
  { slot := slot, svn := fieldAt h 0x0C 4, revoke := imgRevoke h, serviceKey := (validOf rev cs 4).head?.map certKey,
    kernelKeys := (validOf rev cs 5).map certKey, body := img }

/-- The bytes of the first section of a type in an image (R56). -/
def imageSection (img : List Byte) (want : Nat) : List Byte :=
  let h := bytesAt img 0 4096
  match ((sections h).take (fieldAt h 0x12 2)).find? fun s => s.2.2.2 == want with
  | some s => bytesAt img (4096 + s.1) s.2.1
  | none => []

/-! ## Kernel binaries (R361, R362, R631) -/

/-- Lengths and places of a binary's sections: code, data and table, each on a 64-byte boundary (R361). -/
def kCode (b : List Byte) : Nat := fieldAt b 0x14 4
def kData (b : List Byte) : Nat := fieldAt b 0x18 4
def kTab (b : List Byte) : Nat := fieldAt b 0x1C 4
def kDataOff (b : List Byte) : Nat := padTo 64 (0x100 + kCode b)
def kTabOff (b : List Byte) : Nat := padTo 64 (kDataOff b + kData b)
def kEnd (b : List Byte) : Nat := kTabOff b + kTab b

/-- A tap word of R361 with its kernel flag: masks nested, codes of the tap, a latency in range. -/
def tapGood (w : Nat) (demosaic on : Bool) : Bool :=
  let pop := w % 256
  let push := w / 256 % 256
  let lat := w / 65536 % 512
  push &&& pop == push && (!demosaic || decide (pop < 16)) && (on == (pop != 0)) && w / 2 ^ 25 == 0
    && (if on then decide (32 ≤ lat ∧ lat ≤ 448) && lat % 16 == 0 else lat == 0)

/-- A binary that no rule of R361 or R362 refuses. -/
def kernelGood (b : List Byte) : Bool :=
  let fl := fieldAt b 8 4
  fieldAt b 0 4 == 0x4E4B4B43 && fieldAt b 4 2 == 1 && fieldAt b 6 2 == 1 && decide (fl < 8) && fieldAt b 0x0C 4 != 0
    && kCode b % 4 == 0 && decide (4 ≤ kCode b ∧ kCode b ≤ 32768) && decide (kData b ≤ 31744)
    && kTab b % 64 == 0 && decide (kTab b ≤ 1048576) && decide (fieldAt b 0x20 4 < kCode b / 4)
    && tapGood (fieldAt b 0x24 4) true (bit fl 0) && tapGood (fieldAt b 0x28 4) false (bit fl 1)
    && crc32 (bytesAt b 0x100 (kCode b)) == fieldAt b 0x30 4 && crc32 (bytesAt b (kDataOff b) (kData b)) == fieldAt b 0x34 4
    && crc32 (bytesAt b (kTabOff b) (kTab b)) == fieldAt b 0x38 4 && allZero b 0x3E 2 && allZero b 0xD0 48
    && decide (kEnd b ≤ b.length)

/-- The signature checks of R631: 0 passes, 1 DIGEST, 2 SIGNATURE, 3 SVN. -/
def verifyKernel (keys : List (List Byte)) (svn : Nat) (b : List Byte) : Nat :=
  if Config.sha384 (bytesAt b 0x100 (kEnd b - 0x100)) != fieldAt b 0x40 48 then 1
  else if !keys.any fun k => sigGood k (Config.sha384 (bytesAt b 0 0x70)) b 0x70 then 2
  else if fieldAt b 0x10 4 < svn then 3
  else 0

/-! ## Heads (R126, R632) -/

/-- The head trust roots of a set (R461, R632). -/
def CfgSet.headRoots (c : CfgSet) : List (List Byte) :=
  let b := CfgSet.item c 7 0 0x8001 []
  (List.range (min (fieldAt b 0 2) 84)).map fun i => bytesAt b (16 + 97 * i) 97

/-- The certificate check of R632 on a head descriptor. -/
def headCertGood (c : CfgSet) (d : List Byte) : Bool :=
  let dev := bytesAt d 0xD80 256
  let mid := bytesAt d (0xD80 + 256) 256
  let roots := CfgSet.headRoots c
  certWell dev && certUsage dev == 3 && certKey dev == bytesAt d 0xD10 97 && certModel dev == bytesAt d 0x10 16
    && certSerial dev == bytesAt d 0x20 16
    && (roots.any (certSigned dev) || (certWell mid && certUsage mid == 2 && certSigned dev (certKey mid) && roots.any (certSigned mid)))

/-- The signature check of R126: SHA-384 of the nonce followed by SERIAL, by PUBKEY. -/
def headSigGood (d : List Byte) (nonce : Nat) (rs : List Byte) : Bool :=
  decide (nonce < 2 ^ 384) && sigGood (bytesAt d 0xD10 97) (Config.sha384 (leBytes 48 nonce ++ bytesAt d 0x20 16)) rs 0

/-! ## Numbers drawn (R633) -/

/-- A fresh nonce of 48 bytes: free values (log entry 1). -/
def State.drawNonce (s : State) : Nat × State :=
  ((List.range 6).foldl (fun a i => a * 2 ^ 64 + (Config.freeValue (s.fresh + i)).toNat) 0, { s with fresh := s.fresh + 6 })

/-! ## Zeroisation (R635, R636) -/

/-- A challenge whose nonce SEC no longer holds: a nonce of 2^384 stands for one that is gone, and verifies nothing. -/
def Origin.forget : Origin → Origin
  | .auth _ a => .auth (2 ^ 384) a
  | o => o

/-- Commands of a port with the nonces of its challenges discarded (R635). -/
def PortSt.forget (x : PortSt) : PortSt :=
  { x with queue := x.queue.map fun c => { c with origin := c.origin.forget }
           out := x.out.map fun o => { o with cmd := { o.cmd with origin := o.cmd.origin.forget } } }

/-- Zeroisation with the argument of debug-zeroise: the volatile items go, and challenges in flight fail (R635). -/
def State.zeroise (s : State) (arg : Nat) (lock : Bool) : State :=
  let s := { s with sec := {}, ports := s.ports.map fun (e : Nat × PortSt) => (e.1, e.2.forget) }
  let s := s.setFlds (((List.range 24).map fun k => (SEC.ATTSIG_SIG k, 0)) ++ [(SEC.SECSTAT_GRANT, 0)])
  let s := if lock then s.setFlds [(SEC.SECSTAT_KEYLOCK, 1), (SEC.SECSTAT_ATTERR, 1)] else s
  s.report 0x6002 0 arg

end Sys2Proof.Machine
end

