-- ==== Sys2Proof/Machine/HeadOps.lean ====
section
/-!
DEFINITION. The back-channel of a head port: commands, classes, accessibility and who waits for the answer; port states,
head time, wear and the ledger (spec/04_heads.md, spec/05_time.md R153 to R158, spec/14_bridge.md R403, R404, R409).
-/
namespace Sys2Proof.Machine

def State.port (s : State) (p : Nat) : PortSt := s.ports.get p {}
def State.setPort (s : State) (p : Nat) (x : PortSt) : State := { s with ports := s.ports.set p x }
def State.pstate (s : State) (p : Nat) : Nat := s.fld (HP.PSTAT_PSTATE p)

/-! ## Port state codes (R137) -/

def psAbsent : Nat := 0
def psTraining : Nat := 1
def psEnum : Nat := 2
def psAuth : Nat := 3
def psReady : Nat := 4
def psStreaming : Nat := 5
def psHeld : Nat := 6
def psRefused : Nat := 7
def psInvalid : Nat := 8
def psUpdating : Nat := 9

/-- Whether a head register offset of a port is accessible over the bridge (R409). -/
def State.accessible (s : State) (p off : Nat) : Bool :=
  let st := s.pstate p
  decide (psEnum ≤ st ∧ st ≤ psStreaming) || ((st == psRefused || st == psInvalid) && decide (off < 0x1000))

/-! ## Commands (R115) -/

def bcRegWrite : Nat := 0x10
def bcRegRead : Nat := 0x11
def bcTrigger : Nat := 0x12
def bcTsync : Nat := 0x13
def bcPoll : Nat := 0x14
def bcWear : Nat := 0x15
def bcFwBlock : Nat := 0x16
def bcFwCommit : Nat := 0x17
def bcAuth : Nat := 0x18
def bcMaster : Nat := 0x19

/-- REG_WRITE and REG_READ of a head register offset (R115, R116). -/
def cmdWrite (cls addr : Nat) (data : List Byte) (o : Origin) : BcCmd :=
  ⟨bcRegWrite, packArg [(24, addr), (7, data.length)], data, cls, o⟩
def cmdRead (cls addr n : Nat) (o : Origin) : BcCmd := ⟨bcRegRead, packArg [(24, addr), (7, n)], [], cls, o⟩

/-- The crumbs of a command: header, payload, and a trailer where there is a payload (R107, R115). -/
def BcCmd.crumbs (c : BcCmd) (tag : Nat) : List Crumb :=
  let h := sealCrumb (c.btype + 2 ^ 8 * (tag % 256) + 2 ^ 16 * c.fields)
  if c.payload = [] then [h]
  else
    let b := packCrumbs c.payload
    h :: b ++ [BitVec.ofNat 64 (crc32Crumbs b)]

/-- A command queued on a port, after those issued before it (R117). -/
def State.bcQueue (s : State) (p : Nat) (c : BcCmd) : State :=
  let x := s.port p
  s.setPort p { x with queue := x.queue ++ [c] }

/-- The lock held on a port, if one is (R410). -/
def State.lockOn (s : State) (p : Nat) : Option Lock := s.bridge.locks.find? fun l => l.port == p

/-- The back-channel of a port carries commands: the link has passed the marker after GO; a hold is one of the forward group
(R93, R95). -/
def State.bcUp (s : State) (p : Nat) : Bool := s.lkState (headLink p) == lsOper || s.flag (LK.LKSTAT_HOLD (headLink p))

/-- Whether a command of a port may leave now: the back-channel carries commands, a lock holds back classes 5 to 7 but its own
steps, and sensor writes of the queue wait for the initialisation list (R93, R117, R139, R411). -/
def State.bcMay (s : State) (p : Nat) (c : BcCmd) : Bool :=
  let lockFree := match s.lockOn p, c.origin with
    | none, _ => true
    | some _, .locked _ _ _ _ => true
    | some _, _ => decide (c.cls ≤ 4)
  let listDone := match c.origin with
    | .queue _ => (s.port p).initLeft == 0
    | _ => true
  s.bcUp p && lockFree && listDone

/-- The next command of a port: the lowest class, the oldest within it (R117). -/
def State.bcNext (s : State) (p : Nat) : Option BcCmd :=
  let q := (s.port p).queue.filter (s.bcMay p)
  (List.range 8).findSome? fun k => q.find? fun c => c.cls == k

/-! ## Interrupts of a port (R414) -/

def State.hpIntr (s : State) (p cause arg : Nat) : State := s.intrEvent p cause arg

/-- The fields of PCTL (R141). -/
def State.putPctl (s : State) (p v : Nat) : State :=
  let w := BitVec.ofNat 32 v
  s.setFlds [(HP.PCTL_ALLOW_UNAUTH p, getBits w 0 0), (HP.PCTL_RSPTO p, getBits w 15 8), (HP.PCTL_REAUTH p, getBits w 23 16)]

/-- PSTATE set; a port that leaves STREAMING takes a waiting PCTL at once (R141). -/
def State.setPstate (s : State) (p st : Nat) : State :=
  let s := match (s.port p).pctlNext with
    | some v => if s.pstate p = psStreaming ∧ st ≠ psStreaming then (s.setPort p { s.port p with pctlNext := none }).putPctl p v else s
    | none => s
  s.setFld (HP.PSTAT_PSTATE p) st

/-! ## Posted-write errors (R404) -/

/-- A posted write failed: captured while VALID is 0, counted otherwise, with a message and a fault (R404). -/
def State.pwFail (s : State) (tag addr code detail scope : Nat) : State :=
  let s :=
    if s.flag BRG.PWERRH_VALID then s.bump BRG.PWERRT_LOST 1
    else s.setFlds [(BRG.PWERRL_ADDRL, addr), (BRG.PWERRH_ADDRH, addr / 2 ^ 32), (BRG.PWERRH_CODE, code),
      (BRG.PWERRH_DETAIL, detail), (BRG.PWERRH_VALID, 1), (BRG.PWERRT_TAG, tag)]
  let s := if code = 0x0B then s.bump BRG.CNT1_REFUSED 1 else s
  let s := s.intrEvent 0x202 1 (packArg [(8, code), (8, detail), (16, scope)])
  s.report 0x0901 scope (packArg [(16, code), (16, scope)])

/-! ## Head time (R153, R155) -/

/-- TSU time to head time by the offset and rate in use and Tref, rounded half up (R153). The offset is in 2^-16 ns. -/
def PortSt.toHead (x : PortSt) (t : Nat) : Nat :=
  let b := max x.rate.2 1
  let n := ((t : Int) * 65536 + x.offset) * (b : Int) + ((t : Int) - (x.tref : Int)) * x.rate.1
  (roundDiv n (65536 * b) % (2 ^ 64 : Nat)).toNat

/-- Head time to TSU time: the inverse of the relation of R153. -/
def PortSt.toTsu (x : PortSt) (h : Nat) : Nat :=
  let b : Int := ((max x.rate.2 1 : Nat) : Int)
  -- h·65536 = t·65536 + offset + (t − tref)·a/b, solved for t over the common denominator
  let num : Int := ((h : Int) * 65536 - x.offset) * b + (x.tref : Int) * x.rate.1
  let den : Int := 65536 * b + x.rate.1
  if den ≤ 0 then h else (roundDiv num den.toNat % (2 ^ 64 : Nat)).toNat

/-- Half of an integer as a fraction in 2^-16 ns. -/
def halfFix (v : Int) : Int := v * 32768

/-- A TSYNC exchange taken (R153, R154): its offset and round trip, its acceptance against the last 16, and the offset, rate
and Tref in use after it. The window of the rate slides with every exchange, accepted or not. -/
def PortSt.exchange (x : PortSt) (asym : Int) (t1 t2 t3 t4 : Nat) : PortSt :=
  let i := fun n : Nat => (n : Int)
  let off := halfFix ((i t2 - i t1) - (i t4 - i t3) + asym)
  let rtt := (i t4 - i t1) - (i t3 - i t2)
  let least := (x.tsync.take 15).foldl (fun a e => if e.rtt < a then e.rtt else a) rtt
  let ok := decide (rtt ≤ least + 10)
  let h := (⟨t1, off, rtt, ok⟩ : Tsync) :: x.tsync
  let h := (h.take 16) ++ (h.drop 16).filter fun e => decide (t1 ≤ e.t1 + 8000000000)
  let win := h.filter fun e => e.accepted && decide (t1 ≤ e.t1 + 8000000000)
  let rate : Int × Nat := match win.head?, win.getLast? with
    | some new, some old => if new.t1 = old.t1 then (0, 1) else (new.offset - old.offset, new.t1 - old.t1)
    | _, _ => x.rate
  let x := { x with tsync := h, rate := rate }
  if ok then { x with offset := off, tref := t1, tsyncAt := t4, stale := false } else x

/-! ## Descriptor checks (R124, R125) -/

/-- Indices of the defects a list of slots marks, from a base; none where a slot is a plain escape (R124). -/
def defectIdx (base : Nat) : List Nat → List Nat
  | [] => []
  | 0 :: r => defectIdx (base + 65536) r
  | d :: r => (base + d - 1) :: defectIdx (base + d) r

/-- The raster indices of the defects of a descriptor. The base counts from one below the first pixel, kept here one
higher. An escape slot marks nothing, so that one which carries the base beyond the raster with no mark after it makes no
descriptor invalid (DESIGN CHOICE, log entry 199). -/
def descDefects (d : List Byte) : List Nat :=
  defectIdx 0 ((List.range (fieldAt d 0x402 2)).map fun i => fieldAt d (0x410 + 2 * i) 2)

/-- The reserved bytes of a descriptor (R123, R125): offset and size. -/
def descReserved : List (Nat × Nat) :=
  [(0x006, 2), (0x00C, 4), (0x048, 24), (0x068, 24), (0x090, 32), (0x0B3, 1), (0x0B8, 8), (0x1D0, 16), (0x3EA, 22), (0x404, 12),
   (0xD71, 15)] ++ (List.range 16).map fun i => (0xC8 + 16 * i, 8)

/-- The static CRC of a descriptor: over 0x000 to 0xF7F with SCRC taken as zero (R123). -/
def descCrc (d : List Byte) : Nat := crc32 (bytesAt d 0 8 ++ [0, 0, 0, 0] ++ bytesAt d 12 (0xF80 - 12))

/-- A descriptor that R125 accepts. -/
def descGood (d : List Byte) : Bool :=
  let ver := fieldAt d 4 2
  let n := fieldAt d 0x400 2
  let slots := fieldAt d 0x402 2
  let bits := fieldAt d 0x65 1
  fieldAt d 0 4 == 0x44484B43 && decide (1 ≤ ver ∧ ver < 256) && fieldAt d 8 4 == descCrc d && decide (fieldAt d 0x64 1 ≤ 6)
    && [8, 10, 12, 14, 16].contains bits && decide (n ≤ 1024 ∧ slots ≤ 1152 ∧ n ≤ slots)
    && (descDefects d).all (fun i => decide (i < fieldAt d 0x60 2 * fieldAt d 0x62 2))
    && (ver != 1 || (descReserved.all (fun r => allZero d r.1 r.2) && decide (fieldAt d 0x44 4 < 32)))

/-- The expected head of a set compared with a descriptor: SENSOR, CFA, BITS, AWIDTH, AHEIGHT (R139, R461). -/
def expectedGood (e d : List Byte) : Bool :=
  e == [] || (bytesAt e 0 16 == bytesAt d 0x30 16 && fieldAt e 16 1 == fieldAt d 0x64 1 && fieldAt e 17 1 == fieldAt d 0x65 1
    && fieldAt e 18 2 == fieldAt d 0x60 2 && fieldAt e 20 2 == fieldAt d 0x62 2)

/-! ## Wear (R129 to R132) -/

/-- The check of the wear region's own CRC (R129). -/
def wearGood (w : List Byte) : Bool := fieldAt w 0x5C 4 == crc32 (bytesAt w 0 0x5C)

/-- A wear region with fields replaced and its CRC computed: (offset, size, value). -/
def wearWith (w : List Byte) : List (Nat × Nat × Nat) → List Byte
  | [] => bytesAt w 0 0x5C ++ leBytes 4 (crc32 (bytesAt w 0 0x5C))
  | (o, n, v) :: r => wearWith (bytesAt w 0 o ++ leBytes n v ++ bytesAt w (o + n) (96 - o - n)) r

/-- WSTATE of a wear region as it reads: 4 to 255 as IN-LIFE (R129). -/
def wearState (w : List Byte) : Nat := if fieldAt w 0x0E 1 ≤ 3 then fieldAt w 0x0E 1 else 1

/-- Whether a count reaches a share of a rated limit; a limit of 0 is not rated. -/
def reached (v limit num den : Nat) : Bool := limit != 0 && decide (limit * num ≤ v * den)

/-- WSTATE evaluated from the counts of a region and the ratings of a descriptor (R131); it never moves backwards. -/
def wearNext (d w : List Byte) : Nat :=
  let m := fieldAt w 4 4
  let c := fieldAt w 8 4
  let l := fieldAt w 0x0C 2
  let rm := 60 * fieldAt d 0x3E0 4
  let rc := fieldAt d 0x3E4 4
  let rl := fieldAt d 0x3E8 2
  let v :=
    if m < 60 then 0
    else if reached m rm 1 1 || reached c rc 1 1 || reached l rl 1 1 then 3
    else if reached m rm 9 10 || reached c rc 9 10 || reached l rl 9 10 then 2
    else 1
  max v (wearState w)

/-! ## The ledger (R133) -/

/-- The ledger entry of a serial, if the device holds one. -/
def State.ledgerOf (s : State) (serial : List Byte) : Option LedgerEntry := s.ledger.find? fun e => e.serial == serial

/-- A ledger with an entry renewed or added; a full ledger loses the removed head least recently seen (R133). -/
def ledgerPut (l : List LedgerEntry) (e : LedgerEntry) : List LedgerEntry :=
  if l.any fun x => x.serial == e.serial then
    l.map fun x => if x.serial == e.serial then { e with firstSeen := x.firstSeen } else x
  else if l.length < 1024 then l ++ [e]
  else
    let old := (l.filter fun x => !x.attached).foldl (fun (a : Option LedgerEntry) x => match a with
      | none => some x
      | some y => if x.lastSeen < y.lastSeen then some x else a) none
    match old with
    | some o => l.filter (fun x => x.serial != o.serial) ++ [e]
    | none => l

/-- The ledger entry of a port's head renewed, or made as the head is admitted; a head that goes keeps its authentication result
and wear region where the port has none newer (R133). -/
def State.ledgerSee (s : State) (p : Nat) (attached : Bool) : State :=
  let x := s.port p
  let serial := bytesAt x.desc 0x20 16
  let old := s.ledgerOf serial
  if x.desc.length < 4096 ∨ (attached = false ∧ old.isNone = true) then s
  else
    let auth := s.fld (HP.PSTAT_AUTH p)
    let e : LedgerEntry :=
      { serial := serial, model := bytesAt x.desc 0x10 16, port := p, firstSeen := s.clock, lastSeen := s.clock,
        auth := if auth = 0 then (old.map (·.auth)).getD 0 else auth,
        wear := if x.wear = [] then (old.map (·.wear)).getD [] else x.wear, attached := attached }
    { s with ledger := ledgerPut s.ledger e }

/-- A port with no head enumerated shows none (R140, R142). -/
def State.hideHead (s : State) (p : Nat) : State :=
  s.setFlds ([(HP.PSTAT_DVER p, 0), (HP.PSTAT_HITLESS p, 0), (HP.PSTAT_MASTER p, 0), (HP.PSTAT_AUTH p, 0), (HP.PSTAT_WEAR p, 0)]
    ++ (List.range 4).map fun k => (HP.HSERIAL_SER p k, 0))

end Sys2Proof.Machine
end

