-- ==== Sys2Proof/Machine/Time.lean ====
section
/-!
DEFINITION. The time stamp unit: the discipline loop, holdover, slews and steps, PPS_OUT, the SYNC pins, the schedule of
TSYNC and of triggers (spec/05_time.md R143 to R161).
-/
namespace Sys2Proof.Machine

/-! ## The counter (R143) -/

/-! ## States of the TSU (R146) -/

def tuUnset : Nat := 0
def tuFree : Nat := 1
def tuAcquire : Nat := 2
def tuLocked : Nat := 3
def tuHoldover : Nat := 4

/-- Seconds in HOLDOVER, as HOLDSEC shows them (R148, R161). -/
def State.holdSec (s : State) : Nat :=
  if s.fld TSU.DSTAT_STATE = tuHoldover then min ((s.now - s.tsu.holdAt) / 1000000000) 65535 else s.fld TSU.DSTAT_HOLDSEC

/-- A state entered; a change sends the TSU's message with the new DSTAT (R414). Outside HOLDOVER pps-lost may be raised again
(R150). -/
def State.tsuState (s : State) (st : Nat) : State :=
  let s' := (s.setFld TSU.DSTAT_HOLDSEC s.holdSec).setFld TSU.DSTAT_STATE st
  let s' := if st = tuHoldover then s' else { s' with tsu := { s'.tsu with lostRep := false } }
  if s.fld TSU.DSTAT_STATE = st then s' else s'.intrEvent 0x203 1 (s'.reg TSU.DSTAT).toNat

/-- INC of an adjustment in ppb (R148). -/
def incOf (adj : Int) : Nat := (roundDiv (0x0D555555 * (1000000000 - adj)) 1000000000).toNat

/-- INC set from the loop's adjustment and the slew in progress (R148, R149). -/
def State.setInc (s : State) (adj : Int) : State :=
  let k : Int := if s.fld TSU.DSTAT_SLEWING = 0 then 0 else if s.tsu.slew > 0 then 100000 else -100000
  { s with tsu := { s.tsu with adj := adj } }.setFld TSU.INC_INC (incOf (adj + k))

/-- A slew of an offset begins: positive where the TSU runs ahead (R149). -/
def State.startSlew (s : State) (e : Int) : State :=
  let s := { s with tsu := { s.tsu with slew := e } }
  (s.setFld TSU.DSTAT_SLEWING 1).setInc s.tsu.adj

/-- A slew ends, and INC returns to the value set by the loop (R149, R151). -/
def State.stopSlew (s : State) : State :=
  let s := { s with tsu := { s.tsu with slew := 0 } }
  (s.setFld TSU.DSTAT_SLEWING 0).setInc s.tsu.adj

/-- HOLDOVER entered: INC from integ alone, so that a slew in progress ends (R148; log entry 196). The run of outliers goes on
(R149). -/
def State.holdover (s : State) : State :=
  if s.fld TSU.DSTAT_STATE = tuHoldover then s
  else
    let s := { s with tsu := { s.tsu with holdAt := s.now, good := 0, slew := 0 } }.setFld TSU.DSTAT_SLEWING 0
    (s.tsuState tuHoldover).setInc s.tsu.integ

/-- HOLDOVER because no edge has been accepted for 1,500 ms at a TSU time (R146); while an accepted jump is slewed its edges are
awaited (R149). -/
def State.holdDue (s : State) (t : Nat) : State :=
  let st := s.fld TSU.DSTAT_STATE
  if (st = tuAcquire ∨ st = tuLocked) ∧ s.fld TSU.DSTAT_SLEWING = 0 ∧ s.tsu.change.isNone
      ∧ s.tsu.accepted.any (fun a => decide (a + 1500000000 ≤ t)) = true then s.holdover
  else s

/-- What a step does on an empty queue (log entry 30): one ECLK while the TSU runs, in which the counter adds INC and HOLDOVER is entered where it is due (R146); else one
period of the keeper's 25 MHz oscillator, 40 ns, by which the shadow advances (R145). -/
def State.tick (s : State) : State :=
  if s.tsu.running then
    let s := { s with tsu := { s.tsu with now := (s.tsu.now + s.fld TSU.INC_INC) % 2 ^ 92 } }
    s.holdDue s.now
  else if s.sys.vio then { s with keeper := { s.keeper with shadow := (s.keeper.shadow + 40) % 2 ^ 64 } }
  else s

/-! ## Steps (R151) -/

/-- The target of a TRIGGER not yet answered moved by a step (R151). -/
def Origin.shiftTarget (d : Int) : Origin → Origin
  | .trigger g t fn => .trigger g ((t : Int) + d).toNat fn
  | o => o

/-- A port's pending trigger targets moved by a step (R151). -/
def PortSt.shiftTargets (x : PortSt) (d : Int) : PortSt :=
  { x with queue := x.queue.map fun c => { c with origin := c.origin.shiftTarget d }
           out := x.out.map fun (o : BcOut) => { o with cmd := { o.cmd with origin := o.cmd.origin.shiftTarget d } }
           trigs := x.trigs.map fun (e : Nat × Nat) => (((e.1 : Int) + d).toNat, e.2) }

/-- A WAIT of a DMA channel after a time step: a delay and a timeout count time that passes, KIND 2 the TSU's own time (R563). -/
def DmaWait.shift (w : DmaWait) (mv : Nat → Nat) : DmaWait :=
  { w with ends := if w.kind = 3 then mv w.ends else w.ends, tmo := w.tmo.map mv }

/-- A step of so many ns (R151): nothing for 0; else the time moves, with trigger targets and ingest watchdogs, the slew
and any PPS_OUT pulse end, and the next frame of every stream is marked. -/
def State.timeStep (s : State) (d : Int) (whole : Bool) : State :=
  if d = 0 then s
  else
    let t := ((s.tsu.now : Int) + d * 2 ^ 28).toNat
    let t := if whole then t / 2 ^ 28 * 2 ^ 28 else t
    let mv := fun (x : Nat) => ((x : Int) + d).toNat
    let s := { s with
      tsu := { s.tsu with now := t % 2 ^ 92, shift := s.tsu.shift + d, lastEdge := s.tsu.lastEdge.map mv, accepted := s.tsu.accepted.map mv,
                          holdAt := mv s.tsu.holdAt, outliers := [], trigFrom := s.tsu.trigFrom.map fun (e : Nat × Nat) => (e.1, mv e.2),
                          capLast := s.tsu.capLast.map (fun (e : Nat × Nat) => (e.1, mv e.2)),
                          syncEnd := s.tsu.syncEnd.map fun (e : Nat × Nat) => (e.1, mv e.2) }
      ports := s.ports.map fun (e : Nat × PortSt) => (e.1, e.2.shiftTargets d)
      ingests := s.ingests.map fun (e : Nat × Ingest) =>
        (e.1, { e.2 with frame := e.2.frame.map (fun (f : Frame) => { f with wdShift := f.wdShift + d }),
                         openLine := e.2.openLine.map fun (l : Nat × Nat × Nat) => (l.1, l.2.1, mv l.2.2) })
      sys := { s.sys with hotAt := s.sys.hotAt.map (fun (e : Nat × Nat) => (e.1, mv e.2)), coolAt := s.sys.coolAt.map (fun (e : Nat × Nat) => (e.1, mv e.2)),
                          critAt := s.sys.critAt.map fun (e : Nat × Nat) => (e.1, mv e.2) }
      dma := s.dma.map fun (e : Nat × Dma) => (e.1, { e.2 with wait := e.2.wait.map fun (w : DmaWait) => w.shift mv })
      cans := s.cans.map fun (e : Nat × CanSt) => (e.1, { e.2 with headAt := mv e.2.headAt })
      cams := s.cams.map fun (e : Nat × Cam) => (e.1, { e.2 with timeStep := true, stepD := e.2.stepD + d })
      lats := s.lats.map fun (e : Nat × LatSt) => (e.1, { e.2 with lastT := e.2.lastT.map mv, frames := e.2.frames.map fun (f : LatFrame) =>
        { f with target := mv f.target, dead := mv f.dead, limit := mv f.limit, tref := mv f.tref } })
      streams := s.streams.map fun (e : Nat × StreamSt) => (e.1, if e.1 < 0x600 then e.2 else { e.2 with timeStep := true }) }
    (s.drivePps false).stopSlew.report 0x0403 0 (unsigned 64 d)

/-- The time set to whole seconds at once (R151). -/
def State.setSeconds (s : State) (sec : Nat) : State := s.timeStep (((sec * 1000000000 : Nat) : Int) - (s.now : Int)) true

/-- A time that TIME_SET or TIME_STEP sets, applied: DELTA and WHEN answered (R151, R454). In a streaming mode a TIME_SET of more
than 1 ms is refused and a smaller one slewed; TIME_STEP leaves HOLDOVER for ACQUIRE (R146). -/
def State.applySet (s : State) (r : Req) (sec when_ : Nat) : State :=
  let d : Int := ((sec * 1000000000 : Nat) : Int) - (s.now : Int)
  let slews := r.opcode = 0x0A01 ∧ s.mode.streaming = true
  let ans := fun (s : State) (w : Nat) => s.done r (layout [(8, unsigned 64 d), (1, w)])
  if slews ∧ (d < -1000000 ∨ 1000000 < d) then s.refuse r 0x0A01 0
  else
    let st := s.fld TSU.DSTAT_STATE
    let s := s.setFld TSU.DSTAT_TIMEVALID 1
    let s := if st = tuUnset then s.tsuState tuFree else s
    let s := if r.opcode = 0x0A02 ∧ st = tuHoldover then State.tsuState { s with tsu := { s.tsu with held := none } } tuAcquire else s
    if slews then ans (if d = 0 then s else s.startSlew (-d)) 2 else ans (s.setSeconds sec) when_

/-! ## PPS edges (R147 to R149) -/

/-- e of a captured time: the time less the nearest whole second (R147). -/
def edgeError (t : Nat) : Int := (((t + 500000000) % 1000000000 : Nat) : Int) - 500000000

/-- The loop (R148); divisions truncate toward zero. -/
def State.loopRun (s : State) (e : Int) : State :=
  let integ := clamp (-100000) 100000 (s.tsu.integ + e.tdiv 16)
  let adj := clamp (-100000) 100000 (integ + e.tdiv 2)
  { s with tsu := { s.tsu with integ := integ } }.setInc adj

/-- An accepted jump (R149): slewed up to 1 ms, stepped at the next edge where no frames are delivered, else HOLDOVER with
pps-jump until TIME_STEP. -/
def State.acceptJump (s : State) (e : Int) (cap : Nat) : State :=
  let s := { s with tsu := { s.tsu with outliers := [], good := 0 } }
  let ok := fun (s : State) => State.setFld { s with tsu := { s.tsu with accepted := some cap } } TSU.DSTAT_TIMEVALID 1
  if -1000000 ≤ e ∧ e ≤ 1000000 then ((ok s).tsuState tuAcquire).startSlew e
  else if s.mode.streaming then
    let h := s.holdover
    { h with tsu := { h.tsu with held := some e } }.report 0x0401 0 (unsigned 64 e)
  else
    let a := (ok s).tsuState tuAcquire
    { a with tsu := { a.tsu with change := some (.jump e) } }

/-- A valid edge that is no outlier (R146, R148). -/
def State.goodEdge (s : State) (e : Int) (cap : Nat) : State :=
  let st := s.fld TSU.DSTAT_STATE
  let near := decide (-20 ≤ e ∧ e ≤ 20)
  let good := if near then s.tsu.good + 1 else 0
  let s := { s with tsu := { s.tsu with outliers := [], good := good, accepted := some cap, held := none } }
  let s := (s.setFld TSU.DSTAT_TIMEVALID 1).loopRun e
  let st' :=
    if st = tuLocked then (if -100 ≤ e ∧ e ≤ 100 then tuLocked else tuAcquire)
    else if st = tuAcquire then (if 8 ≤ good then tuLocked else tuAcquire)
    else tuAcquire
  s.tsuState st'

/-- A valid outlier (R149): LOCKED is left (R146); it is accepted with two before it that agree, at once from UNSET or FREE,
never while a jump is held. -/
def State.outlier (s : State) (e : Int) (cap : Nat) : State :=
  let st := s.fld TSU.DSTAT_STATE
  let s := s.bump TSU.PCNT_OUTLIER 1
  let s := if st = tuLocked then s.tsuState tuAcquire else s
  let run := (e :: s.tsu.outliers).take 3
  let agree := run.length == 3 && run.all fun a => run.all fun b => decide (a - b ≤ 1000 ∧ b - a ≤ 1000)
  if s.tsu.held.isSome then s
  else if st = tuUnset ∨ st = tuFree ∨ agree then s.acceptJump e cap
  else { s with tsu := { s.tsu with outliers := run.take 2, good := 0 } }

/-- A pending change at a valid edge: the edge counts as it is, in the loop or as an outlier, and the change is applied at it
(R148, R149, R151). -/
def State.changeEdge (s : State) (c : TimeChange) (e : Int) (cap : Nat) : State :=
  let s := if -1000 ≤ e ∧ e ≤ 1000 then s.goodEdge e cap else { s with tsu := { s.tsu with accepted := some cap } }.bump TSU.PCNT_OUTLIER 1
  let s := { s with tsu := { s.tsu with change := none } }
  match c with
  | .jump j => s.timeStep (-j) false
  | .set sec ch op tag =>
    match s.running ch op tag with
    | some r => s.applySet r sec 1
    | none => s

/-- PPS_EDGE: captured at a TSU time, its level held at least 100 ns or not (R147 to R151). -/
def State.ppsEdge (s : State) (cap : Nat) (wide : Bool) : State :=
  let late := match s.tsu.lastEdge with
    | some l => decide (l + 900000000 ≤ cap)
    | none => true
  if !wide || !late then s.bump TSU.PCNT_PPSBAD 1
  else
    let e := edgeError cap
    let s := s.holdDue cap
    let s := { s with tsu := { s.tsu with lastEdge := some cap } }.setFld TSU.PHERR_E (unsigned 32 e)
    match s.tsu.change with
    | some c => s.changeEdge c e cap
    | none => if -1000 ≤ e ∧ e ≤ 1000 then s.goodEdge e cap else s.outlier e cap

/-- PPS_EDGE. -/
def execPpsEdge (captured : BitVec 64) (wide : Bool) (s : State) : Out :=
  .next (if s.tsu.running && !s.pinsTaken && s.flag TSU.DCTL_PPS_EN then s.ppsEdge captured.toNat wide else s)

/-- PPS_LOSS: 1,500 ms without a valid edge: HOLDOVER, and pps-lost once while it lasts (R150). -/
def execPpsLoss (s : State) : Out :=
  let st := s.fld TSU.DSTAT_STATE
  .next (if s.tsu.running && (st == tuAcquire || st == tuLocked || (st == tuHoldover && !s.tsu.lostRep)) then
      let s := s.holdover
      { s with tsu := { s.tsu with lostRep := true } }.report 0x0402 0 0
    else s)

/-- SLEW_END (R149). -/
def execSlewEnd (s : State) : Out := .next (if s.fld TSU.DSTAT_SLEWING = 0 then s else s.stopSlew)

/-- PPS_OUT_PULSE: at a whole second of TSU.NOW, in the modes that drive it (R67, R152). -/
def execPpsOutPulse (s : State) : Out :=
  .next (if s.mode.full && s.mode != .service && s.tsu.running && s.flag TSU.DCTL_PPSOUT_EN && s.flag TSU.DSTAT_TIMEVALID then s.drivePps true else s)

/-- PPS_OUT_PULSE_END: after PPSOUT_W ms (R152). -/
def execPpsOutPulseEnd (s : State) : Out := .next (s.drivePps false)

/-! ## Head time (R154) -/

/-- TSYNC_SCHEDULE (R154): the eight exchanges of ENUMERATING, then one every 125 ms while READY or STREAMING. -/
def execTsyncSchedule (port : Port) (s : State) : Out :=
  let p := port.val
  let x := s.port p
  let st := s.pstate p
  let cmd : BcCmd := ⟨bcTsync, 0, [], 4, .tsync 0⟩
  .next (if !s.domainOn .pixel then s
    else if st = psEnum ∧ 0 < x.enumTsync then (s.setPort p { x with enumTsync := x.enumTsync - 1 }).bcQueue p cmd
    else if st = psReady ∨ st = psStreaming then s.bcQueue p cmd
    else s)

/-- HEAD_TIME_STALE: once per episode on a streaming port (R154). -/
def execHeadTimeStale (port : Port) (s : State) : Out :=
  let p := port.val
  let x := s.port p
  .next (if s.pstate p = psStreaming ∧ !x.stale then (s.setPort p { x with stale := true }).report 0x2019 p 0 else s)

/-! ## Triggers (R156, R157) -/

/-- The set active at a TSU time (R157): a flip whose sets are swapped and that waits for the partner has made its set active
(R468, R503). -/
def State.setAt (s : State) (t : Nat) : CfgSet :=
  match s.cfg.flip with
  | some f => if f.tdone = 0 ∧ f.epoch.any (fun e => decide (e ≤ t)) = true then s.cfg.shadow else s.cfg.active
  | none => s.cfg.active

/-- The moment at which triggering of a member began, or begins with the epoch of the flip that first makes the port a member
(R157). -/
def State.trigBegin (s : State) (p : Nat) : Nat :=
  let b := s.tsu.trigFrom.get p 0
  match s.cfg.flip with
  | some f => if f.tdone = 0 ∧ (CfgSet.groupOf s.cfg.active p).isNone then max b (f.epoch.getD 0) else b
  | none => b

/-- A TSU time is a target of a group, the targets moved by the steps since TSU start (R151, R156). -/
def State.isTarget (s : State) (c : CfgSet) (g t : Nat) : Bool :=
  CfgSet.grpDefined c g && CfgSet.grpPeriod c g != 0 &&
    ((t : Int) - s.tsu.shift - (CfgSet.grpPhase c g : Int)) % (CfgSet.grpPeriod c g : Int) == 0

/-- TRIGLAT of the head of a port (R123). -/
def State.trigLat (s : State) (p : Nat) : Nat := fieldAt (s.port p).desc 0x88 4

/-- The generation of the set active at a TSU time (R274). -/
def State.genAt (s : State) (t : Nat) : Nat :=
  match s.cfg.flip with
  | some f => s.fld GLB.CFGGEN_GEN + (if !f.reached && (f.epoch.any fun e => decide (e ≤ t)) then 1 else 0)
  | none => s.fld GLB.CFGGEN_GEN

/-- The lattice frame of a target of group g (R268 to R270, R274), if lattice n takes one and it is not numbered yet. -/
def State.latNumber (s : State) (c : CfgSet) (g t n : Nat) : State :=
  let x := s.lats.get n {}
  let per := CfgSet.grpPeriod c g
  let rdiv := max 1 (CfgSet.fld c 4 n (LT.LCTL_RDIV 0))
  let k := ((t : Int) - s.tsu.shift - (CfgSet.grpPhase c g : Int)) / (per : Int)
  if !CfgSet.latDefined c n || CfgSet.fld c 4 n (LT.LCTL_GROUP 0) != g || k % (rdiv : Int) != 0 || x.lastT.any (fun l => decide (t ≤ l)) then s
  else
    let ld := CfgSet.fld c 4 n (LT.LDEAD_LDEAD 0)
    let d := t + (if ld = 0 then 2 * per else ld)
    let tref := ((t : Int) + CfgSet.sfld c 4 n (LT.LTOFS_TOFS 0)).toNat
    let f : LatFrame := ⟨x.next, t, d, d + per * rdiv, tref, s.genAt t, c, false⟩
    { s with lats := s.lats.set n { x with next := (x.next + 1) % 2 ^ 32, lastT := some t, frames := x.frames ++ [f] } }

/-- TRIGGER_DISPATCH: a TRIGGER for a target is queued for a member that is READY or STREAMING, whose triggering has
begun and whose camera is not dropped or served by the partner (R122, R157, R498, R526). Its target crumb and frame number are
taken as it leaves. The first TRIGGER of a target numbers its lattice frames (R268). -/
def execTriggerDispatch (port : Port) (target : BitVec 64) (s : State) : Out :=
  let p := port.val
  let t := target.toNat
  let c := s.setAt t
  let x := s.port p
  let st := s.pstate p
  .next (match CfgSet.groupOf c p with
    | none => s
    | some g =>
      let leaves := (t : Int) - (s.trigLat p : Int) - (CfgSet.grpLead c g : Int)
      let s := if s.domainOn .pixel && s.isTarget c g t then (List.range 8).foldl (fun s n => s.latNumber c g t n) s else s
      if s.domainOn .pixel && (st == psReady || st == psStreaming) && s.isTarget c g t
          && decide ((s.trigBegin p : Int) ≤ leaves) && !(s.camOf p).dropped && !s.standby p
          && !x.deposed then
        s.bcQueue p ⟨bcTrigger, g, [], 1, .trigger g t 0⟩
      else s)

/-! ## SYNC pins (R159, R160) -/

/-- The lowest-numbered streaming member of a group under a set (R159). -/
def State.firstMember (s : State) (c : CfgSet) (g : Nat) : Option Nat :=
  (List.range 192).find? fun p => CfgSet.groupOf c p == some g && s.pstate p == psStreaming

/-- The TSU time at which the pulse that a target begins on a SYNC output ends (R159): WIDTH after OFFSET, or WIDTH after the end of
exposure of the last line, which counts from the target (log entry 197). -/
def State.syncStop (s : State) (n t : Nat) (c : CfgSet) : Int :=
  let w : Int := s.fld (TSU.SYNCW_WIDTH n)
  if s.fld (TSU.SYNC_MODE n) = 1 then (t : Int) + s.sfld (TSU.SYNCOFS_OFFSET n) + w
  else
    let m := (s.firstMember c (s.fld (TSU.SYNC_GROUP n))).bind fun p => (s.ingests.get p {}).lastStart
    let r : Nat := match m with
      | some (k, l, e) => (k - 1) * l / 256 + e
      | none => 0
    (t : Int) + (r : Int) + w

/-- The target whose pulse begins on a SYNC output at a TSU time within 1 ns (R159), with the set active at it. -/
def State.syncTarget (s : State) (n t : Nat) : Option (Nat × CfgSet) :=
  [0, 1, -1].findSome? fun (d : Int) =>
    let x := ((t : Int) + d - s.sfld (TSU.SYNCOFS_OFFSET n)).toNat
    let c := s.setAt x
    if s.isTarget c (s.fld (TSU.SYNC_GROUP n)) x then some (x, c) else none

/-- SYNC_OUTPUT_EDGE: a pin in PULSE or WINDOW mode begins the pulse of a target, or ends its pulse once the last pulse that has
begun ends: pulses that overlap merge. With no defined group it stays inactive (R68, R159, R160). -/
def execSyncOutputEdge (pin : SyncPin) (begins : Bool) (s : State) : Out :=
  let n := pin.val
  let m := s.fld (TSU.SYNC_MODE n)
  .next (if s.mode.full && s.mode != .service && s.tsu.running && (m == 1 || m == 2) then
      if begins then
        match s.syncTarget n s.now with
        | some (t, c) =>
          let stop := (s.syncStop n t c).toNat
          let stop := if s.sys.syncOut.get n false then max stop (s.tsu.syncEnd.get n 0) else stop
          { s.setSync n true with tsu := { s.tsu with syncEnd := s.tsu.syncEnd.set n stop } }
        | none => s
      else if s.tsu.syncEnd.get n 0 ≤ s.now + 1 then s.setSync n false
      else s
    else s)

/-- SYNC_INPUT_EDGE: an edge captured at a TSU time into the FIFO of 16, or counted as lost; edges within 20 ns of one
captured are one edge (R160). -/
def execSyncInputEdge (pin : SyncPin) (falling : Bool) (time : BitVec 64) (s : State) : Out :=
  let n := pin.val
  let m := s.fld (TSU.SYNC_MODE n)
  let takes := (m == 3 && !falling) || (m == 4 && falling) || m == 5
  let t := time.toNat
  let same := match s.tsu.capLast.has n with
    | true => decide (t < s.tsu.capLast.get n 0 + 20)
    | false => false
  .next (if !s.tsu.running || s.pinsTaken || !takes || same then s
    else
      let q := s.tsu.caps.get n []
      let u := { s.tsu with capLast := s.tsu.capLast.set n t }
      if q.length < 16 then { s with tsu := { u with caps := u.caps.set n (q ++ [(t, falling)]), capOvf := u.capOvf.set n false } }
      else
        let first := !(u.capOvf.get n false)
        let s := { s with tsu := { u with capOvf := u.capOvf.set n true } }.bump (TSU.SYNCST_OVF n) 1
        if first then s.report 0x0405 n 0 else s)

/-- The oldest capture of a pin popped (R161). -/
def State.popCapture (s : State) (n : Nat) : State :=
  { s with tsu := { s.tsu with caps := s.tsu.caps.set n (s.tsu.caps.get n []).tail } }

/-- SCAP_POP: the read of SCAPL gives the low word, snapshots SCAPH on its path and pops the entry (R161, R622). -/
def State.scapRead (s : State) (path : Path) (n : Nat) : Word × State :=
  let w := s.peek (TSU.SCAPL n)
  let s := s.latch path [TSU.SCAPH n]
  (w, s.popCapture n)

/-- SCAP_POP. -/
def execScapPop (path : Path) (pin : SyncPin) (s : State) : Out :=
  if s.domainOn .fabric then
    let r := s.scapRead path pin.val
    .next { r.2 with readOut := r.2.readOut.set path.num (leBytes 4 r.1.toNat) }
  else .next s

/-- SNAP latches TSU.NOW into SNAPL and SNAPH (R161). -/
def State.tsuSnap (s : State) : State := (s.setReg TSU.SNAPL (wordOf s.now 0)).setReg TSU.SNAPH (wordOf s.now 1)

/-- TSU_SNAP. -/
def execTsuSnap (s : State) : Out := .next (if s.domainOn .fabric then s.tsuSnap else s)

/-- KEEPER_SHADOW_COPY: while the TSU runs, its time goes into the shadow every 1 ms (R145). -/
def execKeeperShadowCopy (s : State) : Out :=
  .next (if s.sys.vio && s.tsu.running then { s with keeper := { s.keeper with shadow := s.now } } else s)

end Sys2Proof.Machine
end

