-- ==== Sys2Proof/Machine/Scenes.lean ====
section
/-!
DEFINITION. The scene of a frame: what the slice pipeline takes from the governing set, the head's descriptor and memory
(spec/07_noise.md R193, R195, spec/08_colour.md R216, R218, R223, R243, R244), and the frames of a camera by number.
-/
namespace Sys2Proof.Machine

/-- The configured frame size of a port equals the active size of its head's descriptor (R218, R223). -/
def sizeMatches (c : CfgSet) (p : Nat) (d : List Byte) : Bool :=
  CfgSet.fld c 1 p (HP.INGGEOM_WIDTH 0) == fieldAt d 0x60 2 && CfgSet.fld c 1 p (HP.INGGEOM_HEIGHT 0) == fieldAt d 0x62 2

/-- SHDHDR names the one layout that makes SHADE usable (R123). -/
def shadeHdrGood (d : List Byte) : Bool :=
  fieldAt d 0x1E0 1 == 9 && fieldAt d 0x1E1 1 == 7 && fieldAt d 0x1E2 1 == 4 && fieldAt d 0x1E3 1 == 1

/-- The static defect map of a camera under a set: the descriptor's list where the sizes agree, and the set's (R218). -/
def staticMap (c : CfgSet) (p : Nat) (d : List Byte) : List Nat :=
  let l := CfgSet.item c 2 p 0x8002 []
  (if sizeMatches c p d then descDefects d else [])
    ++ defectIdx 0 ((List.range (fieldAt l 2 2)).map fun i => fieldAt l (4 + 2 * i) 2)

/-- The shading mesh of a camera under a set: the set's with SHDSRC 1, else the descriptor's where it may be used; none for
gain 1.0 (R223). -/
def shadingMesh (c : CfgSet) (p : Nat) (d : List Byte) : Option (Nat × Nat × List Nat) :=
  if CfgSet.flag c 2 p (SL.CLRCTL_SHDSRC 0) then
    let l := CfgSet.item c 2 p 0x8003 []
    let mx := fieldAt l 0 1
    let my := fieldAt l 1 1
    some (mx, my, (List.range (4 * mx * my)).map fun i => fieldAt l (8 + 2 * i) 2)
  else if shadeHdrGood d && sizeMatches c p d then
    some (9, 7, (List.range 252).map fun i => fieldAt d (0x1E8 + 2 * i) 2)
  else none

/-- The scene of a frame of a port: calibration read poisoned for the frame is left out (R244). -/
def State.scene (s : State) (p : Nat) (f : Frame) : Scene :=
  let d := (s.port p).desc
  let c := f.set
  let t := modelTable c p d
  { f := f, port := p, cfa := fieldAt d 0x64 1, bits := fieldAt d 0x65 1, noise := noiseAt t f.gain,
    base := if CfgSet.flag c 2 p (SL.CLRCTL_BLKDESC 0) then blackAt t f.gain else 0,
    smap := if f.bypass.contains 1 then [] else staticMap c p d,
    mesh := if f.bypass.contains 0 then none else shadingMesh c p d,
    mem := s.mem, poison := s.memx.poison ++ f.badReads }

/-- A frame of a port by number: the open one, or one still in a slice pipeline. -/
def State.frameOf (s : State) (p fn : Nat) : Option Frame :=
  match (s.ingests.get p {}).frame with
  | some f => if f.fn = fn then some f else (s.camOf p).frames.find? fun x => x.fn == fn
  | none => (s.camOf p).frames.find? fun x => x.fn == fn

/-- The open frame of a port, or the newest one in a slice. -/
def State.openFrame (s : State) (p : Nat) : Option Frame := (s.ingests.get p {}).frame

/-- The frames of a camera that a slice is processing, oldest first, the open one last. -/
def State.slFrames (s : State) (p sl : Nat) : List Frame :=
  let l := (s.camOf p).frames.reverse ++ (s.openFrame p).toList
  l.filter fun f => f.slice == some sl && f.skipWhy == 0

end Sys2Proof.Machine
end

