-- ==== Sys2Proof/Machine/EngineSystem.lean ====
section
/-!
DEFINITION. Taps, sensor commands, the parameter queue, events, the engine mover and what happens to an engine from outside:
watchdog, restart request, memory read (spec/12_slice_engines.md R338, R347 to R359, R367).
-/
namespace Sys2Proof.Machine

/-! ## Taps (R347, R353 to R357) -/

def Eng.tap (e : Eng) (scaler : Bool) : TapSt := if scaler then e.tapS else e.tapD
def Eng.setTap (e : Eng) (scaler : Bool) (t : TapSt) : Eng := if scaler then { e with tapS := t } else { e with tapD := t }

/-- The fields of a tap's registers. -/
def tapEnFld (scaler : Bool) (sl : Nat) : Fld := if scaler then SL.ENGCTL_TAPS_EN sl else SL.ENGCTL_TAPD_EN sl
def tapBypFld (scaler : Bool) (sl : Nat) : Fld := if scaler then SL.TAPSTAT_BYPS sl else SL.TAPSTAT_BYPD sl
def tapCfg (scaler : Bool) (sl : Nat) : Nat := if scaler then SL.TAPCFGS sl else SL.TAPCFGD sl

/-- The frame at a tap of a slice. -/
def State.tapFrame (s : State) (sl : Nat) (scaler : Bool) : Option Frame :=
  s.frameOf (s.eng sl).cam ((s.eng sl).tap scaler).fn

/-- Width of the lines of a plane at a tap: the frame's, or the warped output's with chroma at half width (R280, R355). -/
def Scene.tapWidth (c : Scene) (scaler : Bool) (plane : Nat) : Nat :=
  if scaler then (if c.warped && (plane == 1 || plane == 2) then (c.inW + 1) / 2 else c.inW) else c.f.width

/-- The format whose warp source plane a scaler tap takes: that of the lowest enabled output. -/
def Scene.tapFmt (c : Scene) : Nat :=
  match (List.range 4).find? fun k => CfgSet.flag c.f.set 3 (sidOf c.port k) (SL.OCTL_EN 0 k) with
  | some k => CfgSet.fmtOf c.f.set c.port k
  | none => 0

/-- A sample as a tap presents it (R280, R355). -/
def Scene.popped (c : Scene) (scaler : Bool) (plane x y : Nat) : Nat :=
  if scaler then (if c.warped then c.warpSample c.tapFmt plane x y else c.out15 plane x y) else c.tapPop plane x y

/-- TAP_LINE_AVAILABLE: a line of a frame reaches a tap; TLINED or TLINES is posted (R353). -/
def execTapLineAvailable (sl : Slice) (scaler : Bool) (fn : Word) (line : BitVec 13) (s : State) : Out :=
  let e := s.eng sl
  let t := e.tap scaler
  let y := line.toNat
  .next (match (s.slFrames e.cam sl).find? fun f => f.fn == fn.toNat with
    | none => s
    | some f =>
      let h := if scaler then (s.scene e.cam f).inH else f.height
      if h ≤ y then s
      else
        let st := f.lstate (min y (f.height - 1))
        let t := { t with fn := f.fn, ready := t.ready ++ [(y, y + 1 == h, st)] }
        (s.setEng sl (e.setTap scaler t)).post sl (if scaler then evTlines else evTlined) [y, st])

/-- TLINE: the next line at a tap; its event latch empties (R347, R354). -/
def execEngTline (sl : Slice) (scaler : Bool) (sd : BitVec 5) (s : State) : Out :=
  .next (s.engIssue sl 1 fun s e =>
    let t := e.tap scaler
    match t.ready with
    | [] => (s, .again)
    | (y, last, st) :: r =>
      let t := { t with ready := r, line := some y, popped := [] }
      let e := (e.setTap scaler t).sset sd (BitVec.ofNat 32 (packArg [(14, y), (1, b2n last), (1, 0), (8, st)]))
      (s.setEng sl { e with latch := e.latch.drop (if scaler then evTlines else evTlined), fed := s.now }, .seq))

/-- Whether a tap access names an enabled tap and a plane of its mask that the tap has (R347). -/
def State.tapAllows (s : State) (sl : Nat) (scaler : Bool) (plane lo : Nat) : Bool :=
  s.flag (tapEnFld scaler sl) && bit (getBits (s.reg (tapCfg scaler sl)) 15 0) (lo + plane) && (scaler || decide (plane < 4))

/-- TPOP: the next group of 16 samples of a plane. Samples past the end of the line are free values (R347, R355; log
entry 1). -/
def execEngTpop (sl : Slice) (scaler : Bool) (vd : BitVec 3) (plane : Fin 8) (s : State) : Out :=
  .next (s.engIssue sl 1 fun s e =>
    let t := e.tap scaler
    let p := plane.val
    if !s.tapAllows sl scaler p 0 then (s, .trap 6)
    else
      match t.line, s.tapFrame sl scaler with
      | some y, some f =>
        let c := s.scene e.cam f
        let w := c.tapWidth scaler p
        let g := t.popped.get p 0
        if ceilDiv w 16 ≤ g then (s, .trap 6)
        else
          let v := lanes fun i =>
            if 16 * g + i < w then BitVec.ofNat 16 (c.popped scaler p (16 * g + i) y)
            else BitVec.ofNat 16 ((Config.freeValue (s.fresh + i / 4)).toNat >>> (16 * (i % 4)))
          let s := if 16 * g + 16 ≤ w then s else { s with fresh := s.fresh + 4 }
          (s.setEng sl ((e.setTap scaler { t with popped := t.popped.set p (g + 1) }).vset vd v), .seq)
      | _, _ => (s, .again))

/-- TPUSH: a group returned, discarded while the tap is in bypass; an index is clamped (R347, R355, R357). -/
def execEngTpush (sl : Slice) (scaler : Bool) (vd : BitVec 3) (plane : Fin 8) (s : State) : Out :=
  .next (s.engIssue sl 1 fun s e =>
    let t := e.tap scaler
    let p := plane.val
    if !s.tapAllows sl scaler p 8 then (s, .trap 6)
    else
      match t.line with
      | none => (s, .again)
      | some y =>
        if t.bypass then (s, .seq)
        else
          let v := (e.vget vd).map fun x =>
            if scaler ∧ p = 7 then unsigned 16 (clamp (-128) 127 x.toInt) else x.toNat
          let key := tapKey (b2n scaler) p y
          let k := fun f : Frame => { f with taps := f.taps.set key (f.taps.get key [] ++ v) }
          (s.onFrame e.cam t.fn k, .seq))

/-- TSTAT: groups per line and the bypass state (R347). -/
def execEngTstat (sl : Slice) (scaler : Bool) (sd : BitVec 5) (s : State) : Out :=
  .next (s.engIssue sl 1 fun s e =>
    let w := match s.tapFrame sl scaler with
      | some f => (s.scene e.cam f).tapWidth scaler 0
      | none => CfgSet.fld (s.setFor e.cam) 1 e.cam (HP.INGGEOM_WIDTH 0)
    (s.setEng sl (e.sset sd (BitVec.ofNat 32 (packArg [(10, ceilDiv w 16), (6, 0), (1, b2n (e.tap scaler).bypass)]))), .seq))

/-- TAP_UNDERRUN: the tap enters bypass for the rest of the frame; counted, flagged and reported (R294, R357). -/
def execTapUnderrun (sl : Slice) (scaler : Bool) (s : State) : Out :=
  let e := s.eng sl
  let t := e.tap scaler
  .next (if !s.flag (tapEnFld scaler sl) || t.bypass then s
    else
      let s := (s.setEng sl (e.setTap scaler { t with bypass := true })).setFld (tapBypFld scaler sl) 1
      let s := s.onFrame e.cam t.fn fun f => f.sflag 7
      (s.bump (SL.ENGCNT0_UNDERRUN sl) 1).report 0x3055 sl (b2n scaler))

/-! ## Sensor commands (R349) -/

/-- A sensor command issued in class 5 to the head of the engine's camera, counted in OUTST. -/
def State.sensorIssue (s : State) (sl : Nat) (c : BcCmd) : State :=
  (s.bcQueue (s.eng sl).cam c).bump (SL.SCQSTAT_OUTST sl) 1

/-- SRD: LEN bytes read from a head register; the record pends, or holds 0xF1 for a descriptor offset (R349). -/
def execEngSrd (sl : Slice) (sa sb : BitVec 5) (len : Fin 4) (s : State) : Out :=
  .next (s.engIssue sl 1 fun s e =>
    let off := (e.sget sa).toNat % 2 ^ 24
    let a := (e.sget sb).toNat
    let n := len.val + 1
    if a % 8 ≠ 0 then (s, .trap 2)
    else if 0x8000 < a + 8 then (s, .trap 3)
    else if 4 ≤ s.fld (SL.SCQSTAT_OUTST sl) then (s, .again)
    else if off < 0x1000 then ((s.dataPoke sl a [0xF1, BitVec.ofNat 8 n, 0, 0, 0, 0, 0, 0]).bump (SL.SCQSTAT_SCQERR sl) 1, .seq)
    else
      let s := s.dataPoke sl a [0xFF, BitVec.ofNat 8 n, 0, 0, 0, 0, 0, 0]
      (s.sensorIssue sl (cmdRead 5 off n (.engine sl a true)), .seq))

/-- SWR: the low LEN bytes of s[sb] written to a head register (R349). -/
def execEngSwr (sl : Slice) (sa sb : BitVec 5) (len : Fin 4) (s : State) : Out :=
  .next (s.engIssue sl 1 fun s e =>
    let off := (e.sget sa).toNat % 2 ^ 24
    let n := len.val + 1
    if 4 ≤ s.fld (SL.SCQSTAT_OUTST sl) then (s, .again)
    else if off < 0x1000 then (s.bump (SL.SCQSTAT_SCQERR sl) 1, .seq)
    else (s.sensorIssue sl (cmdWrite 5 off (leBytes n (e.sget sb).toNat) (.engine sl 0 false)), .seq))

/-- SCNT: this engine's sensor commands outstanding (R349). -/
def execEngScnt (sl : Slice) (sd : BitVec 5) (s : State) : Out :=
  .next (s.engIssue sl 1 fun s e => (s.setEng sl (e.sset sd (BitVec.ofNat 32 (s.fld (SL.SCQSTAT_OUTST sl)))), .seq))

/-- A sensor command of n bytes of an engine ends: counted, and its record written unless the service has ended (R349, R358,
R365). -/
def State.sensorDone (s : State) (sl port addr n : Nat) (rd : Bool) (status : Nat) (data : List Byte) : State :=
  let s := s.setFld (SL.SCQSTAT_OUTST sl) (s.fld (SL.SCQSTAT_OUTST sl) - 1)
  let s := if status = 0 then s else s.bump (SL.SCQSTAT_SCQERR sl) 1
  let st := s.fld (SL.ENGSTAT_STATE sl)
  if rd && (s.eng sl).port == some port && (st == esRunning || st == esWaiting) then
    s.dataPoke sl addr ([BitVec.ofNat 8 status, BitVec.ofNat 8 n, 0, 0] ++ bytesAt (data.take n) 0 4)
  else s

/-! ## The parameter queue (R350) -/

/-- PQPUT: the entry at s[sa] submitted, in at most 64 cycles: how many is a free value (R341, R350). -/
def execEngPqput (sl : Slice) (sd sa : BitVec 5) (s : State) : Out :=
  .next (s.engIssue sl (1 + s.free.toNat % 64) fun s e =>
    let s := s.took
    let a := ((e.sget sa).toNat : Int)
    match s.accessTrap sl a 16 16 with
    | some c => (s, .trap c)
    | none =>
      let r := s.pqPut e.cam e.port.isSome (pqDecode (s.dataBytes sl a.toNat 16))
      (r.2.setEng sl ((r.2.eng sl).sset sd (BitVec.ofNat 32 r.1)), .seq))

/-- PQFN: FNopen (R350). -/
def execEngPqfn (sl : Slice) (sd : BitVec 5) (s : State) : Out :=
  .next (s.engIssue sl 1 fun s e => (s.setEng sl (e.sset sd (BitVec.ofNat 32 (s.fnOpen e.cam))), .seq))

/-- PQUSED: PQSTAT.USED (R350). -/
def execEngPqused (sl : Slice) (sd : BitVec 5) (s : State) : Out :=
  .next (s.engIssue sl 1 fun s e => (s.setEng sl (e.sset sd (BitVec.ofNat 32 (s.fld (SL.PQSTAT_USED sl)))), .seq))

/-! ## Events (R351, R338) -/

/-- EVWAIT: the lowest latched event of the mask at once, else a wait with an optional timeout; bits 14 to 8 of the
immediate must be 0 (R351). -/
def execEngEvwait (sl : Slice) (sd sa : BitVec 5) (imm : BitVec 15) (s : State) : Out :=
  .next (s.engIssue sl 1 fun s e =>
    let m := imm.toNat
    if 256 ≤ m then (s, .trap 1)
    else
      let us := (e.sget sa).toNat
      let w := (m, sd.toNat, if us = 0 then none else some (s.now + 1000 * us))
      let s := (s.setEng sl { e with wait := some w }).setFld (SL.ENGSTAT_STATE sl) esWaiting
      (s.pollWait sl, .again))

/-- EVWAIT_TIMEOUT: the wait ends with code 7, TIMEOUT (R351). -/
def execEngEvwaitTimeout (sl : Slice) (s : State) : Out :=
  .next (match (s.eng sl).wait with
    | some (_, d, some _) => s.endWait sl d evTimeout
    | _ => s)

/-- A poisoned word in the persistence window of a slice (R365). -/
def State.windowPoisoned (s : State) (sl : Nat) : Bool := s.poisoned (engDataBase sl + 0x7C00) 1024

/-- The persistence window copied into its shadow; lost where the service of the camera has ended (R338). -/
def State.commitWindow (s : State) (sl : Nat) (e : Eng) : State :=
  if s.windowPoisoned sl then s
  else if e.port.isSome then s.setEng sl { e with shadow := some (s.dataBytes sl 0x7C00 1024) }
  else s.bump (SL.ENGCNT1_LOSTCOMMIT sl) 1

/-- COMMIT: the window copied in 64 cycles; a poisoned word of it traps (R338, R358, R365). -/
def execEngCommit (sl : Slice) (s : State) : Out :=
  .next (s.engIssue sl 64 fun s e => (s.commitWindow sl e, if s.windowPoisoned sl then .trap 5 else .seq))

/-- REPORT: engine-report with argument s[sa] (R351). -/
def execEngReport (sl : Slice) (sa : BitVec 5) (s : State) : Out :=
  .next (s.engIssue sl 1 fun s e => (s.report 0x3054 sl (e.sget sa).toNat, .seq))

/-- EVARG: an argument of the event returned last; an argument number above 3 is ILLEGAL (R351). -/
def execEngEvarg (sl : Slice) (sd : BitVec 5) (imm : BitVec 15) (s : State) : Out :=
  .next (s.engIssue sl 1 fun s e =>
    if 4 ≤ imm.toNat then (s, .trap 1)
    else (s.setEng sl (e.sset sd (BitVec.ofNat 32 (e.last.getD imm.toNat 0))), .seq))

/-- ENGINE_TIME_NOW: TSU.NOW [31:0], the high word snapshotted (R351). -/
def execEngineTimeNow (sl : Slice) (sd : BitVec 5) (s : State) : Out :=
  .next (s.engIssue sl 1 fun s e =>
    (s.setEng sl { e.sset sd (BitVec.ofNat 32 s.now) with timeHi := s.now / 2 ^ 32 }, .seq))

/-- ENGINE_TIME_HIGH: the snapshot (R351). -/
def execEngineTimeHigh (sl : Slice) (sd : BitVec 5) (s : State) : Out :=
  .next (s.engIssue sl 1 fun s e => (s.setEng sl (e.sset sd (BitVec.ofNat 32 e.timeHi)), .seq))

/-! ## The engine mover (R352) -/

/-- Base of a slice's trace window (R352, R612). -/
def traceBase (sl : Nat) : Nat := 0x101400000 + 0x10000 * sl

/-- A transfer of the descriptor at s[sa]: started, or ended at once in error. A mover that is busy holds the instruction
(log entry 26). -/
def State.moverStart (s : State) (sl : Nat) (e : Eng) (sa : BitVec 5) (read : Bool) : State × Flow :=
  let a := ((e.sget sa).toNat : Int)
  if e.mover.state = 1 then (s, .again)
  else
    match s.accessTrap sl a 16 1 with
    | some c => (s, .trap c)
    | none =>
      let d := s.dataBytes sl a.toNat 16
      let win := fieldAt d 0 1
      let off := fieldAt d 4 4
      let la := fieldAt d 8 2
      let len := fieldAt d 10 2
      let tag := fieldAt d 12 4
      let size := if win = 0 then e.tabLen else 65536
      let bad := decide (1 < win) || (!read && win == 0) || la % 64 != 0 || len % 64 != 0 || decide (len < 64 ∨ 8192 < len)
        || decide (size < off + len) || decide (0x8000 < la + len)
      let base := if win = 0 then e.tabAddr else traceBase sl
      let m : Mover := if bad then ⟨2, tag, none⟩ else ⟨1, tag, some (read, base + off, la, len)⟩
      (s.setEng sl { e with mover := m }, .seq)

/-- DMARD (R352). -/
def execEngDmard (sl : Slice) (sa : BitVec 5) (s : State) : Out := .next (s.engIssue sl 1 fun s e => s.moverStart sl e sa true)

/-- DMAWR (R352). -/
def execEngDmawr (sl : Slice) (sa : BitVec 5) (s : State) : Out := .next (s.engIssue sl 1 fun s e => s.moverStart sl e sa false)

/-- DMAST (R352). -/
def execEngDmast (sl : Slice) (sd : BitVec 5) (s : State) : Out :=
  .next (s.engIssue sl 1 fun s e =>
    (s.setEng sl (e.sset sd (BitVec.ofNat 32 (packArg [(2, e.mover.state), (14, 0), (16, e.mover.tag)]))), .seq))

/-- Bytes copied, with whether any was poisoned: poisoned data is written as 0, and the destination words take the mark (R352, R616;
log entry 208). -/
def State.copyClean (s : State) (src dst n : Nat) : State × Bool :=
  let bad := ((List.range n).filter fun i => s.memx.poison.contains (8 * ((src + i) / 8))).map fun i => dst + i
  (bad.foldl State.poisonWord (s.store dst (s.cleanBytes src n)), s.poisoned src n)

/-- ENGINE_MOVER_DONE: the transfer in progress ends, in error if a word was poisoned (R352). -/
def execEngineMoverDone (sl : Slice) (s : State) : Out :=
  let e := s.eng sl
  .next (match e.mover.job with
    | none => s
    | some (read, a, la, n) =>
      let r := if read then s.copyClean a (engDataBase sl + la) n else s.copyClean (engDataBase sl + la) a n
      r.1.setEng sl { e with mover := ⟨if r.2 then 2 else 0, e.mover.tag, none⟩ })

/-! ## From outside (R358, R367) -/

/-- ENGINE_WATCHDOG: no EVWAIT or TLINE completed within WDOGF frame periods (R358). -/
def execEngineWatchdog (sl : Slice) (s : State) : Out :=
  let st := s.fld (SL.ENGSTAT_STATE sl)
  .next (if s.domainOn .pixel && (st == esRunning || st == esWaiting) then s.engTrap sl 7 else s)

/-- ENGINE_RESTART_REQUEST: a restart at the next frame boundary (R367). -/
def execEngineRestartRequest (sl : Slice) (s : State) : Out :=
  .next (if s.domainOn .pixel then s.setEng sl { s.eng sl with restart := true } else s)

/-- ENGINE_COUNTER_CLEAR (R367). -/
def execEngineCounterClear (sl : Slice) (s : State) : Out :=
  .next (if s.domainOn .pixel then
      ((s.setReg (SL.ENGCNT0 sl) 0).setReg (SL.ENGCNT1 sl) 0).setReg (SL.ENGCNT2 sl) 0
    else s)

/-- The word that ENGMDATA reads, and the pointer after it (R367). -/
def State.engMdata (s : State) (sl : Nat) : Word × State :=
  let a := s.fld (SL.ENGMADDR_ADDR sl)
  let base := if s.flag (SL.ENGMADDR_SPACE sl) then engDataBase sl else engCodeBase sl
  let w := BitVec.ofNat 32 (s.num (base + 4 * (a / 4)) 4)
  (w, s.setFld (SL.ENGMADDR_ADDR sl) ((4 * (a / 4) + 4) % 0x8000))

/-- ENGMDATA_READ: the word goes out on the path of the read (R367). -/
def execEngmdataRead (path : Path) (sl : Slice) (s : State) : Out :=
  .next (if s.domainOn .pixel then
      let r := s.engMdata sl
      { r.2 with readOut := r.2.readOut.set path.num (leBytes 4 r.1.toNat) }
    else s)

end Sys2Proof.Machine
end

