-- ==== Sys2Proof/Machine/Slices.lean ====
section
/-!
DEFINITION. Slices as places for cameras: their states, spares and claims, the crossbar, loading a slice and its engine,
and planned moves (spec/01_architecture.md R20 to R25, spec/12_slice_engines.md R359 to R366, spec/18_rotation_bist.md
R508, R509, R518).
-/
namespace Sys2Proof.Machine

/-! ## States and spares (R508, R509) -/

def ssInService : Nat := 0
def ssSpare : Nat := 1
def ssRetired : Nat := 3
def ssLoading : Nat := 4

def State.sstate (s : State) (sl : Nat) : Nat := s.fld (SL.PRVSTAT_SSTATE sl)
def State.setSstate (s : State) (sl st : Nat) : State := s.setFld (SL.PRVSTAT_SSTATE sl) st

/-- Slices that no longer serve: fused and soft retirements together (R523). -/
def State.isRetired (s : State) (sl : Nat) : Bool := s.fuses.retired.contains sl || s.keeper.retired.contains sl

/-- A free spare: in SPARE, reserved neither for standby nor by a flip nor by a claim (R509). -/
def State.isFree (s : State) (sl : Nat) : Bool :=
  s.sstate sl == ssSpare && !s.flag (SL.PRVSTAT_RSV sl) && !s.rot.claims.has sl
    && !(match s.cfg.flip with
      | some f => f.moves.any fun m => m.2 == sl
      | none => false)
    && !s.rot.windows.any fun w => w.slice == sl

/-- The free spares, rising. -/
def State.freeSpares (s : State) : List Nat := (List.range 208).filter s.isFree

/-- The purposes of R509. -/
def clTakeover : Nat := 1
def clRepair : Nat := 2
def clFlip : Nat := 3
def clDeferred : Nat := 4
def clProving : Nat := 5

/-- A free spare claimed for a purpose, the lowest-numbered (log entry 31); flips, deferred repairs and proving windows never
take the last one (R509). -/
def State.claim (s : State) (purpose : Nat) : Option (Nat × State) :=
  match s.freeSpares with
  | [] => none
  | sl :: r =>
    if clFlip ≤ purpose ∧ r = [] then none
    else some (sl, { s with rot := { s.rot with claims := s.rot.claims.set sl purpose } })

/-- A claim given up or taken into service. -/
def State.unclaim (s : State) (sl : Nat) : State := { s with rot := { s.rot with claims := s.rot.claims.drop sl } }

/-- A slice marked FIRST (R514, R519). -/
def State.markFirst (s : State) (sl : Nat) : State :=
  if s.rot.first.contains sl then s
  else { s with rot := { s.rot with first := s.rot.first ++ [sl] } }.setFld (SL.PRVSTAT_FIRST sl) 1

/-! ## The crossbar (R187, R190) -/

/-- NEXT set, PEND following; a value above 207 or a retired slice is taken as none (R190, R508). -/
def State.mapNext (s : State) (p sl : Nat) : State :=
  let v := if 208 ≤ sl ∨ s.sstate sl = ssRetired then 0xFF else sl
  (s.setFld (XBAR.MAP_NEXT p) v).setFld (XBAR.MAP_PEND p) (b2n (v != s.fld (XBAR.MAP_CUR p)))

/-- A port connected to a slice, or to none for 0xFF: CUR and NEXT agree, and the slices' RMAP follow (R187, R190). A slice
that keeps a second port shows it alone. -/
def State.connect (s : State) (p sl : Nat) : State :=
  let old := s.fld (XBAR.MAP_CUR p)
  let s :=
    if old < 208 then
      if s.fld (XBAR.RMAP_PORT2 old) = p then s.setFld (XBAR.RMAP_PORT2 old) 0xFF
      else if s.fld (XBAR.RMAP_PORT old) = p then
        (s.setFld (XBAR.RMAP_PORT old) (s.fld (XBAR.RMAP_PORT2 old))).setFld (XBAR.RMAP_PORT2 old) 0xFF
      else s
    else s
  let s := s.setFlds [(XBAR.MAP_CUR p, sl), (XBAR.MAP_NEXT p, sl), (XBAR.MAP_PEND p, 0)]
  if 208 ≤ sl then s
  else if s.fld (XBAR.RMAP_PORT sl) = 0xFF then s.setFld (XBAR.RMAP_PORT sl) p
  else if s.fld (XBAR.RMAP_PORT sl) = p then s
  else s.setFld (XBAR.RMAP_PORT2 sl) p

/-! ## Loading a slice's registers (R242, R305, R334) -/

/-- The stream that a register offset of a slice block belongs to, by k; none for a camera's own register (R461). -/
def streamOfOff (off : Nat) : Option Nat :=
  if 0x1A00 ≤ off ∧ off < 0x1B00 then some ((off - 0x1A00) / 0x40)
  else if 0x1C00 ≤ off ∧ off < 0x1C0C then some 4
  else if 0x2000 ≤ off ∧ off < 0x3000 then some ((off - 0x2000) / 0x400)
  else if 0x3000 ≤ off ∧ off < 0x3800 then some ((off - 0x3000) / 0x200)
  else none

/-- The kind and instance of a set that a register of the slice of a port is loaded from (R461). -/
def slSource (p off : Nat) : Nat × Nat :=
  match streamOfOff off with
  | some k => (3, sidOf p k)
  | none => (2, p)

/-- Offsets of a slice block that a set may load (R461). -/
def slLoads (off : Nat) : Bool := (0x800 ≤ off && off < 0x3800) && !(0x1D00 ≤ off && off < 0x1E00)

/-- The offsets of the slice registers that a set lists for a port. -/
def CfgSet.slOffsets (c : CfgSet) (p : Nat) : List Nat :=
  let keys : List Nat := c.map fun (e : Nat × List Byte) => e.1
  (keys.filter fun k => keyOfPort p k && k / 2 ^ 32 != 1 && decide (k % 2 ^ 16 < 0x4000)).map fun k => 4 * (k % 2 ^ 16)

/-- Pre-decimation of output k of a camera as OSTAT shows it: KH, KV, and KHC, KVC of the chroma planes of its format (R286,
R305). -/
def CfgSet.preDecs (c : CfgSet) (p k : Nat) : List Nat :=
  let w1 := CfgSet.crop1 c p k
  let cw := bitsOf w1 13 0
  let ch := bitsOf w1 29 16
  let dw := CfgSet.dwOf c p k
  let dh := CfgSet.dhOf c p k
  let fmt := CfgSet.fmtOf c p k
  let cwc := if CfgSet.flag c 2 p (SL.WCTL_WARP_EN 0) then cw / 2 else cw
  [preK cw dw, preK ch dh, preK cwc (if fmtIs42x fmt then dw / 2 else dw), preK ch (if fmtIs420 fmt then dh / 2 else dh)]

/-- What a slice shows of a camera's set beside the RW fields: NBUF3, WPLANES, STORE and the pre-decimations (R249, R277, R286,
R297, R305). -/
def State.showCamera (s : State) (sl p : Nat) (c : CfgSet) : State :=
  let s := s.setFlds [(SL.WCTL_NBUF3 sl, b2n (CfgSet.contributes c p)), (SL.WPLANES_PLANES sl, CfgSet.wplanes c p)]
  (List.range 4).foldl (fun (s : State) k =>
    let d := CfgSet.preDecs c p k
    s.setFlds [(SL.OCTL_STORE sl k, b2n (CfgSet.fld c 3 (sidOf p k) (SL.OCTL_POLICY 0 k) == 1)), (SL.OSTAT_KH sl k, d.getD 0 0),
      (SL.OSTAT_KV sl k, d.getD 1 0), (SL.OSTAT_KHC sl k, d.getD 2 0), (SL.OSTAT_KVC sl k, d.getD 3 0)]) s

/-- The slice registers of a port loaded from a set: every RW field takes the set's value or its reset value. -/
def State.loadSlice (s : State) (sl p : Nat) (c : CfgSet) : State :=
  let base := 0x800000 + 0x8000 * sl
  let mine := (s.csr.map fun (e : Nat × Word) => e.1).filter fun a => decide (base ≤ a ∧ a < base + 0x8000) && slLoads (a - base)
  let offs := mine.map (· - base) ++ CfgSet.slOffsets c p
  (offs.foldl (fun s off =>
    let (k, i) := slSource p off
    s.loadReg c k i (0x800000 + off) (base + off)) s).showCamera sl p c

/-- The port registers of a port loaded from a set (R164, R461). -/
def State.loadPort (s : State) (p : Nat) (c : CfgSet) : State :=
  let a0 := [HP.INGGEOM 0, HP.INGFMT 0, HP.INGLT 0, HP.INGFPER 0, HP.INGFILL 0, HP.INGKNEE 0]
  s.loadRegs c 1 p (a0.map fun a => (a, a + 0x4000 * p))

/-! ## Engine programs (R359 to R366) -/

/-- The program of a camera: the set's, or the default one after three traps (R359). -/
def State.progId (s : State) (p : Nat) (c : CfgSet) : Nat := if (s.camOf p).fallback then 0 else CfgSet.progId c p

/-- A binary of the store by PROGID (R360). -/
def State.binary (s : State) (id : Nat) : Option Binary := s.progs.find? fun b => b.progid == id

/-- Sensor commands that an engine has issued complete with no effect on the program loaded next (R358, R365). -/
def PortSt.orphan (x : PortSt) (sl : Nat) : PortSt :=
  let k := fun c : BcCmd => match c.origin with
    | .engine e _ _ => if e = sl then { c with origin := .internal } else c
    | _ => c
  { x with queue := x.queue.map k, out := x.out.map fun o => { o with cmd := k o.cmd } }

/-- The program of a camera copied into the code and data memories of a slice, the rest of data memory zeroed; none where
the store lacks it or a CRC fails (R361, R364 steps 1 and 2). -/
def State.loadEngine (s : State) (sl id : Nat) : Option State :=
  match s.binary id with
  | none => none
  | some b =>
    let l := s.bytes b.addr b.len
    let code := bytesAt l 0x100 (kCode l)
    let data := bytesAt l (kDataOff l) (kData l)
    if s.poisoned b.addr b.len || crc32 code != fieldAt l 0x30 4 || crc32 data != fieldAt l 0x34 4 then none
    else
      let s := (s.poke (engCodeBase sl) (bytesAt code 0 0x8000)).poke (engDataBase sl) (bytesAt data 0 0x8000)
      let fl := fieldAt l 8 4
      let e : Eng := { codeLen := kCode l, dataLen := kData l, tabLen := kTab l, entry := fieldAt l 0x20 4,
                       persVer := fieldAt l 0x2C 4, kflags := fl, tabAddr := b.addr + kTabOff l, latch := (s.eng sl).latch }
      let s := { s.setEng sl e with ports := s.ports.map fun (q : Nat × PortSt) => (q.1, q.2.orphan sl) }
      let s := (s.setReg (SL.TAPCFGD sl) (BitVec.ofNat 32 (fieldAt l 0x24 4))).setReg (SL.TAPCFGS sl) (BitVec.ofNat 32 (fieldAt l 0x28 4))
      some (s.setFlds [(SL.ENGPROG_PROGID sl, id), (SL.ENGSTAT_STATE sl, esLoading), (SL.ENGSTAT_TRAPC sl, 0),
        (SL.TAPSTAT_BYPD sl, 0), (SL.TAPSTAT_BYPS sl, 0), (SL.SCQSTAT_OUTST sl, 0)])

/-- The engine of a slice started for a camera at a frame (R339, R364 steps 3 and 4): `flags` are bits 1 to 3 of s3;
the persistence window is restored where the layouts agree. -/
def State.startEngine (s : State) (sl p fn flags : Nat) : State :=
  let c := s.camOf p
  let e := s.eng sl
  let keep := c.persist != [] && c.persVer == e.persVer
  let s := s.dataPoke sl 0x7C00 (if keep then bytesAt c.persist 0 1024 else List.replicate 1024 0)
  let regs : Tbl (BitVec 32) := [(1, BitVec.ofNat 32 p), (2, BitVec.ofNat 32 sl), (3, BitVec.ofNat 32 (b2n (!keep) + flags)),
    (4, BitVec.ofNat 32 fn)]
  let e := { e with sreg := regs, vreg := [], loop := none, wait := none, last := [], port := some p, cam := p, fed := s.now,
                    restart := false, ending := false, mover := {}, shadow := none, tapD := {}, tapS := {} }
  (s.setEng sl e).setFlds [(SL.ENGPC_PC sl, e.entry), (SL.ENGSTAT_STATE sl, esRunning), (SL.ENGSTAT_TRAPC sl, 0),
    (SL.ENGCTL_RUN sl, 1), (SL.ENGCTL_TAPD_EN sl, e.kflags % 2), (SL.ENGCTL_TAPS_EN sl, e.kflags / 2 % 2)]

/-- The service of a camera by an engine ends at the close of its last frame (R365). -/
def State.endService (s : State) (sl : Nat) : State :=
  let e := s.eng sl
  s.setEng sl { e with port := none, ending := true }

/-- An engine stopped after its service, showing IDLE (R365). -/
def State.idleEngine (s : State) (sl : Nat) : State :=
  let e := s.eng sl
  (s.setEng sl { e with port := none, ending := false, wait := none }).setFlds [(SL.ENGSTAT_STATE sl, esIdle), (SL.ENGCTL_RUN sl, 0)]

/-- The data section and the persistence window loaded again and the program started at ENTRY, after a trap (R359). -/
def State.restartEngine (s : State) (sl p fn : Nat) : State :=
  let c := s.camOf p
  let id := s.fld (SL.ENGPROG_PROGID sl)
  let recent := c.traps.filter fun t => decide (s.clock ≤ t + 60000000000)
  let fall := decide (3 ≤ recent.length) && !c.fallback
  let s := if fall then (s.setCam p { c with fallback := true, traps := [] }).report 0x3052 sl p else s
  match s.loadEngine sl (if fall then 0 else id) with
  | some s => s.startEngine sl p fn 8
  | none => s

/-! ## A slice takes a camera (R21, R139, R365) -/

/-- A destination slice holds nothing of the camera at its first frame start: its statistics banks hold no set (R21). -/
def State.emptySlice (s : State) (sl : Nat) : State :=
  (s.keepMem fun a => !decide (statsBase sl ≤ a ∧ a < statsBase sl + 0x8000)).setFlds [(SL.STFN_FN sl, 0), (SL.STSTAT_BANK sl, 0)]

/-- A slice connected to a port and loaded with the camera's set and program at once, as at the first frame start of a head
(R139; log entry 32). -/
def State.takeSlice (s : State) (p sl fn flags : Nat) (c : CfgSet) : State :=
  let s := (((s.unclaim sl).connect p sl).setSstate sl ssInService).emptySlice sl
  let s := s.loadSlice sl p c
  match s.loadEngine sl (s.progId p c) with
  | some s => s.startEngine sl p fn flags
  | none => s.report 0x3053 sl (packArg [(16, p), (32, s.progId p c)])

/-- A slice emptied of its camera: it serves nobody, and shows SPARE unless it is retired or a window awaits it. -/
def State.freeSlice (s : State) (sl : Nat) : State :=
  let s := (s.idleEngine sl).setFlds [(XBAR.RMAP_PORT sl, 0xFF), (XBAR.RMAP_PORT2 sl, 0xFF), (XBAR.RMAP_DUAL sl, 0)]
  if s.sstate sl = ssInService ∧ !(s.rot.windows.any fun w => w.slice == sl) then s.setSstate sl ssSpare else s

/-! ## Frames in a slice -/

/-- The outputs a frame owes: its image streams, and 4 for its warp source where the slice processes it (R247, R297). -/
def Frame.owes (f : Frame) (p : Nat) : List Nat :=
  (List.range 4).filter (CfgSet.streamOn f.set p) ++ (if f.skipWhy = 0 ∧ f.planes ≠ 0 then [4] else [])

/-- Everything a frame owes has left the slice. -/
def Frame.finished (f : Frame) (p : Nat) : Bool := f.closed && (f.owes p).all f.ended.contains && f.statsDone

/-- A slice still holds a frame, open or unfinished. -/
def State.slBusy (s : State) (sl : Nat) : Bool :=
  s.cams.any (fun (e : Nat × Cam) => e.2.frames.any fun f => f.slice == some sl && f.skipWhy == 0 && !f.finished e.1)
    || s.ingests.any fun (e : Nat × Ingest) => e.2.frame.any fun f => f.slice == some sl

/-- Engines whose service has ended stop once their slice is drained, and slices that serve nobody go free (R365, R510). -/
def State.sweepSlices (s : State) : List Nat → State
  | [] => s
  | sl :: r =>
    let s :=
      if (s.eng sl).ending && !s.slBusy sl then
        if s.fld (XBAR.RMAP_PORT sl) = 0xFF then s.freeSlice sl else s.idleEngine sl
      else s
    s.sweepSlices r

/-- The slices that receive a port together during a migration: the destination from its boundary, while the source still holds
frames of the camera (R187, R190; DESIGN CHOICE, log entry 201). -/
def State.endDual (s : State) (p : Nat) : State :=
  match s.sliceOf p with
  | some sl =>
    let elsewhere := (s.camOf p).frames.any fun f => f.slice.any (· != sl) && f.skipWhy == 0 && !f.finished p
    if s.flag (XBAR.RMAP_DUAL sl) && !elsewhere then s.setFld (XBAR.RMAP_DUAL sl) 0 else s
  | none => s

/-- Finished frames of a camera dropped but for the newest; drained slices swept, and shared ones marked as drained (R528). -/
def State.sweep (s : State) (p : Nat) : State :=
  let c := s.camOf p
  let keep := match c.frames with
    | [] => []
    | f :: r => f :: r.filter fun x => !x.finished p
  let s := s.setCam p { c with frames := keep }
  let turn := fun (e : Nat × (Nat × Option Nat)) =>
    if e.2.2.isNone && (s.fld (XBAR.RMAP_PORT2 e.1) != 0xFF) && !s.slBusy e.1 then (e.1, (e.2.1, some s.now)) else e
  let s := { s with rot := { s.rot with turns := s.rot.turns.map turn } }
  let s := s.endDual p
  s.sweepSlices (s.engs.map fun (e : Nat × Eng) => e.1)

/-- A slice no longer serves a port: its engine's service ends, and it goes free once drained (R138, R365). -/
def State.release (s : State) (p : Nat) : State :=
  match s.sliceOf p with
  | none => s
  | some sl =>
    let s := s.connect p 0xFF
    if s.fld (XBAR.RMAP_PORT sl) = 0xFF then (s.endService sl).sweepSlices [sl] else s

/-! ## Planned moves (R365, R518) -/

/-- The reasons of a planned move (R353). -/
def mvProving : Nat := 1
def mvProgram : Nat := 2
def mvDeferred : Nat := 3

/-- A planned move: the crossbar's NEXT names the destination, which loads and shows LOADING (R508, R510). -/
def State.planMove (s : State) (p dest reason : Nat) : State :=
  let c := s.camOf p
  ((s.setCam p { c with move := some (dest, reason) }).mapNext p dest).setSstate dest ssLoading

/-- A planned move abandoned: the destination goes back to the spares and the crossbar keeps its slice (R364, R518). -/
def State.dropMove (s : State) (p : Nat) : State :=
  let c := s.camOf p
  match c.move with
  | none => if c.moveLost.isNone then s else s.setCam p { c with moveLost := none }
  | some (dest, _) =>
    let s := (s.setCam p { c with move := none, moveTry := 0, moveAt := none }).mapNext p (s.fld (XBAR.MAP_CUR p))
    let s := s.unclaim dest
    if s.sstate dest = ssLoading then (s.idleEngine dest).setSstate dest ssSpare else s

/-- ENGINE_LOAD: the program of the camera that a planned move brings to a slice is loaded and checked. A first failure
defers the move by a frame, a second abandons it with engine-load-fail, and the idle slice is marked FIRST (R364, R518,
R519). -/
def execEngineLoad (sl : Slice) (s : State) : Out :=
  .next (if !s.domainOn .pixel then s
    else
      match s.cams.find? fun (e : Nat × Cam) => (e.2.move.map (·.1)) == some sl.val with
      | none => s
      | some (p, c) =>
        let set := if (c.move.map (·.2)) == some mvProgram then s.cfg.shadow else s.setFor p
        let id := if (c.move.map (·.2)) == some mvProgram then CfgSet.progId set p else s.progId p set
        let s := s.setSstate sl ssLoading
        match s.loadEngine sl id with
        | some s => s.setCam p { c with moveTry := 0, moveReady := true }
        | none =>
          if c.moveTry = 0 then (s.setCam p { c with moveTry := 1, moveReady := false, moveAt := none }).bump XBAR.ROTCNT1_DEFERRED 1
          else
            let s := (s.dropMove p).report 0x3053 sl (packArg [(16, p), (32, id)])
            let s := match s.cfg.flip with
              | some f =>
                if f.moves.any fun m => m.1 == p then
                  { s with cfg := { s.cfg with flip := some { f with moves := f.moves.filter fun m => m.1 != p, todo := f.todo.filter (· != p), failed := some (f.failed.getD p) } } }
                else s
              | none => s
            s.markFirst sl)

end Sys2Proof.Machine
end

