-- ==== Sys2Proof/Machine/Uplink.lean ====
section
/-!
DEFINITION. The link layer of Zorip-U and the egress arbiter: credits, acknowledgement, replay, start-up, reception, and
the choice of the next packet (spec/13_uplink.md R374 to R384, R388, R391 to R395).
-/
namespace Sys2Proof.Machine

/-- The uplink's lanes carry data: the link is OPERATING, and its domain is on (R90, R655). -/
def State.uplOperating (s : State) : Bool := s.domainOn .uplink && s.fld (LK.LKSTAT_STATE .upl) == 7

/-- The link layer is up: INIT sent and received (R382, R395). -/
def State.uplUp (s : State) : Bool := s.uplOperating && s.flag UPL.UPSTAT_UP

/-- The link layer re-initialises on a link that stays OPERATING, and starts again (R382, R391). -/
def State.uplRestart (s : State) (cause : Nat) : State := (s.uplReinit cause).uplStart

/-! ## Reception (R370, R375, R376, R381) -/

/-- The receiver enters NAK state: a NAK CREDIT is due (R375). One in NAK state stays there; its CREDIT is due again by
NAK_RESEND alone. -/
def State.nakState (s : State) : State :=
  if s.flag UPL.UPSTAT_NAKWAIT then s
  else (s.setFld UPL.UPSTAT_NAKWAIT 1).setUpl { s.upl with nakDue := true }

/-- Near-end loopback acts: UPCTL.LPBK, in SERVICE only (R395). -/
def State.uplLoops (s : State) : Bool := s.mode == .service && s.flag UPL.UPCTL_LPBK

/-- The scope of a device address: the port of a head register space, 0xFFFF for the local scope (R396). -/
def scopeOf (a : Nat) : Nat :=
  if 0x1000000000 ≤ a ∧ a < 0x1000000000 + 192 * 0x1000000 then (a - 0x1000000000) / 0x1000000 else 0xFFFF

/-- Device address, byte count and OPC of an address crumb (R373). -/
def acAddr (c : Crumb) : Nat := bitsOf c.toNat 47 0
def acCount (c : Crumb) : Nat := if bitsOf c.toNat 57 48 = 0 then 512 else bitsOf c.toNat 57 48
def acOpc (c : Crumb) : Nat := bitsOf c.toNat 63 58

/-- Whether a received packet is of a kind, class, length and SID that the host may send (R370, R417). -/
def goodKind (kind tc plen id : Nat) : Bool :=
  (kind == pkTunnel && tc == 1 && decide (1 ≤ plen ∧ plen ≤ 65) && [0x700, 0x701, 0x708, 0x709].contains id)
    || (kind == pkRdreq && tc == 2 && plen == 1)
    || (kind == pkPwrite && tc == 1 && decide (2 ≤ plen ∧ plen ≤ 65))
    || (kind == pkLocked && tc == 2 && decide (1 ≤ plen ∧ plen ≤ 65))

/-- What a receiver does with a packet whose checks fail (R375); `k` where they pass. -/
def State.checked (s : State) (cs : List Crumb) (k : State → Crumb → List Crumb → State) : State :=
  let inj := s.upl.injRx
  match pktCheck cs, cs with
  | 0, h :: r =>
    if inj then ((s.setUpl { s.upl with injRx := false }).bump UPL.UPCNT2_TCRCERR 1).nakState
    else k s h (r.take (bitsOf h.toNat 46 37))
  | 2, _ => (s.bump UPL.UPCNT2_TCRCERR 1).nakState
  | _, _ => (s.bump UPL.UPCNT2_HCRCERR 1).nakState

/-- Receive blocks of a class freed: the limit advertised rises with them (R379). -/
def State.freeBlocks (s : State) (tc n : Nat) : State :=
  s.setFld (UPL.UPRXCL_CL tc) ((s.fld (UPL.UPRXCL_CL tc) + n) % 2 ^ 32)

/-- A packet accepted (R370, R375, R379, R381): its kind is tested, its class charged, and it waits for the layers above. -/
def State.accept (s : State) (h : Crumb) (payload : List Crumb) : State :=
  let kind := bitsOf h.toNat 5 0
  let tc := bitsOf h.toNat 8 6
  let id := bitsOf h.toNat 20 9
  let p : Pkt := { kind := kind, tc := tc, id := id, seg := bitsOf h.toNat 48 47, kspec := bitsOf h.toNat 55 49, payload := payload }
  let s := s.setFlds [(UPL.UPRXSEQ_RXNEXT, s.fld UPL.UPRXSEQ_RXNEXT + 1), (UPL.UPSTAT_NAKWAIT, 0)]
  let s := s.setUpl { s.upl with ackDue := true, nakDue := false }
  if !goodKind kind tc payload.length id then
    let s := s.bump UPL.UPCNT3_BADKIND 1
    if tc ≤ 4 then
      (s.setUpl { s.upl with rxcc := s.upl.rxcc.set tc ((s.upl.rxcc.get tc 0 + p.blocks) % 2 ^ 32) }).freeBlocks tc p.blocks
    else s
  else
    let n := p.blocks
    let used := (s.upl.rxcc.get tc 0 + n) % 2 ^ 32
    let room := (s.fld (UPL.UPRXCL_CL tc) + 2 ^ 32 - s.upl.rxcc.get tc 0) % 2 ^ 32
    let u := s.upl
    let e := if kind = pkPwrite then bumpKey u.entered (keyWrite (scopeOf (acAddr (payload.getD 0 0)))) else u.entered
    let s := s.setUpl { u with rxcc := u.rxcc.set tc used, rxq := u.rxq ++ [p], entered := e }
    if room < n ∨ 2 ^ 31 ≤ room then (s.bump UPL.UPCNT3_CREDV 1).uplRestart 2 else s

/-- A sequenced packet taken by its LSEQ (R375); a CREDIT is taken by its own commands. -/
def State.takePacket (s : State) (crumbs : List Crumb) : State :=
  if !s.uplOperating || !s.upl.initSent then s
  else s.checked crumbs fun s h payload =>
    if bitsOf h.toNat 5 0 = pkCredit then s
    else
      let d := (bitsOf h.toNat 36 21 + 65536 - s.fld UPL.UPRXSEQ_RXNEXT) % 65536
      if d = 0 then s.accept h payload
      else if d ≤ 32767 then s.nakState
      else s.setUpl { s.upl with ackDue := true }

/-- UPLINK_PACKET_RECEIVE (R375), on the uplink or the peer link (R483); a looped group hears its own transmitter alone (R395). What
an accepted packet of the partner says is taken by the row of its kind (log entry 58). -/
def execUplinkPacketReceive (crumbs : List Crumb) (s : State) (peer : Bool := false) : Out :=
  .next (if peer then s.plTake crumbs else if s.uplLoops then s else s.takePacket crumbs)

/-! ## Credits and acknowledgement (R376 to R380, R382) -/

/-- Packets acknowledged leave the replay buffer; an END among them settles its frame (R374, R376, R392). -/
def settleLive (t : Tbl StreamSt) : List Held → Tbl StreamSt
  | [] => t
  | h :: r =>
    match h.unit with
    | some u =>
      if u.role == .fend && decide (2 ≤ h.pkt.seg) then
        let x := t.get h.pkt.id {}
        settleLive (t.set h.pkt.id { x with live := x.live.filter fun l => l != (u.fn, u.fseq) }) r
      else settleLive t r
    | none => settleLive t r

/-- What the partner is told of packets acknowledged: the last packet of an END, a NOTICE or a statistics set (R493). -/
def State.deliveredAll (s : State) : List Held → State
  | [] => s
  | h :: r =>
    match h.unit with
    | some u =>
      (if (u.role == .fend || u.role == .notice || u.role == .stats) && decide (2 ≤ h.pkt.seg) then s.delivered h.pkt.id u.fn
       else s).deliveredAll r
    | none => s.deliveredAll r

/-- Bytes of the packets held (R395). -/
def heldBytes (l : List Held) : Nat := (l.map fun h => 8 * (h.pkt.payload.length + 2)).foldl (· + ·) 0

/-- A cumulative acknowledgement applied; one outside the window is ignored (R376). -/
def State.acked (s : State) (seq : Nat) : State :=
  let last := s.fld UPL.UPSEQ_TXACK
  let d := (seq + 65536 - last) % 65536
  let n := s.upl.replay.length
  if d = 0 ∨ n < d then s
  else
    let done := s.upl.replay.take d
    let left := s.upl.replay.drop d
    let s := { s with streams := settleLive s.streams done }
    let s := s.setUpl { s.upl with replay := left, again := s.upl.again.filter fun h => left.contains h, ackAt := s.clock }
    (s.setFlds [(UPL.UPSEQ_TXACK, seq), (UPL.UPRPL_RPLBYTES, heldBytes left)]).deliveredAll done

/-- The limits of a CREDIT applied (R379). -/
def State.limits (s : State) (payload : List Crumb) : State :=
  s.setFlds ((List.range 5).map fun c => (UPL.UPTXCL_CL c, creditLimit payload c))

/-- A received CREDIT of a form: checked, and `k` on its payload and ACKSEQ (R375, R378). One of another class or length is a
bad kind (R370). -/
def State.onCredit (s : State) (cs : List Crumb) (init nak : Bool) (k : State → List Crumb → Nat → State) : State :=
  if !s.uplOperating then s
  else s.checked cs fun s h payload =>
    if bitsOf h.toNat 5 0 ≠ pkCredit ∨ creditInit h ≠ init ∨ (!init ∧ creditNak h ≠ nak) then s
    else if payload.length ≠ 3 ∨ bitsOf h.toNat 8 6 ≠ 0 then s.bump UPL.UPCNT3_BADKIND 1
    else k s payload (bitsOf h.toNat 36 21)

/-- CREDIT taken: limits and acknowledgement applied (R378). -/
def State.takeCredit (s : State) (crumbs : List Crumb) : State :=
  s.onCredit crumbs false false fun s payload seq => if s.flag UPL.UPSTAT_UP then (s.limits payload).acked seq else s

/-- CREDIT (R378), on the uplink or the peer link (R483). -/
def execUplCredit (crumbs : List Crumb) (s : State) (peer : Bool := false) : Out :=
  .next (if peer then s.plCredit crumbs else if s.uplLoops then s else s.takeCredit crumbs)

/-- The least limits the host must advertise (R380). -/
def creditMin (c : Nat) : Nat := [1, 3, 0, 3, 17].getD c 0

/-- Classes below their least limit are closed and reported (R380). -/
def State.closeClasses (s : State) : List Nat → State
  | [] => s
  | c :: r =>
    if s.fld (UPL.UPTXCL_CL c) < creditMin c then
      ((s.setFld UPL.UPSTAT_CLOSED (withBit (s.fld UPL.UPSTAT_CLOSED) c true)).report 0x0810 0 c).closeClasses r
    else s.closeClasses r

/-- The link layer comes up once INIT is sent and received: HELLO and LINKSTATE follow (R382, R383). -/
def State.comeUp (s : State) : State :=
  if s.upl.initSent ∧ s.upl.initGot ∧ !s.flag UPL.UPSTAT_UP then
    let s := (s.setFld UPL.UPSTAT_UP 1).setUpl { s.upl with hello := true, linkState := true }
    s.setLink .upl { s.link .upl with attempts := 0, failRep := false }
  else s

/-- An INIT CREDIT taken (R382): the far end's INIT counts, or the link layer re-initialises if it was up. -/
def State.takeInit (s : State) (crumbs : List Crumb) : State :=
  s.onCredit crumbs true false fun s payload _ =>
    let s := if s.flag UPL.UPSTAT_UP then s.uplRestart 3 else s
    let s := (s.limits payload).setUpl { s.upl with initGot := true, initDue := s.upl.initDue + 1 }
    (s.closeClasses [0, 1, 2, 3, 4]).comeUp

/-- CREDIT_INIT (R382), on the uplink or the peer link (R483). -/
def execUplCreditInit (crumbs : List Crumb) (s : State) (peer : Bool := false) : Out :=
  .next (if peer then s.plInit crumbs else if s.uplLoops then s else s.takeInit crumbs)

/-- A replay starts, at most one in 10 µs (R377). -/
def State.startReplay (s : State) (timeout : Bool) : State :=
  let soon : Bool := match s.upl.replayAt with
    | some t => decide (s.clock < t + 10000)
    | none => false
  if s.upl.replay = [] ∨ soon = true then s
  else if timeout then s.replayAll.bump UPL.UPCNT1_RPLTIMEOUT 1 else s.replayAll

/-- A NAK CREDIT taken (R377). -/
def State.takeNak (s : State) (crumbs : List Crumb) : State :=
  s.onCredit crumbs false true fun s payload seq =>
    if s.flag UPL.UPSTAT_UP then ((((s.limits payload).acked seq).bump UPL.UPCNT0_NAKRX 1).startReplay false) else s

/-- CREDIT_NAK (R377), on the uplink or the peer link (R483). -/
def execUplCreditNak (crumbs : List Crumb) (s : State) (peer : Bool := false) : Out :=
  .next (if peer then s.plNakCredit crumbs else if s.uplLoops then s else s.takeNak crumbs)

/-- INIT_REPEAT (R382): the INIT CREDIT is due again until the far end's arrives. -/
def execUplInitRepeat (s : State) (peer : Bool := false) : Out :=
  .next (if peer then (if s.peerUp && s.pl.initSent && !s.pl.initGot then s.plSendCredit true false else s)
    else if s.uplOperating && s.upl.initSent && !s.upl.initGot then s.setUpl { s.upl with initDue := max 1 s.upl.initDue } else s)

/-- NAK_RESEND (R375). -/
def execUplNakResend (s : State) (peer : Bool := false) : Out :=
  .next (if peer then (if s.peerUp && s.pl.nakWait then s.plSendCredit false true else s)
    else if s.uplOperating && s.flag UPL.UPSTAT_NAKWAIT then s.setUpl { s.upl with nakDue := true } else s)

/-- ACK_TIMER (R376). -/
def execUplAckTimer (s : State) (peer : Bool := false) : Out :=
  .next (if peer then (if s.plRuns then s.plSendCredit false false else s)
    else if s.uplUp then s.setUpl { s.upl with ackDue := true } else s)

/-- No acknowledgement progress for a time, in ns (R377). -/
def State.ackIdle (s : State) (ns : Nat) : Bool := decide (s.upl.ackAt + ns ≤ s.clock)

/-- UPCTL.RPLTO in ns; 0 is taken as 100 µs (R395). -/
def State.replayNs (s : State) : Nat :=
  1000 * if s.fld UPL.UPCTL_RPLTO = 0 then 100 else s.fld UPL.UPCTL_RPLTO

/-- REPLAY_TIMEOUT (R377); the peer link has no RPLTO and takes its reset value of 100 µs (R483; log entry 58). -/
def execUplReplayTimeout (s : State) (peer : Bool := false) : Out :=
  .next (if peer then (if s.plRuns && s.plIdle 100000 then s.plReplaySoon else s)
    else if s.uplUp && s.ackIdle s.replayNs then s.startReplay true else s)

/-- Four marker intervals of a link plus 1 ms, in ns (R377). -/
def State.stallNs (s : State) (l : Link) : Nat := 4 * markerNs (rateKb l (s.fld (LK.LKSTAT_RATE l))) + 1000000

/-- ACK_STALL_REINIT (R377, R391). -/
def execUplAckStallReinit (s : State) (peer : Bool := false) : Out :=
  .next (if peer then (if s.plRuns ∧ s.pl.replay ≠ [] ∧ s.plIdle (s.stallNs .peer) then s.plRestart 1 else s)
    else if s.uplUp ∧ s.upl.replay ≠ [] ∧ s.ackIdle (s.stallNs .upl) then s.uplRestart 1 else s)

/-! ## Transmission (R371, R374, R378, R379, R383, R384, R388, R394) -/

/-- Whether a new packet of a class may go: the class is open, has the credit, and the replay buffer and window have room
(R374, R379, R380). -/
def State.mayGo (s : State) (p : Pkt) : Bool :=
  let room := (s.fld (UPL.UPTXCL_CL p.tc) + 2 ^ 32 - s.fld (UPL.UPTXCC_CC p.tc)) % 2 ^ 32
  !bit (s.fld UPL.UPSTAT_CLOSED) p.tc && decide (p.blocks ≤ room ∧ room < 2 ^ 31) && decide (s.upl.replay.length < 32767)
    && decide (heldBytes s.upl.replay + 8 * (p.payload.length + 2) ≤ 4194304)

/-- Crumbs that the transmit group carries in a tenth of 10 µs (R388; log entry 213). -/
def State.lowLimit (s : State) : Nat := quadLanes (s.fld UPL.UPSTAT_TXQ) * rateKb .upl (s.fld (LK.LKSTAT_RATE .upl)) / 64000

/-- Packets of classes 0, 1 and 3 sent in the last 10 µs (R388). -/
def State.lowRecent (s : State) : List (Nat × Nat) := s.upl.low.filter fun e => decide (s.clock < e.1 + 10000)

/-- A packet of class 0, 1 or 3 may go beside class 4: while that has data waiting, the three take at most a tenth of the link in
any 10 µs (R388). -/
def State.mayLow (s : State) (p : Pkt) : Bool :=
  s.mayGo p && (s.upl.fifo == [] || decide (sumN (s.lowRecent.map (·.2)) + p.payload.length + 2 ≤ s.lowLimit))

/-- What the looped receive path takes of a packet sent (R395). -/
def State.loopBack (s : State) (cs : List Crumb) : State :=
  match cs with
  | [] => s
  | h :: _ =>
    if bitsOf h.toNat 5 0 ≠ pkCredit then s.takePacket cs
    else if creditInit h then s.takeInit cs
    else if creditNak h then s.takeNak cs
    else s.takeCredit cs

/-- A packet leaves on the UT lanes (R73, R368), and in near-end loopback comes back (R395). -/
def State.uplSend (s : State) (cs : List Crumb) : State :=
  let t := s.toLanes .upl cs
  let s := { t with sent := t.sent ++ [Sent.uplink cs] }
  if s.uplLoops then s.loopBack cs else s

/-- A trailer corrupted in its lowest bit (R395). -/
def corrupt (cs : List Crumb) : List Crumb :=
  match cs.getLast? with
  | some t => cs.dropLast ++ [t ^^^ 1]
  | none => cs

/-- A new sequenced packet sent: numbered, charged to its class and kept for replay (R374, R379). -/
def State.sendNew (s : State) (p : Pkt) (whole : Option EgUnit) : State :=
  let seq := s.fld UPL.UPSEQ_TXNEXT
  let cs := p.crumbs seq
  let cs := if s.upl.injTx then corrupt cs else cs
  let rep := s.upl.replay ++ [⟨seq, p, whole⟩]
  let low := if p.tc < 4 then s.lowRecent ++ [(s.clock, p.payload.length + 2)] else s.lowRecent
  let s := s.setUpl { s.upl with replay := rep, low := low, injTx := false, ackAt := (if s.upl.replay = [] then s.clock else s.upl.ackAt) }
  let s := s.setFlds [(UPL.UPSEQ_TXNEXT, seq + 1), (UPL.UPTXCC_CC p.tc, s.fld (UPL.UPTXCC_CC p.tc) + p.blocks),
    (UPL.UPRPL_RPLBYTES, heldBytes rep)]
  s.uplSend cs

/-- A CREDIT sent (R378): INIT or NAK, ACKSEQ and the limits advertised. -/
def State.sendCredit (s : State) (init nak : Bool) : State :=
  let ack := if init then 0xFFFF else (s.fld UPL.UPRXSEQ_RXNEXT + 65535) % 65536
  let l := fun c => s.fld (UPL.UPRXCL_CL c)
  let p : Pkt :=
    { kind := pkCredit, tc := 0, id := 0, kspec := b2n init + 2 * b2n nak,
      payload := [BitVec.ofNat 64 (l 0 + 2 ^ 32 * l 1), BitVec.ofNat 64 (l 2 + 2 ^ 32 * l 3), BitVec.ofNat 64 (l 4)] }
  s.uplSend (p.crumbs ack)

/-- A MGMT packet from its payload crumbs (R384). -/
def mgmt (cs : List Nat) : Pkt := { kind := pkMgmt, tc := 0, id := 0, payload := cs.map (BitVec.ofNat 64) }

/-- HELLO (R384). -/
def State.helloPkt (s : State) : Pkt :=
  mgmt [1 + 2 ^ 16 * s.dev + 2 ^ 32 * (s.reg GLB.IDCODE).toNat,
    0x0302 + 2 ^ 16 * s.fld GLB.MODE_CUR + 2 ^ 32 * s.fld GLB.CFGGEN_GEN, s.now]

/-- LINKSTATE (R384). -/
def State.linkStatePkt (s : State) : Pkt :=
  mgmt [2 + 2 ^ 8 * s.fld (LK.LKSTAT_RATE .upl) + 2 ^ 16 * s.fld UPL.UPSTAT_TXQ + 2 ^ 24 * s.fld UPL.UPSTAT_RXQ
      + 2 ^ 32 * s.fld UPL.UPCAP_CAP, s.fld UPL.UPLOAD_LOAD + 2 ^ 32 * s.fld UPL.UPSTAT_SHEDDING]

/-- LOST of a SID: first FN, count and first FSEQ (R384, R394). -/
def lostPkt (sid fn n fseq : Nat) : Pkt := mgmt [3 + 2 ^ 16 * sid + 2 ^ 32 * fn, n + 2 ^ 32 * fseq]

/-- The next packet of a unit: at most 512 of its crumbs left, with its kind and SEG (R370, R371). -/
def unitPkt (sid : Nat) (u : EgUnit) : Pkt :=
  let rest := packCrumbs (u.bytes.drop (8 * u.gone))
  let last := decide (rest.length ≤ 512)
  let seg := b2n (u.gone == 0) + 2 * b2n last
  let kind := if u.role == .fmt then pkFmt else if u.role == .stats then pkStats else pkVideo
  { kind := kind, tc := 4, id := sid, seg := seg, payload := rest.take 512 }

/-- Rounds of the deficit round robin a SID still needs for its next packet, with its quantum (R388). -/
def State.drrRounds (s : State) (sid : Nat) (p : Pkt) : Nat :=
  let q := max 1 ((CfgSet.sidRate s.cfg.active sid / 8000000).floor.toNat)
  ceilDiv (8 * (p.payload.length + 2) - s.upl.deficit.get sid 0) q

/-- SIDs with a packet that may go, those after the SID served last first. -/
def State.drrOrder (s : State) : List Nat :=
  let l := ((s.upl.fifo.map (·.1)).filter fun sid => isImageSid sid || isLatSid sid).filter fun sid =>
    match s.fifo sid with
    | u :: _ => s.mayGo (unitPkt sid u)
    | [] => false
  (l.filter fun sid => decide (s.upl.last < sid)) ++ l.filter fun sid => decide (sid ≤ s.upl.last)

/-- The SID of the fewest rounds, the first in order on a tie. -/
def fewest (f : Nat → Nat) : List Nat → Option Nat
  | [] => none
  | a :: r =>
    match fewest f r with
    | none => some a
    | some b => if f b < f a then some b else some a

/-- The stream that class 4 serves next: statistics and telemetry first, then the round robin (R388). -/
def State.pickStream (s : State) : Option Nat :=
  let first := (s.upl.fifo.map (·.1)).find? fun sid => !isLatSid sid && decide (4 ≤ sid % 8) && (match s.fifo sid with
    | u :: _ => s.mayGo (unitPkt sid u)
    | [] => false)
  match first with
  | some sid => some sid
  | none => fewest (fun sid => match s.fifo sid with
      | u :: _ => s.drrRounds sid (unitPkt sid u)
      | [] => 0) s.drrOrder

/-- Deficits after a SID is served: each waiting SID gains its quantum for every round, the served one pays (R388). -/
def State.drrPay (s : State) (sid : Nat) (p : Pkt) : State :=
  if isImageSid sid || isLatSid sid then
    let n := s.drrRounds sid p
    let cost := 8 * (p.payload.length + 2)
    let gain := fun t : Nat => n * max 1 ((CfgSet.sidRate s.cfg.active t / 8000000).floor.toNat)
    let d := s.drrOrder.foldl (fun (d : Tbl Nat) t => d.set t (d.get t 0 + gain t)) s.upl.deficit
    let left := (s.fifo sid).length
    let v := d.get sid 0 - cost
    s.setUpl { s.upl with deficit := d.set sid (if left ≤ 1 then 0 else v), last := sid }
  else s

/-- The next packet of a stream sent; a whole unit leaves its FIFO, and the first packet of a START makes its frame live
(R371, R392). -/
def State.sendStream (s : State) (sid : Nat) : State :=
  match s.fifo sid with
  | [] => s
  | u :: rest =>
    let p := unitPkt sid u
    let s := s.drrPay sid p
    let f := if decide (2 ≤ p.seg) then rest else { u with gone := u.gone + p.payload.length } :: rest
    let s := s.setUpl { s.upl with fifo := (if f = [] then s.upl.fifo.drop sid else s.upl.fifo.set sid f) }
    let s := if u.role == .start && u.gone == 0 then
        let x := s.stream sid
        s.setStream sid { x with live := x.live ++ [(u.fn, u.fseq)] }
      else s
    let s := s.sendNew p (some { u with gone := 0 })
    if isImageSid sid then s.settleK (sid / 8) (sid % 8) else s

/-- The first SID with a LOST to declare (R394). -/
def State.pickLost (s : State) : Option (Nat × Nat × Nat × Nat) :=
  match s.upl.lost with
  | [] => none
  | (sid, fn, n, q) :: _ => some (sid, fn, n, q)

/-- Class 0 in order: HELLO first after each start, LINKSTATE, LOST, then what waits (R383, R388, R394). -/
def State.sendClass0 (s : State) : Option State :=
  if s.upl.hello then
    if s.mayLow s.helloPkt then some ((s.setUpl { s.upl with hello := false }).sendNew s.helloPkt none) else none
  else if s.upl.linkState then
    if s.mayLow s.linkStatePkt then some ((s.setUpl { s.upl with linkState := false }).sendNew s.linkStatePkt none) else none
  else
    match s.pickLost with
    | some (sid, fn, n, q) =>
      let p := lostPkt sid fn n q
      if s.mayLow p then
        let s := (s.setUpl { s.upl with lost := s.upl.lost.drop sid }).report 0x0814 sid 0
        some ((s.bump UPL.UPCNT5_LOST n).sendNew p none)
      else none
    | none =>
      match s.upl.q0 with
      | p :: r => if s.mayLow p then some ((s.setUpl { s.upl with q0 := r }).sendNew p none) else none
      | [] => none

/-- Classes 3, 1 and 4 in their order (R388); no stream unit goes before HELLO, LINKSTATE and LOST (R383, R394), and class 4
stays empty outside the streaming modes (R383). -/
def State.sendLower (s : State) : State :=
  let quiet := s.upl.hello || s.upl.linkState || s.upl.lost != []
  let c3 := match s.upl.q3 with
    | p :: r => if s.mayLow p && !s.upl.hello then some ((s.setUpl { s.upl with q3 := r }).sendNew p none) else none
    | [] => none
  let c1 := match s.upl.q1 with
    | p :: r => if s.mayLow p && !s.upl.hello then some ((s.setUpl { s.upl with q1 := r }).sendNew p none) else none
    | [] => none
  match c3, c1 with
  | some t, _ => t
  | none, some t => t
  | none, none =>
    if quiet then s
    else
      match s.pickStream with
      | some sid => s.sendStream sid
      | none => s

/-- The next packet in the order of R388. -/
def State.sendNext (s : State) : State :=
  let u := s.upl
  if 0 < u.initDue then ((s.setUpl { u with initDue := u.initDue - 1, initSent := true }).sendCredit true false).comeUp
  else if u.nakDue then ((s.setUpl { u with nakDue := false, ackDue := false }).sendCredit false true).bump UPL.UPCNT0_NAKTX 1
  else if u.ackDue then (s.setUpl { u with ackDue := false }).sendCredit false false
  else if !s.flag UPL.UPSTAT_UP then s
  else
    match u.again with
    | h :: r =>
      let cs := h.pkt.crumbs h.lseq
      let cs := if u.injTx then corrupt cs else cs
      let s := s.setUpl { u with again := r, injTx := false }
      s.uplSend cs
    | [] =>
      match s.sendClass0 with
      | some t => t
      | none => s.sendLower

/-- UPLINK_PACKET_TRANSMIT (R388). -/
def execUplinkPacketTransmit (s : State) : Out := .next (if s.uplOperating then s.sendNext else s)

/-- INJECT_TX_CRC (R395). -/
def execInjectTxCrc (s : State) : Out := .next (if s.domainOn .uplink then s.setUpl { s.upl with injTx := true } else s)

/-- INJECT_RX_DROP (R395). -/
def execInjectRxDrop (s : State) : Out := .next (if s.domainOn .uplink then s.setUpl { s.upl with injRx := true } else s)

end Sys2Proof.Machine
end

