-- ==== Sys2Proof/Machine/Heads.lean ====
section
/-!
DEFINITION. Camera heads: enumeration, authentication, wear, firmware, what ends a back-channel command, and what happens
when a head leaves its port (spec/04_heads.md R106 to R142).
-/
namespace Sys2Proof.Machine

/-- What ends a back-channel command: a RESPONSE with its RCODE, header, payload crumbs, payload bytes and arrival time; a
timeout; or the port that left its accessible states (R114, R118, R409). -/
inductive Answer where
  | rsp (rcode : Nat) (header : Crumb) (payload : List Crumb) (data : List Byte) (t4 : Nat)
  | timeout
  | absent
  deriving DecidableEq, Repr

/-! ## Leaving a slice (R138) -/

/-- The slice of a port released and the queue entries after the last frame discarded, once no frame of the port is open
(R138). -/
def State.leaveSlice (s : State) (p : Nat) : State :=
  let s := s.dropMove p
  let s := s.pqDiscard p fun e => decide (0 < fnAhead e.tfn (s.fnOpen p))
  s.release p

/-- A streaming port enters HELD or UPDATING (R136, R138): message, fault, STATUS reason and telemetry; the slice goes when
the frame in progress closes, at once where none is open. -/
def State.loseHead (s : State) (p st reason : Nat) : State :=
  let s := (s.setPstate p st).hpIntr p 1 0
  let s := s.report 0x2016 p st
  let s := (s.telemetry p 4 (s.serial p)).ledgerSee p false
  let s := s.raiseReason p reason
  let c := s.camOf p
  let s := s.setCam p { c with losses := withBit c.losses 2 true }
  let g := s.ingests.get p {}
  let s := { s with ingests := s.ingests.set p { g with baseline := false } }
  if g.frame.isSome then s else s.leaveSlice p

/-- Condition 3, 4 or 5 of R299 begins in place of conditions 1 and 2. -/
def State.refuseReason (s : State) (p reason : Nat) : State :=
  (s.raiseReason p reason).endReasons p [1, 2]

/-! ## Admission (R125 to R128, R139) -/

/-- The port enters INVALID (R125): 0 a check failed, 1 a read failed twice. -/
def State.invalidHead (s : State) (p why : Nat) : State :=
  let s := ((s.setPstate p psInvalid).report 0x2011 p why).hpIntr p 4 psInvalid
  s.refuseReason p 4

/-- The port enters REFUSED (R126, R128). -/
def State.refuseHead (s : State) (p : Nat) : State :=
  ((s.setPstate p psRefused).hpIntr p 4 psRefused).refuseReason p 3

/-- The sensor initialisation list queued in class 3, in list order (R139). -/
def State.queueInit (s : State) (p : Nat) : State :=
  let l := CfgSet.initList (s.setFor p) p
  let s := s.setPort p { s.port p with initLeft := l.length, inited := true }
  let cmds := (List.range l.length).map fun k =>
    let e := l.getD k (0, 0, 0)
    cmdWrite 3 e.1 (leBytes e.2.1 e.2.2) (.initList k)
  cmds.foldl (fun s c => s.bcQueue p c) s

/-- A head admitted (R126, R139): READY, the ledger renewed, and either mismatched or prepared to attach. -/
def State.admitHead (s : State) (p : Nat) : State :=
  let s := ((s.setPstate p psReady).hpIntr p 3 0).ledgerSee p true
  let s := { s with tsu := { s.tsu with trigFrom := s.tsu.trigFrom.set p s.clock } }
  let bad := !expectedGood (CfgSet.expected (s.setFor p) p) (s.port p).desc
  let s := ((s.setPort p { s.port p with mismatch := bad }).portInfo p true).pairMismatch p
  if bad then ((s.report 0x2017 p 0).hpIntr p 4 psReady).refuseReason p 5
  else s.queueInit p

/-- A port in READY whose head may attach at its next frame start (R137, R139, R189). -/
def State.mayAttach (s : State) (p : Nat) : Bool :=
  s.pstate p == psReady && !(s.port p).mismatch && CfgSet.camera (s.setFor p) p

/-- HEAD_REAUTH commands that wait for the challenge of a port, answered (R447). -/
def State.answerReauth (s : State) (p : Nat) (status detail : Nat) (result : List Byte) : List Req → State
  | [] => s
  | r :: rest =>
    (if r.opcode = 0x0302 ∧ r.arg 0 2 = p then s.final r status detail result else s).answerReauth p status detail result rest

/-- The result of a challenge: 1 passed, 2 failed, 3 no key (R126); of a repeated one, REFUSED at the next frame boundary of
a streaming port unless unauthenticated heads are admitted (R128). -/
def State.authResult (s : State) (p r : Nat) (again : Bool) : State :=
  let s := s.setFld (HP.PSTAT_AUTH p) r
  let s := if r = 2 then s.report 0x2012 p 0 else if r = 3 then s.report 0x2013 p 0 else s
  let ok := r = 1 || s.flag (HP.PCTL_ALLOW_UNAUTH p)
  let s := s.setPort p { s.port p with unauth := r != 1 }
  let s := s.answerReauth p mbOk 0 [BitVec.ofNat 8 r] s.mbx.runs
  if again then
    if ok then s.setPort p { s.port p with refuseNext := false }
    else if s.pstate p = psStreaming then s.setPort p { s.port p with refuseNext := true }
    else if s.pstate p = psReady then s.refuseHead p
    else s
  else if ok then s.admitHead p
  else s.refuseHead p

/-- The challenge begun, or the result No key where PUBKEY is all zero (R126). -/
def State.challenge (s : State) (p : Nat) (again : Bool) : State :=
  if allZero (s.port p).desc 0xD10 97 then s.authResult p 3 again
  else
    let r := s.drawNonce
    r.2.bcQueue p ⟨bcAuth, 0, leBytes 48 r.1, 5, .auth r.1 again⟩

/-- Enumeration goes on to the challenge, the wear region taken (R126). -/
def State.startAuth (s : State) (p : Nat) : State := (s.setPstate p psAuth).challenge p false

/-- The wear region taken; one restored or zeroed is marked, at least IN-LIFE, and reported (R132). -/
def State.takeWear (s : State) (p : Nat) (w : List Byte) (good : Bool) : State :=
  let w' :=
    if good then w
    else
      let base := match s.ledgerOf (bytesAt (s.port p).desc 0x20 16) with
        | some e => e.wear
        | none => List.replicate 96 0
      wearWith base [(0x0F, 1, withBit (fieldAt base 0x0F 1) 0 true), (0x0E, 1, max 1 (wearState base))]
  let s := s.setPort p { s.port p with wear := w', minutes := 0, cycles := 0, wearPend := [] }
  let s := s.setFld (HP.PSTAT_WEAR p) (wearState w')
  if good then s else s.report 0x2014 p (wearState w')

/-- A descriptor read whole: checked, its identity shown, and its wear region taken or read once more (R125, R129, R132,
R140, R142). -/
def State.descRead (s : State) (p : Nat) : State :=
  let d := (s.port p).desc
  if !descGood d then s.invalidHead p 0
  else
    let caps := fieldAt d 0x44 4
    let serial := bytesAt d 0x20 16
    let x := s.port p
    let s := if x.sharpOf = serial then s else s.setPort p { x with sharp := [], hours := [], sharpOf := serial }
    let s := s.setFlds ([(HP.PSTAT_DVER p, fieldAt d 4 2), (HP.PSTAT_HITLESS p, b2n (bit caps 0)), (HP.PSTAT_DUAL p, b2n (bit caps 1)),
      (HP.PSTAT_MASTER p, b2n (!bit caps 1 || s.dev != 2))]
      ++ (List.range 4).map fun k => (HP.HSERIAL_SER p k, fieldAt d (0x20 + 4 * k) 4))
    let w := bytesAt d 0xF80 96
    if wearGood w then (s.takeWear p w true).startAuth p
    else s.bcQueue p ⟨bcPoll, 0, [], 6, .wearReread⟩

/-- Read k of the descriptor queued (R125). -/
def State.readDesc (s : State) (p k : Nat) (retry : Bool) : State := s.bcQueue p (cmdRead 5 (64 * k) 64 (.descriptor k retry))

/-- ENUMERATING entered: both groups have reached GO. The head's time starts anew (R137, R153, R154). -/
def State.enumerate (s : State) (p : Nat) : State :=
  let x := s.port p
  let s := s.setPort p { x with desc := [], tsync := [], offset := 0, rate := (0, 1), tref := 0, tsyncAt := s.clock, stale := false,
                                enumTsync := 8, tlow := none, thigh := none, armed := true, unauth := false, mismatch := false,
                                refuseNext := false, updateNext := false, wear := [], fromHeld := false, inited := false,
                                masterAt := none }
  ((s.hideHead p).setPstate p psEnum).readDesc p 0 false

/-! ## Wear (R129 to R134) -/

/-- The wear region with the fields changed since the last write. -/
def PortSt.wearNow (x : PortSt) : List Byte := wearWith x.wear x.wearPend

/-- The region that the next WEAR_WRITE carries (R129 to R131). -/
def State.wearNew (s : State) (p : Nat) : List Byte :=
  let x := s.port p
  let w := x.wearNow
  let w := wearWith w [(0, 4, fieldAt w 0 4 + 1), (4, 4, fieldAt w 4 4 + x.minutes), (8, 4, fieldAt w 8 4 + x.cycles)]
  let w := wearWith w [(0x0E, 1, max (wearNext x.desc w) (s.fld (HP.PSTAT_WEAR p)))]
  wearWith (wearWith w [(0x14, 8, s.now)]) [(0x1C, 16, devId)]

/-- A wear write queued, WSTATE evaluated: a move to NEAR-END or END-OF-LIFE is reported (R130, R131). -/
def State.writeWear (s : State) (p : Nat) : State :=
  let w := s.wearNew p
  let st := wearState w
  let up := decide (s.fld (HP.PSTAT_WEAR p) < st ∧ 2 ≤ st)
  let s := (s.setFld (HP.PSTAT_WEAR p) st).bcQueue p ⟨bcWear, 0, w, 6, .wear⟩
  if up then s.report 0x2014 p st else s

/-- A wear write acknowledged: what it carried is the region now (R115, R301). -/
def State.wearDone (s : State) (p : Nat) (w : List Byte) : State :=
  let x := s.port p
  let m := x.minutes - (fieldAt w 4 4 - fieldAt x.wear 4 4)
  let c := x.cycles - (fieldAt w 8 4 - fieldAt x.wear 8 4)
  let s := s.setPort p { x with wear := w, minutes := m, cycles := c, wearPend := x.wearPend.filter fun f => fieldAt w f.1 f.2.1 != f.2.2 }
  (s.telemetry p 2 w).ledgerSee p true

/-- Thermal cycles: a rise of 40 °C above the lowest value since the last fall of 40 °C below a peak (R131). -/
def PortSt.warm (x : PortSt) (t : Int) : PortSt :=
  if x.armed then
    let low := min t (x.tlow.getD t)
    if low + 40 ≤ t then { x with cycles := x.cycles + 1, armed := false, thigh := some t, tlow := none }
    else { x with tlow := some low }
  else
    let high := max t (x.thigh.getD t)
    if t + 40 ≤ high then { x with armed := true, tlow := some t, thigh := none }
    else { x with thigh := some high }

/-! ## Head firmware (R135, R136) -/

/-- The 64-byte payload of FW_COMMIT (R115). -/
def commitPayload (img : List Byte) : List Byte := leBytes 4 img.length ++ sha384Bytes img ++ List.replicate 12 0

/-- FW_COMMIT queued with MODE. -/
def State.fwCommit (s : State) (p : Nat) (img : List Byte) (mode : Nat) : State :=
  s.bcQueue p ⟨bcFwCommit, mode, commitPayload img, 7, .firmware⟩

/-- The next step of a firmware transfer: a block of 1,024 bytes, the commit, or an end that waits for HMODE 1 (R135,
R455). -/
def State.fwNext (s : State) (p : Nat) : State :=
  match (s.port p).fw with
  | none => s
  | some (img, k, mode) =>
    if 1024 * k < img.length then
      (s.setPort p { s.port p with fw := some (img, k + 1, mode) }).bcQueue p ⟨bcFwBlock, k, bytesAt img (1024 * k) 1024, 7, .firmware⟩
    else if mode = 2 then s
    else s.fwCommit p img mode

/-- The UPD_HEAD_FW command that waits for a port, answered. -/
def State.answerFw (s : State) (p status detail : Nat) : State :=
  match s.mbx.runs.find? fun r => r.opcode == 0x0D05 && r.arg 0 2 == p with
  | some r => s.final r status detail []
  | none => s

/-- A block or the commit of a transfer answered (R135, R136). -/
def State.fwDone (s : State) (p btype rcode : Nat) : State :=
  if rcode ≠ 0 then
    let s := s.setPort p { s.port p with fw := none }
    let s := if rcode = 9 then s.report 0x2015 p rcode else s
    s.answerFw p 0x0D05 rcode
  else if btype = bcFwCommit then
    let mode := match (s.port p).fw with
      | some (_, _, m) => m
      | none => 0
    let s := s.setPort p { s.port p with fw := none, updateNext := mode == 1 && s.pstate p == psStreaming }
    s.answerFw p mbOk 0
  else
    let s := s.fwNext p
    match (s.port p).fw with
    | some (img, k, 2) => if img.length ≤ 1024 * k ∧ (s.port p).queue.all (fun c => c.origin != .firmware) then s.answerFw p mbOk 0 else s
    | _ => s

/-! ## Triggers (R157, R158) -/

/-- A TRIGGER missed: counted and reported (R158). -/
def State.missTrigger (s : State) (p g : Nat) : State := (s.bump (TSU.TGMISS_MISSED g) 1).report 0x0404 g p

/-- This device becomes or ceases to be the master of a head: a new master repeats the challenge on a dual-homed head (R128,
R140, R498). -/
def State.setMaster (s : State) (p : Nat) (v : Bool) : State :=
  let was := s.flag (HP.PSTAT_MASTER p)
  let s := s.setFld (HP.PSTAT_MASTER p) (b2n v)
  if v && !was && s.flag (HP.PSTAT_DUAL p) && (s.pstate p == psReady || s.pstate p == psStreaming) then s.challenge p true else s

/-- This device is the new master for a TRIGGER: its claim waits, or was answered after the TRIGGER left (R158). -/
def State.newMaster (s : State) (p g t fn : Nat) : Bool :=
  let x := s.port p
  let sent := (x.out.find? fun o => o.cmd.origin == .trigger g t fn).map (·.sent)
  (x.out.any fun o => o.cmd.origin == .master) || (x.queue.any fun c => c.origin == .master)
    || (match sent, x.masterAt with
      | some a, some b => decide (a ≤ b)
      | _, _ => false)

/-- A TRIGGER answered, for target t: a new master sends it again while the target is TRIGLAT ahead; another master that is
answered NOT_MASTER outside a handover has been deposed (R158, R500). -/
def State.triggerDone (s : State) (p g t fn : Nat) (a : Answer) : State :=
  let x := s.port p
  let drop := s.setPort p { x with trigs := x.trigs.filter fun e => e.1 != t }
  match a with
  | .rsp 0 _ _ _ _ => s
  | .rsp 2 _ _ _ _ =>
    if !s.flag (HP.PSTAT_DUAL p) then drop.missTrigger p g
    else if s.newMaster p g t fn then
      if s.now + s.trigLat p ≤ t then (drop.bump (TSU.TGMISS_RESENT g) 1).bcQueue p ⟨bcTrigger, g, [], 1, .trigger g t 0⟩
      else drop.missTrigger p g
    else
      let s := drop.missTrigger p g
      if s.pair.handovers.has p then s else (s.setPort p { s.port p with deposed := true }).setMaster p false
  | _ => drop.missTrigger p g

/-! ## The end of a command (R118) -/

/-- Status, DETAIL and data of a bridge transaction on a head (R401, R409). -/
def State.bridgeStatus (s : State) (p n : Nat) : Answer → Nat × Nat × List Byte
  | .rsp 0 _ _ d _ => if d.length < n then (5, 5, []) else (0, 0, d.take n)
  | .rsp r _ _ _ _ => if r ≤ 9 then (5, r, []) else (5, 0x7E, [])
  | .timeout => (6, 0, [])
  | .absent => (7, s.pstate p, [])

/-- A fetch ends: the delayed-read buffer of tag, address and count takes its result (R407). -/
def State.drbEnd (s : State) (tag addr n : Nat) (r : Nat × Nat × List Byte) : State :=
  let k := fun d : Drb => if d.tag = tag ∧ d.addr = addr ∧ d.n = n ∧ d.result = none then { d with result := some r, endAt := s.clock } else d
  { s with bridge := { s.bridge with drbs := s.bridge.drbs.map k } }

/-- A step of a locked sequence ends (R410, R412): an LREAD opens its lock, an LWRITE closes it; a lock that expired
meanwhile answers LOCK_EXPIRED. -/
def State.lockDone (s : State) (p step tag addr n : Nat) (a : Answer) : State :=
  let r := s.bridgeStatus p n a
  let stage := if step = 0 then 0 else 2
  let b := s.bridge
  match b.locks.find? fun l => l.tag == tag && l.port == p && l.stage == stage with
  | some l =>
    let rest := b.locks.filter fun x => x != l
    if step = 0 ∧ r.1 = 0 then
      { s with bridge := { b with locks := { l with stage := 1, at_ := s.clock } :: rest } }.complete tag addr n 0 0 r.2.2
    else if step ≠ 0 ∧ r.1 = 7 then (s.expireLock l 1).complete tag addr n 8 1 []
    else { s with bridge := { b with locks := rest } }.complete tag addr n r.1 r.2.1 []
  | none =>
    let d := match b.expired.find? fun e => e.1 == tag with
      | some e => e.2.2
      | none => 0
    s.complete tag addr n 8 d []

/-- A head tunnel request answered (R419, R420). -/
def State.tunnelDone (s : State) (p sid ttype ttag : Nat) (head : List Byte) (a : Answer) : State :=
  let two := ttype == 0x11
  let t := fun st l => s.tunnel sid (keyHeadTunnel p) ttype st p ttag l
  match a with
  | .rsp r h payload d _ =>
    let st := if r = 0 then 0 else 4
    if two then t st (bytesAt head 0 6 ++ [BitVec.ofNat 8 r, 0] ++ d) else t st (crumbBytes h ++ crumbsBytes payload)
  | .timeout => t 5 (if two then head else [])
  | .absent => t 6 (if two then head else [])

/-- A POLL for HEAD_POLL answered (R447; a head that does not answer ends it as not ready). -/
def State.pollDone (s : State) (p ch tag : Nat) (a : Answer) : State :=
  match a with
  | .rsp 0 _ _ d _ =>
    let r := s.toBuffer ch (bytesAt d 0 96)
    r.1.finish ch 0x0303 tag mbOk 0 r.2
  | _ => s.finish ch 0x0303 tag 0x0301 (s.pstate p) []

/-- A challenge answered (R126). -/
def State.authDone (s : State) (p nonce : Nat) (again : Bool) (a : Answer) : State :=
  match a with
  | .rsp 0 _ _ d _ =>
    let x := (s.port p).desc
    let ok := decide (96 ≤ d.length) && headCertGood (s.setFor p) x && headSigGood x nonce d
    s.authResult p (if ok then 1 else 2) again
  | .rsp 1 _ _ _ _ => s.authResult p 3 again
  | .absent => s.answerReauth p 0x0301 (s.pstate p) [] s.mbx.runs
  | _ => s.authResult p 2 again

/-- The end of a back-channel command at its originator (R118). -/
def State.bcEnd (s : State) (p : Nat) (c : BcCmd) (a : Answer) : State :=
  let good := match a with
    | .rsp 0 _ _ d _ => some d
    | _ => none
  match c.origin with
  | .descriptor k retry =>
    match a, good with
    | .absent, _ => s
    | _, some d =>
      if d.length < 64 then (if retry then s.invalidHead p 1 else s.readDesc p k true)
      else
        let x := s.port p
        let s := s.setPort p { x with desc := x.desc.take (64 * k) ++ d.take 64 }
        if k < 63 then s.readDesc p (k + 1) false else s.descRead p
    | _, none => if retry then s.invalidHead p 1 else s.readDesc p k true
  | .wearReread =>
    match a, good with
    | .absent, _ => s
    | _, some d => ((s.takeWear p (bytesAt d 0 96) (wearGood (bytesAt d 0 96))).startAuth p)
    | _, none => (s.takeWear p [] false).startAuth p
  | .auth nonce again => s.authDone p nonce again a
  | .bridgeRead tag addr n => s.drbEnd tag addr n (s.bridgeStatus p n a)
  | .bridgeWrite tag addr =>
    let r := s.bridgeStatus p 0 a
    if r.1 = 0 then s else s.pwFail tag addr r.1 r.2.1 p
  | .locked step tag addr n => s.lockDone p step tag addr n a
  | .tunnel sid ttype ttag head => s.tunnelDone p sid ttype ttag head a
  | .engine sl addr rd =>
    let n := c.fields / 2 ^ 24 % 128
    match a with
    | .rsp r _ _ d _ => s.sensorDone sl p addr n rd r d
    | _ => s.sensorDone sl p addr n rd 0xF0 []
  | .trigger g t fn => s.triggerDone p g t fn a
  | .tsync t1 =>
    match a with
    | .rsp 0 _ _ d t4 => s.setPort p ((s.port p).exchange (CfgSet.asym (s.setFor p) p) t1 (fieldAt d 0 8) (fieldAt d 8 8) t4)
    | _ => s
  | .poll ch tag => s.pollDone p ch tag a
  | .wear => if good.isSome then s.wearDone p c.payload else s
  | .firmware =>
    match a with
    | .rsp r _ _ _ _ => s.fwDone p c.btype r
    | _ => (s.setPort p { s.port p with fw := none }).answerFw p 0x0D05 0
  | .master =>
    match good with
    | some d =>
      let held := fieldAt d 0 4
      let mine := decide (held = c.fields % 2 ^ 32)
      let x := s.port p
      let s := s.setPort p { x with mepoch := held, masterAt := if mine then some s.clock else x.masterAt }
      s.setMaster p (mine || s.flag (HP.PSTAT_MASTER p))
    | none => s
  | .initList _ => s.setPort p { s.port p with initLeft := (s.port p).initLeft - 1 }
  | .queue _ => s
  | .internal => s

/-- Commands ended in order with one answer. -/
def State.bcEndAll (s : State) (p : Nat) (a : Answer) : List BcCmd → State
  | [] => s
  | c :: r => (s.bcEnd p c a).bcEndAll p a r

/-- The locks of a port ended as its head is lost, those whose step is on its way having been answered (R412). -/
def State.endLocks (s : State) (p : Nat) : State :=
  match s.lockOn p with
  | some l => s.expireLock l 1
  | none => s

/-- A port left its accessible states: every command queued or outstanding ends, and its locks close (R409, R412). -/
def State.portGone (s : State) (p : Nat) : State :=
  let x := s.port p
  let all := x.out.map (·.cmd) ++ x.queue
  let s := s.setPort p { x with out := [], queue := [], initLeft := 0, fw := none, enumTsync := 0, minutes := 0, cycles := 0,
                                wearPend := [], refuseNext := false, updateNext := false }
  let s := (s.bcEndAll p .absent all).endLocks p
  let s := (if x.desc.length < 4096 then s else s.portInfo p false)
  let s := if s.pstate p = psRefused ∨ s.pstate p = psInvalid then s else (s.hideHead p).setFld (HP.PSTAT_DUAL p) 0
  s.setPort p { s.port p with trigs := [], inited := false }

/-- The link of a port returned to DETECT or went OFF (R137, R138). -/
def State.portLinkLost (s : State) (p : Nat) : State :=
  let st := s.pstate p
  let x := s.port p
  if st = psStreaming then (s.loseHead p psHeld 1).portGone p
  else if st = psHeld ∨ st = psUpdating ∨ st = psAbsent ∨ st = psRefused ∨ st = psInvalid then s.portGone p
  else if st = psTraining then
    if x.fromHeld then s.setPstate p psHeld else s.setPstate p psAbsent
  else
    let s := s.ledgerSee p false
    ((s.setPstate p psAbsent).portGone p).endReasons p [5]

/-- A forward lane of a port shows no LOS: the port trains (R137). -/
def State.portTrain (s : State) (p : Nat) : State :=
  let st := s.pstate p
  let keep := st == psHeld || st == psUpdating || (st == psTraining && (s.port p).fromHeld)
  ((s.setPort p { s.port p with fromHeld := keep }).setPstate p psTraining).endReasons p [3, 4, 5]

/-! ## Commands on the line (R117, R157, R325) -/

/-- A command leaves: it takes the next TAG and goes onto HPnnn_B (R115, R117). -/
def State.bcLeave (s : State) (p : Nat) (c : BcCmd) : State :=
  let x := s.port p
  let s := s.setPort p { x with out := x.out ++ [⟨x.nextTag, c, s.clock⟩], nextTag := (x.nextTag + 1) % 256 }
  let cs := c.crumbs x.nextTag
  let s := s.toLanes (headLink p) cs
  { s with sent := s.sent ++ [.back p cs] }

/-- A TRIGGER leaves for the frame number of R157: EXPNS is latched and the target converted; too late, it is missed (R156,
R158). -/
def State.leaveTrigger (s : State) (p : Nat) (c : BcCmd) (g t : Nat) : State :=
  if t < s.now + s.trigLat p then s.missTrigger p g
  else
    let x := s.port p
    let fn := (s.fnOpen p + 1 + (x.trigs.filter fun e => decide (0 < fnAhead e.2 (s.fnOpen p))).length) % 2 ^ 32
    let m := s.camOf p
    let s := match m.pipeEntry 3 fn with
      | some e =>
        let m := { m.hold 3 e.data with queue := m.queue.filter (fun y => y.seq != e.seq), early := m.early.set fn (m.early.get fn 0 + 1) }
        ((s.setCam p m).pqDropGroups p).pqShow p
      | none => s
    let e := ((s.camOf p).expns).getD 0
    let t' := if CfgSet.grpAlign (s.setAt t) g = 1 then t - e / 2 else t
    let s := s.setPort p { x with trigs := x.trigs ++ [(t, fn)] }
    (s.bump (TSU.TGSENT_SENT g) 1).bcLeave p { c with payload := leBytes 8 (x.toHead t'), origin := .trigger g t fn }

/-- A sensor write of the queue leaves within the window of its dispatch frame, and is marked; past it, its entry moves
alone (R325, R331). -/
def State.leaveSensor (s : State) (p : Nat) (c : BcCmd) (seq : Nat) : State :=
  let m := s.camOf p
  match m.queue.find? fun e => e.seq == seq with
  | none => s
  | some e =>
    let g := s.ingests.get p {}
    let disp := (e.tfn + 2 ^ 32 - s.pqLatency p e) % 2 ^ 32
    if disp = g.lastFN ∧ s.now < g.boundary + (s.wwin p).2 then
      let s := s.setCam p { m with queue := m.queue.map fun y => if y.seq = seq then { y with sent := true } else y }
      (s.bcLeave p c).pqShow p
    else s.pqMove p (fun y => y.seq == seq) e.tfn (s.pqFirst p [e] e.tfn 64 0)

/-- BACKCHANNEL_COMMAND_SEND: the next command in the order of R117, at most 16 outstanding. -/
def execBackchannelCommandSend (port : Port) (s : State) : Out :=
  let p := port.val
  let x := s.port p
  .next (if !s.domainOn .pixel || decide (16 ≤ x.out.length) then s
    else
      match s.bcNext p with
      | none => s
      | some c =>
        let s := s.setPort p { x with queue := x.queue.erase c }
        match c.origin with
        | .trigger g t _ => s.leaveTrigger p c g t
        | .queue seq => s.leaveSensor p c seq
        | .tsync _ => s.bcLeave p { c with origin := .tsync s.now }
        | _ => s.bcLeave p c)

/-- BACKCHANNEL_TIMEOUT: no RESPONSE within RSPTO, or 200 ms for AUTH_CHAL and FW_COMMIT (R118). -/
def execBackchannelTimeout (port : Port) (tag : Byte) (s : State) : Out :=
  let p := port.val
  let x := s.port p
  .next (match x.out.find? fun o => o.tag == tag.toNat with
    | none => s
    | some o =>
      let s := (s.bcEnd p o.cmd .timeout).bump (HP.PCNT1_BCTIMEOUT p) 1
      s.setPort p { s.port p with out := (s.port p).out.erase o })

/-! ## Forward packets (R109, R113, R118) -/

/-- Forward packets of a port are received: the pixel domain is on, the link is OPERATING and the head has trained (R93,
R137). -/
def State.hears (s : State) (p : Nat) : Bool := s.domainOn .pixel && s.lkState (headLink p) == lsOper && decide (psEnum ≤ s.pstate p) && s.pstate p != psHeld && s.pstate p != psUpdating

/-- A header crumb that fails its CRC, or a reserved type: counted, and the ingest will mark the data discarded behind it
(R109, R169). -/
def State.headerLost (s : State) (p : Nat) (h : Crumb) : State :=
  let s := if crc8Good h then s.bump (HP.PCNT0_BADTYPE p) 1 else s.bump (HP.PCNT0_HCRCERR p) 1
  let g := s.ingests.get p {}
  { s with ingests := s.ingests.set p { g with orphans := true } }

/-- A forward packet of a type: `k` on its crumbs, or a lost header (R106, R109). -/
def State.onPacket (s : State) (p ptype : Nat) (cs : List Crumb) (k : State → Crumb → List Crumb → State) : State :=
  if !s.hears p then s
  else
    match cs with
    | [] => s
    | h :: r => if crc8Good h ∧ bitsOf h.toNat 5 0 = ptype then k s h r else s.headerLost p h

/-- HEADER_CRC_FAILURE: what follows the header crumb is discarded up to the next idle crumb (R109). -/
def execHeaderCrcFailure (port : Port) (header : Crumb) (s : State) : Out :=
  let t := bitsOf header.toNat 5 0
  .next (if s.hears port.val && header != 0 && (!crc8Good header || t == 0 || decide (6 ≤ t)) then s.headerLost port.val header else s)

/-- A STATUS crumb taken (R113, R131). -/
def State.headStatus (s : State) (p : Nat) (h : Crumb) : State :=
  let w := h.toNat
  let ovt := bit w 16
  let se := bit w 17
  let x := s.port p
  let rise := (ovt && !s.flag (HP.PSTAT_OVT p)) || (se && !x.senserr)
  let s := s.setPort p { x.warm (signed 8 (bitsOf w 15 8)) with senserr := se }
  let s := (s.setFld (HP.PSTAT_OVT p) (b2n ovt)).telemetry p 1 (crumbBytes h)
  if rise then (s.hpIntr p 2 (w % 2 ^ 32)).report 0x2010 p (w % 2 ^ 32) else s

/-- HEAD_STATUS (R113). -/
def execHeadStatus (port : Port) (crumbs : List Crumb) (s : State) : Out :=
  .next (s.onPacket port.val 4 crumbs fun s h _ => s.headStatus port.val h)

/-- A RESPONSE matched by TAG (R114, R118): one with a bad trailer is discarded and its command times out. Bits [63:32] of a
trailer are not judged, here as for a LINE (DESIGN CHOICE, log entry 195). -/
def State.headResponse (s : State) (p : Nat) (h : Crumb) (r : List Crumb) : State :=
  let w := h.toNat
  let len := bitsOf w 45 32
  let n := ceilDiv len 8
  let body := r.take n
  if r.length < n + 1 ∨ bitsOf (r.getD n 0).toNat 31 0 ≠ crc32Crumbs body then s.bump (HP.PCNT1_RSPCRC p) 1
  else
    match (s.port p).out.find? fun o => o.tag == bitsOf w 15 8 with
    | none => s.bump (HP.PCNT0_BADTYPE p) 1
    | some o =>
      let s := s.bcEnd p o.cmd (.rsp (bitsOf w 23 16) h body (bytesAt (crumbsBytes body) 0 len) s.now)
      s.setPort p { s.port p with out := (s.port p).out.erase o }

/-- HEAD_RESPONSE (R118). -/
def execHeadResponse (port : Port) (crumbs : List Crumb) (s : State) : Out :=
  .next (s.onPacket port.val 5 crumbs fun s h r => s.headResponse port.val h r)

/-! ## Timers (R128, R130, R134) -/

/-- REAUTH_TIMER (R128). -/
def execReauthTimer (port : Port) (s : State) : Out :=
  .next (if s.pstate port = psStreaming ∧ s.fld (HP.PCTL_REAUTH port) ≠ 0 then s.challenge port true else s)

/-- WEAR_WRITE_TIMER: ten more minutes of streaming; only the master writes (R130). -/
def execWearWriteTimer (port : Port) (s : State) : Out :=
  let p := port.val
  .next (if s.pstate p = psStreaming then
      let x := s.port p
      let s := s.setPort p { x with minutes := x.minutes + 10 }
      if s.flag (HP.PSTAT_MASTER p) then s.writeWear p else s
    else s)

/-- CLOSS from a reference and a median, U8.8 % (R134). -/
def closs (ref m : Int) : Nat := if ref ≤ 0 then 0 else (clamp 0 25600 (25600 * (ref - m) / ref)).toNat

/-- LENS_CONTRAST_HOURLY: the median of the hour's S values; the reference from the first 24 after NEW, CLOSS from the last
24 (R134). -/
def execLensContrastHourly (port : Port) (s : State) : Out :=
  let p := port.val
  let x := s.port p
  .next (if s.pstate p ≠ psStreaming ∨ x.sharp = [] then s
    else
      let w := x.wearNow
      if s.fld (HP.PSTAT_WEAR p) = 0 then s.setPort p { x with sharp := [], hours := [] }
      else
        let h := (median x.sharp :: x.hours).take 24
        let x := { x with sharp := [], hours := h }
        if h.length < 24 then s.setPort p x
        else
          let m := median h
          let fl := fieldAt w 0x0F 1
          if bit fl 1 then s.setPort p { x with wearPend := x.wearPend ++ [(0x0C, 2, closs (fieldAt w 0x10 4) m)] }
          else s.setPort p { x with wearPend := x.wearPend ++ [(0x10, 4, m.toNat), (0x0F, 1, withBit fl 1 true)] })

end Sys2Proof.Machine
end

