-- ==== Sys2Proof/Machine/Lanes.lean ====
section
/-!
DEFINITION. The serial lanes: received markers and training frames, bring-up, rate steps, lane failure and re-striping
(spec/03_lanes.md R70 to R105).
-/
namespace Sys2Proof.Machine

/-! ## Links (R70, R78) -/

/-- The block prefix of a link's fault codes, and its instance (R537). -/
def lkCode (l : Link) (n : Nat) : Nat :=
  match l with
  | .hp _ => 0x2000 + n
  | .upl => 0x0800 + n
  | .peer => 0x0A00 + n
def lkInst : Link → Nat
  | .hp p => p.val
  | _ => 0

def State.lkReport (s : State) (l : Link) (n arg : Nat) : State := s.report (lkCode l n) (lkInst l) arg

/-- The domain of a link's lanes (R655). -/
def lkDomain : Link → Domain
  | .hp _ => .pixel
  | .upl => .uplink
  | .peer => .peer

/-- The link may leave OFF: its domain is on, ENABLE is 1, and the keeper does not hold the uplink idle (R67, R90, R546). -/
def State.lkMay (s : State) (l : Link) : Bool :=
  s.domainOn (lkDomain l) && !s.sys.lanesHeld && s.flag (LK.LKCTL_ENABLE l) && (l != .upl || !s.flag KPR.DOMST_UPIDLE)

/-- A dual-homed head is known at a port (R84, R120). -/
def State.lkDual (s : State) (l : Link) : Bool :=
  match l with
  | .hp p => s.flag (HP.PSTAT_DUAL p) || (match (s.link l).cap with
      | some w => bit w 23
      | none => false)
  | _ => false

/-- Receive lanes the device has for a link, as a mask (R70). -/
def rxPins : Link → Nat
  | .hp _ => 15
  | .upl => 0xFFFF
  | .peer => 0xFF

/-- NLANES of the far end: the lanes fitted in its transmit group; all, while its capability word is not known (R84). -/
def State.farLanes (s : State) (l : Link) : Nat :=
  match (s.link l).cap with
  | some w => if bitsOf w 21 16 = 0 then 32 else bitsOf w 21 16
  | none => 32

/-- The units a receive group drops whole, as lane masks: pairs of a head port, quads of the others, as far as the far end has
lanes for them (R84, R94). -/
def State.rxUnits (s : State) (l : Link) : List Nat :=
  (match l with
    | .hp _ => if s.lkDual l then [3] else [3, 12]
    | .upl => [0xF, 0xF0, 0xF00, 0xF000]
    | .peer => [0xF, 0xF0]).filter fun u => decide (u < 2 ^ s.farLanes l)

/-- Lanes of the transmit group, and its quads. -/
def txUnits : Link → List Nat
  | .hp _ => [1]
  | .upl => (List.range 8).map fun q => 0xF <<< (4 * q)
  | .peer => [0xF, 0xF0]

/-- Whether two lane masks meet. -/
def meets (a b : Nat) : Bool := a &&& b != 0

/-- The quads of a lane mask, as a mask of quads. -/
def quadMask (m : Nat) : Nat := sumN ((List.range 8).map fun q => if meets m (0xF <<< (4 * q)) then 2 ^ q else 0)

/-- The receive lanes fitted. -/
def State.rxFitted (s : State) (l : Link) : Nat := sumN (s.rxUnits l)

/-- Receive lanes of a link that show no LOS now (R102). -/
def State.rxLive (s : State) (l : Link) : Nat :=
  sumN ((List.range 16).map fun k => if bit (s.rxFitted l) k && !s.flag (LK.LANEC3_LOSNOW l k) then 2 ^ k else 0)

/-- The whole units without LOS: the set a bring-up starts with (R90, R94). -/
def State.rxStart (s : State) (l : Link) : Nat := sumN ((s.rxUnits l).filter fun u => u &&& s.rxLive l == u)

/-- Active lanes set, with the quad masks of UPSTAT, and DEGRADED (R102, R395). -/
def State.setLanes (s : State) (l : Link) (rx tx : Nat) : State :=
  let s := s.setFlds [(LK.ACTRX_ACTRX l, rx), (LK.LKACT_ACTTX l, tx),
    (LK.LKSTAT_DEGRADED l, b2n (rx != s.rxFitted l || tx != sumN (txUnits l)))]
  if l = .upl then s.setFlds [(UPL.UPSTAT_TXQ, quadMask tx), (UPL.UPSTAT_RXQ, quadMask rx)] else s

/-- The highest rate index of a group; MAXRATE and BMAXRATE as a bring-up takes them (R100). -/
def topRate : Link → Nat
  | .hp _ => 3
  | _ => 6
def State.maxRate (s : State) (l : Link) : Nat := min (s.fld (LK.LKCTL_MAXRATE l)) (topRate l)
def State.bmaxRate (s : State) (l : Link) : Nat := min (s.fld (LK.LKCTL_BMAXRATE l)) 1

/-- The highest rate index of two masks that is not above a limit (R86). -/
def bestRate (a b limit : Nat) : Nat := (((List.range 8).filter fun i => bit a i && bit b i && decide (i ≤ limit)).getLast?).getD 0

/-- The rate indices of this device's receive group, as a mask (R70). -/
def rxRates : Link → Nat
  | .hp _ => 0xF
  | _ => 0x7F

/-- The target of a group: the highest index in both ends' RATES not above MAXRATE as the bring-up took it (R86, R100). -/
def State.lkTarget (s : State) (l : Link) : Nat :=
  match (s.link l).cap with
  | none => 0
  | some w => bestRate (bitsOf w 15 8) (rxRates l) (s.link l).max

/-- The target of the back-channel. A head's word gives the rates of its own group, the forward one, so that only this
device's RATES and BMAXRATE bear on it (R84, R86; DEDUCED, log entry 184). -/
def State.bTarget (s : State) (l : Link) : Nat := bestRate (ownRates l) (ownRates l) (s.link l).bmax

/-- This device leads the link (R70). -/
def State.leads (s : State) (l : Link) : Bool := l != .peer || s.dev != 2

/-! ## Lane numbers (R80) -/

/-- The lane number a physical receive lane carries: what its markers say (R80). -/
def State.laneNo (s : State) (l : Link) (k : Nat) : Nat := (((s.link l).lanes.get k {}).mapped).getD k

/-- A mask of physical lanes as lane numbers, and of lane numbers as physical lanes (R80). -/
def State.numbered (s : State) (l : Link) (phys : Nat) : Nat := (lanesOf phys).foldl (fun a k => a ||| 2 ^ s.laneNo l k) 0
def State.physical (s : State) (l : Link) (nums : Nat) : Nat :=
  sumN ((lanesOf (rxPins l)).map fun k => if bit nums (s.laneNo l k) then 2 ^ k else 0)

/-! ## Bring-up (R86 to R93) -/

/-- The link starts at its lowest rate on the whole units without LOS, if they make the minimum set; MAXRATE is taken, the
scramblers are set to all ones, and training frames leave (R75, R83, R86, R90, R100). DESIGN CHOICE: the set trained is the
one found at this moment; units whose LOS is released later in the bring-up are not added (log entry 185). -/
def State.lkStart (s : State) (l : Link) : State :=
  let rx := s.rxStart l
  if s.lkState l ≠ lsDetect ∨ !s.lkMay l ∨ rx = 0 ∨ (s.link l).retry then s
  else
    let x := s.link l
    let s := s.setLink l { attempts := x.attempts, failRep := x.failRep, bstate := lsLock, max := s.maxRate l, bmax := s.bmaxRate l }
    let s := s.setFlds [(LK.LKSTAT_STATE l, lsLock), (LK.LKSTAT_RATE l, 0), (LK.LKSTAT_TARGET l, 0), (LK.LKSTAT_BRATE l, 0),
      (LK.LKSTAT_FELLBACK l, 0), (LK.LKSTAT_HOLD l, 0)]
    (s.setLanes l rx (sumN (txUnits l))).tell l tkNone 0

/-- A forward lane of a port shows no LOS: its port trains (R137). -/
def State.lkTrainPort (s : State) (l : Link) : State :=
  match l with
  | .hp p =>
    let st := s.pstate p
    if s.lkMay l && s.rxLive l != 0 && (st == psAbsent || st == psHeld || st == psUpdating || st == psRefused || st == psInvalid)
        && s.lkState l ≤ lsDetect then
      s.portTrain p
    else s
  | _ => s

/-- What ends with a link that carried data, or trained, as it leaves (R137, R391). -/
def State.lkLost (s : State) (l : Link) (was : Nat) : State :=
  match l with
  | .hp p => if was ≤ lsDetect then s else s.portLinkLost p
  | .upl => if was = lsOper ∨ was = lsHold then s.uplDown else s
  | .peer => if was = lsOper ∨ was = lsHold then s.pairReinit 0 else s

/-- A group begins to lock: alignment, SEQ and failure marks are gone, and the first crumb after lock will be discarded (R75,
R80). -/
def State.dropAlign (s : State) (l : Link) : State :=
  let s := s.setLink l { s.link l with lanes := [], gseq := none, rsreq := [] }
  s.setFlds ((lanesOf (rxPins l)).map fun k => (LK.LANEC3_ALIGNED l k, 0))

/-- The link enters DETECT or OFF: holds, steps and quad training end (R90, R99). -/
def State.lkLeave (s : State) (l : Link) (st : Nat) : State :=
  let was := s.lkState l
  let x := s.link l
  let s := s.setLink l { attempts := x.attempts, failRep := x.failRep, retry := x.retry }
  let s := s.setFlds [(LK.LKSTAT_STATE l, st), (LK.LKSTAT_RATE l, 0), (LK.LKSTAT_TARGET l, 0), (LK.LKSTAT_BRATE l, 0),
    (LK.LKSTAT_FELLBACK l, 0), (LK.LKSTAT_HOLD l, 0)]
  let s := (s.dropAlign l).setLanes l 0 0
  (s.setFld (LK.LKSTAT_DEGRADED l) 0).lkLost l was

/-- DETECT, and at once a new bring-up where lanes allow it (R90). -/
def State.lkDetect (s : State) (l : Link) : State :=
  if s.lkState l = lsOff then s else (((s.lkLeave l lsDetect).lkTrainPort l).lkStart l)

/-- OFF (R99), and from OFF to DETECT where the mode and ENABLE allow (R90). -/
def State.lkOff (s : State) (l : Link) : State := if s.lkState l = lsOff then s else (s.setLink l { s.link l with retry := false }).lkLeave l lsOff
def State.lkOn (s : State) (l : Link) : State :=
  if s.lkState l = lsOff ∧ s.lkMay l then ((s.setLk l lsDetect).lkTrainPort l).lkStart l else s

/-- An attempt fails: DETECT, and again after 10 ms; the 16th in a row is reported once (R92). -/
def State.lkFail (s : State) (l : Link) : State :=
  let x := s.link l
  let n := x.attempts + 1
  let s := s.setLink l { x with attempts := n, retry := true, failRep := x.failRep || decide (16 ≤ n) }
  let s := if 16 ≤ n ∧ !x.failRep then s.lkReport l 2 16 else s
  s.lkLeave l lsDetect

/-- A step or dwell of the receive group failed: FALLBACK, to lock one index lower; at the lowest rate, or after a fallback,
the attempt fails (R87, R88, R90, R91). In STEP the group still runs at the lower of the two rates. -/
def State.lkFallback (s : State) (l : Link) : State :=
  let r := s.fld (LK.LKSTAT_RATE l)
  let x := s.link l
  let step := s.lkState l == lsStep
  if x.falling ∨ (r = 0 ∧ !step) then s.lkFail l
  else (s.setLink l { x with falling := true, dwelt := false, stepReq := false, fallTo := if step then r else r - 1 }).setLk l lsFallback

/-- FALLBACK is left for LOCK at the lower rate (R90). -/
def State.lkSettle (s : State) (l : Link) : State :=
  if s.lkState l = lsFallback then
    (s.setFlds [(LK.LKSTAT_STATE l, lsLock), (LK.LKSTAT_RATE l, (s.link l).fallTo)]).dropAlign l
  else s

/-- The same for the back-channel group of a head port (R89). -/
def State.bFallback (s : State) (l : Link) : State :=
  let x := s.link l
  if s.fld (LK.LKSTAT_BRATE l) = 0 ∨ x.bfalling then s.lkFail l
  else (s.setLink l { x with bfalling := true, bdwelt := false, bstepReq := false, bstate := lsLock }).setFld (LK.LKSTAT_BRATE l) 0

/-- A dwell error on a lane of the group (R87); after the dwell has passed there is none to fail. -/
def State.dwellError (s : State) (l : Link) : State :=
  if s.lkState l = lsDwell ∧ !(s.link l).dwelt then s.lkFallback l else s

/-- Both groups of a head port, or the one group of another link, have reached GO (R90, R93). -/
def State.bothGo (s : State) (l : Link) : Bool :=
  s.lkState l == lsGo && (match l with
    | .hp _ => (s.link l).bstate == lsGo
    | _ => true)

/-- GO reached (R90): the attempts start anew (on the uplink and the peer link with the link layer, since a wait for INIT that runs
out counts as one: R382; log entry 211), and a head port enumerates once both groups are there (R137); one that comes from a
hold goes on as it was (R96). -/
def State.lkGo (s : State) (l : Link) : State :=
  if s.bothGo l && !s.flag (LK.LKSTAT_HOLD l) then
    match l with
    | .hp p => (s.setLink l { s.link l with attempts := 0, failRep := false }).enumerate p
    | .peer => s
    | .upl => s
  else s

/-- The first marker after GO: OPERATING, and the link layer above starts (R90, R93, R382). -/
def State.lkOperate (s : State) (l : Link) : State :=
  if s.bothGo l then
    let s := s.setFlds [(LK.LKSTAT_STATE l, lsOper), (LK.LKSTAT_HOLD l, 0)]
    match l with
    | .upl => s.uplStart
    | .peer => ((List.range 192).filter fun p => s.pstate p == psReady || s.pstate p == psStreaming).foldl (fun s p => s.portInfo p true) s.plStart
    | .hp _ => s
  else s

/-! ## Lane failure and re-striping (R94 to R98) -/

/-- The receive units left, by lane numbers, when the lanes of the given numbers are dropped (R94, R95). -/
def State.rxLeft (s : State) (l : Link) (failed : List Nat) : Nat :=
  let act := s.numbered l (s.fld (LK.ACTRX_ACTRX l))
  sumN ((s.rxUnits l).filter fun u => u &&& act == u && failed.all fun k => !bit u k)

/-- Degradation is allowed at both ends and by DEGR_EN (R94). -/
def State.mayDegrade (s : State) (l : Link) : Bool :=
  s.flag (LK.LKCTL_DEGR_EN l) && (match (s.link l).cap with
    | some w => bit w 22
    | none => false)

/-- The training of a quad is abandoned: its lanes align anew next time (R98). -/
def State.dropQuad (s : State) (l : Link) : State :=
  match (s.link l).quad with
  | none => s
  | some q =>
    let x := s.link l
    let out := fun k => k / 4 == q && !bit (s.fld (LK.ACTRX_ACTRX l)) k
    let s := s.setLink l { x with quad := none, lanes := x.lanes.filter fun e => !out e.1 }
    s.setFlds (((lanesOf (rxPins l)).filter out).map fun k => (LK.LANEC3_ALIGNED l k, 0))

/-- Receive lanes that carry markers: the active ones, and those of a quad that trains (R83, R98). -/
def State.rxMarked (s : State) (l : Link) (k : Nat) : Bool :=
  bit (s.fld (LK.ACTRX_ACTRX l)) k || (bit (rxPins l) k && (s.link l).quad == some (k / 4))

/-- A lane of an operating group failed: the far end is asked to drop it in every marker until it answers, or the link returns
to DETECT (R94, R95). -/
def State.operLaneFail (s : State) (l : Link) (k : Nat) : State :=
  let x := s.link l
  let n := s.laneNo l k
  if !bit (s.fld (LK.ACTRX_ACTRX l)) k then s
  else if s.mayDegrade l && s.rxLeft l (n :: x.rsreq) != 0 then
    let y := x.lanes.get k {}
    s.setLink l { x with lanes := x.lanes.set k { y with failed := true }, rsreq := x.rsreq ++ if x.rsreq.contains n then [] else [n] }
  else s.lkDetect l

/-- A receive lane fails (R94): by the state of its link. A quad in training is abandoned first (R98). -/
def State.laneFail (s : State) (l : Link) (k : Nat) : State :=
  let st := s.lkState l
  let x := s.link l
  let y := x.lanes.get k {}
  let s := (s.setLink l { x with lanes := x.lanes.set k { y with seq := none, misses := 0 } }).setFld (LK.LANEC3_ALIGNED l k) 0
  if st = lsOper ∨ st = lsHold ∨ st = lsGo then (s.dropQuad l).operLaneFail l k
  else if !bit (s.fld (LK.ACTRX_ACTRX l)) k then s
  else if st = lsDwell then s.dwellError l
  else if (st = lsLock ∨ st = lsStep) ∧ s.rxLive l = 0 then s.lkDetect l
  else s

/-- A hold begins: RSNEXT was received for the receive group, or is sent for the transmit group (R95). What RSREQ asked for
and the new set drops is answered. -/
def State.startHold (s : State) (l : Link) (rx tx : Option Nat) (doubles : Bool) : State :=
  let x := s.link l
  let left := s.numbered l (rx.getD 0)
  let s := s.setLink l { x with newRx := (if rx.isSome then rx else x.newRx), newTx := (if tx.isSome then tx else x.newTx),
                                doubles := doubles || x.doubles, rsreq := if rx.isSome then x.rsreq.filter (bit left) else x.rsreq }
  s.setFlds [(LK.LKSTAT_STATE l, lsHold), (LK.LKSTAT_HOLD l, 1)]

/-- A drop of lanes reported, with the new set: pairs of a head port, quads of the others (R96, R97). -/
def State.reportDrop (s : State) (l : Link) (was now : Nat) : State :=
  if was &&& now = was then s
  else s.lkReport l 3 (match l with
    | .hp _ => b2n (meets now 3) + 2 * b2n (meets now 12)
    | _ => quadMask now)

/-- A hold ends at the next marker: the new sets carry data, each drop is reported, and a doubled rate is locked first (R95 to
R97). -/
def State.endHold (s : State) (l : Link) : State :=
  let x := s.link l
  let rx0 := s.fld (LK.ACTRX_ACTRX l)
  let tx0 := s.fld (LK.LKACT_ACTTX l)
  let rx := x.newRx.getD rx0
  let tx := x.newTx.getD tx0
  let s := s.setLink l { x with newRx := none, newTx := none, doubles := false,
                                quad := (if rx = rx0 ∧ tx = tx0 then x.quad else none),
                                lanes := x.lanes.filter fun e => bit rx e.1 || x.quad == some (e.1 / 4) }
  let s := ((s.setLanes l rx tx).reportDrop l tx0 tx).reportDrop l rx0 rx
  let s := if x.doubles then
      (s.setFlds [(LK.LKSTAT_STATE l, lsLock), (LK.LKSTAT_RATE l, s.fld (LK.LKSTAT_RATE l) + 1)]).dropAlign l
    else s.setFlds [(LK.LKSTAT_STATE l, lsOper), (LK.LKSTAT_HOLD l, 0)]
  match l with
  | .upl => s.capacityChanged.replayAll
  | .peer => if s.plRuns then s.plReplay.plPumped else s
  | .hp _ => s

/-- The lanes that NEWSET names, by lane numbers. Bits that the group does not define are ignored (R79; DESIGN CHOICE, log
entry 186). -/
def State.newSetLanes (s : State) (l : Link) (v : Nat) : Nat :=
  let w := match l with
    | .hp _ => 2
    | _ => 4
  sumN ((s.rxUnits l).filter fun u => bit v (u.log2 / w))

/-- The re-stripe fields of a good marker on an active lane (R79, R95 to R97): RSNEXT begins a hold of the receive group, once
for its lanes; RSREQ forms the set that this end's next marker names, or returns the link to DETECT where it cannot. -/
def State.restripe (s : State) (l : Link) (w : Nat) : State :=
  let st := s.lkState l
  if st ≠ lsOper ∧ st ≠ lsHold then s
  else
    let rx := s.physical l (s.newSetLanes l (bitsOf w 55 48))
    let s := if !bit w 46 || (s.link l).newRx == some rx then s
      else if rx = 0 then s.lkDetect l
      else s.startHold l (some rx) none (match l with
        | .hp _ => bit w 55
        | _ => false)
    let x := s.link l
    let f := bitsOf w 45 40
    let tx := x.txNext.getD (x.newTx.getD (s.fld (LK.LKACT_ACTTX l)))
    let left := sumN ((txUnits l).filter fun u => u &&& tx == u && !bit u f)
    if !bit w 47 || !bit tx f then s
    else if left = 0 ∨ !s.mayDegrade l then s.lkDetect l
    else (s.dropQuad l).setLink l { (s.dropQuad l).link l with txNext := some left }

/-- A marker boundary of the group: a step takes its new rate, GO becomes OPERATING, a hold ends; then this end's own markers
leave, and with a set to name they carry RSNEXT on its lanes and a hold begins (R73, R88, R90, R95, R97; log entry 110). -/
def State.interval (s : State) (l : Link) : State :=
  let st := s.lkState l
  if st = lsStep then
    ((s.setFlds [(LK.LKSTAT_STATE l, lsLock), (LK.LKSTAT_RATE l, s.fld (LK.LKSTAT_RATE l) + 1)]).dropAlign l).sendMarkers l none
  else
    let s := if st = lsGo then s.lkOperate l else if st = lsHold then s.endHold l else s
    match (s.link l).txNext with
    | some m =>
      if s.lkState l = lsOper then
        let s := s.setLink l { s.link l with txNext := none }
        ((s.startHold l none (some m) false).sendMarkers l (some (quadMask m))).tell l tkNone 0
      else s.sendMarkers l none
    | none => s.sendMarkers l none

/-! ## Markers and training frames received (R79 to R85) -/

/-- A crumb is an alignment marker with a good CRC (R79). -/
def markerGood (c : Crumb) : Bool := bitsOf c.toNat 23 0 == 0xE41B2D && crc8Good c

/-- A lane's mapping taken from a marker; a LANE outside the group, or that another lane reports, fails both (R80). -/
def State.mapLane (s : State) (l : Link) (k n : Nat) : State :=
  let x := s.link l
  let same := x.lanes.filter fun e => e.1 != k && e.2.mapped == some n && s.rxMarked l e.1
  let s := s.setLink l { x with lanes := x.lanes.set k { (x.lanes.get k {}) with mapped := some n } }
  if !bit (s.rxFitted l) n then s.laneFail l k
  else match same with
    | [] => s
    | e :: _ => (s.laneFail l k).laneFail l e.1

/-- A dwell error on a receive lane: on a lane of a quad that trains beside the data, its dwell fails and the training is
abandoned (R87, R98; log entry 187). -/
def State.laneDwellError (s : State) (l : Link) (k : Nat) : State :=
  if s.lkState l = lsOper ∧ !bit (s.fld (LK.ACTRX_ACTRX l)) k then s.dropQuad l else s.dwellError l

/-- A bad marker at an expected position of a lane: it marks the boundary; the fourth in a row loses alignment (R79, R80). -/
def State.markerBad (s : State) (l : Link) (k : Nat) : State :=
  let x := s.link l
  let y := x.lanes.get k {}
  let lost := s.flag (LK.LANEC3_ALIGNED l k) && decide (3 ≤ y.misses)
  let s := s.setLink l { x with lanes := x.lanes.set k { y with misses := y.misses + 1, seq := y.seq.map fun q => (q + 1) % 256 } }
  let s := (s.bump (LK.LANEC1_MCRC l k) 1).laneDwellError l k
  if lost then s.laneFail l k else s

/-- A good marker: polarity, deskew and SEQ, the lane's number, alignment at the second in a row, and the re-stripe fields
(R80, R81). `bad`: its SEQ is not the group's. -/
def State.markerTaken (s : State) (l : Link) (k w : Nat) (inv bad : Bool) (skew : Nat) : State :=
  let x := s.link l
  let y := x.lanes.get k {}
  let s := if s.flag (LK.LANEC3_ALIGNED l k) then s else s.setFld (LK.LANEC3_INV l k) (b2n inv)
  if bad || decide (64 < skew) then
    ((s.bump (LK.LANEC3_DSKW l k) 1).laneDwellError l k).laneFail l k
  else
    let s := s.setLink l { x with lanes := x.lanes.set k { y with misses := 0, seq := some (bitsOf w 39 32) } }
    let s := if y.seq.isSome then s.setFld (LK.LANEC3_ALIGNED l k) 1 else s
    let s := s.mapLane l k (bitsOf w 31 24)
    if bit (s.fld (LK.ACTRX_ACTRX l)) k then s.restripe l w else s

/-- A marker on a lane: stuff violations since the last one; polarity as set once aligned, else either; the boundary of the
interval at its first marker; then the marker itself. A crumb that is no marker counts only where one is expected (R77, R79 to
R81). -/
def State.marker (s : State) (l : Link) (k : Nat) (c : Crumb) (skew stuffs : Nat) : State :=
  let s := if stuffs = 0 then s else (s.bump (LK.LANEC2_STUFV l k) stuffs).laneDwellError l k
  let x := s.link l
  let y := x.lanes.get k {}
  let inv := if s.flag (LK.LANEC3_ALIGNED l k) then s.flag (LK.LANEC3_INV l k) else !markerGood c && markerGood (~~~c)
  let c := if inv then ~~~c else c
  let good := markerGood c
  let seq := bitsOf c.toNat 39 32
  let due := y.seq.map fun q => (q + 1) % 256
  let bad := good && ((due.isSome && due != some seq)
    || (match x.gseq with
        | some g => seq != g && seq != (g + 1) % 256
        | none => false))
  let pos := if good then some seq else due
  let edge := !bad && pos.isSome && pos != x.gseq
  let st := s.lkState l
  let s := if edge then (s.setLink l { x with gseq := pos }).interval l else s
  if edge && st == lsStep then s
  else if good then s.markerTaken l k c.toNat inv bad skew
  else if y.seq.isSome then s.markerBad l k
  else s

/-- The KIND that pairs with this end's group (R84). -/
def farKind : Link → Nat
  | .hp _ => 1
  | .upl => 4
  | .peer => 5

/-- A training frame with a good CRC (R83). -/
def trainGood (cs : List Crumb) : Bool :=
  cs.length == 4 && bitsOf (cs.getD 0 0).toNat 31 0 == 0x96E15A3C
    && bitsOf (cs.getD 3 0).toNat 31 0 == crc32Crumbs (cs.take 3)

/-- The capability word taken: a KIND that does not pair leaves the link in LOCK and counts an attempt once (R84, R92). -/
def State.takeCap (s : State) (l : Link) (w : Nat) : State :=
  let x := s.link l
  if bitsOf w 3 0 ≠ farKind l ∨ bitsOf w 7 4 = 0 then
    if x.wrong then s
    else
      let n := x.attempts + 1
      let s := s.setLink l { x with wrong := true, attempts := n, failRep := x.failRep || decide (16 ≤ n) }
      let s := if 16 ≤ n ∧ !x.failRep then s.lkReport l 2 16 else s
      s.setLk l lsLock
  else
    let s := s.setLink l { x with cap := some w, wrong := false }
    let s := s.setFld (LK.LKSTAT_TARGET l) (s.lkTarget l)
    let s := match l with
      | .hp p => s.setFld (HP.PSTAT_DUAL p) (b2n (bit w 23))
      | _ => s
    s.setLanes l (s.fld (LK.ACTRX_ACTRX l)) (s.fld (LK.LKACT_ACTTX l))

/-- The fields of a training frame beside its capability word (R83). -/
def farFrame (cs : List Crumb) : FarFrame :=
  let a := (cs.getD 0 0).toNat
  let b := (cs.getD 2 0).toNat
  ⟨bitsOf a 39 32, bitsOf a 47 40, bitsOf a 51 48, bitsOf b 3 0, bitsOf b 7 4, bitsOf b 11 8, bitsOf b 47 16⟩

/-! ## Step commands (R85, R88 to R91) -/

/-- Whether a group has a step to ask for: its dwell has passed below its target, it does not fall back and no STEP_NAK has
ended its stepping. On a head port the back-channel steps once the forward group's dwell at its target has passed (R85, R88,
R89). -/
def State.stepDue (s : State) (l : Link) (back : Bool) : Bool :=
  let x := s.link l
  let fwd := s.fld (LK.LKSTAT_RATE l)
  if back then
    x.bdwelt && !x.bfalling && !x.bstop && decide (s.fld (LK.LKSTAT_BRATE l) < s.bTarget l)
      && ((x.dwelt && (decide (s.lkTarget l ≤ fwd) || x.stop || x.falling)) || s.lkState l == lsGo)
  else s.lkState l == lsDwell && x.dwelt && !x.falling && !x.stop && decide (fwd < s.lkTarget l)

/-- The leader asks for the next rate index (R88). -/
def State.askStep (s : State) (l : Link) (back : Bool) : State :=
  let x := s.link l
  if !s.stepDue l back then s
  else if back then (s.setLink l { x with bstepReq := true }).tell l tkStepReq (s.fld (LK.LKSTAT_BRATE l) + 1)
  else (s.setLink l { x with stepReq := true }).tell l tkStepReq (s.fld (LK.LKSTAT_RATE l) + 1)

/-- A follower answers STEP_REQ: STEP_ACK where its own dwell has passed and the index asked for is the next one and within
its rates, STEP_NAK otherwise (R70, R88). -/
def State.stepAsked (s : State) (l : Link) (req : Nat) : State :=
  let x := s.link l
  let r := s.fld (LK.LKSTAT_RATE l)
  if s.lkState l ≠ lsDwell then s
  else if x.dwelt ∧ req = r + 1 ∧ r < x.max then ((s.setLink l { x with dwelt := false }).tell l tkStepAck req).setLk l lsStep
  else s.tell l tkStepNak r

/-- STEP_ACK for the step asked for: it begins; the back-channel locks at once, since its state is not shown (R88, R90). -/
def State.stepAcked (s : State) (l : Link) (back : Bool) : State :=
  let x := s.link l
  if back then
    if x.bstepReq then (s.setLink l { x with bstepReq := false, bdwelt := false, bstate := lsLock }).setFld (LK.LKSTAT_BRATE l) 1
    else s
  else if x.stepReq then (s.setLink l { x with stepReq := false, dwelt := false }).setLk l lsStep
  else s

/-- STEP_NAK: the leader ends stepping at the current rate and offers GO_OPER (R85). -/
def State.stepNaked (s : State) (l : Link) (back : Bool) : State :=
  let x := s.link l
  if back then (if x.bstepReq then (s.setLink l { x with bstepReq := false, bstop := true }).tell l tkGoOper 0 else s)
  else if x.stepReq then (s.setLink l { x with stepReq := false, stop := true }).tell l tkGoOper 0
  else s

/-- A group goes to GO on GO_OPER: its dwell has passed, and for the leader its stepping is over (R85, R90, R91). -/
def State.goOper (s : State) (l : Link) (back : Bool) : State :=
  let x := s.link l
  if back then
    if x.bdwelt ∧ (s.bTarget l ≤ s.fld (LK.LKSTAT_BRATE l) ∨ x.bfalling ∨ x.bstop) ∧ x.bstate = lsDwell then
      (s.setLink l { x with bstate := lsGo }).lkGo l
    else s
  else if s.lkState l = lsDwell ∧ x.dwelt ∧ (s.leads l = false ∨ s.lkTarget l ≤ s.fld (LK.LKSTAT_RATE l) ∨ x.falling ∨ x.stop) then
    (s.setLk l lsGo).lkGo l
  else s

/-- The command of a training frame received (R85): a reserved code is NONE. On a head port an answer is to the step asked
for, and GO_OPER is for each group that waits for it. -/
def State.trainCmd (s : State) (l : Link) (cmd req : Nat) : State :=
  let back := (s.link l).bstepReq
  if cmd = tkStepReq then (if s.leads l then s else s.stepAsked l req)
  else if cmd = tkStepAck then s.stepAcked l back
  else if cmd = tkStepNak then s.stepNaked l back
  else if cmd = tkGoOper then (match l with
    | .hp _ => (s.goOper l false).goOper l true
    | _ => s.goOper l false)
  else s

/-- A training frame with a good CRC taken: its fields, the capability word, a back-channel dwell that the head's RXOK fails,
and its command (R83 to R85, R87). -/
def State.takeTrain (s : State) (l : Link) (cs : List Crumb) : State :=
  let f := farFrame cs
  let s := (s.setLink l { s.link l with far := f }).takeCap l (cs.getD 1 0).toNat
  let x := s.link l
  let s := match l with
    | .hp _ => if x.bstate = lsDwell ∧ !x.bdwelt ∧ !bit f.rxok 0 then s.bFallback l else s
    | _ => s
  if x.wrong then s else s.trainCmd l f.cmd f.req

/-! ## The commands -/

/-- A command of a link whose lanes' domain is on; a FALLBACK that stands is left first (R90; log entry 188). -/
def State.onLink (s : State) (l : Link) (f : State → State) : Out := .next (if s.domainOn (lkDomain l) then f (s.lkSettle l) else s)

/-- A lane event of a link whose lanes are on, at a lane the device has. -/
def State.onLane (s : State) (l : Link) (k : Nat) (f : State → State) : Out := s.onLink l fun s => if bit (rxPins l) k then f s else s

/-- LANE_LOS: asserted after 1 µs below the threshold (R94, R103). -/
def execLaneLos (link : Link) (lane : Fin 16) (s : State) : Out :=
  s.onLane link lane.val fun s =>
    if s.flag (LK.LANEC3_LOSNOW link lane.val) then s
    else ((s.bump (LK.LANEC0_LOS link lane.val) 1).setFld (LK.LANEC3_LOSNOW link lane.val) 1).laneFail link lane.val

/-- LANE_LOS_RELEASE: released after 10 µs above the threshold, so the link may leave DETECT and the port may train (R90,
R103, R137). -/
def execLaneLosRelease (link : Link) (lane : Fin 16) (s : State) : Out :=
  s.onLane link lane.val fun s => ((s.setFld (LK.LANEC3_LOSNOW link lane.val) 0).lkTrainPort link).lkStart link

/-- LANE_LOL (R94, R103). -/
def execLaneLol (link : Link) (lane : Fin 16) (s : State) : Out :=
  s.onLane link lane.val fun s => (s.bump (LK.LANEC0_LOL link lane.val) 1).laneFail link lane.val

/-- Every active receive lane is aligned (R80, R86). -/
def State.allAligned (s : State) (l : Link) : Bool := s.rxOk l == s.fld (LK.ACTRX_ACTRX l)

/-- LANE_LOCK: lock, with alignment of every active lane; the group dwells (R86, R90). `back` names the back-channel group of a
head port, whose receiver is the head's. -/
def execLaneLock (link : Link) (back : Bool) (s : State) : Out :=
  s.onLink link fun s =>
    let x := s.link link
    let st := s.lkState link
    if x.wrong then s
    else if back then (if x.bstate = lsLock ∧ lsLock ≤ st then s.setLink link { x with bstate := lsDwell, bdwelt := false } else s)
    else if st = lsLock ∧ s.allAligned link then (s.setLink link { x with dwelt := false }).setLk link lsDwell
    else s

/-- ALIGNMENT_MARKER (R80). -/
def execAlignmentMarker (link : Link) (lane : Fin 16) (crumb : Crumb) (skew stuffs : BitVec 16) (s : State) : Out :=
  s.onLink link fun s =>
    if s.rxMarked link lane.val ∧ lsLock ≤ s.lkState link then s.marker link lane.val crumb skew.toNat stuffs.toNat else s

/-- LOSS_OF_ALIGNMENT: four expected markers bad or absent (R80, R94). -/
def execLossOfAlignment (link : Link) (lane : Fin 16) (s : State) : Out :=
  s.onLane link lane.val fun s => s.laneFail link lane.val

/-- RSNEXT_TIMEOUT (R97). -/
def execRsnextTimeout (link : Link) (s : State) : Out :=
  s.onLink link fun s => if (s.link link).rsreq ≠ [] then s.lkDetect link else s

/-- TRAINING_FRAME: line crumbs of a lane, as they come out of the destuffer, through its polarity and descrambler; a frame
with a bad CRC is ignored and is a dwell error (R74, R75, R80, R83 to R85, R87). -/
def execTrainingFrame (link : Link) (crumbs : List Crumb) (s : State) (lane : Fin 16 := 0) : Out :=
  s.onLink link fun s =>
    let k := lane.val
    let st := s.lkState link
    let active := bit (s.fld (LK.ACTRX_ACTRX link)) k
    if !s.rxMarked link k ∨ (active ∧ (st < lsLock ∨ lsStep < st)) then s
    else
      let x := s.link link
      let cs := if s.flag (LK.LANEC3_INV link k) then crumbs.map (~~~ ·) else crumbs
      let a := (x.lanes.get k {}).take cs
      let s := s.setLink link { x with lanes := x.lanes.set k a.2 }
      if a.1 = [] then s
      else if !trainGood a.1 then s.laneDwellError link k
      else if active then s.takeTrain link a.1
      else s

/-- STEP_REQ: the leader asks; a follower answers by its own dwell (R88, R89). -/
def execStepReq (link : Link) (back : Bool) (s : State) : Out :=
  s.onLink link fun s => if s.leads link then s.askStep link back else s.stepAsked link (s.fld (LK.LKSTAT_RATE link) + 1)

/-- STEP_ACK: the step begins (R88, R90). -/
def execStepAck (link : Link) (back : Bool) (s : State) : Out := s.onLink link fun s => s.stepAcked link back

/-- STEP_NAK: stepping ends at the current rate (R85). -/
def execStepNak (link : Link) (back : Bool) (s : State) : Out := s.onLink link fun s => s.stepNaked link back

/-- GO_OPER exchanged: the group goes to GO (R90). -/
def execGoOper (link : Link) (back : Bool) (s : State) : Out := s.onLink link fun s => s.goOper link back

/-- QUAD_JOIN: the dwell of a returning quad passes on its aligned lanes; this end's next marker adds it to the transmit set
with RSNEXT, and the far end's RSNEXT adds it to the receive set (R98). -/
def execQuadJoin (link : Link) (s : State) : Out :=
  s.onLink link fun s =>
    let x := s.link link
    match x.quad with
    | none => s
    | some q =>
      let m := 0xF <<< (4 * q)
      let tx := s.fld (LK.LKACT_ACTTX link)
      let ready := (lanesOf (m &&& rxPins link)).all fun k => s.flag (LK.LANEC3_ALIGNED link k)
      if s.lkState link = lsOper ∧ ready ∧ (txUnits link).contains m ∧ !meets tx m then
        s.setLink link { x with txNext := some (tx + m) }
      else s

/-- The dwell of a group that fell back passes: FELLBACK, the fault, and GO_OPER is offered (R91). -/
def State.fellBack (s : State) (l : Link) (rate : Nat) : State :=
  ((s.setFld (LK.LKSTAT_FELLBACK l) 1).lkReport l 1 rate).tell l tkGoOper 0

/-- DWELL_PASS: an error-free dwell of 2^20 crumbs; at the lowest rate it needs the capability word (R86, R87). A group that
fell back goes to GO at that rate; at the target GO_OPER is offered; after a doubled rate the hold ends (R91, R96). -/
def execDwellPass (link : Link) (back : Bool) (s : State) : Out :=
  s.onLink link fun s =>
    let x := s.link link
    if x.cap = none then s
    else if back then
      if x.bstate ≠ lsDwell ∨ x.bdwelt then s
      else
        let s := s.setLink link { x with bdwelt := true }
        if x.bfalling then s.fellBack link (s.fld (LK.LKSTAT_BRATE link))
        else if s.bTarget link ≤ s.fld (LK.LKSTAT_BRATE link) then s.tell link tkGoOper 0
        else s
    else if s.lkState link ≠ lsDwell ∨ x.dwelt then s
    else
      let s := s.setLink link { x with dwelt := true }
      if x.falling then s.fellBack link (s.fld (LK.LKSTAT_RATE link))
      else if s.flag (LK.LKSTAT_HOLD link) then s.setFlds [(LK.LKSTAT_STATE link, lsOper), (LK.LKSTAT_HOLD link, 0)]
      else if s.lkTarget link ≤ s.fld (LK.LKSTAT_RATE link) then s.tell link tkGoOper 0
      else s

/-- STEP_TIMER_EXPIRY: a step has not completed with its dwell; the group falls back (R88, R91). -/
def execStepTimerExpiry (link : Link) (back : Bool) (s : State) : Out :=
  s.onLink link fun s =>
    let x := s.link link
    let st := s.lkState link
    if back then
      if (x.bstate = lsLock ∨ (x.bstate = lsDwell ∧ !x.bdwelt)) ∧ (0 < s.fld (LK.LKSTAT_BRATE link) ∨ x.bfalling) then s.bFallback link
      else s
    else if st = lsStep ∨ ((st = lsLock ∨ (st = lsDwell ∧ !x.dwelt)) ∧ (0 < s.fld (LK.LKSTAT_RATE link) ∨ x.falling)) then s.lkFallback link
    else s

/-- DETECT_RETRY: 10 ms after a failed attempt (R92). -/
def execDetectRetry (link : Link) (s : State) : Out :=
  s.onLink link fun s =>
    if s.lkState link = lsDetect then ((s.setLink link { s.link link with retry := false }).lkTrainPort link).lkStart link else s

/-- LANE_LOCK_TIMEOUT: a group does not lock at its lowest rate; the attempt fails (R86, R92). -/
def execLaneLockTimeout (link : Link) (s : State) (back : Bool := false) : Out :=
  s.onLink link fun s =>
    let idle := if back then (s.link link).bstate == lsLock && s.fld (LK.LKSTAT_BRATE link) == 0 && decide (lsLock ≤ s.lkState link)
      else s.lkState link == lsLock && s.fld (LK.LKSTAT_RATE link) == 0
    if idle then s.lkFail link else s

/-- A link brought up again from its lowest rate (R100). -/
def State.lkRetrain (s : State) (l : Link) : State :=
  if s.lkState l = lsOff then s else (s.setLink l { s.link l with retry := false }).lkDetect l

/-- LINK_RETRAIN (R100). -/
def execLinkRetrain (link : Link) (s : State) : Out := s.onLink link fun s => s.lkRetrain link

/-- A dropped quad of an operating link trains with QUAD_JOIN; one at a time (R75, R98). -/
def State.quadRetrain (s : State) (l : Link) : State :=
  let q := s.fld (LK.LKCTL_QSEL l)
  let m := 0xF <<< (4 * q)
  let out := ((txUnits l).contains m && !meets (s.fld (LK.LKACT_ACTTX l)) m) || ((s.rxUnits l).contains m && !meets (s.fld (LK.ACTRX_ACTRX l)) m)
  let head := match l with
    | .hp _ => true
    | _ => false
  if head || s.lkState l != lsOper || (s.link l).quad.isSome || !out then s
  else
    let x := s.link l
    let tx := lanesOf (m &&& sumN (txUnits l))
    let s := s.setLink l { x with quad := some q, lanes := x.lanes.filter fun e => e.1 / 4 != q || bit (s.fld (LK.ACTRX_ACTRX l)) e.1,
                                  tx := x.tx.filter fun e => e.1 / 4 != q || meets (s.fld (LK.LKACT_ACTTX l)) m }
    s.trainOn l tx tkQuadJoin 0

/-- QUAD_RETRAIN (R98). -/
def execQuadRetrain (link : Link) (s : State) : Out := s.onLink link fun s => s.quadRetrain link

/-- The counters of a block zeroed by CLRCNT (R101, R140, R180, R395): lane counters, and those of the block above. -/
def State.lkClear (s : State) (l : Link) : State :=
  let lanes := (lanesOf (rxPins l)).flatMap fun k =>
    [(LK.LANEC0_LOS l k, 0), (LK.LANEC0_LOL l k, 0), (LK.LANEC1_MCRC l k, 0), (LK.LANEC2_STUFV l k, 0), (LK.LANEC3_DSKW l k, 0)]
  let s := s.setFlds lanes
  let regs := match l with
    | .hp p => [HP.PCNT0 p, HP.PCNT1 p, HP.ICNT0 p, HP.ICNT1 p, HP.ICNT2 p, HP.ICNT3 p, HP.ICNT4 p]
    | .upl => [UPL.UPCNT0, UPL.UPCNT1, UPL.UPCNT2, UPL.UPCNT3, UPL.UPCNT4, UPL.UPCNT5]
    | .peer => [PEER.PCNT0, PEER.PCNT1, PEER.PCNT2]
  let s := regs.foldl (fun s a => s.setReg a 0) s
  if l = .upl then s.setFld UPL.UPEGR_PEAK (ceilDiv ((s.upl.fifo.map fun e => unitsBytes e.2).foldl (· + ·) 0) 4096) else s

/-- LINK_COUNTER_CLEAR (R101). -/
def execLinkCounterClear (link : Link) (s : State) : Out := s.onLink link fun s => s.lkClear link

/-- What a step does on an empty queue: time advances (log entry 30), and links leave FALLBACK (R90; log entry 188). -/
def State.idle (s : State) : State := s.links.foldl (fun t e => t.lkSettle (linkOf e.1)) s.tick

/-- A wait for INIT has run out: the link retrains, which counts as an attempt (R382, R92). -/
def State.initTimeout (s : State) (l : Link) : State :=
  let x := s.link l
  let n := x.attempts + 1
  let s := s.setLink l { x with attempts := n, failRep := x.failRep || decide (16 ≤ n) }
  (if 16 ≤ n ∧ !x.failRep then s.lkReport l 2 16 else s).lkRetrain l

/-- INIT_TIMEOUT: no INIT within 1 ms of OPERATING, on the uplink or the peer link (R382, R483). -/
def execUplInitTimeout (s : State) (peer : Bool := false) : Out :=
  .next (if peer then
      (if s.peerUp && !s.pl.initGot && s.plIdle 1000000 then s.initTimeout .peer else s)
    else if s.uplOperating && !s.upl.initGot && s.ackIdle 1000000 then s.initTimeout .upl else s)

end Sys2Proof.Machine
end

