-- ==== Sys2Proof/Machine/Bridge.lean ====
section
/-!
DEFINITION. The bridge: tests of a transaction, order, delayed reads, locked sequences, head tunnels, interrupt messages
(spec/14_bridge.md R396 to R427). The reads and writes of the local scope stand in Access.lean.
-/
namespace Sys2Proof.Machine

/-! ## Tests (R397, R399, R687) -/

/-- The row of R396 that an address lies in: first address and one past the last; none where nothing is mapped. -/
def rowOf (a : Nat) : Option (Nat × Nat) :=
  if a < 0x1000000 then some (0, 0x1000000)
  else if inSram a then some (0x10000000, 0x16000000)
  else if inLpddr a then some (0x100000000, lpddrTop)
  else if scopeOf a < 192 then
    let b := 0x1000000000 + scopeOf a * 0x1000000
    some (b, b + 0x1000000)
  else none

/-- A host window that is open: its base and size; one that leaves SRAM and LPDDR is taken as closed (R427, R611). -/
def State.window (s : State) (n : Nat) : Option (Nat × Nat) :=
  let base := 4096 * ((s.fld (BRG.HWINL_BASEL n) + 2 ^ 32 * s.fld (BRG.HWINH_BASEH n)) / 4096)
  let size := s.fld (BRG.HWINS_SIZE n)
  let last := base + size - 1
  if size = 0 then none
  else if (inSram base ∧ inSram last) ∨ (inLpddr base ∧ inLpddr last) then some (base, size)
  else none

/-- Whether n bytes at an address lie wholly inside one open host window (R399). -/
def State.inWindow (s : State) (a n : Nat) : Bool :=
  (List.range 4).any fun k => match s.window k with
    | some (b, z) => decide (b ≤ a ∧ a + n ≤ b + z)
    | none => false

/-- Whether a block's registers are powered, by the address of one (R656). -/
def State.addrOn (s : State) (a : Nat) : Bool :=
  match locate a with
  | some (b, _, _) => s.domainOn b.domain
  | none => true

/-- The owner, window and descriptor tests of a write (R116, R399, R656, R687 test 5): REFUSED's DETAIL, none where it passes. The
wear region of a descriptor is written only by WEAR_WRITE. -/
def State.writeTest (s : State) (a n : Nat) : Option Nat :=
  let service := s.mode == .service
  if a < 0x1000000 then
    let words := (List.range (n / 4)).map fun i => a + 4 * i
    if (service || words.all hostOwned) && words.all s.addrOn then none else some 0
  else if scopeOf a < 192 then
    let o := a % 0x1000000
    if decide (0x1000 ≤ o) || (service && !(decide (o < 0xFE0 ∧ 0xF80 < o + n))) then none else some 2
  else if service || s.inWindow a n then none
  else some 1

/-- The tests of R687 on an address and byte count, in order: status and DETAIL of the first that fails. `write` asks for
test 5 too. -/
def State.bridgeTest (s : State) (a n : Nat) (form write : Bool) : Option (Nat × Nat) :=
  if !form then some (3, 0)
  else
    match rowOf a with
    | none => some (2, 0)
    | some (_, top) =>
      if top < a + n ∨ a / 4096 ≠ (a + n - 1) / 4096 ∨ (a < 0x1000000 ∧ (a % 4 ≠ 0 ∨ n % 4 ≠ 0)) ∨ (scopeOf a < 192 ∧ 64 < n) then
        some (3, 0)
      else if scopeOf a < 192 ∧ !s.accessible (scopeOf a) (a % 0x1000000) then some (7, s.pstate (scopeOf a))
      else if write then (s.writeTest a n).map fun d => (0x0B, d)
      else none

/-! ## Order (R421, R423) -/

/-- The port of a head tunnel packet. -/
def tunnelPort (p : Pkt) : Nat := bitsOf (p.payload.getD 0 0).toNat 23 16

/-- The scope of a packet of the host: a port, 0xFFFF local, 0x200 + n for a CAN tunnel (R396, R421). -/
def pktScope (p : Pkt) : Nat :=
  if p.kind = pkTunnel then (if p.id < 0x708 then 0x200 + p.id % 2 else tunnelPort p) else scopeOf (acAddr (p.payload.getD 0 0))

/-- Whether an earlier packet holds back a later one in the native mode (R421). -/
def holdsBack (early late : Pkt) : Bool :=
  let same := pktScope early == pktScope late
  if early.kind = pkRdreq then false
  else if early.kind = pkLocked then
    (late.kind == pkLocked && early.id == late.id) || (late.kind == pkPwrite && same) || (late.kind == pkTunnel && same)
  else same

/-- The first packet that satisfies a test, with those before and after it. -/
def splitPkt (sel : Pkt → Bool) : List Pkt → List Pkt → Option (List Pkt × Pkt × List Pkt)
  | _, [] => none
  | before, p :: r => if sel p then some (before.reverse, p, r) else splitPkt sel (p :: before) r

/-- A transaction of the host is still in progress on some port, or a delayed read still fetches. -/
def State.hostBusy (s : State) : Bool :=
  s.ports.any (fun (e : Nat × PortSt) => e.2.queue.any BcCmd.ofHost || e.2.out.any fun o => o.cmd.ofHost)
    || s.bridge.drbs.any fun d => d.result.isNone

/-- The next packet of a kind taken from the receive queue, its blocks freed, if the order allows it: in the native mode the
oldest of its kind that nothing earlier holds back, in COMPAT the oldest of all once nothing is in progress (R379, R421,
R423). -/
def State.popPkt (s : State) (sel : Pkt → Bool) : Option (Pkt × State) :=
  let compat := s.flag BRG.CTL_COMPATNOW
  match splitPkt sel [] s.upl.rxq with
  | none => none
  | some (before, p, after) =>
    if compat then (if before = [] ∧ s.hostBusy = false then some (p, (s.setUpl { s.upl with rxq := after }).freeBlocks p.tc p.blocks) else none)
    else if before.any fun q => holdsBack q p then none
    else some (p, (s.setUpl { s.upl with rxq := before ++ after }).freeBlocks p.tc p.blocks)

/-- The bridge acts on the next packet of a kind, while the uplink carries bridge traffic (R425). -/
def State.onPkt (s : State) (sel : Pkt → Bool) (k : State → Pkt → State) : State :=
  if !s.domainOn .uplink then s
  else
    match s.popPkt sel with
    | none => s
    | some (p, s) => k s p

/-- The payload length that an access with data has (R397). -/
def dataPlen (n : Nat) : Nat := 1 + ceilDiv n 8

/-! ## Delayed reads (R406 to R409) -/

/-- The delayed-read entry of a tag. -/
def State.drbOf (s : State) (tag : Nat) : Option Drb := s.bridge.drbs.find? fun d => d.tag == tag

/-- A delayed-read entry removed. -/
def State.dropDrb (s : State) (d : Drb) : State :=
  { s with bridge := { s.bridge with drbs := s.bridge.drbs.filter fun x => x != d } }

/-- Buffers in use, reads still within their fast window apart (R407). -/
def State.drBusy (s : State) : Nat := (s.bridge.drbs.filter fun d => !d.fast).length

/-- A read of a local target completes: data, or POISON (R401, R616). CSR reads stand in Access.lean. -/
def State.memRead (s : State) (a n : Nat) : Nat × Nat × List Byte :=
  if s.poisoned a n then (4, 0, []) else (0, 0, s.bytes a n)

/-- RETRY with DETAIL 1: no buffer is free (R407). -/
def State.noBuffer (s : State) (tag addr n : Nat) : State := (s.complete tag addr n 1 1 []).bump BRG.CNT0_NOBUF 1

/-- A head read begins in a buffer (R406). -/
def State.headRead (s : State) (tag addr n : Nat) : State :=
  if 64 ≤ s.drBusy then s.noBuffer tag addr n
  else
    let d : Drb := { tag := tag, addr := addr, n := n, fast := false, head := true }
    let s := { s with bridge := { s.bridge with drbs := s.bridge.drbs ++ [d] } }
    (s.bcQueue (scopeOf addr) (cmdRead 5 (addr % 0x1000000) n (.bridgeRead tag addr n))).complete tag addr n 1 0 []

/-- A retry of a read whose entry is held (R407). -/
def State.retryRead (s : State) (d : Drb) : State :=
  match d.result with
  | none => s.complete d.tag d.addr d.n 1 0 []
  | some (st, det, data) => (s.dropDrb d).complete d.tag d.addr d.n st det data

/-- The fast window in ns; a FASTWIN of 0 is taken as 8 (R427). -/
def State.fastNs (s : State) : Nat := 125 * if s.fld BRG.CTL_FASTWIN = 0 then 8 else s.fld BRG.CTL_FASTWIN

/-- FASTWIN_EXPIRY: a local read goes on into a buffer, or ends with RETRY where none is free (R406, R407). -/
def execBrgFastwinExpiry (tag : BitVec 12) (s : State) : Out :=
  .next (match s.bridge.drbs.find? fun d => d.tag == tag.toNat && d.fast with
    | none => s
    | some d =>
      if s.clock < d.endAt + s.fastNs then s
      else if 64 ≤ s.drBusy then (s.dropDrb d).noBuffer d.tag d.addr d.n
      else
        let k := fun x : Drb => if x = d then { x with fast := false } else x
        { s with bridge := { s.bridge with drbs := s.bridge.drbs.map k } }.complete d.tag d.addr d.n 1 0 [])

/-- DELAYED_READ_DISCARD: a finished buffer unclaimed for 1 ms, less the 10 µs that the rule leaves open (R407). -/
def execBrgDelayedReadDiscard (tag : BitVec 12) (s : State) : Out :=
  .next (match s.bridge.drbs.find? fun d => d.tag == tag.toNat && d.result.isSome with
    | none => s
    | some d => if s.clock < d.endAt + 990000 then s else (s.dropDrb d).bump BRG.CNT1_DRDISCARD 1)

/-! ## Head writes (R402, R403) -/

/-- Posted writes waiting on a port, those on the line included (R403). -/
def State.headWrites (s : State) (p : Nat) : Nat :=
  ((s.port p).queue.filter BcCmd.isPosted).length + ((s.port p).out.filter fun o => o.cmd.isPosted).length

/-- A posted write to a head, queued in class 5, or discarded with QFULL (R402, R403). -/
def State.headWrite (s : State) (tag addr : Nat) (data : List Byte) : State :=
  let p := scopeOf addr
  if 64 ≤ s.headWrites p then (s.pwFail tag addr 0x0C 0 p).bump BRG.CNT2_QFULL 1
  else s.bcQueue p (cmdWrite 5 (addr % 0x1000000) data (.bridgeWrite tag addr))

/-! ## Locked sequences (R410 to R412) -/

/-- The lock of a tag. -/
def State.lockOf (s : State) (tag : Nat) : Option Lock := s.bridge.locks.find? fun l => l.tag == tag

/-- A LOCKED packet of an OPC; one with another code is BADREQ and served with LREAD. -/
def isLocked (opc : Nat) (p : Pkt) : Bool :=
  p.kind == pkLocked && (acOpc (p.payload.getD 0 0) == opc || (opc == 0 && decide (3 ≤ acOpc (p.payload.getD 0 0))))

/-- LREAD (R410, R411). -/
def execBrgLread (s : State) : Out :=
  .next (s.onPkt (isLocked 0) fun s p =>
    let c := p.payload.getD 0 0
    let a := acAddr c
    let n := acCount c
    let form := acOpc c == 0 && decide (n ≤ 512) && p.payload.length == 1 && (rowOf a == none || decide (scopeOf a < 192))
    match s.bridgeTest a n form false with
    | some (st, d) => s.complete p.id a n st d []
    | none =>
      let limit := if s.flag BRG.CTL_COMPATNOW then 1 else 8
      if (s.lockOn (scopeOf a)).isSome then s.complete p.id a n 9 0 []
      else if limit ≤ s.bridge.locks.length then s.complete p.id a n 9 1 []
      else
        let b := s.bridge
        let s := { s with bridge := { b with locks := ⟨p.id, scopeOf a, 0, 0⟩ :: b.locks, expired := b.expired.filter fun e => e.1 != p.id } }
        s.bcQueue (scopeOf a) (cmdRead 5 (a % 0x1000000) n (.locked 0 p.id a n)))

/-- The answer to a step whose tag holds no lock: LOCK_EXPIRED within 1 ms of the expiry, else NOT_LOCKED (R412). -/
def State.noLock (s : State) (tag a n : Nat) : State :=
  match s.bridge.expired.find? fun e => e.1 == tag with
  | some (_, t, d) => if s.clock ≤ t + 1000000 then s.complete tag a n 8 d [] else s.complete tag a n 0x0A 0 []
  | none => s.complete tag a n 0x0A 0 []

/-- A lock closed. -/
def State.closeLock (s : State) (l : Lock) : State :=
  { s with bridge := { s.bridge with locks := s.bridge.locks.filter fun x => x != l } }

/-- A step of a locked sequence that may run: the step of its tag before it has completed (R421). -/
def State.stepRuns (s : State) (opc : Nat) (p : Pkt) : Bool :=
  isLocked opc p && match s.lockOf p.id with
    | some l => l.stage == 1
    | none => true

/-- LWRITE (R410, R412). A step that fails its tests closes the lock as it completes. -/
def execBrgLwrite (s : State) : Out :=
  .next (s.onPkt (s.stepRuns 1) fun s p =>
    let c := p.payload.getD 0 0
    let a := acAddr c
    let n := acCount c
    match s.lockOf p.id with
    | none => s.noLock p.id a n
    | some l =>
      let form := decide (n ≤ 512) && p.payload.length == dataPlen n && (rowOf a == none || scopeOf a == l.port)
      match s.bridgeTest a n form false with
      | some (st, d) => (s.closeLock l).complete p.id a n st d []
      | none =>
        let k := fun x : Lock => if x = l then { x with stage := 2 } else x
        let s := { s with bridge := { s.bridge with locks := s.bridge.locks.map k } }
        s.bcQueue l.port (cmdWrite 5 (a % 0x1000000) (bytesAt (crumbsBytes (p.payload.drop 1)) 0 n) (.locked 1 p.id a n)))

/-- LRELEASE (R410). -/
def execBrgLrelease (s : State) : Out :=
  .next (s.onPkt (s.stepRuns 2) fun s p =>
    let c := p.payload.getD 0 0
    match s.lockOf p.id with
    | none => s.noLock p.id (acAddr c) (acCount c)
    | some l => (s.closeLock l).complete p.id (acAddr c) (acCount c) 0 0 [])

/-- The lock timeout in ns; an LCKTO of 0 is taken as 10 (R427). -/
def State.lockNs (s : State) : Nat := 1000000 * if s.fld BRG.CTL_LCKTO = 0 then 10 else s.fld BRG.CTL_LCKTO

/-- LOCK_TIMEOUT: no LWRITE or LRELEASE was accepted within LCKTO of the LREAD's completion (R412). -/
def execBrgLockTimeout (port : Port) (s : State) : Out :=
  .next (match s.lockOn port with
    | some l =>
      let step := s.upl.rxq.any fun p => p.id == l.tag && (isLocked 1 p || isLocked 2 p)
      if l.stage = 1 ∧ !step ∧ l.at_ + s.lockNs ≤ s.clock then s.expireLock l 0 else s
    | none => s)

/-! ## Head tunnels (R417 to R420) -/

/-- Fields of a tunnel header (R418). -/
def tnType (p : Pkt) : Nat := bitsOf (p.payload.getD 0 0).toNat 7 0
def tnTag (p : Pkt) : Nat := bitsOf (p.payload.getD 0 0).toNat 47 32
def tnLen (p : Pkt) : Nat := bitsOf (p.payload.getD 0 0).toNat 63 48
def tnStat (p : Pkt) : Nat := bitsOf (p.payload.getD 0 0).toNat 15 8

/-- The item of a tunnel packet. -/
def tnItem (p : Pkt) : List Byte := bytesAt (crumbsBytes (p.payload.drop 1)) 0 (tnLen p)

/-- The length of a tunnel packet agrees with ILEN, and TSTAT is 0 in a request. -/
def tnForm (p : Pkt) : Bool := p.payload.length == 1 + ceilDiv (tnLen p) 8 && tnStat p == 0

/-- Head tunnel requests outstanding on a port (R419). -/
def State.headTunnels (s : State) (p : Nat) : Nat :=
  ((s.port p).queue.filter BcCmd.isTunnel).length + ((s.port p).out.filter fun o => o.cmd.isTunnel).length

/-- A head tunnel request: answered BADITEM, HEAD_ABSENT or QFULL, or queued in class 5 (R419, R420). -/
def State.headTunnel (s : State) (p : Pkt) (ttype : Nat) (good : Bool) (off : Nat) (cmd : Origin → BcCmd) : State :=
  let port := tunnelPort p
  let head := (tnItem p).take 8
  let t := fun st => s.tunnel p.id (keyHeadTunnel port) ttype st port (tnTag p) head
  if !good then t 3
  else if !s.accessible port off then t 6
  else if 16 ≤ s.headTunnels port then t 1
  else s.bcQueue port (cmd (.tunnel p.id ttype (tnTag p) head))

/-- The REG_WRITE or REG_READ of a two-wire item: offset, and whether the item is in range (R419). -/
def twOffset (i : List Byte) : Nat :=
  0x800000 + 2 ^ 16 * (fieldAt i 0 1 % 128) + if fieldAt i 1 1 = 1 then fieldAt i 4 2 % 256 else fieldAt i 4 2
def twGood (i : List Byte) : Bool :=
  let w := fieldAt i 2 1
  let r := fieldAt i 3 1
  decide (fieldAt i 0 1 < 128) && (fieldAt i 1 1 == 1 || fieldAt i 1 1 == 2) && fieldAt i 6 2 == 0 && i.length == 8 + w
    && ((decide (1 ≤ w ∧ w ≤ 64) && r == 0) || (w == 0 && decide (1 ≤ r ∧ r ≤ 64)))
    && (fieldAt i 1 1 != 1 || decide (fieldAt i 4 2 < 256))

/-- TW_REQ (R419). -/
def execTwReq (s : State) : Out :=
  .next (s.onPkt (fun p => p.kind == pkTunnel && p.id == 0x708) fun s p =>
    let i := tnItem p
    let w := fieldAt i 2 1
    let good := tnForm p && tnType p == 0x10 && decide (tunnelPort p < 192) && twGood i
    s.headTunnel p 0x11 good (twOffset i) fun o =>
      if w = 0 then cmdRead 5 (twOffset i) (fieldAt i 3 1) o else cmdWrite 5 (twOffset i) (i.drop 8) o)

/-- A head message in range: a permitted BTYPE with the payload its type has (R115, R419). -/
def hmGood (i : List Byte) : Bool :=
  let h := fieldAt i 0 8
  let b := h % 64
  let len := bitsOf h 46 40
  i.length % 8 == 0 && (if b = bcRegWrite then decide (1 ≤ len ∧ len ≤ 64) && i.length == 8 + 8 * ceilDiv len 8
    else if b = bcRegRead then decide (1 ≤ len ∧ len ≤ 64) && i.length == 8
    else b == bcPoll && i.length == 8)

/-- HM_REQ (R419). -/
def execHmReq (s : State) : Out :=
  .next (s.onPkt (fun p => p.kind == pkTunnel && p.id == 0x709) fun s p =>
    let i := tnItem p
    let h := fieldAt i 0 8
    let good := tnForm p && tnType p == 0x20 && decide (tunnelPort p < 192) && hmGood i
    s.headTunnel p 0x21 good (if h % 64 = bcPoll then 0 else bitsOf h 39 16) fun o => ⟨h % 64, bitsOf h 55 16, i.drop 8, 5, o⟩)

/-! ## Interrupt messages (R413 to R416) -/

/-- Units, packets or writes under a key of R416 that have entered and are not done. -/
def State.undone (s : State) (key : Nat) : Nat :=
  if key < 0x10000 then (s.fifo key).length
  else if key < 0x20000 then
    let sc := key - 0x10000
    (s.upl.rxq.filter fun p => p.kind == pkPwrite && pktScope p == sc).length + if sc < 192 then s.headWrites sc else 0
  else
    ((s.upl.q1 ++ s.upl.q3).filter fun p => p.kind == pkTunnel && (if key < 0x20100 then p.id == 0x708 || p.id == 0x709 else p.id == 0x700 + key % 2)
      && (decide (0x20100 ≤ key) || tunnelPort p == key - 0x20000)).length

/-- A message is eligible: its group is enabled, and what entered before its event is done (R415, R416). -/
def State.eligible (s : State) (m : IntMsg) : Bool :=
  (match srcGroup m.src with
    | some g => bit (s.fld BRG.IMASK_EN) g
    | none => false)
    && m.marks.all fun k => decide (k.2 + s.undone k.1 ≤ s.upl.entered.get k.1 0)

/-- The packet of a message with its ISEQ (R413). -/
def IntMsg.pkt (m : IntMsg) (iseq : Nat) : Pkt :=
  { kind := pkIntmsg, tc := 0, id := m.src,
    payload := [BitVec.ofNat 64 (packArg [(8, m.cause), (8, m.count), (16, iseq), (32, m.arg)]), BitVec.ofNat 64 m.time] }

/-- INTMSG_SEND: the oldest eligible message is handed to the uplink (R415, R416); in COMPAT it passes nothing (R423). -/
def execIntmsgSend (s : State) : Out :=
  .next (if !s.uplUp || s.upl.hello then s
    else
      match s.intr.find? s.eligible with
      | none => s
      | some m =>
        let q := s.iseq.get m.src 0
        let s := { s with intr := s.intr.filter (fun x => x != m), iseq := s.iseq.set m.src ((q + 1) % 65536) }
        if s.flag BRG.CTL_COMPATNOW then s.setUpl { s.upl with q3 := s.upl.q3 ++ [m.pkt q] }
        else s.setUpl { s.upl with q0 := s.upl.q0 ++ [m.pkt q] })

/-! ## Registers of the bridge (R405, R415, R423, R427) -/

/-- PWERRH.VALID cleared, and LOST with it (R405). -/
def State.pwerrClear (s : State) : State := s.setFlds [(BRG.PWERRH_VALID, 0), (BRG.PWERRT_LOST, 0)]

/-- PWERR_CLEAR. -/
def execPwerrClear (s : State) : Out := .next (if s.domainOn .fabric then s.pwerrClear else s)

/-- INTERRUPT_UNMASK: IMASK written; pending messages of its groups become eligible (R415). -/
def execInterruptUnmask (mask : BitVec 11) (s : State) : Out :=
  .next (if s.domainOn .fabric then s.setFld BRG.IMASK_EN mask.toNat else s)

/-- The bridge's counters zeroed (R427). -/
def State.brgClear (s : State) : State :=
  s.setFlds [(BRG.CNT0_RETRYTX, 0), (BRG.CNT0_NOBUF, 0), (BRG.CNT1_DRDISCARD, 0), (BRG.CNT1_REFUSED, 0), (BRG.CNT2_QFULL, 0),
    (BRG.CNT2_LOCKTO, 0), (BRG.CNT3_TUNERR, 0)]

/-- BRIDGE_COUNTER_CLEAR. -/
def execBridgeCounterClear (s : State) : Out := .next (if s.domainOn .fabric then s.brgClear else s)

/-- SYS_COMPAT commands that wait for the bridge's mode, answered (R445). -/
def State.answerCompat (s : State) : List Req → State
  | [] => s
  | r :: rest =>
    (if r.opcode = 0x0106 ∧ r.arg 0 1 = s.fld BRG.CTL_COMPATNOW then s.done r [] else s).answerCompat rest

/-- COMPAT_SWITCH: the requested mode takes effect once nothing is outstanding and no lock is held (R423). -/
def execCompatSwitch (s : State) : Out :=
  .next (if s.domainOn .fabric && s.upl.rxq.isEmpty && !s.hostBusy && s.bridge.drbs.isEmpty && s.bridge.locks.isEmpty then
      let s := s.setFld BRG.CTL_COMPATNOW (s.fld BRG.CTL_COMPAT)
      s.answerCompat s.mbx.runs
    else s)

end Sys2Proof.Machine
end

