-- ==== Sys2Proof/Machine/DmaOps.lean ====
section
/-!
DEFINITION. DMA channels: header checks, the end of a program with its write-back and chain, event flags and the end of a
WAIT, abort (spec/20_dma.md R552 to R554, R560 to R572). The moves themselves stand in DmaProg.lean.
-/
namespace Sys2Proof.Machine

/-- The running program of a channel. -/
def State.dmaOf (s : State) (ch : Nat) : Option Dma := (s.dma.find? fun (e : Nat × Dma) => e.1 == ch).map (·.2)

/-- Whether a channel is running. -/
def State.dmaRuns (s : State) (ch : Nat) : Bool := (s.dmaOf ch).isSome

/-- A running program kept, with CHSTAT.STATE, PC and CHMOVED (R572). -/
def State.setDma (s : State) (ch : Nat) (d : Dma) : State :=
  let st := if d.wait.isSome then 3 else if d.move.isSome then 2 else 1
  { s with dma := s.dma.set ch d }.setFlds
    [(DMA.CHSTAT_STATE ch, st), (DMA.CHSTAT_PC ch, d.pc), (DMA.CHMOVED_MOVED ch, d.moved)]

/-- POS: where a loop stands (R553). -/
def Dma.pos (d : Dma) : Nat :=
  match d.loop with
  | none => 0
  | some l => if l.nest then packArg [(16, l.i0), (16, l.i1), (16, l.i2)] else l.i0

/-- The write-back of bytes 0x18 to 0x33, and then CTRL with OWN = 0 (R566). -/
def State.dmaWriteBack (s : State) (d : Dma) (code detail : Nat) : State :=
  let res := match d.move with
    | some m => m.left
    | none => 0
  (s.store (d.desc + 0x18) (leBytes 4 (packArg [(8, code), (8, detail), (16, d.pc)]) ++ leBytes 4 0 ++ leBytes 8 d.moved
    ++ leBytes 4 res ++ leBytes 8 d.pos)).store d.desc (leBytes 4 (2 * b2n d.irq))

/-- A stop with a code shown in CHSTAT, with its message, fault and count (R567, R568, R572). -/
def State.dmaStop (s : State) (ch desc pc tag code detail : Nat) (irq : Bool) : State :=
  let s := { s with dma := s.dma.drop ch }.setFlds
    [(DMA.CHSTAT_STATE ch, 0), (DMA.CHSTAT_CODE ch, code), (DMA.CHSTAT_PC ch, pc)]
  let s := if code = 0 ∧ irq = false then s else s.intrEvent (0x290 + ch) 1 (packArg [(16, tag), (8, code), (8, detail)])
  let s := if code = 8 then s.report 0x0C01 ch desc else if code ∈ [2, 4, 5, 6, 7] then s.report 0x0C02 ch desc else s
  if code ∈ [0, 1, 3] then s else s.bump DMA.DMACNT_ERRORS 1

/-- Whether bytes at offsets of a list are all 0. -/
def zeroAt (l : List Byte) (off n : Nat) : Bool := (bytesAt l off n).all fun b => b == 0

/-- Step 3 of R554: NINS in range, reserved bits 0, the instructions within SRAM. -/
def dmaHeaderGood (desc : Nat) (h : List Byte) : Bool :=
  let nins := fieldAt h 4 2
  decide (1 ≤ nins ∧ nins ≤ 2048) && fieldAt h 0 4 < 4 && zeroAt h 6 2 && zeroAt h 0x14 4 && zeroAt h 0x1C 4 && zeroAt h 0x34 12
    && desc + 0x40 + 0x20 * nins ≤ 0x16000000

/-- A channel starts on a descriptor (R554). `last` is the TAG of the last descriptor that completed, for a chained start
(R569); with none, a descriptor that is not read has a free TAG (log entry 60). -/
def State.dmaStart (s : State) (ch desc : Nat) (last : Option Nat) : State :=
  let s := s.setFlds [(DMA.CHCUR_ADDRL ch, desc), (DMA.CHMOVED_MOVED ch, 0)]
  if desc % 64 ≠ 0 ∨ inSram desc = false then
    match last with
    | some t => s.dmaStop ch desc 0 t 2 1 false
    | none => s.took.dmaStop ch desc 0 s.free.toNat 2 1 false
  else
    let h := s.bytes desc 64
    let tag := fieldAt h 0x10 4
    let d : Dma := { desc := desc, irq := bit (fieldAt h 0 1) 1, nins := fieldAt h 4 2, next := fieldAt h 8 8, tag := tag }
    if s.poisoned desc 64 then (s.dmaWriteBack d 6 0).dmaStop ch desc 0 tag 6 0 d.irq
    else if fieldAt h 0 1 % 2 = 0 then s.dmaStop ch desc 0 (last.getD tag) 3 0 d.irq
    else if !dmaHeaderGood desc h then (s.dmaWriteBack d 2 3).dmaStop ch desc 0 tag 2 3 d.irq
    else s.setDma ch d

/-- A program ends: write-back, message and fault; after an OK the chain goes on (R566, R569). -/
def State.dmaEnd (s : State) (ch : Nat) (d : Dma) (code detail : Nat) : State :=
  let s := (s.dmaWriteBack d code detail).dmaStop ch d.desc d.pc d.tag code detail d.irq
  if code = 0 ∧ d.next ≠ 0 then s.dmaStart ch d.next (some d.tag) else s

/-! ## From one instruction to the next (R560, R561) -/

/-- A loop after one iteration: its next indices, none after the last. -/
def DmaLoop.again (l : DmaLoop) : Option DmaLoop :=
  let l := { l with j := 0 }
  if l.i0 + 1 < l.c0 then some { l with i0 := l.i0 + 1 }
  else if l.i1 + 1 < l.c1 then some { l with i0 := 0, i1 := l.i1 + 1 }
  else if l.i2 + 1 < l.c2 then some { l with i0 := 0, i1 := 0, i2 := l.i2 + 1 }
  else none

/-- The program after the instruction in progress: the next of the body, the next iteration, or the one after (R560). -/
def Dma.advance (d : Dma) : Dma :=
  let d := { d with move := none, wait := none }
  match d.loop with
  | none => { d with pc := d.pc + 1 }
  | some l =>
    if l.j + 1 < l.body.length then { d with pc := d.pc + 1, loop := some { l with j := l.j + 1 } }
    else
      match l.again with
      | some l => { d with pc := l.pc + 1, loop := some l }
      | none => { d with pc := l.pc + 1 + l.body.length, loop := none }

/-- A channel goes on after its instruction. -/
def State.dmaNext (s : State) (ch : Nat) (d : Dma) : State := s.setDma ch d.advance

/-! ## Event flags (R563, R564) -/

/-- An event flag. -/
def State.evFlag (s : State) (k : Nat) : Bool := bit (s.fld (DMA.EVFLAG_FLAG (k / 32))) (k % 32)

/-- An event flag written. -/
def State.setEvFlag (s : State) (k : Nat) (b : Bool) : State :=
  s.setFld (DMA.EVFLAG_FLAG (k / 32)) (withBit (s.fld (DMA.EVFLAG_FLAG (k / 32))) (k % 32) b)

/-- Whether a channel waits on a flag, with CLR or without. -/
def Dma.waitsOn (d : Dma) (k : Nat) (clr : Bool) : Bool :=
  d.wait.any fun w => w.kind == 0 && w.arg == k && w.clr == clr

/-- The WAITs of the channels of a list end. -/
def State.dmaWake (s : State) : List (Nat × Dma) → State
  | [] => s
  | (ch, d) :: r => (s.dmaNext ch d).dmaWake r

/-- A flag becomes set: every WAIT on it without CLR ends, and the one with CLR on the lowest channel, which clears it
(R564). A flag that is set already stays so. -/
def State.evSet (s : State) (k : Nat) : State :=
  if s.evFlag k then s
  else
    let s := s.setEvFlag k true
    let plain := s.dma.filter fun (e : Nat × Dma) => e.2.waitsOn k false
    let clear := s.dma.find? fun (e : Nat × Dma) => e.2.waitsOn k true
    let s := s.dmaWake plain
    match clear with
    | none => s
    | some (ch, d) => (s.dmaNext ch d).setEvFlag k false

/-- The flags of a mask set in rising order. -/
def State.evSets (s : State) (mask base : Nat) : List Nat → State
  | [] => s
  | k :: r => (if bit mask k then s.evSet (base + k) else s).evSets mask base r

/-- A write to EVSETn. -/
def State.evSetWrite (s : State) (n mask : Nat) : State := s.evSets mask (32 * n) (List.range 32)

/-- A write to EVCLRn. -/
def State.evClrWrite (s : State) (n mask : Nat) : State :=
  s.setFld (DMA.EVFLAG_FLAG n) ((BitVec.ofNat 32 (s.fld (DMA.EVFLAG_FLAG n)) &&& ~~~ BitVec.ofNat 32 mask).toNat)

/-- A frame boundary of a port: the WAITs of KIND 1 on it end (R563). -/
def State.dmaBoundary (s : State) (p : Nat) : State :=
  s.dmaWake (s.dma.filter fun (e : Nat × Dma) => e.2.wait.any fun w => w.kind == 1 && w.arg == p)

/-! ## Commands on a channel -/

/-- The DMA channels are powered (R552). -/
def State.dmaOn (s : State) : Bool := s.alive && s.mode.full

/-- CHCTL.GO (R554). -/
def State.dmaGo (s : State) (ch : Nat) : State :=
  if s.dmaRuns ch then s.bump DMA.DMACNT_IGNGO 1
  else s.dmaStart ch (s.fld (DMA.CHDESCL_ADDR ch) + 2 ^ 32 * s.fld (DMA.CHDESCH_ADDR ch)) none

/-- CHCTL.ABORT (DETAIL 0) and the abort of an orderly transition (DETAIL 1) (R552, R570). -/
def State.dmaAbort (s : State) (ch detail : Nat) : State :=
  match s.dmaOf ch with
  | none => s
  | some d => s.dmaEnd ch d 1 detail

/-- Every channel aborted for an orderly transition to STANDBY or SAFE (R552). -/
def State.dmaAbortAll (s : State) : List (Nat × Dma) → State
  | [] => s
  | (ch, _) :: r => (s.dmaAbort ch 1).dmaAbortAll r

/-- Channels set to IDLE with no write-back. -/
def State.dmaIdle (s : State) : List (Nat × Dma) → State
  | [] => s
  | (ch, _) :: r => (s.setFld (DMA.CHSTAT_STATE ch) 0).dmaIdle r

/-- Every channel stops at once and writes nothing back (R552). -/
def State.dmaHalt (s : State) : State :=
  let l := s.dma
  { s with dma := [] }.dmaIdle l

/-- GO. -/
def execDmaGo (ch : DmaCh) (s : State) : Out := .next (if s.dmaOn then s.dmaGo ch else s)

/-- ABORT. -/
def execDmaAbort (ch : DmaCh) (s : State) : Out := .next (if s.dmaOn then s.dmaAbort ch 0 else s)

/-- EVSET. -/
def execDmaEvset (n : Fin 2) (mask : Word) (s : State) : Out := .next (if s.dmaOn then s.evSetWrite n mask.toNat else s)

/-- EVCLR. -/
def execDmaEvclr (n : Fin 2) (mask : Word) (s : State) : Out := .next (if s.dmaOn then s.evClrWrite n mask.toNat else s)

/-- DMACTL.CLR. -/
def State.dmaClear (s : State) : State := s.setFlds [(DMA.DMACNT_ERRORS, 0), (DMA.DMACNT_IGNGO, 0)]

/-- DMA_COUNTER_CLEAR. -/
def execDmaCounterClear (s : State) : Out := .next (if s.domainOn .fabric then s.dmaClear else s)

end Sys2Proof.Machine
end

