-- ==== Sys2Proof/Machine/Can.lean ====
section
/-!
DEFINITION. The CAN controllers: the transmit queue and its answers, reception, vehicle data, the tunnels, error states and
configuration (spec/21_can.md R573 to R590, spec/14_bridge.md R419, R420). The protocol engine of ISO 11898-1 itself stands
outside: it gives each event its error counters.
-/
namespace Sys2Proof.Machine

/-- A controller. -/
def State.can (s : State) (c : Nat) : CanSt := s.cans.get c {}

/-- A controller kept. -/
def State.setCan (s : State) (c : Nat) (x : CanSt) : State := { s with cans := s.cans.set c x }

/-- STAT as it reads: TXDEPTH and RXFILL are the lengths of the queue and of the receive FIFO (R590). -/
def State.canFill (s : State) (c : Nat) : Nat :=
  ((s.upl.q1 ++ s.upl.q3).filter fun p => p.kind == pkTunnel && p.id == 0x700 + c && tnType p == 1).length

/-- STAT with its views. -/
def State.canStat (s : State) (c : Nat) : Word :=
  putBits (putBits (s.reg (CAN.STAT c)) 15 8 (s.can c).queue.length) 22 16 (s.canFill c)

/-- An interrupt message of a controller whose ARG is STAT (R586). -/
def State.canMsg (s : State) (c cause : Nat) : State := s.intrEvent (0x280 + c) cause (s.canStat c).toNat

/-- Error states of STAT.STATE (R590). -/
def canActive : Nat := 0
def canPassive : Nat := 1
def canBusOff : Nat := 2
def canOff : Nat := 3

/-- Data bytes of a DLC (R419, R579). -/
def canLen (fd : Bool) (dlc : Nat) : Nat :=
  if dlc ≤ 8 then dlc else if fd then [12, 16, 20, 24, 32, 48, 64].getD (dlc - 9) 64 else 8

/-- The flags of an identifier word: IDE, RTR, FDF (R419). -/
def canIde (w : Nat) : Bool := bit w 29
def canRtr (w : Nat) : Bool := bit w 30
def canFdf (w : Nat) : Bool := bit w 31

/-! ## Transmission (R576 to R579) -/

/-- A CAN_TXDONE: the first 16 bytes of the item with a time; a CAN_ABORT is counted in TXABORT (R419, R577). -/
def State.txDone (s : State) (c tstat ttag time : Nat) (item : List Byte) : State :=
  let s := if tstat = 2 then s.bump (CAN.CNT1_TXABORT c) 1 else s
  s.tunnel (0x700 + c) (keyCanTunnel c) 3 tstat c ttag (leBytes 8 time ++ bytesAt item 8 8)

/-- Frames answered with CAN_ABORT, in queue order (R578). -/
def State.abortTx (s : State) (c : Nat) : List (Nat × List Byte) → State
  | [] => s
  | (t, i) :: r => (s.txDone c 2 t 0 i).abortTx c r

/-- The whole queue aborted (R575, R578). -/
def State.abortQueue (s : State) (c : Nat) : State :=
  let q := (s.can c).queue
  (s.setCan c { s.can c with queue := [] }).abortTx c q

/-- The error counters of ISO 11898-1 and the state that follows: faults and messages of an entry (R585). -/
def State.canErr (s : State) (c tec rec : Nat) : State :=
  let was := s.fld (CAN.STAT_STATE c)
  if was = canBusOff ∨ was = canOff then s
  else
    let st := if 256 ≤ tec then canBusOff else if 128 ≤ tec ∨ 128 ≤ rec then canPassive else canActive
    let s := s.setFlds [(CAN.ERRC_TEC c, min tec 255), (CAN.ERRC_REC c, min rec 255), (CAN.STAT_STATE c, st)]
    let arg := (s.reg (CAN.ERRC c)).toNat
    if st = was then s
    else if st = canBusOff then
      (((s.report 0x0D02 c arg).bump (CAN.CNT2_BUSOFF c) 1).abortQueue c).canMsg c 1
    else if st = canPassive then (s.report 0x0D01 c arg).canMsg c 1
    else s.canMsg c 1

/-- An item is well formed (R579). -/
def canItemGood (fden : Bool) (i : List Byte) : Bool :=
  let w := fieldAt i 8 4
  let fd := canFdf w
  let b := fieldAt i 13 1
  i.length == 16 + canLen fd (fieldAt i 12 1) && decide (fieldAt i 12 1 < 16 ∧ b < 4) && (fden || !fd) && !(canRtr w && fd)
    && (fd || b == 0) && (canIde w || bitsOf w 28 11 == 0) && zeroAt i 0 8 && zeroAt i 14 2

/-- CAN_TX: a frame of the tunnel enters the queue, or is answered at once (R577). -/
def execCanTx (s : State) : Out :=
  .next (s.onPkt (fun p => p.kind == pkTunnel && (p.id == 0x700 || p.id == 0x701)) fun s p =>
    let c := p.id % 2
    let i := tnItem p
    let x := s.can c
    let now := fun st => s.txDone c st (tnTag p) 0 i
    if !(tnForm p && tnType p == 2 && canItemGood (s.flag (CAN.CTL_FDEN c)) i) then now 3
    else if !s.flag (CAN.CTL_EN c) || s.flag (CAN.CTL_LISTEN c) || s.fld (CAN.STAT_STATE c) == canBusOff then now 2
    else if 32 ≤ x.queue.length then now 1
    else s.setCan c { x with queue := x.queue ++ [(tnTag p, i)], headAt := if x.queue = [] then s.clock else x.headAt })

/-- The head of the queue leaves it; the next frame moves to the head. -/
def State.canPop (s : State) (c : Nat) : State := s.setCan c { s.can c with queue := (s.can c).queue.drop 1, headAt := s.clock }

/-- CAN_TX_DONE: an attempt ends; a frame not sent is retried unless ONESHOT is set (R576, R577). -/
def execCanTxDone (ctrl : CanId) (ok : Bool) (time : BitVec 64) (tec : BitVec 9) (rec_ : Byte) (s : State) : Out :=
  let c := ctrl.val
  .next (if !s.domainOn .can || !s.flag (CAN.CTL_EN c) || s.flag (CAN.CTL_LISTEN c) then s
    else
      match (s.can c).queue with
      | [] => s
      | (t, i) :: _ =>
        let s := if ok then ((s.canPop c).bump (CAN.CNT0_TXFRAMES c) 1).txDone c 0 t time.toNat i
          else if s.flag (CAN.CTL_ONESHOT c) then (s.canPop c).txDone c 2 t 0 i
          else s
        s.canErr c tec.toNat rec_.toNat)

/-- TXLIFE in ns. -/
def State.txLifeNs (s : State) (c : Nat) : Nat := s.fld (CAN.TXLIFE_MS c) * 1000000

/-- CAN_TX_LIFETIME: the head has stood there for TXLIFE (R578). -/
def execCanTxLifetime (ctrl : CanId) (s : State) : Out :=
  let c := ctrl.val
  .next (if !s.domainOn .can || s.fld (CAN.TXLIFE_MS c) == 0 || decide (s.clock < (s.can c).headAt + s.txLifeNs c) then s
    else
      match (s.can c).queue with
      | [] => s
      | (t, i) :: _ => (s.canPop c).txDone c 2 t 0 i)

/-! ## Vehicle data (R583, R584) -/

/-- The parameter group number of a 29-bit identifier, for the groups of R583. -/
def pgnOf (id : Nat) : Nat := bitsOf id 25 8

/-- v of a speed message in S16.16; none where it is rejected (R583). -/
def speedOf (data : List Byte) : Option Int :=
  let raw := fieldAt data 0 2
  let d := fieldAt data 7 1 % 4
  if 0xFAFF < raw ∨ 2 ≤ d then none
  else some (roundDiv ((if d = 0 then -1 else 1) * ((raw * 65536 : Nat) : Int)) 1000)

/-- ω of a yaw message in S16.16; none where it is rejected (R583). -/
def yawOf (neg : Bool) (data : List Byte) : Option Int :=
  let raw := fieldAt data 3 2
  if 0xFAFF < raw then none
  else some (roundDiv ((if neg then -1 else 1) * (((raw * 800 : Nat) : Int) - 25690112)) 100)

/-- Whether a time lies within the 200 ms before another (R584). -/
def within200 (t : Option Nat) (now : Nat) : Bool := t.any fun a => decide (a ≤ now ∧ now ≤ a + 200000000)

/-- The MOTION event of an accepted message, the flags of STAT and their message (R203, R584). -/
def State.postMotion (s : State) (c time : Nat) (vok yok : Bool) : State :=
  let v := if vok then s.sfld (CAN.VSPD_V c) else 0
  let w := if yok then s.sfld (CAN.VYAW_OMEGA c) else 0
  let was := (s.flag (CAN.STAT_VEHOK c), s.flag (CAN.STAT_YAWOK c))
  let s := s.setFlds [(CAN.STAT_VEHOK c, b2n vok), (CAN.STAT_YAWOK c, b2n yok)]
  let s := if was = (vok, yok) then s else s.canMsg c 3
  let s := { s with motions := (time, v, w) :: s.motions }
  (List.range 192).foldl (fun (s : State) p => s.postCam p evMotion [unsigned 32 v, unsigned 32 w, time, time / 2 ^ 32]) s

/-- A time from CAN sets whole seconds while the TSU is UNSET (R146). -/
def State.canTime (s : State) (data : List Byte) : State :=
  ((s.setSeconds (Config.canSeconds data)).setFld TSU.DSTAT_TIMEVALID 1).tsuState tuFree

/-- Vehicle data of a frame received by the source controller (R583). -/
def State.vehicle (s : State) (c time id dlc : Nat) (data : List Byte) : State :=
  let sa := s.fld (CAN.VEHSA_SA c)
  let x := s.can c
  let bad := s.bump (CAN.CNT2_VEHBAD c) 1
  if !s.flag (CAN.STAT_SOURCE c) || !canIde id || canRtr id || canFdf id || !(sa == 0xFF || id % 256 == sa) then s
  else if pgnOf id = 65097 then
    match (if dlc < 8 then none else speedOf data) with
    | none => bad
    | some v => ((s.setCan c { x with vAt := some time }).setFld (CAN.VSPD_V c) (unsigned 32 v)).postMotion c time true (within200 x.wAt time)
  else if pgnOf id = 61449 then
    match (if dlc < 8 then none else yawOf (s.flag (CAN.CTL_YAWNEG c)) data) with
    | none => bad
    | some w =>
      ((s.setCan c { x with wAt := some time }).setFld (CAN.VYAW_OMEGA c) (unsigned 32 w)).postMotion c time (within200 x.vAt time) true
  else if pgnOf id = 65254 then
    (if 8 ≤ dlc ∧ s.tsu.running ∧ s.fld TSU.DSTAT_STATE = tuUnset then s.canTime data else bad)
  else s

/-! ## Reception (R580 to R582) -/

/-- The action of the first filter that matches; 0 where none does (R581). -/
def State.canAction (s : State) (c id : Nat) : Nat :=
  let hit := fun k => s.fld (CAN.FACT_ACTION c k) != 0
    && (BitVec.ofNat 32 id ^^^ s.reg (CAN.FID c k)) &&& s.reg (CAN.FMASK c k) == 0
  match (List.range 32).find? hit with
  | some k => s.fld (CAN.FACT_ACTION c k)
  | none => 0

/-- A frame to be tunnelled: CAN_RX with the controller's count, or lost where the FIFO is full (R582). -/
def State.canTunnel (s : State) (c : Nat) (item : List Byte) : State :=
  let n := s.bridge.ttag.get c 0
  let b := s.bridge
  let full := decide (64 ≤ s.canFill c)
  let x := s.can c
  let s := { s with bridge := { b with ttag := b.ttag.set c ((n + 1) % 65536) } }
  if full then
    let s := (s.setCan c { x with lost := x.lost + 1 }).bump (CAN.CNT1_RXLOST c) 1
    let s := if x.lost = 0 then s.intrEvent (0x280 + c) 2 (s.fld (CAN.CNT1_RXLOST c)) else s
    s.report 0x0D03 c (x.lost + 1)
  else (s.setCan c { x with lost := 0 }).tunnel (0x700 + c) (keyCanTunnel c) 1 0 c n item

/-- CAN_FRAME_RECEIVE (R580): vehicle data, then the filters. `id` is the word of R419, `flags` BRS and ESI. -/
def execCanFrameReceive (ctrl : CanId) (time : BitVec 64) (id : Word) (dlc : Fin 16) (flags : BitVec 2) (data : List Byte)
    (s : State) : Out :=
  let c := ctrl.val
  let w := id.toNat
  let t := time.toNat / 10 * 10
  let st := s.fld (CAN.STAT_STATE c)
  .next (if !s.domainOn .can || !s.flag (CAN.CTL_EN c) || st == canBusOff || (canFdf w && !s.flag (CAN.CTL_FDEN c)) then s
    else
      let d := bytesAt data 0 (canLen (canFdf w) dlc)
      let s := (s.bump (CAN.CNT0_RXFRAMES c) 1).vehicle c t w dlc d
      if s.canAction c w = 1 then
        s.canTunnel c (leBytes 8 t ++ leBytes 4 w ++ leBytes 1 dlc ++ leBytes 1 flags.toNat ++ leBytes 2 0 ++ d)
      else s)

/-! ## Error states and configuration (R575, R585) -/

/-- CAN_BUS_ERROR: a bus error while receiving. -/
def execCanBusError (ctrl : CanId) (tec : BitVec 9) (rec_ : Byte) (s : State) : Out :=
  .next (if s.domainOn .can && s.flag (CAN.CTL_EN ctrl) then s.canErr ctrl tec.toNat rec_.toNat else s)

/-- BUS_OFF_RECOVERY: 128 occurrences of 11 recessive bits, with AUTOREC = 1 (R585). -/
def execBusOffRecovery (ctrl : CanId) (s : State) : Out :=
  let c := ctrl.val
  .next (if s.domainOn .can && s.fld (CAN.STAT_STATE c) == canBusOff && s.flag (CAN.CTL_AUTOREC c) then
      (s.setFlds [(CAN.ERRC_TEC c, 0), (CAN.ERRC_REC c, 0), (CAN.STAT_STATE c, canActive)]).canMsg c 1
    else s)

/-- CAN_CONFIG_APPLY: at bus idle the configuration waiting takes effect (R575). -/
def execCanConfigApply (ctrl : CanId) (s : State) : Out :=
  let c := ctrl.val
  let x := s.can c
  .next (if !s.domainOn .can then s
    else
      match x.config with
      | none => s
      | some (mode, nbt, dbt) =>
        let s := (s.setCan c { x with config := none }).abortQueue c
        let old := s.fld (CAN.STAT_STATE c)
        let st := if bit mode 0 then canActive else canOff
        let s := (s.setReg (CAN.NBT c) (BitVec.ofNat 32 nbt)).setReg (CAN.DBT c) (BitVec.ofNat 32 dbt)
        let s := s.setFlds [(⟨CAN.CTL c, 5, 0⟩, mode), (CAN.ERRC_TEC c, 0), (CAN.ERRC_REC c, 0), (CAN.STAT_STATE c, st)]
        if st = old then s else s.canMsg c 1)

/-- CTL.CLR (R590). -/
def State.canClear (s : State) (c : Nat) : State :=
  ((s.setReg (CAN.CNT0 c) 0).setReg (CAN.CNT1 c) 0).setReg (CAN.CNT2 c) 0

/-- CAN_COUNTER_CLEAR. -/
def execCanCounterClear (ctrl : CanId) (s : State) : Out := .next (if s.domainOn .can then s.canClear ctrl else s)

/-! ## Bit timing and wake (R574, R588) -/

/-- The bit timing word of a rate for a phase of so many quanta, at a sample point of `sp`/100 (R574). -/
def canTiming (rate lo hi sp : Nat) : Option Nat :=
  let fits := fun b => decide (0 < rate) && 100000000 % (b * rate) == 0 &&
    decide (lo ≤ 100000000 / (b * rate) ∧ 100000000 / (b * rate) ≤ hi)
  match ((List.range 32).map (· + 1)).find? fits with
  | none => none
  | some b =>
    let n := 100000000 / (b * rate)
    let p := n * sp / 100
    some (packArg [(8, b), (8, n), (8, p), (8, min (n - p) 16)])

/-- NBT and DBT of a CAN_CONFIG; none where it ends with CAN_RATE (R573 to R575). -/
def canRates (nominal data : Nat) : Option (Nat × Nat) :=
  if nominal < 10000 ∨ 1000000 < nominal ∨ 5000000 < data ∨ (data ≠ 0 ∧ data < nominal) then none
  else
    match canTiming nominal 8 80 80 with
    | none => none
    | some n =>
      if data = 0 then some (n, 0)
      else
        match canTiming data 5 25 75 with
        | none => none
        | some d => some (n, d)

/-- The frame seen in STANDBY meets the wake condition of a controller; with WKIND 1 any dominant level of 5 µs (R588). -/
def State.canWakes (s : State) (c id dlc : Nat) (data : List Byte) : Bool :=
  let k := s.fld (CAN.WCTL_WKIND c)
  let idOk := (BitVec.ofNat 32 id ^^^ s.reg (CAN.WID c)) &&& s.reg (CAN.WMASK c) == 0
  let byte := fun (l h : Nat) j => BitVec.ofNat 8 ((l + 2 ^ 32 * h) >>> (8 * j))
  let ok := fun j => (data.getD j 0 ^^^ byte (s.fld (CAN.WDATAL_DATA c)) (s.fld (CAN.WDATAH_DATA c)) j)
    &&& byte (s.fld (CAN.WDMASKL_DMASK c)) (s.fld (CAN.WDMASKH_DMASK c)) j == 0
  k == 1 || (k == 2 && idOk && !canFdf id && !canRtr id && (List.range (min dlc 8)).all ok)

end Sys2Proof.Machine
end

