-- ==== Sys2Proof/Machine/I2cb.lean ====
section
/-!
DEFINITION. I2CB, the controller of the board bus (spec/22_i2c.md R600 to R602, R604). What the bus answers comes with the
commands: whether SDA is found low, whether a bus clear frees it, the end of a transaction and its bytes.
-/
namespace Sys2Proof.Machine

/-- Codes of a transaction (R600). -/
def ibOk : Nat := 0
def ibArbLost : Nat := 3
def ibTimeout : Nat := 4
def ibBadTxn : Nat := 5
def ibStuck : Nat := 6

/-- States of STAT.STATE (R604). -/
def ibIdle : Nat := 0
def ibBusy : Nat := 1
def ibStateStuck : Nat := 3

/-- A transaction ends with a code; codes other than OK are counted (R600, R604). -/
def State.i2cbEnd (s : State) (code ndone : Nat) : State :=
  let s := s.setFlds [(I2CB.STAT_CODE, code), (I2CB.STAT_NDONE, ndone)]
  if code = ibOk then s else s.bump I2CB.CNT_ERRORS 1

/-- A bus clear, counted; the bus is idle after it, or stuck (R601, R602). -/
def State.busClear (s : State) (freed : Bool) : State :=
  let s := { s with i2c := { s.i2c with fresh := false } }.bump I2CB.CNT_CLEARS 1
  if freed then s.setFld I2CB.STAT_STATE ibIdle else (s.setFld I2CB.STAT_STATE ibStateStuck).report 0x0E02 1 0

/-- CTL.GO (R600 to R602): `low` says that SDA is found low, `freed` that a bus clear frees it. -/
def State.i2cbGo (s : State) (low freed : Bool) : State :=
  let st := s.fld I2CB.STAT_STATE
  if s.flag I2CB.CTL_EN = false then s
  else if st = ibStateStuck then s.i2cbEnd ibStuck 0
  else if st ≠ ibIdle then s
  else if 64 < s.fld I2CB.TXN_WLEN ∨ 64 < s.fld I2CB.TXN_RLEN then s.i2cbEnd ibBadTxn 0
  else
    let s := if s.i2c.fresh || low then s.busClear freed else s
    if s.fld I2CB.STAT_STATE = ibStateStuck then s.i2cbEnd ibStuck 0
    else
      let buf := (List.range 16).flatMap fun k => leBytes 4 (s.reg (I2CB.DATA k)).toNat
      { s with sent := s.sent ++ [Sent.i2cb (s.fld I2CB.TXN_ADDR) (buf.take (s.fld I2CB.TXN_WLEN)) (s.fld I2CB.TXN_RLEN)] }.setFld
        I2CB.STAT_STATE ibBusy

/-- I2CB_GO. -/
def execI2cbGo (low freed : Bool) (s : State) : Out := .next (if s.domainOn .boardBus then s.i2cbGo low freed else s)

/-- Bytes of the data buffer written from byte 0 (R600). -/
def State.i2cbFill (s : State) (data : List Byte) : State :=
  (List.range (ceilDiv data.length 4)).foldl (fun (s : State) k =>
    let old := leBytes 4 (s.reg (I2CB.DATA k)).toNat
    let new := (List.range 4).map fun i => data.getD (4 * k + i) (old.getD i 0)
    s.setReg (I2CB.DATA k) (BitVec.ofNat 32 (leNat new))) s

/-- I2CB_TRANSACTION_DONE: OK with the bytes read, NAK_ADDR, NAK_DATA, or ARBLOST with its bus clear (R600, R601). -/
def execI2cbTransactionDone (code : Fin 4) (ndone : BitVec 7) (data : List Byte) (freed : Bool) (s : State) : Out :=
  .next (if !s.domainOn .boardBus || s.fld I2CB.STAT_STATE != ibBusy then s
    else
      let s := s.setFld I2CB.STAT_STATE ibIdle
      let n := s.fld I2CB.TXN_RLEN
      if code.val = ibOk then (s.i2cbFill (bytesAt data 0 n)).i2cbEnd ibOk (s.fld I2CB.TXN_WLEN + n)
      else if code.val = ibArbLost then (s.i2cbEnd ibArbLost ndone.toNat).busClear freed
      else s.i2cbEnd code ndone.toNat)

/-- I2CB_TIMEOUT: a target has held SCL for 25 ms; a bus clear follows (R600, R601). How many bytes the transaction had
transferred is a free value (log entry 215). -/
def execI2cbTimeout (freed : Bool) (s : State) : Out :=
  .next (if !s.domainOn .boardBus || s.fld I2CB.STAT_STATE != ibBusy then s
    else
      let n := s.free.toNat % (s.fld I2CB.TXN_WLEN + s.fld I2CB.TXN_RLEN + 1)
      ((s.took.setFld I2CB.STAT_STATE ibIdle).i2cbEnd ibTimeout n).busClear freed)

/-- CTL.CLRSTUCK: STUCK is left and a bus clear runs (R602). -/
def State.clrStuck (s : State) (freed : Bool) : State :=
  if s.fld I2CB.STAT_STATE = ibStateStuck then s.busClear freed else s

/-- CLRSTUCK. -/
def execClrstuck (freed : Bool) (s : State) : Out := .next (if s.domainOn .boardBus then s.clrStuck freed else s)

/-- CTL.CLR (R604). -/
def State.i2cbClear (s : State) : State := s.setReg I2CB.CNT 0

/-- I2CB_COUNTER_CLEAR. -/
def execI2cbCounterClear (s : State) : Out := .next (if s.domainOn .boardBus then s.i2cbClear else s)

/-- I2CA: ISTAT.CLR zeroes ERRS and STRETCHTO (R603). -/
def State.i2caClear (s : State) : State := s.setFlds [(I2CA.MSTAT_ERRS, 0), (I2CA.ICNT_STRETCHTO, 0)]

/-- I2CA_COUNTER_CLEAR. -/
def execI2caCounterClear (s : State) : Out := .next (if s.domainOn .fabric then s.i2caClear else s)

end Sys2Proof.Machine
end

