-- ==== Sys2Proof/Machine/ModeOps.lean ====
section
/-!
DEFINITION. Modes entered, and what of slices and rotation follows from counts: free spares, retired slices, the cause that
withholds proving windows (spec/02_modes.md R35 to R39, spec/18_rotation_bist.md R509, R516, R531).
-/
namespace Sys2Proof.Machine

/-! ## Modes (R35, R36, R38) -/

/-- A mode entered with a cause: GLB.MODE, whose BUSY stays while a transition is still in progress, the mode that DEGRADED
replaces, the entry to RUN or PAIRED that R517 counts from, and the GLB message; GRANT.MASK goes to 0 (R34, R35, R38, R562). -/
def State.setMode (s : State) (m : Mode) (cause : Nat) (inpair : Bool) : State :=
  let old := s.mode
  let runs := fun x : Mode => x == Mode.run || x == Mode.paired
  let since := if runs m && !old.streaming then some s.clock else if m.streaming then s.rot.since else none
  let s := { s with rot := { s.rot with since := since }
                    sys := if m == Mode.degraded then { s.sys with degradedFrom := old } else s.sys }
  let s := s.setFlds [(GLB.MODE_PREV, old.code), (GLB.MODE_CUR, m.code), (GLB.MODE_CAUSE, cause), (GLB.MODE_BUSY, b2n s.sys.trans.isSome),
    (GLB.MODE_INPAIR, b2n inpair), (DMA.GRANT_MASK, 0)]
  s.intrEvent 0x200 1 (s.reg GLB.MODE).toNat

/-- An orderly exit is in progress (R35, R39): frames open no more, unless cameras are handed to the partner first (R43). -/
def State.leaving (s : State) : Bool := (s.sys.trans.any fun t => !t.target.streaming) && s.pair.purpose != 3

/-- An orderly exit to PREPARE, STANDBY or SAFE is in progress, the handover of cameras before it included (R43, R49). -/
def State.exiting (s : State) : Bool := s.sys.trans.any fun t => !t.target.streaming

/-- Cameras may open frames: a streaming mode with no exit in progress (R39, R44). -/
def State.mayOpen (s : State) : Bool := s.mode.streaming && !s.leaving

/-! ## Rotation (R516, R531) -/

/-- Slices not retired. -/
def State.sound (s : State) : List Nat := (List.range 208).filter fun sl => !s.isRetired sl

/-- Cameras with a port in READY or STREAMING under the set in force (R526). -/
def State.present (s : State) (p : Nat) : Bool :=
  (s.fld (HP.PSTAT_PSTATE p) == 4 || s.fld (HP.PSTAT_PSTATE p) == 5) && CfgSet.camera (s.setFor p) p

/-- PCAUSE: the lowest condition of R516 that holds. -/
def State.pcause (s : State) : Nat :=
  if s.mode == Mode.degraded then 1
  else if s.pair.taking != [] || s.pair.runs.any (fun (e : Nat × RingRun) => !e.2.handover) then 2
  else if s.cfg.flip.any fun f => f.moves != [] then 3
  else if s.freeSpares.length < 2 then 4
  else if s.flag XBAR.ROTCTL_PAUSE then 5
  else if s.mode != Mode.run && s.mode != Mode.paired then 6
  else if s.fld CLK.THRSTAT_STEP != 0 then 7
  else 0

/-- rotation-paused once per episode of too few free spares (R516, R521). -/
def State.pausedCheck (s : State) : State :=
  let few := s.pcause == 4 || (s.rot.waits != [] && s.freeSpares.length < 2)
  let s' := { s with rot := { s.rot with paused := few } }
  if few && !s.rot.paused then s'.report 0x1002 0 s.freeSpares.length else s'

end Sys2Proof.Machine
end

