-- ==== Sys2Proof/Machine/Assign.lean ====
section
/-!
DEFINITION. The assignment of slices to cameras when no spare is left (spec/18_rotation_bist.md R526, R529).
-/
namespace Sys2Proof.Machine

/-- The cameras ranked by the host priority list, then the rest by number (R390, R445, R526). -/
def State.ranked (s : State) : List Nat :=
  let l := (s.mbx.priority.filter fun p => decide (p < 192)).eraseDups
  (l ++ (List.range 192).filter fun p => !l.contains p).filter s.present

/-- An assignment of slices in the making: cameras with their slices, free slices, cameras without one by rank, drops and
joins (R526). -/
structure Assign where
  own : Tbl Nat
  free : List Nat
  need : List Nat
  drops : List Nat := []
  joins : List (Nat × Nat) := []

/-- A camera holds a slice of its own. -/
def Assign.alone (a : Assign) (p : Nat) : Bool :=
  a.own.has p && (a.own.filter fun (e : Nat × Nat) => e.2 == a.own.get p 208).length == 1

/-- One turn of the assignment: a free slice to the highest camera in need, else a join of the two lowest shareable cameras,
else a drop of the lowest (R526). -/
def Assign.turn (rank share : List Nat) (a : Assign) : Assign :=
  match a.need, a.free with
  | [], _ => a
  | c :: r, sl :: fr => { a with own := a.own.set c sl, free := fr, need := r }
  | c :: r, [] =>
    match rank.reverse.filter fun p => share.contains p && a.alone p with
    | lo :: hi :: _ =>
      { a with own := a.own.set lo (a.own.get hi 208), free := [a.own.get lo 208], joins := (lo, hi) :: a.joins }
    | _ =>
      match rank.reverse.find? fun p => a.own.has p || a.need.contains p with
      | none => { a with need := r }
      | some d =>
        if a.need.contains d then { a with need := (c :: r).erase d, drops := d :: a.drops }
        else
          let sl := a.own.get d 208
          let own := a.own.drop d
          { a with own := own, free := if own.any fun (e : Nat × Nat) => e.2 == sl then [] else [sl], drops := d :: a.drops }

/-- The assignment run to its end. -/
def Assign.run (rank share : List Nat) : Nat → Assign → Assign
  | 0, a => a
  | n + 1, a => if a.need = [] then a else (a.turn rank share).run rank share n

/-- The slice a camera holds or is about to take. -/
def State.intended (s : State) (p : Nat) : Option Nat :=
  match (s.camOf p).plan with
  | some sl => if sl < 208 then some sl else none
  | none => s.sliceOf p

/-- The plans of an assignment noted for the cameras it changes. -/
def State.notePlans (s : State) : Tbl Nat → State
  | [] => s
  | (p, sl) :: r => (if s.intended p = some sl then s else s.setCam p { s.camOf p with plan := some sl }).notePlans r

/-- Drops reported that are new (R526). -/
def State.noteDrops (s : State) : List Nat → State
  | [] => s
  | q :: r =>
    let c := s.camOf q
    (if c.dropped || c.plan == some 255 then s else (s.setCam q { c with plan := some 255 }).report 0x1004 q q).noteDrops r

/-- The slices in service assigned anew, together with the need of cameras, each change taking effect at its camera's next frame
boundary (R526). -/
def State.assign (s : State) (need : List Nat) : State :=
  let rank := s.ranked
  let own : Tbl Nat := rank.filterMap fun q => if need.contains q then none else (s.intended q).map fun sl => (q, sl)
  let a := Assign.run rank s.mbx.share 800 { own := own, free := [], need := need }
  let s := (s.notePlans a.own).noteDrops a.drops
  a.joins.foldl (fun s j => s.report 0x1005 j.1 (packArg [(16, j.1), (16, j.2)])) s

/-- A slice failure with no spare (R526). -/
def State.noSpare (s : State) (p : Nat) : State := s.assign [p]

/-- The assignment rerun for the cameras that are dropped (R529). -/
def State.reassign (s : State) : State := s.assign (s.ranked.filter fun p => (s.camOf p).dropped)

end Sys2Proof.Machine
end

