-- ==== Sys2Proof/Machine/F32.lean ====
section
/-!
DEFINITION. IEEE 754 binary32 as rationals: reading a code, rounding to nearest even after each operation, sine and cosine
(spec/09_geometry_lattice.md R258, R262, spec/07_noise.md R203). A value that is not finite is none.
-/
namespace Sys2Proof.Machine

/-- 2 to an integer power. -/
def pow2 (e : Int) : Rat := if 0 ≤ e then ((2 ^ e.toNat : Nat) : Int) else mkRat 1 (2 ^ (-e).toNat)

/-- The value of a binary32 code; none for infinities and NaN. -/
def f32Of (w : Nat) : Option Rat :=
  let e := bitsOf w 30 23
  let m := bitsOf w 22 0
  let s : Rat := if bit w 31 then -1 else 1
  if e = 255 then none
  else if e = 0 then some (s * ((m : Nat) : Int) * pow2 (-149))
  else some (s * ((m + 2 ^ 23 : Nat) : Int) * pow2 ((e : Int) - 150))

/-- The floor of log2 of a positive rational. -/
def floorLog2 (x : Rat) : Int :=
  let e : Int := (Nat.log2 x.num.natAbs : Int) - (Nat.log2 x.den : Int)
  if pow2 (e + 1) ≤ x then e + 1 else if pow2 e ≤ x then e else e - 1

/-- A positive rational rounded to the nearest integer, ties to even. -/
def roundEven (x : Rat) : Nat :=
  let n := x.floor.toNat
  let d := x - x.floor
  if d > mkRat 1 2 then n + 1 else if d < mkRat 1 2 then n else n + n % 2

/-- A rational rounded to binary32; none where it is too large. -/
def f32Round (x : Rat) : Option Rat :=
  if x = 0 then some 0
  else
    let a := absQ x
    let q := max (floorLog2 a - 23) (-149)
    let r := ((roundEven (a / pow2 q) : Nat) : Int) * pow2 q
    if pow2 128 ≤ r then none else some (if x < 0 then -r else r)

/-- The operations, each rounded. -/
def f32Add (a b : Option Rat) : Option Rat := a.bind fun x => b.bind fun y => f32Round (x + y)
def f32Sub (a b : Option Rat) : Option Rat := a.bind fun x => b.bind fun y => f32Round (x - y)
def f32Mul (a b : Option Rat) : Option Rat := a.bind fun x => b.bind fun y => f32Round (x * y)
def f32Div (a b : Option Rat) : Option Rat := a.bind fun x => b.bind fun y => if y = 0 then none else f32Round (x / y)

/-- The sum of `n` terms of a Taylor series whose next term is `t` and whose next divisor is (k + 1)(k + 2), the terms cut to
2^-80 (log entry 41). -/
def taylor (x2 : Rat) : Nat → Nat → Rat → Rat
  | 0, _, _ => 0
  | n + 1, k, t => t + taylor x2 n (k + 2) (mkRat (-(t * x2 / ((k + 1) * (k + 2) : Nat)) * ((2 ^ 80 : Nat) : Int)).floor (2 ^ 80))

/-- Cosine and sine of a binary32 value, rounded. -/
def f32Cos (a : Option Rat) : Option Rat := a.bind fun x => f32Round (taylor (x * x) 40 0 1)
def f32Sin (a : Option Rat) : Option Rat := a.bind fun x => f32Round (taylor (x * x) 40 1 x)

end Sys2Proof.Machine
end

