-- ==== Sys2Proof/Machine/Latch.lean ====
section
/-!
DEFINITION. The latch points of a frame: the motion it uses with its fallback and the loss of reference it may bring, and the
other PIPE fields (spec/07_noise.md R200, R202, R205, spec/11_stats_params.md R324).
-/
namespace Sys2Proof.Machine

/-- A vector of three. -/
abbrev Vec := Rat × Rat × Rat

/-- cos and sin of an angle in radians, the terms of their series cut to 2^-80. -/
def cosSin (x : Rat) : Rat × Rat := (taylor (x * x) 40 0 1, taylor (x * x) 40 1 x)

/-- The pose of a camera under a set: C, the rows of Rc, and fpx; none where a value is not finite (R203). -/
def poseOf (pose : List Byte) : Option (Vec × Vec × Vec × Vec × Rat) :=
  let g := fun i => f32Of (fieldAt pose (4 * i) 4)
  let v := fun i : Nat => match g i, g (i + 1), g (i + 2) with
    | some a, some b, some c => some ((a, b, c) : Vec)
    | _, _, _ => none
  match v 0, v 3, v 6, v 9, g 12 with
  | some c, some r0, some r1, some r2, some f => some (c, r0, r1, r2, f)
  | _, _, _, _, _ => none

/-- mp(F) from the pose, the speed and the yaw rate in 2^-16 units, and ΔT in ns, in 1/16 px; none where no prediction is made
(R203). -/
def predictFrom (pose : List Byte) (v w dt : Int) : Option (Int × Int) :=
  match poseOf pose with
  | none => none
  | some ((cx, cy, cz), (a, b, c), (d, e, f), (g, h, z), fpx) =>
    if mkRat (-1) 10 < z then none
    else
      let dist : Rat := (v : Rat) / 65536 * dt / 1000000000
      let th : Rat := (w : Rat) / 65536 * dt / 1000000000
      let px := cx - cz / z * c
      let py := cy - cz / z * f
      let half := cosSin (th / 2)
      let full := cosSin th
      let qx := px - dist * half.1
      let qy := py - dist * half.2
      let x := qx * full.1 + qy * full.2 - cx
      let y := qy * full.1 - qx * full.2 - cy
      let pz := c * x + f * y - z * cz
      if pz = 0 then none
      else
        some (roundHalf (16 * fpx * (a * x + d * y - g * cz) / pz), roundHalf (16 * fpx * (b * x + e * y - h * cz) / pz))

/-- mp(F) of a frame: from the newest update at its boundary, where it is current (R203). -/
def State.predicted (s : State) (p : Nat) (f : Frame) : Option (Int × Int) :=
  match s.motions.find? fun m => decide (m.1 ≤ f.arrival) with
  | some m => if f.arrival ≤ m.1 + 200000000 then predictFrom (CfgSet.item f.set 2 p 0x8005 []) m.2.1 m.2.2 f.tnr.dt else none
  | none => none

/-- A value as S12.4: the rules give no result beyond its range, where the model saturates (DESIGN CHOICE, log entry 205). -/
def satMotion (v : Int) : Int := clamp (-32768) 32767 v

/-- m(F) as the motion program sets it (R205). -/
def State.programMotion (s : State) (p : Nat) (f : Frame) : Int × Int :=
  let c := s.camOf p
  let was := c.motion.getD (0, 0)
  match s.predicted p f, c.rmed with
  | some m, _ => (satMotion (m.1 + c.bias.1), satMotion (m.2 + c.bias.2))
  | none, some r => (satMotion (was.1 + r.1), satMotion (was.2 + r.2))
  | none, none => was

/-- The default program, PROGID 0, runs on an engine for a port (R360). -/
def State.defaultRuns (s : State) (sl p : Nat) : Bool :=
  (s.eng sl).port == some p && s.fld (SL.ENGPROG_PROGID sl) == 0
    && (s.fld (SL.ENGSTAT_STATE sl) == esRunning || s.fld (SL.ENGSTAT_STATE sl) == esWaiting)

/-- The default program's post to a camera's queue: a PIPE field for a frame (R202, R267, R360). -/
def State.programPost (s : State) (p id fn v : Nat) : State :=
  (s.pqPut p true { tfn := fn, kind := 2, lsel := 0, len := 4, grp := 0, gend := false, addr := id, data := v, seq := 0 }).2

/-- The motion that the default program posts for a frame as it hears of it (R202, R205; log entry 136). -/
def State.motionPost (s : State) (p sl : Nat) (f : Frame) : State :=
  if s.defaultRuns sl p && f.skipWhy == 0 && (s.scene p f).tnrOn then
    let m := s.programMotion p f
    s.programPost p 1 f.fn (unsigned 16 m.1 + 65536 * unsigned 16 m.2)
  else s

/-- MOTSTAT.SRC of a frame (R205). -/
def State.motionSrc (s : State) (p : Nat) (f : Frame) : Nat :=
  b2n (s.camOf p).rmed.isNone + 2 * b2n (s.predicted p f).isNone

/-- The motion of a frame for which none is queued: m(F − 1) scaled by the ages; free where a scale is missing (R202; log entry
1). A result beyond S12.4 saturates (DESIGN CHOICE, log entry 205). -/
def State.lateMotion (s : State) (p : Nat) (f : Frame) : (Int × Int) × State :=
  let m := (s.camOf p).motion.getD (0, 0)
  let t := f.tnr
  if m = (0, 0) then (m, s)
  else if t.dtWas = 0 ∨ t.dt = 0 then ((signed 16 (s.free.toNat % 65536), signed 16 (s.free.toNat / 65536 % 65536)), s.took)
  else
    let sc := fun v : Int => satMotion (roundHalf ((v : Rat) * t.dt / t.dtWas))
    ((sc m.1, sc m.2), s)

/-- The motion of a frame: that of the entry queued for it, else the late one (R202). -/
def State.motionOf (s : State) (p : Nat) (f : Frame) (q : Option PqEntry) : (Int × Int) × State :=
  match q with
  | some e => ((signed 16 (e.data % 65536), signed 16 (e.data / 65536)), s)
  | none => s.lateMotion p f

/-- A frame loses its reference after its boundary, at the latch of its motion or gain, unless an earlier cause applies (R199,
R200). -/
def State.loseRef (s : State) (p sl : Nat) (f : Frame) (cause : Nat) : State :=
  if 1 ≤ f.tnr.cause ∧ f.tnr.cause ≤ cause then s
  else
    let s := if f.tnr.cause = 0 then s.bump (SL.NRCNT0_REFLOSS sl) 1 else s
    let s := s.setFlds [(SL.TNRSTAT_WARMN sl, 0), (SL.TNRSTAT_LCAUSE sl, cause)]
    let s := s.setCam p { s.camOf p with warm := 0, cause := cause }
    s.onFrame p f.fn fun x => { x.sflag 0 with ref := none, tnr := { x.tnr with n := 0, cause := cause } }

/-- A motion beyond MAXMOT is a reference loss, unless an earlier cause applies (R200). -/
def State.motionLoss (s : State) (p sl : Nat) (f : Frame) (m : Int × Int) : State :=
  let lim := CfgSet.fld f.set 2 p (SL.TNRLIM_MAXMOT 0)
  let lim := 16 * (if lim = 0 ∨ 1024 < lim then 1024 else lim)
  if m.1.natAbs ≤ lim ∧ m.2.natAbs ≤ lim then s else s.loseRef p sl f 5

/-- The latch of MOTION for a frame that a slice processes (R202, R205, R324). -/
def State.latchMotion (s : State) (p : Nat) (f : Frame) : State :=
  if f.latched.contains 1 then s
  else
    match f.slice with
    | none => s.pqLatch p 1 f
    | some sl =>
      if f.skipWhy ≠ 0 ∨ !(s.scene p f).tnrOn then s.pqLatch p 1 f
      else
        let q := (s.camOf p).pipeEntry 1 f.fn
        let src := s.motionSrc p f
        let (m, s) := s.motionOf p f q
        let s := s.pqLatch p 1 f
        let s := if q.isSome then s else (s.bump (SL.NRCNT0_MOTLATE sl) 1).report 0x3002 sl p
        let s := s.setFlds [(SL.MOTION_MOTX sl, unsigned 16 m.1), (SL.MOTION_MOTY sl, unsigned 16 m.2), (SL.MOTSTAT_SRC sl, src),
          (SL.MOTSTAT_LATE sl, b2n q.isNone)]
        let s := s.setCam p { s.camOf p with motion := some m }
        let s := s.onFrame p f.fn fun x => { x with tnr := { x.tnr with motx := m.1, moty := m.2, src := src, late := q.isNone } }
        s.motionLoss p sl f m

/-- The exposure ratio E of a frame against the header of a reference: exact numerator and denominator, whether it lies within the
limits, and its value in U4.12 (R210). -/
def expRatio (expl gain hexpl hgain : Nat) : Bool × Nat :=
  let num := expl * gain
  let den := hexpl * hgain
  (decide (den ≤ num * 2 ∧ num ≤ 2 * den), (2 * 4096 * num + den) / (2 * den))

/-- The noise model that a slice shows for a frame of gain G (R193, R213). -/
def State.showModel (s : State) (p sl : Nat) (f : Frame) (gain : Nat) : State :=
  match noiseAt (modelTable f.set p (s.port p).desc) gain with
  | some ab => s.setFlds [(SL.NMODEL_SHOT sl, (roundHalf (ab.1 * 4096)).toNat), (SL.NMODEL_READ sl, (roundHalf (sqrtQ ab.2 * 256)).toNat)]
  | none => s

/-- The latch of GAIN for a frame: G and the noise model are shown, and the exposure ratio follows G; one that leaves its limits
here is a loss of the reference (R193, R210, R213, R324; DEDUCED, log entry 206). -/
def State.latchGain (s : State) (p : Nat) (f : Frame) : State :=
  let s := s.pqLatch p 2 f
  match s.frameOf p f.fn, f.slice with
  | some g, some sl =>
    let s := s.setFld (SL.GAIN_G sl) g.gain
    if g.skipWhy ≠ 0 then s
    else
      let s := s.showModel p sl g g.gain
      match g.ref with
      | none => s
      | some (a, _) =>
        let r := expRatio g.expl g.gain (s.num (a + 0x0C) 4) (s.num (a + 0x18) 2)
        if r.1 then s.onFrame p g.fn fun x => { x with ref := some (a, r.2) } else s.loseRef p sl g 7
  | _, _ => s

/-- A PIPE field of a frame latched, if it is not yet. -/
def State.latchField (s : State) (p id fn : Nat) : State :=
  match s.frameOf p fn with
  | none => s
  | some f => if f.latched.contains id ∨ id = 3 then s else if id = 1 then s.latchMotion p f else if id = 2 then s.latchGain p f else s.pqLatch p id f

/-- Every PIPE field of a frame has passed its latch point: line 0 has left the last step, or the frame has closed (R324). -/
def State.latchAll (s : State) (p fn : Nat) : State := pipeFields.foldl (fun s id => s.latchField p id fn) s

end Sys2Proof.Machine
end

