-- ==== Sys2Proof/Machine/Frames.lean ====
section
/-!
DEFINITION. What the close of a frame brings: its record, the end of its processing, the camera state record, the mirror to
the partner, and the reserve ring (spec/06_ingest.md R162, R181 to R186, spec/07_noise.md R201, R204, R205,
spec/17_pairing.md R490 to R494).
-/
namespace Sys2Proof.Machine

/-! ## Places of a camera's buffers (R618) -/

/-- Keys of the pool buffers: references, warp sources, stores, ring slots and canvases of an instance. -/
def refKey (p i : Nat) : Nat := 0x10000 + 8 * p + i
def warpKey (p i : Nat) : Nat := 0x20000 + 8 * p + i
def storeKey (sid i : Nat) : Nat := 0x30000 + 2 * sid + i
def ringKey (p i : Nat) : Nat := 0x40000 + 2 * p + i
def canvasKey (n i : Nat) : Nat := 0x50000 + 2 * n + i

/-- Base of a placed buffer, none where it is not placed. -/
def State.placed (s : State) (key : Nat) : Option Nat := if s.memx.place.has key then some (s.memx.place.get key (0, 0)).1 else none

def State.ingest (s : State) (p : Nat) : Ingest := s.ingests.get p {}
def State.setIngest (s : State) (p : Nat) (g : Ingest) : State := { s with ingests := s.ingests.set p g }

/-! ## The camera state record (R490) -/

/-- The 16 bytes of a queue entry (R323). -/
def PqEntry.bytes (e : PqEntry) : List Byte :=
  layout [(4, e.tfn), (1, e.kind), (1, e.lsel), (1, e.len), (1, e.grp + (if e.gend then 128 else 0)), (4, e.addr), (4, e.data)]

/-- The bits of the entries of a queue that satisfy a test, by their place in the pool (R490). -/
def poolMap (q : List PqEntry) (p : PqEntry → Bool) : Nat :=
  (List.range q.length).foldl (fun a i => a + if (q[i]?).any p then 2 ^ i else 0) 0

/-- Address of the state record of a port (R612). -/
def recordAddr (p : Nat) : Nat := 0x102100000 + 4096 * p

/-- The camera state record written after the close of a frame (R490); LOCAL is free (log entry 1). -/
def State.recordBytes (s : State) (p : Nat) (f : Frame) : List Byte × State :=
  let c := s.camOf p
  let g := s.ingest p
  let m := c.motion.getD (0, 0)
  let seqs := (List.range 5).map fun k => (4, f.fseqs.get k (s.stream (sidOf p k)).fseq)
  let tseq := (s.stream (sidOf p 5)).fseq
  let loc := (List.range 8).flatMap fun i => leBytes 8 (Config.freeValue (s.fresh + i)).toNat
  let prog := match f.slice with
    | some sl => s.fld (SL.ENGPROG_PROGID sl)
    | none => CfgSet.progId f.set p
  let body := layout ([(4, 0x52534B43), (2, 1), (2, p), (4, f.fn), (4, f.gen), (8, f.tclose), (4, (s.port p).mepoch), (4, prog),
    (4, c.persVer), (2, f.hf), (1, b2n g.baseline + 2 * b2n (c.persist != [])), (1, c.warm), (4, g.fnNext),
    (4, word2 c.bias.1 c.bias.2), (4, word2 m.1 m.2), (4, c.gain.getD 0x100 + 65536 * c.hgain.getD 0x4000), (4, c.expns.getD 0), (4, 0)]
    ++ seqs ++ [(4, tseq), (8, 0)]) ++ loc ++ List.replicate 96 0
    ++ layout [(16, poolMap c.queue fun _ => true), (16, poolMap c.queue (·.sent)), (224, 0)]
    ++ bytesAt (c.queue.flatMap PqEntry.bytes) 0 2048 ++ bytesAt c.persist 0 1024 ++ List.replicate 508 0
  (withCrc body, { s with fresh := s.fresh + 8 })

/-- The blocks of 64 bytes in which two records differ (R491). -/
def changedBlocks (a b : List Byte) : List Nat := (List.range 64).filter fun j => bytesAt a (64 * j) 64 != bytesAt b (64 * j) 64

/-- A MIRROR of a record: in full the first time, after a RESYNC or a re-initialisation and below level 0x0101, else the
blocks that changed (R491). -/
def State.mirror (s : State) (p fn : Nat) (r : List Byte) : State :=
  if !s.primary p then s
  else
    let full := !s.pair.sentRec.has p || decide (s.prLevel < 0x0101)
    let head := fun f : Nat => BitVec.ofNat 64 (packArg [(8, p), (24, f), (32, fn)])
    let old := s.pair.sentRec.get p []
    let ch := changedBlocks old r
    let s := s.setPair { s.pair with sentRec := s.pair.sentRec.set p r }
    if full then s.peerSend 0x11 (head 1 :: packCrumbs r)
    else s.peerSend 0x11 (head 0 :: BitVec.ofNat 64 ((ch.map fun j => 2 ^ j).foldl (· + ·) 0)
      :: ch.flatMap fun j => packCrumbs (bytesAt r (64 * j) 64))

/-! ## The reserve ring (R494, R495) -/

/-- Bits per pixel of a data type (R110). -/
def dtBits (dt : Nat) : Nat := [8, 10, 12, 14, 16].getD (dt - 0x2A) 8

/-- Pixels packed at so many bits each, little-endian, padded to a crumb (R110). -/
def packPixels (w : Nat) (l : List Nat) : List Byte :=
  leBytes (8 * ceilDiv (l.length * w) 64) (l.foldr (fun c a => c % 2 ^ w + 2 ^ w * a) 0)

/-- Bytes of a line record of the ring (R494). -/
def lrec (width w : Nat) : Nat := 64 * ceilDiv (16 + 8 * ceilDiv (width * w) 64) 64

/-- Bytes of a ring slot (R494). -/
def slotBytes (width height w : Nat) (hdr : Bool) : Nat := padTo 4096 (128 + lrec width w * height * (1 + b2n hdr))

/-- The line tag of a line (R183). -/
def Frame.tag (f : Frame) (n : Nat) : List Byte := layout [(8, f.time n), (2, n), (1, f.lstate n), (5, 0)]

/-- The bytes of a ring slot that holds a closed frame (R494). -/
def Frame.slot (f : Frame) : List Byte :=
  let w := dtBits f.dt
  let one := fun (n : Nat) (sec : Bool) => bytesAt (f.tag n ++ packPixels w (f.burst sec n)) 0 (lrec f.width w)
  withCrc (layout [(4, f.fn), (2, f.hf), (2, f.height * (1 + b2n f.hdr))] ++ f.record ++ bytesAt (crumbsBytes f.fstart) 0 24
    ++ layout [(1, 1 + 2 * b2n f.hdr), (43, 0)])
  ++ (List.range f.height).flatMap fun n => one n false ++ (if f.hdr then one n true else [])

/-- A standby is armed for a camera once it holds a record and a whole frame of it (R481). -/
def State.tryArm (s : State) (p : Nat) : State :=
  if s.standby p && s.pair.recs.get p [] != [] && s.pair.ring.get p [] != [] then s.setArmed p true else s

/-- A closed frame written into its ring slot (R494). -/
def State.ringWrite (s : State) (p : Nat) (f : Frame) : State :=
  let s := match s.placed (ringKey p (f.fn % 2)) with
    | some a => s.poke a f.slot
    | none => s
  let old := (s.pair.ring.get p []).filter fun x => x.fn % 2 != f.fn % 2
  (s.setPair { s.pair with ring := s.pair.ring.set p ((f :: old).take 2) }).tryArm p

/-! ## The end of a frame's processing (R201, R204, R205, R222, R338) -/

/-- The median residual of a frame, usable from 8 valid blocks on (R205). -/
def medianResid (t : Tbl (Int × Int)) : Option (Int × Int) :=
  if t.length < 8 then none else some (median (t.map fun (e : Nat × (Int × Int)) => e.2.1), median (t.map fun (e : Nat × (Int × Int)) => e.2.2))

/-- Block matching, bias, reference, poisoned reference words and defect counts of a frame that a slice has processed (R201, R204,
R205, R211, R222). A bias beyond S12.4 saturates (DESIGN CHOICE, log entry 205). -/
def State.endPixels (s : State) (p sl : Nat) (f : Frame) : State :=
  let c := s.camOf p
  let sc := s.scene p f
  let res := sc.matches
  let rmed := medianResid res
  let bias := match f.tnr.src, rmed with
    | 0, some r => (satMotion (c.bias.1 + r.1.tdiv 4), satMotion (c.bias.2 + r.2.tdiv 4))
    | _, _ => c.bias
  let d := sc.defectCounts
  let s := s.setFlds [(SL.MOTSTAT_VALIDBLK sl, res.length), (SL.DEFCNT0_STATIC sl, min d.1 65535),
    (SL.DEFCNT0_DYNAMIC sl, min d.2.1 65535), (SL.DEFCNT1_UNCORR sl, min d.2.2 65535)]
  let s := s.editFrame p f.fn fun x => { x with tnr := { x.tnr with resid := res } }
  let bad := if sc.tnrOn then sc.refPoison.filter fun w => !f.badReads.contains w else []
  let s := if bad = [] then s else (s.bump (SL.NRCNT1_POISON sl) bad.length).report 0x3003 sl p
  let c := { s.camOf p with bias := bias, rmed := if sc.tnrOn then rmed else c.rmed }
  match f.refOut with
  | none => s.setCam p c
  | some a =>
    if sc.tnrOn then
      ((s.store a (sc.refHeader true)).store (a + 64) sc.refData).setCam p { c with refBuf := some (a, f.fn), refSel := if s.placed (refKey p 0) = some a then 1 else 0 }
    else s.setCam p c

/-- The persistence area taken from the last COMMIT of the running service, and the cycles of the frame shown (R338, R367). -/
def State.endEngine (s : State) (p sl : Nat) : State :=
  let e := s.eng sl
  if e.port != some p then s
  else
    let s := match e.shadow with
      | some b => s.setCam p { s.camOf p with persist := b, persVer := e.persVer }
      | none => s
    (s.setEng sl { e with busy := 0, shadow := none }).setFld (SL.ENGCNT2_BUSY sl) (min e.busy (2 ^ 32 - 1))

/-- A frame not processed is reported on the statistics stream without statistics (R318). -/
def State.skipStats (s : State) (p : Nat) (f : Frame) : State :=
  let s := s.statRecord p f (if f.lost then dropped f.integ else f.integ) (withBit f.sflags f.skipWhy true)
  s.editFrame p f.fn fun x => { x with statsDone := true }

/-- The frame of a camera that has just closed is taken by its slice: events, processing, record, mirror, statistics and
streams (R21, R162, R353, R491). -/
def State.afterClose (s : State) (p : Nat) (f : Frame) : State :=
  let s := s.latchAll p f.fn
  let f := (s.frameOf p f.fn).getD f
  let s := match f.slice with
    | none => s
    | some sl => if (s.eng sl).port == some p then s.post sl evFend [f.fn, f.integ, f.vlines, 0] else s
  let s := if f.skipWhy != 0 then s else match f.slice with
    | some sl => s.endPixels p sl f
    | none => s
  let s := match f.slice with
    | some sl => s.endEngine p sl
    | none => s
  let (r, s) := s.recordBytes p f
  let s := (s.store (recordAddr p) r).mirror p f.fn r
  let s := if f.skipWhy != 0 then s.skipStats p f else s
  let s := match f.slice with
    | some sl => if (s.camOf p).moveAt == some ((f.fn + 1) % 2 ^ 32) && (s.eng sl).port == some p then s.endService sl else s
    | none => s
  (s.settle p).sweep p

/-- The open frame of a port closed with a cause (R162, R181, R185, R186); the ingest waits for a FRAME_START, or discards. -/
def State.closeFrame (s : State) (p cause : Nat) (discard : Bool) : State :=
  let g := s.ingest p
  match g.frame with
  | none => s
  | some f0 =>
    let f := f0.shut cause s.now
    let s := s.setIngest p { g with frame := none, lastClosed := some f.hf, orphans := false, openLine := none,
                                    prev := some (f.tfirst, f.timeEst),
                                    lag := if f.timeEst then g.lag else (((f.arrival : Int) - f.tfirst) :: g.lag).take 16 }
    let s := s.setFlds ((HP.INGSTAT_FSTATE p, if discard then 2 else 0) ::
      (List.range 12).map fun k => (HP.INGLAST_REC p k, fieldAt f.record (4 * k) 4))
    let s := if f.ovf then s else s.setFld (HP.INGSTAT_OVFNOW p) 0
    let s := s.bump (HP.ICNT4_HDRSINGLE p) f.nsingle
    let s := if f.damaged then (s.bump (HP.ICNT3_DAMAGED p) 1).report 0x2021 p (packArg [(16, p), (16, f.integ % 256)]) else s
    let s := if f.ring || f.replay then s.ringWrite p f else s
    let s :=
      if f.ring then s
      else
        let c := s.camOf p
        (s.setCam p { c with frames := f :: c.frames }).afterClose p f
    if s.pstate p = psHeld ∨ s.pstate p = psUpdating then s.leaveSlice p else s

end Sys2Proof.Machine
end

