-- ==== Sys2Proof/Machine/Reserve.lean ====
section
/-!
DEFINITION. LPDDR reservations: what each object of a set reserves, where its buffers lie, and what a flip holds of both sets
(spec/16_config_sets.md R466, spec/23_memory.md R617, R618, R625).
-/
namespace Sys2Proof.Machine

/-! ## Rates of a set -/

/-- The cameras a set configures (R20, R189). -/
def CfgSet.cams (c : CfgSet) : List Nat := (List.range 192).filter (CfgSet.camera c)

/-- Width and height of a camera, and its pixel rate in pixels per second (R30). -/
def CfgSet.wOf (c : CfgSet) (p : Nat) : Nat := CfgSet.fld c 1 p (HP.INGGEOM_WIDTH 0)
def CfgSet.hOf (c : CfgSet) (p : Nat) : Nat := CfgSet.fld c 1 p (HP.INGGEOM_HEIGHT 0)
def CfgSet.pixelRate (c : CfgSet) (p : Nat) : Rat :=
  if CfgSet.camera c p then perSecond (CfgSet.wOf c p * CfgSet.hOf c p) (CfgSet.fperiod c p) else 0

/-- Frames per second of a camera under a set. -/
def CfgSet.fps (c : CfgSet) (p : Nat) : Rat := if CfgSet.camera c p then perSecond 1 (CfgSet.fperiod c p) else 0

/-- Lattice frames per second (R260). -/
def CfgSet.latFps (c : CfgSet) (n : Nat) : Rat := perSecond 1 (CfgSet.latPeriod c n)

/-- WRDF of a camera in sixteenths, 0 taken as 0x10 (R277). -/
def CfgSet.wrdf (c : CfgSet) (p : Nat) : Nat :=
  let v := CfgSet.fld c 2 p (SL.WCTL_WRDF 0)
  if v = 0 then 16 else v

/-- CATCHUP as a rate (R507). -/
def State.catchup (s : State) : Rat := match s.fld PEER.PCTL_CATCHUP with
  | 0 => mkRat 5 4
  | 1 => mkRat 3 2
  | _ => 2

/-! ## Objects, buffers and bandwidth (R466, R617) -/

/-- The object that a buffer belongs to, as KIND × 65,536 + INST. -/
def ownerOf (key : Nat) : Nat :=
  match key / 0x10000 with
  | 1 | 2 => 0x20000 + key % 0x10000 / 8
  | 3 => 0x30000 + key % 0x10000 / 2
  | 4 => 0x20000 + key % 0x10000 / 2
  | _ => 0x40000 + key % 0x10000 / 2

/-- The buffers of a port under a set: key and size (R207, R249, R297, R494). -/
def CfgSet.portBuffers (c : CfgSet) (p : Nat) (standby : Bool) : List (Nat × Nat) :=
  if !CfgSet.camera c p then []
  else
    let w := CfgSet.wOf c p
    let h := CfgSet.hOf c p
    let planes := CfgSet.wplanes c p
    let hdr := CfgSet.flag c 1 p (HP.INGFMT_HDR 0)
    let ref := if CfgSet.flag c 2 p (SL.NRCTL_TNR_EN 0) then 2 else 0
    let warp := if planes = 0 then 0 else if CfgSet.contributes c p then 3 else 2
    let ring := if standby then 2 else 0
    (List.range ref).map (fun i => (refKey p i, padTo 4096 (64 + ceilDiv (w * h * 10) 8)))
      ++ (List.range warp).map (fun i => (warpKey p i, padTo 4096 (warpBufBytes planes w h)))
      ++ (List.range 4).flatMap (fun k =>
        if CfgSet.streamOn c p k && CfgSet.fld c 3 (sidOf p k) (SL.OCTL_POLICY 0 k) == 1 then
          (List.range 2).map fun i => (storeKey (sidOf p k) i, padTo 4096 (CfgSet.frameLoad c p k))
        else [])
      ++ (List.range ring).map fun i => (ringKey p i, slotBytes w h (dtBits (CfgSet.fld c 1 p (HP.INGFMT_DT 0))) hdr)

/-- The canvases of a lattice under a set (R260). -/
def CfgSet.latBuffers (c : CfgSet) (n : Nat) : List (Nat × Nat) :=
  if CfgSet.latDefined c n then (List.range 2).map fun i => (canvasKey n i, padTo 4096 (2 * CfgSet.latW c n * CfgSet.latH c n)) else []

/-- The bandwidth a camera reserves under a set, in bytes per second (R207, R249, R256, R495). -/
def State.camBw (s : State) (c : CfgSet) (p : Nat) (standby : Bool) : Rat :=
  if !CfgSet.camera c p then 0
  else
    let px := CfgSet.pixelRate c p
    let b : Rat := ((planesB (CfgSet.wplanes c p) : Nat) : Int)
    let warped := CfgSet.flag c 2 p (SL.WCTL_WARP_EN 0) && (List.range 4).any fun k => CfgSet.streamOn c p k && !fmtIsRaw (CfgSet.fmtOf c p k)
    let rs := if warped then px else 0
    let rl := sumQ (((List.range 8).filter fun n => CfgSet.latDefined c n && (CfgSet.latSlots c n).any fun e => e.2 == p).map fun n =>
      ((CfgSet.wOf c p * CfgSet.hOf c p : Nat) : Int) * CfgSet.latFps c n)
    let hdr := b2n (CfgSet.flag c 1 p (HP.INGFMT_HDR 0))
    let ring : Rat := ((lrec (CfgSet.wOf c p) (dtBits (CfgSet.fld c 1 p (HP.INGFMT_DT 0))) * CfgSet.hOf c p * (1 + hdr) : Nat) : Int)
    (if CfgSet.flag c 2 p (SL.NRCTL_TNR_EN 0) then mkRat 5 2 * px else 0) + b * px + mkRat (CfgSet.wrdf c p : Nat) 16 * b * (rs + rl)
      + (if standby then ring * CfgSet.fps c p * (1 + s.catchup) else 0)

/-- The bandwidth that each object of a set reserves, in bytes per second: object to bandwidth (R617). -/
def State.objBw (s : State) (c : CfgSet) (sb : List Nat) (o : Nat) : Rat :=
  let i := o % 65536
  match o / 65536 with
  | 2 => s.camBw c i (sb.contains i)
  | 3 => if CfgSet.camera c (i / 8) && i % 8 < 4 && CfgSet.streamOn c (i / 8) (i % 8)
      && CfgSet.fld c 3 i (SL.OCTL_POLICY 0 (i % 8)) == 1 then CfgSet.sidRate c i / 4 else 0
  | 4 => if CfgSet.latDefined c i then ((4 * CfgSet.latW c i * CfgSet.latH c i : Nat) : Int) * CfgSet.latFps c i else 0
  | _ => 0

/-- Every object that may reserve. -/
def allObjects : List Nat :=
  (List.range 192).flatMap (fun p => (0x20000 + p) :: (List.range 4).map fun k => 0x30000 + sidOf p k) ++ (List.range 8).map (0x40000 + ·)

/-- The set that governs an object now. -/
def State.setOfObj (s : State) (o : Nat) : CfgSet :=
  match o / 65536 with
  | 2 => s.setFor (o % 65536)
  | 3 => s.setFor (o % 65536 / 8)
  | _ => if s.flag GLB.CFGSTAT_SWITCHING then s.cfg.shadow else s.cfg.active

/-- The cameras this device stands by for. -/
def State.standbys (s : State) : List Nat := (List.range 192).filter s.standby

/-- The bandwidth reserved in the transition to a set, in MB/s: for each object the larger of what it holds and what the set
gives it, with SYSRES (R466, R617). -/
def State.bandwidth (s : State) (c : CfgSet) (sb : List Nat) : Rat :=
  let one := fun o => max (max (s.objBw c sb o) (s.objBw (s.setOfObj o) sb o)) (((s.cfg.oldBw.get o 0 : Nat) : Int) : Rat)
  ((CfgSet.sysres c : Nat) : Int) + sumQ (allObjects.map one) / 1000000

/-- The buffers of a set in the order of placement: falling size, ties in KIND and INST order (R618). -/
def CfgSet.buffers (c : CfgSet) (sb : List Nat) : List (Nat × Nat) :=
  (List.range 192).flatMap (fun p => CfgSet.portBuffers c p (sb.contains p)) ++ (List.range 8).flatMap (CfgSet.latBuffers c)

/-- Whether a buffer is placed before another. -/
def placesFirst (a b : Nat × Nat) : Bool :=
  if a.2 = b.2 then (if ownerOf a.1 = ownerOf b.1 then a.1 ≤ b.1 else ownerOf a.1 < ownerOf b.1) else decide (b.2 < a.2)

/-- The pool of this ordering code: base and end (R612). -/
def poolBase : Nat := 0x140000000
def poolEnd : Nat := poolBase + (if Config.is32G then 31744 else 15360) * 2 ^ 20

/-- The lowest 4 KiB boundary of the pool at which so many bytes meet no held range (R618). -/
def firstFit (held : List (Nat × Nat)) (size : Nat) : Option Nat :=
  let ok := fun a => decide (a + size ≤ poolEnd) && held.all fun e => decide (a + size ≤ e.1 ∨ e.1 + e.2 ≤ a)
  let tries := (poolBase :: held.map fun e => padTo 4096 (e.1 + e.2)).filter ok
  match tries with
  | [] => none
  | a :: r => some (r.foldl min a)

/-- Buffers placed in order; none where one does not fit. -/
def placeAll : List (Nat × Nat) → List (Nat × Nat) → Tbl (Nat × Nat) → Option (Tbl (Nat × Nat))
  | [], _, t => some t
  | (k, n) :: r, held, t =>
    match firstFit held n with
    | none => none
    | some a => placeAll r ((a, n) :: held) (t.set k (a, n))

/-- Ranges of the pool that a set holds, or held and has not released. -/
def State.heldRanges (s : State) : List (Nat × Nat) :=
  let v := fun (t : Tbl (Nat × Nat)) => t.map fun (e : Nat × Nat × Nat) => e.2
  v s.memx.place ++ v s.cfg.next ++ v s.cfg.old

/-- The placement of a set's buffers: those of objects in both sets stay where they are (R618). -/
def State.placement (s : State) (c : CfgSet) (sb : List Nat) : Option (Tbl (Nat × Nat)) :=
  let all := CfgSet.buffers c sb
  let same := fun (e : Nat × Nat) => s.memx.place.has e.1 && (s.memx.place.get e.1 (0, 0)).2 == e.2
  let kept : Tbl (Nat × Nat) := (all.filter same).foldl (fun t e => Tbl.set t e.1 (s.memx.place.get e.1 (0, 0))) []
  placeAll ((all.filter fun e => !same e).mergeSort placesFirst) s.heldRanges kept

/-! ## Reservations during a flip (R466, R625) -/

/-- The buffers of an object move to what the flip reserved for it; those it leaves are held until their release, with its old
bandwidth (R466). -/
def State.moveObject (s : State) (sb : List Nat) (o : Nat) : State :=
  let g := s.cfg
  let mine := fun (t : Tbl (Nat × Nat)) => t.filter fun e => ownerOf e.1 == o
  let rest := fun (t : Tbl (Nat × Nat)) => t.filter fun e => ownerOf e.1 != o
  let left := (mine s.memx.place).filter fun e => !(g.next.has e.1 && g.next.get e.1 (0, 0) == e.2)
  let old := left.foldl (fun (t : Tbl (Nat × Nat)) e => t.set e.1 e.2) g.old
  let place := (mine g.next).foldl (fun (t : Tbl (Nat × Nat)) e => t.set e.1 e.2) (rest s.memx.place)
  let bw := ceilQ (s.objBw (s.setOfObj o) sb o)
  { s with cfg := { g with old := old, oldBw := if bw = 0 then g.oldBw else g.oldBw.set o (max bw (g.oldBw.get o 0)) }
           memx := { s.memx with place := place } }

/-- The objects of a port. -/
def objectsOf (p : Nat) : List Nat := (0x20000 + p) :: (List.range 4).map fun k => 0x30000 + sidOf p k

/-- The objects of a list moved. -/
def State.moveObjects (s : State) : List Nat → State
  | [] => s
  | o :: r => (s.moveObject s.standbys o).moveObjects r

/-- The ring slots of a camera that is stood by for, placed where they are not yet (R31, R494, R618). -/
def State.placeRing (s : State) (p : Nat) : State :=
  let need := (CfgSet.portBuffers (s.setFor p) p true).filter fun e => e.1 / 0x10000 == 4 && !s.memx.place.has e.1
  match placeAll (need.mergeSort placesFirst) s.heldRanges s.memx.place with
  | some t => { s with memx := { s.memx with place := t } }
  | none => s

/-- The ring slots of a camera given up. -/
def State.dropRing (s : State) (p : Nat) : State :=
  { s with memx := { s.memx with place := s.memx.place.filter fun (e : Nat × Nat × Nat) => e.1 / 0x10000 != 4 || ownerOf e.1 != 0x20000 + p } }

/-- Bytes of the pool in placements. -/
def placedBytes (t : Tbl (Nat × Nat)) : Nat := sumN (t.map fun (e : Nat × Nat × Nat) => e.2.2)

/-- BWRES: the bandwidth reserved, both sets during a flip (R625). -/
def State.bwRes (s : State) : Nat := ceilQ (s.bandwidth (if s.cfg.flip.isSome then s.cfg.shadow else s.cfg.active) s.standbys)

/-- CAPRES: the pool reserved in MiB (R625). -/
def State.capRes (s : State) : Nat :=
  let news := s.cfg.next.filter fun e => !(s.memx.place.has e.1 && s.memx.place.get e.1 (0, 0) == e.2)
  ceilDiv (placedBytes s.memx.place + placedBytes news + placedBytes s.cfg.old) (2 ^ 20)

end Sys2Proof.Machine
end

