-- ==== Sys2Proof/Machine/FlipOps.lean ====
section
/-!
DEFINITION. What a flip does at its epoch, at the switch of each camera and at its end (spec/16_config_sets.md R460, R467 to
R471), and the loading of a set into the registers it governs (R461).
-/
namespace Sys2Proof.Machine

/-! ## Registers loaded from a set (R100, R141, R461) -/

/-- Offsets from a block's base that a set lists for a kind and instance. -/
def CfgSet.offsets (c : CfgSet) (kind inst : Nat) : List Nat :=
  let keys : List Nat := c.map fun (e : Nat × List Byte) => e.1
  (keys.filter fun k => k / 2 ^ 16 == kind * 2 ^ 16 + inst && decide (k % 2 ^ 16 < 0x4000)).map fun k => 4 * (k % 2 ^ 16)

/-- The registers of a range that hold a word, as offsets from its base. -/
def State.heldOffsets (s : State) (base size : Nat) : List Nat :=
  let a : List Nat := s.csr.map fun (e : Nat × Word) => e.1
  (a.filter fun x => decide (base ≤ x ∧ x < base + size)).map (· - base)

/-- PCTL takes a new value; a REFUSED port is challenged again where ALLOW_UNAUTH becomes 1 (R127, R141). -/
def State.setPctl (s : State) (p v : Nat) : State :=
  let was := s.flag (HP.PCTL_ALLOW_UNAUTH p)
  let s := s.putPctl p v
  if !was && s.flag (HP.PCTL_ALLOW_UNAUTH p) && s.pstate p == psRefused then s.startAuth p else s

/-- A link turned on or off by its ENABLE (R90, R100). -/
def State.linkEnable (s : State) (l : Link) (on : Bool) : State :=
  let s := s.setFld (LK.LKCTL_ENABLE l) (b2n on)
  if on then (if s.lkState l = lsOff then s.lkOn l else s) else s.lkOff l

/-- A port loaded from its set (R100, R164, R461): registers, ENABLE, and PCTL, which a streaming port takes at its frame
boundary. -/
def State.loadPortSet (s : State) (p : Port) (c : CfgSet) : State :=
  let s := s.loadPort p c
  let lk := LK.LKCTL (.hp p)
  let s := (s.loadReg c 1 p (lk - 0x4000 * p.val) lk).setFld (LK.LKCTL_ENABLE (.hp p)) (b2n (CfgSet.portEnabled c p))
  let v := (CfgSet.word c 1 p (HP.PCTL 0)).toNat
  let s := s.setPctl p v
  s.linkEnable (.hp p) (CfgSet.portEnabled c p)

/-- The expected head of a READY port compared again under a new set (R139, R468). -/
def State.recheckHead (s : State) (p : Nat) : State :=
  if s.pstate p ≠ psReady then s
  else
    let bad := !expectedGood (CfgSet.expected (s.setFor p) p) (s.port p).desc
    let was := (s.port p).mismatch
    let s := s.setPort p { s.port p with mismatch := bad }
    if bad && !was then ((s.report 0x2017 p 0).hpIntr p 4 psReady).refuseReason p 5
    else if was && !bad then (s.endReasons p [5]).queueInit p
    else s

/-- The lattices' registers loaded, with LATSTAT.DEFINED (R278). -/
def State.loadLattice (s : State) (c : CfgSet) (n : Nat) : State :=
  let base := 0xF01000 + 0x1000 * n
  let offs := s.heldOffsets base 0x1000 ++ CfgSet.offsets c 4 n
  let s := offs.foldl (fun s o => s.loadReg c 4 n (0xF01000 + o) (base + o)) s
  s.setFld LAT.LATSTAT_DEFINED (withBit (s.fld LAT.LATSTAT_DEFINED) n (CfgSet.latDefined c n))

/-- System fields taken from a set: DCTL, the SYNC pins, and pairing (R64, R100, R468, R480). -/
def State.loadSystem (s : State) (c : CfgSet) : State :=
  let offs := s.heldOffsets 0x30000 0x1000 ++ CfgSet.offsets c 7 0
  let s := offs.foldl (fun s o => if o = TSU.DCTL - 0x30000 ∨ (TSU.SYNC 0 - 0x30000 ≤ o ∧ o < TSU.SYNC 15 + 12 - 0x30000) then
    s.loadReg c 7 0 (0x30000 + o) (0x30000 + o) else s) s
  let s := s.timePins
  let pairs := CfgSet.pairEn c && s.dev != 0
  let s := s.setFld PEER.PSTAT_DEV s.dev
  let s := if s.domainOn .peer then s.linkEnable .peer pairs else s.setFld (LK.LKCTL_ENABLE .peer) (b2n pairs)
  if !pairs then s.setPrState prSolo else if s.prState = prSolo then s.setPrState prLinking else s

/-- Streams of a port that its new set no longer opens close once their frames have ended (R303). -/
def State.closeOld (s : State) (p : Nat) (c : CfgSet) : List Nat → State
  | [] => s
  | k :: r =>
    let sid := sidOf p k
    let x := s.stream sid
    let on := CfgSet.camera c p && CfgSet.streamOn c p k
    let s := if x.opened && !on then s.setStream sid { x with closing := true }
      else if on then s.setStream sid { x with closing := false } else s
    s.closeOld p c r

/-! ## The steps of a flip (R467 to R471) -/

def State.setCfg (s : State) (c : Cfg) : State := { s with cfg := c }

/-- Cameras that switch at their frame boundaries: the streaming ones (R468). -/
def State.streamingPorts (s : State) : List Nat := (List.range 192).filter fun p => s.pstate p == psStreaming

/-- A port that has switched (R468): its part of the new set is loaded. -/
def State.portSwitched (s : State) (p : Port) : State :=
  let s := s.moveObjects (objectsOf p.val)
  let s := s.setCfg { s.cfg with switched := p.val :: s.cfg.switched, kept := s.cfg.kept.drop p.val }
  let c := s.cfg.shadow
  let s := if s.pstate p.val = psStreaming then s else s.loadPortSet p c
  let x := s.port p.val
  let s := if CfgSet.initList c p.val = CfgSet.initList s.cfg.active p.val then s else s.setPort p.val { x with inited := false }
  ((s.closeOld p.val c (List.range 6)).settle p.val).recheckHead p.val

/-- Cameras still to switch, shown in CFGSTAT (R475). -/
def State.showFlip (s : State) (f : Flip) : State :=
  (s.setCfg { s.cfg with flip := some f }).setFlds [(GLB.CFGSTAT_SWITCHED, f.done.length), (GLB.CFGSTAT_TOTAL, f.done.length + f.todo.length)]

/-- The result of a completed flip (R452). -/
def flipResult (gen epoch tdone : Nat) : List Byte := layout [(4, gen), (8, epoch), (8, tdone)]

/-- The final response of a flip, once both devices of a pair are done (R471, R503). -/
def State.flipAnswer (s : State) (f : Flip) : State :=
  let gen := s.fld GLB.CFGGEN_GEN
  let r := flipResult gen (f.epoch.getD 0) (max f.tdone f.peer)
  let s := s.setCfg { s.cfg with flip := none }
  let s := s.setFld GLB.CFGSTAT_PENDING 0
  if f.remote then s
  else
    match f.failed with
    | none => s.finish f.chan 0x0805 f.tag mbOk 0 r
    | some p => s.finish f.chan 0x0805 f.tag 0x0806 (0x02000000 + p) r

/-- The last camera has switched (R468): the sets are swapped, cameras whose program failed stay under the old one, and the
partner is told (R503); a flip admitted in DEGRADED reruns the assignment of slices (R529). -/
def State.flipDone (s : State) (f : Flip) : State :=
  let g := s.cfg
  let gen := s.fld GLB.CFGGEN_GEN
  let kept : Tbl (Nat × CfgSet) := match f.failed with
    | none => g.kept
    | some _ => ((List.range 192).filter fun p => !g.switched.contains p && s.pstate p == psStreaming).foldl
        (fun (t : Tbl (Nat × CfgSet)) p => t.set p (s.genFor p, (s.setFor p).ofPort p)) g.kept
  let f := { f with tdone := s.now }
  let s := s.setCfg { g with active := g.shadow, shadow := g.active, switched := [], kept := kept, next := [], flip := some f }
  let s := s.setFlds [(GLB.CFGSTAT_SWITCHING, 0), (GLB.CFGSTAT_DIRTY, 0), (GLB.CFGSTAT_SWITCHED, 0), (GLB.CFGSTAT_TOTAL, 0), (GLB.CFGGEN_GEN, gen)]
  let s := (s.allocFifos s.cfg.active).capacityChanged
  let s := if f.degraded && s.mode == Mode.degraded then s.reassign else s
  let s := if s.mirrors then s.pairCtl 0x0A 0 s.pair.num 0 [f.tdone] else s
  if s.mirrors && f.wait = 3 then s else s.flipAnswer f

/-- A flip completes once its epoch is reached and no camera is left (R468). -/
def State.flipCheck (s : State) : State :=
  match s.cfg.flip with
  | some f => if f.reached && f.todo == [] && f.tdone == 0 then s.flipDone f else s
  | none => s

/-- Every port that is not streaming switches at the epoch (R468). -/
def State.switchIdle (s : State) : List Port → State
  | [] => s
  | p :: r => (if s.pstate p.val = psStreaming then s else s.portSwitched p).switchIdle r

/-- A lattice's state. -/
def State.lat (s : State) (n : Nat) : LatSt := s.lats.get n {}

/-- A lattice stream whose lattice is no longer defined closes after its last frame (R303). -/
def State.latSettle (s : State) (n : Nat) : State :=
  let x := s.stream (latSid n)
  let l := s.lat n
  if x.closing && l.frames.isEmpty && l.busy.isNone then
    let s := s.closeStream (latSid n) (s.fld GLB.CFGGEN_GEN)
    s.setStream (latSid n) { s.stream (latSid n) with closing := false, opened := false, fmt := [] }
  else s

/-- Ports that the new set first makes members of a group: their triggering begins at the epoch (R157). -/
def State.firstMembers (s : State) (epoch : Nat) : State :=
  let new := (List.range 192).filter fun p => (CfgSet.groupOf s.cfg.active p).isNone && (CfgSet.groupOf s.cfg.shadow p).isSome
  { s with tsu := { s.tsu with trigFrom := new.foldl (fun (t : Tbl Nat) p => t.set p (max epoch (t.get p 0))) s.tsu.trigFrom } }

/-- The epoch (R460, R467, R468): the generation rises, the system fields, lattices and idle ports switch. -/
def State.flipReach (s : State) (epoch : Nat) : State :=
  match s.cfg.flip with
  | none => s
  | some f =>
    let f := { f with epoch := some epoch, reached := true, todo := s.streamingPorts, done := [] }
    let s := (s.moveObjects ((List.range 8).map (0x40000 + ·))).firstMembers epoch
    let s := s.setFlds [(GLB.CFGGEN_GEN, if f.remote then f.gen else (s.fld GLB.CFGGEN_GEN + 1) % 2 ^ 32), (GLB.CFGSTAT_SWITCHING, 1)]
    let s := s.showFlip f
    let s := s.loadSystem s.cfg.shadow
    let s := (List.range 8).foldl (fun s n => s.loadLattice s.cfg.shadow n) s
    let s := (List.range 8).foldl (fun s n =>
      if (s.stream (latSid n)).opened && !CfgSet.latDefined s.cfg.shadow n then (s.setStream (latSid n) { s.stream (latSid n) with closing := true }).latSettle n else s) s
    (s.switchIdle (List.finRange 192)).flipCheck

/-- The pace port has reached the epoch: the partner is told (R467, R503). -/
def State.flipPaced (s : State) (p : Nat) : State :=
  match s.cfg.flip with
  | some f =>
    if !f.reached && !f.remote && f.wait != 1 && f.pace == some p && f.epoch == none then
      let s := s.flipReach s.now
      if s.mirrors then s.pairCtl 9 0 s.pair.num 0 [s.now] else s
    else s
  | none => s

/-- A camera counts as switched (R468). -/
def State.flipOne (s : State) (p : Nat) : State :=
  match s.cfg.flip with
  | none => s
  | some f =>
    if f.todo.contains p then (s.showFlip { f with todo := f.todo.filter (· != p), done := p :: f.done, moves := f.moves.filter fun m => m.1 != p }).flipCheck
    else s

/-- A streaming camera switches at its frame boundary (R468, R469): its port with PCTL, pipeline and streams, and the program that
the set names after a fallback (R359). One that the set
disables discards its queue, lets its slice go and stays READY, or loses its link with its port (R20, R137, R330). -/
def State.switchCamera (s : State) (p : Port) : State :=
  let s := s.portSwitched p
  let c := s.cfg.shadow
  let m := s.camOf p.val
  let s := s.setCam p.val { m with fallback := false, traps := if m.fallback then [] else m.traps }
  let s := (s.loadPort p.val c).setPctl p.val (CfgSet.word c 1 p (HP.PCTL 0)).toNat
  if CfgSet.camera c p.val then
    match s.sliceOf p.val with
    | some sl => s.loadSlice sl p.val c
    | none => s
  else
    let s := ((s.pqDiscard p.val fun _ => true).dropMove p.val).release p.val
    (s.setPstate p.val psReady).linkEnable (.hp p) (CfgSet.portEnabled c p)

/-- A port that leaves STREAMING counts as switched, and ends the wait for a pace port (R467, R468). -/
def State.flipLeaves (s : State) (p : Nat) : State :=
  match s.cfg.flip with
  | none => s
  | some f =>
    if f.reached then
      if f.todo.contains p then
        let s := s.setCfg { s.cfg with switched := p :: s.cfg.switched }
        s.flipOne p
      else s
    else s.flipPaced p

/-- Ports that count as switched because the pixel path stops (R438, R468). -/
def State.flipLeavesAll (s : State) : List Nat → State
  | [] => s
  | p :: r => (s.flipLeaves p).flipLeavesAll r

end Sys2Proof.Machine
end

