-- ==== Sys2Proof/Machine/RotOps.lean ====
section
/-!
DEFINITION. Slices that fail: repairs, what happens when no spare is left, and how cameras come back
(spec/18_rotation_bist.md R518 to R529).
-/
namespace Sys2Proof.Machine

def State.setRot (s : State) (r : Rot) : State := { s with rot := r }

/-! ## Sharing and drops (R526 to R529) -/

/-- Two cameras share the slice of a port (R190, R528). -/
def State.sharing (s : State) (p : Nat) : Bool :=
  match s.sliceOf p with
  | some sl => s.fld (XBAR.RMAP_PORT2 sl) != 0xFF
  | none => false

/-! ## The throttle (R651, R652) -/

/-- The pixel budget in Mpix/s: the throttle step's, held to PIXCAP (R651). -/
def State.pixelBudget (s : State) (c : CfgSet) : Nat :=
  min (CfgSet.pixcap c) ([48000, 40000, 32000, 24000, 16000].getD (s.fld CLK.THRSTAT_STEP) 16000)

/-- Cameras marked, lowest rank first, until the load fits: each takes half its rate away (R652). -/
def markDown (rate : Nat → Rat) (budget : Rat) (v : Nat) : List Nat → Tbl Nat × Rat → Tbl Nat × Rat
  | [], x => x
  | p :: r, (t, load) => if load ≤ budget then (t, load) else markDown rate budget v r (t.set p v, load - rate p / 2)

/-- The throttle reassigned over the cameras served: HALVED, then WITHHELD, shown in THRMAP and THRCNT.NCAM (R652). -/
def State.throttle (s : State) : State :=
  let served := (List.range 192).filter fun p => (s.sliceOf p).isSome
  let rate := fun p => CfgSet.pixelRate (s.setFor p) p / (if s.sharing p then 2000000 else 1000000)
  let rest := served.filter fun p => !s.ranked.contains p
  let low := rest.reverse ++ (s.ranked.filter served.contains).reverse
  let budget := s.pixelBudget s.cfg.active
  let q : Rat := ((budget : Nat) : Int)
  let m := markDown rate q 2 low (markDown rate q 1 low ([], sumQ (served.map rate)))
  let s := (List.range 192).foldl (fun s p =>
    let c := s.camOf p
    let v := m.1.get p 0
    if c.mark = v then s else s.setCam p { c with mark := v, odd := false }) s
  let word := fun n => leNat ((List.range 4).map fun k => BitVec.ofNat 8 ((List.range 8).foldl (fun a b => a + if m.1.has (32 * n + 8 * k + b) then 2 ^ b else 0) 0))
  s.setFlds ([(CLK.THRBUD_BUDGET, budget), (CLK.THRCNT_NCAM, m.1.length)] ++ (List.range 6).map fun n => (CLK.THRMAP_THR n, word n))

/-- DEGRADED entered from RUN or PAIRED at the first boundary at which an assignment takes effect; not in an orderly exit (R39,
R49, R526). -/
def State.enterDegraded (s : State) : State :=
  if (s.mode == Mode.run || s.mode == Mode.paired) && !s.exiting then s.setMode .degraded 0x0B (s.mode == Mode.paired) else s

/-- DEGRADED left once every camera in READY or STREAMING has a slice of its own again (R39, R529). -/
def State.leaveDegraded (s : State) : State :=
  let owns := fun p => !(s.camOf p).dropped && (s.camOf p).plan.isNone && (s.pstate p != psStreaming || (s.sliceOf p).isSome) && !s.sharing p
  if s.mode == Mode.degraded && s.ranked.all owns then s.setMode s.sys.degradedFrom 0x0C (s.sys.degradedFrom == Mode.paired) else s

/-- A slice that has become free in DEGRADED goes to the highest-ranked camera that is dropped or shares; a dropped camera is
triggered again from the first target TRIGLAT + LEAD ahead (R529). -/
def State.giveBack (s : State) : State :=
  if s.mode != Mode.degraded then s
  else
    match s.ranked.find? fun p => ((s.camOf p).dropped || s.sharing p) && (s.camOf p).plan.isNone with
    | none => s.leaveDegraded
    | some p =>
      match s.claim clRepair with
      | none => s
      | some (sl, s) =>
        let c := s.camOf p
        let s := { s with tsu := { s.tsu with trigFrom := s.tsu.trigFrom.set p s.now } }
        s.setCam p { c with plan := some sl, dropped := false }

/-! ## Retirement (R513, R523) -/

/-- A slice retired, with slice-bist-fail's segment field and MISR (R513, R519, R523): the crossbar drops it. -/
def State.retire (s : State) (sl seg misr : Nat) : State :=
  let s := { s with keeper := { s.keeper with retired := if s.keeper.retired.contains sl then s.keeper.retired else sl :: s.keeper.retired } }
  let s := s.setFlds [(SL.PRVSTAT_SSTATE sl, ssRetired), (SL.PRVSTAT_LASTSEG sl, seg), (SL.PRVSTAT_RESULT sl, 3), (SL.PRVSTAT_FIRST sl, 0)]
  let s := s.setRot { s.rot with windows := s.rot.windows.filter (fun w => w.slice != sl), first := s.rot.first.filter (· != sl),
                                 waits := s.rot.waits.filter fun w => w.1 != sl }
  (s.report 0x3061 sl (packArg [(16, sl), (16, seg), (32, misr)])).intrEvent (0x100 + sl) 2 0

/-! ## Repairs (R519 to R521) -/

/-- The triggers of R519 as slice-failed names them. -/
def trHang : Nat := 1
def trSram : Nat := 3
def trEngine : Nat := 4

/-- A window that follows a repair: at once after the camera has moved (R519). -/
def State.addWindow (s : State) (w : Window) : State :=
  if s.rot.windows.any fun x => x.slice == w.slice then s else s.setRot { s.rot with windows := s.rot.windows ++ [w] }

/-- The frames of a camera that a failed slice had not finished are lost (R520): abandoned where begun, accounted by NOTICE and
by a header-only record. -/
def State.loseFrames (s : State) (p sl : Nat) : State :=
  let lose := fun f : Frame => if f.slice = some sl ∧ f.skipWhy = 0 ∧ f.finished p = false then { f with skipWhy := 9, lost := true } else f
  let g := s.ingest p
  let s := s.setIngest p { g with frame := g.frame.map lose }
  let c := s.camOf p
  let hit := (c.frames.filter fun f => f.slice == some sl && f.skipWhy == 0 && !f.finished p).map (·.fn)
  let s := s.setCam p { c with frames := c.frames.map lose }
  let s := (List.range 4).foldl (fun s k =>
    let x := s.stream (sidOf p k)
    s.setStream (sidOf p k) { x with storing := none }) s
  let s := (s.camOf p).frames.reverse.foldl (fun s f => if hit.contains f.fn && !f.statsDone then s.skipStats p f else s) s
  s.settle p

/-- An immediate repair of a slice that hangs (R519, R520): a spare is claimed and takes the camera at the first boundary at
least 300 µs ahead; a slice that hangs again within 24 h is retired without a window. -/
def State.immediateRepair (s : State) (p sl : Nat) : State :=
  let s := (s.report 0x3063 sl (packArg [(16, sl), (16, trHang)])).bump XBAR.ROTCNT1_REPAIRS 1
  let s := (s.dropMove p).loseFrames p sl
  let again := s.rot.hung.has sl && decide (s.clock ≤ s.rot.hung.get sl 0 + 86400000000000)
  let s := if again then (s.connect p 0xFF).retire sl 0x3D 0 else s.addWindow { slice := sl, after := some trHang }
  match s.claim clRepair with
  | some (y, s) =>
    let s := s.setCam p { s.camOf p with repairAt := some (s.now + 300000), plan := some y }
    (s.mapNext p y).setSstate y ssLoading
  | none => (s.setCam p { s.camOf p with repairAt := some (s.now + 300000) }).noSpare p

/-- A slice that fails in an orderly exit: its frames are lost, it is retired, and the exit goes on (R49, R520). -/
def State.exitRepair (s : State) (p sl : Nat) : State :=
  let s := (s.report 0x3063 sl (packArg [(16, sl), (16, trHang)])).bump XBAR.ROTCNT1_REPAIRS 1
  (((s.dropMove p).loseFrames p sl).connect p 0xFF).retire sl 0x3D 0

/-- A deferred repair begins where a spare can be claimed for it (R521). -/
def State.tryDeferred (s : State) (sl : Nat) : State :=
  match s.portOf sl with
  | none => s
  | some p =>
    if (s.camOf p).move.isSome ∨ s.mode == Mode.degraded then s
    else
      match s.claim clDeferred with
      | none => s
      | some (y, s) => (s.setRot { s.rot with waits := s.rot.waits.filter fun w => w.1 != sl }).planMove p y mvDeferred

/-- Deferred repairs that wait for a spare, in order (R509, R521). -/
def State.serveWaits (s : State) : State := (s.rot.waits.foldl (fun s w => s.tryDeferred w.1) s).pausedCheck

/-- A deferred repair asked for (R519, R521). -/
def State.deferRepair (s : State) (sl trigger : Nat) : State :=
  if s.rot.waits.any (fun w => w.1 == sl) ∨ (s.rot.windows.any fun w => w.slice == sl) ∨ s.sstate sl ≠ ssInService then s
  else
    let s := (s.report 0x3063 sl (packArg [(16, sl), (16, trigger)])).bump XBAR.ROTCNT1_REPAIRS 1
    let s := s.addWindow { slice := sl, after := some trigger }
    (s.setRot { s.rot with waits := s.rot.waits ++ [(sl, trigger)] }).serveWaits

/-- The camera of a slice has moved away: a window that waits for it drains (R510, R519). -/
def State.windowDrain (s : State) (sl : Nat) : State :=
  s.setRot { s.rot with windows := s.rot.windows.map fun w => if w.slice = sl ∧ w.stage = 0 then { w with stage := 1 } else w }

end Sys2Proof.Machine
end

