-- ==== Sys2Proof/Machine/Takeovers.lean ====
section
/-!
DEFINITION. Takeover and the ring start of a camera: its state record read back, the frames of the partner accounted for, and
the slice claimed for it (spec/17_pairing.md R489, R496 to R501, spec/11_stats_params.md R331).
-/
namespace Sys2Proof.Machine

/-- A MASTER command that claims a head with an epoch (R115, R121). -/
def State.claimMaster (s : State) (p epoch : Nat) : State :=
  s.bcQueue p ⟨bcMaster, epoch % 2 ^ 32 + 2 ^ 32, [], 2, .master⟩

/-! ## Records read back (R490, R331) -/

def recFn (r : List Byte) : Nat := fieldAt r 8 4

/-- The queue entries of a record, with their DISPATCHED marks (R331, R490). -/
def recQueue (r : List Byte) : List PqEntry :=
  let used := fieldAt r 0x100 16
  let sent := fieldAt r 0x110 16
  (List.range 128).filterMap fun i =>
    if bit used i then some { pqDecode (bytesAt r (0x200 + 16 * i) 16) with seq := i, sent := bit sent i } else none

/-- The highest FN delivered on stream k of a port as the partner reported it (R493). -/
def State.doneFn (s : State) (p k : Nat) : Option Nat :=
  let d := s.pair.dones
  if d.has (sidOf p k) then some (d.get (sidOf p k) 0) else if d.has (8 * p + 7) then some (d.get (8 * p + 7) 0) else none

/-- The camera, ingest and stream state of a record taken over, streams numbered on from the last frame delivered (R26, R296,
R331, R496). -/
def State.restore (s : State) (p : Nat) (r : List Byte) : State :=
  let c := s.camOf p
  let q := recQueue r
  let ends := (q.filter fun e => e.gend && e.grp != 0).map fun e => (e.grp, e.tfn)
  let opt := fun v d : Nat => if v = d then none else some v
  let s := s.setCam p { c with
    queue := q, seq := 128, closed := ends, moved := [], warm := fieldAt r 0x27 1,
    bias := (signed 16 (fieldAt r 0x2C 2), signed 16 (fieldAt r 0x2E 2)),
    motion := some (signed 16 (fieldAt r 0x30 2), signed 16 (fieldAt r 0x32 2)),
    gain := opt (fieldAt r 0x34 2) 0x100, hgain := opt (fieldAt r 0x36 2) 0x4000, expns := opt (fieldAt r 0x38 4) 0,
    persist := if bit (fieldAt r 0x26 1) 1 then bytesAt r 0xA00 1024 else [], persVer := fieldAt r 0x20 4,
    losses := withBit 0 3 true, tnrRan := true, refBuf := none }
  let s := s.setPort p { s.port p with mepoch := max (s.port p).mepoch (fieldAt r 0x18 4) }
  let s := (List.range 5).foldl (fun s k =>
    let d := (s.doneFn p k).getD (recFn r)
    let n := (fieldAt r (0x40 + 4 * k) 4 + (d + 1 + 2 ^ 32 - recFn r) % 2 ^ 32) % 2 ^ 32
    s.setStream (sidOf p k) { s.stream (sidOf p k) with fseq := n, lastFn := d }) s
  s.setStream (sidOf p 5) { s.stream (sidOf p 5) with fseq := fieldAt r 0x54 4 }

/-! ## Claims of a takeover (R496, R509) -/

/-- A planned move loses its spare to a takeover: it is deferred to its camera's next frame boundary (R25). -/
def State.loseSpare (s : State) (p : Nat) : State :=
  match (s.camOf p).move with
  | none => s
  | some (dest, why) =>
    let c := s.camOf p
    let s := (s.setCam p { c with move := none, moveTry := 0, moveAt := none, moveReady := false, moveLost := some why }).mapNext p (s.fld (XBAR.MAP_CUR p))
    let s := ((s.unclaim dest).idleEngine dest).setSstate dest ssSpare
    (s.report 0x1001 p ((s.sliceOf p).getD 0xFF)).bump XBAR.ROTCNT1_DEFERRED 1

/-- The destination that a flip holds for the move of a camera changed; none where the move is abandoned and the flip fails for
that camera (R471). -/
def State.flipDest (s : State) (p : Nat) (dest : Option Nat) : State :=
  match s.cfg.flip with
  | none => s
  | some f =>
    let f := match dest with
      | some y => { f with moves := f.moves.map fun m => if m.1 = p then (p, y) else m }
      | none => { f with moves := f.moves.filter fun m => m.1 != p, todo := f.todo.filter (· != p), failed := some (f.failed.getD p) }
    { s with cfg := { s.cfg with flip := some f } }

/-- A move that has lost its spare takes another free one at its camera's boundary; with none free it is abandoned (R25, R518). -/
def State.retake (s : State) (p : Nat) : State :=
  match (s.camOf p).moveLost with
  | none => s
  | some why =>
    let s := s.setCam p { s.camOf p with moveLost := none }
    match s.claim (if why = mvProving then clProving else if why = mvDeferred then clDeferred else clFlip) with
    | some (y, s) => (if why = mvProgram then s.flipDest p (some y) else s).planMove p y why
    | none =>
      match s.sliceOf p with
      | none => s
      | some x =>
        if why = mvDeferred then s.setRot { s.rot with waits := s.rot.waits ++ [(x, trSram)] }
        else if why = mvProgram then s.flipDest p none
        else s.setRot { s.rot with windows := s.rot.windows.filter fun w => w.slice != x || w.stage != 0 }

/-- A slice for a takeover: one reserved for standby, else a free spare, else the spare of a planned move (R496, R509). Where several
cameras have planned moves the rules do not say which one loses its spare: the model takes that of the lowest port (DESIGN CHOICE,
log entry 202). -/
def State.claimTakeover (s : State) (sids : Nat) : Option (Nat × State) :=
  match (List.range 208).find? fun sl => s.sstate sl == ssSpare && s.flag (SL.PRVSTAT_RSV sl) with
  | some sl => some (sl, s.setFld (SL.PRVSTAT_RSV sl) 0)
  | none =>
    match s.claim clTakeover with
    | some r => some r
    | none =>
      match s.cams.find? fun (e : Nat × Cam) => e.2.move.isSome && e.1 != sids with
      | some (q, c) =>
        let dest := (c.move.map (·.1)).getD 208
        let s := s.loseSpare q
        if s.sstate dest = ssSpare then some (dest, s) else none
      | none => none

/-! ## Accounting for the partner's frames (R496) -/

/-- A frame whose number the partner had not delivered, known only by its number (R496). -/
def missingFrame (fn : Nat) (f : Frame) : Frame :=
  { f with fn := fn, lines := [], lost := true, skipWhy := 1, sflags := 2, vlines := 0, closed := true, slice := none, ended := [],
           fseqs := [], statsDone := false, flags := 0, quit := [], ring := false }

/-- NOTICEs for the n frame numbers from `a` on stream k (R496). -/
def State.noticeRun (s : State) (p k : Nat) (f : Frame) : Nat → Nat → State
  | 0, _ => s
  | n + 1, a =>
    let sid := sidOf p k
    let x := missingFrame a f
    let s := s.announce sid x
    let s := s.notice p sid x (dropped 0) (withBit 2 12 (s.stream sid).fmtFirst)
    (s.setStream sid { s.stream sid with fmtFirst := false }).noticeRun p k f n ((a + 1) % 2 ^ 32)

/-- The first number the partner had not delivered on stream k, and how many lie from it to before `upto`. -/
def State.gapOf (s : State) (p k upto : Nat) (r : List Byte) : Nat × Nat :=
  let a := ((s.doneFn p k).getD (recFn r) + 1) % 2 ^ 32
  (a, (fnAhead upto a).toNat)

/-- Header-only records with TAKEOVER for the n frame numbers from `a` on the statistics stream (R318). -/
def State.recordRun (s : State) (p : Nat) (f : Frame) (x : Nat × Nat) : State :=
  (List.range x.2).foldl (fun s i => s.statRecord p (missingFrame ((x.1 + i) % 2 ^ 32) f) (dropped 0) 2) s

/-- The image streams of a port with the first number the partner had not delivered and how many lie before `upto`. -/
def State.gaps (s : State) (p upto : Nat) (r : List Byte) : List (Nat × Nat × Nat) :=
  ((List.range 4).filter (CfgSet.streamOn (s.setFor p) p)).map fun k =>
    (k, s.gapOf p k upto r)

/-- NOTICEs for every gap. -/
def State.noticeGaps (s : State) (p : Nat) (f : Frame) : List (Nat × Nat × Nat) → State
  | [] => s
  | (k, a, n) :: r => (s.noticeRun p k f n a).noticeGaps p f r

/-- A frame of the reserve ring replayed through a slice (R26, R496, R497). -/
def replayed (f : Frame) (sl : Nat) : Frame :=
  { f with ring := false, replay := true, slice := some sl, skipWhy := 0, sflags := withBit (withBit f.sflags 1 true) 0 true,
           tnr := { n := 0, cause := 3 }, ended := [], fseqs := [], statsDone := false, latched := [], pipe := [] }

/-! ## The takeover at a boundary (R496 to R499) -/

/-- The streams that a taken camera opens announce TAKEOVER or HANDOVER with their first item (R304). -/
def State.takeStreams (s : State) (p cause : Nat) : State :=
  (List.range 6).foldl (fun s k =>
    let sid := sidOf p k
    if CfgSet.streamOn (s.setFor p) p k then
      let x := s.stream sid
      s.setStream sid (if k < 4 then { x with taken := some cause, timeStep := cause == 3 && s.pair.skewTaken } else { x with opened := true })
    else s) s

/-- Every camera of the partner has been taken over (R498): PAIRED, or DEGRADED's pair, is left. -/
def State.takenAll (s : State) : State :=
  if s.pair.taking != [] then s
  else if s.mode == Mode.paired then s.setMode .run 0x0D false
  else
    let s := if s.mode == Mode.degraded then { s with sys := { s.sys with degradedFrom := .run } } else s
    s.setFld GLB.MODE_INPAIR 0

/-- A lattice of a camera taken over: frames already emitted by the partner go, and those whose deadline has not passed wait one
PERIOD longer for replayed frames (R276). -/
def State.latTakeover (s : State) (p : Nat) : State :=
  let one := fun (n : Nat) (x : LatSt) =>
    let here := fun f : LatFrame => (List.range 32).any fun t => CfgSet.fld f.set 4 n (LTS.CPORT_PORT 0 t) == p
    let keep := x.frames.filter fun f => x.mirrored.all fun m => decide (0 < fnAhead f.lfn m)
    { x with frames := keep.map fun f =>
        if here f && !f.tkover && decide (s.now < f.dead) then
          let per := CfgSet.grpPeriod f.set (CfgSet.fld f.set 4 n (LT.LCTL_GROUP 0))
          { f with dead := f.dead + per, limit := f.limit + per, tkover := true }
        else f }
  { s with lats := s.lats.map fun (e : Nat × LatSt) => (e.1, one e.1 e.2) }

/-- The slice that a takeover gets, if any, and the state with it claimed (R496). -/
def State.tryTakeover (s : State) (p : Nat) : Option Nat × State :=
  match s.claimTakeover p with
  | some (sl, s) => (some sl, s)
  | none => (none, s)

/-- The takeover of a camera at its boundary G, before frame g opens there (R496, R499): the frame `g0` gives its geometry. -/
def State.takeover (s : State) (p g : Nat) (g0 : Frame) : State :=
  let s := s.setPair { s.pair with taking := s.pair.taking.filter (· != p) }
  let s := ((s.setPrimary p true).setArmed p false).bump PEER.PCNT0_TAKEOVERS 1
  let s := s.setPort p { s.port p with deposed := false }
  let (sl, s) := s.tryTakeover p
  let recs := s.pair.recs.get p []
  let s := s.takeStreams p 3
  let last := (g + 2 ^ 32 - 1) % 2 ^ 32
  let held := (s.pair.ring.get p []).find? fun f => f.fn == last
  let two := recs.find? fun r => recFn r == (g + 2 ^ 32 - 2) % 2 ^ 32
  let s := match recs.head? with
    | none => (s.report 0x0A11 p p).setCam p { s.camOf p with losses := withBit 0 3 true, tnrRan := true }
    | some r =>
      let behind := (List.range 4).any fun k => CfgSet.streamOn (s.setFor p) p k && (s.doneFn p k) != some last
      let (from_, again) : List Byte × Option Frame := match held, two with
        | some f, some q => if behind && sl.isSome then (q, some f) else (r, none)
        | _, _ => (r, none)
      let s := s.restore p from_
      let gaps := s.gaps p (if again.isSome then last else g) from_
      let n := (gaps.map fun (x : Nat × Nat × Nat) => x.2.2).foldl max 0
      let s := ((s.noticeGaps p g0 gaps).recordRun p g0 (s.gapOf p 4 (if again.isSome then last else g) from_)).bump PEER.PCNT2_NOTICED n
      let s := if n = 0 then s else s.report 0x0A12 p (packArg [(16, p), (16, n)])
      match again, sl with
      | some f, some sl =>
        let f := replayed f sl
        let f := { f with ended := (List.range 4).filter fun k => s.doneFn p k == some last }
        let ring := (s.pair.ring.get p []).map fun (x : Frame) => if x.fn = f.fn then f else x
        (s.setPair { s.pair with ring := s.pair.ring.set p ring }).bump PEER.PCNT2_REPLAYED 1
      | _, _ => s
  let again := (s.pair.ring.get p []).any fun (x : Frame) => x.fn == last && x.replay
  let s := s.setPair { s.pair with runs := s.pair.runs.set p { handover := false, g := g, next := if again then last else g } }
  let s := match sl with
    | some sl => s.takeSlice p sl g 2 (s.setFor p)
    | none => s.noSpare p
  ((s.latTakeover p).peerIntr 3 p).takenAll

/-- The boundary H of a handover to this device (R501): mastership and a slice are claimed, and the ring start waits for the
record of H − 1. -/
def State.handoverHere (s : State) (p h : Nat) : State :=
  let s := s.claimMaster p ((s.port p).mepoch + 1)
  let s := ((s.setPrimary p true).setArmed p false).takeStreams p 4
  let s := s.setPair { s.pair with handovers := s.pair.handovers.drop p, runs := s.pair.runs.set p { handover := true, g := h, next := h, ready := false } }
  match s.claimTakeover p with
  | some (sl, s) => s.takeSlice p sl h 2 (s.setFor p)
  | none => s.noSpare p

/-- A handover whose record has not come by the boundary of H + 1: the camera is treated as taken over at H (R501). -/
def State.handoverLate (s : State) (p : Nat) (g0 : Frame) : State :=
  let r := s.pair.runs.get p { handover := true, g := 0, next := 0 }
  let s := s.setPair { s.pair with runs := s.pair.runs.set p { r with ready := true } }
  match (s.pair.recs.get p []).head? with
  | none => s.report 0x0A11 p p
  | some x =>
    let s := s.restore p x
    let gaps := s.gaps p r.g x
    let n := (gaps.map fun (y : Nat × Nat × Nat) => y.2.2).foldl max 0
    let s := ((s.noticeGaps p g0 gaps).recordRun p g0 (s.gapOf p 4 r.g x)).bump PEER.PCNT2_NOTICED n
    if n = 0 then s else s.report 0x0A12 p (packArg [(16, p), (16, n)])

/-- The record of H − 1 taken for a handover whose ring start waits for it (R501). -/
def State.handoverRecord (s : State) (p : Nat) : State :=
  let r := s.pair.runs.get p { handover := true, g := 0, next := 0 }
  match (s.pair.recs.get p []).find? fun x => !r.ready && recFn x == (r.g + 2 ^ 32 - 1) % 2 ^ 32 with
  | some x => (s.restore p x).setPair { s.pair with runs := s.pair.runs.set p { r with ready := true } }
  | none => s

end Sys2Proof.Machine
end

