-- ==== Sys2Proof/Machine/Handovers.lean ====
section
/-!
DEFINITION. Orderly handover of cameras to the partner, and the mode changes and commands that wait for it
(spec/17_pairing.md R482, R501, spec/02_modes.md R43).
-/
namespace Sys2Proof.Machine

/-- The mode that a join or the leaving of the pair ends in. A device that has entered DEGRADED meanwhile stays there, in place
of the mode asked for (R34, R39, R45; log entry 217). -/
def State.arrive (s : State) (t : Trans) : State :=
  if s.mode == Mode.degraded && t.target.streaming then
    { s with sys := { s.sys with degradedFrom := t.target } }.setFlds [(GLB.MODE_BUSY, 0), (GLB.MODE_INPAIR, b2n (t.target == Mode.paired))]
  else s.setMode t.target t.cause (t.target == Mode.paired)

/-- A mode transition ended: the mode is entered and the command that asked for it answered with GLB.MODE (R38, R446). -/
def State.endTrans (s : State) (t : Trans) : State :=
  let s := { s with sys := { s.sys with trans := none } }
  let s := s.arrive t
  match t.chan with
  | some ch => s.finish ch 0x0103 t.tag mbOk 0 (leBytes 4 (s.reg GLB.MODE).toNat)
  | none => s

/-- A mode transition given up with an error: the mode is unchanged (R42, R43). -/
def State.failTrans (s : State) (status detail : Nat) : State :=
  match s.sys.trans with
  | none => s
  | some t =>
    let s := { s with sys := { s.sys with trans := none } }.setFld GLB.MODE_BUSY 0
    match t.chan with
    | some ch => s.finish ch 0x0103 t.tag status detail []
    | none => s

/-- A camera proposed to the partner from frame H, the first whose start is expected at least 2 ms ahead (R501). -/
def State.propose (s : State) (p h tries : Nat) : State :=
  let s := s.pairReq 5 0 h [p]
  s.setPair { s.pair with handovers := s.pair.handovers.set p { giver := true, h := h, tries := tries, req := s.pair.num } }

def State.giveCamera (s : State) (p : Nat) : State :=
  let soon := (s.ingest p).boundary + CfgSet.fperiod (s.setFor p) p < s.now + 2000000
  s.propose p ((s.fnOpen p + 1 + b2n soon) % 2 ^ 32) 0

/-- Handovers that this device still gives. -/
def State.giving (s : State) : Bool := s.pair.handovers.any fun (e : Nat × Handover) => e.2.giver

/-- This device has left PAIRED: its cameras are its own or its partner's no longer (R480, R482). -/
def State.leavePair (s : State) : State :=
  let s := s.pairCtl 4 0 s.pair.num 0 []
  let s := (s.setPair { s.pair with purpose := 0, handovers := [], runs := s.pair.runs, roles := none }).setPrState prLinking
  let s := s.setFld PEER.PSTAT_LEVEL 0
  let s := { s with memx := { s.memx with place := s.memx.place.filter fun (e : Nat × Nat × Nat) => e.1 / 65536 != 4 } }
  (List.range 6).foldl (fun s i => s.setFld (PEER.ARMED_ARMED i) 0) s

/-- A camera this device stands by for ends its own delivery at its boundary; one stood by for that has become unpaired is served
here from its boundary, with its head claimed (R477, R481). -/
def State.standbyTurn (s : State) (p fn : Nat) : State :=
  if s.pair.alone.contains p then
    let s := s.setPair { s.pair with alone := s.pair.alone.filter (· != p) }
    if (s.sliceOf p).isSome ∨ s.standby p then s
    else
      let s := s.claimMaster p ((s.port p).mepoch + 1)
      match s.claim clRepair with
      | some (sl, s) => s.takeSlice p sl fn 0 (s.setFor p)
      | none => s.noSpare p
  else if s.standby p ∧ (s.sliceOf p).isSome ∧ !s.pair.runs.has p then
    let s := (s.dropMove p).release p
    (List.range 6).foldl (fun s k =>
      let x := s.stream (sidOf p k)
      if x.opened then s.setStream (sidOf p k) { x with closing := true } else s) s
  else s

/-- What waits for the handovers goes on once none is left (R43, R453, R482). -/
def State.handoversDone (s : State) : State :=
  if s.giving then s
  else
    match s.pair.purpose with
    | 1 =>
      match s.pair.roles with
      | some (ch, tag, bad) =>
        (s.setPair { s.pair with purpose := 0, roles := none }).finish ch 0x0901 tag (if bad then 0x0902 else mbOk) 0 []
      | none => s
    | 2 =>
      let s := s.leavePair
      match s.sys.trans with
      | some t => s.endTrans t
      | none => s
    | 3 => s.leavePair
    | _ => s

/-- A handover given up: PAIR_ROLES ends with PAIR_PARTNER, a mode change with MODE_NOT_ADMITTED (R43, R501). -/
def State.handoverFail (s : State) (p : Nat) : State :=
  let s := s.setPair { s.pair with handovers := s.pair.handovers.drop p }
  if s.pair.purpose = 1 then
    (s.setPair { s.pair with roles := s.pair.roles.map fun (r : Nat × Nat × Bool) => (r.1, r.2.1, true) }).handoversDone
  else if s.pair.purpose = 2 ∨ s.pair.purpose = 3 then
    let s := s.setPair { s.pair with purpose := 0, handovers := s.pair.handovers.filter fun (e : Nat × Handover) => !e.2.giver }
    (s.setPrState prPaired).failTrans 0x0103 0
  else s

/-- The boundary of frame fn at the giver (R501): an accepted handover takes effect; one without its answer is proposed for the
next frame, three times in all. True where this device no longer serves the camera. -/
def State.handoverGive (s : State) (p fn : Nat) : State :=
  if !s.pair.handovers.has p then s
  else
    let x := s.pair.handovers.get p { giver := false, h := 0 }
    if !x.giver ∨ x.h ≠ fn then s
    else if x.accepted then
      let s := (s.setPair { s.pair with handovers := s.pair.handovers.drop p }).setPrimary p false
      let s := (s.dropMove p).release p
      let s := (List.range 6).foldl (fun s k => s.setStream (sidOf p k) { s.stream (sidOf p k) with closing := true, silent := true }) s
      ((s.bump PEER.PCNT0_HANDOVERS 1).peerIntr 4 p).handoversDone
    else if x.tries < 2 then s.propose p ((fn + 1) % 2 ^ 32) (x.tries + 1)
    else s.handoverFail p

/-- The boundary of frame fn at the taker of an accepted handover (R501). -/
def State.handoverTakes (s : State) (p fn : Nat) : Bool :=
  s.pair.handovers.has p
    && (let x := s.pair.handovers.get p { giver := true, h := 0 }
        !x.giver && x.accepted && x.h == fn)

end Sys2Proof.Machine
end

