-- ==== Sys2Proof/Machine/Boundary.lean ====
section
/-!
DEFINITION. The frame boundary: what a FRAME_START does, in the order of R25 and R188 (spec/06_ingest.md R162 to R174,
spec/04_heads.md R136 to R139, spec/07_noise.md R199 to R212, spec/09_geometry_lattice.md R249, R256,
spec/10_outputs.md R298, spec/12_slice_engines.md R353, R359, R364, R365, spec/16_config_sets.md R467 to R471,
spec/17_pairing.md R496 to R501, spec/18_rotation_bist.md R518 to R529).
-/
namespace Sys2Proof.Machine

/-! ## Frame numbers (R172, R173) -/

/-- HEAD-JUMP, HEAD-RESTART or neither for a counter, with the numbers skipped: (flag of INTEG, d). -/
def Ingest.jump (g : Ingest) (h : Nat) : Option Nat × Nat :=
  if !g.baseline then (none, 0)
  else
    let d := (h + 131072 - (g.lastH + 1)) % 65536
    if d = 0 then (none, 0) else if d < 32768 then (some igJump, d) else (some igRestart, d)

/-- The number of the next frame (R172). -/
def Ingest.nextFn (g : Ingest) (h : Nat) : Nat :=
  if !g.baseline then g.fnNext
  else
    match g.jump h with
    | (some 5, d) => (g.lastFN + 1 + d) % 2 ^ 32
    | _ => (g.lastFN + 1) % 2 ^ 32

/-- The frame number given, with JUMPS, its fault and what a jump or a restart does to the queue and the sensor (R172, R173,
R330). -/
def State.number (s : State) (p h : Nat) : State :=
  let g := s.ingest p
  let fn := g.nextFn h
  let j := g.jump h
  let s := s.setIngest p { g with lastH := h, lastFN := fn, baseline := true, fnNext := (fn + 1) % 2 ^ 32, boundary := s.now }
  match j with
  | (none, _) => s
  | (some b, d) =>
    let s := (s.bump (HP.ICNT3_JUMPS p) 1).report 0x2020 p (packArg [(16, p), (16, d)])
    if b = igJump then s.pqJump p fn d (s.camOf p).queue else s.queueInit p

/-! ## The frame as its header gives it (R111, R155, R164, R174, R177) -/

/-- The payload of a FRAME_START passes its CRC-32 (R111). -/
def startGood (r : List Crumb) : Bool :=
  let b := crumbsBytes r
  decide (3 ≤ r.length) && crc32 (bytesAt b 0 20) == fieldAt b 20 4

/-- A frame that opens at a port under a set (R162, R164, R174). -/
def State.newFrame (s : State) (p : Nat) (c : CfgSet) (h : Nat) (r : List Crumb) : Frame :=
  let g := s.ingest p
  let est := !startGood r
  let b := crumbsBytes r
  let expl := if est then 0 else fieldAt b 8 4
  let exps := if est then 0 else fieldAt b 12 4
  let t0 :=
    if !est then ((s.port p).toTsu (fieldAt b 0 8) + expl / 2) % 2 ^ 64
    else
      match CfgSet.groupOf c p, g.prev with
      | some _, some (t, false) => t + CfgSet.fperiod c p
      | _, _ => ((s.now : Int) - median g.lag).toNat
  let hdr := CfgSet.flag c 1 p (HP.INGFMT_HDR 0)
  let k := hdrRatio expl exps est
  let fl := if est then 2 ^ igTimeEst else 0
  let fl := if hdr && k.2 then withBit fl igRatio true else fl
  let fl := if g.orphans then withBit fl igOrphans true else fl
  { fn := g.lastFN, hf := bitsOf h 23 8, skip := 0, flags := fl, gen := s.genFor p,
    width := CfgSet.fld c 1 p (HP.INGGEOM_WIDTH 0), height := CfgSet.fld c 1 p (HP.INGGEOM_HEIGHT 0),
    dt := CfgSet.fld c 1 p (HP.INGFMT_DT 0), hdr := hdr, stagger := max 1 (CfgSet.fld c 1 p (HP.INGFMT_STAGGER 0)),
    fillMode := CfgSet.flag c 1 p (HP.INGFMT_FILLMODE 0), fillV := CfgSet.fld c 1 p (HP.INGFILL_FILLV 0),
    arrival := s.now, tfirst := t0, linet := if est then 256 * CfgSet.fld c 1 p (HP.INGLT_LTIME 0) else fieldAt b 16 3,
    expl := expl, exps := exps, nlines := bitsOf h 37 24, timeEst := est, k12 := k.1, fstart := r.take 3,
    set := CfgSet.ofPort c p, planes := CfgSet.wplanes c p, serial := s.serial p }

/-! ## Attach (R139, R195, R218, R223) -/

/-- LENS of a head differs from the mesh of the set: its mesh CRC-32 against the CRC-32 of the set's mesh. A set holds no Mesh ID
to compare (R461; DESIGN CHOICE, log entry 194). -/
def State.lensDiffers (s : State) (p : Nat) : Bool :=
  let m := CfgSet.item (s.setFor p) 2 p 0x8004 []
  m != [] && s.desc p 0x1C4 4 != crc32 m

/-- C-class reports of a head's calibration at attach (R139, R195, R218, R223). -/
def State.attachChecks (s : State) (p : Nat) : State :=
  let c := s.setFor p
  let d := (s.port p).desc
  let i := s.slInst p
  let s := if s.lensDiffers p then s.report 0x2018 p 0 else s
  let s := if sizeMatches c p d then s else s.report 0x3010 i 1
  let s := if !CfgSet.flag c 2 p (SL.CLRCTL_SHDSRC 0) && (shadingMesh c p d).isNone then s.report 0x3010 i 2 else s
  if (noiseRows (modelTable c p d)).isEmpty then s.report 0x3001 i p else s

/-- A checked head attached at its first frame start (R139, R172): the port streams, its conditions end, and a slice is claimed
unless the camera stands by. With its streams open already the head is a new or a returned one, else they start (R200). -/
def State.attach (s : State) (p : Nat) : State :=
  let s := s.setPstate p psStreaming
  let s := s.setIngest p { s.ingest p with baseline := false }
  let s := s.endReasons p [1, 2, 3, 4, 5, 6]
  let s := if (s.port p).inited then s else s.queueInit p
  let s := s.setPort p { s.port p with inited := false }
  let c := s.camOf p
  let again := (s.openSids p) != []
  let s := if CfgSet.streamOn (s.setFor p) p 5 && !s.standby p then s.openStream (sidOf p 5) (s.setFor p) 0 0 else s
  let s := s.telemetry p 3 (s.serial p)
  let s := s.setCam p { c with losses := withBit (if again then c.losses else withBit c.losses 1 true) 2 true, dropped := false }
  let s := if (s.sliceOf p).isSome ∨ s.standby p then s
    else
      match s.claim clRepair with
      | some (sl, s) => s.takeSlice p sl ((s.ingest p).fnNext) 0 (s.setFor p)
      | none => s.noSpare p
  s.attachChecks p

/-! ## Turns of the port before its frame (R128, R136, R141, R500, R526) -/

/-- The camera is dropped (R526, R527): its slice goes, its port is READY, and its streams announce the reason. -/
def State.dropCamera (s : State) (p : Nat) : State :=
  let c := s.camOf p
  let s := (s.setCam p { c with dropped := true, plan := none, repairAt := none }).setPstate p psReady
  (((s.dropMove p).release p).raiseReason p 6).enterDegraded.flipLeaves p

/-- MSTR of a FRAME_START names the partner's connector (R111, R500). -/
def State.mstrPartner (s : State) (p h : Nat) : Bool :=
  let m := bitsOf h 48 47
  s.flag (HP.PSTAT_DUAL p) && s.dev != 0 && (m == 1 || m == 2) && m != s.dev

/-- The device has been deposed from a camera: it stops serving it at this boundary (R500). -/
def State.depose (s : State) (p : Nat) : State :=
  let s := s.setPort p { s.port p with deposed := true }
  let s := ((s.setPrimary p false).dropMove p).release p
  let s := s.setPair { s.pair with runs := s.pair.runs.drop p }
  let s := (List.range 6).foldl (fun s k => s.setStream (sidOf p k) { s.stream (sidOf p k) with closing := true, silent := true }) s
  (s.report 0x0A16 p p).peerIntr 5 p

/-- What happens to a port at its frame boundary before the frame is numbered: refusal after a failed repetition of the
challenge, the update of a head, a new PCTL, deposition, a drop (R128, R136, R141, R500, R526). -/
def State.portTurns (s : State) (p h : Nat) : State :=
  let x := s.port p
  let s := match x.pctlNext with
    | some v => (s.setPort p { x with pctlNext := none }).setPctl p v
    | none => s
  let m := bitsOf h 48 47
  let s := if s.flag (HP.PSTAT_DUAL p) && s.dev != 0 && (m == 1 || m == 2) then s.setMaster p (m == s.dev) else s
  if s.pstate p ≠ psStreaming then s
  else if (s.port p).refuseNext then ((s.setPort p { s.port p with refuseNext := false }).refuseHead p).leaveSlice p |>.flipLeaves p
  else if (s.port p).updateNext then ((s.setPort p { s.port p with updateNext := false }).loseHead p psUpdating 2).flipLeaves p
  else if (s.camOf p).plan = some 255 then s.dropCamera p
  else
    let serves := (s.sliceOf p).isSome && !s.pair.handovers.has p
    if serves && (s.mstrPartner p h || (s.port p).deposed) then s.depose p else s

/-- Frames open at a port: STREAMING, a dropped camera in READY, or a head that attaches, with a geometry (R164, R686). -/
def State.opensFrames (s : State) (p : Nat) : Bool :=
  let c := s.setFor p
  let dt := CfgSet.fld c 1 p (HP.INGFMT_DT 0)
  (s.pstate p == psStreaming || (s.pstate p == psReady && (s.camOf p).dropped) || s.mayAttach p)
    && CfgSet.camera c p && decide (0x2A ≤ dt ∧ dt ≤ 0x2E)

/-! ## Flip and migration at the boundary (R365, R468, R471, R518, R520, R526) -/

/-- The flip at a boundary: a pace port sets the epoch; a camera without a program change switches (R467, R468). -/
def State.flipBoundary (s : State) (port : Port) : State :=
  let p := port.val
  let s := s.flipPaced p
  match s.cfg.flip with
  | some f => if f.reached && f.todo.contains p && !f.moves.any (fun m => m.1 == p) then (s.switchCamera port).flipOne p else s.flipCheck
  | none => s

/-- The slice of an assignment or repair may be taken: nobody has it, or its camera stays and shares it (R526). -/
def State.mayTake (s : State) (p sl : Nat) : Bool :=
  let q := s.fld (XBAR.RMAP_PORT sl)
  q == 0xFF || (s.fld (XBAR.RMAP_PORT2 sl) == 0xFF && q != p && ((s.camOf q).plan == none || (s.camOf q).plan == some sl))

/-- A planned slice taken at the boundary: after a repair with REPAIR set, else as a start; a second camera shares it (R520,
R526, R528, R529). -/
def State.takePlan (s : State) (p sl fn : Nat) : State :=
  let c := s.camOf p
  let shares := s.fld (XBAR.RMAP_PORT sl) != 0xFF
  let first := s.fld (XBAR.RMAP_PORT sl)
  let old := s.sliceOf p
  let s := s.setCam p { c with plan := none, repairAt := none }
  let s := match old with
    | some x =>
      let s := s.connect p 0xFF
      let s := if s.fld (XBAR.RMAP_PORT x) = 0xFF then ((s.endService x).windowDrain x).sweepSlices [x] else s
      if s.sstate x = ssSpare then s.giveBack else s
    | none => s
  let s :=
    if shares then
      let s := s.connect p sl
      let s := { s with rot := { s.rot with turns := s.rot.turns.set sl (first, none) } }
      s.enterDegraded
    else s.takeSlice p sl fn (if c.repairAt.isSome then 4 else 0) (s.setFor p)
  let s := if s.mode == Mode.run || s.mode == Mode.paired then (if shares || c.repairAt.isNone then s.enterDegraded else s) else s
  s.leaveDegraded

/-- A planned move takes effect (R23, R364, R365): the camera's registers are loaded, the engine starts and hears ARRIVE. -/
def State.moveNow (s : State) (port : Port) (dest why fn : Nat) : State :=
  let p := port.val
  let old := (s.sliceOf p).getD 0xFF
  let s := if why = mvProgram then (s.switchCamera port).flipOne p else s
  let c := s.camOf p
  let s := s.setCam p { c with move := none, moveTry := 0, moveReady := false, moveAt := none, dispatchFrom := s.clock + 20000 }
  let s := (((s.unclaim dest).connect p dest).setSstate dest ssInService).emptySlice dest
  let s := s.setFld (XBAR.RMAP_DUAL dest) (b2n (decide (old < 208) && s.slBusy old))
  let s := (s.loadSlice dest p (s.setFor p)).startEngine dest p fn 0
  let s := s.post dest evProve [2, fn, old, why]
  if old < 208 ∧ s.fld (XBAR.RMAP_PORT old) = 0xFF then ((s.endService old).windowDrain old).sweepSlices [old] else s

/-- A move may be announced for the next boundary: a program change waits for its epoch (R471). -/
def State.mayLeave (s : State) (p why : Nat) : Bool :=
  if why = mvProgram then
    match s.cfg.flip with
    | some f => decide (f.admitted + 1000000 ≤ s.now)
        && (f.reached || f.epoch.any fun e => decide (e ≤ s.now + CfgSet.fperiod (s.setFor p) p))
    | none => false
  else true

/-- The migration due at a boundary: it takes effect, is deferred behind a takeover or a flip or because its load is not done, or
is announced with this frame's FSTART (R25, R364, R365, R518). -/
def State.moveBoundary (s : State) (port : Port) (fn : Nat) (busy : Bool) : State :=
  let p := port.val
  let s := s.retake p
  let c := s.camOf p
  match c.move with
  | none => s
  | some (dest, why) =>
    let src := s.sliceOf p
    let leave := fun s : State => if s.mayLeave p why then
        let s := s.setCam p { s.camOf p with moveAt := some ((fn + 1) % 2 ^ 32) }
        match src with
        | some x => s.post x evProve [1, (fn + 1) % 2 ^ 32, dest, why]
        | none => s
      else s
    let defer := fun s : State => match src with
      | some x => leave (((s.report 0x1001 p x).bump XBAR.ROTCNT1_DEFERRED 1).post x evProve [3, fn, dest, why])
      | none => s
    match c.moveAt with
    | none => if c.moveTry = 0 then leave s else (match src with
        | some x => leave ((s.report 0x1001 p x).post x evProve [3, fn, dest, why])
        | none => s)
    | some _ =>
      let early := why = mvProgram && !(s.cfg.flip.any fun f => f.reached)
      if c.moveReady && !(busy && why != mvProgram) && !early then s.moveNow port dest why fn else defer s

/-- A value written to MAP.NEXT takes effect at the port's boundary (R187, R190): the frame that opens there goes to the new slice,
loaded as at a first frame start. A slice that serves another port, or is neither a spare nor in service, is not taken (DESIGN
CHOICE, log entry 201). -/
def State.mapBoundary (s : State) (p fn : Nat) : State :=
  let c := s.camOf p
  let n := s.fld (XBAR.MAP_NEXT p)
  if !s.flag (XBAR.MAP_PEND p) || c.move.isSome || c.plan.isSome then s
  else if 208 ≤ n then s.release p
  else if s.fld (XBAR.RMAP_PORT n) != 0xFF || !(s.sstate n == ssSpare || s.sstate n == ssInService) then s
  else
    let s := match s.sliceOf p with
      | some x =>
        let s := s.connect p 0xFF
        if s.fld (XBAR.RMAP_PORT x) = 0xFF then (s.endService x).sweepSlices [x] else s
      | none => s
    s.takeSlice p n fn 0 (s.setFor p)

/-- The changes of slice at a boundary that follow repair and assignment (R520, R526). -/
def State.planBoundary (s : State) (p fn : Nat) : State :=
  let c := s.camOf p
  match c.plan with
  | some sl => if decide (sl < 208) && (c.repairAt.all fun t => decide (t ≤ s.now)) && s.mayTake p sl then s.takePlan p sl fn else s
  | none => s

/-! ## Failures seen at a boundary (R256, R519) -/

/-- Warped outputs of a frame that its slice has not finished. -/
def Frame.warpOwed (f : Frame) (p : Nat) : Bool :=
  f.skipWhy == 0 && CfgSet.flag f.set 2 p (SL.WCTL_WARP_EN 0) && !f.warpLate
    && (List.range 4).any fun k => f.owesImage p k && !fmtIsRaw (CfgSet.fmtOf f.set p k)

/-- WARP-LATE of the frame two boundaries back (R256). -/
def State.lateWarp (s : State) (p fn : Nat) : State :=
  match s.frameOf p ((fn + 2 ^ 32 - 2) % 2 ^ 32) with
  | none => s
  | some f =>
    if !f.warpOwed p then s
    else
      let s := s.editFrame p f.fn fun x => { x.sflag 6 with warpLate := true }
      match f.slice with
      | some sl => ((s.bump (SL.WCNT_WLATE sl) 1).setFld (SL.WSTAT_LATE sl) 1).report 0x3020 sl p
      | none => s

/-- A frame three boundaries back whose last line is not written: the slice hangs (R519). -/
def State.hangCheck (s : State) (p fn : Nat) : State :=
  match s.sliceOf p with
  | none => s
  | some sl =>
    let hung := (s.camOf p).frames.any fun f => f.slice == some sl && f.skipWhy == 0 && decide (3 ≤ fnAhead fn f.fn)
      && (f.owes p).any fun k => !f.ended.contains k
    if hung ∧ (s.camOf p).repairAt.isNone then s.immediateRepair p sl else s

/-- A hang found at a frame start during an orderly exit, in which no frame is numbered: the head's counter counts the
boundaries (R49, R519). -/
def State.exitHang (s : State) (p h : Nat) : State :=
  match s.sliceOf p with
  | none => s
  | some sl =>
    let hung := (s.camOf p).frames.any fun f => f.slice == some sl && f.skipWhy == 0 && decide (3 ≤ (h + 65536 - f.hf) % 65536)
      && (f.owes p).any fun k => !f.ended.contains k
    if hung then s.exitRepair p sl else s

/-! ## Why a frame is not processed (R187, R298, R520, R528, R652) -/

/-- A time-shared slice serves a camera's frame: it last served the other, and has drained for 300 µs (R528). -/
def State.shareTurn (s : State) (p sl : Nat) : Bool :=
  match s.rot.turns.get sl (p, none) with
  | (last, some t) => last != p && decide (t + 300000 ≤ s.now) && !s.slBusy sl
  | (_, none) => false

/-- The SFLAGS bit that says why the next frame of a port is not processed, 0 where it is: 9 no slice, 8 throttled, 10
time-shared. -/
def State.skipOf (s : State) (p : Nat) : Nat :=
  let c := s.camOf p
  match s.sliceOf p with
  | none => 9
  | some sl =>
    if c.repairAt.isSome then 9
    else if c.mark = 2 ∨ (c.mark = 1 ∧ c.odd) then 8
    else if s.sharing p && !s.shareTurn p sl then 10
    else 0

/-! ## The temporal reference at a boundary (R199, R200, R207, R210, R213) -/

/-- The gain of a frame as the queue schedules it (R193, R210, R324). -/
def Cam.gainFor (c : Cam) (fn : Nat) : Nat :=
  match c.pipeEntry 2 fn with
  | some e => e.data % 65536
  | none => c.gain.getD 0x100

/-- Why the reference of a camera cannot serve a frame: 0 it can, 6 its age, 7 the exposure ratio, 8 unusable; with the ratio in
U4.12 (R200, R210). -/
def State.refCheck (s : State) (p : Nat) (f : Frame) (gain : Nat) : Nat × Nat :=
  match (s.camOf p).refBuf with
  | none => (8, 0)
  | some (a, rfn) =>
    let h := s.bytes a 64
    let c := s.camOf p
    let expl := fieldAt h 0x0C 4
    let g := fieldAt h 0x18 2
    let bad := s.poisoned a 64 || fieldAt h 0x3C 4 != crc32 (bytesAt h 0 0x3C) || !bit (fieldAt h 9 1) 1 || fieldAt h 0x0A 2 == 0
      || expl == 0 || g == 0 || fieldAt h 0 4 != rfn || fieldAt h 4 2 != f.width || fieldAt h 6 2 != f.height
      || fieldAt h 8 1 != s.desc p 0x64 1
    let dt := (f.tfirst : Int) - (fieldAt h 0x10 8 : Nat) - c.stepD
    let lim := CfgSet.fld f.set 2 p (SL.TNRLIM_REFAGE 0)
    let e := expRatio f.expl gain expl g
    if dt > 1000000 * (if lim = 0 then 100 else lim : Nat) then (6, 0)
    else if expl ≠ 0 ∧ g ≠ 0 ∧ e.1 = false then (7, 0)
    else if bad then (8, 0)
    else (0, e.2)

/-- The bits of the causes 1 to 4 of R200 that hold at a boundary. -/
def State.lossBits (s : State) (p : Nat) (f : Frame) : Nat :=
  let c := s.camOf p
  let geo := [f.width, f.height, s.desc p 0x64 1, f.dt, b2n f.hdr]
  let l := if c.tnrRan then c.losses else withBit c.losses 1 true
  if c.geo ≠ [] ∧ c.geo ≠ geo then withBit l 4 true else l

/-- The temporal state of a frame that its slice processes (R199 to R201, R207, R213): the loss of its reference, the count n, the
reference it reads and the buffer it writes. -/
def State.openTnr (s : State) (p sl : Nat) (f : Frame) : State × Frame :=
  let c := s.camOf p
  let gain := c.gainFor f.fn
  let model := noiseAt (modelTable f.set p (s.port p).desc) gain
  let s := s.showModel p sl f gain
  let geo := [f.width, f.height, s.desc p 0x64 1, f.dt, b2n f.hdr]
  if !CfgSet.flag f.set 2 p (SL.NRCTL_TNR_EN 0) || model.isNone then
    (s.setCam p { c with tnrRan := false, geo := geo, refBuf := none }, f)
  else
    let bits := s.lossBits p f
    let r := s.refCheck p f gain
    let cause := match (List.range 5).find? fun i => bit bits i && i != 0 with
      | some i => i
      | none => r.1
    let n := if cause = 0 then min 8 (c.warm + 1) else 0
    let out := s.placed (refKey p c.refSel)
    let old := match c.refBuf with
      | some (a, _) => if r.1 = 8 then 0 else (f.tfirst : Int) - (s.num (a + 0x10) 8 : Nat) - c.stepD
      | none => 0
    let f := { f with tnr := { f.tnr with n := n, cause := cause, dt := old, dtWas := c.dt }, refOut := out,
                      ref := if cause = 0 then c.refBuf.map fun b => (b.1, r.2) else none }
    let f := if n < 8 then f.sflag 0 else f
    let s := s.setCam p { c with warm := n, cause := cause, losses := 0, tnrRan := true, geo := geo, stepD := 0, dt := old }
    let s := match out with
      | some a => s.store a ((s.scene p { f with pipe := f.pipe.set 2 gain }).refHeader false)
      | none => s
    let s := s.setFlds [(SL.TNRSTAT_WARMN sl, n), (SL.TNRSTAT_LCAUSE sl, cause), (SL.TNRSTAT_REFSEL sl, c.refSel)]
    (if cause = 0 then s else s.bump (SL.NRCNT0_REFLOSS sl) 1, f)

/-! ## The warp source buffer (R249) -/

/-- A buffer taken for writing: its old frame goes, a lattice that reads it loses the slot from a tile on that is free (log entry
1), and its header is made invalid (R249, R271). -/
def State.takeWarp (s : State) (base : Nat) (f : Frame) (planes : Nat) : State :=
  let lose := fun (b : LatBusy) (k : Nat) => match b.slots.find? fun x => x.base == base with
    | some x => { b with gone := (x.slot, k) :: b.gone }
    | none => b
  let hit := s.lats.any fun (e : Nat × LatSt) => e.2.busy.any fun b => b.slots.any fun x => x.base == base
  let k := s.free.toNat
  let lats := s.lats.map fun (e : Nat × LatSt) => (e.1, { e.2 with busy := e.2.busy.map fun b => lose b (k % (b.ntile + 1)) })
  let s := if hit then { s with fresh := s.fresh + 1, lats := lats } else s
  s.store base (f.warpHeader planes 0x4000 0 false)

/-- The warp source buffer of a processed frame (R249). -/
def State.openWarp (s : State) (p : Nat) (f : Frame) : State × Frame :=
  let planes := f.planes
  if planes = 0 then (s, f)
  else
    let c := s.camOf p
    let n := if CfgSet.contributes (s.setFor p) p then 3 else 2
    match s.placed (warpKey p (c.warpNext % n)) with
    | none => (s, f)
    | some a =>
      let f := { f with warpBuf := some a }
      let s := s.setCam p { c with warps := c.warps.set a f, warpNext := (c.warpNext + 1) % n }
      (s.takeWarp a f planes, f)

/-! ## Stores and shedding (R298, R390) -/

/-- Streams of a frame that it will not be stored or sent on: no free store, shed, or a link that does not carry data (R298,
R390, R394; log entry 212). -/
def State.openStores (s : State) (p : Nat) (f : Frame) : List Nat → State × Frame
  | [] => (s, f)
  | k :: r =>
    let sid := sidOf p k
    let x := s.stream sid
    if !CfgSet.streamOn f.set p k || f.skipWhy != 0 then s.openStores p f r
    else if x.shed then s.countShed.openStores p { f with quit := f.quit.set k 13 } r
    else if !s.uplCarries then s.openStores p { f with quit := f.quit.set k 13 } r
    else if CfgSet.fld f.set 3 sid (SL.OCTL_POLICY 0 k) = 1 ∧ 2 ≤ (x.stored.filter fun us => us.any fun u => u.role == .fend).length + b2n x.storing.isSome then
      ((s.report 0x3030 sid 0).bumpOut p sid SL.OCNT2_STOREFULL).openStores p { f with quit := f.quit.set k 13 } r
    else s.openStores p f r

/-! ## The frame opens (R162, R294, R353) -/

/-- SFLAGS of a frame that are known at its boundary, beside its temporal ones (R294). -/
def State.openFlags (s : State) (p : Nat) (f : Frame) : Frame :=
  let c := s.camOf p
  let f := if c.timeStep then f.sflag 2 else f
  let f := if (s.port p).unauth then f.sflag 4 else f
  let f := if c.mark = 1 ∧ f.skipWhy = 0 then f.sflag 8 else f
  let f := if s.sharing p then f.sflag 10 else f
  if s.pair.runs.has p ∧ (s.pair.runs.get p ⟨false, 0, 0, true⟩).handover ∧ (s.pair.runs.get p ⟨false, 0, 0, true⟩).g = f.fn then f.sflag 11 else f

/-- Bypass of the taps ends at an FSTART while the engine runs (R18, R357, R358). -/
def State.endBypass (s : State) (sl : Nat) : State :=
  let st := s.fld (SL.ENGSTAT_STATE sl)
  if st = esRunning ∨ st = esWaiting then
    let e := s.eng sl
    (s.setEng sl { e with tapD := { e.tapD with bypass := false }, tapS := { e.tapS with bypass := false } }).setFlds
      [(SL.TAPSTAT_BYPD sl, 0), (SL.TAPSTAT_BYPS sl, 0)]
  else s

/-- The engine of a slice at a boundary: reloaded for a time-shared camera, restarted after a trap (an ECC trap asks for a
deferred repair), and told of the frame; while it stays stopped the frame carries TAP-UNDERRUN (R353, R358, R359, R366, R519). -/
def State.openEngine (s : State) (p sl : Nat) (f : Frame) : State :=
  let s :=
    if s.sharing p then
      if f.skipWhy != 0 then s
      else
        let s := { s with rot := { s.rot with turns := s.rot.turns.set sl (p, none) } }
        let s := s.loadSlice sl p (s.setFor p)
        match s.loadEngine sl (s.progId p (s.setFor p)) with
        | some s => s.startEngine sl p f.fn 0
        | none => s.report 0x3053 sl (packArg [(16, p), (32, s.progId p (s.setFor p))])
    else if (s.eng sl).restart && (s.eng sl).port == some p then
      (if s.fld (SL.ENGSTAT_TRAPC sl) = 5 then s.deferRepair sl trEngine else s).restartEngine sl p f.fn
    else s
  let s := s.endBypass sl
  let st := s.fld (SL.ENGSTAT_STATE sl)
  let s := if st = esHalted ∨ st = esTrapped then s.editFrame p f.fn fun x => x.sflag 7 else s
  if (s.eng sl).port == some p then (s.post sl evFstart [f.fn, f.gen, f.tfirst % 2 ^ 32, f.tfirst / 2 ^ 32]).motionPost p sl f else s

/-- The frame of a boundary opens at its port (R162 to R164, R187). -/
def State.openAt (s : State) (p : Nat) (f : Frame) (ring : Bool) : State :=
  let why := if ring then 0 else s.skipOf p
  let sl := if ring then none else s.sliceOf p
  let f := { f with slice := sl, ring := ring, skipWhy := why, ovf := !ring && sl.isNone, lost := (s.camOf p).repairAt.isSome,
                    statsDone := ring }
  let f := s.openFlags p f
  let c := s.camOf p
  let s := s.setCam p { c with odd := !c.odd, timeStep := false, early := c.early.drop f.fn, late := c.late.drop f.fn }
  let f := { f with qappl := f.qappl + c.early.get f.fn 0, qlate := c.late.get f.fn 0 }
  let s := (List.range 2).foldl (fun s k =>
    if !ring && CfgSet.streamOn f.set p (k + 4) then s.openStream (sidOf p (k + 4)) f.set f.fn f.gen else s) s
  let (s, f) := s.openStores p f (List.range 4)
  let (s, f) := match sl with
    | some x => if why = 0 then s.openTnr p x f else (s, f)
    | none => (s, f)
  let (s, f) := if why = 0 ∧ sl.isSome then s.openWarp p f else (s, f)
  let g := s.ingest p
  let s := s.setIngest p { g with frame := some f, orphans := false, openLine := none,
                                  lastStart := if f.timeEst then g.lastStart else some (f.nlines, f.linet, f.expl) }
  let s := s.setPort p { s.port p with trigs := (s.port p).trigs.filter fun e => decide (0 < fnAhead e.2 f.fn) }
  let s := s.setFlds [(HP.INGSTAT_FSTATE p, 1), (HP.INGSTAT_LASTLINE p, 0), (HP.INGFN_FN p, f.fn)]
  let s := s.pqApplied p f.fn
  match sl with
  | some x => s.openEngine p x f
  | none => s

/-- A camera served from the reserve ring goes live at a boundary once every earlier frame has been read (R497). -/
def State.goLive (s : State) (p fn : Nat) : State :=
  if s.pair.runs.has p then
    let r := s.pair.runs.get p ⟨false, 0, 0, true⟩
    if r.ready && r.next == fn && r.g != fn then
      let s := s.setPair { s.pair with runs := s.pair.runs.drop p }
      if s.standby p then s else s.dropRing p
    else s
  else s

/-- A frame boundary (R14, R25, R162, R188). -/
def State.boundary (s : State) (port : Port) (h : Nat) (r : List Crumb) : State :=
  let p := port.val
  if !s.mayOpen then (if s.exiting then s.exitHang p (bitsOf h 23 8) else s)
  else
    let s := (s.dmaBoundary p).portTurns p h
    if !s.opensFrames p then s
    else
      let s := if s.pstate p = psReady ∧ !(s.camOf p).dropped then s.attach p else s
      let g0 := s.ingest p
      let jump := g0.jump (bitsOf h 23 8)
      let s := s.number p (bitsOf h 23 8)
      let fn := (s.ingest p).lastFN
      let takes := s.pair.taking.contains p
      let s := if takes then s.takeover p fn (s.newFrame p (s.setFor p) h r)
        else if s.handoverTakes p fn then s.handoverHere p fn
        else (s.handoverGive p fn).standbyTurn p fn
      let run := s.pair.runs.get p ⟨false, 0, 0, true⟩
      let s := if s.pair.runs.has p ∧ !run.ready ∧ run.g ≠ fn then s.handoverLate p (s.newFrame p (s.setFor p) h r) else s
      let was := s.genFor p
      let drops := (s.camOf p).dropped
      let s := s.flipBoundary port
      if !s.opensFrames p then (s.setIngest p g0).settle p
      else
      let flips := s.genFor p != was
      let s := s.goLive p fn
      let s := s.planBoundary p fn
      let s := (s.moveBoundary port fn (takes || flips)).mapBoundary p fn
      let s := (s.lateWarp p fn).hangCheck p fn
      let s := if takes || flips || (s.camOf p).dropped != drops then s.throttle else s
      let f := s.newFrame p (s.setFor p) h r
      let f := match jump.1 with
        | some b => { f.mark b with skip := if b = igJump then jump.2 else 0 }
        | none => f
      let ring := s.standby p || (s.port p).deposed || s.pair.runs.has p
      let s := if s.standby p then s.placeRing p else s
      (s.openAt p f ring).settle p

/-- A FRAME_START at a port (R162, R171): a duplicate counter changes nothing; an open frame closes NOEND. -/
def State.frameStart (s : State) (port : Port) (h : Nat) (r : List Crumb) : State :=
  let p := port.val
  if !s.opensFrames p then s
  else
    match (s.ingest p).frame with
    | some f =>
      if f.hf = bitsOf h 23 8 then s.bump (HP.ICNT4_DUPLINE p) 1 else (s.closeFrame p 3 false).boundary port h r
    | none => s.boundary port h r

/-- FRAME_START (R162, R172). -/
def execFrameStart (port : Port) (crumbs : List Crumb) (s : State) : Out :=
  .next (s.onPacket port.val 1 crumbs fun s h r => s.frameStart port h.toNat r)

end Sys2Proof.Machine
end

