-- ==== Sys2Proof/Machine/Ingests.lean ====
section
/-!
DEFINITION. Line packets, frame ends and the watchdogs of an ingest (spec/06_ingest.md R165 to R180, spec/04_heads.md R106,
R110, R112).
-/
namespace Sys2Proof.Machine

/-! ## The LINE header (R110) -/

def lnExp (h : Nat) : Nat := bitsOf h 7 6
def lnDt (h : Nat) : Nat := bitsOf h 13 8
def lnLine (h : Nat) : Nat := bitsOf h 29 16
def lnWidth (h : Nat) : Nat := bitsOf h 45 32
def lnFclo (h : Nat) : Nat := bitsOf h 55 46

/-- The header gives its packet a length: a defined data type and width (R110). -/
def lnKnown (h : Nat) : Bool := decide (0x2A ≤ lnDt h ∧ lnDt h ≤ 0x2E ∧ 0 < lnWidth h ∧ lnWidth h ≤ 8192)

/-- Payload crumbs of a LINE packet of known length (R110). -/
def lnCrumbs (h : Nat) : Nat := ceilDiv (lnWidth h * dtBits (lnDt h)) 64

/-- Pixels of a payload: pixel i in bits [w·i + w − 1 : w·i] (R110). -/
def unpackPixels (w n : Nat) (b : List Byte) : List Nat :=
  let v := leNat b
  (List.range n).map fun i => v >>> (w * i) % 2 ^ w

/-! ## What a packet does to its line (R165, R166, R175) -/

/-- The exposure a packet's line belongs to: the S burst or the other. -/
def lnSecond (h : Nat) : Bool := lnExp h == 2

/-- A burst accepted. One whose partner has failed is merged alone; one whose partner has already stopped waiting comes too late
to be merged (R175). -/
def Frame.accept (f : Frame) (second : Bool) (n : Nat) (px : List Nat) : Frame :=
  let x := f.line n
  let f := if second then { f with lastS := some n } else { f with lastL := some n }
  let other := if second then x.l else x.s
  let failed := (if second then x.lfail else x.sfail).isSome
  if x.alone && other.isSome then f
  else
    let x := { x with alone := x.alone || (f.hdr && failed && other.isNone) }
    { f with lines := f.lines.set n (if second then { x with s := some px } else { x with l := some px }) }

/-- The partner of a discarded or filled burst waits no longer (R175). -/
def Line.discard (x : Line) (second : Bool) : Line :=
  let other := if second then x.l else x.s
  let here := if second then x.s else x.l
  { x with alone := x.alone || (other.isSome && here.isNone) }

/-- A burst that failed takes a fill state, unless data of it was accepted; its partner waits no longer (R163, R165, R175). Where
several packets of one line fail with different causes the rules do not say which state stands: the last one does (DESIGN CHOICE,
log entry 203). -/
def Frame.failBurst (f : Frame) (second : Bool) (n st : Nat) : Frame :=
  let x := f.line n
  if decide (f.height ≤ n) || (if second then x.s.isSome else x.l.isSome) then f
  else
    let x := if f.hdr then x.discard second else x
    { f with lines := f.lines.set n (if second then { x with sfail := some st } else { x with lfail := some st }) }

/-- A burst discarded as a duplicate or out of order ends its partner's wait (R165, R175). -/
def Frame.dropBurst (f : Frame) (second : Bool) (n : Nat) : Frame :=
  if f.hdr && f.lines.has n then { f with lines := f.lines.set n ((f.line n).discard second) } else f

/-- Bursts of the other exposure that lie STAGGER lines or more behind stop waiting (R175). -/
def Frame.unpair (f : Frame) (second : Bool) (n : Nat) : Frame :=
  if !f.hdr then f
  else
    let waits := fun x : Line => if second then x.l.isSome && x.s.isNone else x.s.isSome && x.l.isNone
    { f with lines := f.lines.map fun (e : Nat × Line) => if waits e.2 && decide (e.1 + f.stagger ≤ n) then (e.1, { e.2 with alone := true }) else e }

/-- Counts that every packet of the open frame enters (R170). -/
def Frame.countPacket (f : Frame) (h : Nat) (crc : Option Nat) : Frame :=
  let e := lnExp h
  { f with lcount := f.lcount + (if e ≤ 1 then 1 else 0), scount := f.scount + (if e = 2 then 1 else 0),
           crcs := match crc with
             | some c => c :: f.crcs
             | none => f.crcs }

/-! ## The packet (R165) -/

def State.setFrame (s : State) (p : Nat) (f : Frame) : State := s.setIngest p { s.ingest p with frame := some f }

/-- Packets of a port are ingest data: it is STREAMING, or its dropped camera is READY, with a geometry (R164, R686). -/
def State.ingestOn (s : State) (p : Nat) : Bool :=
  s.opensFrames p && (s.pstate p == psStreaming || (s.camOf p).dropped)

/-- A packet while no frame is open: late or an orphan (R165, R169). -/
def State.noFrame (s : State) (p h : Nat) : State :=
  let g := s.ingest p
  let s := s.setIngest p { g with orphans := true }
  if g.lastClosed.any fun x => x % 1024 == lnFclo h then s.bump (HP.ICNT1_LATEDISC p) 1 else s.bump (HP.ICNT1_ORPHAN p) 1

/-- A packet that meets a full FIFO, or a frame that has overflowed (R180, R187): counted, and reported once per episode. -/
def State.overflowLine (s : State) (p : Nat) (f : Frame) : State :=
  let s := s.setFrame p { f with ovf := true }
  if f.slice.isNone && !f.ring then s
  else
    let s := s.bump (HP.ICNT2_OVFLINES p) 1
    if s.flag (HP.INGSTAT_OVFNOW p) then s else (s.setFld (HP.INGSTAT_OVFNOW p) 1).report 0x2022 p 0

/-- Rows 3 to 6 of R165 for a packet of the open frame, counted already. A malformed packet whose EXP names no exposure of an HDR
frame is charged to the L burst (DESIGN CHOICE, log entry 203). A line whose crumbs fail their FIFO parity is filled (R179). -/
def State.checkLine (s : State) (p : Nat) (f : Frame) (h : Nat) (body : List Crumb) (crcGood whole parity : Bool) : State :=
  let n := lnLine h
  let e := lnExp h
  let sec := lnSecond h
  let malformed := decide (e = 3) || !lnKnown h || lnDt h != f.dt || lnWidth h != f.width || (if f.hdr then e == 0 else e != 0)
  if malformed then
    (s.bump (HP.ICNT0_MALFORMED p) 1).setFrame p (f.failBurst (f.hdr && sec) n 2)
  else if f.height ≤ n then (s.bump (HP.ICNT2_LONGDROP p) 1).setFrame p (f.mark igLong)
  else if (if sec then f.lastS else f.lastL).any fun l => decide (n ≤ l) then
    (s.bump (HP.ICNT4_DUPLINE p) 1).setFrame p (f.dropBurst sec n)
  else if !whole then s.setIngest p { s.ingest p with openLine := some (n, e, s.now) }
  else if !crcGood then (s.bump (HP.ICNT0_LCRCERR p) 1).setFrame p (f.failBurst sec n 1)
  else if parity then
    s.setFrame p ((if sec then { f with lastS := some n } else { f with lastL := some n }).failBurst sec n 1)
  else
    let px := unpackPixels (dtBits f.dt) f.width (crumbsBytes body)
    let s := s.setFrame p ((f.accept sec n px).unpair sec n)
    s.setFld (HP.INGSTAT_LASTLINE p) (max n (s.fld (HP.INGSTAT_LASTLINE p)))

/-- A LINE packet at a port (R165): `full` says that the ingest FIFO was full as it came (R180), `parity` that a crumb of it failed
its FIFO parity (R179). -/
def State.linePacket (s : State) (p : Nat) (h : Crumb) (r : List Crumb) (full parity : Bool) : State :=
  if !s.ingestOn p then s
  else
    let w := h.toNat
    match (s.ingest p).frame with
    | none => s.noFrame p w
    | some f =>
      if lnFclo w ≠ f.hf % 1024 then (s.setIngest p { s.ingest p with orphans := true }).bump (HP.ICNT1_ORPHAN p) 1
      else
        let n := if lnKnown w then lnCrumbs w else 0
        let body := r.take n
        let whole := lnKnown w && decide (n + 1 ≤ r.length)
        let crc := (r.getD n 0).toNat % 2 ^ 32
        let f := f.countPacket w (if whole then some crc else none)
        let s := s.setFrame p f
        if full || f.ovf then s.overflowLine p f else s.checkLine p f w body (crc == crc32Crumbs body) (whole || !lnKnown w) parity

/-- LINE_PACKET (R165). -/
def execLinePacket (port : Port) (crumbs : List Crumb) (full : Bool) (s : State) (parity : Bool := false) : Out :=
  .next (s.onPacket port.val 2 crumbs fun s h r => s.linePacket port.val h r full parity)

/-! ## FRAME_END (R169, R170) -/

/-- The CRC-32 of the trailer CRC values of a frame in arrival order (R112, R170). -/
def Frame.fcrc (f : Frame) : Nat := crc32 (f.crcs.reverse.flatMap (leBytes 4))

/-- A FRAME_END at a port (R169, R170). -/
def State.frameEnd (s : State) (p : Nat) (h : Crumb) (r : List Crumb) : State :=
  if !s.ingestOn p then s
  else
    let w := h.toNat
    let g := s.ingest p
    match g.frame with
    | none =>
      if s.fld (HP.INGSTAT_FSTATE p) = 2 then (s.setIngest p { g with orphans := true }).bump (HP.ICNT1_LATEDISC p) 1
      else
        let s := s.setIngest p { g with orphans := true }
        if g.lastClosed = some (bitsOf w 23 8) then s.bump (HP.ICNT1_LATEDISC p) 1 else s.bump (HP.ICNT1_ORPHAN p) 1
    | some f =>
      if bitsOf w 23 8 ≠ f.hf then (s.setIngest p { g with orphans := true }).bump (HP.ICNT1_ORPHAN p) 1
      else
        let f := if bitsOf w 37 24 = f.lcount ∧ bitsOf w 51 38 = f.scount then f else f.mark igCount
        let f := if (r.getD 0 0).toNat % 2 ^ 32 = f.fcrc then f else f.mark igFcrc
        let s := s.setFrame p f
        s.closeFrame p (if f.valid = f.height then 0 else 1) false

/-- FRAME_END (R170). -/
def execFrameEnd (port : Port) (crumbs : List Crumb) (s : State) : Out :=
  .next (s.onPacket port.val 3 crumbs fun s h r => s.frameEnd port.val h r)

/-! ## Watchdogs (R168) -/

/-- The frame watchdog's period under the set of a frame's port, in sixteenths of a nanosecond; 0 where it is disabled (R168,
R189). -/
def State.frameLimit (s : State) (p : Nat) : Nat :=
  let c := s.setFor p
  max 0x11 (CfgSet.fld c 1 p (HP.INGFMT_FWDOG 0)) * CfgSet.fperiod c p

/-- The first tick of 1 µs at or after a time in sixteenths of a nanosecond (R168). -/
def wdTick (t : Int) : Int := 1000 * -((-t) / 16000)

/-- FRAME_WATCHDOG_EXPIRY: the frame closes TRUNCATED, and the ingest discards (R168). It comes no earlier than its time. -/
def execFrameWatchdogExpiry (port : Port) (s : State) : Out :=
  let p := port.val
  .next (match (s.ingest p).frame with
    | none => s
    | some f =>
      let lim := s.frameLimit p
      if lim = 0 ∨ (s.now : Int) < wdTick (16 * ((s.ingest p).boundary + f.wdShift) + lim) then s else s.closeFrame p 2 true)

/-- LINE_WATCHDOG_EXPIRY: the open packet is closed, its line or burst filled (R166, R168). -/
def execLineWatchdogExpiry (port : Port) (s : State) : Out :=
  let p := port.val
  let g := s.ingest p
  .next (match g.frame, g.openLine with
    | some f, some (n, e, t) =>
      let c := s.setFor p
      let l := CfgSet.fld c 1 p (HP.INGLT_LTIME 0)
      let wd := CfgSet.fld c 1 p (HP.INGFMT_LWDOG 0)
      if l = 0 ∨ (s.now : Int) < wdTick (16 * t + (if wd = 0 then 0x40 else wd) * l : Nat) then s
      else
        let s := s.setIngest p { g with openLine := none, frame := some (f.failBurst (e == 2) n 4) }
        s.bump (HP.ICNT0_LCRCERR p) 1
    | _, _ => s)

end Sys2Proof.Machine
end

