-- ==== Sys2Proof/Machine/Outputs.lean ====
section
/-!
DEFINITION. What a slice gives out of a frame: output lines and warp source lines, statistics sets, its motion and the other
latches, and the frames read back from the reserve ring (spec/10_outputs.md R281 to R299, spec/09_geometry_lattice.md R248,
spec/11_stats_params.md R316 to R331, spec/07_noise.md R202, spec/17_pairing.md R497).
-/
namespace Sys2Proof.Machine

/-! ## Output lines (R297) -/

/-- The first line from m on that is not merged alone (R175). -/
def Frame.past (f : Frame) (m : Nat) : Nat :=
  m + (((List.range (f.height - m)).map fun i => f.line (m + i)).takeWhile (·.alone)).length

/-- Ingest lines of a frame, from line 0, that the slice has taken: of a staggered frame those that both exposures have passed,
and the lines after them that are merged alone (R175). -/
def Frame.taken (f : Frame) : Nat :=
  if f.closed then f.height
  else
    match f.lastL, f.lastS with
    | some a, some b => if f.hdr then f.past (min a b + 1) else a + 1
    | some a, none => if f.hdr then f.past 0 else a + 1
    | none, _ => f.past 0

/-- Lines from 0 that output k of a frame may use: those written to the warp source for a warped output, else those taken (R247,
R297). -/
def Frame.ready (f : Frame) (p k : Nat) : Nat :=
  if CfgSet.flag f.set 2 p (SL.WCTL_WARP_EN 0) && !fmtIsRaw (CfgSet.fmtOf f.set p k) then f.next.get 4 0 else f.taken

/-- Whether line j of n on output k of a frame may leave now. -/
def State.lineReady (s : State) (p k : Nat) (f : Frame) : Bool :=
  let j := f.next.get k 0
  if k = 4 then decide (j < f.taken) && (f.closed || decide (j + 1 < f.height))
  else
    let sid := sidOf p k
    let x := s.stream sid
    let n := outLines (CfgSet.fmtOf f.set p k) (CfgSet.dhOf f.set p k) f.hdr
    s.turn p k f.fn && decide ((s.scene p f).linesNeeded k j ≤ f.ready p k) && (f.closed || decide (j + 1 < n))
      && (x.stored == [] || CfgSet.fld f.set 3 sid (SL.OCTL_POLICY 0 k) == 1)

/-- The frames of a port that still owe lines on output k from a slice, oldest first. -/
def State.owing (s : State) (p sl k : Nat) : List Frame :=
  (s.slFrames p sl).filter fun f => (f.owes p).contains k && !f.ended.contains k && !f.quit.has k

/-- The oldest frame in a slice whose next line on output k is ready, with its port. -/
def State.nextLine (s : State) (sl k : Nat) : Option (Nat × Frame) :=
  let all := (List.range 192).filterMap fun p => ((s.owing p sl k).head?).map fun f => (p, f)
  match (all.filter fun e => s.lineReady e.1 k e.2) with
  | [] => none
  | e :: r => some (r.foldl (fun (a b : Nat × Frame) => if b.2.arrival < a.2.arrival then b else a) e)

/-- A unit of a frame put out: into the FIFO, or into the frame under storage; a unit that does not fit abandons the frame
(R297, R389). -/
def State.putUnit (s : State) (p k : Nat) (f : Frame) (fseq : Nat) (u : EgUnit) : State :=
  let sid := sidOf p k
  let x := s.stream sid
  match x.storing with
  | some (fn, us) => s.setStream sid { x with storing := some (fn, us ++ [u]) }
  | none =>
    if x.abandoned == some f.fn || (s.frameOf p f.fn).any (fun y => y.ended.contains k) then s
    else if s.fits sid u.bytes.length then s.push sid u
    else (s.abandon p sid f fseq).endOn p k f.fn

/-- The START of a frame on an image stream (R292, R296, R297): FORMAT_CHANGE where one is due, and the stream's next FSEQ. -/
def State.startFrame (s : State) (p k : Nat) (f : Frame) : State :=
  let sid := sidOf p k
  let s := s.announce sid f
  let x := s.stream sid
  let stores := CfgSet.fld f.set 3 sid (SL.OCTL_POLICY 0 k) = 1
  let s := s.setStream sid { x with fseq := (x.fseq + 1) % 2 ^ 32, abandoned := none, storing := if stores then some (f.fn, []) else none }
  let s := s.editFrame p f.fn fun y => { y with fseqs := y.fseqs.set k x.fseq }
  let h := s.frameHdr p sid 1 f x.fseq 0 (s.flagsOn sid f) 0
  s.putUnit p k f x.fseq ⟨.start, f.fn, x.fseq, h.bytes, 0⟩

/-- What a slice shows of a warped frame that completes: the tiles fetched and whether it was late (R254, R277; log entry 90), and
the poisoned source words it met (R257). -/
def State.fetchCount (s : State) (sl p k : Nat) (f : Frame) : State :=
  let c := s.scene p f
  if c.warped && !fmtIsRaw (CfgSet.fmtOf f.set p k) then
    let r := c.warpFetch
    let s := s.setFlds [(SL.WFETCH_TILES sl, r.1), (SL.WSTAT_LATE sl, b2n f.warpLate)]
    let bad := r.2.filter fun w => !f.badReads.contains w
    if bad = [] then s else (s.bump (SL.WCNT_POISON sl) bad.length).report 0x3021 sl p
  else s

/-- The END of a frame on an image stream; a stored frame is queued, or replaced by a NOTICE where it is damaged (R185, R295,
R297). -/
def State.endFrame (s : State) (p sl k : Nat) (f : Frame) : State :=
  let sid := sidOf p k
  let fseq := f.fseqs.get k 0
  let t := f.trailing
  let h := s.frameHdr p sid 2 f fseq f.integ (s.flagsOn sid f) t.length
  let u : EgUnit := ⟨.fend, f.fn, fseq, h.bytes ++ bytesAt t 0 (padTo 64 t.length), 0⟩
  let x := s.stream sid
  let s := match x.storing with
    | some (_, us) =>
      let s := s.setStream sid { x with storing := none }
      if f.damaged then s.noticeAt p sid f fseq (dropped f.integ) (s.flagsOn sid f)
      else s.setStream sid { s.stream sid with stored := x.stored ++ [us ++ [u]] }
    | none => s.putUnit p k f fseq u
  if (s.frameOf p f.fn).any fun y => y.ended.contains k then s
  else
    let s := if x.storing.isSome ∧ f.damaged then s
      else (((s.fetchCount sl p k f).bump (SL.OCNT_FRAMES sl k) 1).showOut p sid fseq f.fn).setStream sid { s.stream sid with lastFn := f.fn }
    s.endOn p k f.fn

/-- The output line of step 16 in progress, as the centre of line j of a warped output (R277, R283). -/
def State.showWarpLine (s : State) (p sl k : Nat) (f : Frame) (j : Nat) : State :=
  let c := s.scene p f
  if c.warped && !fmtIsRaw (CfgSet.fmtOf f.set p k) then s.setFld (SL.WSTAT_OLINE sl) ((c.geo k).centre j % 2 ^ 14) else s

/-- One line of a frame on an image stream. -/
def State.imageLine (s : State) (p sl k : Nat) (f : Frame) : State :=
  let j := f.next.get k 0
  let n := outLines (CfgSet.fmtOf f.set p k) (CfgSet.dhOf f.set p k) f.hdr
  let s := if j = 0 then s.startFrame p k f else s
  let f := (s.frameOf p f.fn).getD f
  if f.ended.contains k then s.settle p
  else
    let fseq := f.fseqs.get k 0
    let s := s.putUnit p k f fseq ⟨.line, f.fn, fseq, (s.scene p f).outLine k j, 0⟩
    let s := s.setFld (SL.OSTAT_OLINE sl k) j
    let s := s.showWarpLine p sl k f j
    let s := s.editFrame p f.fn fun y => { y with next := y.next.set k (j + 1) }
    let f := (s.frameOf p f.fn).getD f
    if f.ended.contains k then s.settle p
    else if j + 1 = n then (s.endFrame p sl k f).settle p
    else s

/-- Writes of a line at offsets from a base. -/
def State.storeAll (s : State) (base : Nat) : List (Nat × List Byte) → State
  | [] => s
  | (o, l) :: r => (s.store (base + o) l).storeAll base r

/-- One line of a frame into its warp source buffer; the last sets VALID in its header (R248, R267). -/
def State.warpLineOut (s : State) (p : Nat) (f : Frame) : State :=
  let y := f.next.get 4 0
  let planes := f.planes
  let hgain := f.piped 0x20 0x4000
  let s := match f.warpBuf with
    | none => s
    | some a =>
      let mine := (s.camOf p).warps.any fun (e : Nat × Frame) => e.1 == a && e.2.fn == f.fn
      if !mine then s
      else
        let last := y + 1 == f.height
        let s := (s.storeAll a ((s.scene p f).warpLine planes y)).store a (f.warpHeader planes hgain (y + 1) last)
        s.setCam p { s.camOf p with warps := (s.camOf p).warps.set a f }
  s.editFrame p f.fn fun x => { x with next := x.next.set 4 (y + 1), ended := if y + 1 = f.height then 4 :: x.ended else x.ended }

/-- OUTPUT_LINE_READY: the next line of output k of a slice leaves; output 4 is the warp source (R297). -/
def execOutputLineReady (sl : Slice) (k : Fin 5) (s : State) : Out :=
  .next (if !s.domainOn .pixel then s
    else
      match s.nextLine sl.val k.val with
      | none => s
      | some (p, f) =>
        let s := s.latchAll p f.fn
        let f := (s.frameOf p f.fn).getD f
        let s := if k.val = 4 then s.warpLineOut p f else s.imageLine p sl.val k.val f
        s.sweep p)

/-! ## Statistics sets (R314 to R321) -/

/-- A statistics set with poisoned accumulation words of its bank read as 0, and whether there was one (R320). -/
def State.unpoisoned (s : State) (base : Nat) (body : List Byte) : List Byte × Bool :=
  let bad := fun i : Nat => s.memx.poison.contains (base + 64 + 8 * (i / 8))
  ((body.zip (List.range body.length)).map fun (e : Byte × Nat) => if bad e.2 then 0 else e.1, (List.range body.length).any bad)

/-- S of a frame in U16.16: the 95th percentile, by nearest rank, of the 192 cells of the sharpness grid over the mean of the 48
cells of the metering grid (R134; DESIGN CHOICE, log entry 200). -/
def contrastS (sharp meter : List Nat) : Int :=
  let p95 := (sharp.mergeSort fun a b => decide (a ≤ b)).getD 182 0
  let total := meter.foldl (· + ·) 0
  if total = 0 then 0 else ((p95 * 48 * 65536 / total : Nat) : Int)

/-- A queue holds an exposure or gain change: a sensor write, or GAIN or EXPNS (R134, R323, R324). -/
def Cam.exposes (c : Cam) : Bool := c.queue.any fun e => e.kind == 1 || (e.kind == 2 && (e.addr == 2 || e.addr == 3))

/-- S of a frame, taken by the default program (R360), joins those of the running hour, where no queued change has been applied to it or waits (R134; log entry 200). -/
def State.takeSharp (s : State) (p : Nat) (f : Frame) (sc : Scene) : State :=
  let runs := (s.sliceOf p).any fun sl => s.defaultRuns sl p
  if runs = false ∨ s.pstate p ≠ psStreaming ∨ (s.camOf p).exposes ∨ f.qappl ≠ 0 then s
  else
    let sh := sc.sharpness
    let mt := sc.metering
    let v := contrastS ((List.range 192).map fun k => fieldAt sh (4 * k) 4) ((List.range 48).map fun k => fieldAt mt (8 * k) 4)
    let x := s.port p
    s.setPort p { x with sharp := v :: x.sharp }

/-- STATS_SET_COMPLETE: the set of a frame goes to a bank of the slice that serves its camera, its engine is told, and the set or
its record goes to the statistics stream (R316, R318, R320). -/
def State.statsComplete (s : State) (p : Nat) (f : Frame) (src : Nat) : State :=
  let sid := sidOf p 4
  let dst := (s.sliceOf p).getD src
  let bank := 1 - s.fld (SL.STSTAT_BANK dst)
  let base := statsBase dst + 0x3C00 * bank
  let sc := s.scene p f
  let (body, bad) := s.unpoisoned (statsBase src + 0x3C00 * (1 - s.fld (SL.STSTAT_BANK src))) sc.statBody
  let s := if bad then s.report 0x3042 src p else s
  let fl := b2n bad + 2 * b2n (dst != src)
  let x := s.stream sid
  let hdr := s.statHdr p f x.fseq f.integ f.sflags body.length sc.white f.gain fl
  let s := (s.store base (statSet hdr body)).setFlds [(SL.STSTAT_BANK dst, bank), (SL.STFN_FN dst, f.fn)]
  let s := s.postCam p evStatrdy [f.fn, bank, 0, 0]
  let only := CfgSet.fld f.set 3 sid (SL.STCTL_STATPOL 0) = 1 && f.damaged
  let s := if only then s.statRecord p f (dropped f.integ) f.sflags
    else if !x.opened then s
    else if !s.fits sid (statSet hdr body).length then s.statRecord p f f.integ f.sflags
    else (s.pushOrLose sid ⟨.stats, f.fn, x.fseq, statSet hdr body, 0⟩).setStream sid { x with fseq := (x.fseq + 1) % 2 ^ 32, lastFn := f.fn }
  let s := s.takeSharp p f sc
  let s := s.editFrame p f.fn fun y => { y with statsDone := true }
  (s.settle p).sweep p

/-- STATS_SET_COMPLETE (R316). -/
def execStatsSetComplete (port : Port) (fn : Word) (s : State) : Out :=
  let p := port.val
  .next (match s.frameOf p fn.toNat with
    | none => s
    | some f =>
      match f.slice with
      | none => s
      | some sl => if !s.domainOn .pixel || !f.closed || f.statsDone || f.skipWhy != 0 then s else s.statsComplete p f sl)

/-! ## Latches and the queue's clock (R202, R324 to R328, R331) -/

/-- MOTION_DEADLINE: line 0 of a frame reaches step 8 (R202). -/
def execMotionDeadline (port : Port) (fn : Word) (s : State) : Out :=
  .next (if s.domainOn .pixel then s.latchField port.val 1 fn.toNat else s)

/-- PQ_PIPE_LATCH: a PIPE field is taken for the oldest frame that has not latched it (R324). EXPNS is taken by TRIGGER_DISPATCH. -/
def execPqPipeLatch (port : Port) (field : BitVec 16) (s : State) : Out :=
  let p := port.val
  let l := (s.camOf p).frames.reverse ++ (s.openFrame p).toList
  .next (if !s.domainOn .pixel || !pipeFields.contains field.toNat then s
    else
      match l.find? fun f => !f.ring && !f.latched.contains field.toNat with
      | some f => s.latchField p field.toNat f.fn
      | none => s)

/-- A SENSOR entry whose dispatch window is open and that waits for nothing else, not even the 20 µs after a migration (R325, R327, R331,
R333). -/
def State.maySend (s : State) (p : Nat) (e : PqEntry) : Bool :=
  let g := s.ingest p
  let w := s.wwin p
  e.kind == 1 && !e.sent && (s.camOf p).mayProceed e
    && (e.tfn + 2 ^ 32 - s.pqLatency p e) % 2 ^ 32 == g.lastFN
    && decide (g.boundary + w.1 ≤ s.now ∧ s.now + 100000 ≤ g.boundary + w.2)
    && decide ((s.camOf p).dispatchFrom ≤ s.clock) && !(s.port p).queue.any fun c => c.origin == .queue e.seq

/-- PQ_SENSOR_DISPATCH: the sensor writes of open windows are issued as REG_WRITEs of class 3, in order (R117, R325). -/
def execPqSensorDispatch (port : Port) (s : State) : Out :=
  let p := port.val
  .next (if !s.domainOn .pixel || s.standby p then s
    else ((s.camOf p).queue.filter (s.maySend p)).foldl
      (fun s e => s.bcQueue p (cmdWrite 3 e.addr (leBytes e.len e.data) (.queue e.seq))) s)

/-- PQ_DEADLINE_PASS: entries and groups whose deadline has passed move to a later frame (R328). -/
def execPqDeadlinePass (port : Port) (s : State) : Out :=
  .next (if s.domainOn .pixel then s.pqDeadlines port.val (s.camOf port.val).queue else s)

/-- STREAM_STATUS_REPEAT: a STATUS repeats while its condition holds (R299). -/
def execStreamStatusRepeat (sid : BitVec 12) (s : State) : Out :=
  let x := s.stream sid.toNat
  .next (if !s.domainOn .uplink || !x.opened || !isImageSid sid.toNat || s.unended (sid.toNat / 8) (sid.toNat % 8) != []
      || x.due != [] then s
    else
      match x.shown with
      | some r => s.statusNow (sid.toNat / 8) sid.toNat r
      | none => s)

/-! ## Clears (R213, R305, R334) -/

/-- NR_COUNTER_CLEAR (R213). -/
def execNrCounterClear (sl : Slice) (s : State) : Out :=
  .next (if s.domainOn .pixel then (s.setReg (SL.NRCNT0 sl) 0).setReg (SL.NRCNT1 sl) 0 else s)

/-- OUTPUT_COUNTER_CLEAR (R305). -/
def execOutputCounterClear (sl : Slice) (k : Fin 4) (s : State) : Out :=
  .next (if s.domainOn .pixel then (s.setReg (SL.OCNT sl k) 0).setReg (SL.OCNT2 sl k) 0 else s)

/-- STATS_COUNTER_CLEAR (R334). -/
def execStatsCounterClear (sl : Slice) (s : State) : Out :=
  .next (if s.domainOn .pixel then ((s.setReg (SL.PQCNT0 sl) 0).setReg (SL.PQCNT1 sl) 0).setReg (SL.PQCNT2 sl) 0 else s)

/-- READLATE_CLEAR (R334). -/
def execReadlateClear (sl : Slice) (s : State) : Out :=
  .next (if s.domainOn .pixel then s.setFld (SL.STSTAT_READLATE sl) 0 else s)

/-! ## The reserve ring read (R497) -/

/-- A frame of the ring begins in the slice of its camera, if it has one: it takes its reference, warp buffer and stores as at a
boundary. -/
def State.ringBegin (s : State) (p : Nat) (f : Frame) : State × Frame :=
  let why := if (s.sliceOf p).isNone then 9 else 0
  let f := { f with ring := false, replay := true, slice := s.sliceOf p, skipWhy := why, statsDone := false }
  let (s, f) := s.openStores p f (List.range 4)
  match f.slice with
  | none => (s, f)
  | some sl =>
    let (s, f) := s.openTnr p sl f
    s.openWarp p f

/-- The next frame of a ring start is read (R497): a whole one from its slot, the open one behind its writer; a slot already
overwritten is accounted for as lost. -/
def State.ringRead (s : State) (p : Nat) : State :=
  let run := s.pair.runs.get p { handover := false, g := 0, next := 0 }
  let ahead := s.setPair { s.pair with runs := s.pair.runs.set p { run with next := (run.next + 1) % 2 ^ 32 } }
  let tell := fun (s : State) (f : Frame) => match f.slice with
    | some sl => s.openEngine p sl f
    | none => s
  match (s.ingest p).frame with
  | some f =>
    if f.fn = run.next ∧ f.ring then
      let (s, f) := ahead.ringBegin p f
      tell (s.setFrame p f) f
    else ringSlot s ahead tell run
  | none => ringSlot s ahead tell run
where
  ringSlot (s ahead : State) (tell : State → Frame → State) (run : RingRun) : State :=
    match (s.pair.ring.get p []).find? fun f => f.fn == run.next with
    | some f =>
      let (s, f) := ahead.ringBegin p f
      let s := s.setCam p { s.camOf p with frames := f :: (s.camOf p).frames }
      (tell s f).afterClose p f
    | none =>
      if 0 ≤ fnAhead run.next (s.ingest p).lastFN then s
      else
        match (s.pair.ring.get p []).head? with
        | none => s
        | some g =>
          let f := missingFrame run.next g
          let s := ahead.setCam p { s.camOf p with frames := f :: (s.camOf p).frames }
          (s.skipStats p f).settle p

/-- RING_READ_FRAME (R497). -/
def execRingReadFrame (port : Port) (s : State) : Out :=
  let p := port.val
  let r := s.pair.runs.get p { handover := false, g := 0, next := 0 }
  .next (if s.domainOn .pixel && s.pair.runs.has p && r.ready then s.ringRead p else s)

end Sys2Proof.Machine
end

