-- ==== Sys2Proof/Machine/Lattices.lean ====
section
/-!
DEFINITION. Lattices: which contributor frames a lattice frame takes, the mapping of a canvas pixel, blending, tiles, the record,
and the events of assembly (spec/09_geometry_lattice.md R258 to R278, spec/10_outputs.md R300, spec/11_stats_params.md R319).
-/
namespace Sys2Proof.Machine

/-! ## Definitions of a lattice (R258, R275) -/

def State.setLat (s : State) (n : Nat) (x : LatSt) : State := { s with lats := s.lats.set n x }

/-- A port is served by this device, as far as roles go. -/
def State.servedHere (s : State) (p : Nat) : Bool := !s.mirrors || s.primaryHere p

/-- This device assembles a lattice: it is the primary of its lowest-numbered contributor (R260, R275). -/
def State.latOwner (s : State) (c : CfgSet) (n : Nat) : Bool :=
  match (CfgSet.latSlots c n).map (·.2) with
  | [] => true
  | p :: r => s.servedHere (r.foldl min p)

/-- The contributors of a lattice are on two devices (R275). -/
def State.latSplit (s : State) (c : CfgSet) (n : Nat) : Bool :=
  let l := (CfgSet.latSlots c n).map fun e => s.servedHere e.2
  l.contains true && l.contains false

/-- The contributor frame of a slot for a target, with its buffer (R269). -/
def State.latFind (s : State) (n : Nat) (f : LatFrame) (slot port : Nat) : Option LatSlot :=
  let g := CfgSet.fld f.set 4 n (LT.LCTL_GROUP 0)
  let per := CfgSet.grpPeriod f.set g
  let hit := fun x : Frame =>
    let a : Int := (x.tfirst : Int) - (if CfgSet.grpAlign f.set g = 0 then (x.expl / 2 : Nat) else 0)
    decide (2 * (f.target : Int) - per ≤ 2 * a ∧ 2 * a < 2 * (f.target : Int) + per)
  if !s.servedHere port then none
  else ((s.camOf port).warps.find? fun (e : Nat × Frame) => hit e.2).map fun e => ⟨slot, port, e.1, e.2⟩

/-- VALID in the header of a slot's buffer. -/
def State.latValid (s : State) (x : LatSlot) : Bool := bit (s.num (x.base + 9) 1) 0 && s.num x.base 4 == x.frame.fn

/-- DAMAGED in the header of a slot's buffer. -/
def State.latDamaged (s : State) (x : LatSlot) : Bool := bit (s.num (x.base + 9) 1) 1

/-- The slots of a lattice frame that have a valid frame. -/
def State.latFound (s : State) (n : Nat) (f : LatFrame) : List LatSlot :=
  ((CfgSet.latSlots f.set n).filterMap fun e => s.latFind n f e.1 e.2).filter s.latValid

/-- A lattice frame may start: every contributor is valid, or its deadline has come (R269). -/
def State.latReady (s : State) (n : Nat) (f : LatFrame) : Bool :=
  decide (f.dead ≤ s.now) || (s.latFound n f).length == (CfgSet.latSlots f.set n).length

/-! ## The view of a contributor (R262) -/

/-- What assembly takes of one slot: HINV, sizes, mesh, times and its buffer. `present` is none for a slot with no frame. -/
structure LatView where
  slot : Nat
  gs : Nat
  hinv : List (Option Rat)
  ow : Nat
  oh : Nat
  mesh : Option (List Byte)
  tfirst : Nat
  linet : Nat
  present : Bool
  ldmg : Bool
  src : WSrc
  lwr : Nat
  hgain : Nat
  border : Nat × Nat × Nat
  deriving DecidableEq, Repr

/-- The view of a slot under a set of its camera. -/
def LatBusy.view (b : LatBusy) (n : Nat) (e : Nat × Nat) : LatView :=
  let c := b.frame.set
  let x := b.slots.find? fun x => x.slot == e.1
  let cs : CfgSet := match x with
    | some x => x.frame.set
    | none => c
  let p := e.2
  let warp := CfgSet.flag cs 2 p (SL.WCTL_WARP_EN 0)
  let sw := match x with
    | some x => x.frame.width
    | none => CfgSet.fld cs 1 p (HP.INGGEOM_WIDTH 0)
  let sh := match x with
    | some x => x.frame.height
    | none => CfgSet.fld cs 1 p (HP.INGGEOM_HEIGHT 0)
  let base := (x.map (·.base)).getD 0
  let num := fun o k => leNat (Memory.getList b.mem (base + o) k)
  { slot := e.1, gs := CfgSet.fld c 4 n (LTS.CGS_GS 0 e.1),
    hinv := (List.range 9).map fun k => f32Of (CfgSet.fld c 4 n (LTS.CH_HINV 0 e.1 k)),
    ow := if warp then CfgSet.fld cs 2 p (SL.WOSIZE_OW 0) else sw, oh := if warp then CfgSet.fld cs 2 p (SL.WOSIZE_OH 0) else sh,
    mesh := if warp then some (CfgSet.item cs 2 p 0x8004 []) else none,
    tfirst := if x.isSome then num 0x10 8 else b.frame.tref, linet := if x.isSome then num 0x18 4 else 0,
    present := bit b.present e.1, ldmg := CfgSet.flag c 4 n (LT.LCTL_LDMG 0),
    src := ⟨b.mem, b.poison ++ (x.map (·.frame.badReads)).getD [], base, sw, sh, (x.map (·.frame.planes)).getD 0⟩, lwr := num 0x0A 2, hgain := num 0x0E 2,
    border := (CfgSet.fld cs 2 p (SL.WBORDER_BY 0), CfgSet.fld cs 2 p (SL.WBORDER_BC 0), CfgSet.fld cs 2 p (SL.WBORDER2_BN 0)) }

/-- A rational rounded half up to 1/256. -/
def to256 (x : Rat) : Rat := mkRat (roundHalf (256 * x)) 256

/-- The point of the ground at a time as the vehicle frame of that time gives it (R262). -/
def groundAt (x y : Option Rat) (v om : Option Rat) (dns : Rat) : Option Rat × Option Rat :=
  let dt := f32Round (dns / 1000000000)
  let d := f32Mul v dt
  let th := f32Mul om dt
  let half := f32Div th (some 2)
  let qx := f32Sub x (f32Mul d (f32Cos half))
  let qy := f32Sub y (f32Mul d (f32Sin half))
  (f32Add (f32Mul qx (f32Cos th)) (f32Mul qy (f32Sin th)), f32Sub (f32Mul qy (f32Cos th)) (f32Mul qx (f32Sin th)))

/-- HINV applied to a ground point, rounded to 1/256 px (R258, R262). -/
def LatView.warped (w : LatView) (g : Option Rat × Option Rat) : Option (Rat × Rat) :=
  let h := fun k => w.hinv.getD k none
  let row := fun k => f32Add (f32Add (f32Mul (h k) g.1) (f32Mul (h (k + 1)) g.2)) (h (k + 2))
  match f32Div (row 0) (row 6), f32Div (row 3) (row 6) with
  | some x, some y => some (to256 x, to256 y)
  | _, _ => none

/-- The source position of a warped position, in 1/256 px (R251, R257). -/
def LatView.source (w : LatView) (q : Rat × Rat) : Option (Int × Int) :=
  match w.mesh with
  | some m => meshAt m w.ow w.oh q.1 q.2
  | none => some (roundHalf (256 * q.1), roundHalf (256 * q.2))

/-- One round of R262 from a time: positions and the next time, ns. -/
def LatView.round (w : LatView) (x y v om : Option Rat) (tref : Nat) (t : Rat) : Option ((Rat × Rat) × (Int × Int) × Rat) :=
  match w.warped (groundAt x y v om (t - ((tref : Nat) : Int))) with
  | none => none
  | some q =>
    match w.source q with
    | none => none
    | some sp => some (q, sp, ((w.tfirst : Nat) : Int) + mkRat sp.2 256 * mkRat w.linet 256)

/-- The position of a canvas pixel in a contributor and its capture time (R262). -/
def LatView.map (w : LatView) (x y v om : Option Rat) (tref : Nat) : Option ((Rat × Rat) × (Int × Int) × Rat) :=
  let t0 : Rat := ((w.tfirst : Nat) : Int) + mkRat ((w.src.sh : Int) - 1) 2 * mkRat w.linet 256
  match w.round x y v om tref t0 with
  | none => none
  | some (_, _, t1) => w.round x y v om tref t1

/-- A point is covered but for line states (R263). -/
def LatView.would (w : LatView) (q : Rat × Rat) (sp : Int × Int) : Bool :=
  decide (0 ≤ q.1 ∧ q.1 ≤ (((w.ow - 1 : Nat) : Int) : Rat) ∧ 0 ≤ q.2 ∧ q.2 ≤ (((w.oh - 1 : Nat) : Int) : Rat)) && inSource w.src.sw w.src.sh sp

/-- The line of a point is usable (R263). -/
def LatView.lineGood (w : LatView) (sp : Int × Int) : Bool :=
  let y := hold w.src.sh ((sp.2 + 128) / 256)
  let st := leNat (Memory.getList w.src.mem (w.src.base + 64 + y) 1)
  w.ldmg || ((st == 0 || st == 5 || st == 6) && decide (y < w.lwr))

/-- Eight-bit or 16-bit samples of a contributor: Y, chroma of an even or odd pixel, N, index (R252, R257, R259). -/
def LatView.sampleY (w : LatView) (sp : Int × Int) : Nat :=
  (bilinear (w.src.comp (if bit w.src.planes 0 then 0 else 3) 0) sp.1 sp.2).getD (to8 w.border.1)
def LatView.sampleC (w : LatView) (sp : Int × Int) (odd : Bool) : Nat :=
  (bilinear (w.src.comp 0 (if odd then 2 else 1)) ((sp.1 + 1) / 2) sp.2).getD (to8 w.border.2.1)
def LatView.sampleN (w : LatView) (sp : Int × Int) : Nat := (bilinear (w.src.comp 4 6) sp.1 sp.2).getD (to8 w.border.2.2)
def LatView.sampleI (w : LatView) (bn : Nat) (sp : Int × Int) : Nat :=
  (w.src.comp bn 7 ((sp.1 + 128) / 256) ((sp.2 + 128) / 256)).getD (if bn = 6 then 0x80 else 0x8000)

/-! ## One canvas pixel (R263 to R267, R272) -/

/-- What a canvas pixel gives: its bytes, the times used, the slots that cover it with Y before HGAIN, and what tells the tile's
state. -/
structure LatPix where
  bytes : List Byte
  times : List Rat
  ys : List (Nat × Nat)
  hit : Bool
  missing : Bool
  excluded : Bool

/-- A contributor at a pixel: its view, weight, distance and source position. -/
structure LatHit where
  w : LatView
  wt : Nat
  sp : Int × Int
  t : Rat

/-- The distance de of R265 times GS. -/
def LatView.reach (w : LatView) (q : Rat × Rat) : Rat :=
  let de := min (min q.1 (((w.ow - 1 : Nat) : Int) - q.1)) (min q.2 (((w.oh - 1 : Nat) : Int) - q.2))
  de * mkRat w.gs 256

/-- The hit of greatest weight, the lowest slot among equals. -/
def bestHit : List LatHit → Option LatHit
  | [] => none
  | h :: r => some (r.foldl (fun a b => if a.wt < b.wt then b else a) h)

/-- The k hits of greatest weight, the lowest slots among equals (R265). -/
def topHits : Nat → List LatHit → List LatHit
  | 0, _ => []
  | k + 1, l =>
    match bestHit l with
    | none => []
    | some h => h :: topHits k (l.filter fun x => x.w.slot != h.w.slot)

/-- The weighted mean of R266. -/
def blend (l : List (Nat × Nat)) : Nat :=
  let sw := sumN (l.map (·.1))
  if sw = 0 then 0 else (sumN (l.map fun e => e.1 * e.2) + sw / 2) / sw

/-- Canvas pixel (u, v) of a lattice frame, with the slots that are gone for its tile (R261 to R266). -/
def LatBusy.pixel (b : LatBusy) (n : Nat) (views : List LatView) (gone : List Nat) (u v : Nat) : LatPix :=
  let c := b.frame.set
  let org := fun f : Fld => mkRat (CfgSet.sfld c 4 n f) 65536
  let gsd := mkRat (CfgSet.fld c 4 n (LT.LGSD_GSD 0)) 65536000
  let x := f32Round (org (LT.LXORG_XORG 0) - mkRat (2 * v + 1 : Nat) 2 * gsd)
  let y := f32Round (org (LT.LYORG_YORG 0) - mkRat (2 * u + 1 : Nat) 2 * gsd)
  let vel := f32Round (mkRat b.v 65536)
  let om := f32Round (mkRat b.omega 65536)
  let maps := views.filterMap fun w => match w.map x y vel om b.frame.tref with
    | some (q, sp, t) => if w.would q sp then some (w, q, sp, t) else none
    | none => none
  let here := maps.filter fun (e : LatView × (Rat × Rat) × (Int × Int) × Rat) => e.1.present && !gone.contains e.1.slot
  let good := here.filter fun (e : LatView × (Rat × Rat) × (Int × Int) × Rat) => e.1.lineGood e.2.2.1
  let glaze := min 4096 (CfgSet.fld c 4 n (LT.LGLAZE_GLAZE 0))
  let weight := fun (e : LatView × (Rat × Rat) × (Int × Int) × Rat) =>
    if glaze = 0 then 256 else (max 1 (min 256 (256 * e.1.reach e.2.1 / ((glaze : Nat) : Int)).floor)).toNat
  let best := good.foldl (fun (a : Rat) e => max a (e.1.reach e.2.1)) (-1)
  let kept := if glaze = 0 then (good.filter fun e => e.1.reach e.2.1 == best).take 1 else good
  let hits := kept.map fun e => (⟨e.1, weight e, e.2.2.1, e.2.2.2⟩ : LatHit)
  let top := topHits 4 hits
  let lf := CfgSet.fld c 4 n (LT.LCTL_LFMT 0)
  let gained := fun (h : LatHit) (p : Nat) => min ((p * h.w.hgain + 8192) / 16384) 255
  let bg0 := CfgSet.fld c 4 n (LT.LBG_BG0 0)
  let bg1 := CfgSet.fld c 4 n (LT.LBG_BG1 0)
  let bytes := match bestHit top with
    | none =>
      if lf = 3 then leBytes 2 bg0 else leBytes 1 (to8 bg0) ++ leBytes 1 (if lf = 1 then bg1 % 256 else to8 bg1)
    | some h =>
      let lum := blend (top.map fun h => (h.wt, gained h (h.w.sampleY h.sp)))
      if lf = 3 then leBytes 2 (h.w.sampleI 7 h.sp)
      else if lf = 1 then leBytes 1 lum ++ leBytes 1 (h.w.sampleI 6 h.sp)
      else if lf = 2 then leBytes 1 lum ++ leBytes 1 (blend (top.map fun h => (h.wt, gained h (h.w.sampleN h.sp))))
      else leBytes 1 lum ++ leBytes 1 (blend (top.map fun h => (h.wt, h.w.sampleC h.sp (u % 2 == 1))))
  { bytes := bytes, times := top.map (·.t), ys := if lf = 3 then [] else good.map fun e => (e.1.slot, e.1.sampleY e.2.2.1),
    hit := maps != [], missing := maps.any fun e => !e.1.present || gone.contains e.1.slot, excluded := good.length < here.length }

/-! ## The whole frame (R267, R272, R273) -/

/-- Tiles across and down. -/
def CfgSet.latTiles (c : CfgSet) (n : Nat) : Nat × Nat := (ceilDiv (CfgSet.latW c n) 256, ceilDiv (CfgSet.latH c n) 256)

/-- The pixels of the canvas, row by row. -/
def LatBusy.canvas (b : LatBusy) (n : Nat) : List (List LatPix) :=
  let c := b.frame.set
  let views := (CfgSet.latSlots c n).map (b.view n)
  let tw := (CfgSet.latTiles c n).1
  (List.range (CfgSet.latH c n)).map fun v => (List.range (CfgSet.latW c n)).map fun u =>
    let tile := v / 256 * tw + u / 256
    b.pixel n views ((b.gone.filter fun g => decide (g.2 ≤ tile)).map (·.1)) u v

/-- The state of a tile from its pixels (R272). -/
def tileState (l : List LatPix) : Nat :=
  if l.all fun x => !x.hit then 3
  else if l.any fun x => x.missing then 2
  else if l.any fun x => x.excluded then 1
  else 0

/-- The states of the tiles in raster order. -/
def CfgSet.latStates (c : CfgSet) (n : Nat) (rows : List (List LatPix)) : List Nat :=
  let (tw, th) := CfgSet.latTiles c n
  (List.range (tw * th)).map fun k =>
    tileState (((rows.drop (k / tw * 256)).take 256).flatMap fun r => (r.drop (k % tw * 256)).take 256)

/-- The tile map (R272). -/
def tileMap (l : List Nat) : List Byte :=
  (List.range (ceilDiv l.length 4)).map fun b => BitVec.ofNat 8 (sumN ((List.range 4).map fun i => l.getD (4 * b + i) 0 * 4 ^ i))

/-- The 64-byte record of a lattice frame (R273). -/
def latRecord (f : LatFrame) (flags tfirst tlast expect present damaged late tko ntile : Nat) : List Byte :=
  layout [(4, f.lfn), (4, flags), (8, f.tref), (8, tfirst), (8, tlast), (4, f.gen), (4, expect), (4, present), (4, damaged), (4, late),
    (4, tko), (2, ntile), (6, 0)]

/-- Slots as a mask. -/
def slotMask (l : List Nat) : Nat := sumN (l.eraseDups.map fun k => 2 ^ k)

/-- The header of an item of a lattice stream (R300). -/
def State.latHdr (s : State) (n hkind : Nat) (f : LatFrame) (fseq sflags tfirst tlast trlen : Nat) : Hdr :=
  { sid := latSid n, hkind := hkind, fmt := 0x10 + CfgSet.fld f.set 4 n (LT.LCTL_LFMT 0), fn := f.lfn, fseq := fseq, gen := f.gen,
    tfirst := tfirst, tlast := if hkind = 1 then 0 else tlast, sflags := sflags, dw := CfgSet.latW f.set n, dh := CfgSet.latH f.set n,
    trlen := trlen, dev := s.dev, crop0 := 0, crop1 := 0, serial := List.replicate 16 0, wear := 0, auth := 0 }

/-- SFLAGS of an item of a lattice stream: TAKEOVER, TIME-STEP, FMT-FIRST (R151, R294, R300). -/
def State.latFlags (s : State) (n : Nat) (tko : Bool) : Nat :=
  let x := s.stream (latSid n)
  2 * b2n tko + 4 * b2n x.timeStep + 4096 * b2n x.fmtFirst

/-- Times of a frame's pixels, least and greatest, Tref where none is used (R273). -/
def latTimes (f : LatFrame) (rows : List (List LatPix)) : Nat × Nat :=
  let l := rows.flatMap fun r => r.flatMap fun x => x.times.map fun t => t.floor.toNat
  match l with
  | [] => (f.tref, f.tref)
  | t :: r => (r.foldl min t, r.foldl max t)

/-- Streams of lattices open and change with a FORMAT_CHANGE before the frame (R303). -/
def State.latAnnounce (s : State) (n : Nat) (f : LatFrame) : State :=
  let sid := latSid n
  let x := s.stream sid
  let fmt := CfgSet.formatOf f.set sid
  if x.opened && x.fmt == fmt then s else s.formatChange sid fmt (if x.opened then 1 else 0) f.lfn f.gen

/-- The motion that a lattice frame takes: the update nearest Tref within 200 ms (R264). -/
def State.latMotion (s : State) (tref : Nat) : Option (Int × Int) :=
  let d := fun (m : Nat × Int × Int) => ((m.1 : Int) - (tref : Int)).natAbs
  match s.motions.filter fun m => decide (d m ≤ 200000000) with
  | [] => none
  | m :: r => some (r.foldl (fun a b => if d b < d a then b else a) m).2

/-- LATTICE_ASSEMBLY_START: the lattice frame of the earliest deadline among those ready starts while the LAT is idle and its
canvas has been read (R269, R275); START leaves (R300). -/
def State.latStart (s : State) (n : Nat) (f : LatFrame) : State :=
  let x := s.lat n
  let c := f.set
  let found := s.latFound n f
  let ldmg := CfgSet.flag c 4 n (LT.LCTL_LDMG 0)
  let damaged := found.filter s.latDamaged
  let present := found.filter fun e => !(ldmg && s.latDamaged e)
  let split := s.latSplit c n
  let s := if split && !x.split then s.report 0x4004 n 0 else s
  let mot := s.latMotion f.tref
  let s := if mot.isNone then s.report 0x4001 n f.lfn else s
  let (tw, th) := CfgSet.latTiles c n
  let s := s.latAnnounce n f
  let y := s.stream (latSid n)
  let m := mot.getD (0, 0)
  let b : LatBusy := ⟨f, found, slotMask (present.map (·.slot)), slotMask (damaged.map (·.slot)),
    slotMask ((found.filter fun e => e.frame.replay && bit e.frame.sflags 1).map (·.slot)), m.1, m.2, mot.isNone, tw * th, s.mem, s.memx.poison,
    [], y.fseq, false⟩
  let s := s.setStream (latSid n) { y with fseq := (y.fseq + 1) % 2 ^ 32 }
  let h := s.latHdr n 1 f b.fseq (s.latFlags n f.tkover) (latTimes f (b.canvas n)).1 0 0
  let u : EgUnit := ⟨.start, f.lfn, b.fseq, h.bytes, 0⟩
  let shed := (s.stream (latSid n)).shed
  let (b, s) :=
    if shed ∨ !s.uplCarries then ({ b with dead := true }, if shed then s.countShed else s)
    else if s.fits (latSid n) u.bytes.length then (b, s.push (latSid n) u)
    else ({ b with dead := true }, (s.bump UPL.UPCNT4_EGOVF 1).report 0x0811 (latSid n) 0)
  let s := s.setFlds [(LT.LMOTV_V n, unsigned 32 m.1), (LT.LMOTW_OMEGA n, unsigned 32 m.2),
    (LAT.LATSTAT_BUSY, withBit (s.fld LAT.LATSTAT_BUSY) n true)]
  s.setLat n { x with frames := x.frames.tail, busy := some b, split := split }

/-- LATTICE_ASSEMBLY_START. -/
def execLatticeAssemblyStart (lat : Lattice) (s : State) : Out :=
  let n := lat.val
  .next (match (s.lat n).frames with
    | [] => s
    | f :: _ =>
      let idle := s.lats.all fun (e : Nat × LatSt) => e.2.busy.isNone
      let rival := s.lats.any fun (e : Nat × LatSt) => e.1 != n && match e.2.frames with
        | g :: _ => s.latOwner g.set e.1 && s.latReady e.1 g && decide (g.dead < f.dead)
        | [] => false
      let reading := (s.fifo (latSid n)).any fun u => u.fn == (f.lfn + 2 ^ 32 - 2) % 2 ^ 32
      if s.domainOn .pixel && idle && !rival && !reading && s.latOwner f.set n && s.latReady n f && decide (s.now < f.limit)
      then s.latStart n f else s)

/-! ## Delivery (R267, R300, R319) -/

/-- Counts and sums of Y over the pixels that two slots both cover: (count, sum of a, sum of b) (R267). -/
def overlapSums (rows : List (List LatPix)) (a b : Nat) : Nat × Nat × Nat :=
  let get := fun (x : LatPix) k => (x.ys.find? fun e => e.1 == k).map (·.2)
  rows.foldl (fun z r => r.foldl (fun (z : Nat × Nat × Nat) x => match get x a, get x b with
    | some p, some q => (z.1 + 1, z.2.1 + p, z.2.2 + q)
    | _, _ => z) z) (0, 0, 0)

/-- The k neighbours of the largest counts, the lowest slots among equals (R267). -/
def topCounts : Nat → List (Nat × Nat × Nat × Nat) → List (Nat × Nat × Nat × Nat)
  | 0, _ => []
  | k + 1, l =>
    match l with
    | [] => []
    | h :: r =>
      let b := r.foldl (fun (a b : Nat × Nat × Nat × Nat) => if a.2.1 < b.2.1 then b else a) h
      b :: topCounts k (l.filter fun e => e.1 != b.1)

/-- The overlap record of a contributor (R319). -/
def LatBusy.overlapRecord (b : LatBusy) (n : Nat) (rows : List (List LatPix)) (views : List LatView) (w : LatView) : List Byte :=
  let pres := views.filter (·.present)
  let others := (pres.filter fun v => v.slot != w.slot).map fun v => (v.slot, overlapSums rows w.slot v.slot)
  let nb := topCounts 4 (others.filter fun e => e.2.1 != 0)
  let port := fun t => CfgSet.fld b.frame.set 4 n (LTS.CPORT_PORT 0 t)
  let hg := fun t => ((pres.find? fun v => v.slot == t).map (·.hgain)).getD 0
  let mean := sumN (pres.map (·.hgain)) / max 1 pres.length
  let ent := nb.flatMap fun e => layout [(1, port e.1), (1, e.1), (2, 0), (4, e.2.1), (8, e.2.2.1), (8, e.2.2.2), (2, hg e.1), (6, 0)]
  bytesAt (layout [(4, b.frame.lfn), (1, n), (1, nb.length), (1, w.slot), (1, 0), (2, w.hgain), (2, mean), (4, 0)] ++ ent) 0 256

/-- HGAIN that the default program queues after an overlap record; none where the record names no neighbour with a usable ratio
(R267, R319). -/
def hgainOf (r : List Byte) : Option Nat :=
  let hg := fieldAt r 8 2
  let mean := fieldAt r 10 2
  let one := fun i : Nat =>
    let o := 16 + 32 * i
    let mine := fieldAt r (o + 8) 8 * hg
    if mine = 0 then none else some (mkRat (fieldAt r (o + 16) 8 * fieldAt r (o + 24) 2 : Nat) mine)
  let rs := (List.range (fieldAt r 5 1)).filterMap one
  if rs = [] ∨ mean = 0 then none
  else
    let m := sumQ rs / ((rs.length : Nat) : Int)
    let v := mkRat hg mean * (1 + (m - 1) / 4)
    some (clamp 0x2000 0x8000 (roundHalf (v * 16384))).toNat

/-- The default program harmonises: HGAIN queued for the camera's next frame (R267, R360). -/
def State.hgainPost (s : State) (p sl : Nat) (r : List Byte) : State :=
  match hgainOf r with
  | some v => if s.defaultRuns sl p then s.programPost p 0x20 ((s.fnOpen p + 1) % 2 ^ 32) v else s
  | none => s

/-- Overlap records written to the contributors' slices, and their engines told (R267, R319). -/
def State.giveOverlaps (s : State) (n : Nat) (b : LatBusy) (rows : List (List LatPix)) (views : List LatView) : List LatView → State
  | [] => s
  | w :: r =>
    let p := CfgSet.fld b.frame.set 4 n (LTS.CPORT_PORT 0 w.slot)
    let s := match s.sliceOf p with
      | some sl =>
        let r := b.overlapRecord n rows views w
        ((s.store (statsBase sl + 0x7800) r).post sl evStatrdy [b.frame.lfn, 2, n, 0]).hgainPost p sl r
      | none => s
    s.giveOverlaps n b rows views r

/-- Rows of the canvas pushed to the stream; false once one does not fit (R389). -/
def State.pushRows (s : State) (n : Nat) (f : LatFrame) (fseq : Nat) : List (Nat × List Byte) → Bool × State
  | [] => (true, s)
  | (j, l) :: r =>
    let u : EgUnit := ⟨.line, f.lfn, fseq, layout [(8, f.tref), (2, j), (1, 0), (5, 0)] ++ bytesAt l 0 (padTo 8 l.length), 0⟩
    if s.fits (latSid n) u.bytes.length then (s.push (latSid n) u).pushRows n f fseq r else (false, s)

/-- The NOTICE of a lattice frame: header and record (R295, R300). -/
def State.latNotice (s : State) (n : Nat) (f : LatFrame) (fseq integ sflags tfirst tlast : Nat) (r : List Byte) : State :=
  let h := { s.latHdr n 3 f fseq sflags tfirst tlast 64 with integ := integ }
  let s := s.pushOrLose (latSid n) ⟨.notice, f.lfn, fseq, h.bytes ++ r, 0⟩
  s.setStream (latSid n) { s.stream (latSid n) with lastFn := f.lfn, fmtFirst := false, timeStep := false }

/-- A record shown at LRECk, with its LFN (R273, R278). -/
def State.showLrec (s : State) (n lfn : Nat) (r : List Byte) : State :=
  s.setFlds ((LT.LLFN_LFN n, lfn) :: (List.range 16).map fun k => (LT.LREC_REC n k, fieldAt r (4 * k) 4))

/-- LATTICE_ASSEMBLY_END (R267, R271 to R273, R275, R300). -/
def State.latEnd (s : State) (n : Nat) (b : LatBusy) : State :=
  let f := b.frame
  let c := f.set
  let rows := b.canvas n
  let states := CfgSet.latStates c n rows
  let slots := CfgSet.latSlots c n
  let expect := slotMask (slots.map (·.1))
  let closedNow := fun (e : Nat × Nat) => !(b.slots.any fun x => x.slot == e.1) && (s.latFind n f e.1 e.2).any fun x => s.latValid x
  let late := slotMask ((slots.filter closedNow).map (·.1) ++ b.gone.map (·.1))
  let tm := latTimes f rows
  let fl := b2n (b.present != expect) + 2 * b2n (states.contains 1) + 4 * b2n b.nomotion + 8 * b2n f.tkover
    + 32 * b2n (s.latSplit c n) + 64 * b2n (states.contains 3)
  let r := latRecord f fl tm.1 tm.2 expect b.present b.damaged late b.tko states.length
  let s := if b.present = expect then s else (s.bump (LT.LCNT_INCOMPLETE n) 1).report 0x4002 n f.lfn
  let s := s.showLrec n f.lfn r
  let lines := (List.range rows.length).zip (rows.map fun l => l.flatMap (·.bytes))
  let s := match s.placed (canvasKey n (f.lfn % 2)) with
    | some a => lines.foldl (fun (s : State) (e : Nat × List Byte) => s.store (a + e.1 * 2 * CfgSet.latW c n) e.2) s
    | none => s
  let sid := latSid n
  let sfl := s.latFlags n f.tkover
  let (ok, s) := if b.dead then (false, s) else s.pushRows n f b.fseq lines
  let t := r ++ tileMap states
  let h := s.latHdr n 2 f b.fseq sfl tm.1 tm.2 t.length
  let u : EgUnit := ⟨.fend, f.lfn, b.fseq, h.bytes ++ bytesAt t 0 (padTo 64 t.length), 0⟩
  let s :=
    if ok ∧ s.fits sid u.bytes.length then
      let s := s.push sid u
      s.setStream sid { s.stream sid with lastFn := f.lfn, fmtFirst := false, timeStep := false }
    else
      let s := s.setStream sid { s.stream sid with abandoned := some f.lfn }
      let s := if b.dead then s else (s.bump UPL.UPCNT4_EGOVF 1).report 0x0811 sid 0
      s.latNotice n f b.fseq (dropped 0) (withBit sfl 13 true) tm.1 tm.2 r
  let views := slots.map (b.view n)
  let s := s.setFlds ((views.filter (·.present)).map fun v => (LTS.CHG_HGAIN n v.slot, v.hgain))
  let s := if CfgSet.fld c 4 n (LT.LCTL_LFMT 0) = 3 then s else s.giveOverlaps n b rows views views
  let s := if s.mirrors then s.peerSend 0x14 [BitVec.ofNat 64 (n + 2 ^ 32 * f.lfn)] else s
  let s := s.setFld LAT.LATSTAT_BUSY (withBit (s.fld LAT.LATSTAT_BUSY) n false)
  (s.setLat n { s.lat n with busy := none }).latSettle n

/-- LATTICE_ASSEMBLY_END. -/
def execLatticeAssemblyEnd (lat : Lattice) (s : State) : Out :=
  .next (match (s.lat lat.val).busy with
    | none => s
    | some b => if s.domainOn .pixel then s.latEnd lat.val b else s)

/-- LATTICE_SKIP: a lattice frame that has not started by D + PERIOD × RDIV (R270). -/
def execLatticeSkip (lat : Lattice) (s : State) : Out :=
  let n := lat.val
  let x := s.lat n
  .next (match x.frames with
    | [] => s
    | f :: r =>
      if !s.domainOn .pixel || !s.latOwner f.set n || decide (s.now < f.limit) then s
      else
        let expect := slotMask ((CfgSet.latSlots f.set n).map (·.1))
        let fl := 16 + 8 * b2n f.tkover + 32 * b2n (s.latSplit f.set n)
        let rec_ := latRecord f fl f.tref f.tref expect 0 0 0 0 0
        let s := (s.latAnnounce n f).showLrec n f.lfn rec_
        let y := s.stream (latSid n)
        let s := s.setStream (latSid n) { y with fseq := (y.fseq + 1) % 2 ^ 32 }
        let s := s.latNotice n f y.fseq 0 (s.latFlags n f.tkover) f.tref f.tref rec_
        let s := (s.bump (LT.LCNT_SKIPPED n) 1).report 0x4003 n f.lfn
        let s := if s.mirrors then s.peerSend 0x14 [BitVec.ofNat 64 (n + 2 ^ 32 * f.lfn)] else s
        (s.setLat n { s.lat n with frames := r }).latSettle n)

end Sys2Proof.Machine
end

