-- ==== Sys2Proof/Machine/Budget.lean ====
section
/-!
DEFINITION. Admission of a configuration set: the checks of R465 in their order and what CFG_CHECK reports
(spec/16_config_sets.md R465, R466, R471, spec/23_memory.md R618).
-/
namespace Sys2Proof.Machine

/-! ## Verdicts (R465) -/

/-- A failed check: its code, and DETAIL with KIND and instance. -/
abbrev Verdict := Option (Nat × Nat)

/-- The verdict of one test: `kind` 0 names the whole set. -/
def failIf (b : Bool) (code kind inst : Nat) : Verdict := if b then some (code, kind * 2 ^ 24 + inst) else none

/-- The first failure over a list of objects. -/
def firstOf (l : List Nat) (k : Nat → Verdict) : Verdict := l.findSome? k

/-! ## What admission knows of a camera -/

/-- A head has been enumerated at a port. -/
def State.headKnown (s : State) (p : Nat) : Bool := s.pstate p == psReady || s.pstate p == psStreaming

/-- CFA and BITS of the head of a port: the enumerated head's, else the expected head's, else none (log entry 45). -/
def State.cfaBits (s : State) (c : CfgSet) (p : Nat) : Option (Nat × Nat) :=
  if s.headKnown p then some (s.desc p 0x64 1, s.desc p 0x65 1)
  else match CfgSet.expected c p with
    | [] => none
    | e => some (fieldAt e 16 1, fieldAt e 17 1)

/-! ## Check 1: rules with no code of their own (R156, R176, R177, R180, R206, R218, R223, R234, R287, R307, R325, R479) -/

def fcInvalid : Nat := 0x0809

/-- A trigger group's ranges and members (R156). -/
def State.groupBad (s : State) (c : CfgSet) (g : Nat) : Bool :=
  let per := CfgSet.grpPeriod c g
  let lead := CfgSet.grpLead c g
  let m := CfgSet.grpMembers c g
  CfgSet.grpDefined c g && (!(decide (1000000 ≤ per ∧ per ≤ 10000000000 ∧ 100000 ≤ lead ∧ lead ≤ 10000000) && decide (CfgSet.grpAlign c g ≤ 1))
    || (List.range 192).any fun p => bit m p &&
      ((List.range g).any (fun g' => CfgSet.grpDefined c g' && bit (CfgSet.grpMembers c g') p)
        || (s.headKnown p && decide (per * s.desc p 0x8C 2 < 4000000000))))

/-- The rules of a port's ingest and its head's write window (R176, R177, R180, R325); the knee binds staggered cameras only
(log entry 45). -/
def State.ingestBad (s : State) (c : CfgSet) (p : Nat) : Bool :=
  let w := CfgSet.wOf c p
  let hdr := CfgSet.flag c 1 p (HP.INGFMT_HDR 0)
  let st := CfgSet.fld c 1 p (HP.INGFMT_STAGGER 0)
  let t0 := CfgSet.fld c 1 p (HP.INGKNEE_T0 0)
  let t1 := CfgSet.fld c 1 p (HP.INGKNEE_T1 0)
  let ww := s.wwin p
  let per := CfgSet.fperiod c p
  let bits := match s.cfaBits c p with
    | some e => e.2
    | none => dtBits (CfgSet.fld c 1 p (HP.INGFMT_DT 0))
  (hdr && !decide (max 1 st ≤ 64 ∧ max 1 st ≤ 98304 / (2 * w))) || decide (t1 ≤ t0) || decide (2 ^ bits ≤ t1)
    || decide (CfgSet.fld c 1 p (HP.INGLT_LTIME 0) * 600 < w * (1 + b2n hdr) * 1000)
    || (s.headKnown p && (decide (ww.2 < ww.1 + 250000) || (per != 0 && decide (per < ww.2 + 100000))))

/-- The highest raster index of a set's own defect list, plus 1 (R124, R218). -/
def defectTop (b : List Byte) : Nat :=
  let slots := (List.range (fieldAt b 2 2)).map fun i => fieldAt b (4 + 2 * i) 2
  ((defectIdx 0 slots).foldl (fun a i => max a (i + 1)) 0)

/-- The rules of a camera's pipeline fields (R206, R218, R223, R234). -/
def CfgSet.pipeBad (c : CfgSet) (p : Nat) : Bool :=
  let mesh := CfgSet.item c 2 p 0x8003 []
  let mx := fieldAt mesh 0 1
  let my := fieldAt mesh 1 1
  decide (CfgSet.fld c 2 p (SL.TNRCTL_KHI 0) ≤ CfgSet.fld c 2 p (SL.TNRCTL_KLO 0))
    || (CfgSet.flag c 2 p (SL.CLRCTL_SHDSRC 0) && !decide (2 ≤ mx ∧ mx ≤ 33 ∧ 2 ≤ my ∧ my ≤ 25))
    || decide (4 < CfgSet.fld c 2 p (SL.IDXSEL_XSEL 0)) || decide (4 < CfgSet.fld c 2 p (SL.IDXSEL_YSEL 0))
    || decide (CfgSet.wOf c p * CfgSet.hOf c p < defectTop (CfgSet.item c 2 p 0x8002 []))

/-- The statistics window (R307). -/
def State.windowBad (s : State) (c : CfgSet) (p : Nat) : Bool :=
  let f := CfgSet.fld c 3 (sidOf p 4)
  let x := f (SL.STWIN0_X0 0)
  let y := f (SL.STWIN0_Y0 0)
  let w := f (SL.STWIN1_W 0)
  let h := f (SL.STWIN1_H 0)
  let cell := match s.cfaBits c p with
    | some e => if e.1 = 6 then 4 else 2
    | none => 1
  w != 0 && h != 0 && (decide (CfgSet.wOf c p < x + w ∨ CfgSet.hOf c p < y + h) || [x, y, w, h].any fun v => v % cell != 0)

/-- A coefficient table of an output in which a phase does not sum to 4,096 (R287). -/
def CfgSet.coefBad (c : CfgSet) (p k : Nat) : Bool :=
  let half := fun (r : Nat) => let w := (CfgSet.word c 3 (sidOf p k) r).toNat; signed 16 w + signed 16 (w >>> 16)
  let sums := fun (r : Nat → Nat) (base per phi : Nat) => (List.range per).foldl (fun a i => a + half (r (base + phi * per + i))) 0
  CfgSet.streamOn c p k && !CfgSet.flag c 3 (sidOf p k) (SL.OCTL_DEFCOEF 0 k) && (List.range 64).any fun phi =>
    sums (SL.HCOEF 0) (256 * k) 4 phi != 4096 || sums (SL.VCOEF 0) (128 * k) 2 phi != 4096

/-- Assured capacity of the peer link as trained, Mb/s (R78). -/
def State.peerCapacity (s : State) : Nat :=
  let n := ((List.range 32).filter fun i => bit (s.fld (LK.LKACT_ACTTX .peer)) i).length
  assuredMb n (rateKb .peer (s.fld (LK.LKSTAT_RATE .peer)))

/-- The mirror load of the paired cameras exceeds half of the peer link (R479). -/
def State.mirrorBad (s : State) (c : CfgSet) : Bool :=
  let load := sumQ (((CfgSet.cams c).filter s.pairedCam).map fun p => 8 * 4160 * CfgSet.fps c p)
  decide ((((s.peerCapacity * 500000 : Nat) : Int) : Rat) < load)

/-- Check 1. -/
def State.checkInvalid (s : State) (c : CfgSet) (paired : Bool) : Verdict :=
  let cams := CfgSet.cams c
  firstOf (List.range 64) (fun g => failIf (s.groupBad c g) fcInvalid 5 g)
    <|> firstOf cams (fun p => failIf (s.ingestBad c p) fcInvalid 1 p <|> failIf (CfgSet.pipeBad c p) fcInvalid 2 p
      <|> failIf (s.windowBad c p) fcInvalid 3 (sidOf p 4)
      <|> firstOf (List.range 4) fun k => failIf (CfgSet.coefBad c p k) fcInvalid 3 (sidOf p k))
    <|> failIf (paired && s.mirrorBad c) fcInvalid 0 0

/-! ## Check 2: streams (R233, R279, R282, R284, R290) -/

def fcStream : Nat := 0x0805

/-- Period of a CFA's phase; 1 where the CFA is not known (R214). -/
def phaseP : Option (Nat × Nat) → Nat
  | none => 1
  | some e => if e.1 = 5 then 1 else if e.1 = 6 then 4 else 2

/-- An image stream that breaks a rule (R281, R282, R284, R290). -/
def State.imageBad (s : State) (c : CfgSet) (p k : Nat) : Bool :=
  let sid := sidOf p k
  let f := CfgSet.fmtOf c p k
  let g := fun (r : Fld) => CfgSet.fld c 3 sid r
  let cx := g (SL.OCROP0_CX 0 k)
  let cy := g (SL.OCROP0_CY 0 k)
  let cw := g (SL.OCROP1_CWD 0 k)
  let ch := g (SL.OCROP1_CHT 0 k)
  let dw := CfgSet.dwOf c p k
  let dh := CfgSet.dhOf c p k
  let raw := fmtIsRaw f
  let warped := CfgSet.flag c 2 p (SL.WCTL_WARP_EN 0) && !raw
  let iw := if warped then CfgSet.fld c 2 p (SL.WOSIZE_OW 0) else CfgSet.wOf c p
  let ih := if warped then CfgSet.fld c 2 p (SL.WOSIZE_OH 0) else CfgSet.hOf c p
  let cfa := s.cfaBits c p
  let w16 := CfgSet.flag c 2 p (SL.IDXSEL_W16 0)
  let odd := fun l : List Nat => l.any fun v => v % 2 == 1
  decide (f = 0 ∨ 0x0C < f) || decide (iw < cx + cw ∨ ih < cy + ch)
    || !decide (ceilDiv cw 16 ≤ dw ∧ dw ≤ cw ∧ ceilDiv ch 16 ≤ dh ∧ dh ≤ ch ∧ 2 ≤ dw ∧ 2 ≤ dh)
    || (fmtIs42x f && odd [cx, cw, dw]) || (fmtIs420 f && odd [cy, ch, dh])
    || (fmtIsNir f && cfa.any fun e => e.1 != 6) || (f == 0x0A && w16) || (f == 0x0B && !w16)
    || (raw && (dw != cw || dh != ch || [cx, cy, cw, ch].any fun v => v % phaseP cfa != 0))

/-- Check 2. -/
def State.checkStreams (s : State) (c : CfgSet) : Verdict :=
  firstOf (CfgSet.cams c) fun p =>
    let nir := CfgSet.fld c 2 p (SL.IDXSEL_XSEL 0) == 3 || CfgSet.fld c 2 p (SL.IDXSEL_YSEL 0) == 3
    failIf (nir && (s.cfaBits c p).any fun e => e.1 != 6) fcStream 2 p
      <|> firstOf (List.range 4) fun k => failIf (CfgSet.streamOn c p k && s.imageBad c p k) fcStream 3 (sidOf p k)

/-! ## Check 3: the warp (R250, R255) -/

def fcWarp : Nat := 0x0803

/-- The points of output line y whose source positions bound a span: its ends, and the node columns it crosses (log entry
44). -/
def spanPoints (ow i : Nat) : List Rat :=
  let a := 32 * i
  let b := min (32 * i + 31) (ow - 1)
  let cols := ((List.range 65).map fun k => mkRat (k * (ow - 1) : Nat) 64).filter fun x => decide (((a : Int) : Rat) < x ∧ x < ((b : Int) : Rat))
  ((a : Int) : Rat) :: ((b : Int) : Rat) :: cols

/-- The tiles of the planes present that a bounding box in source pixels touches (R254). -/
def boxTiles (planes sw sh : Nat) (x0 x1 y0 y1 : Int) : List Nat :=
  ((List.range 8).filter (bit planes)).flatMap fun b =>
    let col := fun x : Int => hold sw x * planeB b / 64
    let row := fun y : Int => hold sh y / 8
    (List.range (row y1 + 1 - row y0)).flatMap fun j => (List.range (col x1 + 1 - col x0)).map fun i =>
      b * 2 ^ 32 + (row y0 + j) * 2 ^ 16 + (col x0 + i)

/-- The distinct tiles of output line y of a warped camera (R255). -/
def CfgSet.lineTiles (c : CfgSet) (p y : Nat) : List Nat :=
  let ow := CfgSet.fld c 2 p (SL.WOSIZE_OW 0)
  let oh := CfgSet.fld c 2 p (SL.WOSIZE_OH 0)
  let mesh := CfgSet.item c 2 p 0x8004 []
  let cubic := CfgSet.flag c 2 p (SL.WCTL_BICUBIC 0)
  let lo := if cubic then 1 else 0
  let hi := if cubic then 2 else 1
  ((List.range (ceilDiv ow 32)).flatMap fun i =>
    let pts := (spanPoints ow i).filterMap fun x => meshAt mesh ow oh x ((y : Int) : Rat)
    match pts with
    | [] => []
    | q :: r =>
      let x0 := (r.foldl (fun a e => min a e.1) q.1) / 256 - lo
      let x1 := (r.foldl (fun a e => max a e.1) q.1) / 256 + hi
      let y0 := (r.foldl (fun a e => min a e.2) q.2) / 256 - lo
      let y1 := (r.foldl (fun a e => max a e.2) q.2) / 256 + hi
      boxTiles (CfgSet.wplanes c p) (CfgSet.wOf c p) (CfgSet.hOf c p) x0 x1 y0 y1).eraseDups

/-- The predicted read factor of a warped camera (R255). -/
def CfgSet.readFactor (c : CfgSet) (p : Nat) : Rat :=
  let lines := (List.range (CfgSet.fld c 2 p (SL.WOSIZE_OH 0))).map (CfgSet.lineTiles c p)
  let fetched := if lines.all fun l => decide (l.length ≤ 120) then lines.flatten.eraseDups.length else sumN (lines.map (·.length))
  mkRat (fetched * 512 : Nat) (CfgSet.wOf c p * CfgSet.hOf c p * planesB (CfgSet.wplanes c p))

/-- Check 3. -/
def CfgSet.checkWarp (c : CfgSet) : Verdict :=
  firstOf ((CfgSet.cams c).filter fun p => CfgSet.flag c 2 p (SL.WCTL_WARP_EN 0)) fun p =>
    let ow := CfgSet.fld c 2 p (SL.WOSIZE_OW 0)
    let oh := CfgSet.fld c 2 p (SL.WOSIZE_OH 0)
    failIf (!decide (65 ≤ ow ∧ ow ≤ 8192 ∧ 49 ≤ oh ∧ oh ≤ 8192)) fcWarp 2 p
      <|> failIf (decide (mkRat (CfgSet.wrdf c p : Nat) 16 < CfgSet.readFactor c p)) fcWarp 2 p

/-! ## Check 4: lattices (R19, R258, R260) -/

def fcLattice : Nat := 0x0804

/-- A lattice that breaks a rule of its own. -/
def State.latticeBad (s : State) (c : CfgSet) (n : Nat) (paired : Bool) : Bool :=
  let g := CfgSet.fld c 4 n (LT.LCTL_GROUP 0)
  let ports := (CfgSet.latSlots c n).map (·.2)
  let ld := CfgSet.fld c 4 n (LT.LDEAD_LDEAD 0)
  let per := CfgSet.grpPeriod c g
  let before := (List.range n).filter (CfgSet.latDefined c)
  ports.isEmpty || ports.any (fun p => !(CfgSet.grpDefined c g && bit (CfgSet.grpMembers c g) p) || !CfgSet.camera c p)
    || decide (64 < CfgSet.fld c 4 n (LT.LCTL_RDIV 0) ∨ 32768 < CfgSet.latW c n ∨ 4096 < CfgSet.latH c n)
    || (ld != 0 && !decide (per ≤ ld ∧ ld ≤ 8 * per))
    || before.any (fun m => (CfgSet.latSlots c m).any fun e => ports.contains e.2)
    || (paired && ports.any fun p => s.servedHere p != s.servedHere (ports.headD 0))

/-- Check 4. -/
def State.checkLattices (s : State) (c : CfgSet) (paired : Bool) : Verdict :=
  let lats := (List.range 8).filter (CfgSet.latDefined c)
  let rate := sumQ (lats.map fun n => ((CfgSet.latW c n * CfgSet.latH c n : Nat) : Int) * CfgSet.latFps c n)
  firstOf lats (fun n => failIf (s.latticeBad c n paired) fcLattice 4 n) <|> failIf (decide (4800000000 < rate)) fcLattice 0 0

/-! ## Check 5: engines (R362, R471) -/

def fcEngine : Nat := 0x0806

/-- The planes a camera produces at the demosaic tap, or at the scaler tap, as a mask (R247, R280, R347). -/
def State.tapPlanes (s : State) (c : CfgSet) (p : Nat) (demosaic : Bool) : Nat :=
  let nir := (s.cfaBits c p).all fun e => e.1 == 6
  let w := CfgSet.wplanes c p
  if demosaic then (if nir then 15 else 7)
  else if CfgSet.flag c 2 p (SL.WCTL_WARP_EN 0) then
    (if bit w 0 || bit w 1 then 7 else if bit w 3 then 1 else 0) + (if bit w 2 then 0x38 else 0)
      + (if bit w 4 || bit w 5 then 0x40 else 0) + (if bit w 6 || bit w 7 then 0x80 else 0)
  else 0x3F + (if nir then 0x40 else 0) + (if CfgSet.flag c 2 p (SL.CLRCTL_IDX_EN 0) then 0x80 else 0)

/-- The program of a camera breaks a rule of R362. -/
def State.programBad (s : State) (c : CfgSet) (p : Nat) : Bool :=
  let id := CfgSet.progId c p
  match s.binary id with
  | none => id != 0
  | some b =>
    let flags := s.num (b.addr + 8) 4
    let out := fun off d => s.num (b.addr + off) 1 &&& s.tapPlanes c p d != s.num (b.addr + off) 1
    (bit flags 0 && out 0x24 true) || (bit flags 1 && out 0x28 false)
      || (CfgSet.flag c 2 p (SL.NRCTL_TNR_EN 0) && !bit flags 2)

/-- Cameras to which a flip to a set gives a new PROGID: those with a slice (R471). -/
def State.progChanges (s : State) (c : CfgSet) : List Nat :=
  (CfgSet.cams c).filter fun p => (s.sliceOf p).isSome && s.progId p (s.setFor p) != CfgSet.progId c p

/-- Check 5. -/
def State.checkEngines (s : State) (c : CfgSet) : Verdict :=
  firstOf (CfgSet.cams c) (fun p => failIf (s.programBad c p) fcEngine 2 p)
    <|> firstOf ((s.progChanges c).drop s.freeSpares.length) fun p => failIf true fcEngine 2 p

/-! ## Checks 6 and 7: egress FIFOs and the uplink (R386, R387, R479) -/

/-- Check 6. -/
def CfgSet.checkEgress (c : CfgSet) : Verdict :=
  failIf (decide (11 * 2 ^ 20 < sumN ((CfgSet.sids c).map (CfgSet.fifoSize c)))) 0x0807 0 0

/-- The load of the streams of a set, in bit/s. -/
def loadOf (c : CfgSet) (sids : List Nat) : Rat := sumQ (sids.map (CfgSet.sidRate c))

/-- Check 7; `sb` holds the cameras this device stands by for, in a pair. -/
def State.checkUplink (s : State) (c : CfgSet) (sb : Option (List Nat)) : Verdict :=
  let cap : Rat := ((s.capacity * 1000000 : Nat) : Int)
  let sids := CfgSet.sids c
  let own := fun l : List Nat => sids.filter fun x => isLatSid x || !l.contains (x / 8)
  let by_ := fun l : List Nat => sids.filter fun x => !isLatSid x && l.contains (x / 8)
  failIf (decide (cap * 9 / 10 < loadOf c sids) || sb.any fun l => decide (cap < loadOf c (own l) + s.catchup * loadOf c (by_ l))) 0x0808 0 0

/-! ## Check 8: pixel load (R30, R466, R651) -/

/-- The pixel load of the transition to a set, in Mpix/s (R466). -/
def State.pixelLoad (s : State) (c : CfgSet) : Rat :=
  sumQ ((List.range 192).map fun p => max (CfgSet.pixelRate c p) (CfgSet.pixelRate (s.setFor p) p)) / 1000000

/-- Check 8. -/
def State.checkPixels (s : State) (c : CfgSet) : Verdict :=
  failIf (decide ((((s.pixelBudget c : Nat) : Int) : Rat) < s.pixelLoad c)) 0x0801 0 0

/-! ## Check 9: LPDDR (R466, R617, R618) -/

/-- Check 9. -/
def State.checkMemory (s : State) (c : CfgSet) (sb : List Nat) : Verdict :=
  failIf (decide (230000 < s.bandwidth c sb) || (s.placement c sb).isNone) 0x0802 0 0

/-! ## Admission as a whole (R465) -/

/-- Admission of a set; `sb` holds the cameras stood by for, in a pair. -/
def State.admission (s : State) (c : CfgSet) (sb : Option (List Nat)) : Verdict :=
  s.checkInvalid c sb.isSome <|> s.checkStreams c <|> CfgSet.checkWarp c <|> s.checkLattices c sb.isSome <|> s.checkEngines c
    <|> CfgSet.checkEgress c <|> s.checkUplink c sb <|> s.checkPixels c <|> s.checkMemory c (sb.getD [])

/-- What a flip or check on this device counts as its standby cameras. -/
def State.pairView (s : State) : Option (List Nat) := if s.mirrors then some s.standbys else none

/-- The loads CFG_CHECK reports: pixels in Mpix/s, LPDDR in MB/s, uplink in Mb/s, rounded up (R451; log entry 46). -/
def State.checkResult (s : State) (c : CfgSet) : List Byte :=
  layout [(4, ceilQ (s.pixelLoad c)), (4, ceilQ (s.bandwidth c s.standbys)), (4, CfgSet.loadMb c)]

end Sys2Proof.Machine
end

