-- ==== Sys2Proof/Machine/Configs.lean ====
section
/-!
DEFINITION. Configuration sets as images and by field, the CFG commands, and the epoch of a flip (spec/15_mailbox.md R451, R452,
spec/16_config_sets.md R459 to R475).
-/
namespace Sys2Proof.Machine

/-! ## Fields (R461) -/

/-- The instances of a KIND (R461). -/
def instOk (kind inst : Nat) : Bool :=
  match kind with
  | 1 | 2 => decide (inst < 192)
  | 3 => decide (inst < 1536 ∧ inst % 8 < 6)
  | 4 => decide (inst < 8)
  | 5 => decide (inst < 64)
  | 6 | 7 => inst == 0
  | _ => false

/-- The register offsets that a KIND and instance may name, as ranges [first, end) from the block's base (R461). -/
def windows (kind inst : Nat) : List (Nat × Nat) :=
  match kind with
  | 1 => [(0x004, 0x008), (0x100, 0x104), (0x400, 0x418)]
  | 2 => [(0x800, 0x1A00)]
  | 3 =>
    let k := inst % 8
    if k < 4 then [(0x1A00 + 0x40 * k, 0x1A40 + 0x40 * k), (0x2000 + 0x400 * k, 0x2400 + 0x400 * k), (0x3000 + 0x200 * k, 0x3200 + 0x200 * k)]
    else if k = 4 then [(0x1C00, 0x1C0C)]
    else []
  | 4 => [(0, 0x1000)]
  | 7 => [(0x024, 0x028), (0x100, 0x200)]
  | _ => []

/-- The RW fields with owner F of a register image, as a mask; LKCTL.ENABLE is left out (R461). -/
def setMask (a : Nat) : Word :=
  match regAt a with
  | none => 0
  | some (_, _, r, _) =>
    maskWhere (fun f => f.access = .rw && f.owner = .f) r.fields &&& (if a = LK.LKCTL (.hp 0) then ~~~ (1 : Word) else BitVec.allOnes 32)

/-- The fields of the register at an address, reserved bits left out, as a mask. -/
def namedMask (a : Nat) : Word :=
  match regAt a with
  | none => 0
  | some (_, _, r, _) => maskWhere (fun _ => true) r.fields

/-- A register field of a set is legal (R461). -/
def regFieldOk (kind inst field : Nat) : Bool :=
  (windows kind inst).any (fun w => decide (w.1 ≤ 4 * field ∧ 4 * field < w.2)) && setMask (kindBase kind + 4 * field) != 0

/-- What a register image keeps in a set; none if a reserved bit is set (R461). -/
def keptImage (kind field : Nat) (v : List Byte) : Option (List Byte) :=
  let a := kindBase kind + 4 * field
  let w : Word := BitVec.ofNat 32 (leNat v)
  if v.length != 4 || (w &&& ~~~ namedMask a) != 0 then none else some (leBytes 4 (w &&& setMask a).toNat)

/-- The entries of a sensor initialisation list are legal (R461). -/
def initListGood (v : List Byte) : Bool :=
  v.length % 8 == 0 && decide (v.length ≤ 4096) && (List.range (v.length / 8)).all fun i =>
    let o := fieldAt v (8 * i) 3
    let n := fieldAt v (8 * i + 3) 1
    decide (0x800000 ≤ o ∧ 1 ≤ n ∧ n ≤ 4)

/-- An item that is no register has the size its table gives (R461). -/
def itemOk (kind inst field : Nat) (v : List Byte) : Bool :=
  let n := v.length
  match kind, field with
  | 1, 0x8000 => n == 1
  | 1, 0x8001 => n == 4
  | 1, 0x8002 => n == 22
  | 1, 0x8003 => initListGood v
  | 2, 0x8000 => n == 4
  | 2, 0x8001 => n == 256
  | 2, 0x8002 => decide (4 ≤ n) && n == 4 + 2 * fieldAt v 2 2 && decide (fieldAt v 0 2 ≤ 1024)
  | 2, 0x8003 => decide (8 ≤ n) && n == 8 + 8 * fieldAt v 0 1 * fieldAt v 1 1
  | 2, 0x8004 => n == 25480
  | 2, 0x8005 => n == 60
  | 3, 0x8000 => n == 1 && inst % 8 == 5
  | 4, 0x8000 => n == 1
  | 5, 0x8000 => n == 1
  | 5, 0x8001 => n == 8
  | 5, 0x8002 => n == 8
  | 5, 0x8003 => n == 24
  | 5, 0x8004 => n == 1
  | 5, 0x8005 => n == 4
  | 6, 0x8000 => n == 4
  | 6, 0x8001 => n == 4
  | 7, 0x8000 => n == 1
  | 7, 0x8001 => decide (16 ≤ n ∧ n ≤ 8192) && n == 16 + 97 * fieldAt v 0 1
  | 7, 0x8002 => n == 24
  | _, _ => false

/-- A set with a field given a value; none where R461 refuses it. -/
def CfgSet.put (c : CfgSet) (kind inst field : Nat) (v : List Byte) : Option CfgSet :=
  if !instOk kind inst then none
  else if field < 0x4000 then
    if regFieldOk kind inst field then (keptImage kind field v).map fun b => Tbl.set c (setKey kind inst field) b else none
  else if itemOk kind inst field v then some (Tbl.set c (setKey kind inst field) v)
  else none

/-! ## Images (R462, R463) -/

/-- The records of an image from an offset, applied in order; the offset of the fault where one breaks a rule. -/
def applyRecords (b : List Byte) (size : Nat) : Nat → Nat → CfgSet → Except Nat CfgSet
  | 0, off, c => if off = size then .ok c else .error off
  | n + 1, off, c =>
    let len := fieldAt b (off + 8) 4
    let next := off + 16 + padTo 8 len
    if size < off + 16 ∨ size < next then .error off
    else if fieldAt b (off + 1) 1 != 0 || fieldAt b (off + 6) 2 != 0 || fieldAt b (off + 12) 4 != 0 || !allZero b (off + 16 + len) (padTo 8 len - len) then
      .error off
    else
      match CfgSet.put c (fieldAt b off 1) (fieldAt b (off + 2) 2) (fieldAt b (off + 4) 2) (bytesAt b (off + 16) len) with
      | none => .error off
      | some c => applyRecords b size n next c

/-- A set from an image; the offset of its first fault otherwise (R463). -/
def readImage (b : List Byte) (level : Nat) : Except Nat CfgSet :=
  let size := b.length
  if size < 128 ∨ fieldAt b 0 4 ≠ 0x46434B43 then .error 0
  else if fieldAt b 4 2 ≠ 1 then .error 4
  else if fieldAt b 0x40 4 ≠ crc32 (bytesAt b 0 0x40) then .error 0x40
  else if fieldAt b 8 4 ≠ size then .error 8
  else if bytesAt b 0x10 48 ≠ sha384Bytes (b.drop 0x80) then .error 0x10
  else if level < fieldAt b 6 2 then .error 6
  else applyRecords b size (fieldAt b 12 4) 0x80 []

/-- The register fields of a KIND and instance, rising. -/
def regFields (kind inst : Nat) : List Nat :=
  ((windows kind inst).flatMap fun w => (List.range ((w.2 - w.1) / 4)).map fun i => w.1 / 4 + i).filter (regFieldOk kind inst)

/-- The items of a KIND with their defaults; a table is empty by default and exported only where it is loaded (R461; log entry
48). -/
def itemDefaults : Nat → List (Nat × List Byte)
  | 1 => [(0x8000, [1]), (0x8001, leBytes 4 0), (0x8002, []), (0x8003, [])]
  | 2 => [(0x8000, leBytes 4 0), (0x8001, []), (0x8002, []), (0x8003, []), (0x8004, []), (0x8005, [])]
  | 4 => [(0x8000, [0])]
  | 5 => [(0x8000, [0]), (0x8001, leBytes 8 0), (0x8002, leBytes 8 0), (0x8003, leBytes 24 0), (0x8004, [0]), (0x8005, leBytes 4 100000)]
  | 6 => [(0x8000, leBytes 4 4096), (0x8001, leBytes 4 0)]
  | 7 => [(0x8000, [0]), (0x8001, []), (0x8002, List.replicate 24 0x55)]
  | _ => []

/-- The record of a field (R462). -/
def cfgRecord (kind inst field : Nat) (v : List Byte) : List Byte :=
  layout [(1, kind), (1, 0), (2, inst), (2, field), (2, 0), (4, v.length), (4, 0)] ++ bytesAt v 0 (padTo 8 v.length)

/-- The records of a KIND and instance, in FIELD order. -/
def CfgSet.records (c : CfgSet) (kind inst : Nat) : List (List Byte) :=
  (regFields kind inst).map (fun f => cfgRecord kind inst f (leBytes 4 (CfgSet.word c kind inst (kindBase kind + 4 * f) &&& setMask (kindBase kind + 4 * f)).toNat))
    ++ ((if kind = 3 ∧ inst % 8 = 5 then [(0x8000, [(0 : Byte)])] else itemDefaults kind).filterMap fun e =>
      let v := CfgSet.item c kind inst e.1 e.2
      if v = [] then none else some (cfgRecord kind inst e.1 v))

/-- The image that exports a set (R463). -/
def CfgSet.image (c : CfgSet) : List Byte :=
  let recs := (List.range 8).flatMap fun kind => ((List.range 1536).filter (instOk kind)).flatMap (CfgSet.records c kind)
  let body := recs.flatten
  let head := layout [(4, 0x46434B43), (2, 1), (2, 0x0302), (4, 128 + body.length), (4, recs.length)] ++ sha384Bytes body
  withCrc head ++ List.replicate 60 0 ++ body

/-- The set digest: DIGEST of the set's export (R463). -/
def CfgSet.digest (c : CfgSet) : List Byte := bytesAt (CfgSet.image c) 0x10 48

/-! ## Staging (R440) -/

/-- The base of a staging area: update staging lies in the egress buffer SRAM in SAFE (R440, R605, R612). -/
def State.stageBase (s : State) (n : Nat) : Nat := if n = 1 then 0x10C000000 else if s.mode = .safe then 0x14780000 else 0x114000000

/-- A stage command for window n (R440): BUSY while another channel holds it; size 0 closes it. -/
def State.stageCmd (s : State) (r : Req) (n limit : Nat) : State :=
  let size := r.arg 0 4
  let (owner, _, _) := s.mbx.stages.get n (r.ch, 0, 0)
  if limit < size then s.refuse r mbArg 0
  else if owner ≠ r.ch then s.refuse r mbBusy 0
  else
    let base := s.stageBase n
    let s := if size = 0 then s.closeStage n else s.openStage n r.ch base size
    s.done r (layout [(8, base), (4, size)])

/-- The staged image that a command of length ILEN consumes, its window closed: base address, or the refusal (R440). -/
def State.consume (s : State) (r : Req) (n ilen off : Nat) : Except State (Nat × State) :=
  if s.mbx.stages.has n then
    let (owner, base, size) := s.mbx.stages.get n (0, 0, 0)
    if owner ≠ r.ch then .error (s.refuse r mbBusy 0)
    else if size < ilen ∨ ilen = 0 then .error (s.refuse r mbArg off)
    else .ok (base, s.closeStage n)
  else .error (s.refuse r mbArg off)

/-! ## Editing the shadow (R451, R463, R464) -/

/-- A flip is pending here or proposed by the partner (R438, R470). -/
def State.flipPending (s : State) : Bool := s.cfg.flip.isSome || s.pair.proposed.isSome

/-- The shadow set replaced: it is dirty (R464). -/
def State.setShadow (s : State) (c : CfgSet) : State :=
  (s.setCfg { s.cfg with shadow := c }).setFld GLB.CFGSTAT_DIRTY 1

/-- CFG_STAGE (R440, R451). -/
def execCfgStage (ch : Chan) (s : State) : Out := .next (s.onCommand ch 0x0800 fun s r => s.stageCmd r 1 (64 * 2 ^ 20))

/-- CFG_LOAD: the staged image is taken; its checks end with FINAL_RESPONSE (R463). -/
def execCfgLoad (ch : Chan) (s : State) : Out :=
  .next (s.onCommand ch 0x0801 fun s r =>
    if s.flipPending then s.refuse r 0x080A 0
    else match s.consume r 1 (r.arg 0 4) 0 with
      | .error s => s
      | .ok (base, s) => (s.interimAt r base) [])

/-- The end of CFG_LOAD: the new shadow set, or the fault of the image (R463). -/
def State.loadFinish (s : State) (r : Req) : State :=
  let b := s.bytes r.base (r.arg 0 4)
  match readImage b (s.fld (MBX.CST_LEVEL r.ch)) with
  | .error off => s.refuse r 0x080C off
  | .ok c => (s.setShadow c).done r (bytesAt b 0x10 8)

/-- CFG_EDIT (R451, R461). -/
def execCfgEdit (ch : Chan) (s : State) : Out :=
  .next (s.onCommand ch 0x0802 fun s r =>
    let n := r.arg 6 1
    if s.flipPending then s.refuse r 0x080A 0
    else if n = 0 ∨ 40 < n then s.refuse r 0x080E 0
    else match CfgSet.put s.cfg.shadow (r.arg 0 1) (r.arg 2 2) (r.arg 4 2) (bytesAt r.body 8 n) with
      | none => s.refuse r 0x080E 0
      | some c => (s.setShadow c).done r [])

/-- CFG_COPY (R451). -/
def execCfgCopy (ch : Chan) (s : State) : Out :=
  .next (s.onCommand ch 0x0803 fun s r =>
    if s.flipPending then s.refuse r 0x080A 0 else (s.setShadow s.cfg.active).done r [])

/-- CFG_CHECK (R451, R465). -/
def execCfgCheck (ch : Chan) (s : State) : Out :=
  .next (s.onCommand ch 0x0804 fun s r =>
    match s.admission s.cfg.shadow s.pairView with
    | some (code, detail) => s.refuse r code detail
    | none => let res := s.checkResult s.cfg.shadow
              (s.interim r []).finish r.ch r.opcode r.tag mbOk 0 res)

/-- CFG_EXPORT: its image is written as FINAL_RESPONSE ends it (R463). -/
def execCfgExport (ch : Chan) (s : State) : Out :=
  .next (s.onCommand ch 0x0807 fun s r => if 1 < r.arg 0 1 then s.refuse r mbArg 0 else s.interim r [])

/-- The end of CFG_EXPORT: the image in the export area (R463, R612). -/
def State.exportFinish (s : State) (r : Req) : State :=
  let b := CfgSet.image (if r.arg 0 1 = 0 then s.cfg.active else s.cfg.shadow)
  if 64 * 2 ^ 20 < b.length then s.refuse r mbNoResource 0
  else (s.poke 0x110000000 b).done r (layout [(8, 0x110000000), (4, b.length), (4, s.fld GLB.CFGGEN_GEN)])

/-- CFG_STATUS (R451). -/
def execCfgStatus (ch : Chan) (s : State) : Out :=
  .next (s.onCommand ch 0x0808 fun s r =>
    let epoch := match s.cfg.flip with
      | some f => f.epoch.getD 0
      | none => 0
    s.done r (layout [(4, s.fld GLB.CFGGEN_GEN), (1, s.fld GLB.CFGSTAT_PENDING), (1, s.fld GLB.CFGSTAT_DIRTY), (2, 0), (8, epoch),
      (2, s.fld GLB.CFGSTAT_SWITCHED), (2, s.fld GLB.CFGSTAT_TOTAL)]))

/-! ## The flip (R452, R466, R467, R471, R502) -/

/-- Spares reserved for the cameras whose program a flip changes, each with its move planned (R471). -/
def State.reserveMoves (s : State) : List Nat → List (Nat × Nat) → List (Nat × Nat) × State
  | [], l => (l, s)
  | p :: r, l =>
    match s.claim clFlip with
    | none => (l, s)
    | some (sl, s) => ((s.dropMove p).planMove p sl mvProgram).reserveMoves r (l ++ [(p, sl)])

/-- An admitted flip holds its resources: placements of the new set and spares (R466, R471). -/
def State.admitFlip (s : State) (f : Flip) : State :=
  let c := s.cfg.shadow
  let next := (s.placement c (s.pairView.getD [])).getD []
  let m := s.reserveMoves (s.progChanges c) []
  let s := m.2
  (s.setCfg { s.cfg with next := next, flip := some { f with moves := m.1, admitted := s.now, degraded := s.mode == Mode.degraded } }).setFld GLB.CFGSTAT_PENDING 1

/-- What a pending flip held is let go, its set unchanged. -/
def State.releaseFlip (s : State) (f : Flip) : State :=
  let s := f.moves.foldl (fun s m => s.dropMove m.1) s
  (s.setCfg { s.cfg with next := [], flip := none }).setFld GLB.CFGSTAT_PENDING 0

/-- A pending flip ended with ABORTED before its epoch (R438, R451). -/
def State.abortFlip (s : State) (f : Flip) (detail : Nat) : State :=
  let s := s.releaseFlip f
  if f.remote then s else s.finish f.chan 0x0805 f.tag mbAborted detail []

/-- A flip that an orderly exit or an entry to SAFE meets: aborted before its epoch, else completed at once for every camera
(R438). -/
def State.flipExit (s : State) : State :=
  match s.cfg.flip with
  | none => s
  | some f => if f.reached then (s.flipLeavesAll f.todo).flipCheck else s.abortFlip f 0

/-- An admitted flip whose outcome is known to both devices: its interim response; an epoch already past is reached at once (R452,
R467). -/
def State.flipGo (s : State) (f : Flip) (r : Option Req) : State :=
  let gen := (s.fld GLB.CFGGEN_GEN + 1) % 2 ^ 32
  let s := match r with
    | some r => s.interim r (leBytes 4 gen)
    | none => s
  match f.epoch with
  | some e => if e ≤ s.now then s.flipReach e else s
  | none => s

/-- CFG_FLIP (R452, R465, R467, R502). -/
def execCfgFlip (ch : Chan) (s : State) : Out :=
  .next (s.onCommand ch 0x0805 fun s r =>
    let ekind := r.arg 0 1
    let fflags := r.arg 1 1
    let pace := r.arg 2 2
    let epoch := r.arg 8 8
    let gen := s.fld GLB.CFGGEN_GEN
    if s.flipPending then s.refuse r 0x080A 0
    else if 1 < ekind then s.refuse r mbArg 0
    else if (if ekind = 0 then pace != 0 else decide (191 < pace) || s.pstate pace != psStreaming) then s.refuse r mbArg 2
    else if (if ekind = 0 then decide (s.now + 60000000000 < epoch) else epoch != 0) then s.refuse r mbArg 8
    else if bit fflags 0 && r.arg 16 4 != gen then s.refuse r 0x080B gen
    else
      match s.admission s.cfg.shadow s.pairView with
      | some (code, detail) => s.refuse r code detail
      | none =>
        let f : Flip := { chan := r.ch, tag := r.tag, epoch := if ekind = 0 then some epoch else none,
                          pace := if ekind = 0 then none else some pace, admitted := s.now, reached := false, todo := [], done := [],
                          moves := [], failed := none, remote := false, wait := if s.mirrors then 1 else 0, tdone := 0,
                          num := (s.pair.num + 1) % 65536 }
        let s := s.admitFlip f
        if s.mirrors then
          let s := s.pairReq 7 0 ((gen + 1) % 2 ^ 32) [packArg [(8, ekind), (8, fflags), (16, pace)], epoch]
          let d := CfgSet.digest s.cfg.shadow
          s.pairCtl 0x0C 0 f.num 0 ((List.range 6).map fun i => fieldAt d (8 * i) 8)
        else s.flipGo f (some r))

/-- CFG_CANCEL: until the epoch no camera has switched (R451). -/
def execCfgCancel (ch : Chan) (s : State) : Out :=
  .next (s.onCommand ch 0x0806 fun s r =>
    match s.cfg.flip with
    | none => s.done r []
    | some f => if f.reached then s.refuse r 0x080D 0 else (s.abortFlip f 1).done r [])

/-- FLIP_EPOCH_REACHED: the epoch of a pending flip, once TSU time has come to it (R460, R467). -/
def execFlipEpochReached (s : State) : Out :=
  .next (match s.cfg.flip with
    | some f =>
      match f.epoch with
      | some e => if !f.reached && f.wait != 1 && decide (e ≤ s.now) then s.flipReach e else s
      | none => s
    | none => s)

/-- Every frame of an object under an old set has left (R466). -/
def State.oldGone (s : State) (o : Nat) : Bool :=
  let i := o % 65536
  let p := if o / 65536 = 3 then i / 8 else i
  if o / 65536 = 4 then (s.lat i).busy.all (fun b => b.frame.gen == s.fld GLB.CFGGEN_GEN) && (s.lat i).frames.all fun f => f.gen == s.fld GLB.CFGGEN_GEN
  else
    let g := s.ingests.get p {}
    ((g.frame.toList ++ (s.camOf p).frames).filter fun f => !f.finished p).all fun f => f.gen == s.genFor p

/-- RESERVATION_RELEASE: what an object held under the old set goes (R466, R620). -/
def execReservationRelease (kind : Fin 8) (inst : BitVec 11) (s : State) : Out :=
  let o := kind.val * 65536 + inst.toNat
  .next (if s.oldGone o then
      s.setCfg { s.cfg with old := s.cfg.old.filter fun (e : Nat × Nat × Nat) => ownerOf e.1 != o, oldBw := s.cfg.oldBw.drop o }
    else s)

end Sys2Proof.Machine
end

