-- ==== Sys2Proof/Machine/Pairing.lean ====
section
/-!
DEFINITION. Commands of the pair: beats, mirrors, delivery reports, joining and leaving, handovers, flips in a pair, and the
declaration of a takeover (spec/17_pairing.md R476 to R507, spec/02_modes.md R42, R43).
-/
namespace Sys2Proof.Machine

/-! ## Reception (R483, R485) -/

/-- A packet of the partner is taken: the link carries packets and the pair is not SOLO. -/
def State.peerHears (s : State) : Bool := s.peerUp && s.prState != prSolo

/-- Crumb n of a packet as a number. -/
def crumbAt (cs : List Crumb) (n : Nat) : Nat := (cs.getD n 0).toNat

/-- The fields of crumb 0 of a PAIRCTL (R485). -/
def pcType (cs : List Crumb) : Nat := bitsOf (crumbAt cs 0) 7 0
def pcCode (cs : List Crumb) : Nat := bitsOf (crumbAt cs 0) 15 8
def pcNum (cs : List Crumb) : Nat := bitsOf (crumbAt cs 0) 31 16
def pcArg (cs : List Crumb) : Nat := bitsOf (crumbAt cs 0) 63 32

/-- A PAIRCTL of a CTYPE, acted on if it is heard. -/
def State.onPairCtl (s : State) (ctype : Nat) (cs : List Crumb) (k : State → State) : Out :=
  .next (if s.peerHears && pcType cs == ctype then k s else s)

/-! ## Takeover declared (R488, R489) -/

/-- A flip that waits for the partner goes on without it (R503). -/
def State.flipAlone (s : State) : State :=
  match s.cfg.flip with
  | none => s
  | some f =>
    let r := if f.remote then none else s.running f.chan 0x0805 f.tag
    let g := { f with wait := 0, remote := false, chan := if f.remote then 64 else f.chan }
    let s := s.setCfg { s.cfg with flip := some g }
    if f.wait = 1 then s.flipGo g r else if f.tdone ≠ 0 then s.flipAnswer g else s

/-- Handovers, and what waits for them, end with the partner (R43, R501). -/
def State.endHandovers (s : State) : State :=
  let given := s.pair.handovers.filter fun (e : Nat × Handover) => e.2.giver
  let s := given.foldl (fun s (e : Nat × Handover) => s.handoverFail e.1) s
  s.setPair { s.pair with handovers := s.pair.handovers.filter fun (e : Nat × Handover) => e.2.accepted }

/-- A takeover is declared (R489): the cameras of the partner are claimed, each to be taken over at its boundary. -/
def State.declareTakeover (s : State) : State :=
  if !s.mirrors then s
  else
    let ps := (List.range 192).filter fun p => s.pairedCam p && !s.primaryHere p
    let s := (s.endHandovers.setPrState prLost).report 0x0A10 0 0
    let s := s.peerIntr 2 0
    let s := s.setPair { s.pair with taking := ps, skewTaken := s.pair.skewed }
    let s := ps.foldl (fun s p => s.claimMaster p ((s.port p).mepoch + 1)) s
    s.flipAlone.takenAll

/-! ## Beats (R486 to R488) -/

/-- A beat sent; EXIT marks a device that leaves by an immediate trigger (R486). -/
def State.sendBeat (s : State) (exit : Bool) : State :=
  let l := s.pair.last.getD (0, 0)
  let c := packArg [(8, s.pair.bseq), (2, s.dev), (1, b2n exit), (1, 0), (4, s.mode.code), (3, s.prState), (13, 0), (32, s.fld GLB.CFGGEN_GEN)]
  let s := s.peerSend 0x10 ([c, s.now, l.1, l.2].map (BitVec.ofNat 64))
  s.setPair { s.pair with bseq := (s.pair.bseq + 1) % 256, sentAt := s.now }

/-- BEAT_SEND: every 250 µs, unless the CPX heartbeat is more than 10 ms old outside a CPX switch (R486). -/
def execPeerBeatSend (s : State) : Out :=
  .next (if s.peerHears && decide (s.pair.sentAt + 249000 ≤ s.now) && (s.mbx.paused || decide (s.hbAge ≤ 10000)) then s.sendBeat false else s)

/-- A beat missed (R488). -/
def State.beatMissed (s : State) : State :=
  let s := s.setPair { s.pair with beatAt := s.now }
  if s.prState = prLeft ∨ s.prState = prLost then s
  else
    let n := min 4 (s.fld PEER.PSTAT_MISSED + 1)
    let s := (s.setFld PEER.PSTAT_MISSED n).bump PEER.PCNT1_BEATMISS 1
    if n = 4 then s.declareTakeover else s

/-- BEAT_MISS: 250 µs without a beat; the timer stops while the receive group holds (R95, R488). -/
def execPeerBeatMiss (s : State) : Out :=
  .next (if s.domainOn .peer && s.prState != prSolo && !s.flag (LK.LKSTAT_HOLD .peer) && decide (s.pair.beatAt + 250000 ≤ s.now) then s.beatMissed
    else s)

/-- The clock offset of a beat: T1 TECHO, T2 TRECV, T3 TSEND, T4 arrival (R153, R487). -/
def beatOffset (t1 t2 t3 t4 : Nat) : Int := (((t2 : Int) - t1) - ((t4 : Int) - t3)) / 2

/-- PSKEW and its fault (R487): a beat that echoes none yet gives no offset (log entry 50). -/
def State.beatSkew (s : State) (cs : List Crumb) : State :=
  if crumbAt cs 2 = 0 then s
  else
    let l := (beatOffset (crumbAt cs 2) (crumbAt cs 3) (crumbAt cs 1) s.now :: s.pair.offs).take 16
    let v := clamp (-(2 ^ 31)) (2 ^ 31 - 1) (median l)
    let s := s.setFld PEER.PSKEW_SKEW (unsigned 32 v)
    let far := decide (100 < v.natAbs)
    let n := if far then s.pair.skewRun + 1 else 0
    let up := decide (16 ≤ n) && !s.pair.skewed
    let s := s.setPair { s.pair with offs := l, skewRun := n, skewed := far && (s.pair.skewed || up) }
    if up then (s.report 0x0A14 0 (unsigned 32 v)).peerIntr 6 (unsigned 32 v) else s

/-- BEAT: a heartbeat of the partner, ignored once it has left or is lost (R487, R488); `good` says that its trailer CRC held. -/
def execPeerBeat (crumbs : List Crumb) (good : Bool) (s : State) : Out :=
  .next (if !s.peerHears || s.prState == prLeft || s.prState == prLost then s
    else if !good then s.beatMissed
    else
      let c := crumbAt crumbs 0
      let s := s.setPair { s.pair with last := some (crumbAt crumbs 1, s.now), beatAt := s.now, dev := bitsOf c 9 8, mode := bitsOf c 15 12 }
      let s := s.setFlds [(PEER.PSTAT_MISSED, 0), (PEER.PLASTB_TBEAT, s.now)]
      let s := s.beatSkew crumbs
      if bit c 10 then s.declareTakeover else s)

/-! ## Mirrors and delivery (R491 to R493, R275) -/

/-- The record a MIRROR gives: in full, or the blocks of its map over the record held (R491). -/
def mirrorRecord (cs : List Crumb) (held : List Byte) : List Byte :=
  if bit (crumbAt cs 0) 8 then bytesAt (crumbsBytes (cs.drop 1)) 0 4096
  else
    let map := crumbAt cs 1
    let blocks := (List.range 64).filter (bit map)
    let body := crumbsBytes (cs.drop 2)
    (List.range 64).flatMap fun j => match blocks.idxOf? j with
      | some i => bytesAt body (64 * i) 64
      | none => bytesAt held (64 * j) 64

/-- A good record of a camera stood by for is taken: the last two are held, and the port's numbering follows it (R492): the base of
the record gives the number of its frame, and the frames that the port has opened since count on from it (DEDUCED, log entry 204). -/
def State.takeRecord (s : State) (p fn : Nat) (r : List Byte) : State :=
  let s := s.setPair { s.pair with recs := s.pair.recs.set p ((r :: s.pair.recs.get p []).take 2) }
  let g := s.ingest p
  let h := fieldAt r 0x24 2
  let d := (g.lastH + 65536 - h) % 65536
  let d := if g.baseline && decide (d < 32768) then d else 0
  let s := s.setIngest p { g with lastH := (h + d) % 65536, lastFN := (fn + d) % 2 ^ 32, baseline := true, fnNext := (fn + d + 1) % 2 ^ 32 }
  let s := s.setPort p { s.port p with mepoch := max (s.port p).mepoch (fieldAt r 0x18 4) }
  (s.tryArm p).handoverRecord p

/-- MIRROR (R491): a record whose RCRC fails is discarded and asked for in full; an older one changes nothing (R483). -/
def execPeerMirror (crumbs : List Crumb) (s : State) : Out :=
  let p := bitsOf (crumbAt crumbs 0) 7 0
  let fn := bitsOf (crumbAt crumbs 0) 63 32
  .next (if !s.peerHears || !s.mirrors || !s.standby p then s
    else
      let held := (s.pair.recs.get p []).headD []
      let r := mirrorRecord crumbs held
      if held != [] && decide (fnAhead fn (recFn held) ≤ 0) then s
      else if crc32 (r.take 4092) = fieldAt r 0xFFC 4 then s.takeRecord p fn r
      else s.pairReq 0x0B 0 p [])

/-- DONE: the highest frame number reported for a stream, or for the port (R493). -/
def execPeerDone (crumbs : List Crumb) (s : State) : Out :=
  let c := crumbAt crumbs 0
  let key := 8 * bitsOf c 7 0 + bitsOf c 10 8
  let fn := bitsOf c 63 32
  let d := s.pair.dones
  .next (if !s.peerHears || bitsOf c 10 8 = 5 || bitsOf c 10 8 = 6 then s
    else if d.has key && decide (fnAhead fn (d.get key 0) ≤ 0) then s
    else s.setPair { s.pair with dones := d.set key fn })

/-- LATMIR: the partner has emitted lattice frame LFN (R275). -/
def execPeerLatmir (crumbs : List Crumb) (s : State) : Out :=
  let n := bitsOf (crumbAt crumbs 0) 2 0
  let lfn := bitsOf (crumbAt crumbs 0) 63 32
  .next (if !s.peerHears || !s.mirrors then s
    else
      let x := s.lat n
      let keep := x.frames.filter fun f => decide (0 < fnAhead f.lfn lfn)
      let next := if 0 < fnAhead ((lfn + 1) % 2 ^ 32) x.next then (lfn + 1) % 2 ^ 32 else x.next
      s.setLat n { x with mirrored := some lfn, frames := keep, next := next })

/-- RESYNC: the next MIRROR of a port goes out in full (R485, R491). -/
def execPeerResync (crumbs : List Crumb) (s : State) : Out :=
  s.onPairCtl 0x0B crumbs fun s => s.setPair { s.pair with sentRec := s.pair.sentRec.drop (pcArg crumbs) }

/-- PORTINFO: what the partner sees of a port (R477). -/
def execPeerPortinfo (crumbs : List Crumb) (s : State) : Out :=
  s.onPairCtl 0x0D crumbs fun s =>
    let a := pcArg crumbs
    let p := bitsOf a 7 0
    if 191 < p then s
    else
      let was := s.standby p
      let i : PeerPort := { present := bit a 9, dual := bit a 8, serial := bytesAt (crumbsBytes (crumbs.drop 1)) 0 16 }
      let s := (s.setPair { s.pair with info := s.pair.info.set p i }).pairMismatch p
      if was && !s.standby p then (s.setArmed p false).setPair { s.pair with alone := p :: s.pair.alone } else s

/-! ## Joining (R476 to R481, R504) -/

/-- The roles of R478, from the mode in which the partner is. -/
def State.assignRoles (s : State) (partner : Nat) : State :=
  let theirs := (Mode.ofCode partner).streaming
  (List.range 192).foldl (fun s p =>
    let mine := s.mode.streaming && (s.sliceOf p).isSome
    let dflt := CfgSet.primaryA s.cfg.active p == (s.dev == 1)
    s.setPrimary p (if s.pairedCam p && mine != theirs then mine else dflt)) s

/-- The limits of R479 hold on this device as they would stand in the pair. -/
def State.pairAdmits (s : State) (partner : Nat) : Bool :=
  let x := (s.assignRoles partner).setFld PEER.PSTAT_STATE prPaired
  (x.admission x.cfg.active (some x.standbys)).isNone

/-- Lattice streams of lattices that the partner assembles close (R275, R303). -/
def State.leaveLattices (s : State) : State :=
  (List.range 8).foldl (fun s n =>
    if (s.stream (latSid n)).opened && !s.latOwner s.cfg.active n then
      (s.setStream (latSid n) { s.stream (latSid n) with closing := true }).latSettle n
    else s) s

/-- The pair is entered (R478, R480, R481, R494, R504). -/
def State.enterPair (s : State) (partner common : Nat) : State :=
  let s := s.assignRoles partner
  let s := s.setPair { s.pair with join := none, sentRec := [], recs := [], dones := [], acks := [], ring := [], handovers := [], purpose := 0,
                                   roles := none, taking := [], runs := [], skewTaken := false, proposed := none, alone := [] }
  let s := (List.range 6).foldl (fun s i => s.setFld (PEER.ARMED_ARMED i) 0) s
  let s := s.setFlds [(PEER.PSTAT_LEVEL, common), (PEER.PSTAT_MISSED, 0)]
  let s := if common < s.fld PEER.PLEVEL_PMAX then s.report 0x0A17 0 common else s
  let s := s.setPrState prPaired
  let place := (s.placement s.cfg.active s.standbys).getD s.memx.place
  let s := { s with memx := { s.memx with place := place } }
  s.leaveLattices

/-- SYS_SET_MODE(PAIRED) sends a JOIN_REQ, or is refused (R42, R481). -/
def State.startJoin (s : State) (ch tag : Nat) : State :=
  if s.dev = 0 then s.finish ch 0x0103 tag 0x0104 1 []
  else if !s.pairAdmits s.pair.mode then s.finish ch 0x0103 tag 0x0103 0 []
  else
    let s := { s with sys := { s.sys with trans := some { target := .paired, cause := 3, chan := some ch, tag := tag } } }.setFld GLB.MODE_BUSY 1
    let s := s.setPrState prJoining
    let d := CfgSet.digest s.cfg.active
    let arg := s.fld PEER.PLEVEL_PMIN + 65536 * s.fld PEER.PLEVEL_PMAX
    let s := s.pairReq 1 0 arg (((s.reg GLB.IDCODE).toNat + 2 ^ 32 * (s.reg GLB.MODE).toNat) :: (List.range 6).map fun i => fieldAt d (8 * i) 8)
    s.setPair { s.pair with join := some { num := s.pair.num, chan := ch, tag := tag, sent := s.now } }

/-- A join given up: LINKING again, and the command that asked for it refused (R481). -/
def State.joinFails (s : State) (status detail : Nat) : State :=
  ((s.setPair { s.pair with join := none }).setPrState prLinking).failTrans status detail

/-- The NAK code of a JOIN_REQ, if one applies (R481, R483; log entry 51). -/
def State.joinNak (s : State) (cs : List Crumb) : Option Nat :=
  let a := pcArg cs
  let common := min (s.fld PEER.PLEVEL_PMAX) (bitsOf a 31 16)
  if s.dev = 0 then some 1
  else if s.pair.dev = s.dev then some 3
  else if crumbsBytes (cs.drop 2 |>.take 6) != CfgSet.digest s.cfg.active then some 4
  else if common < s.fld PEER.PLEVEL_PMIN ∨ common < bitsOf a 15 0 then some 5
  else if (s.mode != .prepare && s.mode != .run) || s.sys.trans.isSome || !CfgSet.pairEn s.cfg.active || s.pl.closed != [] then some 6
  else if !s.pairAdmits (bitsOf (crumbAt cs 1) 35 32) then some 0
  else none

/-- JOIN_REQ (R481): taken while LINKING or PARTNER-LOST; elsewhere a device without PAIREN, with a class of its peer link closed, or
in a mode other than PREPARE and RUN, answers with code 6 (log entry 51). -/
def execPeerJoinReq (crumbs : List Crumb) (s : State) : Out :=
  .next (if !s.peerUp || pcType crumbs != 1 then s
    else if s.prState ≠ prLinking ∧ s.prState ≠ prLost then
      if (s.mode != .prepare && s.mode != .run) || !CfgSet.pairEn s.cfg.active || s.pl.closed != [] then s.pairCtl 3 6 (pcNum crumbs) 0 [] else s
    else
      let a := pcArg crumbs
      let s := s.setFlds [(PEER.PPEER_PMIN, bitsOf a 15 0), (PEER.PPEER_PMAX, bitsOf a 31 16)]
      let s := (s.setPrState prLinking).setPrState prJoining
      match s.joinNak crumbs with
      | some c => (s.pairCtl 3 c (pcNum crumbs) 0 []).setPrState prLinking
      | none =>
        let common := min (s.fld PEER.PLEVEL_PMAX) (bitsOf a 31 16)
        let s := s.pairCtl 2 0 (pcNum crumbs) common []
        (s.enterPair (bitsOf (crumbAt crumbs 1) 35 32) common).setMode .paired 3 true)

/-- An answer that echoes the request number of the JOIN_REQ sent. -/
def State.joinIs (s : State) (cs : List Crumb) : Bool := s.pair.join.any fun j => j.num == pcNum cs

/-- JOIN_ACK: both enter PAIRED (R481). -/
def execPeerJoinAck (crumbs : List Crumb) (s : State) : Out :=
  s.onPairCtl 2 crumbs fun s =>
    if !s.joinIs crumbs then s
    else
      let s := s.setFld PEER.PPEER_PMAX (max (bitsOf (pcArg crumbs) 15 0) (s.fld PEER.PPEER_PMAX))
      let s := s.enterPair s.pair.mode (bitsOf (pcArg crumbs) 15 0)
      match s.sys.trans with
      | some t => s.endTrans t
      | none => s.setMode .paired 3 true

/-- JOIN_NAK: PAIR_REFUSED with the code, or MODE_NOT_ADMITTED for a limit of R479 (R42, R481). -/
def execPeerJoinNak (crumbs : List Crumb) (s : State) : Out :=
  s.onPairCtl 3 crumbs fun s =>
    if !s.joinIs crumbs then s
    else if pcCode crumbs = 0 then s.joinFails 0x0103 0 else s.joinFails 0x0104 (pcCode crumbs)

/-- JOIN_TIMEOUT: no answer within 10 ms (R42, R481). -/
def execPeerJoinTimeout (s : State) : Out :=
  .next (match s.pair.join with
    | some j => if j.sent + 10000000 ≤ s.now then s.joinFails 0x0104 2 else s
    | none => s)

/-- LEAVE (R482, R488): after its handovers the partner has left in order; before them, it is taken over. -/
def execPeerLeave (crumbs : List Crumb) (s : State) : Out :=
  s.onPairCtl 4 crumbs fun s =>
    if !s.mirrors then s
    else if (List.range 192).any fun p => s.pairedCam p && !s.primaryHere p then s.declareTakeover
    else (s.endHandovers.setPrState prLeft).flipAlone

/-! ## Handovers (R501) -/

/-- HANDOVER: accepted if this device is armed and has a slice (R501). -/
def execPeerHandover (crumbs : List Crumb) (s : State) : Out :=
  s.onPairCtl 5 crumbs fun s =>
    let p := bitsOf (crumbAt crumbs 1) 7 0
    let h := pcArg crumbs
    let code := if !s.standby p || !s.armed p then 1 else if (s.claimTakeover p).isNone then 2 else 0
    let s := s.pairCtl 6 code (pcNum crumbs) h [p]
    if code ≠ 0 then s
    else s.setPair { s.pair with handovers := s.pair.handovers.set p { giver := false, h := h, accepted := true } }

/-- HANDOVER_ACK (R501). -/
def execPeerHandoverAck (crumbs : List Crumb) (s : State) : Out :=
  s.onPairCtl 6 crumbs fun s =>
    let p := bitsOf (crumbAt crumbs 1) 7 0
    let x := s.pair.handovers.get p { giver := false, h := 0 }
    if !x.giver ∨ x.req ≠ pcNum crumbs then s
    else if pcCode crumbs = 0 then s.setPair { s.pair with handovers := s.pair.handovers.set p { x with accepted := true } }
    else s.handoverFail p

/-! ## Flips in a pair (R470, R502, R503) -/

/-- FLIP_PROPOSE: it waits for its DIGEST; of two at once, device A's stands (R502). -/
def execPeerFlipPropose (crumbs : List Crumb) (s : State) : Out :=
  s.onPairCtl 7 crumbs fun s =>
    let c := crumbAt crumbs 1
    let mine := s.cfg.flip.any fun f => f.wait == 1 && !f.remote
    if !s.mirrors ∨ (mine ∧ s.dev = 1) then s
    else
      let s := match s.cfg.flip with
        | some f => if mine then (s.releaseFlip f).finish f.chan 0x0805 f.tag 0x080A 0 [] else s
        | none => s
      s.setPair { s.pair with proposed := some (pcNum crumbs, pcArg crumbs, bitsOf c 7 0, bitsOf c 15 8, bitsOf c 31 16, crumbAt crumbs 2) }

/-- DIGEST: the sets are compared, admission is run and the proposal answered (R470, R502; log entry 52). -/
def execPeerDigest (crumbs : List Crumb) (s : State) : Out :=
  s.onPairCtl 0x0C crumbs fun s =>
    match s.pair.proposed with
    | none => s
    | some (num, gen, ekind, _, pace, epoch) =>
      if num ≠ pcNum crumbs then s
      else
        let s := s.setPair { s.pair with proposed := none }
        if s.flipPending then s.pairCtl 8 1 num 0 []
        else if crumbsBytes (crumbs.drop 1 |>.take 6) != CfgSet.digest s.cfg.shadow then s.pairCtl 8 1 num 0xFE800000 []
        else
          match s.admission s.cfg.shadow s.pairView with
          | some (_, detail) => s.pairCtl 8 1 num (detail ||| 0x00800000) []
          | none =>
            let f : Flip := { chan := 64, tag := 0, epoch := if ekind = 0 then some epoch else none, pace := if ekind = 0 then none else some pace,
                              admitted := s.now, reached := false, todo := [], done := [], moves := [], failed := none, remote := true,
                              wait := 0, tdone := 0, num := num, gen := gen }
            let s := (s.admitFlip f).pairCtl 8 0 num 0 []
            match s.cfg.flip with
            | some f => s.flipGo f none
            | none => s

/-- The own flip that waits for the answer of a request number. -/
def State.flipAsked (s : State) : Option Flip :=
  match s.cfg.flip with
  | some f => if f.wait = 1 ∧ !f.remote then some f else none
  | none => none

/-- FLIP_ANSWER: the flip goes on, or ends with the partner's refusal (R470, R502; log entry 52). -/
def execPeerFlipAnswer (crumbs : List Crumb) (s : State) : Out :=
  s.onPairCtl 8 crumbs fun s =>
    match s.flipAsked with
    | none => s
    | some f =>
      if f.num ≠ pcNum crumbs then s
      else if pcCode crumbs = 0 then
        let g := { f with wait := 3 }
        (s.setCfg { s.cfg with flip := some g }).flipGo g (s.running f.chan 0x0805 f.tag)
      else
        let d := pcArg crumbs
        (s.releaseFlip f).finish f.chan 0x0805 f.tag (if bit d 23 then 0x0809 else 0x080A) d []

/-- FLIP_ANSWER_TIMEOUT: no answer within 1 ms (R502). -/
def execPeerFlipAnswerTimeout (s : State) : Out :=
  .next (match s.flipAsked with
    | some f => if f.admitted + 1000000 ≤ s.now then (s.releaseFlip f).finish f.chan 0x0805 f.tag 0x0809 0x0080FFFF [] else s
    | none => s)

/-- FLIP_EPOCH: the epoch of a paced flip as the proposer took it (R503). -/
def execPeerFlipEpoch (crumbs : List Crumb) (s : State) : Out :=
  s.onPairCtl 9 crumbs fun s =>
    match s.cfg.flip with
    | some f => if f.remote && !f.reached then s.flipReach (crumbAt crumbs 1) else s
    | none => s

/-- FLIP_DONE: the partner's TDONE (R503). -/
def execPeerFlipDone (crumbs : List Crumb) (s : State) : Out :=
  s.onPairCtl 0x0A crumbs fun s =>
    match s.cfg.flip with
    | some f =>
      if f.remote ∨ f.wait ≠ 3 then s
      else
        let f := { f with peer := crumbAt crumbs 1, wait := 0 }
        let s := s.setCfg { s.cfg with flip := some f }
        if f.tdone ≠ 0 then s.flipAnswer f else s
    | none => s

/-- UNKNOWN: a reserved CTYPE is answered with CTYPE 0xFF and CODE 1 (R485). -/
def execPeerUnknown (crumbs : List Crumb) (s : State) : Out :=
  let t := pcType crumbs
  .next (if s.peerHears && (t == 0 || decide (0x0E ≤ t ∧ t ≤ 0xFE)) then s.pairCtl 0xFF 1 (pcNum crumbs) 0 [] else s)

end Sys2Proof.Machine
end

