-- ==== Sys2Proof/Machine/Rotation.lean ====
section
/-!
DEFINITION. Proving windows: how they start, logic and memory BIST, how they end, and the coverage of the rotation
(spec/18_rotation_bist.md R510 to R519, R531).
-/
namespace Sys2Proof.Machine

/-! ## Windows (R510, R513) -/

/-- The window of a slice. -/
def State.proving (s : State) (sl : Nat) : Option Window := s.rot.windows.find? fun w => w.slice == sl

/-- The window of a slice changed. -/
def State.setWindow (s : State) (w : Window) : State :=
  s.setRot { s.rot with windows := s.rot.windows.map fun x => if x.slice = w.slice then w else x }

def State.dropWindow (s : State) (sl : Nat) : State := s.setRot { s.rot with windows := s.rot.windows.filter fun w => w.slice != sl }

/-- Windows that run: those of the rotation from their start, those after a repair from their isolation (R514, R519). -/
def State.running_ (s : State) : Nat := (s.rot.windows.filter fun w => w.after.isNone || decide (2 ≤ w.stage)).length

/-- MAXWIN in effect: 0 and 5 to 7 are taken as 4 (R531), one under a throttle step (R516). -/
def State.maxWin (s : State) : Nat :=
  let m := s.fld XBAR.ROTCTL_MAXWIN
  if s.fld CLK.THRSTAT_STEP ≠ 0 then 1 else if m = 0 ∨ 4 < m then 4 else m

/-- A slice isolated: it shows PROVING, and logic BIST begins with segment 0 (R510, R511). -/
def State.isolate (s : State) (w : Window) : State :=
  (s.setWindow { w with stage := 2, seg := 0, retest := false, start := s.now }).setFlds
    [(SL.PRVSTAT_SSTATE w.slice, ssProving), (SL.PRVSTAT_LASTSEG w.slice, 0), (SL.PRVSTAT_FIRST w.slice, 0)]

/-- A slice retired in its window: its reset is still to come (R513). -/
def State.retireIn (s : State) (w : Window) (seg misr : Nat) : State :=
  let s := s.retire w.slice seg misr
  s.setRot { s.rot with windows := s.rot.windows ++ [{ w with stage := 4, retire := true }] }

/-! ## Scheduling (R514) -/

/-- A slice may be taken for a window now: in service with a camera of its own, or a spare, and no move heads for it. -/
def State.settledSlice (s : State) (sl : Nat) : Bool :=
  (s.sstate sl == ssInService || s.sstate sl == ssSpare) && !s.rot.claims.has sl && (s.proving sl).isNone
    && !s.cams.any fun (e : Nat × Cam) => e.2.move.any fun m => m.1 == sl

/-- The order of the rotation: slices marked FIRST, those passed over, then the rest from the one after the last (R514). -/
def State.rotOrder (s : State) : List Nat :=
  let rest := (List.range 208).map fun i => (s.rot.last + 1 + i) % 208
  (s.rot.first ++ s.rot.passedOver ++ rest).eraseDups.filter fun sl => !s.isRetired sl && (s.proving sl).isNone

/-- A window on a slice started: its camera is to move first, or it is isolated at once (R510). -/
def State.startWindow (s : State) (sl : Nat) : State :=
  let go := fun (s : State) =>
    let r := s.rot
    let last := if r.first.contains sl || r.passedOver.contains sl then r.last else sl
    s.setRot { r with windows := r.windows ++ [{ slice := sl }], started := r.started + 1, first := r.first.filter (· != sl),
                      passedOver := r.passedOver.filter (· != sl), last := last }
  if s.sstate sl = ssSpare then (go s).isolate { slice := sl }
  else
    match s.portOf sl with
    | none => (go s).setWindow { slice := sl, stage := 1 }
    | some p =>
      if (s.camOf p).move.isSome ∨ (s.camOf p).plan.isSome ∨ s.sharing p then s
      else
        match s.claim clProving with
        | some (y, s) => (go s).planMove p y mvProving
        | none => s

/-- PROVING_WINDOW_START (R514, R516): the next slice in the order, when its time has come. -/
def execProvingWindowStart (s : State) : Out :=
  let due := decide (s.rot.started * s.fld XBAR.ROTPER_PERIOD * 1000000000 ≤ (s.clock - s.rot.cycleAt) * s.sound.length)
  let s := s.pausedCheck
  .next (if !s.domainOn .pixel || (s.pcause != 0 && s.pcause != 7) || !due || decide (s.maxWin ≤ s.running_) || decide (s.freeSpares.length < 2) then s
    else
      match s.rotOrder.find? s.settledSlice with
      | none => s
      | some sl =>
        let ahead := (s.rotOrder.takeWhile (· != sl)).filter fun x => !s.rot.first.contains x
        (s.setRot { s.rot with passedOver := (s.rot.passedOver ++ ahead).eraseDups }).startWindow sl)

/-- SLICE_DRAINED (R510, R519): the camera has moved and the slice has drained; a window after a repair counts towards MAXWIN
and is withheld in DEGRADED. -/
def execSliceDrained (sl : Slice) (s : State) : Out :=
  .next (match s.proving sl.val with
    | some w =>
      let free := s.fld (XBAR.RMAP_PORT sl.val) == 0xFF && !s.slBusy sl.val
      let may := w.after.isNone || (s.mode != Mode.degraded && decide (s.running_ < s.maxWin))
      if s.domainOn .pixel && decide (w.stage ≤ 1) && free && may then s.isolate w else s
    | none => s)

/-! ## Logic BIST (R511, R513) -/

/-- A segment's result: a match goes on, a mismatch is rerun, a second one retires the slice (R513). -/
def State.segment (s : State) (w : Window) (good : Bool) (misr : Nat) : State :=
  let sl := w.slice
  if good then
    let s := if w.retest then (s.report 0x3060 sl (packArg [(16, sl), (16, w.seg)])).bump XBAR.ROTCNT0_TRANSIENT 1 else s
    let w := { w with transient := w.transient || w.retest, retest := false }
    if w.seg = 63 then s.setWindow { w with stage := 3 }
    else (s.setWindow { w with seg := w.seg + 1 }).setFld (SL.PRVSTAT_LASTSEG sl) (w.seg + 1)
  else
    let s := (s.bump (SL.PRVCNT_MISMATCH sl) 1).setFlds
      [(SL.PRVSIGL_MISR sl, misr), (SL.PRVSIGH_MISR sl, misr / 2 ^ 32), (SL.PRVSTAT_LASTSEG sl, w.seg)]
    if w.retest then s.retireIn w w.seg misr else s.setWindow { w with retest := true }

/-- BIST_SEGMENT_DONE: `good` says that the MISR is the golden one (R511). -/
def execBistSegmentDone (sl : Slice) (good : Bool) (misr : BitVec 64) (s : State) : Out :=
  .next (match s.proving sl.val with
    | some w => if w.stage = 2 ∧ s.domainOn .pixel then s.segment w good misr.toNat else s
    | none => s)

/-- BIST_SEGMENT_TIMEOUT: a segment not finished in 1 ms counts as a mismatch (R511). -/
def execBistSegmentTimeout (sl : Slice) (misr : BitVec 64) (s : State) : Out :=
  .next (match s.proving sl.val with
    | some w => if w.stage = 2 ∧ s.domainOn .pixel then s.segment w false misr.toNat else s
    | none => s)

/-! ## Memory BIST (R512, R513, R523) -/

/-- Repairs in force on a slice: (slice, spare row m of SRREPm, row), fused and soft (R523, R532). -/
def State.repairsOf (s : State) (sl : Nat) : List (Nat × Nat × Nat) :=
  (s.fuses.repairs ++ s.keeper.repairs).filter fun r => r.1 == sl

/-- Spare rows of a macro not in use (R512). -/
def State.spareRows (s : State) (sl mac : Nat) : List Nat :=
  [2 * mac, 2 * mac + 1].filter fun m => !(s.repairsOf sl).any fun r => r.2.1 == m

/-- Failing rows fitted into the spare rows of their macros; none where a macro has too few (R512). -/
def State.fitRows (s : State) (sl : Nat) : List (Nat × Nat) → Option State
  | [] => some s
  | (mac, row) :: r =>
    match s.spareRows sl mac with
    | [] => none
    | m :: _ => { s with keeper := { s.keeper with repairs := s.keeper.repairs ++ [(sl, m, row)] } }.fitRows sl r

/-- slice-sram-repair for each row repaired (R513). -/
def State.sayRepairs (s : State) (sl : Nat) : List (Nat × Nat) → State
  | [] => s
  | (mac, row) :: r => (s.report 0x3062 sl (packArg [(16, sl), (16, mac), (16, row)])).sayRepairs sl r

/-- MEMORY_BIST_DONE: the failing rows by macro, and whether the repaired macros pass when tested once more (R512, R513). -/
def execMemoryBistDone (sl : Slice) (rows : List (Fin 11 × Fin 512)) (again : Bool) (s : State) : Out :=
  let l := (rows.map fun (e : Fin 11 × Fin 512) => (e.1.val, e.2.val)).eraseDups
  .next (match s.proving sl.val with
    | some w =>
      if w.stage ≠ 3 ∨ !s.domainOn .pixel then s
      else
        match s.fitRows sl.val l with
        | none => s.retireIn w 0x3F 0
        | some t =>
          if l = [] then s.setWindow { w with stage := 4 }
          else if again then (t.sayRepairs sl.val l).setWindow { w with stage := 4 }
          else t.retireIn w 0x3F 0
    | none => s)

/-! ## The end of a window (R510, R513, R514, R517) -/

/-- PROVING_WINDOW_ABORT: 100 ms after its isolation a window is aborted; a second abort in a row retires the slice (R513). -/
def execProvingWindowAbort (sl : Slice) (s : State) : Out :=
  .next (match s.proving sl.val with
    | some w =>
      if w.stage < 2 ∨ w.retire ∨ w.abort ∨ s.now < w.start + 100000000 then s
      else if s.rot.aborted.contains sl.val then s.retireIn w 0x3E 0
      else
        let s := s.setRot { s.rot with aborted := sl.val :: s.rot.aborted }
        s.setWindow { w with stage := 4, abort := true }
    | none => s)

/-- The slice's 352 KiB of SRAM zeroed with valid ECC (R510). -/
def State.zeroSlice (s : State) (sl : Nat) : State :=
  let b := 0x10000000 + 0x58000 * sl
  s.keepMem fun a => !decide (b ≤ a ∧ a < b + 0x58000)

/-- Every scan flop of a slice reset: its registers and its engine, the proving registers apart (R510, R532). -/
def State.resetSlice (s : State) (sl : Nat) : State :=
  let b := 0x800000 + 0x8000 * sl
  let gone := fun a : Nat => decide (b ≤ a ∧ a < b + 0x8000) && !decide (b + 0x400 ≤ a ∧ a < b + 0x500)
  { s with csr := resetRegs gone s.csr, engs := s.engs.drop sl }

/-- A cycle ends once every slice that is not retired has passed in it (R514). -/
def State.cycleCheck (s : State) : State :=
  if s.sound.all fun sl => s.rot.passed.contains sl then
    (s.setRot { s.rot with passed := [], started := 0, cycleAt := s.clock }).bump XBAR.ROTCYC_CYCLES 1
  else s

/-- A window passed (R513, R517). -/
def State.passWindow (s : State) (w : Window) : State :=
  let sl := w.slice
  let r := s.rot
  let s := s.setRot { r with passed := if r.passed.contains sl then r.passed else sl :: r.passed, aborted := r.aborted.filter (· != sl),
                             covered := r.covered.filter (· != sl), hung := if w.after = some trHang then r.hung.set sl s.clock else r.hung }
  let s := (s.bump (SL.PRVCNT_PASSES sl) 1).setFlds [(SL.PRVSTAT_RESULT sl, if w.transient then 2 else 1),
    (SL.PRVTIMEL_TPASS sl, s.now), (SL.PRVTIMEH_TPASS sl, s.now / 2 ^ 32), (SL.PRVSTAT_SSTATE sl, ssSpare)]
  s.cycleCheck

/-- SLICE_RESET_DONE (R510): the slice is a spare again, or stays retired; an aborted window is queued first for a new one. -/
def execSliceResetDone (sl : Slice) (s : State) : Out :=
  .next (match s.proving sl.val with
    | some w =>
      if w.stage ≠ 4 ∨ !s.domainOn .pixel then s
      else
        let s := ((s.zeroSlice sl.val).resetSlice sl.val).dropWindow sl.val
        let s := if w.abort && !w.retire then (s.setSstate sl.val ssSpare).markFirst sl.val
          else
            let s := s.bump XBAR.ROTCNT0_WINDOWS 1
            if w.retire then s.cycleCheck else s.passWindow w
        s.giveBack.serveWaits
    | none => s)

/-- TSU time of a slice's last pass; none since BOOT. -/
def State.lastPass (s : State) (sl : Nat) : Option Nat :=
  if s.fld (SL.PRVCNT_PASSES sl) = 0 then none else some (s.fld (SL.PRVTIMEL_TPASS sl) + 2 ^ 32 * s.fld (SL.PRVTIMEH_TPASS sl))

/-- ROTATION_COVERAGE (R517): raised once until the slice next passes. -/
def execRotationCoverage (sl : Slice) (s : State) : Out :=
  let per := 2 * s.fld XBAR.ROTPER_PERIOD * 1000000000
  let late := match s.lastPass sl.val with
    | some t => decide (t + per ≤ s.now)
    | none => s.rot.since.any fun t => decide (t + per ≤ s.clock)
  .next (if s.domainOn .pixel && late && !s.isRetired sl.val && !s.rot.covered.contains sl.val then
      (s.setRot { s.rot with covered := sl.val :: s.rot.covered }).report 0x1003 sl.val sl.val
    else s)

/-- ROTCTL.CLR (R531). -/
def execRotationCounterClear (s : State) : Out :=
  .next (if s.domainOn .pixel then s.setFlds [(XBAR.ROTCNT0_WINDOWS, 0), (XBAR.ROTCNT0_TRANSIENT, 0), (XBAR.ROTCNT1_REPAIRS, 0), (XBAR.ROTCNT1_DEFERRED, 0)] else s)

end Sys2Proof.Machine
end

