-- ==== Sys2Proof/Machine/Power.lean ====
section
/-!
DEFINITION. Power domains turned off and on, entries to BOOT and to SAFE, entries to the modes with the pixel path powered,
and the F-class action (spec/02_modes.md R34 to R50, R62 to R69, spec/19_faults.md R533, R546 to R549, spec/25_clocks_power.md
R641, R646, spec/26_registers.md R655 to R657).
-/
namespace Sys2Proof.Machine

/-! ## Domains (R655, R657) -/

/-- Registers of a domain back at their reset values but for a set that stays. -/
def State.clearRegs (s : State) (d : Domain) (keep : Nat → Bool) : State :=
  { s with csr := resetRegs (fun a => inDomain d a && !keep a) s.csr }

/-- Registers that STANDBY retains: mailbox indices, the generation, the I2CA slots and pointer, CAN settings, the zero-fill
watermark (R34, R575, R591, R594, R613). -/
def standbyKeeps (a : Nat) : Bool :=
  inDomain .can a || decide (0xF0000 ≤ a ∧ a < 0x100000)
    || [GLB.CFGGEN, GLB.WAKE, I2CA.ADR2, I2CA.ADR3, I2CA.IPTRL, I2CA.IPTRH, MEMC.INITWML, MEMC.INITWMH, MEMC.INITSTAT].contains a

/-- Host window 0 over the mailbox rings (R399, R428). -/
def State.openWindow0 (s : State) : State :=
  s.setFlds [(BRG.HWINL_BASEL 0, 0x15E80000), (BRG.HWINH_BASEH 0, 0), (BRG.HWINS_SIZE 0, 0x80000)]

/-- The TSU stops and the keeper's shadow goes on (R145). -/
def State.tsuStop (s : State) : State :=
  if s.tsu.running then { s with keeper := { s.keeper with shadow := s.now % 2 ^ 64 }, tsu := {} } else s

/-- The TSU starts from the shadow, UNSET and with TIMEVALID 0 (R145). -/
def State.tsuStart (s : State) : State :=
  { s with tsu := { now := s.keeper.shadow * 2 ^ 28, running := true } }.setFlds [(TSU.DSTAT_STATE, tuUnset), (TSU.DSTAT_TIMEVALID, 0)]

/-- PPS_OUT low and the SYNC pins released (R67, R68). -/
def State.quietPins (s : State) : State := { s with sys := { s.sys with ppsOut := false, syncOut := [] } }

/-- The uplink, its link layer and egress reset. -/
def State.clearUplink (s : State) : State :=
  let s := s.lkOff .upl
  { s.clearRegs .uplink (fun _ => false) with upl := {}, links := s.links.drop 192 }

/-- The bridge reset: registers, buffers, locks (R655). -/
def State.clearBridge (s : State) : State :=
  { s with csr := resetRegs (fun a => decide (0x90000 ≤ a ∧ a < 0xA0000)) s.csr, bridge := {} }.openWindow0

/-- The peer link and the pair reset. -/
def State.clearPeer (s : State) : State :=
  { s.clearRegs .peer (fun _ => false) with pair := {}, pl := {}, links := s.links.drop 193 }

/-- A CAN controller without power: its queue is gone, its settings stay while `keep` (R575, R587). -/
def State.clearCan (s : State) (keep : Bool) : State :=
  let off := fun (e : Nat × CanSt) => (e.1, if keep then { e.2 with queue := [], vAt := none, wAt := none } else {})
  let s := { s.clearRegs .can (fun _ => keep) with cans := s.cans.map off }
  s.setFlds [(CAN.STAT_STATE 0, canOff), (CAN.STAT_STATE 1, canOff)]

/-- What of a camera the camera state record keeps in LPDDR (R21, R34). -/
def Cam.record (c : Cam) : Cam :=
  { c with frames := [], mark := 0, odd := false, move := none, moveTry := 0, moveReady := false, moveAt := none, moveLost := none, dropped := false,
           plan := none, repairAt := none, traps := [], tnrRan := false }

/-- The pixel path without power: ports, slices, engines and lattices start anew; with self-refresh the camera state records
stay (R34). Lattice frame numbers and FSEQs count on until BOOT (R268, R296). -/
def State.clearPixel (s : State) (keep : Bool) : State :=
  let cams : Tbl Cam := if keep then s.cams.map fun (e : Nat × Cam) => (e.1, e.2.record) else []
  { s.clearRegs .pixel (fun _ => false) with
    ports := [], ledger := s.ledger.map fun (e : LedgerEntry) => { e with attached := false }
    ingests := [], cams := cams, streams := s.streams.map fun (e : Nat × StreamSt) => (e.1, { fseq := e.2.fseq, lastFn := e.2.lastFn }), engs := []
    lats := s.lats.map fun (e : Nat × LatSt) => (e.1, { next := e.2.next })
    links := s.links.filter fun (e : Nat × LinkSt) => decide (192 ≤ e.1)
    rot := { last := s.rot.last, cycleAt := s.rot.cycleAt } }

/-- The LPDDR controller without power; with self-refresh its content stays (R34). -/
def State.clearLpddr (s : State) (keep : Bool) : State :=
  let s := s.clearRegs .lpddr fun a => keep && standbyKeeps a
  if keep then s
  else
    { s.keepMem (fun a => decide (a < 0x100000000)) with
      memx := { poison := s.memx.poison.filter fun a => decide (a < 0x100000000) }
      cfg := {}, progs := [], ledger := [] }

/-- The egress region, which keeps nothing where the uplink domain is turned on or off (R605, R655). -/
def egressAt (a : Nat) : Bool := decide (0x14780000 ≤ a ∧ a < 0x15780000)

/-- The domains of the pixel path and the links lose power; LPDDR goes into self-refresh or off (R33, R425). -/
def State.fullOff (s : State) (standby : Bool) : State :=
  let s := (s.lkOff .upl).bridgeOff
  let s := s.quietPins.closeStages
  let s := s.clearUplink.clearPeer.clearCan standby
  let s := (s.clearPixel standby).clearLpddr standby
  s.keepMem fun a => !egressAt a

/-- The fabric without power in STANDBY (R33, R34). -/
def State.standbyOff (s : State) : State :=
  let s := s.tsuStop
  let s := { s.clearRegs .fabric standbyKeeps with bridge := {}, sec := {}, snaps := [], readOut := [], motions := [] }
  let s := { s.clearRegs .boardBus (fun _ => false) with i2c := { fresh := true } }
  s.keepMem standbyRetains

/-! ## Entering modes with everything powered (R64) -/

/-- The registers that the active set governs loaded, every link allowed to train (R64, R657). -/
def State.loadActive (s : State) : State :=
  let c := s.cfg.active
  let s := (s.allocFifos c).loadSystem c
  let s := { s with memx := { s.memx with place := (s.placement c []).getD s.memx.place } }
  let s := (List.range 8).foldl (fun s n => s.loadLattice c n) s
  (List.finRange 192).foldl (fun s p => s.loadPortSet p c) s

/-- The domains of the pixel path and the links get power (R64, R587, R657). -/
def State.fullOn (s : State) : State :=
  let st := fun c => if s.flag (CAN.CTL_EN c) then canActive else canOff
  let s := s.setFlds [(CAN.STAT_STATE 0, st 0), (CAN.STAT_STATE 1, st 1), (CLK.CLKSTAT_MEMLOCK, 1), (MEMC.MCFG_CHOK, 15),
    (MEMC.INITSTAT_RUNNING, 1 - s.fld MEMC.INITSTAT_DONE)]
  let s := (List.range 208).foldl (fun s sl => if s.isRetired sl then s.setSstate sl ssRetired else s) s
  let s := if s.mode = .service then s else s.loadActive
  s.lkOn .upl

/-- A mode entered, with the power it needs (R33, R38, R655): from STANDBY to a mode without LPDDR, what self-refresh held is
lost. -/
def State.changeMode (s : State) (m : Mode) (cause : Nat) : State :=
  let was := s.mode.full
  let s := if was && !m.full then s.fullOff (m == .standby)
    else if s.mode == .standby && !m.full then (s.clearPixel false).clearLpddr false
    else s
  let s := if m == .standby then s.standbyOff else s
  let s := if m == .service then s.quietPins else s
  let s := if m.full && !was then s.keepMem fun a => !egressAt a else s
  let s := s.setMode m cause (m == .paired)
  if m.full && !was then s.fullOn else s

/-! ## BOOT (R39, R45, R62) -/

/-- Every domain but the keeper's in reset; memory keeps what a test holds for (R607, R646). -/
def State.resetAll (s : State) (keep : Nat → Bool) : State :=
  let s := s.tsuStop
  let y := s.sys
  { s with
    csr := resetRegs (fun _ => true) s.csr
    mem := s.mem.filter fun c => keep c.1
    memx := { poison := s.memx.poison.filter keep }
    intr := [], iseq := [], links := [], ports := [], ledger := [], cfg := {}, ingests := [], cams := [], streams := []
    rot := {}, lats := [], pair := {}, motions := [], upl := {}, bridge := {}, mbx := {}, dma := [], cans := [], i2c := {}
    engs := [], progs := [], snaps := [], readOut := [], sec := {}
    sys := { vio := y.vio, pwrgood := y.pwrgood, resetLow := y.resetLow, railEp := y.railEp, tap := y.tap, cells := y.cells, scanOut := y.scanOut, lanesHeld := y.tap.takes, flash := y.flash } }

/-- A beat with EXIT = 1 where the pair is left by an immediate trigger (R486). -/
def State.exitBeat (s : State) : State := if s.prState = prSolo then s else s.sendBeat true

/-- BOOT entered with a cause (R36, R39, R50, R534, R543, R546, R653); `resample` where the straps are sampled again (R51). -/
def State.enterBoot (s : State) (cause : Nat) (resample : Bool) : State :=
  let s := s.exitBeat.resetAll inKeeperRegion
  let s := { s with keeper := { s.keeper with log := markPrev s.keeper.log, hbLost := false, hbRestart := none }
                    sys := { s.sys with resample := resample }, fuses := s.blown }
  let s := s.setFlds [(FCU.PINMASK_MASK, 6), (FCU.PINSTAT_BOOTHOLD, 1), (FCU.INTAKE_PEAK, s.keeper.intake.length), (KPR.DOMST_HELD, 0),
    (KPR.DOMST_CPXHOLDA, 0), (KPR.DOMST_CPXHOLDB, 0), (KPR.DOMST_UPIDLE, 0), (CLK.RAILSTAT_FAULTED, 0), (CLK.CLKSTAT_ROOTLOCK, 0),
    (CLK.CLKSTAT_UNLOCKS, 0), (GLB.MODE_BOOTSLOT, 0), (GLB.MODE_FALLBACK, 0), (GLB.MODE_SLOWFLASH, 0)]
  (s.setMode .boot cause false).driveFaultN

/-! ## SAFE (R39, R44, R47, R67) -/

/-- A transition in progress abandoned: its command ends with ABORTED (R47; log entry 70). -/
def State.abandonTrans (s : State) : State :=
  let s := { s with sys := { s.sys with wake := none } }
  s.failTrans mbAborted 0

/-- Commands that a mode does not permit, by group and opcode (R444): 0x01 SYS to 0x0E SVC. -/
def permitted (m : Mode) (op : Nat) : Bool :=
  let g := op / 256
  match m with
  | .safe => g == 1 || op == 0x0A00 || (g == 0x0C && op != 0x0C04) || op == 0x0D00 || op == 0x0D01 || (decide (0x0E00 ≤ op ∧ op ≤ 0x0E02))
  | .prepare => op != 0x0401 && (g != 0x0E || decide (op ≤ 0x0E02))
  | .run | .paired | .degraded => g != 0x0E || decide (op ≤ 0x0E02)
  | .service =>
    if g = 5 ∨ g = 6 ∨ g = 8 ∨ g = 9 ∨ op = 0x0401 then false else if g = 0x0D then op == 0x0D00 || op == 0x0D01 else true
  | .boot | .standby => false

/-- Running commands that the target mode does not permit end with ABORTED, and a pending flip ends or completes (R438). -/
def State.endRuns (s : State) (m : Mode) : State :=
  let s := s.flipExit
  let all := s.mbx.runs ++ s.mbx.cur.map fun (e : Nat × Req) => e.2
  s.abortRuns (fun r => !permitted m r.opcode) 0 all

/-- Both CPX pairs that are not held restart from the ROM: pair A runs Sirfiqua if it can, the other stands by (R547, R548). -/
def State.cpxRestart (s : State) : State :=
  let a := s.sys.pairA != .held
  let b := s.sys.pairB != .held
  let run := s.sys.image.isSome
  let pairA : PairState := if a then (if run then .active else .rom) else .held
  let pairB : PairState := if b then (if run then (if a then .standby else .active) else .reset) else .held
  { s with sys := { s.sys with pairA := pairA, pairB := pairB }, mbx := { s.mbx with paused := false } }

/-- Both CPX pairs have failed their check: the keeper holds the device in BOOT until reset (R63). -/
def State.heldInBoot (s : State) : Bool := s.mode == .boot && s.sys.pairA == .held && s.sys.pairB == .held

/-- SAFE entered at once (R39, R44, R47, R67, R438, R552); in SAFE and SERVICE the mode is kept (R533). While a higher trigger
holds, PWRGOOD or RESET_N low, the request is discarded (R45); so it is while the device is held in BOOT (R63). -/
def State.enterSafe (s : State) (cause : Nat) : State :=
  if !s.sys.pwrgood ∨ s.sys.resetLow ∨ s.heldInBoot then s
  else
  let s := s.abandonTrans
  if s.mode = .safe ∨ s.mode = .service then s
  else
    let s := ((s.endRuns .safe).exitBeat).dmaHalt
    let boot := s.mode == .boot
    let s := (s.changeMode .safe cause).openWindow0
    let s := { s with sys := { s.sys with stage := .ended } }
    let s := if s.tsu.running || !s.alive then s else s.tsuStart
    let s := if boot then (s.setFld FCU.PINSTAT_BOOTHOLD 0).driveFaultN else s
    s.report 0x0104 0 cause

/-- A keeper SAFE request (R544, R546, R548): the CPX restarts where its heartbeat is older than 10 ms. -/
def State.keeperSafe (s : State) (cause : Nat) : State :=
  let old := decide (10000 < s.hbAge)
  let s := s.enterSafe cause
  if old && s.mode == .safe then s.cpxRestart else s

/-- An F-class fault: recorded, and then SAFE (R533). -/
def State.raiseF (s : State) (code inst arg : Nat) : State := (s.report code inst arg).enterSafe 6

end Sys2Proof.Machine
end

