-- ==== Sys2Proof/Machine/Boot.lean ====
section
/-!
DEFINITION. Power-up and boot, mode transitions and their end, wakes, the TAP and the root PLL (spec/02_modes.md R37 to R65,
spec/19_faults.md R544, spec/24_security.md R633, R636, spec/25_clocks_power.md R641 to R647).
-/
namespace Sys2Proof.Machine

/-! ## PWRGOOD, RESET_N and the keeper's supply (R39, R45, R643 to R646) -/

/-- PWRGOOD_RISING (R62): BOOT with cause 0x00. -/
def execPwrgoodRising (s : State) : Out :=
  .next (if s.sys.vio && !s.sys.pwrgood then { s with sys := { s.sys with pwrgood := true } }.enterBoot 0 true else s)

/-- PWRGOOD_FALLING (R646): every domain but the keeper's in reset, FAULT_N low. KEYLOCK ends (R636). -/
def execPwrgoodFalling (s : State) : Out :=
  .next (if s.sys.pwrgood then
      let s := s.resetAll inKeeperRegion
      let s := { s with sys := { s.sys with pwrgood := false } }
      (s.setFlds [(FCU.PINSTAT_BOOTHOLD, 1), (SEC.SECSTAT_KEYLOCK, 0), (CLK.CLKSTAT_ROOTLOCK, 0), (GLB.MODE_BUSY, 0)]).driveFaultN
    else s)

/-- RESET_N_ASSERT (R39, R45): the reset takes hold. -/
def execResetNAssert (s : State) : Out :=
  .next (if s.sys.pwrgood && !s.sys.resetLow then
      let s := s.enterBoot 1 true
      { s with sys := { s.sys with resetLow := true } }
    else s)

/-- RESET_N_RELEASE (R39): BOOT runs with the release as reference. -/
def execResetNRelease (s : State) : Out := .next { s with sys := { s.sys with resetLow := false } }

/-- KEEPER_POWER_UP (R543, R645, R657): the keeper starts, and every K field takes its reset value. -/
def execKeeperPowerUp (s : State) : Out :=
  .next (if s.sys.vio then s
    else { State.reset with fuses := s.fuses, blown := s.blown, sys := { flash := s.sys.flash }, sent := s.sent, fresh := s.fresh, pending := s.pending })

/-- KEEPER_POWER_LOSS (R643): log, shadow, soft repairs and every K field are lost. -/
def execKeeperPowerLoss (s : State) : Out :=
  .next { State.reset with fuses := s.fuses, blown := s.blown, sys := { vio := false, flash := s.sys.flash }, sent := s.sent, fresh := s.fresh, pending := s.pending }

/-! ## The boot sequence (R51 to R63) -/

/-- Pair A starts the ROM at step 7; with BOOTSEL = 0b11 no flash is read and SAFE follows (R52, R62). -/
def State.romStart (s : State) : State :=
  let s := { s with sys := { s.sys with stage := .straps, pairA := .rom } }
  if s.fld KPR.STRAPS_BOOTSEL_EFF = 3 then s.enterSafe 0x0E else s

/-- The clocks start at step 3, and the TSU with them (R62, R145); with no new sampling the straps stand (R51). -/
def State.clocksStart (s : State) : State :=
  let s := { s with sys := { s.sys with stage := .clocks } }
  let s := (s.setFlds [(CLK.CLKSTAT_ROOTLOCK, 1), (CLK.CLKSTAT_REFOK, 1)]).tsuStart
  if s.sys.resample then s else s.romStart

/-- BOOT waits for the root PLL. -/
def State.awaitsLock (s : State) : Bool := s.alive && s.mode == .boot && s.sys.stage == .idle

/-- ROOT_PLL_LOCK (R640). -/
def execRootPllLock (s : State) : Out := .next (if s.awaitsLock then s.clocksStart else s)

/-- One strap: its two samples, effective value and whether it is indeterminate (R52). -/
def strapEff (up dn dflt : Nat) : Nat × Bool := if up = dn then (up, false) else (dflt, true)

/-- The nominal voltages of the rails in mV (R643). -/
def railMv : List Nat := [750, 850, 900, 1200, 1050, 500, 1800, 3300]

/-- A rail in its window: what it measures is a free value of the window of ±6 % (R647; log entry 216). -/
def State.railShown (s : State) (r : Nat) : State :=
  let v := railMv.getD r 0
  let lo := ceilDiv (v * 94) 100
  s.took.setFld (CLK.RAILMV_MV r) (lo + s.free.toNat % (v * 106 / 100 - lo + 1))

/-- The monitors start: every rail that is not in an episode lies in its window (R647). -/
def State.railsShown (s : State) : State :=
  let good := (List.range 8).filter fun r => !s.sys.railEp.contains r
  good.foldl State.railShown (s.setFld CLK.RAILSTAT_INWIN ((good.map (2 ^ ·)).foldl (· + ·) 0))

/-- STRAP_SAMPLING (R51, R52, R54): the values latched, one fault for each indeterminate strap. -/
def execStrapSampling (bootUp bootDn : BitVec 2) (pairUp pairDn : Bool) (twaUp twaDn : BitVec 2) (s : State) : Out :=
  .next (if s.sys.stage != .clocks then s
    else
      let b := strapEff bootUp.toNat bootDn.toNat 0
      let p := strapEff (b2n pairUp) (b2n pairDn) 2
      let t := strapEff twaUp.toNat twaDn.toNat 0
      let w := packArg [(2, bootUp.toNat), (2, bootDn.toNat), (2, b.1), (1, b2n pairUp), (1, b2n pairDn), (2, p.1), (2, twaUp.toNat),
        (2, twaDn.toNat), (2, t.1), (1, b2n b.2), (1, b2n p.2), (1, b2n t.2)]
      let s := s.setReg KPR.STRAPS (BitVec.ofNat 32 w)
      let s := s.railsShown
      let fault := fun (s : State) (bad : Bool) => if bad then s.report 0x0101 0 w else s
      (fault (fault (fault s b.2) p.2) t.2).romStart)

/-- Slots that BOOTSEL lets the ROM try, in order: 0 A, 1 B (R52). -/
def State.slotOrder (s : State) : List Nat :=
  match s.fld KPR.STRAPS_BOOTSEL_EFF with
  | 0 => [0, 1]
  | 1 => [1, 0]
  | 2 => [0]
  | _ => []

/-- Bytes of any number written, so that each block of LPDDR that they reach is filled (R614). -/
def State.pokeLong (s : State) (a : Nat) (l : List Byte) : State :=
  (List.range (ceilDiv l.length 32768)).foldl (fun (s : State) k => s.poke (a + 32768 * k) ((l.drop (32768 * k)).take 32768)) s

/-- The read of the board EEPROM at step 12 (R62, R601, R602): what it writes and how much it reads are free values (log entry
192). `freed` says that the bus clear before it frees the bus; on a stuck bus Sirfiqua goes on without it. -/
def State.eepromRead (s : State) (freed : Bool) : State :=
  let v := s.free.toNat
  let s := s.took.setFlds [(I2CB.CTL_EN, 1), (I2CB.TXN_ADDR, v % 128), (I2CB.TXN_WLEN, v / 128 % 65), (I2CB.TXN_RLEN, v / 65536 % 65)]
  let s := (List.range 16).foldl (fun (s : State) k => s.took.setReg (I2CB.DATA k) (s.free.truncate 32)) s
  s.i2cbGo false freed

/-- Where a section of an image lies in LPDDR: its destination field counts from the start of LPDDR (R56; log entry 193). -/
def sectionAt (dest : Nat) : Nat := 0x100000000 + dest

/-- The sections of an image but the core: type, address in LPDDR, bytes (R56, R58). -/
def imageParts (img : List Byte) : List (Nat × Nat × List Byte) :=
  let h := bytesAt img 0 4096
  (((sections h).take (fieldAt h 0x12 2)).filter fun x => x.2.2.2 != 1).map fun x =>
    (x.2.2.2, sectionAt x.2.2.1, bytesAt img (4096 + x.1) x.2.1)

/-- Sirfiqua starts on a pair (R62 step 12, R65, R360, R464, R664): the core in CPX SRAM, the firmware's keys, the default set,
the default program, the board EEPROM. -/
def State.sirfiqua (s : State) (slot : Nat) (img : List Byte) (pair : Nat) (busFreed : Bool) : State :=
  let im := imageOf s.fuses.rootRev slot img
  let set : CfgSet := match readImage (imageSection img 4) 0x0302 with
    | .ok c => c
    | .error _ => []
  let prog := ((imageParts img).find? fun x => x.1 == 2).map fun x => (⟨0, x.2.1, x.2.2.length⟩ : Binary)
  let y := s.sys
  let held := y.pairA == PairState.held
  let s := { s with sys := { y with stage := .sirfiqua, image := some im, pairA := if pair = 0 then .active else y.pairA,
                                     pairB := if pair = 1 then .active else if held then y.pairB else .standby }
                    cfg := { active := set, shadow := set }, progs := prog.toList }
  let s := s.pokeLong 0x15780000 (imageSection img 1)
  (s.setFld GLB.BUILD_BUILD (Config.buildOf (imageSection img 1))).eepromRead busFreed

/-- The sections staged in the egress SRAM copied into LPDDR (R58). -/
def State.copyParts (s : State) : State :=
  match s.sys.image with
  | some im => (imageParts im.body).foldl (fun (s : State) x => s.pokeLong x.2.1 x.2.2) s
  | none => s

/-- The lockstep check of step 12 on the pair that boots (R63): pair B is tried once after pair A, and the device is held in BOOT
after both. -/
def State.lockstepCheck (s : State) (ok : Bool) (go : State → Nat → State) : State :=
  if s.sys.pairA == .rom then
    if ok then go s 0
    else
      let s := (s.setFld KPR.DOMST_CPXHOLDA 1).report 0x0602 0 0
      { s with sys := { s.sys with pairA := .held, pairB := .rom, failed := [] } }
  else if ok then go s 1
  else
    let s := (s.setFld KPR.DOMST_CPXHOLDB 1).report 0x0601 1 0
    { s with sys := { s.sys with pairB := .held } }

/-- BOOT_IMAGE_LOADED (R56 to R63, R630, R633): the ROM has loaded the next slot; `octal` says that it was read in 8D-8D-8D,
`selfTest` names a failed self-test of SEC, `busFreed` says that I2CB frees the board bus. The image is staged in the egress SRAM;
of a slot whose header fails only the header is (R56, R58). -/
def execBootImageLoaded (slotB octal : Bool) (image : List Byte) (selfTest : Fin 4) (lockstepOk : Bool) (s : State)
    (busFreed : Bool := true) : Out :=
  let slot := b2n slotB
  .next (if s.mode != .boot || s.sys.stage != .straps || (s.slotOrder.filter fun x => !s.sys.failed.contains x).head? != some slot
      || !(s.sys.pairA == .rom || s.sys.pairB == .rom) then s
    else if selfTest.val ≠ 0 then { s with sys := { s.sys with secDead := true } }.raiseF 0x6001 0 selfTest.val
    else
      let h := bytesAt image 0 4096
      let header := headerGood h 1 && !revokesOwn s.fuses.rootRev h
      let asks := bit (fieldAt image 6 2) 0
      let slow := header && asks && !octal
      let s := s.pokeLong 0x14780000 (if header then image else image.take 4096)
      let s := if slow then { s with sys := { s.sys with bootWdog := 8000 } }.report 0x0103 0 slot else s
      if verifyImage s.fuses.rootRev (some s.fuses.fwSvn) 1 image ≠ 0 then
        let s := { s with sys := { s.sys with failed := slot :: s.sys.failed } }.report 0x0102 0 slot
        if s.slotOrder.all s.sys.failed.contains then s.enterSafe 4 else s
      else
        s.lockstepCheck lockstepOk fun s pair =>
          let s := s.setFlds [(GLB.MODE_BOOTSLOT, slot + 1), (GLB.MODE_FALLBACK, b2n (s.sys.failed != [])), (GLB.MODE_SLOWFLASH, b2n !(asks && octal))]
          s.sirfiqua slot image pair busFreed)

/-- BOOT_END (R62 step 13, R64): PREPARE, FAULT_N and the uplink released; the staged sections go to LPDDR (R58). -/
def execBootEnd (s : State) : Out :=
  .next (if s.mode == .boot && s.sys.stage == .sirfiqua && s.alive then
      let s := { s with sys := { s.sys with stage := .ended } }.openWindow0
      ((s.changeMode .prepare 0x10).copyParts.setFld FCU.PINSTAT_BOOTHOLD 0).driveFaultN
    else s)

/-- BOOT_WATCHDOG_EXPIRY (R39, R60): not while BOOT waits for REFCLK, and not once both pairs are held (R63, R641). -/
def execBootWatchdogExpiry (s : State) : Out :=
  .next (if s.mode == .boot && s.alive && s.sys.stage != .idle && !(s.sys.pairA == .held && s.sys.pairB == .held) then s.enterSafe 5 else s)

/-! ## Transitions (R38, R39, R43, R44) -/

/-- What a stream keeps when it is closed: FSEQ and its last FN (R296). -/
def StreamSt.closed (x : StreamSt) : StreamSt := { fseq := x.fseq, lastFn := x.lastFn }

/-- The end of every stream at an orderly exit: FORMAT_CHANGE with CLOSE, ports back in READY, slices and engines let go (R44,
R303). -/
def State.stopStreams (s : State) : State :=
  let gen := s.fld GLB.CFGGEN_GEN
  let open_ := (s.streams.filter fun (e : Nat × StreamSt) => e.2.opened).map fun (e : Nat × StreamSt) => e.1
  let s := open_.foldl (fun (s : State) sid => s.closeStream sid gen) s
  let s := { s with streams := s.streams.map fun (e : Nat × StreamSt) => (e.1, e.2.closed)
                    ingests := s.ingests.map fun (e : Nat × Ingest) => (e.1, { e.2 with frame := none, openLine := none })
                    cams := s.cams.map fun (e : Nat × Cam) => (e.1, e.2.record)
                    lats := s.lats.map fun (e : Nat × LatSt) => (e.1, { e.2 with frames := [], busy := none }) }
  (List.range 192).foldl (fun (s : State) p =>
    let s := if s.pstate p = psStreaming then s.setPstate p psReady else s
    if (s.sliceOf p).isSome then (s.dropMove p).release p else s) s

/-- A wake takes the device out of STANDBY: clocks run, WAKE_OUT rises, PREPARE follows (R37, R598, R642). -/
def State.startWake (s : State) (cause : Nat) : State :=
  let s := { s with sys := { s.sys with trans := some { target := .prepare, cause := cause, chan := none, tag := 0 }, wake := none }
                    i2c := { s.i2c with held := false } }
  (s.tsuStart.openWindow0).setFlds [(GLB.MODE_BUSY, 1), (GLB.WAKE_PEND, 1), (CLK.CLKSTAT_ROOTLOCK, 1)]

/-- A wake condition: in STANDBY it acts, during the entry to STANDBY it is latched (R45, R48). -/
def State.wakeUp (s : State) (cause : Nat) : State :=
  if !s.alive then s
  else
    match s.sys.trans with
    | none => if s.mode = .standby then s.startWake cause else s
    | some t => if t.target = .standby ∧ s.sys.wake.isNone then { s with sys := { s.sys with wake := some cause } } else s

/-- GLB.MODE as it will read once a mode is entered. -/
def State.modeWord (s : State) (m : Mode) (cause : Nat) : List Byte :=
  leBytes 4 (({ s with sys := { s.sys with trans := none } }.setMode m cause false).reg GLB.MODE).toNat

/-- The end of a transition to STANDBY: its response goes before the uplink turns off (R446); a latched wake follows (R48). -/
def State.standbyDone (s : State) (t : Trans) : State :=
  let w := s.modeWord .standby t.cause
  let s := match t.chan with
    | some ch => s.finish ch 0x0103 t.tag mbOk 0 w
    | none => s
  let s := (s.stopStreams.endRuns .standby).dmaAbortAll s.dma
  let wake := s.sys.wake
  let s := { s with sys := { s.sys with trans := none } }
  let s := (s.changeMode .standby t.cause).setFld CLK.CLKSTAT_ROOTLOCK 0
  match wake with
  | some c => s.startWake c
  | none => s

/-- The end of an orderly transition to a mode with a final response in it. -/
def State.transDone (s : State) (t : Trans) : State :=
  let s := { s with sys := { s.sys with trans := none } }
  let s := s.changeMode t.target t.cause
  match t.chan with
  | some ch => s.finish ch 0x0103 t.tag mbOk 0 (leBytes 4 (s.reg GLB.MODE).toNat)
  | none => s

/-- Frames are still being delivered: open at a port, in a slice or a lattice, in a frame store, or on their way to an uplink
that is up (R44). -/
def State.delivering (s : State) : Bool :=
  (s.ingests.any fun e => e.2.frame.any fun f => f.skipWhy == 0 && f.slice.isSome)
    || (s.cams.any fun e => e.2.frames.any fun f => f.skipWhy == 0 && f.slice.isSome && !f.finished e.1)
    || (s.lats.any fun e => e.2.busy.isSome)
    || (s.streams.any fun e => e.2.storing.isSome || e.2.stored != [])
    || (s.flag UPL.UPSTAT_UP && s.upl.fifo.any fun e => e.2 != [])

/-- MODE_TRANSITION_COMPLETE (R38, R39, R446): an orderly exit ends once every stream has delivered its current frame whole
(R44). Joining and leaving the pair end with their own commands. -/
def execModeTransitionComplete (s : State) : Out :=
  .next (match s.sys.trans with
    | none => s
    | some t =>
      match t.target with
      | .boot => s.enterBoot t.cause false
      | .run => if s.mode == .prepare then s.endTrans t else s
      | .prepare =>
        if s.mode == .standby then s.transDone t
        else if s.pair.purpose = 3 ∨ s.delivering then s
        else (s.stopStreams.endRuns .prepare).transDone t
      | .standby => if s.delivering then s else s.standbyDone t
      | .safe =>
        if s.delivering then s
        else
        let s := ((s.stopStreams.endRuns .safe).dmaAbortAll s.dma).transDone t
        s.report 0x0104 0 t.cause
      | .service => ((s.zeroise 1 false).transDone t)
      | .paired | .degraded => s)

/-! ## SYS_SET_MODE (R39 to R43, R46, R446) -/

/-- The legal transitions by command (R39 to R41). -/
def legalMove (cur target : Mode) : Bool :=
  match target with
  | .boot => true
  | .run => cur == .prepare || cur == .paired
  | .paired => cur == .prepare || cur == .run
  | .prepare => cur == .run || cur == .paired || cur == .degraded
  | .standby => cur == .prepare || cur == .run
  | .safe => cur == .prepare || cur == .run || cur == .paired || cur == .degraded
  | .service => cur == .safe || cur == .prepare
  | .degraded => false

/-- A transition begins for a command: BUSY, and its interim response. -/
def State.beginTrans (s : State) (r : Req) (target : Mode) : State :=
  let s := { s with sys := { s.sys with trans := some { target := target, cause := 3, chan := some r.ch, tag := r.tag } } }
  (s.setFld GLB.MODE_BUSY 1).interim r []

/-- The cameras this device serves as primary are handed to its partner (R43, R482): 2 for RUN, 3 for PREPARE. -/
def State.handAll (s : State) (purpose : Nat) : State :=
  let s := (s.setPair { s.pair with purpose := purpose }).setPrState prLeaving
  let mine := (List.range 192).filter fun p => s.pairedCam p && s.primaryHere p && (s.sliceOf p).isSome
  (mine.foldl (fun (s : State) p => s.giveCamera p) s).handoversDone

/-- The service grant is held and less than 10 s old (R446, R634). -/
def State.granted (s : State) : Bool := s.sec.grant.any fun e => decide (s.now < e)

/-- SYS_SET_MODE on the running device. -/
def State.askMode (s : State) (r : Req) : State :=
  let code := r.arg 0 1
  let target := Mode.ofCode code
  if s.flag GLB.MODE_BUSY then s.refuse r 0x0102 0
  else if 8 ≤ code then s.refuse r mbArg 0
  else if target = .degraded then s.refuse r 0x0101 0
  else if target = s.mode then s.done r (leBytes 4 (s.reg GLB.MODE).toNat)
  else if !legalMove s.mode target then s.refuse r 0x0101 0
  else
    match target with
    | .service =>
      if s.granted then
        let s := { s with sec := { s.sec with grant := none } }.setFld SEC.SECSTAT_GRANT 0
        s.beginTrans r .service
      else s.refuse r mbDenied 0
    | .run =>
      if s.mode = .prepare then
        if (s.checkPixels s.cfg.active).isSome ∨ (s.checkMemory s.cfg.active []).isSome then s.refuse r 0x0103 0
        else s.beginTrans r .run
      else
        let left := s.prState == prLeft
        let s := s.beginTrans r .run
        if left then
          let s := s.leavePair
          match s.sys.trans with
          | some t => s.endTrans t
          | none => s
        else s.handAll 2
    | .prepare =>
      let s := s.beginTrans r .prepare
      if s.prState = prPaired then s.handAll 3 else if s.mirrors ∨ s.prState = prLeft then s.leavePair else s
    | .paired =>
      if s.dev = 0 then s.refuse r 0x0104 1
      else if !s.pairAdmits s.pair.mode then s.refuse r 0x0103 0
      else (s.interim r []).startJoin r.ch r.tag
    | t => s.beginTrans r t

/-! ## Wakes, requests and the TAP (R37, R105, R544, R589, R636) -/

/-- WAKE_PEND_CLEAR. -/
def execWakePendClear (s : State) : Out := .next (if s.domainOn .fabric then s.setFld GLB.WAKE_PEND 0 else s)

/-- CAN_WAKE_DETECT (R588, R589): in STANDBY, or while it is entered, a wake condition that the detector is armed for. -/
def execCanWakeDetect (ctrl : CanId) (id : Word) (dlc : Fin 16) (data : List Byte) (s : State) : Out :=
  let c := ctrl.val
  .next (if s.canWakes c id.toNat dlc data then s.wakeUp (9 + c) else s)

/-- The keeper acts on a SAFE request while the device is powered and no reset is held. -/
def State.safeAsked (s : State) : State := if s.sys.pwrgood && !s.sys.resetLow then s.keeperSafe 7 else s

/-- KPR_SAFE_N_REQUEST (R544). -/
def execKprSafeNRequest (s : State) : Out := .next s.safeAsked

/-- Zeroisation by a private TAP instruction: a SYS_SET_MODE(SERVICE) in progress ends with DENIED, and SAFE is requested outside
SERVICE (R636). -/
def State.tapPrivate (s : State) (arg : Nat) : State :=
  let s := s.zeroise arg true
  let s := if s.sys.trans.any fun t => t.target == .service then s.failTrans mbDenied 0 else s
  if s.mode = .service then s else s.safeAsked

/-- The pins are taken: every lane goes off, and stays off until a reset (R105, R680). -/
def State.takePins (s : State) : State :=
  let s := { s with sys := { s.sys with lanesHeld := true } }
  let s := (s.lkOff .upl).lkOff .peer
  ((List.finRange 192).foldl (fun (s : State) p => s.lkOff (.hp p)) s).safeAsked

/-- TAP_INSTRUCTION_UPDATE (R105, R636, R680, R681): `scan` gives the levels at the balls and the bits at TDI of a scan of the
boundary register that the instruction before this one has made. -/
def execTapInstructionUpdate (tap : Tap) (s : State) (scan : Option (List Bool × List Bool) := none) : Out :=
  .next (if !s.sys.pwrgood then s
    else
      let s := match scan with
        | some (levels, tdi) => s.scan levels tdi
        | none => s
      let s := { s with sys := { s.sys with tap := if tap = .reset then .bypass else tap } }
      match tap with
      | .extest | .extestPulse | .extestTrain | .clamp | .highz => s.takePins
      | .intscan => s.tapPrivate 2
      | .cpxdbg => s.tapPrivate 3
      | .sample | .bypass | .reset => s)

/-! ## The root PLL and SEC in running modes (R633, R641) -/

/-- ROOT_PLL_UNLOCK (R641): clocks gated, every domain but the keeper's in reset, SAFE with cause 0x06; SAFE and SERVICE stay
(R40). -/
def execRootPllUnlock (s : State) : Out :=
  .next (if s.alive && s.flag CLK.CLKSTAT_ROOTLOCK then
      let image := s.sys.image
      let y := s.sys
      let was := s.mode
      let s := (s.report 0x0202 0 0).resetAll fun a => decide (a < 0x100000000)
      let s := { s with sys := { s.sys with gated := true, image := image, pairA := y.pairA, pairB := y.pairB, stage := .ended } }
      let s := s.setFld CLK.CLKSTAT_ROOTLOCK 0
      let s := s.bump CLK.CLKSTAT_UNLOCKS 1
      if was = .safe ∨ was = .service then s else (s.setMode .safe 6 false).report 0x0104 0 6
    else s)

/-- PLL_LOCK_RETRY, every 1 ms while the PLL is unlocked (R641): at the first lock both CPX pairs restart into SAFE; a BOOT with
no REFCLK records root-pll-unlock once and goes on waiting. -/
def execPllLockRetry (locked : Bool) (s : State) : Out :=
  .next (if s.sys.gated && s.sys.pwrgood && !s.sys.resetLow then
      if locked then
        let s := { s with sys := { s.sys with gated := false } }
        (((s.setFlds [(CLK.CLKSTAT_ROOTLOCK, 1), (CLK.CLKSTAT_REFOK, 1)]).tsuStart).openWindow0).cpxRestart
      else s
    else if s.awaitsLock then
      if locked then s.clocksStart
      else if s.fld CLK.CLKSTAT_UNLOCKS = 0 then ((s.setFld CLK.CLKSTAT_REFOK 0).bump CLK.CLKSTAT_UNLOCKS 1).report 0x0202 0 0
      else s
    else s)

/-- SEC_SELF_TEST_FAIL (R633): SEC answers nothing more, and SAFE follows. -/
def execSecSelfTestFail (test : Fin 4) (s : State) : Out :=
  .next (if s.domainOn .fabric && !s.sys.secDead then
      ({ s with sys := { s.sys with secDead := true } }.setFld SEC.SECSTAT_STOK 0).raiseF 0x6001 0 test.val
    else s)

/-! ## Rails (R647) -/

/-- SUPPLY_FAULT: a rail outside its window for 5 µs, once per episode. -/
def execSupplyFault (rail : Fin 8) (mv : BitVec 16) (s : State) : Out :=
  let r := rail.val
  .next (if !s.sys.pwrgood || s.sys.railEp.contains r then s
    else
      let s := { s with sys := { s.sys with railEp := r :: s.sys.railEp } }
      let s := s.setFlds [(CLK.RAILMV_MV r, mv.toNat), (CLK.RAILSTAT_INWIN, withBit (s.fld CLK.RAILSTAT_INWIN) r false),
        (CLK.RAILSTAT_FAULTED, withBit (s.fld CLK.RAILSTAT_FAULTED) r true)]
      s.raiseF 0x0503 r mv.toNat)

/-- RAIL_BACK_IN_WINDOW: the episode ends after 1 ms in the window. -/
def execRailBackInWindow (rail : Fin 8) (mv : BitVec 16) (s : State) : Out :=
  let r := rail.val
  .next (if s.sys.pwrgood && s.sys.railEp.contains r then
      let s := { s with sys := { s.sys with railEp := s.sys.railEp.filter (· != r) } }
      s.setFlds [(CLK.RAILMV_MV r, mv.toNat), (CLK.RAILSTAT_INWIN, withBit (s.fld CLK.RAILSTAT_INWIN) r true)]
    else s)

/-! ## Thermal sensors and the throttle (R648 to R652) -/

/-- A sensor converts now: cluster sensors while the pixel path is powered, the others but in STANDBY, where the keeper samples
sensor 26 (R649). -/
def State.sensorRuns (s : State) (n : Nat) : Bool :=
  if n < 26 then s.domainOn .pixel else s.domainOn .fabric || (n == 26 && s.alive && s.mode == .standby)

/-- The reading a sensor counts with, in units of 0.25 °C: 115.0 °C while it is invalid; none before it converts (R649). -/
def State.tempOf (s : State) (n : Nat) : Option Int :=
  if !s.sensorRuns n then none
  else if s.flag (CLK.TS_VALID n) then some (s.sfld (CLK.TS_TJ n))
  else if 3 ≤ s.sys.convFail.get n 0 then some 460
  else none

/-- The hottest sensor and its reading, the lowest number of equals (R648). -/
def State.hottest (s : State) : Option (Nat × Int) :=
  (List.range 30).foldl (fun (a : Option (Nat × Int)) n =>
    match s.tempOf n, a with
    | some v, some (m, w) => if w < v then some (n, v) else some (m, w)
    | some v, none => some (n, v)
    | none, a => a) none

/-- The entry threshold of step k + 1 and the leave threshold of step k, in units of 0.25 °C (R651). -/
def enterAt (k : Nat) : Int := ((420 + 12 * k : Nat) : Int)
def leaveAt (k : Nat) : Int := ((396 + 12 * k : Nat) : Int)

/-- How long something has held: its start is kept while it holds. -/
def since (t : Tbl Nat) (k now : Nat) (holds : Bool) : Tbl Nat := if holds then (if t.has k then t else t.set k now) else t.drop k

/-- Whether something has held for so many ns. -/
def heldFor (t : Tbl Nat) (k now ns : Nat) : Bool := t.has k && decide (t.get k 0 + ns ≤ now)

/-- THRTMAX and THRSTAT.HOT shown, and on which side of each threshold Tmax lies from now on (R651, R653). -/
def State.showTmax (s : State) : State :=
  match s.hottest with
  | some (n, v) =>
    let hot := [0, 1, 2, 3].foldl (fun t k => since t k s.clock (decide (enterAt k ≤ v))) s.sys.hotAt
    let cool := [1, 2, 3, 4].foldl (fun t k => since t k s.clock (decide (v < leaveAt k))) s.sys.coolAt
    { s with sys := { s.sys with hotAt := hot, coolAt := cool } }.setFlds [(CLK.THRTMAX_TMAX, unsigned 12 v), (CLK.THRSTAT_HOT, n)]
  | none => s

/-- THERMAL_CONVERSION (R648, R649). -/
def execThermalConversion (sensor : Fin 30) (reading : Option (BitVec 12)) (s : State) : Out :=
  let n := sensor.val
  .next (if !s.sensorRuns n then s
    else
      match reading with
      | some v =>
        let s := { s with sys := { s.sys with convFail := s.sys.convFail.drop n, critAt := since s.sys.critAt n s.clock (decide (480 ≤ signed 12 v.toNat)) } }
        (s.setFlds [(CLK.TS_TJ n, v.toNat), (CLK.TS_VALID n, 1)]).showTmax
      | none =>
        let k := min (s.sys.convFail.get n 0 + 1) 3
        let s := { s with sys := { s.sys with convFail := s.sys.convFail.set n k } }
        (if k = 3 then s.setFld (CLK.TS_VALID n) 0 else s).showTmax)

/-- A step entered: its fault, its budget and the marks (R651, R652). -/
def State.throttleStep (s : State) (k : Nat) : State :=
  ((s.setFld CLK.THRSTAT_STEP k).report 0x0501 (s.fld CLK.THRSTAT_HOT) k).throttle

/-- THROTTLE_STEP_UP: Tmax has stayed at or above the next entry threshold for 10 ms (R651). -/
def execThrottleStepUp (s : State) : Out :=
  let k := s.fld CLK.THRSTAT_STEP
  .next (if s.domainOn .fabric && decide (k < 4) && s.hottest.any (fun x => decide (enterAt k ≤ x.2))
      && heldFor s.sys.hotAt k s.clock 10000000 then
      (s.bump CLK.THRCNT_STEPUPS 1).throttleStep (k + 1)
    else s)

/-- THROTTLE_STEP_DOWN: Tmax has stayed below the leave threshold for 1 s (R651). -/
def execThrottleStepDown (s : State) : Out :=
  let k := s.fld CLK.THRSTAT_STEP
  .next (if s.domainOn .fabric && decide (0 < k) && s.hottest.all (fun x => decide (x.2 < leaveAt k))
      && heldFor s.sys.coolAt k s.clock 1000000000 then s.throttleStep (k - 1) else s)

/-- CRITICAL_TEMPERATURE: a sensor at or above 120.0 °C for 1 ms (R650): SAFE with cause 0x0F, only recorded in SAFE. -/
def execCriticalTemperature (sensor : Fin 30) (s : State) : Out :=
  .next (match s.tempOf sensor with
    | some v => if 480 ≤ v ∧ heldFor s.sys.critAt sensor s.clock 1000000 then (s.report 0x0502 sensor (unsigned 64 (v / 4))).enterSafe 0x0F else s
    | none => s)

end Sys2Proof.Machine
end

