-- ==== Sys2Proof/Machine/Mailbox.lean ====
section
/-!
DEFINITION. Doorbells, channel resets and the acceptance of mailbox entries with the checks made on each
(spec/15_mailbox.md R428 to R444, R457, R458).
-/
namespace Sys2Proof.Machine

/-! ## Indices (R430) -/

/-- The doorbell: a write of V to DBn (R430). Entries beyond a V that moves CPI back are no longer eligible. -/
def State.doorbell (s : State) (ch v : Nat) (i2c : Bool) : State :=
  let st := s.fld (MBX.CST_STATE ch)
  let cci := s.fld (MBX.IDX_CCI ch)
  let cpi := s.fld (MBX.DB_CPI ch)
  if st = csResetting then s
  else if 64 < idxDiff v cci then s.chError ch v
  else
    let s := s.setFld (MBX.DB_CPI ch) v
    let more := (List.range (idxDiff v cci - idxDiff cpi cci)).map fun i => (ch, (cpi + i) % 65536, i2c)
    let old := s.mbx.order.filter fun e => e.1 != ch || decide (idxDiff e.2.1 cci < idxDiff v cci)
    { s with mbx := { s.mbx with order := old ++ if st = csError then [] else more } }

/-- A write of V to RCIn (R430); a stalled channel with room again goes on (R435). -/
def State.consumeResponses (s : State) (ch v : Nat) : State :=
  if s.fld (MBX.CST_STATE ch) = csResetting then s
  else if 64 < idxDiff (s.fld (MBX.IDX_RPI ch)) v then s.chError ch v
  else (s.setFld (MBX.RCI_RCI ch) v).chState ch

/-- CHRST with GO (R431): responses of running commands are discarded, and the channel's staging windows close. -/
def State.chReset (s : State) (ch : Nat) : State :=
  if s.fld (MBX.CST_STATE ch) = csResetting then s
  else
    let mute := fun r : Req => if r.ch = ch then { r with mute := true } else r
    let m := s.mbx
    let s := { s with mbx := { m with order := m.order.filter fun e => e.1 != ch, cur := m.cur.map fun (e : Nat × Req) => (e.1, mute e.2),
                                      runs := m.runs.map mute } }
    let held := s.mbx.stages.filter fun e => e.2.1 == ch
    let s := held.foldl (fun (s : State) e => s.closeStage e.1) s
    (s.setFld (chErrFld ch) 0).setFld (MBX.CST_STATE ch) csResetting

/-- Free bytes, each the low byte of a free value of its own. -/
def State.freeBytes (s : State) (n : Nat) : List Byte × State :=
  ((List.range n).map fun i => (Config.freeValue (s.fresh + i)).truncate 8, { s with fresh := s.fresh + n })

/-- The channel reset completes (R431). The content of the result buffer becomes undefined: free bytes. -/
def State.chResetDone (s : State) (ch : Nat) : State :=
  if s.fld (MBX.CST_STATE ch) ≠ csResetting then s
  else
    let s := s.setFlds [(MBX.DB_CPI ch, 0), (MBX.RCI_RCI ch, 0), (MBX.IDX_CCI ch, 0), (MBX.IDX_RPI ch, 0), (MBX.CST_LEVEL ch, 0x0300),
      (MBX.CST_COMPAT ch, 0), (MBX.CST_STATE ch, csIdle)]
    let (b, s) := s.freeBytes 65536
    let s := if s.mode.full then s.poke (resultBuf ch) b else s
    let s := { s with mbx := { s.mbx with agents := s.mbx.agents.drop ch } }
    s.mbxIntr ch 4 0

/-- The MBX registers answer: the fabric is powered (R655). -/
def State.mbxOn (s : State) : Bool := s.domainOn .fabric

/-- DOORBELL; `byI2c` where it comes over the management address (R458). -/
def execDoorbell (ch : Chan) (v : BitVec 16) (byI2c : Bool) (s : State) : Out :=
  .next (if s.mbxOn then s.doorbell ch v.toNat byI2c else s)

/-- RESPONSE_CONSUME. -/
def execResponseConsume (ch : Chan) (v : BitVec 16) (s : State) : Out :=
  .next (if s.mbxOn then s.consumeResponses ch v.toNat else s)

/-- CHANNEL_RESET. -/
def execChannelReset (ch : Chan) (s : State) : Out := .next (if s.mbxOn then s.chReset ch else s)

/-- CHANNEL_RESET_DONE. -/
def execChannelResetDone (ch : Chan) (s : State) : Out := .next (if s.mbxOn then s.chResetDone ch else s)

/-! ## Opcodes (R442 to R444) -/

/-- LEN of an opcode at a minor level of SHI 3, least and most; none where the level has no such opcode (R442, R445 to R455). -/
def cmdLen (minor : Nat) : Nat → Option (Nat × Nat)
  | 0x0100 | 0x0102 | 0x0104 | 0x0501 | 0x0701 | 0x0803 | 0x0804 | 0x0806 | 0x0808 | 0x0900 | 0x0A00 | 0x0A04 | 0x0C02 | 0x0C04
  | 0x0E00 | 0x0E04 => some (0, 0)
  | 0x0600 | 0x0B00 | 0x0C03 => some (1, 1)
  | 0x0200 | 0x0201 | 0x0301 | 0x0302 | 0x0303 | 0x0400 | 0x0402 | 0x0403 | 0x0500 | 0x0700 | 0x0A06 | 0x0B04 | 0x0C00 => some (2, 2)
  | 0x0203 => some (3, 3)
  | 0x0103 | 0x0202 | 0x0300 | 0x0800 | 0x0801 | 0x0A03 | 0x0C01 | 0x0D00 | 0x0D02 | 0x0D03 | 0x0D04 | 0x0E03 => some (4, 4)
  | 0x0404 => some (6, 6)
  | 0x0101 | 0x0A01 | 0x0D01 | 0x0D05 => some (8, 8)
  | 0x0B01 => some (10, 10)
  | 0x0A02 | 0x0B02 => some (12, 12)
  | 0x0A05 => some (16, 16)
  | 0x0401 => some (20, 20)
  | 0x0106 => some (26, 26)
  | 0x0B03 => some (28, 28)
  | 0x0105 | 0x0802 | 0x0901 | 0x0E01 | 0x0E02 => some (48, 48)
  | 0x0805 => some (16, if minor = 0 then 16 else 20)
  | 0x0807 => if minor < 2 then none else some (1, 1)
  | _ => none

/-- The reserved bits of a body: byte and mask (R432, R445 to R455). -/
def reservedBody (minor : Nat) : Nat → List (Nat × Nat)
  | 0x0103 => [(1, 255), (2, 255), (3, 255)]
  | 0x0106 => [(1, 255)]
  | 0x0401 => [(2, 255), (3, 255)]
  | 0x0802 => [(1, 255), (7, 255)]
  | 0x0805 => [(1, if minor = 0 then 255 else 254), (4, 255), (5, 255), (6, 255), (7, 255)]
  | 0x0A02 => [(9, 255), (10, 255), (11, 255)]
  | 0x0A03 => [(1, 0xE0), (2, 255), (3, 255)]
  | 0x0A05 => [(1, 255), (2, 255), (3, 255), (5, 0xFC), (6, 255), (7, 255)]
  | 0x0B02 => [(3, 255)]
  | 0x0B03 => [(2, 255), (3, 255)]
  | 0x0C03 => [(0, 0xF8)]
  | 0x0D01 => [(1, 255), (2, 255), (3, 255)]
  | 0x0D05 => [(3, 255)]
  | _ => []

/-- Opcodes that level 2.4 has (R443). -/
def compatOpcode (op : Nat) : Bool :=
  decide (0x0100 ≤ op ∧ op ≤ 0x0104) || op == 0x0200 || op == 0x0201 || op == 0x0A00 || op == 0x0A01 || decide (0x0C00 ≤ op ∧ op ≤ 0x0C03)

/-- LEN of an opcode at a level; level 2.4 has the SHI 3.0 bodies (R442, R443). -/
def levelLen (level op : Nat) : Option (Nat × Nat) :=
  if level = 0x0204 then (if compatOpcode op then cmdLen 0 op else none) else cmdLen (level % 256) op

/-- The first non-zero byte of a list from an offset, as its offset. -/
def firstNonZero : Nat → List Byte → Option Nat
  | _, [] => none
  | i, b :: r => if b ≠ 0 then some i else firstNonZero (i + 1) r

/-- A SHI field that a channel at a level serves (R441, R442). -/
def shiServed (chl shi : Nat) : Bool :=
  shi == 0 || (([0x0204, 0x0300, 0x0301, 0x0302] : List Nat).contains shi && shi / 256 == chl / 256 && decide (shi ≤ chl))

/-- The checks of an accepted entry in their order: status and DETAIL of the first that fails (R432, R434, R441 to R444). -/
def State.checkEntry (s : State) (ch : Nat) (e : List Byte) (level : Nat) : Option (Nat × Nat) :=
  let op := fieldAt e 0 2
  let len := fieldAt e 6 2
  let shi := fieldAt e 8 2
  let chl := s.fld (MBX.CST_LEVEL ch)
  let flags := fieldAt e 2 2
  if flags / 2 ≠ 0 then some (mbReserved, if flags % 256 / 2 ≠ 0 then 2 else 3)
  else
    match firstNonZero 10 (bytesAt e 10 6) with
    | some d => some (mbReserved, d)
    | none =>
      if 48 < len then some (mbLength, 0)
      else
        match firstNonZero (16 + len) (e.drop (16 + len)) with
        | some d => some (mbReserved, d)
        | none =>
          if op ≠ 0x0101 ∧ !shiServed chl shi then some (mbLevel, 0)
          else
            match levelLen level op with
            | none => some (mbUnknown, 0)
            | some (lo, hi) =>
              if len < lo ∨ hi < len then some (mbLength, 0)
              else if !permitted s.mode op ∨ (s.mode ≠ .service ∧ (op = 0x0E03 ∨ op = 0x0E04)) then some (mbMode, s.mode.code)
              else
                let minor := if level = 0x0204 then 0 else level % 256
                match (reservedBody minor op).find? fun x => (fieldAt e (16 + x.1) 1) &&& x.2 != 0 with
                | some x => some (mbReserved, 16 + x.1)
                | none => none

/-- PORT of a command at level 2.4 in CK9200 numbers; none where it has none (R443). -/
def State.aliasOf (s : State) (port : Nat) : Option Nat :=
  let a := (s.mbx.ck2100.getD port 0xFF).toNat
  if 24 ≤ port ∨ a = 0xFF then none else some a

/-! ## Acceptance (R435) -/

/-- Sirfiqua serves mailboxes (R438, R444): SERVE.SERVING. -/
def State.serving (s : State) : Bool :=
  s.cpxRuns && s.mode != .boot && !s.mbx.paused && s.sys.image.isSome

/-- A channel may have an entry accepted, room in its response ring apart (R431, R435, R443). -/
def State.chFree (s : State) (ch : Nat) : Bool :=
  let st := s.fld (MBX.CST_STATE ch)
  st != csError && st != csResetting && !s.mbx.cur.has ch
    && (s.fld (MBX.CST_LEVEL ch) != 0x0204
      || !(s.mbx.runs.any (fun r => r.level == 0x0204) || s.mbx.cur.any fun (e : Nat × Req) => e.2.level == 0x0204))

/-- The first entry in the order of the doorbells that can be accepted; channels met without room are stalled (R435). -/
def State.nextEntry (s : State) : List (Nat × Nat × Bool) → List Nat → Option (Nat × Nat × Bool) × State
  | [], _ => (none, s)
  | e :: rest, blocked =>
    let ch := e.1
    if blocked.contains ch || !s.chFree ch then s.nextEntry rest (ch :: blocked)
    else if s.chRoom ch then (some e, s)
    else
      let t := if s.fld (MBX.CST_STATE ch) = csStalled then s else (s.setFld (MBX.CST_STATE ch) csStalled).mbxIntr ch 2 (s.fld (MBX.IDX_RPI ch))
      t.nextEntry rest (ch :: blocked)

/-- An entry accepted: read, checked, and held as the channel's command (R432, R435, R442, R616). -/
def State.acceptEntry (s : State) (x : Nat × Nat × Bool) : State :=
  let ch := x.1
  let a := cmdEntry ch x.2.1
  let e := s.bytes a 64
  let s := { s with mbx := { s.mbx with order := s.mbx.order.filter fun y => y != x } }.setFld (MBX.IDX_CCI ch) ((x.2.1 + 1) % 65536)
  let shi := fieldAt e 8 2
  let chl := s.fld (MBX.CST_LEVEL ch)
  let op := fieldAt e 0 2
  let level := if shi = 0 ∨ op = 0x0101 ∨ !shiServed chl shi then chl else shi
  let len := fieldAt e 6 2
  let r : Req := { ch := ch, opcode := op, tag := fieldAt e 4 2, noint := bit (fieldAt e 2 2) 0 || x.2.2, level := level, len := len,
                   body := bytesAt (bytesAt e 16 (min len 48)) 0 48 }
  let s := { s with mbx := { s.mbx with cur := s.mbx.cur.set ch r } }.chState ch
  if s.poisoned a 64 then (s.report 0x0F01 ch 0xE0).refuse r mbInternal 0xE0
  else
    match s.checkEntry ch e level with
    | some (st, d) => s.refuse r st d
    | none =>
      if level = 0x0204 ∧ (op = 0x0200 ∨ op = 0x0201) then
        match s.aliasOf (r.arg 0 2) with
        | none => s.refuse r mbArg 0
        | some p => { s with mbx := { s.mbx with cur := s.mbx.cur.set ch { r with body := leBytes 2 p ++ r.body.drop 2 } } }
      else s

/-- MAILBOX_ENTRY_ACCEPT: the next entry in the order of acceptance (R435). -/
def execMailboxEntryAccept (s : State) : Out :=
  .next (if s.serving then
      let (e, t) := s.nextEntry s.mbx.order []
      match e with
      | some e => t.acceptEntry e
      | none => t
    else s)

end Sys2Proof.Machine
end

