-- ==== Sys2Proof/Machine/Commands.lean ====
section
/-!
DEFINITION. The SYS, PORT, HEAD, SLICE, STREAM, LAT, STAT and PAIR commands (spec/15_mailbox.md R445 to R450, R453).
-/
namespace Sys2Proof.Machine

/-- The bytes of a register as it reads. -/
def State.word4 (s : State) (a : Nat) : List Byte := leBytes 4 (s.peek a).toNat

/-- The registers at a list of addresses, as they read. -/
def State.words4 (s : State) (l : List Nat) : List Byte := l.flatMap s.word4

/-! ## SYS (R445, R446) -/

/-- SYS_NOP. -/
def execSysNop (ch : Chan) (s : State) : Out := .next (s.onCommand ch 0x0100 fun s r => s.done r [])

/-- The level that SYS_HELLO chooses (R441). -/
def helloLevel (hmin hmax : Nat) : Option Nat :=
  let l := if 0x0300 ≤ hmax then some (min hmax 0x0302) else if 0x0204 ≤ hmax then some 0x0204 else none
  l.filter fun x => decide (hmin ≤ x)

/-- SYS_HELLO (R441, R445). -/
def execSysHello (ch : Chan) (s : State) : Out :=
  .next (s.onCommand ch 0x0101 fun s r =>
    match helloLevel (r.arg 0 2) (r.arg 2 2) with
    | none => s.refuse r mbLevel 0
    | some l =>
      let s := s.setFlds [(MBX.CST_LEVEL r.ch, l), (MBX.CST_COMPAT r.ch, b2n (l == 0x0204))]
      let s := { s with mbx := { s.mbx with agents := s.mbx.agents.set r.ch (r.arg 4 4) } }
      s.done r (layout [(2, l), (2, 0x0302), (2, 0x0204), (1, s.dev), (1, 0)] ++ s.words4 [GLB.IDCODE, GLB.MODE]
        ++ leBytes 4 (s.fld GLB.CFGGEN_GEN)))

/-- SYS_INFO: SVN and SHI from the header of the running image (R56, R445). -/
def execSysInfo (ch : Chan) (s : State) : Out :=
  .next (s.onCommand ch 0x0102 fun s r =>
    let h := match s.sys.image with
      | some i => i.body
      | none => []
    s.done r (s.words4 [GLB.IDCODE, GLB.MODE] ++ layout [(4, fieldAt h 0x0C 4), (2, fieldAt h 0x10 2), (1, s.fld GLB.MODE_BOOTSLOT), (1, 0)]
      ++ s.words4 [GLB.BUILD, KPR.STRAPS]))

/-- SYS_SET_MODE (R39 to R47, R446). -/
def execSysSetMode (ch : Chan) (s : State) : Out := .next (s.onCommand ch 0x0103 State.askMode)

/-- SYS_GET_MODE. -/
def execSysGetMode (ch : Chan) (s : State) : Out :=
  .next (s.onCommand ch 0x0104 fun s r => s.done r (s.words4 [GLB.MODE, GLB.WAKE]))

/-- The first element of a list that stands earlier in it or in another list, or is no port: its index. -/
def badPort : List Nat → List Nat → Nat → Option Nat
  | _, [], _ => none
  | seen, p :: r, i => if seen.contains p || decide (191 < p) then some i else badPort (p :: seen) r (i + 1)

/-- SYS_PRIORITY (R445). -/
def execSysPriority (ch : Chan) (s : State) : Out :=
  .next (s.onCommand ch 0x0105 fun s r =>
    let pos := r.arg 0 2
    let n := r.arg 2 1
    let base := if pos = 0 then [] else s.mbx.priority
    let ports := (List.range n).map fun i => r.arg (3 + i) 1
    if n = 0 ∨ 40 < n then s.refuse r mbArg 2
    else if pos ≠ base.length then s.refuse r mbArg 0
    else
      match badPort base ports 0 with
      | some i => s.refuse r mbArg (3 + i)
      | none =>
        let marked := ((List.range n).filter fun i => bit (r.arg 43 5) i).map fun i => r.arg (3 + i) 1
        let share := (if pos = 0 then [] else s.mbx.share) ++ marked
        let s := { s with mbx := { s.mbx with priority := base ++ ports, share := share } }
        s.done r (leBytes 2 (base.length + n)))

/-- SYS_COMPAT: its final response waits for BRG.CTL.COMPATNOW (R423, R445). -/
def execSysCompat (ch : Chan) (s : State) : Out :=
  .next (s.onCommand ch 0x0106 fun s r =>
    let b := r.arg 0 1
    let alias_ := bytesAt r.body 2 24
    if 1 < b then s.refuse r mbArg 0
    else
      match (List.range 24).find? fun i => decide (191 < r.arg (2 + i) 1) && r.arg (2 + i) 1 != 255 with
      | some i => s.refuse r mbArg (2 + i)
      | none =>
        if s.mbx.runs.any fun x => x.opcode == 0x0106 then s.refuse r mbBusy 0
        else
          let s := { s with mbx := { s.mbx with ck2100 := alias_ } }.setFld BRG.CTL_COMPAT b
          let s := s.interim r []
          s.answerCompat s.mbx.runs)

/-! ## PORT and HEAD (R447, R448) -/

/-- The commands of an enabled port (R447). -/
def State.onPort (s : State) (r : Req) (k : State → Nat → State) : State :=
  let p := r.arg 0 2
  if 191 < p then s.refuse r mbArg 0
  else if !CfgSet.portEnabled (s.setFor p) p then s.refuse r mbNotFound 0
  else k s p

/-- The commands of a port with a head that answers (R434). -/
def State.onHead (s : State) (r : Req) (k : State → Nat → State) : State :=
  s.onPort r fun s p =>
    if s.pstate p = psReady ∨ s.pstate p = psStreaming then k s p else s.refuse r 0x0301 (s.pstate p)

/-- PORT_STATUS. -/
def execPortStatus (ch : Chan) (s : State) : Out :=
  .next (s.onCommand ch 0x0200 fun s r => s.onPort r fun s p =>
    s.done r (s.words4 [HP.PSTAT p, HP.PCTL p, linkBase (.hp (Fin.ofNat 192 p)) + 0x104, HP.INGSTAT p, HP.INGFN p] ++ s.serial p))

/-- PORT_RETRAIN. -/
def execPortRetrain (ch : Chan) (s : State) : Out :=
  .next (s.onCommand ch 0x0201 fun s r => s.onPort r fun s p =>
    (if h : p < 192 then s.lkRetrain (.hp ⟨p, h⟩) else s).done r [])

/-- A PCTL value taken at once, or at the next frame boundary of a streaming port (R141). -/
def State.askPctl (s : State) (p v : Nat) : State :=
  if s.pstate p = psStreaming then s.setPort p { s.port p with pctlNext := some v } else s.setPctl p v

/-- PORT_AUTH. -/
def execPortAuth (ch : Chan) (s : State) : Out :=
  .next (s.onCommand ch 0x0202 fun s r => s.onPort r fun s p =>
    let a := r.arg 2 1
    if 1 < a then s.refuse r mbArg 2
    else
      let old := (s.port p).pctlNext.getD (s.reg (HP.PCTL p)).toNat
      (s.askPctl p (old / 256 % 256 * 256 + a + 65536 * r.arg 3 1)).done r [])

/-- PORT_COUNTERS: with CLR, zeroed after they are read (R101, R447). -/
def execPortCounters (ch : Chan) (s : State) : Out :=
  .next (s.onCommand ch 0x0203 fun s r => s.onPort r fun s p =>
    let c := r.arg 2 1
    if 1 < c then s.refuse r mbArg 2
    else
      let res := s.words4 [HP.ICNT0 p, HP.ICNT1 p, HP.ICNT2 p, HP.ICNT3 p, HP.ICNT4 p, HP.PCNT0 p, HP.PCNT1 p]
      let s := if h : p < 192 then (if c = 1 then s.lkClear (.hp ⟨p, h⟩) else s) else s
      s.done r res)

/-- The 256 bytes of a ledger entry (R448). -/
def LedgerEntry.bytes (e : LedgerEntry) : List Byte :=
  bytesAt e.serial 0 16 ++ bytesAt e.model 0 16
    ++ layout [(2, e.port), (1, e.auth), (1, b2n e.attached + 2 * b2n (bit (fieldAt e.wear 0x0F 1) 0)), (4, 0), (8, e.firstSeen), (8, e.lastSeen)]
    ++ bytesAt e.wear 0 96 ++ List.replicate 104 0

/-- HEAD_LEDGER (R448). -/
def execHeadLedger (ch : Chan) (s : State) : Out :=
  .next (s.onCommand ch 0x0300 fun s r =>
    let first := r.arg 0 2
    let n := r.arg 2 2
    if n = 0 ∨ 256 < n then s.refuse r mbArg 2
    else
      let entry := fun i => match s.ledger[first + i]? with
        | some e => e.bytes
        | none => List.replicate 256 0
      let t := s.toBuffer r.ch ((List.range n).flatMap entry)
      t.1.done r (t.2 ++ leBytes 2 s.ledger.length))

/-- HEAD_LENS_RESET: the reference of R134 starts again, LENSREF not set. -/
def execHeadLensReset (ch : Chan) (s : State) : Out :=
  .next (s.onCommand ch 0x0301 fun s r => s.onHead r fun s p =>
    let x := s.port p
    let fl := fieldAt x.wearNow 0x0F 1
    (s.setPort p { x with sharp := [], hours := [], wearPend := x.wearPend ++ [(0x0F, 1, withBit fl 1 false)] }).done r [])

/-- HEAD_REAUTH: answered when the challenge ends (R126, R447). -/
def execHeadReauth (ch : Chan) (s : State) : Out :=
  .next (s.onCommand ch 0x0302 fun s r => s.onHead r fun s p => (s.interim r []).challenge p true)

/-- HEAD_POLL: answered when the POLL is (R447). -/
def execHeadPoll (ch : Chan) (s : State) : Out :=
  .next (s.onCommand ch 0x0303 fun s r => s.onHead r fun s p => (s.interim r []).bcQueue p ⟨bcPoll, 0, [], 6, .poll r.ch r.tag⟩)

/-! ## SLICE (R449, R450, R515) -/

/-- The commands of a slice. -/
def State.onSlice (s : State) (r : Req) (k : State → Nat → State) : State :=
  let sl := r.arg 0 2
  if 207 < sl then s.refuse r mbArg 0 else k s sl

/-- SLICE_STATUS. -/
def execSliceStatus (ch : Chan) (s : State) : Out :=
  .next (s.onCommand ch 0x0400 fun s r => s.onSlice r fun s sl =>
    s.done r (layout [(1, s.sstate sl), (1, 0), (2, (s.portOf sl).getD 0xFFFF)]
      ++ s.words4 [SL.ENGSTAT sl, SL.ENGPROG sl, SL.ENGCNT0 sl, SL.TAPSTAT sl]))

/-- SLICE_PQPUT (R450). -/
def execSlicePqput (ch : Chan) (s : State) : Out :=
  .next (s.onCommand ch 0x0401 fun s r =>
    let p := r.arg 0 2
    if 191 < p then s.refuse r mbArg 0
    else
      let owner := s.pstate p == psStreaming && !(s.mode == .paired && s.standby p)
      let t := s.pqPut p owner (pqDecode (bytesAt r.body 4 16))
      match t.1 with
      | 0 => t.2.done r (layout [(4, s.fnOpen p), (8, s.now)])
      | 1 => t.2.refuse r 0x0401 0
      | 2 => t.2.refuse r 0x0402 0
      | 3 => t.2.refuse r 0x0403 0
      | 4 => t.2.refuse r 0x0404 0
      | _ => t.2.refuse r 0x0405 0)

/-- SLICE_TRACE: a copy of the trace window (R352, R449). -/
def execSliceTrace (ch : Chan) (s : State) : Out :=
  .next (s.onCommand ch 0x0402 fun s r => s.onSlice r fun s sl =>
    let t := s.toBuffer r.ch (s.bytes (traceBase sl) 65536)
    t.1.done r t.2)

/-- SLICE_RESTART: ENGCTL.RESTART on the slice that serves a port (R359, R449). -/
def execSliceRestart (ch : Chan) (s : State) : Out :=
  .next (s.onCommand ch 0x0403 fun s r => s.onPort r fun s p =>
    match s.sliceOf p with
    | some sl => (s.setEng sl { s.eng sl with restart := true }).done r []
    | none => s.refuse r mbNotFound 0)

/-- SLICE_PROVING (R515). -/
def execSliceProving (ch : Chan) (s : State) : Out :=
  .next (s.onCommand ch 0x0404 fun s r =>
    let per := r.arg 0 4
    let win := r.arg 4 1
    let pause := r.arg 5 1
    if per ≠ 0 ∧ (per < 10 ∨ 86400 < per) then s.refuse r mbArg 0
    else if win < 1 ∨ 4 < win then s.refuse r mbArg 4
    else if 1 < pause then s.refuse r mbArg 5
    else
      let s := if per = 0 then s else s.setFld XBAR.ROTPER_PERIOD per
      ((s.setFlds [(XBAR.ROTCTL_MAXWIN, win), (XBAR.ROTCTL_PAUSE, pause)]).pausedCheck).done r [])

/-! ## STREAM, LAT and STAT (R273, R279, R314, R449) -/

/-- The counters of a stream: those of the slice that serves its port for an image stream, else 0 (R305; log entry 82). -/
def State.streamCounts (s : State) (sid : Nat) : List Nat :=
  match (if isImageSid sid then s.sliceOf (sid / 8) else none) with
  | some sl =>
    let k := sid % 8
    [s.fld (SL.OCNT_FRAMES sl k), s.fld (SL.OCNT_NOTICES sl k), s.fld (SL.OCNT2_STATUS sl k), s.fld (SL.OCNT2_STOREFULL sl k)]
  | none => [0, 0, 0, 0]

/-- STREAM_STATUS: a stream that the set in force opens, or that is still open. -/
def execStreamStatus (ch : Chan) (s : State) : Out :=
  .next (s.onCommand ch 0x0500 fun s r =>
    let sid := r.arg 0 2
    let p := sid / 8
    let k := sid % 8
    let x := s.stream sid
    let lat := isLatSid sid
    let c := if lat then s.cfg.active else s.setFor p
    let set := if lat then CfgSet.latDefined c (sid - 0x600) else decide (sid < 1536) && CfgSet.portEnabled c p && CfgSet.streamOn c p k
    if 4095 < sid then s.refuse r mbArg 0
    else if !set && !x.opened then s.refuse r mbNotFound 0
    else
      let f := if !lat && 4 ≤ k then [0, 0, 0] else CfgSet.formatOf c sid
      let pol := if !lat && k < 4 then CfgSet.fld c 3 sid (SL.OCTL_POLICY 0 k) else 0
      let n := s.streamCounts sid
      s.done r (layout [(1, f.getD 0 0), (1, pol), (1, b2n (pol == 1)), (1, b2n x.opened), (4, if x.fseq = 0 then 0 else x.fseq - 1), (4, x.lastFn)]
        ++ layout (n.map fun v => (2, v)) ++ layout [(2, f.getD 1 0), (2, f.getD 2 0)]))

/-- STREAM_LIST: the SIDs of open streams. -/
def execStreamList (ch : Chan) (s : State) : Out :=
  .next (s.onCommand ch 0x0501 fun s r =>
    let byte := fun j => BitVec.ofNat 8 ((List.range 8).foldl (fun a i => a + if (s.stream (8 * j + i)).opened then 2 ^ i else 0) 0)
    let t := s.toBuffer r.ch ((List.range 256).map byte)
    t.1.done r t.2)

/-- LAT_STATUS: from the record of the last frame (R273). -/
def execLatStatus (ch : Chan) (s : State) : Out :=
  .next (s.onCommand ch 0x0600 fun s r =>
    let n := r.arg 0 1
    if 7 < n then s.refuse r mbArg 0
    else if !CfgSet.latDefined s.cfg.active n then s.refuse r mbNotFound 0
    else
      let rec_ := s.words4 ((List.range 16).map (LT.LREC n))
      let at4 := fun o => bytesAt rec_ o 4
      s.done r (s.word4 (LT.LLFN n) ++ at4 4 ++ at4 0x24 ++ at4 0x28 ++ at4 0x2C ++ at4 0x30 ++ at4 0x34
        ++ layout [(2, s.fld (LT.LCNT_INCOMPLETE n)), (2, s.fld (LT.LCNT_SKIPPED n)),
          (1, 1 + 2 * b2n (s.latOwner s.cfg.active n) + 4 * b2n (bit (s.fld LAT.LATSTAT_BUSY) n))]))

/-- STAT_READ: a copy of the last complete set (R314, R316); a port with none has no set to name. -/
def execStatRead (ch : Chan) (s : State) : Out :=
  .next (s.onCommand ch 0x0700 fun s r => s.onPort r fun s p =>
    match s.sliceOf p with
    | none => s.refuse r mbNotFound 0
    | some sl =>
      let b := s.statRead sl (0x3C00 * s.fld (SL.STSTAT_BANK sl)) 14912
      if allZero b.1 0 64 then s.refuse r mbNotFound 0
      else
        let t := b.2.toBuffer r.ch b.1
        t.1.done r (t.2 ++ bytesAt b.1 4 4))

/-- STAT_LOAD: loads and budgets in force (R625, R651). -/
def execStatLoad (ch : Chan) (s : State) : Out :=
  .next (s.onCommand ch 0x0701 fun s r =>
    let c := s.cfg.active
    s.done r (layout [(4, ceilQ (s.pixelLoad c)), (4, s.pixelBudget c), (4, s.bwRes), (1, s.freeSpares.length), (1, s.fld CLK.THRSTAT_STEP), (2, 0)]
      ++ s.words4 [UPL.UPLOAD, UPL.UPCAP]))

/-! ## PAIR (R453, R501) -/

/-- A bitmap of the 192 ports. -/
def portMap (p : Nat → Bool) : List Byte := leBytes 24 ((List.range 192).foldl (fun a i => a + if p i then 2 ^ i else 0) 0)

/-- PAIR_STATUS. -/
def execPairStatus (ch : Chan) (s : State) : Out :=
  .next (s.onCommand ch 0x0900 fun s r =>
    s.done r (layout [(1, s.prState), (1, 0), (2, s.fld PEER.PLEVEL_PMAX), (2, s.fld PEER.PPEER_PMAX), (2, s.prLevel)] ++ portMap s.prima))

/-- PAIR_ROLES: cameras served here and named for the partner are handed over; one the partner serves cannot be asked for, since
no message of R485 asks (log entry 83). -/
def execPairRoles (ch : Chan) (s : State) : Out :=
  .next (s.onCommand ch 0x0901 fun s r =>
    let change := r.arg 0 24
    let toA := r.arg 24 24
    let moves := (List.range 192).filter fun p => bit change p && s.pairedCam p && s.prima p != bit toA p
    if s.prState ≠ prPaired then s.refuse r 0x0901 0
    else if s.pair.purpose ≠ 0 then s.refuse r mbBusy 0
    else if moves.any fun p => !s.primaryHere p then s.refuse r 0x0902 0
    else
      let s := (s.interim r []).setPair { s.pair with purpose := 1, roles := some (r.ch, r.tag, false) }
      let s := (moves.filter fun p => (s.sliceOf p).isSome).foldl (fun (s : State) p => s.giveCamera p) s
      s.handoversDone)

end Sys2Proof.Machine
end

