-- ==== Sys2Proof/Machine/HostCommands.lean ====
section
/-!
DEFINITION. The TIME, CAN and FAULT commands (spec/15_mailbox.md R453 to R455, spec/05_time.md R151, spec/21_can.md).
-/
namespace Sys2Proof.Machine

/-! ## TIME (R453, R454) -/

/-- TIME_GET. -/
def execTimeGet (ch : Chan) (s : State) : Out :=
  .next (s.onCommand ch 0x0A00 fun s r =>
    s.done r (leBytes 8 s.now ++ s.words4 [TSU.DSTAT, TSU.PHERR, TSU.INC, TSU.PCNT]))

/-- SEC of TIME_SET or TIME_STEP placed: at the next valid edge in LOCKED and ACQUIRE, else at once (R151, R454).
A PPS jump that still waits for its edge is replaced by the change accepted here (R151 does not say which of
the two stands; DESIGN CHOICE, log entry 105). -/
def State.askTime (s : State) (r : Req) : State :=
  let sec := r.arg 0 8
  let st := s.fld TSU.DSTAT_STATE
  let locked := st = tuLocked ∨ st = tuAcquire
  let due := if locked then (s.now / 1000000000 + 1) * 1000000000 else s.now
  let d : Int := ((sec * 1000000000 : Nat) : Int) - (due : Int)
  let pending := match s.tsu.change with
    | some (.set _ _ _ _) => true
    | _ => false
  if 2 ^ 64 ≤ sec * 1000000000 then s.refuse r mbArg 0
  else if r.opcode = 0x0A01 ∧ s.mode.streaming = true ∧ (d < -1000000 ∨ 1000000 < d) then s.refuse r 0x0A01 0
  else if pending then s.refuse r mbBusy 0
  else
    let s := s.interim r []
    let r := { r with interim := true }
    if locked then { s with tsu := { s.tsu with change := some (.set sec r.ch r.opcode r.tag) } } else s.applySet r sec 0

/-- TIME_SET. -/
def execTimeSet (ch : Chan) (s : State) : Out := .next (s.onCommand ch 0x0A01 State.askTime)

/-- TIME_STEP: with JUMP, the held jump is applied (R149, R454). -/
def execTimeStep (ch : Chan) (s : State) : Out :=
  .next (s.onCommand ch 0x0A02 fun s r =>
    let j := r.arg 8 1
    if 1 < j then s.refuse r mbArg 8
    else if j = 0 then s.askTime r
    else
      match s.tsu.held with
      | none => s.refuse r 0x0A02 0
      | some e =>
        let s := s.interim r []
        let s := { s with tsu := { s.tsu with held := none } }.timeStep (-e) false
        let s := (s.setFld TSU.DSTAT_TIMEVALID 1).tsuState tuAcquire
        s.done { r with interim := true } (layout [(8, unsigned 64 (-e)), (1, 0)]))

/-- TIME_DISCIPLINE writes TSU.DCTL (R152, R453). -/
def execTimeDiscipline (ch : Chan) (s : State) : Out :=
  .next (s.onCommand ch 0x0A03 fun s r => ((s.setReg TSU.DCTL (BitVec.ofNat 32 (r.arg 0 4))).timePins).done r [])

/-- TIME_CLRCNT (R161, R335, R453). -/
def execTimeClrcnt (ch : Chan) (s : State) : Out :=
  .next (s.onCommand ch 0x0A04 fun s r =>
    let ovf := (List.range 16).map fun n => (TSU.SYNCST_OVF n, 0)
    let grp := (List.range 64).flatMap fun g => [(TSU.TGSENT_SENT g, 0), (TSU.TGMISS_MISSED g, 0), (TSU.TGMISS_RESENT g, 0)]
    ((s.setReg TSU.PCNT 0).setFlds (ovf ++ grp)).done r [])

/-- TIME_SYNC: the pin changes at once (R159, R453). -/
def execTimeSync (ch : Chan) (s : State) : Out :=
  .next (s.onCommand ch 0x0A05 fun s r =>
    let n := r.arg 0 1
    if 15 < n then s.refuse r mbArg 0
    else
      let w := fun o => BitVec.ofNat 32 (r.arg o 4)
      let s := ((s.setReg (TSU.SYNC n) (w 4)).setReg (TSU.SYNCOFS n) (w 8)).setReg (TSU.SYNCW n) (w 12)
      ({ s with sys := { s.sys with syncOut := s.sys.syncOut.drop n } }.syncMode n).done r [])

/-- Up to n captures of a pin popped, oldest first: SCAPL and SCAPH of each (R160, R161). -/
def State.popCaptures (s : State) (pin : Nat) : Nat → List Byte × State
  | 0 => ([], s)
  | n + 1 =>
    match s.capOldest pin with
    | none => ([], s)
    | some (t, f) =>
      let x := (s.popCapture pin).popCaptures pin n
      (layout [(4, t), (4, t / 2 ^ 32 % 2 ^ 31 + 2 ^ 31 * b2n f)] ++ x.1, x.2)

/-- TIME_CAPTURE. -/
def execTimeCapture (ch : Chan) (s : State) : Out :=
  .next (s.onCommand ch 0x0A06 fun s r =>
    let n := r.arg 0 1
    let m := r.arg 1 1
    if 15 < n then s.refuse r mbArg 0
    else if m = 0 ∨ 5 < m then s.refuse r mbArg 1
    else
      let x := s.popCaptures n m
      x.2.done r (layout [(1, x.1.length / 8), (7, 0)] ++ x.1))

/-! ## CAN (R453, R574, R575, R581, R583, R588) -/

/-- The commands of a controller (R453). -/
def State.onCan (s : State) (r : Req) (k : State → Nat → State) : State :=
  let c := r.arg 0 1
  if 1 < c then s.refuse r mbNotFound 0 else k s c

/-- CAN_STATUS. -/
def execCanStatus (ch : Chan) (s : State) : Out :=
  .next (s.onCommand ch 0x0B00 fun s r => s.onCan r fun s c =>
    s.done r (leBytes 4 (s.canStat c).toNat ++ s.word4 (CAN.ERRC c) ++ leBytes 1 (s.can c).queue.length))

/-- CAN_CONFIG: it waits for bus idle (R575). -/
def execCanConfig (ch : Chan) (s : State) : Out :=
  .next (s.onCommand ch 0x0B01 fun s r => s.onCan r fun s c =>
    let mode := r.arg 1 1
    if 64 ≤ mode then s.refuse r mbArg 1
    else
      match canRates (r.arg 2 4) (r.arg 6 4) with
      | none => s.refuse r 0x0B01 0
      | some (n, d) => (s.setCan c { s.can c with config := some (mode, n, d) }).done r [])

/-- CAN_FILTER (R581). -/
def execCanFilter (ch : Chan) (s : State) : Out :=
  .next (s.onCommand ch 0x0B02 fun s r => s.onCan r fun s c =>
    let i := r.arg 1 1
    let a := r.arg 2 1
    if 31 < i then s.refuse r mbArg 1
    else if 2 < a then s.refuse r mbArg 2
    else (s.setFlds [(CAN.FID_ID c i, r.arg 4 4), (CAN.FMASK_MASK c i, r.arg 8 4), (CAN.FACT_ACTION c i, a)]).done r [])

/-- The nominal rate of a controller exceeds 500 kbit/s (R588). -/
def State.canFast (s : State) (c : Nat) : Bool :=
  let q := s.fld (CAN.NBT_BRP c) * s.fld (CAN.NBT_NTQ c)
  q != 0 && decide (q * 500000 < 100000000)

/-- CAN_WAKE (R588). -/
def execCanWake (ch : Chan) (s : State) : Out :=
  .next (s.onCommand ch 0x0B03 fun s r => s.onCan r fun s c =>
    let k := r.arg 1 1
    if 2 < k ∨ (k = 2 ∧ s.canFast c = true) then s.refuse r mbArg 1
    else
      (s.setFlds [(CAN.WCTL_WKIND c, k), (CAN.WID_ID c, r.arg 4 4), (CAN.WMASK_MASK c, r.arg 8 4), (CAN.WDATAL_DATA c, r.arg 12 4),
        (CAN.WDATAH_DATA c, r.arg 16 4), (CAN.WDMASKL_DMASK c, r.arg 20 4), (CAN.WDMASKH_DMASK c, r.arg 24 4)]).done r [])

/-- CAN_VEHICLE (R583). -/
def execCanVehicle (ch : Chan) (s : State) : Out :=
  .next (s.onCommand ch 0x0B04 fun s r => s.onCan r fun s c =>
    let sa := r.arg 1 1
    (s.setFlds [(CAN.VEHSA_SA c, sa), (CAN.STAT_SOURCE c, b2n (sa != 0xFE)), (CAN.STAT_SOURCE (1 - c), 0)]).done r [])

/-! ## FAULT (R455, R541, R543, R550) -/

/-- The lowest index from FROM on that holds an uncleared record. -/
def State.firstRecord (s : State) (start : Nat) : Option Nat :=
  ((List.range 1024).drop start).find? fun i => match logEntry s.keeper.log i with
    | some e => !e.cleared
    | none => false

/-- FAULT_READ: the record is shown with READ set (log entry 85). -/
def execFaultRead (ch : Chan) (s : State) : Out :=
  .next (s.onCommand ch 0x0C00 fun s r =>
    let start := r.arg 0 2
    if 1023 < start then s.refuse r mbArg 0
    else
      match s.firstRecord start with
      | none => s.refuse r 0x0C02 0
      | some i =>
        let s := (s.markRead i).getD s
        s.done r (layout [(2, i), (2, 0)] ++ (s.logWords i).flatMap fun w => leBytes 4 w.toNat))

/-- FAULT_CLEAR (R455). -/
def execFaultClear (ch : Chan) (s : State) : Out :=
  .next (s.onCommand ch 0x0C01 fun s r =>
    let i := r.arg 0 2
    let code := r.arg 2 2
    match s.clearRecord i code with
    | some s => s.done r []
    | none =>
      let unread := decide (i < 1024) && match logEntry s.keeper.log i with
        | some e => !e.cleared && !e.read && (e.code == code || (code == 0xFFFF && s.poisoned (logAddr i 2) 4))
        | none => false
      s.refuse r (if unread then 0x0C01 else 0x0C02) 0)

/-- FAULT_COUNTERS: reads FIRSTLOST, then the counters, which zeroes them (R540, R550). -/
def execFaultCounters (ch : Chan) (s : State) : Out :=
  .next (s.onCommand ch 0x0C02 fun s r =>
    let res := s.words4 [FCU.OVFC, FCU.OVFU, FCU.OVFF] ++ s.word4 FCU.FIRSTLOST ++ leBytes 2 0
    ((s.clearOnRead FCU.OVFC).clearOnRead FCU.OVFU).done r res)

/-- FAULT_PINMASK (R543). -/
def execFaultPinmask (ch : Chan) (s : State) : Out :=
  .next (s.onCommand ch 0x0C03 fun s r => ((s.setFld FCU.PINMASK_MASK (r.arg 0 1)).driveFaultN).done r [])

/-- FAULT_DUMP: the whole log, each entry snapshot for itself (R455). -/
def execFaultDump (ch : Chan) (s : State) : Out :=
  .next (s.onCommand ch 0x0C04 fun s r =>
    let t := s.toBuffer r.ch ((List.range 1024).flatMap fun i => (s.logWords i).flatMap fun w => leBytes 4 w.toNat)
    t.1.done r t.2)

end Sys2Proof.Machine
end

