-- ==== Sys2Proof/Machine/Updates.lean ====
section
/-!
DEFINITION. The UPD and SVC commands, the ends of long commands, and the switch between the CPX pairs (spec/15_mailbox.md R436,
R455, spec/16_config_sets.md R473, R474, spec/18_rotation_bist.md R524, R525, spec/24_security.md R630 to R634).
-/
namespace Sys2Proof.Machine

/-! ## SEC (R630, R633) -/

/-- A command that SEC does not answer ends with a firmware fault whose code is a free value (R434, R633; log entry 88). -/
def State.noSec (s : State) (r : Req) : State :=
  let code := s.free.toNat % 2 ^ 32
  ((s.took).report 0x0F01 r.ch code).refuse r mbInternal code

/-- The end of a command whose image or binary fails a step of its verification: UPD_SVN for step 5, else UPD_VERIFY (R630). -/
def State.notVerified (s : State) (r : Req) (step : Nat) : State :=
  if step = 5 then s.refuse r 0x0D03 0 else s.refuse r 0x0D01 (0x0F + step)

/-- The image in the update staging area taken for a command, its window closed; its verification follows (R440, R455). -/
def State.takeImage (s : State) (r : Req) (off : Nat) (k : State → Nat → State) : State :=
  match s.consume r 2 (r.arg off 4) off with
  | .error s => s
  | .ok (base, s) => k s base

/-- The image that a running command took. -/
def State.imageFor (s : State) (r : Req) (off : Nat) : List Byte := s.bytes r.base (r.arg off 4)

/-! ## UPD (R455, R473, R505) -/

/-- UPD_STAGE (R440, R455). -/
def execUpdStage (ch : Chan) (s : State) : Out := .next (s.onCommand ch 0x0D00 fun s r => s.stageCmd r 2 (16 * 2 ^ 20))

/-- UPD_FLASH. -/
def execUpdFlash (ch : Chan) (s : State) : Out :=
  .next (s.onCommand ch 0x0D01 fun s r =>
    if 1 < r.arg 0 1 then s.refuse r mbArg 0
    else s.takeImage r 4 fun s base => s.interimAt r base [])

/-- The end of UPD_FLASH: the staged image is verified before any erase, and what was read back after programming (R455, R630). -/
def State.flashFinish (s : State) (r : Req) (readback : List Byte) : State :=
  let img := s.imageFor r 4
  let svn := some s.fuses.fwSvn
  if s.sys.secDead then s.noSec r
  else
    match verifyImage s.fuses.rootRev svn 1 img with
    | 0 =>
      let s := { s with sys := { s.sys with flash := s.sys.flash.set (r.arg 0 1) readback } }
      if verifyImage s.fuses.rootRev svn 1 readback = 0 ∧ readback.take img.length = img then s.done r [] else s.refuse r 0x0D02 0
    | n => s.notVerified r n

/-- UPD_CPX_SWITCH: the checks of step 1 (R438, R473, R505). -/
def execUpdCpxSwitch (ch : Chan) (s : State) : Out :=
  .next (s.onCommand ch 0x0D02 fun s r =>
    if !s.mbx.runs.isEmpty then s.refuse r mbBusy 0
    else s.takeImage r 0 fun s base =>
      let img := s.bytes base (r.arg 0 4)
      let shi := fieldAt img 0x10 2
      let range := Config.pairRange img
      let levels := (List.range 64).map fun c => s.fld (MBX.CST_LEVEL c)
      if shi / 256 ≠ 3 ∨ levels.any (fun l => l / 256 == 3 && decide (shi < l)) then s.refuse r 0x0D01 4
      else if s.mode = .paired ∧ (s.prLevel < range.1.toNat ∨ range.2.toNat < s.prLevel) then s.refuse r 0x0D01 5
      else s.interimAt r base [])

/-- Step 2 of the switch ends: the image is verified, acceptance pauses, and other running commands are aborted (R434, R473). -/
def State.switchVerified (s : State) (r : Req) : State :=
  if s.mbx.paused then s
  else if s.sys.secDead then s.noSec r
  else
    match verifyImage s.fuses.rootRev (some s.fuses.fwSvn) 1 (s.imageFor r 0) with
    | 0 =>
      let s := { s with mbx := { s.mbx with paused := true } }
      s.abortRuns (fun x => x.opcode != 0x0D02) 2 s.mbx.runs
    | n => s.notVerified r n

/-- The UPD_CPX_SWITCH in its pause, if there is one. -/
def State.switching (s : State) : Option Req := if s.mbx.paused then s.mbx.runs.find? fun r => r.opcode == 0x0D02 else none

/-- The pairs exchange their roles (R473). -/
def State.swapPairs (s : State) : State := { s with sys := { s.sys with pairA := s.sys.pairB, pairB := s.sys.pairA } }

/-- NEW_PAIR_READY: acceptance resumes on the new pair, which runs the new core (R473, R629). -/
def execNewPairReady (s : State) : Out :=
  .next (match s.switching with
    | none => s
    | some r =>
      if !s.cpxRuns || !(s.sys.pairA == .standby || s.sys.pairB == .standby) then s
      else
        let img := s.imageFor r 0
        let range := Config.pairRange img
        let slot := match s.sys.image with
          | some i => i.slot
          | none => 0
        let s := s.swapPairs
        let s := { s with sys := { s.sys with image := some (imageOf s.fuses.rootRev slot img) }, mbx := { s.mbx with paused := false } }
        let s := s.setFlds [(GLB.BUILD_BUILD, (Config.buildOf (imageSection img 1))), (PEER.PLEVEL_PMIN, range.1.toNat), (PEER.PLEVEL_PMAX, range.2.toNat)]
        s.done r [])

/-- The switch fails, and the old pair goes on (R473, R549). -/
def State.switchFails (s : State) : State :=
  match s.mbx.runs.find? fun r => r.opcode == 0x0D02 with
  | none => s
  | some r => { s with mbx := { s.mbx with paused := false } }.refuse r 0x0D01 3

/-- CPX_SWITCH_TIMEOUT: the new pair does not report ready within 30 ms, or fails its lockstep check (R473). -/
def execCpxSwitchTimeout (s : State) : Out :=
  .next (if s.switching.isSome then (s.switchFails).report 0x0603 0 0 else s)

/-- UPD_PROG_ADD. -/
def execUpdProgAdd (ch : Chan) (s : State) : Out :=
  .next (s.onCommand ch 0x0D03 fun s r => s.takeImage r 0 fun s base => s.interimAt r base [])

/-- Bytes of the program store and its base (R360, R612). -/
def storeSize : Nat := 16 * 2 ^ 20
def storeBase : Nat := 0x100400000

/-- The first place of the store that n bytes fit, 64-byte aligned, beside the binaries of a list: the least of the base and the
ends of those binaries. -/
def storePlace (l : List Binary) (n : Nat) : Option Nat :=
  let free := fun a => decide (a + n ≤ storeBase + storeSize) && l.all fun b => decide (a + n ≤ b.addr ∨ b.addr + b.len ≤ a)
  let tries := storeBase :: l.map fun b => padTo 64 (b.addr + b.len)
  (tries.filter free).foldl (fun (a : Option Nat) x => some (match a with
    | some y => min x y
    | none => x)) none

/-- The end of UPD_PROG_ADD: a binary of the same PROGID gives way (R360 to R362, R631; log entry 89). -/
def State.progFinish (s : State) (r : Req) : State :=
  let b := s.imageFor r 0
  let id := fieldAt b 0x0C 4
  let rest := s.progs.filter fun x => x.progid != id
  let keys := match s.sys.image with
    | some i => i.kernelKeys
    | none => []
  if s.sys.secDead then s.noSec r
  else if !kernelGood b then s.refuse r 0x0D01 1
  else
    match verifyKernel keys s.fuses.kbSvn b with
    | 0 =>
      let n := kEnd b
      let used := (rest.map (·.len)).foldl (· + ·) 0
      match storePlace rest n with
      | none => s.refuse r 0x0D04 0
      | some a =>
        if 64 ≤ rest.length ∨ storeSize < used + n then s.refuse r 0x0D04 0
        else
          let e : Binary := { progid := id, addr := a, len := n }
          ({ s with progs := rest ++ [e] }.poke a (b.take n)).done r (leBytes 4 id)
    | 3 => s.notVerified r 5
    | n => s.refuse r 0x0D01 (if n = 1 then 0x11 else 0x13)

/-- UPD_PROG_REMOVE. -/
def execUpdProgRemove (ch : Chan) (s : State) : Out :=
  .next (s.onCommand ch 0x0D04 fun s r =>
    let id := r.arg 0 4
    let named := fun c : CfgSet => (List.range 192).any fun p => CfgSet.progId c p == id
    if (s.binary id).isNone then s.refuse r mbNotFound 0
    else if named s.cfg.active ∨ named s.cfg.shadow then s.refuse r 0x0D06 0
    else { s with progs := s.progs.filter fun x => x.progid != id }.done r [])

/-- UPD_HEAD_FW: the image is verified, then sent to the head (R135, R136, R455, R631). -/
def execUpdHeadFw (ch : Chan) (s : State) : Out :=
  .next (s.onCommand ch 0x0D05 fun s r => s.onPort r fun s p =>
    let hm := r.arg 2 1
    if 1 < hm then s.refuse r mbArg 2
    else if s.pstate p ≠ psReady ∧ s.pstate p ≠ psStreaming then s.refuse r mbNotFound 0
    else if s.mbx.runs.any fun x => x.opcode == 0x0D05 && x.arg 0 2 == p then s.refuse r mbBusy 0
    else s.takeImage r 4 fun s base =>
      let s := s.interimAt r base []
      let r := { r with base := base, interim := true }
      let img := s.imageFor r 4
      if s.sys.secDead then s.noSec r
      else
        match verifyImage s.fuses.rootRev none 3 img with
        | 0 =>
          let mode := if hm = 1 then 1 else if s.flag (HP.PSTAT_HITLESS p) then 0 else 2
          (s.setPort p { s.port p with fw := some (img, 0, mode) }).fwNext p
        | n => s.notVerified r n)

/-! ## SVC (R446, R455, R634) -/

/-- SVC_CHALLENGE (R634, R636). -/
def execSvcChallenge (ch : Chan) (s : State) : Out :=
  .next (s.onCommand ch 0x0E00 fun s r =>
    if s.sys.secDead then s.noSec r
    else
      let (n, s) := s.drawNonce
      let s := { s with sec := { s.sec with nonce := some (n, s.now, r.ch) } }
      let sig := Config.identitySign (Config.sha384 (leBytes 48 n ++ leBytes 16 devId))
      let b := if s.flag SEC.SECSTAT_KEYLOCK then [] else leBytes 48 sig.1 ++ leBytes 48 sig.2
      let s := s.setFlds ((List.range 24).map fun k => (SEC.ATTSIG_SIG k, fieldAt b (4 * k) 4))
      s.done r (leBytes 48 n))

/-- SVC_AUTH_R. -/
def execSvcAuthR (ch : Chan) (s : State) : Out :=
  .next (s.onCommand ch 0x0E01 fun s r => { s with sec := { s.sec with sigR := some (r.ch, r.arg 0 48) } }.done r [])

/-- SVC_AUTH_S: a nonce serves once, for 60 s; the grant lasts 10 s (R455, R634). -/
def execSvcAuthS (ch : Chan) (s : State) : Out :=
  .next (s.onCommand ch 0x0E02 fun s r =>
    match s.sec.sigR with
    | none => s.refuse r 0x0E02 0
    | some (c, sr) =>
      if c ≠ r.ch then s.refuse r 0x0E02 0
      else if s.sys.secDead then s.noSec r
      else
        let key := match s.sys.image with
          | some i => i.serviceKey
          | none => none
        let good := match s.sec.nonce, key with
          | some (n, t, _), some k =>
            decide (s.now < t + 60000000000)
              && Config.ecdsaVerify k (Config.sha384 (leBytes 48 n ++ leBytes 16 devId ++ leBytes 4 (s.reg GLB.IDCODE).toNat)) sr (r.arg 0 48)
          | _, _ => false
        let s := { s with sec := { s.sec with nonce := none, sigR := none } }
        if good then
          let e := s.now + 10000000000
          ({ s with sec := { s.sec with grant := some e } }.setFld SEC.SECSTAT_GRANT 1).done r (leBytes 8 e)
        else s.refuse r 0x0E01 0)

/-- SVC_BIST (R525). -/
def execSvcBist (ch : Chan) (s : State) : Out :=
  .next (s.onCommand ch 0x0E03 fun s r => if 16 ≤ r.arg 0 4 then s.refuse r mbArg 0 else s.interim r [])

/-- The scope bit of a unit (R525). -/
def bistScope : BistUnit → Nat
  | .slice _ => 0
  | .cpx _ => 1
  | .sec => 2
  | .sram _ => 3

/-- The 16-byte entry of a unit (R525). -/
def BistResult.bytes (b : BistResult) : List Byte :=
  layout [(2, (Config.bistCode b.part).toNat), (1, b.result.val), (1, 0), (2, b.segment.toNat), (2, 0), (8, b.misr.toNat)]

/-- Slices that SVC_BIST fails are soft-retired (R513, R525). -/
def State.retireFailed (s : State) : List BistResult → State
  | [] => s
  | b :: rest =>
    (match b.part with
      | .slice n => if b.result.val = 2 ∧ !s.isRetired n then s.retire n b.segment.toNat (b.misr.toNat % 2 ^ 32) else s
      | _ => s).retireFailed rest

/-- The end of SVC_BIST: the results of the units in scope; a test of the CPX pairs leaves their roles exchanged (R525). -/
def State.bistFinish (s : State) (r : Req) (results : List BistResult) : State :=
  let scope := r.arg 0 4
  let l := results.filter fun b => bit scope (bistScope b.part)
  let s := s.retireFailed l
  let s := if bit scope 1 ∧ (s.sys.pairA = .standby ∨ s.sys.pairB = .standby) then s.swapPairs else s
  let t := s.toBuffer r.ch (l.flatMap BistResult.bytes)
  t.1.done r t.2

/-- SVC_FUSE (R455, R524). -/
def execSvcFuse (ch : Chan) (s : State) : Out := .next (s.onCommand ch 0x0E04 fun s r => s.interim r [])

/-- The lowest SVN among the binaries of the store (R361, R631). -/
def State.storeSvn (s : State) : Option Nat :=
  (s.progs.map fun b => s.num (b.addr + 0x10) 4).foldl (fun (a : Option Nat) x => some (match a with
    | some y => min x y
    | none => x)) none

/-- The end of SVC_FUSE: repairs and retirements, counters and revocations; they take effect at the next BOOT (R40, R524, R631). -/
def State.fuseFinish (s : State) (r : Req) : State :=
  let f := s.blown
  let ret := s.keeper.retired.filter fun x => !f.retired.contains x
  let rep := s.keeper.repairs.filter fun x => !f.repairs.contains x
  let (svn, rev) := match s.sys.image with
    | some i => (min i.svn 64, i.revoke)
    | none => (0, 0)
  let kb := match s.storeSvn with
    | some v => min v 64
    | none => 0
  let s := { s with blown := { rootRev := f.rootRev ||| rev, fwSvn := max f.fwSvn svn, kbSvn := max f.kbSvn kb,
                               retired := f.retired ++ ret, repairs := f.repairs ++ rep } }
  s.done r (leBytes 4 (ret.length + rep.length))

/-! ## Long commands (R436) -/

/-- FINAL_RESPONSE: the internal work of a running command ends. `readback` is what the flash returned after programming, and
`results` what the tests of SVC_BIST gave. -/
def execFinalResponse (ch : Chan) (opcode tag : BitVec 16) (readback : List Byte) (results : List BistResult) (s : State) : Out :=
  .next (match s.mbx.runs.find? fun r => r.ch == ch.val && r.opcode == opcode.toNat && r.tag == tag.toNat with
    | none => s
    | some r =>
      if !s.cpxRuns then s
      else
        match opcode.toNat with
        | 0x0801 => s.loadFinish r
        | 0x0807 => s.exportFinish r
        | 0x0D01 => s.flashFinish r readback
        | 0x0D02 => s.switchVerified r
        | 0x0D03 => s.progFinish r
        | 0x0E03 => s.bistFinish r results
        | 0x0E04 => s.fuseFinish r
        | _ => s)

end Sys2Proof.Machine
end

