-- ==== Sys2Proof/Machine/MemRows.lean ====
section
/-!
DEFINITION. Memory errors and the zero-fill pass (spec/23_memory.md R605 to R616, R625).
-/
namespace Sys2Proof.Machine

/-! ## SRAM (R605 to R609) -/

/-- Whether the SRAM of an address is powered (R605, R607, R655); the keeper's region with the keeper. -/
def State.sramPowered (s : State) (a : Nat) : Bool :=
  if a < 0x14780000 then s.domainOn .pixel
  else if inKeeperRegion a then s.domainOn .keeper
  else if 0x15F00000 ≤ a then s.domainOn .peer
  else s.domainOn .fabric

/-- A counter of MEMC raised while the controller is powered (R625, R656). -/
def State.memCount (s : State) (f : Fld) : State := if s.domainOn .lpddr then s.bump f 1 else s

/-- The first uncorrectable address captured while the controller is powered (R616, R656). -/
def State.memCapture (s : State) (a src : Nat) : State := if s.domainOn .lpddr then s.captureErr a src else s

/-- A word of slice SRAM that a slice in PROVING returns as zero and does not check (R606). -/
def State.unchecked (s : State) (a : Nat) : Bool := decide (a < 0x14780000) && s.sstate (sramRegion a) == ssProving

/-- What ECC does with an SRAM word (R608, R616): a single-bit error is corrected and reported; an uncorrectable word is
poisoned, captured and reported. -/
def State.sramError (s : State) (a : Nat) (double : Bool) : State :=
  if double then
    (((s.poisonWord a).memCapture (8 * (a / 8)) 0).memCount MEMC.SRCNT_UE).report 0x5002 (sramRegion a) a
  else (s.memCount MEMC.SRCNT_CE).report 0x5001 (sramRegion a) a

/-- The frame at the head of a stream's FIFO abandoned, as where a packet of it is poisoned (R389, R609): its NOTICE stands where
its END would, behind the units of it already queued. -/
def State.abandonHead (s : State) (sid : Nat) : State :=
  match (s.fifo sid).find? fun u => u.role.inFrame with
  | none => s
  | some u =>
    let s := (s.bump UPL.UPCNT4_EGOVF 1).report 0x0811 sid 0
    let l := (u.fn, u.fseq)
    if s.assembling sid l then s.stopFrame sid l
    else
      let x := s.stream sid
      let n := s.abandonUnit sid (s.fifo sid ++ x.stored.flatten) l
      let swap := fun v : EgUnit => if endOf l v then n else v
      if (s.fifo sid).any (endOf l) then s.setUpl { s.upl with fifo := s.upl.fifo.set sid ((s.fifo sid).map swap) }
      else if x.stored.any fun us => us.any (endOf l) then
        s.setStream sid { x with stored := x.stored.map fun us => if us.any (endOf l) then [n] else us }
      else (s.stopFrame sid l).pushOrLose sid n

/-- What a poisoned SRAM word does to its consumer (R609, R519): a slice takes a deferred repair, its engine traps, the active
CPX pair halts, a packet leaves with a bad trailer and its frame is abandoned. Mailbox entries, the log and reads of the bridge
meet the poison when they read it. -/
def State.sramConsumer (s : State) (a : Nat) (sid : Option Nat) : State :=
  if a < 0x14780000 then
    let sl := sramRegion a
    if a < engCodeBase sl then s.deferRepair sl trSram
    else if s.engReady sl then s.engTrap sl 5
    else s
  else if a < 0x15780000 then
    let s := s.setUpl { s.upl with injTx := true }
    match sid with
    | some i => s.abandonHead i
    | none => s
  else if a < 0x15B80000 then
    let halt := fun (x : PairState) => if x == .active then PairState.halted else x
    { s with sys := { s.sys with pairA := halt s.sys.pairA, pairB := halt s.sys.pairB } }
  else s

/-- SRAM_ECC_READ: a read finds a corrected or an uncorrectable word; `sid` is the stream whose packet an egress word belongs
to (R608, R609). -/
def execSramEccRead (addr : BitVec 48) (double : Bool) (sid : Option (BitVec 12)) (s : State) : Out :=
  let a := addr.toNat
  .next (if !inSram a || !s.sramPowered a || s.unchecked a then s
    else
      let s := s.sramError a double
      if double then s.sramConsumer a (sid.map BitVec.toNat) else s)

/-- SRAM_SCRUB: the scrubber meets a corrected or an uncorrectable word (R608, R625). -/
def execSramScrub (addr : BitVec 48) (double : Bool) (s : State) : Out :=
  let a := addr.toNat
  .next (if !inSram a || !s.sramPowered a || s.unchecked a || !s.flag MEMC.SCRUB_SR_EN then s else s.sramError a double)

/-! ## LPDDR (R610, R614 to R616) -/

/-- A channel has failed (R533, R615). -/
def State.channelFail (s : State) (ch : Nat) : State := s.raiseF 0x5005 ch 0

/-- An uncorrectable transfer of a channel: more than 1,000 in a millisecond fail the channel. A transfer whose retry succeeds is one
too (R615; log entry 209). -/
def State.lpTransfer (s : State) (ch : Nat) : State :=
  let now := s.clock
  let e := now :: (s.memx.errs.get ch []).filter fun t => decide (now < t + 1000000)
  let s := { s with memx := { s.memx with errs := s.memx.errs.set ch e } }
  if 1000 < e.length then { s with memx := { s.memx with errs := s.memx.errs.drop ch } }.channelFail ch else s

/-- An uncorrectable word, reported (R615). -/
def State.lpUncorrected (s : State) (a : Nat) : State := (s.report 0x5004 (lpddrChannel a) a).lpTransfer (lpddrChannel a)

/-- The effect of an error on a transfer of a word (R615, R616). -/
def State.lpError (s : State) (a : Nat) (err : LpError) : State :=
  let ch := lpddrChannel a
  let bad := fun (s : State) (src : Nat) => ((s.poisonWord a).captureErr (8 * (a / 8)) src).lpUncorrected a
  match err with
  | .linkFixed => s.bump (MEMC.LCNTB_LINKCE ch) 1
  | .linkRetried => (s.bump (MEMC.LCNTB_LINKRETRY ch) 1).lpTransfer ch
  | .linkRead => (((s.bump (MEMC.LCNTB_LINKRETRY ch) 1).captureErr (8 * (a / 8)) 2)).lpUncorrected a
  | .linkWrite => bad ((s.bump (MEMC.LCNTB_LINKRETRY ch) 1).fillBlock a) 2
  | .inlineFixed => (s.bump (MEMC.LCNTA_CE ch) 1).report 0x5003 ch a
  | .inlineBad => bad (s.bump (MEMC.LCNTA_UE ch) 1) 1

/-- Whether an error delivers or stores a word poisoned. -/
def lpBad : LpError → Bool
  | .linkRead | .linkWrite | .inlineBad => true
  | .linkFixed | .linkRetried | .inlineFixed => false

/-- The instance of a slice fault about a port's camera: its slice, 0xFFFF where it has none (R537). -/
def State.sliceInst (s : State) (p : Nat) : Nat := (s.sliceOf p).getD 0xFFFF

/-- The stage of R16 that calibration read poisoned belongs to: shading, defect correction, tone, colour matrix, warp. -/
def calStage (what : Nat) : Nat := [9, 5, 14, 12, 16].getD what 0

/-- A word delivered poisoned to the frames that a camera's slice is processing (R211, R257, R615). -/
def State.badRead (s : State) (p a : Nat) : State :=
  let w := 8 * (a / 8)
  let mark := fun f : Frame => if f.badReads.contains w then f else { f with badReads := w :: f.badReads }
  let g := s.ingest p
  let s := s.setIngest p { g with frame := g.frame.map mark }
  let c := s.camOf p
  s.setCam p { c with frames := c.frames.map mark }

/-- What a consumer does with a poisoned word (R211, R244, R257). -/
def State.lpConsumer (s : State) (a : Nat) : LpUse → State
  | .other => s
  | .reference p =>
    let s := s.badRead p.val a
    match s.sliceOf p.val with
    | some sl => (s.bump (SL.NRCNT1_POISON sl) 1).report 0x3003 sl p.val
    | none => s
  | .warpSource p =>
    let s := s.badRead p.val a
    let s := match s.sliceOf p.val with
      | some sl => s.bump (SL.WCNT_POISON sl) 1
      | none => s
    s.report 0x3021 (s.sliceInst p.val) p.val
  | .calibration p what =>
    match s.openFrame p.val with
    | none => s
    | some f =>
      let s := s.editFrame p.val f.fn fun x => { x with bypass := if x.bypass.contains what.val then x.bypass else what.val :: x.bypass }.sflag 5
      if what.val = 4 then s.report 0x3022 (s.sliceInst p.val) p.val
      else s.report 0x3011 (s.sliceInst p.val) (calStage what.val)

/-- LPDDR_ECC_READ: a transfer meets a link or inline error; reads of a block that is not filled meet none (R614, R615). -/
def execLpddrEccRead (addr : BitVec 48) (err : LpError) (by_ : LpUse) (s : State) : Out :=
  let a := addr.toNat
  .next (if !inLpddr a || !s.domainOn .lpddr || !(s.blockFilled a || err = .linkWrite) then s
    else if lpBad err then (s.lpConsumer a by_).lpError a err
    else s.lpError a err)

/-- LPDDR_PATROL_SCRUB: the patrol scrubber meets a corrected or an uncorrectable word of a filled block (R614, R615). -/
def execLpddrPatrolScrub (addr : BitVec 48) (double : Bool) (s : State) : Out :=
  let a := addr.toNat
  .next (if !inLpddr a || !s.domainOn .lpddr || !s.blockFilled a || !s.flag MEMC.SCRUB_LP_EN then s
    else s.lpError a (if double then .inlineBad else .inlineFixed))

/-- LPDDR_CHANNEL_FAIL (R615). -/
def execLpddrChannelFail (channel : Fin 4) (s : State) : Out :=
  .next (if s.domainOn .lpddr then s.channelFail channel.val else s)

/-! ## Zero-fill (R613, R614) -/

/-- ZERO_FILL_BLOCK: the pass fills the block at the watermark, or skips it, and the watermark rises; at the top the pass is done
(R613). -/
def execZeroFillBlock (s : State) : Out :=
  .next (if !s.domainOn .lpddr || !s.flag MEMC.INITSTAT_RUNNING then s
    else
      let wm := min (s.watermark + 0x10000) lpddrTop
      let s := { s with memx := { s.memx with filled := s.memx.filled.filter fun b => decide (wm ≤ 0x10000 * b) } }
      let s := s.setFlds [(MEMC.INITWML_WM, wm), (MEMC.INITWMH_WM, wm / 2 ^ 32)]
      if wm = lpddrTop then s.setFlds [(MEMC.INITSTAT_RUNNING, 0), (MEMC.INITSTAT_DONE, 1)] else s)

/-- FILL_ON_WRITE: the first write into a block that is not filled fills it first (R614). -/
def execFillOnWrite (addr : BitVec 48) (s : State) : Out :=
  .next (if s.domainOn .lpddr then s.fillBlock addr.toNat else s)

/-! ## MEMC (R625) -/

/-- ERRADDR_CLEAR. -/
def execErraddrClear (s : State) : Out := .next (if s.domainOn .lpddr then s.setFld MEMC.ERRADDRH_VALID 0 else s)

/-- Every counter of MEMC at zero. -/
def State.clearMemCounters (s : State) : State :=
  (List.range 4).foldl (fun (s : State) n => (s.setReg (MEMC.LCNTA n) 0).setReg (MEMC.LCNTB n) 0) (s.setReg MEMC.SRCNT 0)

/-- MEMC_COUNTER_CLEAR. -/
def execMemcCounterClear (s : State) : Out := .next (if s.domainOn .lpddr then s.clearMemCounters else s)

end Sys2Proof.Machine
end

