-- ==== Sys2Proof/Machine/Access.lean ====
section
/-!
DEFINITION. Reads and writes of registers with all they set off, on every path: views of the state of later chapters, snapshots,
clearing reads, and the actions of write-only fields (spec/00_scope.md R10 to R12, spec/23_memory.md R621 to R624,
spec/26_registers.md R655 to R660).
-/
namespace Sys2Proof.Machine

/-! ## Reading -/

/-- 32 bits of a set of numbers, from number `base`. -/
def bits32 (base : Nat) (p : Nat → Bool) : Word :=
  BitVec.ofNat 32 ((List.range 32).foldl (fun a b => a + if p (base + b) then 2 ^ b else 0) 0)

/-- The management slots are acknowledged: FCLK runs, domain 8 is not held, the CPX is not in its pause, and step 12 of BOOT is
reached (R593). -/
def State.mgmtAcks (s : State) : Bool := s.domainOn .fabric && !s.mbx.paused && (s.mode != .boot || s.sys.stage == .sirfiqua)

/-- Views of state that later chapters hold: rotation and repair, lattices, budget, mailboxes, CAN, I2CA (R278, R457, R531, R532,
R590, R603, R625). -/
def State.viewMore (s : State) (b : Block) (i : Nat) (r : RegDesc) (k : Nat) : Option Word :=
  match b with
  | .xbar =>
    if r.name = "ROTSTAT" then
      some (BitVec.ofNat 32 (packArg [(4, s.running_), (4, s.pcause), (8, s.freeSpares.length),
        (8, ((List.range 208).filter s.isRetired).length), (8, s.rotOrder.headD 0)]))
    else if r.name = "SPAREMAP" then some (bits32 (32 * k) fun sl => decide (sl < 208) && s.sstate sl == ssSpare)
    else if r.name = "RETMAP" then some (bits32 (32 * k) fun sl => decide (sl < 208) && s.isRetired sl)
    else if r.name = "DROPMAP" then some (bits32 (32 * k) fun p => (s.camOf p).dropped)
    else if r.name = "SHAREMAP" then some (bits32 (32 * k) s.sharing)
    else none
  | .sl =>
    if r.name = "SRREP" then
      let find := fun l : List (Nat × Nat × Nat) => l.find? fun x => x.1 == i && x.2.1 == k
      match find s.fuses.repairs, find s.keeper.repairs with
      | some x, _ => some (BitVec.ofNat 32 (3 + 2 ^ 8 * x.2.2))
      | none, some x => some (BitVec.ofNat 32 (1 + 2 ^ 8 * x.2.2))
      | none, none => some 0
    else none
  | .lat =>
    if r.name = "LATSTAT" then
      let own := (bits32 0 fun n => decide (n < 8) && CfgSet.latDefined s.cfg.active n && s.latOwner s.cfg.active n).toNat
      some (putBits (s.reg LAT.LATSTAT) 15 8 own)
    else none
  | .memc =>
    if r.name = "BWRES" then some (BitVec.ofNat 32 s.bwRes)
    else if r.name = "CAPRES" then some (BitVec.ofNat 32 s.capRes)
    else none
  | .mbx =>
    if r.name = "SERVE" then some (BitVec.ofNat 32 (b2n s.serving + 2 * b2n (s.sys.pairB == .active)))
    else none
  | .can => if r.name = "STAT" then some (s.canStat i) else none
  | .i2ca =>
    if r.name = "ISTAT" then some (BitVec.ofNat 32 (b2n s.mgmtAcks + 2 * b2n s.i2c.held))
    else none
  | _ => none

/-- A register as it reads, with no side effect. -/
def State.value (s : State) (a : Nat) : Word :=
  match locate a, regAt a with
  | some (_, _, off), some (b, i, r, k) =>
    match s.viewMore b i r k with
    | some v => s.gate a off b i r v
    | none => s.peek a
  | _, _ => 0

/-- A register read on a path (R10, R161, R367, R545, R622, R624): its value, and the state after what the read sets off. A word
that another register's read latches comes from that path's snapshot, 0 where there is none. -/
def State.readReg (s : State) (p : Path) (a : Nat) : Word × State :=
  match regAt a with
  | none => (0, s)
  | some (b, i, r, k) =>
    if b = .fcu ∧ r.name = "LOG" then (if s.sys.vio then s.readLog p.num (k / 8) (k % 8) else (0, s))
    else if s.domainOn b.domain = false then (s.value a, s)
    else if b = .tsu ∧ r.name = "SCAPL" then s.scapRead p k
    else if b = .sl ∧ r.name = "ENGMDATA" then s.engMdata i
    else
      let w := if latchedBy a then s.snaps.get (snapKey p a) 0 else s.value a
      (w, (s.latch p (snapshotsOf a)).clearOnRead a)

/-- Words of registers read in ascending address (R621). -/
def State.readRegs (s : State) (p : Path) : List Nat → List Byte × State
  | [] => ([], s)
  | a :: r =>
    let x := s.readReg p a
    let y := x.2.readRegs p r
    (leBytes 4 x.1.toNat ++ y.1, y.2)

/-- The addresses of the words of n bytes. -/
def wordAddrs (a n : Nat) : List Nat := (List.range (n / 4)).map fun i => a + 4 * i

/-- Bytes of memory as a requester reads them: a slice in PROVING gives zeros, unchecked (R606). -/
def State.memBytes (s : State) (a n : Nat) : Nat × Nat × List Byte :=
  if s.unchecked a then (0, 0, List.replicate n 0) else s.memRead a n

/-- A local read of the bridge (R397, R401, R621): status, DETAIL and bytes. -/
def State.localRead (s : State) (p : Path) (a n : Nat) : (Nat × Nat × List Byte) × State :=
  if a < 0x1000000 then
    let x := s.readRegs p (wordAddrs a n)
    ((0, 0, x.1), x.2)
  else (s.memBytes a n, s)

/-! ## Writing -/

/-- KPR.HB written: the heartbeat (R548, R551). -/
def State.heartbeat (s : State) (count : Nat) : State :=
  let s := s.setFlds [(KPR.HB_COUNT, count), (KPR.HBLAST_TIME, s.clock)]
  { s with keeper := { s.keeper with hbTime := s.clock, hbLost := false } }

/-- What a bit of a written word sets off. -/
def onBit (v : Word) (k : Nat) (f : State → State) (s : State) : State := if bit v.toNat k then f s else s

/-- What a write to LKCTL sets off: ENABLE, RETRAIN, QRETRAIN (R98, R100). The bridge empties where its uplink is turned off
(R425). -/
def State.lkCtlWrite (s : State) (l : Link) (v : Word) : State :=
  let s := s.linkEnable l (bit v.toNat 0)
  let s := if l = .upl ∧ bit v.toNat 0 = false then s.bridgeOff else s
  onBit v 3 (·.quadRetrain l) (onBit v 1 (·.lkRetrain l) s)

/-- The link of a block that has one. -/
def blockLink (b : Block) (i : Nat) : Option Link :=
  match b with
  | .hp => some (.hp (Fin.ofNat 192 i))
  | .upl => some .upl
  | .peer => some .peer
  | _ => none

/-- Registers of a block zeroed. -/
def State.zeroRegs (s : State) : List Nat → State
  | [] => s
  | a :: r => (s.setReg a 0).zeroRegs r

/-- What a write sets off beyond the fields it sets: the actions of write-only fields, and fields whose write acts at once (R10).
I2CB's bus answers a GO with a free value, since no register shows its lines (R601, R602). -/
def State.writeActs (s : State) (b : Block) (i : Nat) (r : RegDesc) (k : Nat) (v : Word) : State :=
  let n := r.name
  let lk := match blockLink b i with
    | some l => if n = "LKCTL" then s.lkCtlWrite l v else if n = "LKCLR" then onBit v 0 (·.lkClear l) s else s
    | none => s
  match b with
  | .upl =>
    if n = "UPINJ" then
      onBit v 1 (fun s => s.setUpl { s.upl with injRx := true }) (onBit v 0 (fun s => s.setUpl { s.upl with injTx := true }) s)
    else lk
  | .tsu => if n = "SNAPCTL" then onBit v 0 State.tsuSnap s else if n = "DCTL" ∨ n = "SYNC" then s.timePins else s
  | .brg => if n = "PWERRH" then onBit v 31 State.pwerrClear s else if n = "CNTCLR" then onBit v 0 State.brgClear s else s
  | .mbx => if n = "CHRST" then onBit v 31 (·.chReset (v.toNat % 64)) s else s
  | .dma =>
    if n = "DMACTL" then onBit v 0 State.dmaClear s
    else if !s.dmaOn then s
    else if n = "EVSET" then s.evSetWrite k v.toNat
    else if n = "EVCLR" then s.evClrWrite k v.toNat
    else if n = "CHCTL" then onBit v 1 (·.dmaAbort k 0) (onBit v 0 (·.dmaGo k) s)
    else s
  | .can =>
    if n = "CTL" then
      let st := s.fld (CAN.STAT_STATE i)
      let s := if bit v.toNat 0 then (if st = canOff then s.setFld (CAN.STAT_STATE i) canActive else s) else s.setFld (CAN.STAT_STATE i) canOff
      onBit v 6 (·.canClear i) s
    else s
  | .i2ca => if n = "ISTAT" then onBit v 2 State.i2caClear s else s
  | .i2cb =>
    if n = "CTL" then
      let low := s.free.getLsbD 0
      let freed := s.free.getLsbD 1
      onBit v 5 State.i2cbClear (onBit v 4 (fun s => s.took.clrStuck freed) (onBit v 3 (fun s => s.took.i2cbGo low freed) s))
    else s
  | .xbar =>
    if n = "MAP" then s.mapNext k (getBits v 15 8)
    else if n = "ROTCTL" then onBit v 4 (·.zeroRegs [XBAR.ROTCNT0, XBAR.ROTCNT1]) s
    else s
  | .hp => if n = "PCTL" then s.askPctl i v.toNat else lk
  | .sl =>
    if n = "NRCTL" then onBit v 2 (·.zeroRegs [SL.NRCNT0 i, SL.NRCNT1 i]) s
    else if n = "OCTL" then onBit v 10 (·.zeroRegs [SL.OCNT i k, SL.OCNT2 i k]) s
    else if n = "STCTL" then onBit v 3 (·.zeroRegs [SL.PQCNT0 i, SL.PQCNT1 i, SL.PQCNT2 i]) s
    else if n = "ENGCTL" then
      onBit v 4 (·.zeroRegs [SL.ENGCNT0 i, SL.ENGCNT1 i, SL.ENGCNT2 i])
        (onBit v 1 (fun s => s.setEng i { s.eng i with restart := true }) s)
    else s
  | .memc => if n = "CNTCLR" then onBit v 0 State.clearMemCounters s else s
  | .kpr => if n = "HB" then s.heartbeat v.toNat else s
  | .fcu => if n = "PINMASK" then s.driveFaultN else s
  | .peer => lk
  | _ => s

/-- A register written by one who may (R10, R656, R658); `i2c` says that the write comes over the management address. Doorbells,
response indices, PCTL and the link and crossbar fields that act take their value by their own rules. -/
def State.writeReg (s : State) (a : Nat) (v : Word) (i2c : Bool) : State :=
  match regAt a with
  | none => s
  | some (b, i, r, k) =>
    if s.domainOn b.domain = false then s
    else if b = .mbx ∧ r.name = "DB" then s.doorbell k (v.toNat % 65536) i2c
    else if b = .mbx ∧ r.name = "RCI" then s.consumeResponses k (v.toNat % 65536)
    else if (b = .hp ∧ r.name = "PCTL") ∨ (b = .xbar ∧ r.name = "MAP") then s.writeActs b i r k v
    else (s.writePlain a v).writeActs b i r k v

/-- Words written in ascending address (R621). -/
def State.writeRegs (s : State) (i2c : Bool) : List (Nat × Nat) → State
  | [] => s
  | (a, v) :: r => (s.writeReg a (BitVec.ofNat 32 v) i2c).writeRegs i2c r

/-- Bytes written to registers from an address. -/
def State.writeCsr (s : State) (a : Nat) (data : List Byte) (i2c : Bool) : State :=
  s.writeRegs i2c ((wordAddrs a data.length).map fun x => (x, fieldAt data (x - a) 4))

/-! ## Reads and writes with no row of their own (R10, R12, R622, R624) -/

/-- A path reaches a register: the keeper's only the registers of its window (R545). -/
def pathReaches (p : Path) (a : Nat) : Bool :=
  match p with
  | .keeperA | .keeperK => decide (0x10000 ≤ a ∧ a < 0x10100) || decide (0x20000 ≤ a ∧ a < 0x20100) || decide (0x21000 ≤ a ∧ a < 0x29000)
      || a == GLB.IDCODE || a == GLB.MODE
  | _ => decide (a < 0x1000000)

/-- A register read on a path, its word given out there. -/
def State.giveReg (s : State) (p : Path) (a : Nat) : State :=
  let x := s.readReg p a
  { x.2 with readOut := x.2.readOut.set p.num (leBytes 4 x.1.toNat) }

/-- A register whose read snapshots others (R622). -/
def isSnapshot (a : Nat) : Bool :=
  snapshotsOf a != [] || (decide (0x21000 ≤ a ∧ a < 0x29000) && a % 32 == 0)

/-- SNAPSHOT_READ (R622). -/
def execSnapshotRead (path : Path) (reg : Word) (s : State) : Out :=
  .next (if reg.toNat % 4 = 0 ∧ pathReaches path reg.toNat ∧ isSnapshot reg.toNat then s.giveReg path reg.toNat else s)

/-- A register with a field that a read clears (R624). -/
def isRclr (a : Nat) : Bool :=
  match regAt a with
  | none => false
  | some (_, _, r, _) => r.fields.any fun f => f.access == .rclr

/-- RCLR_READ (R624). -/
def execRclrRead (path : Path) (reg : Word) (s : State) : Out :=
  .next (if reg.toNat % 4 = 0 ∧ pathReaches path reg.toNat ∧ isRclr reg.toNat then s.giveReg path reg.toNat else s)

/-- REGISTER_WRITE: by Sirfiqua, or by the host with the tag of its posted write, which R12 and R656 refuse as the bridge reports
(R10, R12, R404). -/
def execRegisterWrite (host : Option (BitVec 12)) (reg value : Word) (s : State) : Out :=
  let a := reg.toNat
  .next (match host with
    | none => if a % 4 = 0 then s.writeReg a value false else s
    | some tag =>
      match s.bridgeTest a 4 true true with
      | some (st, d) => s.pwFail tag.toNat a st d 0xFFFF
      | none => if a < 0x1000000 then s.writeReg a value false else s)

/-- HEARTBEAT_WRITE: Sirfiqua runs and writes KPR.HB (R548). -/
def execHeartbeatWrite (count : Word) (s : State) : Out := .next (if s.cpxRuns then s.heartbeat count.toNat else s)

/-! ## The bridge's local reads and writes (R402, R404, R406, R407) -/

/-- A read that no buffer answers; a buffer of its tag with another address or count is discarded (R407). -/
def State.newRead (s : State) (p : Pkt) (a n : Nat) (fast : Bool) (old : Option Drb) : State :=
  let opc := acOpc (p.payload.getD 0 0)
  let s := match old with
    | some d => if opc = 0 then (s.dropDrb d).bump BRG.CNT1_DRDISCARD 1 else s
    | none => s
  let form := opc == 0 && decide (n ≤ 512) && p.payload.length == 1
  match s.bridgeTest a n form false with
  | some (st, d) => s.complete p.id a n st d []
  | none =>
    if scopeOf a < 192 then (if (s.lockOn (scopeOf a)).isSome then s.complete p.id a n 1 2 [] else s.headRead p.id a n)
    else if fast then
      let x := s.localRead .bridge a n
      x.2.complete p.id a n x.1.1 x.1.2.1 x.1.2.2
    else
      let d : Drb := { tag := p.id, addr := a, n := n, fast := true, head := false, endAt := s.clock }
      { s with bridge := { s.bridge with drbs := s.bridge.drbs ++ [d] } }

/-- READ: `fast` says that a local target answers within FASTWIN (R406, R407, R411, R687). -/
def execBrgRead (fast : Bool) (s : State) : Out :=
  .next (s.onPkt (fun p => p.kind == pkRdreq) fun s p =>
    let c := p.payload.getD 0 0
    let a := acAddr c
    let n := acCount c
    match s.drbOf p.id with
    | some d => if d.addr = a ∧ d.n = n ∧ acOpc c = 0 then s.retryRead d else s.newRead p a n fast (some d)
    | none => s.newRead p a n fast none)

/-- DELAYED_READ_DONE: the fetch of a local read ends, in its buffer, or at once within the fast window (R406, R407). -/
def execBrgDelayedReadDone (tag : BitVec 12) (s : State) : Out :=
  .next (match s.bridge.drbs.find? fun d => d.tag == tag.toNat && !d.head && d.result.isNone with
    | none => s
    | some d =>
      let x := s.localRead .bridge d.addr d.n
      let s := x.2
      if d.fast then (s.dropDrb d).complete d.tag d.addr d.n x.1.1 x.1.2.1 x.1.2.2
      else
        let k := fun y : Drb => if y = d then { y with result := some x.1, endAt := s.clock } else y
        { s with bridge := { s.bridge with drbs := s.bridge.drbs.map k } })

/-- WRITE: a posted write tested and performed (R397, R402 to R404, R616). -/
def execBrgWrite (s : State) : Out :=
  .next (s.onPkt (fun p => p.kind == pkPwrite) fun s p =>
    let c := p.payload.getD 0 0
    let a := acAddr c
    let n := acCount c
    let form := acOpc c == 0 && decide (n ≤ 512) && p.payload.length == dataPlen n
    let data := bytesAt (crumbsBytes (p.payload.drop 1)) 0 n
    let scope := if scopeOf a < 192 then scopeOf a else 0xFFFF
    match s.bridgeTest a n form true with
    | some (st, d) => s.pwFail p.id a st d scope
    | none =>
      if scopeOf a < 192 then s.headWrite p.id a data
      else if a < 0x1000000 then s.writeCsr a data false
      else if s.partialPoison a n then (s.store a data).pwFail p.id a 4 0 scope
      else s.store a data)

end Sys2Proof.Machine
end

