-- ==== Sys2Proof/Machine/Keeper.lean ====
section
/-!
DEFINITION. The keeper: its commands, domain resets, the CPX heartbeat, lockstep mismatches, and its window over two wires
(spec/19_faults.md R544 to R551, spec/22_i2c.md R597).
-/
namespace Sys2Proof.Machine

/-! ## Domain resets (R547, R655, R657) -/

/-- Bit 0: the uplink with its link layer, and the bridge. The link re-initialises, and what R392 keeps stays in its FIFOs. -/
def State.resetUplink (s : State) : State :=
  if s.domainOn .uplink then
    let s := ((s.lkOff .upl).bridgeOff).clearBridge
    let s := { s.clearRegs .uplink (fun _ => false) with links := s.links.drop 192 }
    (s.allocFifos s.cfg.active).lkOn .upl
  else s.clearBridge

/-- Bit 1: the peer link, which Sirfiqua loads again. -/
def State.resetPeer (s : State) : State :=
  if s.domainOn .peer then
    let s := (s.lkOff .peer).clearPeer
    s.loadSystem s.cfg.active
  else s

/-- Bit 3: I2CB. -/
def State.resetBoardBus (s : State) : State :=
  { s.clearRegs .boardBus (fun _ => false) with i2c := { s.i2c with fresh := true } }

/-- Bit 4: the pixel path; retired slices stay so. -/
def State.resetPixel (s : State) : State :=
  if s.domainOn .pixel then
    (List.range 208).foldl (fun (s : State) sl => if s.isRetired sl then s.setSstate sl ssRetired else s) (s.clearPixel true)
  else s

/-- Bit 5: the LPDDR controller: its content is lost and zero-fill starts anew. -/
def State.resetLpddr (s : State) : State :=
  if s.domainOn .lpddr then (s.clearLpddr false).setFlds [(MEMC.MCFG_CHOK, 15), (MEMC.INITSTAT_RUNNING, 1)] else s

/-- Bits 6 and 7: CPX pairs that are not held restart from the ROM: active, or standby if the other pair runs. -/
def State.resetPairs (s : State) (a b : Bool) : State :=
  let y := s.sys
  if s.mode = .boot then s
  else
    let run := y.image.isSome
    let a := a && y.pairA != PairState.held
    let b := b && y.pairB != PairState.held
    let up : PairState := if run then .active else .rom
    let pairA : PairState := if a then (if y.pairB == PairState.active && !b then .standby else up) else y.pairA
    let pairB : PairState := if b then (if pairA == PairState.active then .standby else up) else y.pairB
    { s with sys := { y with pairA := pairA, pairB := pairB } }

/-- Bit 8: the fabric, DMA and the mailboxes; the TSU restarts from the shadow. -/
def State.resetFabric (s : State) : State :=
  if s.domainOn .fabric then
    let mem := b2n (s.domainOn .lpddr)
    let s := s.tsuStop.clearRegs .fabric fun _ => false
    let s := { s with bridge := {}, mbx := {}, dma := [], sec := {}, snaps := [], readOut := [], motions := [], intr := [], iseq := []
                      i2c := { s.i2c with held := false }, sys := { s.sys with trans := none } }
    (s.openWindow0.tsuStart).setFlds [(CLK.CLKSTAT_MEMLOCK, mem), (GLB.MODE_BUSY, 0)]
  else s

/-- The domains of a mask reset (R547): bits 4 to 8 outside BOOT, SAFE and SERVICE only after SAFE has been entered. -/
def State.resetDomains (s : State) (m : Nat) : State :=
  let deep := m / 16 != 0
  let calm := s.mode == .boot || s.mode == .safe || s.mode == .service
  let s := if deep && !calm then s.keeperSafe 7 else s
  let on := fun (k : Nat) (f : State → State) (s : State) => if bit m k then f s else s
  let s := on 3 State.resetBoardBus (on 2 (fun s => if s.domainOn .can then s.clearCan false else s) (on 1 State.resetPeer (on 0 State.resetUplink s)))
  let s := (on 5 State.resetLpddr (on 4 State.resetPixel s)).resetPairs (bit m 6) (bit m 7)
  on 8 State.resetFabric s

/-! ## Commands (R546) -/

/-- PWRGOOD is high and RESET_N is not low: a reset or SAFE request acts. -/
def State.powered (s : State) : Bool := s.sys.pwrgood && !s.sys.resetLow

/-- KSTAT after a command: its code, and whether it was refused. -/
def State.kstat (s : State) (code : Nat) (err : Bool) : State := s.setFlds [(KPR.KSTAT_LAST, code), (KPR.KSTAT_ERR, b2n err)]

/-- A command with its argument, while the keeper has power: `good` says that the argument is in range; codes 0x03 to 0x07 make a
keeper-command record (R546). -/
def State.keeperDo (s : State) (code : Nat) (karg : Word) (good : Bool) (act : State → Option State) : State :=
  if !s.sys.vio then s
  else
    let s := s.setReg KPR.KARG karg
    if !good then s.kstat code true
    else
      let s := if 3 ≤ code ∧ code ≤ 7 then s.report 0x0203 0 (packArg [(16, code), (32, karg.toNat)]) else s
      match act s with
      | some t => t.kstat code false
      | none => s.kstat code true

/-- 0x01: a record marked read. -/
def State.kMarkRead (s : State) (k : Word) : State := s.keeperDo 1 k (k.toNat < 1024) fun s => s.markRead k.toNat

/-- 0x02: a read record cleared. -/
def State.kClear (s : State) (k : Word) : State :=
  s.keeperDo 2 k (getBits k 15 10 == 0) fun s => s.clearRecord (getBits k 9 0) (getBits k 31 16)

/-- 0x03: the uplink forced idle. -/
def State.kIdle (s : State) (k : Word) : State :=
  s.keeperDo 3 k true fun s => some ((((s.setFld KPR.DOMST_UPIDLE 1).lkOff .upl)).bridgeOff)

/-- 0x04: the uplink released. -/
def State.kRelease (s : State) (k : Word) : State := s.keeperDo 4 k true fun s => some ((s.setFld KPR.DOMST_UPIDLE 0).lkOn .upl)

/-- 0x05: domains reset. -/
def State.kDomains (s : State) (k : Word) : State := s.keeperDo 5 k (k.toNat < 512) fun s => some (s.resetDomains k.toNat)

/-- 0x06: the whole device reset. -/
def State.kReset (s : State) (k : Word) : State := s.keeperDo 6 k true fun s => some (if s.powered then s.enterBoot 2 false else s)

/-- 0x07: SAFE requested. -/
def State.kSafe (s : State) (k : Word) : State := s.keeperDo 7 k true fun s => some (if s.powered then s.keeperSafe 7 else s)

/-- 0x08: the mask of FAULT_N. -/
def State.kMask (s : State) (k : Word) : State :=
  s.keeperDo 8 k (k.toNat < 8) fun s => some (s.setFld FCU.PINMASK_MASK k.toNat).driveFaultN

/-- A command by its code; a reserved code is refused. -/
def State.keeperCmd (s : State) (code : Nat) (k : Word) : State :=
  match code with
  | 1 => s.kMarkRead k
  | 2 => s.kClear k
  | 3 => s.kIdle k
  | 4 => s.kRelease k
  | 5 => s.kDomains k
  | 6 => s.kReset k
  | 7 => s.kSafe k
  | 8 => s.kMask k
  | c => s.keeperDo c k false fun _ => none

/-- KEEPER_MARK_READ. -/
def execKeeperMarkRead (karg : Word) (s : State) : Out := .next (s.kMarkRead karg)

/-- KEEPER_CLEAR_RECORD. -/
def execKeeperClearRecord (karg : Word) (s : State) : Out := .next (s.kClear karg)

/-- KEEPER_FORCE_UPLINK_IDLE. -/
def execKeeperForceUplinkIdle (karg : Word) (s : State) : Out := .next (s.kIdle karg)

/-- KEEPER_RELEASE_UPLINK. -/
def execKeeperReleaseUplink (karg : Word) (s : State) : Out := .next (s.kRelease karg)

/-- KEEPER_RESET_DOMAINS. -/
def execKeeperResetDomains (karg : Word) (s : State) : Out := .next (s.kDomains karg)

/-- KEEPER_RESET_DEVICE. -/
def execKeeperResetDevice (karg : Word) (s : State) : Out := .next (s.kReset karg)

/-- KEEPER_ENTER_SAFE. -/
def execKeeperEnterSafe (karg : Word) (s : State) : Out := .next (s.kSafe karg)

/-- KEEPER_SET_PINMASK. -/
def execKeeperSetPinmask (karg : Word) (s : State) : Out := .next (s.kMask karg)

/-- KEEPER_COMMAND_REFUSED: a reserved code, an argument out of range or a busy keeper sets ERR and does nothing else (R546,
R597). -/
def execKeeperCommandRefused (code : Byte) (karg : Word) (s : State) : Out :=
  .next (s.keeperDo code.toNat karg false fun _ => none)

/-! ## Heartbeat and lockstep (R548, R549) -/

/-- HBLIM in µs: values below 60 ms are taken as 60 (R551). -/
def State.hbLimit (s : State) : Nat := 1000 * max 60 (s.fld KPR.HBCTL_HBLIM)

/-- A pair that Sirfiqua was running on: active, or halted since. -/
def PairState.ran (p : PairState) : Bool := p == .active || p == .halted

/-- Both pairs held in reset until the next BOOT (R548). -/
def State.holdBoth (s : State) : State :=
  { s with sys := { s.sys with pairA := .held, pairB := .held } }.setFlds [(KPR.DOMST_CPXHOLDA, 1), (KPR.DOMST_CPXHOLDB, 1)]

/-- What the keeper does once HBAGE exceeds HBLIM (R548): record only; SAFE with both pairs restarted, or held where it comes again
within 10 s in SAFE; or a whole-device reset. -/
def State.heartbeatLost (s : State) : State :=
  let s := (s.report 0x0201 0 s.hbAge)
  let s := { s with keeper := { s.keeper with hbLost := true } }
  match s.fld KPR.HBCTL_HBACT with
  | 0 => s
  | 2 => s.enterBoot 2 false
  | _ =>
    let again := s.mode == .safe && s.keeper.hbRestart.any fun t => decide (s.clock ≤ t + 10000000000)
    if again then s.holdBoth
    else
      let s := (s.enterSafe 7).cpxRestart
      { s with keeper := { s.keeper with hbRestart := some s.clock, hbTime := s.clock, hbLost := false } }

/-- CPX_HEARTBEAT_LOST: once per episode, in every mode in which the CPX runs (R548). -/
def execCpxHeartbeatLost (s : State) : Out :=
  .next (if s.alive && (s.sys.pairA.ran || s.sys.pairB.ran) && s.mode != .standby && !s.keeper.hbLost && decide (s.hbLimit < s.hbAge)
    then s.heartbeatLost else s)

/-- A pair held in reset until the next BOOT (R549). -/
def State.holdPair (s : State) (b : Bool) : State :=
  if b then { s with sys := { s.sys with pairB := .held } }.setFld KPR.DOMST_CPXHOLDB 1
  else { s with sys := { s.sys with pairA := .held } }.setFld KPR.DOMST_CPXHOLDA 1

/-- LOCKSTEP_MISMATCH (R549): in the pair that runs Sirfiqua, or in the standby pair. -/
def execLockstepMismatch (pairB : Bool) (s : State) : Out :=
  let pick := fun (y : Sys) (b : Bool) => if b then y.pairB else y.pairA
  let st := pick s.sys pairB
  .next (if !s.alive then s
    else if st.ran then
      let s := (s.holdPair pairB).raiseF 0x0601 (b2n pairB) 0
      if pick s.sys (!pairB) == PairState.held then s else s.resetPairs pairB (!pairB)
    else if st == .standby then ((s.holdPair pairB).report 0x0602 (b2n pairB) 0).switchFails
    else s)

/-! ## The window over two wires (R545, R597) -/

/-- The path of a keeper transaction: the KPR pins, or I2CA. -/
def kprPath (kpr : Bool) : Path := if kpr then .keeperK else .keeperA

/-- The register of a word of the keeper window; none reads 0. -/
def windowReg (o : Nat) : Option Nat :=
  if o < 0x100 then some (0x10000 + o)
  else if o < 0x200 then some (0x20000 + (o - 0x100))
  else if o = 0x200 then some GLB.IDCODE
  else if o = 0x204 then some GLB.MODE
  else if 0x1000 ≤ o ∧ o < 0x9000 then some (0x21000 + (o - 0x1000))
  else none

/-- The keeper answers on a path: it has power, and slot 1 of I2CA is present from step 5 of R62, unless the TAP has taken its
pins (R591, R593, R681). -/
def State.keeperAnswers (s : State) (kpr : Bool) : Bool :=
  s.sys.vio && (kpr || !s.pinsTaken && !(s.mode == .boot && (s.sys.stage == .idle || s.sys.stage == .clocks)))

/-- n bytes of the window from offset o, each word fetched once as its first byte is sent; `w` is the word in hand. -/
def State.windowBytes (s : State) (p : Path) : Nat → Nat → Option Word → List Byte × State
  | 0, _, _ => ([], s)
  | n + 1, o, w =>
    let x := match w with
      | some v => (v, s)
      | none => match windowReg (4 * (o / 4)) with
        | some a => s.readReg p a
        | none => (0, s)
    let next := if o % 4 = 3 then none else some x.1
    let y := x.2.windowBytes p n ((o + 1) % 65536) next
    (BitVec.ofNat 8 (x.1.toNat / 2 ^ (8 * (o % 4))) :: y.1, y.2)

/-- The window offset of a path. -/
def State.koffset (s : State) (p : Path) : Nat := s.keeper.koff.get p.num 0

/-- The window offset of a path set. -/
def State.setKoffset (s : State) (p : Path) (o : Nat) : State :=
  { s with keeper := { s.keeper with koff := s.keeper.koff.set p.num (o % 65536) } }

/-- KEEPER_OFFSET_SET (R597). -/
def execKeeperOffsetSet (kpr : Bool) (off : BitVec 16) (s : State) : Out :=
  .next (if s.keeperAnswers kpr then s.setKoffset (kprPath kpr) off.toNat else s)

/-- A word of the window written whole by bytes at offset o, wrapping at 0xFFFF; none where it is not. -/
def wholeWord (o : Nat) (data : List Byte) (w : Nat) : Option Word :=
  let at_ := fun i => (w + i + 65536 - o) % 65536
  if (List.range 4).all fun i => decide (at_ i < data.length) then
    some (BitVec.ofNat 32 (leNat ((List.range 4).map fun i => data.getD (at_ i) 0)))
  else none

/-- KEEPER_WRITE: only whole words at KARG and KCMD take effect, KARG first (R545, R597). -/
def execKeeperWrite (kpr : Bool) (off : BitVec 16) (data : List Byte) (s : State) : Out :=
  .next (if s.keeperAnswers kpr then
      let o := off.toNat
      let s := s.setKoffset (kprPath kpr) (o + data.length)
      let s := match wholeWord o data 4 with
        | some k => s.setReg KPR.KARG k
        | none => s
      match wholeWord o data 0 with
      | some c => s.keeperCmd (c.toNat % 256) (s.reg KPR.KARG)
      | none => s
    else s)

/-- KEEPER_READ: n bytes from the offset onward (R597). -/
def execKeeperRead (kpr : Bool) (n : Nat) (s : State) : Out :=
  let p := kprPath kpr
  .next (if s.keeperAnswers kpr then
      let o := s.koffset p
      let x := s.windowBytes p n o none
      let s := x.2.setKoffset p (o + n)
      { s with readOut := s.readOut.set p.num x.1, sent := s.sent ++ [.wire p x.1] }
    else s)

end Sys2Proof.Machine
end

