-- ==== Sys2Proof/Machine/DmaProg.lean ====
section
/-!
DEFINITION. The instructions of a DMA program: fetch and checks, moves and their bursts, loops, waits and signals
(spec/20_dma.md R555 to R566). A row acts where the channel runs, has no MOVE or WAIT in progress, and reaches an instruction of
that row; an instruction that R556 rejects ends the program on any of these rows.
-/
namespace Sys2Proof.Machine

/-! ## Fetch (R555, R556) -/

/-- Where an instruction of a program lies (R553). -/
def Dma.insAddr (d : Dma) (k : Nat) : Nat := d.desc + 0x40 + 0x20 * k

/-- The first field of a list that is out of range: its offset. -/
def firstBad : List (Nat × Bool) → Option Nat
  | [] => none
  | (off, good) :: r => if good then firstBad r else some off

/-- Bytes marked 0 that are 0, one entry for each. -/
def zeroBytes (ins : List Byte) (a n : Nat) : List (Nat × Bool) :=
  (List.range n).map fun i => (a + i, ins.getD (a + i) 0 == 0)

/-- The fields of an instruction with an OP of R556, each by its offset, with whether it is in range. -/
def insFields (ins : List Byte) : List (Nat × Bool) :=
  let f := fieldAt ins
  let one := f 1 1
  match f 0 1 with
  | 1 => (1, decide (one < 4)) :: zeroBytes ins 2 2 ++ [(4, decide (1 ≤ f 4 4 ∧ f 4 4 ≤ 16777216))] ++ zeroBytes ins 14 2
      ++ zeroBytes ins 22 10
  | 2 => (1, decide (1 ≤ one ∧ one ≤ 8)) :: zeroBytes ins 2 2 ++ zeroBytes ins 8 24
  | 3 => [(1, decide (one < 4)), (2, decide (f 2 1 < (if one = 0 then 2 else 1))), (3, f 3 1 == 0),
      (4, decide (f 4 4 < (if one = 0 then 64 else if one = 1 then 192 else 2 ^ 32)))] ++ zeroBytes ins 24 8
  | 4 => (1, decide (1 ≤ one ∧ one < 4)) :: zeroBytes ins 2 2 ++ [(4, decide (f 4 4 < 64))] ++ zeroBytes ins 12 20
  | 5 => zeroBytes ins 1 31
  | 6 => [(1, decide (1 ≤ one ∧ one ≤ 8))]
  | _ => [(0, false)]

/-- The offset of the byte for which R556, or R560 within a body, rejects an instruction. -/
def badIns (d : Dma) (ins : List Byte) : Option Nat :=
  if d.loop.isSome && [2, 5, 6].contains (fieldAt ins 0 1) then some 0 else firstBad (insFields ins)

/-- A channel at the next instruction of its program: `f` is what one with this OP does. -/
def State.dmaStep (s : State) (ch op : Nat) (f : State → Dma → List Byte → State) : State :=
  if !s.dmaOn then s
  else
    match s.dmaOf ch with
    | none => s
    | some d =>
      let ins := match d.loop with
        | some l => l.body.getD l.j []
        | none => s.bytes (d.insAddr d.pc) 32
      if d.move.isSome || d.wait.isSome then s
      else if d.nins ≤ d.pc then s.dmaEnd ch d 4 0xFF
      else if d.loop.isNone && s.poisoned (d.insAddr d.pc) 32 then s.dmaEnd ch d 6 0
      else
        match badIns d ins with
        | some k => s.dmaEnd ch d 4 k
        | none => if fieldAt ins 0 1 = op then f s d ins else s

/-! ## MOVE (R557 to R559) -/

/-- Whether a side of a MOVE keeps the rules of R557: within one row of the local scope, not in the DMA block, aligned. -/
def sideGood (fixed : Bool) (a len : Nat) : Bool :=
  let n := if fixed then 4 else len
  let inRow := match rowOf a with
    | some (_, top) => decide (scopeOf a = 0xFFFF ∧ a + n ≤ top)
    | none => false
  let word := fixed || decide (a < 0x1000000)
  inRow && !(decide (a < 0xD0000) && decide (0xC0000 < a + n)) && (!word || decide (a % 4 = 0 ∧ len % 4 = 0))

/-- The addresses of a MOVE where it is reached: those of the instruction, of the previous iteration's end in a LOOP, or of the
indices in a NEST3 (R560, R561). -/
def Dma.sides (d : Dma) (ins : List Byte) (sfix dfix : Bool) : Int × Int :=
  let src := fieldAt ins 8 6
  let dst := fieldAt ins 16 6
  match d.loop with
  | none => ((src : Int), (dst : Int))
  | some l =>
    if l.nest then
      let at_ := fun (k : Nat) => (l.i0 : Int) * l.steps.getD k 0 + (l.i1 : Int) * l.steps.getD (k + 1) 0 + (l.i2 : Int) * l.steps.getD (k + 2) 0
      ((src : Int) + (if sfix then 0 else at_ 0), (dst : Int) + (if dfix then 0 else at_ 3))
    else
      let c := l.curs.get l.j (src, dst)
      ((c.1 : Int), (c.2 : Int))

/-- Whether an exact address is one, and its side good. -/
def sideOk (fixed : Bool) (a : Int) (len : Nat) : Bool := decide (0 ≤ a) && sideGood fixed a.toNat len

/-- MOVE: tested before it moves anything (R557); its bursts are rows of their own. -/
def execDmaMove (ch : DmaCh) (s : State) : Out :=
  .next (s.dmaStep ch 1 fun s d ins =>
    let mode := fieldAt ins 1 1
    let len := fieldAt ins 4 4
    let sfix := bit mode 0
    let dfix := bit mode 1
    let x := d.sides ins sfix dfix
    let d : Dma := { d with move := some { src := x.1.toNat, dst := x.2.toNat, left := len, sfix := sfix, dfix := dfix } }
    if !sideOk sfix x.1 len then s.dmaEnd ch d 5 1
    else if !sideOk dfix x.2 len then s.dmaEnd ch d 5 2
    else s.setDma ch d)

/-- Bytes of the next burst of a MOVE (R558). -/
def DmaMove.burst (m : DmaMove) : Nat :=
  let edge := fun (fixed : Bool) (a : Nat) => if fixed then 256 else 256 - a % 256
  min m.left (min (edge m.sfix m.src) (edge m.dfix m.dst))

/-- The addresses of the words of a side. -/
def sideWords (fixed : Bool) (a n : Nat) : List Nat := if fixed then List.replicate (n / 4) a else wordAddrs a n

/-- The bytes a burst reads; none where a word is poisoned (R559). -/
def State.burstRead (s : State) (m : DmaMove) (n : Nat) : Option (List Byte) × State :=
  if m.src < 0x1000000 then
    let x := s.readRegs .cpx (sideWords m.sfix m.src n)
    (some x.1, x.2)
  else if m.sfix then
    let r := s.memBytes m.src 4
    (if r.1 ≠ 0 then none else some ((List.replicate (n / 4) r.2.2).flatten), s)
  else
    let r := s.memBytes m.src n
    (if r.1 ≠ 0 then none else some r.2.2, s)

/-- Words written one after another at one address. -/
def State.storeFixed (s : State) (a : Nat) (data : List Byte) : List Nat → State
  | [] => s
  | i :: r => (s.store a (bytesAt data (4 * i) 4)).storeFixed a data r

/-- The bytes of a burst written in ascending order (R557, R558). -/
def State.burstWrite (s : State) (m : DmaMove) (data : List Byte) : State :=
  let n := data.length
  if m.dst < 0x1000000 then
    s.writeRegs false ((sideWords m.dfix m.dst n).zipIdx.map fun x => (x.1, fieldAt data (4 * x.2) 4))
  else if m.dfix then s.storeFixed m.dst data (List.range (n / 4))
  else s.store m.dst data

/-- A MOVE after a burst of n bytes. -/
def DmaMove.after (m : DmaMove) (n : Nat) : DmaMove :=
  { m with src := if m.sfix then m.src else m.src + n, dst := if m.dfix then m.dst else m.dst + n, left := m.left - n }

/-- Where a MOVE of a LOOP goes on in the next iteration (R560). -/
def Dma.keepSides (d : Dma) (m : DmaMove) : Dma :=
  { d with loop := d.loop.map fun (l : DmaLoop) => if l.nest then l else { l with curs := l.curs.set l.j (m.src, m.dst) } }

/-- DMA_BURST (R558, R559, R616): a burst that reads poison, or would write part of a poisoned word, is not written and stops the
channel. -/
def execDmaBurst (ch : DmaCh) (s : State) : Out :=
  .next (if !s.dmaOn then s
    else
      match s.dmaOf ch with
      | none => s
      | some d =>
        match d.move with
        | none => s
        | some m =>
          let n := m.burst
          let x := s.burstRead m n
          let blocked := decide (0x1000000 ≤ m.dst) && x.2.partialPoison m.dst (if m.dfix then 4 else n)
          match x.1 with
          | none => x.2.dmaEnd ch d 6 0
          | some data =>
            if blocked then x.2.dmaEnd ch d 6 0
            else
              let s := x.2.burstWrite m data
              let m := m.after n
              let d : Dma := { d with move := some m, moved := d.moved + n }
              if m.left = 0 then s.dmaNext ch (d.keepSides m) else s.setDma ch d)

/-! ## Loops (R560 to R562) -/

/-- A loop of BODY instructions entered, its body fetched at once; a count of 0 skips it (R555, R560). -/
def State.dmaEnter (s : State) (ch : Nat) (d : Dma) (ins : List Byte) (l : DmaLoop) : State :=
  let body := fieldAt ins 1 1
  if l.c0 = 0 ∨ l.c1 = 0 ∨ l.c2 = 0 then s.setDma ch { d with pc := d.pc + 1 + body }
  else if s.poisoned (d.insAddr (d.pc + 1)) (0x20 * body) then s.dmaEnd ch d 6 0
  else
    let ks := (List.range body).map fun k => s.bytes (d.insAddr (d.pc + 1 + k)) 32
    s.setDma ch { d with pc := d.pc + 1, loop := some { l with body := ks } }

/-- DMA_LOOP (R560). -/
def execDmaLoop (ch : DmaCh) (s : State) : Out :=
  .next (s.dmaStep ch 2 fun s d ins => s.dmaEnter ch d ins { nest := false, pc := d.pc, body := [], c0 := fieldAt ins 4 4 })

/-- Whether a channel may run a NEST3 (R562). -/
def State.nestAllowed (s : State) (ch : Nat) : Bool :=
  s.mode == .prepare || s.mode == .service
    || (bit (s.fld DMA.GRANT_MASK) ch && decide (s.now < s.fld DMA.GRANTUL_UNTIL + 2 ^ 32 * s.fld DMA.GRANTUH_UNTIL))

/-- NEST3 (R561, R562). -/
def execDmaNest3 (ch : DmaCh) (s : State) : Out :=
  .next (s.dmaStep ch 6 fun s d ins =>
    if !s.nestAllowed ch then s.dmaEnd ch d 8 s.mode.code
    else
      let steps := (List.range 6).map fun k => signed 32 (fieldAt ins (8 + 4 * k) 4)
      s.dmaEnter ch d ins { nest := true, pc := d.pc, body := [], c0 := fieldAt ins 2 2, c1 := fieldAt ins 4 2, c2 := fieldAt ins 6 2, steps := steps })

/-! ## Waits, signals and the end (R563 to R566) -/

/-- WAIT: one whose condition holds already ends at once (R563, R564). -/
def execDmaWait (ch : DmaCh) (s : State) : Out :=
  .next (s.dmaStep ch 3 fun s d ins =>
    let kind := fieldAt ins 1 1
    let clr := bit (fieldAt ins 2 1) 0
    let arg := fieldAt ins 4 4
    let time := fieldAt ins 8 8
    if kind = 0 ∧ s.evFlag arg then (if clr then s.setEvFlag arg false else s).dmaNext ch d
    else if (kind = 2 ∧ time ≤ s.now) ∨ (kind = 3 ∧ time = 0) then s.dmaNext ch d
    else
      let tmo := fieldAt ins 16 8
      let w : DmaWait := { kind := kind, clr := clr, arg := arg, ends := if kind = 3 then s.clock + time else time,
                           tmo := if kind < 2 ∧ tmo ≠ 0 then some (s.clock + tmo) else none }
      s.setDma ch { d with wait := some w })

/-- What the end of a WAIT does to its channel, where a WAIT in progress satisfies a test. -/
def State.dmaWaitEnd (s : State) (ch : Nat) (p : DmaWait → Bool) (f : State → Dma → DmaWait → State) : State :=
  if !s.dmaOn then s
  else
    match s.dmaOf ch with
    | none => s
    | some d =>
      match d.wait with
      | none => s
      | some w => if p w then f s d w else s

/-- DMA_WAIT_TIME: the time or the delay of a WAIT is reached (R563). -/
def execDmaWaitTime (ch : DmaCh) (s : State) : Out :=
  .next (s.dmaWaitEnd ch (fun w => decide (2 ≤ w.kind ∧ w.ends ≤ s.clock)) fun s d _ => s.dmaNext ch d)

/-- DMA_WAIT_TIMEOUT: TMO elapses first (R563). -/
def execDmaWaitTimeout (ch : DmaCh) (s : State) : Out :=
  .next (s.dmaWaitEnd ch (fun w => w.tmo.any fun t => decide (t ≤ s.clock)) fun s d w => s.dmaEnd ch d 7 w.kind)

/-- SIGNAL (R563, R565, R568). -/
def execDmaSignal (ch : DmaCh) (s : State) : Out :=
  .next (s.dmaStep ch 4 fun s d ins =>
    let b := fieldAt ins 1 1
    let s := if bit b 0 then s.evSet (fieldAt ins 4 4) else s
    let s := if bit b 1 then s.intrEvent (0x290 + ch.val) 2 (fieldAt ins 8 4) else s
    s.dmaNext ch d)

/-- END (R566, R569). -/
def execDmaEnd (ch : DmaCh) (s : State) : Out := .next (s.dmaStep ch 5 fun s d _ => s.dmaEnd ch d 0 0)

end Sys2Proof.Machine
end

