-- ==== Sys2Proof/Machine/EngineScalar.lean ====
section
/-!
DEFINITION. The scalar instructions of the slice engine (spec/12_slice_engines.md R342 to R344): one meaning each, over
the operand forms of Operands.lean. `sl` is the slice whose engine issues the instruction.
-/
namespace Sys2Proof.Machine

/-- ADD: the sum modulo 2^32 (R342). -/
def execEngAdd (sl : Slice) (sd sa sb : BitVec 5) (s : State) : Out :=
  .next (s.engScalar sl sd fun e => e.sget sa + e.sget sb)

/-- SUB: the difference modulo 2^32 (R342). -/
def execEngSub (sl : Slice) (sd sa sb : BitVec 5) (s : State) : Out :=
  .next (s.engScalar sl sd fun e => e.sget sa - e.sget sb)

/-- AND: bitwise and (R342). -/
def execEngAnd (sl : Slice) (sd sa sb : BitVec 5) (s : State) : Out :=
  .next (s.engScalar sl sd fun e => e.sget sa &&& e.sget sb)

/-- OR: bitwise or (R342). -/
def execEngOr (sl : Slice) (sd sa sb : BitVec 5) (s : State) : Out :=
  .next (s.engScalar sl sd fun e => e.sget sa ||| e.sget sb)

/-- XOR: bitwise exclusive or (R342). -/
def execEngXor (sl : Slice) (sd sa sb : BitVec 5) (s : State) : Out :=
  .next (s.engScalar sl sd fun e => e.sget sa ^^^ e.sget sb)

/-- SLL: shift left by sb[4:0] (R342). -/
def execEngSll (sl : Slice) (sd sa sb : BitVec 5) (s : State) : Out :=
  .next (s.engScalar sl sd fun e => e.sget sa <<< ((e.sget sb).toNat % 32))

/-- SRL: logical shift right by sb[4:0] (R342). -/
def execEngSrl (sl : Slice) (sd sa sb : BitVec 5) (s : State) : Out :=
  .next (s.engScalar sl sd fun e => e.sget sa >>> ((e.sget sb).toNat % 32))

/-- SRA: arithmetic shift right by sb[4:0] (R342). -/
def execEngSra (sl : Slice) (sd sa sb : BitVec 5) (s : State) : Out :=
  .next (s.engScalar sl sd fun e => (e.sget sa).sshiftRight ((e.sget sb).toNat % 32))

/-- MUL: low 32 bits of the product (R342). -/
def execEngMul (sl : Slice) (sd sa sb : BitVec 5) (s : State) : Out :=
  .next (s.engScalar sl sd fun e => e.sget sa * e.sget sb)

/-- MULH: high 32 bits of the signed product (R342). -/
def execEngMulh (sl : Slice) (sd sa sb : BitVec 5) (s : State) : Out :=
  .next (s.engScalar sl sd fun e => BitVec.ofInt 32 ((e.sget sa).toInt * (e.sget sb).toInt / 4294967296))

/-- MULHU: high 32 bits of the unsigned product (R342). -/
def execEngMulhu (sl : Slice) (sd sa sb : BitVec 5) (s : State) : Out :=
  .next (s.engScalar sl sd fun e => BitVec.ofNat 32 ((e.sget sa).toNat * (e.sget sb).toNat / 4294967296))

/-- SLT: 1 if sa < sb, signed (R342). -/
def execEngSlt (sl : Slice) (sd sa sb : BitVec 5) (s : State) : Out :=
  .next (s.engScalar sl sd fun e => if (e.sget sa).toInt < (e.sget sb).toInt then 1 else 0)

/-- SLTU: 1 if sa < sb, unsigned (R342). -/
def execEngSltu (sl : Slice) (sd sa sb : BitVec 5) (s : State) : Out :=
  .next (s.engScalar sl sd fun e => if (e.sget sa).toNat < (e.sget sb).toNat then 1 else 0)

/-- MIN: the lesser, signed (R342). -/
def execEngMin (sl : Slice) (sd sa sb : BitVec 5) (s : State) : Out :=
  .next (s.engScalar sl sd fun e => if (e.sget sa).toInt ≤ (e.sget sb).toInt then e.sget sa else e.sget sb)

/-- MAX: the greater, signed (R342). -/
def execEngMax (sl : Slice) (sd sa sb : BitVec 5) (s : State) : Out :=
  .next (s.engScalar sl sd fun e => if (e.sget sa).toInt ≤ (e.sget sb).toInt then e.sget sb else e.sget sa)

/-- Leading zeros of the low `n` bits of a word. -/
def leadingZeros (w : Nat) : Nat → Nat
  | 0 => 0
  | n + 1 => if bit w n then 0 else 1 + leadingZeros w n

/-- CLZ: leading zeros of sa, 0 to 32 (R342). -/
def execEngClz (sl : Slice) (sd sa : BitVec 5) (s : State) : Out :=
  .next (s.engScalar sl sd fun e => BitVec.ofNat 32 (leadingZeros (e.sget sa).toNat 32))

/-- ADDI: sa plus the sign-extended immediate (R343). -/
def execEngAddi (sl : Slice) (sd sa : BitVec 5) (imm : BitVec 14) (s : State) : Out :=
  .next (s.engScalar sl sd fun e => e.sget sa + imm.signExtend 32)

/-- ANDI: sa and the zero-extended immediate (R343). -/
def execEngAndi (sl : Slice) (sd sa : BitVec 5) (imm : BitVec 14) (s : State) : Out :=
  .next (s.engScalar sl sd fun e => e.sget sa &&& imm.zeroExtend 32)

/-- ORI: sa or the zero-extended immediate (R343). -/
def execEngOri (sl : Slice) (sd sa : BitVec 5) (imm : BitVec 14) (s : State) : Out :=
  .next (s.engScalar sl sd fun e => e.sget sa ||| imm.zeroExtend 32)

/-- XORI: sa exclusive or the zero-extended immediate (R343). -/
def execEngXori (sl : Slice) (sd sa : BitVec 5) (imm : BitVec 14) (s : State) : Out :=
  .next (s.engScalar sl sd fun e => e.sget sa ^^^ imm.zeroExtend 32)

/-- SLLI: shift left by imm14[4:0]; imm14[13:5] is 0 (R343). -/
def execEngSlli (sl : Slice) (sd sa sh : BitVec 5) (s : State) : Out :=
  .next (s.engScalar sl sd fun e => e.sget sa <<< sh.toNat)

/-- SRLI: logical shift right by imm14[4:0]; imm14[13:5] is 0 (R343). -/
def execEngSrli (sl : Slice) (sd sa sh : BitVec 5) (s : State) : Out :=
  .next (s.engScalar sl sd fun e => e.sget sa >>> sh.toNat)

/-- SRAI: arithmetic shift right by imm14[4:0]; imm14[13:5] is 0 (R343). -/
def execEngSrai (sl : Slice) (sd sa sh : BitVec 5) (s : State) : Out :=
  .next (s.engScalar sl sd fun e => (e.sget sa).sshiftRight sh.toNat)

/-- SLTI: 1 if sa < the sign-extended immediate, signed (R343). -/
def execEngSlti (sl : Slice) (sd sa : BitVec 5) (imm : BitVec 14) (s : State) : Out :=
  .next (s.engScalar sl sd fun e => if (e.sget sa).toInt < imm.toInt then 1 else 0)

/-- LUI: bits [18:0] of the word shifted left by 13 (R343). -/
def execEngLui (sl : Slice) (sd : BitVec 5) (imm : BitVec 19) (s : State) : Out :=
  .next (s.engScalar sl sd fun _ => imm.zeroExtend 32 <<< 13)

/-! ## Control (R344) -/

/-- A conditional branch to PC + off14: two cycles if taken, one if not (R341, R344). -/
def State.engBranch (s : State) (sl : Slice) (c : Cond) (sa sb : BitVec 5) (off : BitVec 14) : State :=
  let taken := c.holds ((s.eng sl).sget sa) ((s.eng sl).sget sb)
  s.engIssue sl (if taken then 2 else 1) fun s _ => (s, if taken then .jump ((s.engPc sl : Int) + off.toInt) else .seq)

/-- BEQ: branch if equal (R344). -/
def execEngBeq (sl : Slice) (sa sb : BitVec 5) (off : BitVec 14) (s : State) : Out :=
  .next (s.engBranch sl .eq sa sb off)

/-- BNE: branch if not equal (R344). -/
def execEngBne (sl : Slice) (sa sb : BitVec 5) (off : BitVec 14) (s : State) : Out :=
  .next (s.engBranch sl .ne sa sb off)

/-- BLT: branch if sa < sb, signed (R344). -/
def execEngBlt (sl : Slice) (sa sb : BitVec 5) (off : BitVec 14) (s : State) : Out :=
  .next (s.engBranch sl .lt sa sb off)

/-- BGE: branch if sa ≥ sb, signed (R344). -/
def execEngBge (sl : Slice) (sa sb : BitVec 5) (off : BitVec 14) (s : State) : Out :=
  .next (s.engBranch sl .ge sa sb off)

/-- BLTU: branch if sa < sb, unsigned (R344). -/
def execEngBltu (sl : Slice) (sa sb : BitVec 5) (off : BitVec 14) (s : State) : Out :=
  .next (s.engBranch sl .ltu sa sb off)

/-- BGEU: branch if sa ≥ sb, unsigned (R344). -/
def execEngBgeu (sl : Slice) (sa sb : BitVec 5) (off : BitVec 14) (s : State) : Out :=
  .next (s.engBranch sl .geu sa sb off)

/-- JAL: s[sa] ← PC + 1, jump to PC + off14; two cycles (R341, R344). -/
def execEngJal (sl : Slice) (sa : BitVec 5) (off : BitVec 14) (s : State) : Out :=
  .next (s.engIssue sl 2 fun s e =>
    (s.setEng sl (e.sset sa (BitVec.ofNat 32 (s.engPc sl + 1))), .jump ((s.engPc sl : Int) + off.toInt)))

/-- JR: s[sb] ← PC + 1, jump to the index that s[sa] held; two cycles (R341, R344). -/
def execEngJr (sl : Slice) (sa sb : BitVec 5) (s : State) : Out :=
  .next (s.engIssue sl 2 fun s e =>
    (s.setEng sl (e.sset sb (BitVec.ofNat 32 (s.engPc sl + 1))), .jump (e.sget sa).toNat))

/-- LOOP: the next off14 instructions repeated s[sa] times; a count of 0 skips the body. ILLEGAL for an offset of 0 or
below, and inside a loop body (R344). -/
def execEngLoop (sl : Slice) (sa : BitVec 5) (off : BitVec 14) (s : State) : Out :=
  .next (s.engIssue sl 1 fun s e =>
    let pc := s.engPc sl
    let n := (e.sget sa).toNat
    let inside : Bool := match e.loop with
      | some (_, b, x) => decide (b ≤ pc ∧ pc < x)
      | none => false
    if decide (off.toInt ≤ 0) || inside then (s, .trap 1)
    else if 8192 ≤ pc + 1 then (s, .trap 4)
    else if n = 0 then (s, .jump ((pc : Int) + 1 + off.toInt))
    else
      let s := s.setEng sl { e with loop := some (n, pc + 1, pc + 1 + off.toNat), busy := e.busy + 1 }
      (s.setFld (SL.ENGPC_PC sl) (pc + 1), .stop))

/-- HALT: the engine stops with TRAPC 0x08 and raises engine-halt with the PC (R344, R358). -/
def execEngHalt (sl : Slice) (s : State) : Out :=
  .next (s.engIssue sl 1 fun s _ => ((s.engStop sl esHalted 8).report 0x3051 sl (s.engPc sl), .stop))

end Sys2Proof.Machine
end

