-- ==== Sys2Proof/Machine/EngineVector.lean ====
section
/-!
DEFINITION. The vector instructions of the slice engine (spec/12_slice_engines.md R345): each lane on its own, with SAT
and SGN where the instruction uses them. n is the value of s[sb].
-/
namespace Sys2Proof.Machine

/-- VADD: the sum of the lanes (R345). -/
def execEngVadd (sl : Slice) (vd va vb : BitVec 3) (sat sgn : Bool) (s : State) : Out :=
  .next (s.engVector sl vd fun e => laneMap (fun a b => laneFit sat sgn (laneInt sgn a + laneInt sgn b)) (e.vget va) (e.vget vb))

/-- VSUB: the difference of the lanes (R345). -/
def execEngVsub (sl : Slice) (vd va vb : BitVec 3) (sat sgn : Bool) (s : State) : Out :=
  .next (s.engVector sl vd fun e => laneMap (fun a b => laneFit sat sgn (laneInt sgn a - laneInt sgn b)) (e.vget va) (e.vget vb))

/-- VMULQ: the product, rounded and shifted right by min(n, 16) (R345). -/
def execEngVmulq (sl : Slice) (vd va vb : BitVec 3) (sb : BitVec 5) (sat sgn : Bool) (s : State) : Out :=
  .next (s.engVector sl vd fun e => laneMap (fun a b => laneFit sat sgn (mulq sgn a b (e.sget sb).toNat)) (e.vget va) (e.vget vb))

/-- VMACQ: vd plus the VMULQ result, brought to the lane once (log entry 22) (R345). -/
def execEngVmacq (sl : Slice) (vd va vb : BitVec 3) (sb : BitVec 5) (sat sgn : Bool) (s : State) : Out :=
  .next (s.engVector sl vd fun e => lanes fun i =>
    laneFit sat sgn (laneInt sgn (lane (e.vget vd) i) + mulq sgn (lane (e.vget va) i) (lane (e.vget vb) i) (e.sget sb).toNat))

/-- VMIN: the lesser lane (R345). -/
def execEngVmin (sl : Slice) (vd va vb : BitVec 3) (sgn : Bool) (s : State) : Out :=
  .next (s.engVector sl vd fun e => laneMap (fun a b => if laneInt sgn a ≤ laneInt sgn b then a else b) (e.vget va) (e.vget vb))

/-- VMAX: the greater lane (R345). -/
def execEngVmax (sl : Slice) (vd va vb : BitVec 3) (sgn : Bool) (s : State) : Out :=
  .next (s.engVector sl vd fun e => laneMap (fun a b => if laneInt sgn a ≤ laneInt sgn b then b else a) (e.vget va) (e.vget vb))

/-- VABSD: the absolute difference as U16 (R345). -/
def execEngVabsd (sl : Slice) (vd va vb : BitVec 3) (sgn : Bool) (s : State) : Out :=
  .next (s.engVector sl vd fun e => laneMap (fun a b => BitVec.ofNat 16 (laneInt sgn a - laneInt sgn b).natAbs) (e.vget va) (e.vget vb))

/-- VAND (R345). -/
def execEngVand (sl : Slice) (vd va vb : BitVec 3) (s : State) : Out :=
  .next (s.engVector sl vd fun e => laneMap (fun a b => a &&& b) (e.vget va) (e.vget vb))

/-- VOR (R345). -/
def execEngVor (sl : Slice) (vd va vb : BitVec 3) (s : State) : Out :=
  .next (s.engVector sl vd fun e => laneMap (fun a b => a ||| b) (e.vget va) (e.vget vb))

/-- VXOR (R345). -/
def execEngVxor (sl : Slice) (vd va vb : BitVec 3) (s : State) : Out :=
  .next (s.engVector sl vd fun e => laneMap (fun a b => a ^^^ b) (e.vget va) (e.vget vb))

/-- VSHL: va shifted left by min(n, 16) (R345). -/
def execEngVshl (sl : Slice) (vd va : BitVec 3) (sb : BitVec 5) (sat sgn : Bool) (s : State) : Out :=
  .next (s.engVector sl vd fun e =>
    lanes fun i => laneFit sat sgn (laneInt sgn (lane (e.vget va) i) * (2 ^ min (e.sget sb).toNat 16 : Nat)))

/-- VSHR: va shifted right by min(n, 16), arithmetic if SGN = 1 (R345). -/
def execEngVshr (sl : Slice) (vd va : BitVec 3) (sb : BitVec 5) (sgn : Bool) (s : State) : Out :=
  .next (s.engVector sl vd fun e =>
    lanes fun i => BitVec.ofInt 16 (laneInt sgn (lane (e.vget va) i) / (2 ^ min (e.sget sb).toNat 16 : Nat)))

/-- VSPLAT: n[15:0] in every lane (R345). -/
def execEngVsplat (sl : Slice) (vd : BitVec 3) (sb : BitVec 5) (s : State) : Out :=
  .next (s.engVector sl vd fun e => List.replicate 16 ((e.sget sb).truncate 16))

/-- VCMPLT: 0xFFFF where va < vb (R345). -/
def execEngVcmplt (sl : Slice) (vd va vb : BitVec 3) (sgn : Bool) (s : State) : Out :=
  .next (s.engVector sl vd fun e => laneMap (fun a b => laneFlag (laneInt sgn a < laneInt sgn b)) (e.vget va) (e.vget vb))

/-- VCMPEQ: 0xFFFF where the lanes are equal (R345). -/
def execEngVcmpeq (sl : Slice) (vd va vb : BitVec 3) (s : State) : Out :=
  .next (s.engVector sl vd fun e => laneMap (fun a b => laneFlag (a == b)) (e.vget va) (e.vget vb))

/-- VSEL: va where vd is not 0, else vb (R345). -/
def execEngVsel (sl : Slice) (vd va vb : BitVec 3) (s : State) : Out :=
  .next (s.engVector sl vd fun e => lanes fun i => if lane (e.vget vd) i ≠ 0 then lane (e.vget va) i else lane (e.vget vb) i)

/-- VSLIDE: lane i + (n mod 16) of the 32 lanes va, vb (R345). -/
def execEngVslide (sl : Slice) (vd va vb : BitVec 3) (sb : BitVec 5) (s : State) : Out :=
  .next (s.engVector sl vd fun e =>
    lanes fun i => (e.vget va ++ e.vget vb).getD (i + (e.sget sb).toNat % 16) 0)

/-- VRSUM: s[sb] ← the 32-bit sum of the lanes of va (R345). -/
def execEngVrsum (sl : Slice) (va : BitVec 3) (sb : BitVec 5) (sgn : Bool) (s : State) : Out :=
  .next (s.engScalar sl sb fun e => BitVec.ofInt 32 (sumInts ((e.vget va).map (laneInt sgn))))

end Sys2Proof.Machine
end

