-- ==== Sys2Proof/Machine/I2ca.lean ====
section
/-!
DEFINITION. The management address of I2CA: slots, pointer, writes and reads (spec/22_i2c.md R591 to R599, R603).
-/
namespace Sys2Proof.Machine

/-! ## Slots (R591, R593) -/

/-- An address that slots 2 and 3 may hold (R591). -/
def slotAddress (a : Nat) : Bool := decide (8 ≤ a ∧ a < 0x78)

/-- Whether an address byte matches a management slot: the keeper's slot goes first, and some addresses are never acknowledged
(R591). -/
def State.mgmtSlot (s : State) (addr : BitVec 7) : Bool :=
  let a := addr.toNat
  let twa := s.fld KPR.STRAPS_TWA_EFF
  let a3 := s.fld I2CA.ADR3_ADDR
  let mask := BitVec.ofNat 7 (s.fld I2CA.ADR3_MASK)
  let never := a = 0 ∨ a / 4 = 1 ∨ a / 4 = 0x1E
  a ≠ 0x58 + twa && !decide never &&
    (a == 0x50 + twa
      || (s.flag I2CA.ADR2_EN && slotAddress (s.fld I2CA.ADR2_ADDR) && a == s.fld I2CA.ADR2_ADDR)
      || (s.flag I2CA.ADR3_EN && slotAddress a3 && (addr ^^^ BitVec.ofNat 7 a3) &&& mask == 0))

/-- Whether the management logic acknowledges its addresses: its pins are not taken for a scan (R591, R593, R681). -/
def State.mgmtReady (s : State) : Bool := s.mgmtAcks && !s.pinsTaken

/-- Whether it acknowledges an address. -/
def State.mgmtAnswers (s : State) (addr : BitVec 7) : Bool := s.mgmtReady && s.mgmtSlot addr

/-! ## The pointer (R594) -/

/-- P. -/
def State.mgmtPtr (s : State) : Nat := s.fld I2CA.IPTRL_P + 2 ^ 32 * s.fld I2CA.IPTRH_P

/-- P set. -/
def State.setMgmtPtr (s : State) (p : Nat) : State := s.setFlds [(I2CA.IPTRL_P, p), (I2CA.IPTRH_P, p / 2 ^ 32)]

/-- The number of bytes sent most significant first. -/
def bigNat (l : List Byte) : Nat := l.foldl (fun a b => 256 * a + b.toNat) 0

/-- I2CA_POINTER_SET: fewer than six bytes leave P as it is (R594). -/
def execI2caPointerSet (addr : BitVec 7) (bytes : List Byte) (s : State) : Out :=
  .next (if s.mgmtAnswers addr && decide (6 ≤ bytes.length) then s.setMgmtPtr (bigNat (bytes.take 6)) else s)

/-! ## Failures (R596) -/

/-- The first failure since MSTAT was read, kept. -/
def State.mgmtCode (s : State) (code detail : Nat) : State :=
  if s.fld I2CA.MSTAT_CODE = 0 then s.setFlds [(I2CA.MSTAT_CODE, code), (I2CA.MSTAT_DETAIL, detail)] else s

/-- n failures: the code of the first, and their count. -/
def State.mgmtFail (s : State) (code detail n : Nat) : State := (s.mgmtCode code detail).bump I2CA.MSTAT_ERRS n

/-! ## Writes (R594, R595, R687) -/

/-- The tests of a management write, in order: code and DETAIL of the first that fails. -/
def State.mgmtTest (s : State) (a n : Nat) : Option (Nat × Nat) :=
  match rowOf a with
  | none => some (2, 0)
  | some (_, top) =>
    if scopeOf a < 192 then some (2, 0)
    else if 0x100000000 ≤ a ∧ s.domainOn .lpddr = false then some (2, 1)
    else if top < a + n ∨ (a < 0x1000000 ∧ (a % 4 ≠ 0 ∨ n % 4 ≠ 0)) then some (3, 0)
    else (s.writeTest a n).map fun d => (0x0B, d)

/-- A management write performed in local writes of at most 512 bytes. -/
def State.mgmtWrite (s : State) (a : Nat) (data : List Byte) : State :=
  if a < 0x1000000 then s.writeCsr a data true
  else if s.partialPoison a data.length then (s.store a data).mgmtFail 4 0 1
  else s.store a data

/-- I2CA_WRITE: a write at a pointer that the transaction sets; bytes beyond 4,096 or P's page are discarded (R594, R595). -/
def execI2caWrite (addr : BitVec 7) (p : BitVec 48) (data : List Byte) (s : State) : Out :=
  .next (if !s.mgmtAnswers addr then s
    else
      let a := p.toNat
      let d := data.take (4096 - a % 4096)
      let s := s.setMgmtPtr (a + d.length)
      if d = [] then s
      else
        match s.mgmtTest a d.length with
        | some (c, e) => s.mgmtFail c e 1
        | none => s.mgmtWrite a d)

/-! ## Reads (R594, R596) -/

/-- Why the byte at an address cannot be read: code and DETAIL. -/
def State.mgmtBlocked (s : State) (a : Nat) : Option (Nat × Nat) :=
  if (rowOf a).isNone || decide (scopeOf a < 192) then some (2, 0)
  else if 0x100000000 ≤ a ∧ s.domainOn .lpddr = false then some (2, 1)
  else if 0x1000000 ≤ a ∧ s.unchecked a = false ∧ s.poisoned (8 * (a / 8)) 8 then some (4, 0)
  else none

/-- n bytes from an address, up to the end of P's page; `w` is the register word in hand, fetched once as its first byte is sent. -/
def State.mgmtBytes (s : State) (page : Nat) : Nat → Nat → Option Word → List Byte × State
  | 0, _, _ => ([], s)
  | n + 1, a, w =>
    let bad := if a / 4096 ≠ page then some (3, 0) else s.mgmtBlocked a
    match bad with
    | some (c, e) =>
      let y := (s.mgmtFail c e 1).mgmtBytes page n (a + 1) none
      (0xFF :: y.1, y.2)
    | none =>
      if a < 0x1000000 then
        let x := match w with
          | some v => (v, s)
          | none => s.readReg .mgmt (4 * (a / 4))
        let y := x.2.mgmtBytes page n (a + 1) (if a % 4 = 3 then none else some x.1)
        (BitVec.ofNat 8 (x.1.toNat / 2 ^ (8 * (a % 4))) :: y.1, y.2)
      else
        let b := if s.unchecked a then 0 else Memory.get s.mem a
        let y := s.mgmtBytes page n (a + 1) none
        (b :: y.1, y.2)

/-- I2CA_READ (R594, R596). -/
def execI2caRead (addr : BitVec 7) (n : Nat) (s : State) : Out :=
  .next (if s.mgmtAnswers addr then
      let a := s.mgmtPtr
      let x := s.mgmtBytes (a / 4096) n a none
      let s := x.2.setMgmtPtr (a + n)
      { s with readOut := s.readOut.set Path.mgmt.num x.1, sent := s.sent ++ [.wire .mgmt x.1] }
    else s)

/-! ## Wake and timeout (R598, R599) -/

/-- I2CA_WAKE_MATCH: in STANDBY or on the way into it, SCL is held and the device wakes with cause 0x08 (R45, R48, R598). -/
def execI2caWakeMatch (addr : BitVec 7) (s : State) : Out :=
  .next (if s.alive && !s.pinsTaken && s.mgmtSlot addr && (s.mode == .standby || s.sys.trans.any fun t => t.target == .standby) then
      { s with i2c := { s.i2c with held := true } }.wakeUp 8
    else s)

/-- I2CA_STRETCH_TIMEOUT: the transaction and what it would have written are gone; registers and P stay (R599). -/
def execI2caStretchTimeout (addr : BitVec 7) (s : State) : Out :=
  .next (if s.mgmtReady && s.mgmtSlot addr then
      ({ s with i2c := { s.i2c with held := false } }.bump I2CA.ICNT_STRETCHTO 1).report 0x0E01 0 addr.toNat
    else s)

end Sys2Proof.Machine
end

