-- ==== Sys2Proof/Machine/Dispatch.lean ====
section
/-!
DEFINITION. The meaning of every command: one arm per constructor of Instr, each one call of its meaning.
-/
namespace Sys2Proof.Machine

/-- The effect of a command on everything but the queue. -/
def exec (i : Instr) (s : State) : Host.Outcome State Fault Refusal :=
  match i with
  | .pwrgoodRising => Sys2Proof.Machine.execPwrgoodRising s
  | .pwrgoodFalling => Sys2Proof.Machine.execPwrgoodFalling s
  | .resetNRelease => Sys2Proof.Machine.execResetNRelease s
  | .rootPllLock => Sys2Proof.Machine.execRootPllLock s
  | .strapSampling bootUp bootDn pairUp pairDn twaUp twaDn => Sys2Proof.Machine.execStrapSampling bootUp bootDn pairUp pairDn twaUp twaDn s
  | .bootImageLoaded slotB octal image selfTest lockstepOk busFreed => Sys2Proof.Machine.execBootImageLoaded slotB octal image selfTest lockstepOk s busFreed
  | .bootEnd => Sys2Proof.Machine.execBootEnd s
  | .bootWatchdogExpiry => Sys2Proof.Machine.execBootWatchdogExpiry s
  | .modeTransitionComplete => Sys2Proof.Machine.execModeTransitionComplete s
  | .wakePendClear => Sys2Proof.Machine.execWakePendClear s
  | .kprSafeNRequest => Sys2Proof.Machine.execKprSafeNRequest s
  | .laneLos link lane => Sys2Proof.Machine.execLaneLos link lane s
  | .laneLosRelease link lane => Sys2Proof.Machine.execLaneLosRelease link lane s
  | .laneLol link lane => Sys2Proof.Machine.execLaneLol link lane s
  | .laneLock link back => Sys2Proof.Machine.execLaneLock link back s
  | .alignmentMarker link lane crumb skew stuffs => Sys2Proof.Machine.execAlignmentMarker link lane crumb skew stuffs s
  | .lossOfAlignment link lane => Sys2Proof.Machine.execLossOfAlignment link lane s
  | .rsnextTimeout link => Sys2Proof.Machine.execRsnextTimeout link s
  | .trainingFrame link crumbs lane => Sys2Proof.Machine.execTrainingFrame link crumbs s lane
  | .stepReq link back => Sys2Proof.Machine.execStepReq link back s
  | .stepAck link back => Sys2Proof.Machine.execStepAck link back s
  | .stepNak link back => Sys2Proof.Machine.execStepNak link back s
  | .goOper link back => Sys2Proof.Machine.execGoOper link back s
  | .quadJoin link => Sys2Proof.Machine.execQuadJoin link s
  | .dwellPass link back => Sys2Proof.Machine.execDwellPass link back s
  | .stepTimerExpiry link back => Sys2Proof.Machine.execStepTimerExpiry link back s
  | .detectRetry link => Sys2Proof.Machine.execDetectRetry link s
  | .linkRetrain link => Sys2Proof.Machine.execLinkRetrain link s
  | .quadRetrain link => Sys2Proof.Machine.execQuadRetrain link s
  | .linkCounterClear link => Sys2Proof.Machine.execLinkCounterClear link s
  | .tapInstructionUpdate tap scan => Sys2Proof.Machine.execTapInstructionUpdate tap s scan
  | .frameStart port crumbs => Sys2Proof.Machine.execFrameStart port crumbs s
  | .linePacket port crumbs full parity => Sys2Proof.Machine.execLinePacket port crumbs full s parity
  | .frameEnd port crumbs => Sys2Proof.Machine.execFrameEnd port crumbs s
  | .headerCrcFailure port header => Sys2Proof.Machine.execHeaderCrcFailure port header s
  | .lineWatchdogExpiry port => Sys2Proof.Machine.execLineWatchdogExpiry port s
  | .frameWatchdogExpiry port => Sys2Proof.Machine.execFrameWatchdogExpiry port s
  | .headStatus port crumbs => Sys2Proof.Machine.execHeadStatus port crumbs s
  | .headResponse port crumbs => Sys2Proof.Machine.execHeadResponse port crumbs s
  | .backchannelCommandSend port => Sys2Proof.Machine.execBackchannelCommandSend port s
  | .backchannelTimeout port tag => Sys2Proof.Machine.execBackchannelTimeout port tag s
  | .reauthTimer port => Sys2Proof.Machine.execReauthTimer port s
  | .wearWriteTimer port => Sys2Proof.Machine.execWearWriteTimer port s
  | .lensContrastHourly port => Sys2Proof.Machine.execLensContrastHourly port s
  | .keeperShadowCopy => Sys2Proof.Machine.execKeeperShadowCopy s
  | .ppsEdge captured wide => Sys2Proof.Machine.execPpsEdge captured wide s
  | .ppsLoss => Sys2Proof.Machine.execPpsLoss s
  | .slewEnd => Sys2Proof.Machine.execSlewEnd s
  | .ppsOutPulse => Sys2Proof.Machine.execPpsOutPulse s
  | .ppsOutPulseEnd => Sys2Proof.Machine.execPpsOutPulseEnd s
  | .tsyncSchedule port => Sys2Proof.Machine.execTsyncSchedule port s
  | .headTimeStale port => Sys2Proof.Machine.execHeadTimeStale port s
  | .triggerDispatch port target => Sys2Proof.Machine.execTriggerDispatch port target s
  | .syncOutputEdge pin begins => Sys2Proof.Machine.execSyncOutputEdge pin begins s
  | .syncInputEdge pin falling time => Sys2Proof.Machine.execSyncInputEdge pin falling time s
  | .scapPop path pin => Sys2Proof.Machine.execScapPop path pin s
  | .tsuSnap => Sys2Proof.Machine.execTsuSnap s
  | .motionDeadline port fn => Sys2Proof.Machine.execMotionDeadline port fn s
  | .latticeAssemblyStart lat => Sys2Proof.Machine.execLatticeAssemblyStart lat s
  | .latticeAssemblyEnd lat => Sys2Proof.Machine.execLatticeAssemblyEnd lat s
  | .latticeSkip lat => Sys2Proof.Machine.execLatticeSkip lat s
  | .streamStatusRepeat sid => Sys2Proof.Machine.execStreamStatusRepeat sid s
  | .statsSetComplete port fn => Sys2Proof.Machine.execStatsSetComplete port fn s
  | .pqSensorDispatch port => Sys2Proof.Machine.execPqSensorDispatch port s
  | .pqPipeLatch port field => Sys2Proof.Machine.execPqPipeLatch port field s
  | .pqDeadlinePass port => Sys2Proof.Machine.execPqDeadlinePass port s
  | .engAdd sl sd sa sb => Sys2Proof.Machine.execEngAdd sl sd sa sb s
  | .engSub sl sd sa sb => Sys2Proof.Machine.execEngSub sl sd sa sb s
  | .engAnd sl sd sa sb => Sys2Proof.Machine.execEngAnd sl sd sa sb s
  | .engOr sl sd sa sb => Sys2Proof.Machine.execEngOr sl sd sa sb s
  | .engXor sl sd sa sb => Sys2Proof.Machine.execEngXor sl sd sa sb s
  | .engSll sl sd sa sb => Sys2Proof.Machine.execEngSll sl sd sa sb s
  | .engSrl sl sd sa sb => Sys2Proof.Machine.execEngSrl sl sd sa sb s
  | .engSra sl sd sa sb => Sys2Proof.Machine.execEngSra sl sd sa sb s
  | .engMul sl sd sa sb => Sys2Proof.Machine.execEngMul sl sd sa sb s
  | .engMulh sl sd sa sb => Sys2Proof.Machine.execEngMulh sl sd sa sb s
  | .engMulhu sl sd sa sb => Sys2Proof.Machine.execEngMulhu sl sd sa sb s
  | .engSlt sl sd sa sb => Sys2Proof.Machine.execEngSlt sl sd sa sb s
  | .engSltu sl sd sa sb => Sys2Proof.Machine.execEngSltu sl sd sa sb s
  | .engMin sl sd sa sb => Sys2Proof.Machine.execEngMin sl sd sa sb s
  | .engMax sl sd sa sb => Sys2Proof.Machine.execEngMax sl sd sa sb s
  | .engClz sl sd sa => Sys2Proof.Machine.execEngClz sl sd sa s
  | .engAddi sl sd sa imm => Sys2Proof.Machine.execEngAddi sl sd sa imm s
  | .engAndi sl sd sa imm => Sys2Proof.Machine.execEngAndi sl sd sa imm s
  | .engOri sl sd sa imm => Sys2Proof.Machine.execEngOri sl sd sa imm s
  | .engXori sl sd sa imm => Sys2Proof.Machine.execEngXori sl sd sa imm s
  | .engSlli sl sd sa sh => Sys2Proof.Machine.execEngSlli sl sd sa sh s
  | .engSrli sl sd sa sh => Sys2Proof.Machine.execEngSrli sl sd sa sh s
  | .engSrai sl sd sa sh => Sys2Proof.Machine.execEngSrai sl sd sa sh s
  | .engSlti sl sd sa imm => Sys2Proof.Machine.execEngSlti sl sd sa imm s
  | .engLui sl sd imm => Sys2Proof.Machine.execEngLui sl sd imm s
  | .engBeq sl sa sb off => Sys2Proof.Machine.execEngBeq sl sa sb off s
  | .engBne sl sa sb off => Sys2Proof.Machine.execEngBne sl sa sb off s
  | .engBlt sl sa sb off => Sys2Proof.Machine.execEngBlt sl sa sb off s
  | .engBge sl sa sb off => Sys2Proof.Machine.execEngBge sl sa sb off s
  | .engBltu sl sa sb off => Sys2Proof.Machine.execEngBltu sl sa sb off s
  | .engBgeu sl sa sb off => Sys2Proof.Machine.execEngBgeu sl sa sb off s
  | .engJal sl sa off => Sys2Proof.Machine.execEngJal sl sa off s
  | .engJr sl sa sb => Sys2Proof.Machine.execEngJr sl sa sb s
  | .engLoop sl sa off => Sys2Proof.Machine.execEngLoop sl sa off s
  | .engHalt sl => Sys2Proof.Machine.execEngHalt sl s
  | .engIllegalInstruction sl word => Sys2Proof.Machine.execEngIllegalInstruction sl word s
  | .engVadd sl vd va vb sat sgn => Sys2Proof.Machine.execEngVadd sl vd va vb sat sgn s
  | .engVsub sl vd va vb sat sgn => Sys2Proof.Machine.execEngVsub sl vd va vb sat sgn s
  | .engVmulq sl vd va vb sb sat sgn => Sys2Proof.Machine.execEngVmulq sl vd va vb sb sat sgn s
  | .engVmacq sl vd va vb sb sat sgn => Sys2Proof.Machine.execEngVmacq sl vd va vb sb sat sgn s
  | .engVmin sl vd va vb sgn => Sys2Proof.Machine.execEngVmin sl vd va vb sgn s
  | .engVmax sl vd va vb sgn => Sys2Proof.Machine.execEngVmax sl vd va vb sgn s
  | .engVabsd sl vd va vb sgn => Sys2Proof.Machine.execEngVabsd sl vd va vb sgn s
  | .engVand sl vd va vb => Sys2Proof.Machine.execEngVand sl vd va vb s
  | .engVor sl vd va vb => Sys2Proof.Machine.execEngVor sl vd va vb s
  | .engVxor sl vd va vb => Sys2Proof.Machine.execEngVxor sl vd va vb s
  | .engVshl sl vd va sb sat sgn => Sys2Proof.Machine.execEngVshl sl vd va sb sat sgn s
  | .engVshr sl vd va sb sgn => Sys2Proof.Machine.execEngVshr sl vd va sb sgn s
  | .engVsplat sl vd sb => Sys2Proof.Machine.execEngVsplat sl vd sb s
  | .engVcmplt sl vd va vb sgn => Sys2Proof.Machine.execEngVcmplt sl vd va vb sgn s
  | .engVcmpeq sl vd va vb => Sys2Proof.Machine.execEngVcmpeq sl vd va vb s
  | .engVsel sl vd va vb => Sys2Proof.Machine.execEngVsel sl vd va vb s
  | .engVslide sl vd va vb sb => Sys2Proof.Machine.execEngVslide sl vd va vb sb s
  | .engVrsum sl va sb sgn => Sys2Proof.Machine.execEngVrsum sl va sb sgn s
  | .engLdw sl sd sa off => Sys2Proof.Machine.execEngLdw sl sd sa off s
  | .engStw sl sd sa off => Sys2Proof.Machine.execEngStw sl sd sa off s
  | .engLdh sl sd sa off => Sys2Proof.Machine.execEngLdh sl sd sa off s
  | .engSth sl sd sa off => Sys2Proof.Machine.execEngSth sl sd sa off s
  | .engVld sl vd sa off => Sys2Proof.Machine.execEngVld sl vd sa off s
  | .engVst sl vd sa off => Sys2Proof.Machine.execEngVst sl vd sa off s
  | .engVlut sl vd sa off => Sys2Proof.Machine.execEngVlut sl vd sa off s
  | .engTpop sl scaler vd plane => Sys2Proof.Machine.execEngTpop sl scaler vd plane s
  | .engTpush sl scaler vd plane => Sys2Proof.Machine.execEngTpush sl scaler vd plane s
  | .engTline sl scaler sd => Sys2Proof.Machine.execEngTline sl scaler sd s
  | .engTstat sl scaler sd => Sys2Proof.Machine.execEngTstat sl scaler sd s
  | .engStlw sl sd sa u => Sys2Proof.Machine.execEngStlw sl sd sa u s
  | .engStlv sl vd sa u => Sys2Proof.Machine.execEngStlv sl vd sa u s
  | .engStcpy sl sd sa u => Sys2Proof.Machine.execEngStcpy sl sd sa u s
  | .engSrd sl sa sb len => Sys2Proof.Machine.execEngSrd sl sa sb len s
  | .engSwr sl sa sb len => Sys2Proof.Machine.execEngSwr sl sa sb len s
  | .engScnt sl sd => Sys2Proof.Machine.execEngScnt sl sd s
  | .engPqput sl sd sa => Sys2Proof.Machine.execEngPqput sl sd sa s
  | .engPqfn sl sd => Sys2Proof.Machine.execEngPqfn sl sd s
  | .engPqused sl sd => Sys2Proof.Machine.execEngPqused sl sd s
  | .engEvwait sl sd sa imm => Sys2Proof.Machine.execEngEvwait sl sd sa imm s
  | .engEvwaitTimeout sl => Sys2Proof.Machine.execEngEvwaitTimeout sl s
  | .engCommit sl => Sys2Proof.Machine.execEngCommit sl s
  | .engReport sl sa => Sys2Proof.Machine.execEngReport sl sa s
  | .engEvarg sl sd imm => Sys2Proof.Machine.execEngEvarg sl sd imm s
  | .engineTimeNow sl sd => Sys2Proof.Machine.execEngineTimeNow sl sd s
  | .engineTimeHigh sl sd => Sys2Proof.Machine.execEngineTimeHigh sl sd s
  | .engDmard sl sa => Sys2Proof.Machine.execEngDmard sl sa s
  | .engDmawr sl sa => Sys2Proof.Machine.execEngDmawr sl sa s
  | .engDmast sl sd => Sys2Proof.Machine.execEngDmast sl sd s
  | .engineMoverDone sl => Sys2Proof.Machine.execEngineMoverDone sl s
  | .tapUnderrun sl scaler => Sys2Proof.Machine.execTapUnderrun sl scaler s
  | .engineWatchdog sl => Sys2Proof.Machine.execEngineWatchdog sl s
  | .engineLoad sl => Sys2Proof.Machine.execEngineLoad sl s
  | .engineRestartRequest sl => Sys2Proof.Machine.execEngineRestartRequest sl s
  | .engineCounterClear sl => Sys2Proof.Machine.execEngineCounterClear sl s
  | .engmdataRead path sl => Sys2Proof.Machine.execEngmdataRead path sl s
  | .nrCounterClear sl => Sys2Proof.Machine.execNrCounterClear sl s
  | .outputCounterClear sl k => Sys2Proof.Machine.execOutputCounterClear sl k s
  | .statsCounterClear sl => Sys2Proof.Machine.execStatsCounterClear sl s
  | .readlateClear sl => Sys2Proof.Machine.execReadlateClear sl s
  | .uplCredit crumbs peer => Sys2Proof.Machine.execUplCredit crumbs s peer
  | .uplCreditInit crumbs peer => Sys2Proof.Machine.execUplCreditInit crumbs s peer
  | .uplCreditNak crumbs peer => Sys2Proof.Machine.execUplCreditNak crumbs s peer
  | .uplInitRepeat peer => Sys2Proof.Machine.execUplInitRepeat s peer
  | .uplInitTimeout peer => Sys2Proof.Machine.execUplInitTimeout s peer
  | .uplNakResend peer => Sys2Proof.Machine.execUplNakResend s peer
  | .uplAckTimer peer => Sys2Proof.Machine.execUplAckTimer s peer
  | .uplReplayTimeout peer => Sys2Proof.Machine.execUplReplayTimeout s peer
  | .uplAckStallReinit peer => Sys2Proof.Machine.execUplAckStallReinit s peer
  | .uplinkPacketReceive crumbs peer => Sys2Proof.Machine.execUplinkPacketReceive crumbs s peer
  | .uplinkPacketTransmit => Sys2Proof.Machine.execUplinkPacketTransmit s
  | .injectTxCrc => Sys2Proof.Machine.execInjectTxCrc s
  | .injectRxDrop => Sys2Proof.Machine.execInjectRxDrop s
  | .brgRead fast => Sys2Proof.Machine.execBrgRead fast s
  | .brgFastwinExpiry tag => Sys2Proof.Machine.execBrgFastwinExpiry tag s
  | .brgDelayedReadDone tag => Sys2Proof.Machine.execBrgDelayedReadDone tag s
  | .brgDelayedReadDiscard tag => Sys2Proof.Machine.execBrgDelayedReadDiscard tag s
  | .brgWrite => Sys2Proof.Machine.execBrgWrite s
  | .brgLread => Sys2Proof.Machine.execBrgLread s
  | .brgLwrite => Sys2Proof.Machine.execBrgLwrite s
  | .brgLrelease => Sys2Proof.Machine.execBrgLrelease s
  | .brgLockTimeout port => Sys2Proof.Machine.execBrgLockTimeout port s
  | .pwerrClear => Sys2Proof.Machine.execPwerrClear s
  | .interruptUnmask mask => Sys2Proof.Machine.execInterruptUnmask mask s
  | .bridgeCounterClear => Sys2Proof.Machine.execBridgeCounterClear s
  | .intmsgSend => Sys2Proof.Machine.execIntmsgSend s
  | .canTx => Sys2Proof.Machine.execCanTx s
  | .twReq => Sys2Proof.Machine.execTwReq s
  | .hmReq => Sys2Proof.Machine.execHmReq s
  | .compatSwitch => Sys2Proof.Machine.execCompatSwitch s
  | .doorbell ch v byI2c => Sys2Proof.Machine.execDoorbell ch v byI2c s
  | .responseConsume ch v => Sys2Proof.Machine.execResponseConsume ch v s
  | .channelReset ch => Sys2Proof.Machine.execChannelReset ch s
  | .channelResetDone ch => Sys2Proof.Machine.execChannelResetDone ch s
  | .mailboxEntryAccept => Sys2Proof.Machine.execMailboxEntryAccept s
  | .sysNop ch => Sys2Proof.Machine.execSysNop ch s
  | .sysHello ch => Sys2Proof.Machine.execSysHello ch s
  | .sysInfo ch => Sys2Proof.Machine.execSysInfo ch s
  | .sysSetMode ch => Sys2Proof.Machine.execSysSetMode ch s
  | .sysGetMode ch => Sys2Proof.Machine.execSysGetMode ch s
  | .sysPriority ch => Sys2Proof.Machine.execSysPriority ch s
  | .sysCompat ch => Sys2Proof.Machine.execSysCompat ch s
  | .portStatus ch => Sys2Proof.Machine.execPortStatus ch s
  | .portRetrain ch => Sys2Proof.Machine.execPortRetrain ch s
  | .portAuth ch => Sys2Proof.Machine.execPortAuth ch s
  | .portCounters ch => Sys2Proof.Machine.execPortCounters ch s
  | .headLedger ch => Sys2Proof.Machine.execHeadLedger ch s
  | .headLensReset ch => Sys2Proof.Machine.execHeadLensReset ch s
  | .headReauth ch => Sys2Proof.Machine.execHeadReauth ch s
  | .headPoll ch => Sys2Proof.Machine.execHeadPoll ch s
  | .sliceStatus ch => Sys2Proof.Machine.execSliceStatus ch s
  | .slicePqput ch => Sys2Proof.Machine.execSlicePqput ch s
  | .sliceTrace ch => Sys2Proof.Machine.execSliceTrace ch s
  | .sliceRestart ch => Sys2Proof.Machine.execSliceRestart ch s
  | .sliceProving ch => Sys2Proof.Machine.execSliceProving ch s
  | .streamStatus ch => Sys2Proof.Machine.execStreamStatus ch s
  | .streamList ch => Sys2Proof.Machine.execStreamList ch s
  | .latStatus ch => Sys2Proof.Machine.execLatStatus ch s
  | .statRead ch => Sys2Proof.Machine.execStatRead ch s
  | .statLoad ch => Sys2Proof.Machine.execStatLoad ch s
  | .cfgStage ch => Sys2Proof.Machine.execCfgStage ch s
  | .cfgLoad ch => Sys2Proof.Machine.execCfgLoad ch s
  | .cfgEdit ch => Sys2Proof.Machine.execCfgEdit ch s
  | .cfgCopy ch => Sys2Proof.Machine.execCfgCopy ch s
  | .cfgCheck ch => Sys2Proof.Machine.execCfgCheck ch s
  | .cfgFlip ch => Sys2Proof.Machine.execCfgFlip ch s
  | .cfgCancel ch => Sys2Proof.Machine.execCfgCancel ch s
  | .cfgExport ch => Sys2Proof.Machine.execCfgExport ch s
  | .cfgStatus ch => Sys2Proof.Machine.execCfgStatus ch s
  | .flipEpochReached => Sys2Proof.Machine.execFlipEpochReached s
  | .reservationRelease kind inst => Sys2Proof.Machine.execReservationRelease kind inst s
  | .pairStatus ch => Sys2Proof.Machine.execPairStatus ch s
  | .pairRoles ch => Sys2Proof.Machine.execPairRoles ch s
  | .timeGet ch => Sys2Proof.Machine.execTimeGet ch s
  | .timeSet ch => Sys2Proof.Machine.execTimeSet ch s
  | .timeStep ch => Sys2Proof.Machine.execTimeStep ch s
  | .timeDiscipline ch => Sys2Proof.Machine.execTimeDiscipline ch s
  | .timeClrcnt ch => Sys2Proof.Machine.execTimeClrcnt ch s
  | .timeSync ch => Sys2Proof.Machine.execTimeSync ch s
  | .timeCapture ch => Sys2Proof.Machine.execTimeCapture ch s
  | .canStatus ch => Sys2Proof.Machine.execCanStatus ch s
  | .canConfig ch => Sys2Proof.Machine.execCanConfig ch s
  | .canFilter ch => Sys2Proof.Machine.execCanFilter ch s
  | .canWake ch => Sys2Proof.Machine.execCanWake ch s
  | .canVehicle ch => Sys2Proof.Machine.execCanVehicle ch s
  | .faultRead ch => Sys2Proof.Machine.execFaultRead ch s
  | .faultClear ch => Sys2Proof.Machine.execFaultClear ch s
  | .faultCounters ch => Sys2Proof.Machine.execFaultCounters ch s
  | .faultPinmask ch => Sys2Proof.Machine.execFaultPinmask ch s
  | .faultDump ch => Sys2Proof.Machine.execFaultDump ch s
  | .updStage ch => Sys2Proof.Machine.execUpdStage ch s
  | .updFlash ch => Sys2Proof.Machine.execUpdFlash ch s
  | .updCpxSwitch ch => Sys2Proof.Machine.execUpdCpxSwitch ch s
  | .cpxSwitchTimeout => Sys2Proof.Machine.execCpxSwitchTimeout s
  | .updProgAdd ch => Sys2Proof.Machine.execUpdProgAdd ch s
  | .updProgRemove ch => Sys2Proof.Machine.execUpdProgRemove ch s
  | .updHeadFw ch => Sys2Proof.Machine.execUpdHeadFw ch s
  | .svcChallenge ch => Sys2Proof.Machine.execSvcChallenge ch s
  | .svcAuthR ch => Sys2Proof.Machine.execSvcAuthR ch s
  | .svcAuthS ch => Sys2Proof.Machine.execSvcAuthS ch s
  | .svcBist ch => Sys2Proof.Machine.execSvcBist ch s
  | .svcFuse ch => Sys2Proof.Machine.execSvcFuse ch s
  | .peerBeat crumbs good => Sys2Proof.Machine.execPeerBeat crumbs good s
  | .peerBeatSend => Sys2Proof.Machine.execPeerBeatSend s
  | .peerBeatMiss => Sys2Proof.Machine.execPeerBeatMiss s
  | .peerMirror crumbs => Sys2Proof.Machine.execPeerMirror crumbs s
  | .peerDone crumbs => Sys2Proof.Machine.execPeerDone crumbs s
  | .peerLatmir crumbs => Sys2Proof.Machine.execPeerLatmir crumbs s
  | .peerJoinReq crumbs => Sys2Proof.Machine.execPeerJoinReq crumbs s
  | .peerJoinAck crumbs => Sys2Proof.Machine.execPeerJoinAck crumbs s
  | .peerJoinNak crumbs => Sys2Proof.Machine.execPeerJoinNak crumbs s
  | .peerJoinTimeout => Sys2Proof.Machine.execPeerJoinTimeout s
  | .peerLeave crumbs => Sys2Proof.Machine.execPeerLeave crumbs s
  | .peerHandover crumbs => Sys2Proof.Machine.execPeerHandover crumbs s
  | .peerHandoverAck crumbs => Sys2Proof.Machine.execPeerHandoverAck crumbs s
  | .peerFlipPropose crumbs => Sys2Proof.Machine.execPeerFlipPropose crumbs s
  | .peerFlipAnswer crumbs => Sys2Proof.Machine.execPeerFlipAnswer crumbs s
  | .peerFlipAnswerTimeout => Sys2Proof.Machine.execPeerFlipAnswerTimeout s
  | .peerFlipEpoch crumbs => Sys2Proof.Machine.execPeerFlipEpoch crumbs s
  | .peerFlipDone crumbs => Sys2Proof.Machine.execPeerFlipDone crumbs s
  | .peerResync crumbs => Sys2Proof.Machine.execPeerResync crumbs s
  | .peerDigest crumbs => Sys2Proof.Machine.execPeerDigest crumbs s
  | .peerPortinfo crumbs => Sys2Proof.Machine.execPeerPortinfo crumbs s
  | .peerUnknown crumbs => Sys2Proof.Machine.execPeerUnknown crumbs s
  | .ringReadFrame port => Sys2Proof.Machine.execRingReadFrame port s
  | .provingWindowStart => Sys2Proof.Machine.execProvingWindowStart s
  | .sliceDrained sl => Sys2Proof.Machine.execSliceDrained sl s
  | .bistSegmentDone sl good misr => Sys2Proof.Machine.execBistSegmentDone sl good misr s
  | .bistSegmentTimeout sl misr => Sys2Proof.Machine.execBistSegmentTimeout sl misr s
  | .memoryBistDone sl rows again => Sys2Proof.Machine.execMemoryBistDone sl rows again s
  | .provingWindowAbort sl => Sys2Proof.Machine.execProvingWindowAbort sl s
  | .sliceResetDone sl => Sys2Proof.Machine.execSliceResetDone sl s
  | .rotationCoverage sl => Sys2Proof.Machine.execRotationCoverage sl s
  | .rotationCounterClear => Sys2Proof.Machine.execRotationCounterClear s
  | .faultRecordWrite => Sys2Proof.Machine.execFaultRecordWrite s
  | .keeperMarkRead karg => Sys2Proof.Machine.execKeeperMarkRead karg s
  | .keeperClearRecord karg => Sys2Proof.Machine.execKeeperClearRecord karg s
  | .keeperForceUplinkIdle karg => Sys2Proof.Machine.execKeeperForceUplinkIdle karg s
  | .keeperReleaseUplink karg => Sys2Proof.Machine.execKeeperReleaseUplink karg s
  | .keeperResetDomains karg => Sys2Proof.Machine.execKeeperResetDomains karg s
  | .keeperResetDevice karg => Sys2Proof.Machine.execKeeperResetDevice karg s
  | .keeperEnterSafe karg => Sys2Proof.Machine.execKeeperEnterSafe karg s
  | .keeperSetPinmask karg => Sys2Proof.Machine.execKeeperSetPinmask karg s
  | .keeperCommandRefused code karg => Sys2Proof.Machine.execKeeperCommandRefused code karg s
  | .heartbeatWrite count => Sys2Proof.Machine.execHeartbeatWrite count s
  | .cpxHeartbeatLost => Sys2Proof.Machine.execCpxHeartbeatLost s
  | .lockstepMismatch pairB => Sys2Proof.Machine.execLockstepMismatch pairB s
  | .dmaGo ch => Sys2Proof.Machine.execDmaGo ch s
  | .dmaAbort ch => Sys2Proof.Machine.execDmaAbort ch s
  | .dmaMove ch => Sys2Proof.Machine.execDmaMove ch s
  | .dmaBurst ch => Sys2Proof.Machine.execDmaBurst ch s
  | .dmaLoop ch => Sys2Proof.Machine.execDmaLoop ch s
  | .dmaNest3 ch => Sys2Proof.Machine.execDmaNest3 ch s
  | .dmaWait ch => Sys2Proof.Machine.execDmaWait ch s
  | .dmaWaitTime ch => Sys2Proof.Machine.execDmaWaitTime ch s
  | .dmaWaitTimeout ch => Sys2Proof.Machine.execDmaWaitTimeout ch s
  | .dmaSignal ch => Sys2Proof.Machine.execDmaSignal ch s
  | .dmaEnd ch => Sys2Proof.Machine.execDmaEnd ch s
  | .dmaEvset n mask => Sys2Proof.Machine.execDmaEvset n mask s
  | .dmaEvclr n mask => Sys2Proof.Machine.execDmaEvclr n mask s
  | .dmaCounterClear => Sys2Proof.Machine.execDmaCounterClear s
  | .canFrameReceive ctrl time id dlc flags data => Sys2Proof.Machine.execCanFrameReceive ctrl time id dlc flags data s
  | .canTxDone ctrl ok time tec rec_ => Sys2Proof.Machine.execCanTxDone ctrl ok time tec rec_ s
  | .canTxLifetime ctrl => Sys2Proof.Machine.execCanTxLifetime ctrl s
  | .busOffRecovery ctrl => Sys2Proof.Machine.execBusOffRecovery ctrl s
  | .canConfigApply ctrl => Sys2Proof.Machine.execCanConfigApply ctrl s
  | .canWakeDetect ctrl id dlc data => Sys2Proof.Machine.execCanWakeDetect ctrl id dlc data s
  | .canCounterClear ctrl => Sys2Proof.Machine.execCanCounterClear ctrl s
  | .i2caPointerSet addr bytes => Sys2Proof.Machine.execI2caPointerSet addr bytes s
  | .i2caWrite addr p data => Sys2Proof.Machine.execI2caWrite addr p data s
  | .i2caRead addr n => Sys2Proof.Machine.execI2caRead addr n s
  | .i2caWakeMatch addr => Sys2Proof.Machine.execI2caWakeMatch addr s
  | .i2caStretchTimeout addr => Sys2Proof.Machine.execI2caStretchTimeout addr s
  | .keeperOffsetSet kpr off => Sys2Proof.Machine.execKeeperOffsetSet kpr off s
  | .keeperWrite kpr off data => Sys2Proof.Machine.execKeeperWrite kpr off data s
  | .keeperRead kpr n => Sys2Proof.Machine.execKeeperRead kpr n s
  | .i2caCounterClear => Sys2Proof.Machine.execI2caCounterClear s
  | .i2cbGo low freed => Sys2Proof.Machine.execI2cbGo low freed s
  | .i2cbTransactionDone code ndone data freed => Sys2Proof.Machine.execI2cbTransactionDone code ndone data freed s
  | .i2cbTimeout freed => Sys2Proof.Machine.execI2cbTimeout freed s
  | .clrstuck freed => Sys2Proof.Machine.execClrstuck freed s
  | .i2cbCounterClear => Sys2Proof.Machine.execI2cbCounterClear s
  | .sramEccRead addr double sid => Sys2Proof.Machine.execSramEccRead addr double sid s
  | .sramScrub addr double => Sys2Proof.Machine.execSramScrub addr double s
  | .lpddrEccRead addr err by_ => Sys2Proof.Machine.execLpddrEccRead addr err by_ s
  | .lpddrPatrolScrub addr double => Sys2Proof.Machine.execLpddrPatrolScrub addr double s
  | .lpddrChannelFail channel => Sys2Proof.Machine.execLpddrChannelFail channel s
  | .zeroFillBlock => Sys2Proof.Machine.execZeroFillBlock s
  | .fillOnWrite addr => Sys2Proof.Machine.execFillOnWrite addr s
  | .erraddrClear => Sys2Proof.Machine.execErraddrClear s
  | .memcCounterClear => Sys2Proof.Machine.execMemcCounterClear s
  | .secSelfTestFail test => Sys2Proof.Machine.execSecSelfTestFail test s
  | .rootPllUnlock => Sys2Proof.Machine.execRootPllUnlock s
  | .pllLockRetry locked => Sys2Proof.Machine.execPllLockRetry locked s
  | .supplyFault rail mv => Sys2Proof.Machine.execSupplyFault rail mv s
  | .thermalConversion sensor reading => Sys2Proof.Machine.execThermalConversion sensor reading s
  | .throttleStepUp => Sys2Proof.Machine.execThrottleStepUp s
  | .throttleStepDown => Sys2Proof.Machine.execThrottleStepDown s
  | .criticalTemperature sensor => Sys2Proof.Machine.execCriticalTemperature sensor s
  | .snapshotRead path reg => Sys2Proof.Machine.execSnapshotRead path reg s
  | .rclrRead path reg => Sys2Proof.Machine.execRclrRead path reg s
  | .registerWrite host reg value => Sys2Proof.Machine.execRegisterWrite host reg value s
  | .keeperPowerUp => Sys2Proof.Machine.execKeeperPowerUp s
  | .keeperPowerLoss => Sys2Proof.Machine.execKeeperPowerLoss s
  | .resetNAssert => Sys2Proof.Machine.execResetNAssert s
  | .railBackInWindow rail mv => Sys2Proof.Machine.execRailBackInWindow rail mv s
  | .laneLockTimeout link back => Sys2Proof.Machine.execLaneLockTimeout link s back
  | .canBusError ctrl tec rec_ => Sys2Proof.Machine.execCanBusError ctrl tec rec_ s
  | .tapLineAvailable sl scaler fn line => Sys2Proof.Machine.execTapLineAvailable sl scaler fn line s
  | .outputLineReady sl k => Sys2Proof.Machine.execOutputLineReady sl k s
  | .newPairReady => Sys2Proof.Machine.execNewPairReady s
  | .finalResponse ch opcode tag readback results => Sys2Proof.Machine.execFinalResponse ch opcode tag readback results s

end Sys2Proof.Machine
end

