-- ==== Sys2Proof/Safety.lean ====
section
/-!
DEFINITION. What counts as a safe run of the block: memory in its canonical form, poison on whole words, the queue its own,
and fuses that never go back.
-/
namespace Sys2Proof.Machine

/-- A step that stops neither with a fault nor with a refusal. -/
def Goes (o : Host.Outcome State Fault Refusal) : Prop := ∃ t, o = .next t

/-- The memory of a state is as R607, R614 and R616 have it: in its canonical form, with poison on whole 64-bit words, each
listed once. -/
def State.memoryGood (s : State) : Prop :=
  Memory.wf s.mem = true ∧ (∀ w ∈ s.memx.poison, w % 8 = 0) ∧ s.memx.poison.Nodup

/-- The fuses of a later state hold every fuse of an earlier one (R626): revocations and security versions only grow, and a slice
or a row that is fused stays fused. -/
def Fuses.le (a b : Fuses) : Prop :=
  a.rootRev &&& b.rootRev = a.rootRev ∧ a.fwSvn ≤ b.fwSvn ∧ a.kbSvn ≤ b.kbSvn ∧ (∀ x ∈ a.retired, x ∈ b.retired)
    ∧ ∀ x ∈ a.repairs, x ∈ b.repairs

/-- The security versions fit their 64 fuses (R626). -/
def Fuses.fit (f : Fuses) : Prop := f.fwSvn ≤ 64 ∧ f.kbSvn ≤ 64

/-- What every command keeps from a state to the next: the queue, the form of memory, and the fuses. -/
structure Keeps (s t : State) : Prop where
  queue : t.pending = s.pending
  memory : s.memoryGood → t.memoryGood
  fuses : s.blown.le t.blown
  fit : s.blown.fit → t.blown.fit

/-- The invariant of the block. -/
def State.Inv (s : State) : Prop := s.memoryGood ∧ s.blown.fit

/-- A run of n steps that never stops. -/
def Safe (s : State) : Nat → Prop
  | 0 => True
  | n + 1 => ∃ t, step s = .next t ∧ Safe t n

/-! ## Slice engines -/

/-- The engine of a slice issues the instruction at its PC: it runs, the PC lies below CODELEN / 4, and the word there is not
poisoned (R344, R358, R367). -/
def State.fetches (s : State) (sl : Slice) : Prop :=
  s.engReady sl = true ∧ s.engPc sl < (s.eng sl).codeLen / 4 ∧ s.poisoned (engCodeBase sl + 4 * s.engPc sl) 4 = false

/-- It issues the instruction at its PC, and code memory does not end after that instruction (log entry 207). -/
def State.issues (s : State) (sl : Slice) : Prop := s.fetches sl ∧ (nextIndex (s.engPc sl) (s.eng sl).loop).1 < 8192

/-- The state after an instruction that goes on at the next index: the engine as given, its loop registers moved on, its busy
cycles counted, and the PC (R341, R344, R367). -/
def State.wentOn (s : State) (sl : Slice) (cycles : Nat) (e : Eng) : State :=
  (s.setEng sl { e with loop := (nextIndex (s.engPc sl) e.loop).2, busy := e.busy + cycles }).setFld (SL.ENGPC_PC sl)
    (nextIndex (s.engPc sl) e.loop).1

/-- The state after a jump to an index (R344). -/
def State.jumped (s : State) (sl : Slice) (e : Eng) (t : Nat) : State :=
  (s.setEng sl { e with loop := afterJump t e.loop, busy := e.busy + 2 }).setFld (SL.ENGPC_PC sl) t

end Sys2Proof.Machine
end

