-- ==== Sys2Proof/Certificates/Slice0/Obligations.lean ====
section
/-!
DEFINITION. The statements about the block: what its commands do, family by family, what they leave alone, and the invariants that
every step keeps. `Out` is the outcome of a command.
-/
section
open Sys2Proof Sys2Proof.Machine

/-! ## The whole block -/

/-- A step runs the command at the front of the queue with the queue's rest; on an empty queue only the time goes on and links leave
FALLBACK (log entries 30, 188): the TSU counter adds INC, and the HOLDOVER that this brings due begins, or, while the TSU stands
still, the keeper's shadow advances by 40 ns. -/
def Obligations.StepOfQueue : Prop :=
  (∀ (c : Instr) (rest : List Instr) (s : State), s.pending = c :: rest → step s = exec c { s with pending := rest })
  ∧ (∀ s : State, s.pending = [] → step s = .next s.idle)
  ∧ (∀ s : State, s.pending = [] → s.links = [] → s.tsu.running = true →
      let u := { s with tsu := { s.tsu with now := (s.tsu.now + s.fld TSU.INC_INC) % 2 ^ 92 } }
      step s = .next (u.holdDue u.now))
  ∧ ∀ s : State, s.pending = [] → s.links = [] → s.tsu.running = false → s.sys.vio = true →
      step s = .next { s with keeper := { s.keeper with shadow := (s.keeper.shadow + 40) % 2 ^ 64 } }

/-- R62, R550, R645: right after reset the block is in BOOT with FAULT_N low, no fuse is blown in the model, no memory is listed,
the invariant holds, and nothing waits. -/
def Obligations.ResetState : Prop :=
  State.reset.Inv ∧ State.reset.mode = .boot ∧ State.reset.fld FCU.PINSTAT_ASSERTED = 1 ∧ State.reset.fld FCU.PINSTAT_BOOTHOLD = 1
  ∧ State.reset.fld FCU.LOGWR_LAST = 0x3DF ∧ State.reset.fld FCU.PINMASK_MASK = 6 ∧ State.reset.mem = [] ∧ State.reset.keeper.log = []
  ∧ State.reset.pending = []

/-- Every step keeps the invariant: memory in its canonical form, poison on whole 64-bit words, each listed once (R607, R614,
R616), and security versions of at most 64 fuses (R626, R631). -/
def Obligations.StepKeepsInvariant : Prop := ∀ s t : State, s.Inv → step s = .next t → t.Inv

/-- Every command completes in every state, and leaves the queue of the commands that wait as it is. -/
def Obligations.EveryCommandCompletes : Prop := ∀ (c : Instr) (s : State), ∃ t, exec c s = .next t ∧ t.pending = s.pending

/-- R524, R626, R631: over a run of any length no fuse goes back: a root that is revoked, a security version, a retirement and a
row repair that is fused stay. -/
def Obligations.FusesNeverGoBack : Prop := ∀ (n : Nat) (s t : State), s.blown.fit → core.run n s = .next t → s.blown.le t.blown ∧ t.blown.fit

/-! ## Power, boot, modes, clocks -/

/-- R39, R45, R62, R646: the power and reset pins. PWRGOOD_RISING, RESET_N_ASSERT, RESET_N_RELEASE, PWRGOOD_FALLING,
KEEPER_POWER_LOSS and KEEPER_POWER_UP each answer a next state. A rising PWRGOOD and an asserted RESET_N enter BOOT with causes
0x00 and 0x01; both leave memory of the keeper region alone and clear all other; a falling PWRGOOD clears the same and holds
BOOT. R643, R645, R657: the keeper's supply. Without it nothing is kept but the fuses and the flash; with it the keeper starts
from the values that State.reset gives. -/
def Obligations.PowerAndSupply : Prop :=
  (∀ s : State,
        (s.sys.vio = true → s.sys.pwrgood = false → ∃ t, exec .pwrgoodRising s = .next t ∧ t.mode = .boot ∧ t.fld GLB.MODE_CAUSE = 0
          ∧ t.sys.pwrgood = true ∧ ∀ a, inKeeperRegion a = false → Memory.get t.mem a = Memory.get [] a)
        ∧ (s.sys.pwrgood = true → s.sys.resetLow = false → ∃ t, exec .resetNAssert s = .next t ∧ t.mode = .boot ∧ t.fld GLB.MODE_CAUSE = 1
          ∧ t.sys.resetLow = true ∧ ∀ a, inKeeperRegion a = false → Memory.get t.mem a = Memory.get [] a)
        ∧ exec .resetNRelease s = .next { s with sys := { s.sys with resetLow := false } }
        ∧ (s.sys.pwrgood = true → ∃ t, exec .pwrgoodFalling s = .next t ∧ t.sys.pwrgood = false ∧ t.fld FCU.PINSTAT_BOOTHOLD = 1
          ∧ ∀ a, Memory.get t.mem a = if inKeeperRegion a then Memory.get s.mem a else Memory.get [] a))
  ∧ (∀ s : State,
        (∃ t, exec .keeperPowerLoss s = .next t ∧ t.sys.vio = false ∧ t.keeper = {} ∧ t.mem = [] ∧ t.blown = s.blown
          ∧ t.sys.flash = s.sys.flash ∧ ∀ a, t.reg a = State.reset.reg a)
        ∧ (s.sys.vio = false → ∃ t, exec .keeperPowerUp s = .next t ∧ t.sys.vio = State.reset.sys.vio ∧ t.keeper = {} ∧ t.mem = []
          ∧ t.blown = s.blown ∧ t.sys.flash = s.sys.flash ∧ ∀ a, t.reg a = State.reset.reg a))

/-- R62, R145, R51, R52: ROOT_PLL_LOCK, PLL_LOCK_RETRY and STRAP_SAMPLING each answer a next state: the root PLL locks and the clocks
start; the straps are sampled, each by its two samples, and an indeterminate one is reported and takes its default; pair A starts
the ROM, or SAFE follows where no flash is read. R56 to R63, R630, R633: BOOT_IMAGE_LOADED answers a next state for every image in
the slot that is due: an image that verifies starts Sirfiqua on the pair whose lockstep check passes, pair B after pair A, and
GLB.MODE shows the slot, a fallback and a slow flash; an image that fails is recorded, and SAFE follows after the last slot. -/
def Obligations.BootResults : Prop :=
  (∀ (s : State) (bu bd tu td : BitVec 2) (pu pd : Bool),
        (s.alive = true → s.mode = .boot → s.sys.stage = .idle → s.sys.resample = true → ∃ t, exec .rootPllLock s = .next t
          ∧ t.sys.stage = .clocks ∧ t.tsu.running = true ∧ t.fld CLK.CLKSTAT_ROOTLOCK = 1 ∧ t.fld TSU.DSTAT_STATE = tuUnset
          ∧ t.fld TSU.DSTAT_TIMEVALID = 0)
        ∧ (s.alive = true → s.mode = .boot → s.sys.stage = .idle → s.sys.resample = false → exec .rootPllLock s = .next s.clocksStart)
        ∧ (s.alive = true → s.mode = .boot → s.sys.stage = .idle → s.sys.gated = false →
            exec (.pllLockRetry true) s = .next s.clocksStart)
        ∧ (s.sys.stage = .clocks →
            let w := packArg [(2, bu.toNat), (2, bd.toNat), (2, if bu = bd then bu.toNat else 0), (1, b2n pu), (1, b2n pd),
              (2, if pu = pd then b2n pu else 2), (2, tu.toNat), (2, td.toNat), (2, if tu = td then tu.toNat else 0),
              (1, if bu = bd then 0 else 1), (1, if pu = pd then 0 else 1), (1, if tu = td then 0 else 1)]
            let u := (s.setReg KPR.STRAPS (BitVec.ofNat 32 w)).railsShown
            let v := if bu = bd then u else u.report 0x0101 0 w
            let x := if pu = pd then v else v.report 0x0101 0 w
            let y := if tu = td then x else x.report 0x0101 0 w
            exec (.strapSampling bu bd pu pd tu td) s = .next y.romStart))
  ∧ (∀ (s : State) (slotB octal ok freed : Bool) (image : List Byte) (test : Fin 4),
        let slot := b2n slotB
        let h := bytesAt image 0 4096
        let good := headerGood h 1 = true ∧ revokesOwn s.fuses.rootRev h = false
        let asks := bit (fieldAt image 6 2) 0
        let u := s.pokeLong 0x14780000 (if good then image else image.take 4096)
        let v := if good ∧ asks = true ∧ octal = false then { u with sys := { u.sys with bootWdog := 8000 } }.report 0x0103 0 slot else u
        let failed := { v with sys := { v.sys with failed := slot :: v.sys.failed } }.report 0x0102 0 slot
        let runs := (v.setFlds [(GLB.MODE_BOOTSLOT, slot + 1), (GLB.MODE_FALLBACK, b2n (v.sys.failed != [])),
          (GLB.MODE_SLOWFLASH, if asks = true ∧ octal = true then 0 else 1)])
        s.mode = .boot → s.sys.stage = .straps → (s.slotOrder.filter fun x => !s.sys.failed.contains x).head? = some slot →
        s.sys.pairA = .rom ∨ s.sys.pairB = .rom →
        (test ≠ 0 → exec (.bootImageLoaded slotB octal image test ok freed) s =
          .next ({ s with sys := { s.sys with secDead := true } }.raiseF 0x6001 0 test.val))
        ∧ (verifyImage v.fuses.rootRev (some v.fuses.fwSvn) 1 image = 0 →
          (ok = true → v.sys.pairA = .rom → exec (.bootImageLoaded slotB octal image 0 ok freed) s = .next (runs.sirfiqua slot image 0 freed))
          ∧ (ok = true → v.sys.pairA ≠ .rom → exec (.bootImageLoaded slotB octal image 0 ok freed) s = .next (runs.sirfiqua slot image 1 freed))
          ∧ (ok = false → v.sys.pairA = .rom →
            let y := (v.setFld KPR.DOMST_CPXHOLDA 1).report 0x0602 0 0
            exec (.bootImageLoaded slotB octal image 0 ok freed) s =
              .next { y with sys := { y.sys with pairA := .held, pairB := .rom, failed := [] } })
          ∧ (ok = false → v.sys.pairA ≠ .rom →
            let y := (v.setFld KPR.DOMST_CPXHOLDB 1).report 0x0601 1 0
            exec (.bootImageLoaded slotB octal image 0 ok freed) s = .next { y with sys := { y.sys with pairB := .held } }))
        ∧ (verifyImage v.fuses.rootRev (some v.fuses.fwSvn) 1 image ≠ 0 →
          exec (.bootImageLoaded slotB octal image 0 ok freed) s =
            .next (if failed.slotOrder.all failed.sys.failed.contains then failed.enterSafe 4 else failed)))

/-- R62, R64, R39, R60, R544: BOOT_END, BOOT_WATCHDOG_EXPIRY, KPR_SAFE_N_REQUEST and WAKE_PEND_CLEAR each answer a next state: BOOT ends
in PREPARE with cause 0x10 and FAULT_N released; the boot watchdog and KPR_SAFE_N request SAFE. R38, R39, R43, R44, R446:
MODE_TRANSITION_COMPLETE answers a next state for every transition: once nothing is being delivered the mode is entered and the
command that asked for it is answered; an exit that still delivers frames goes on. R105, R636, R680, R681: TAP_INSTRUCTION_UPDATE
answers a next state for every instruction: a boundary test takes the pins, a private one zeroises. -/
def Obligations.ModeResults : Prop :=
  (∀ s : State,
        (s.mode = .boot → s.sys.stage = .sirfiqua → s.alive = true →
          let u := { s with sys := { s.sys with stage := .ended } }.openWindow0
          exec .bootEnd s = .next (((u.changeMode .prepare 0x10).copyParts.setFld FCU.PINSTAT_BOOTHOLD 0).driveFaultN))
        ∧ (s.mode = .boot → s.alive = true → s.sys.stage ≠ .idle → ¬(s.sys.pairA = .held ∧ s.sys.pairB = .held) →
          exec .bootWatchdogExpiry s = .next (s.enterSafe 5))
        ∧ (s.sys.pwrgood = true → s.sys.resetLow = false → exec .kprSafeNRequest s = .next (s.keeperSafe 7))
        ∧ (s.domainOn .fabric = true → exec .wakePendClear s = .next (s.setFld GLB.WAKE_PEND 0)))
  ∧ (∀ (s : State) (t : Trans), s.sys.trans = some t →
        (t.target = .boot → exec .modeTransitionComplete s = .next (s.enterBoot t.cause false))
        ∧ (t.target = .run → s.mode = .prepare → exec .modeTransitionComplete s = .next (s.endTrans t))
        ∧ (t.target = .prepare → s.mode = .standby → exec .modeTransitionComplete s = .next (s.transDone t))
        ∧ (t.target = .prepare → s.mode ≠ .standby → s.pair.purpose ≠ 3 → s.delivering = false →
          exec .modeTransitionComplete s = .next ((s.stopStreams.endRuns .prepare).transDone t))
        ∧ (t.target = .standby → s.delivering = false → exec .modeTransitionComplete s = .next (s.standbyDone t))
        ∧ (t.target = .safe → s.delivering = false → exec .modeTransitionComplete s =
          .next ((((s.stopStreams.endRuns .safe).dmaAbortAll s.dma).transDone t).report 0x0104 0 t.cause))
        ∧ (t.target = .standby ∨ t.target = .safe ∨ t.target = .prepare ∧ s.mode ≠ .standby → s.delivering = true →
          exec .modeTransitionComplete s = .next s)
        ∧ (t.target = .service → exec .modeTransitionComplete s = .next ((s.zeroise 1 false).transDone t)))
  ∧ (∀ (s : State) (levels tdi : List Bool), s.sys.pwrgood = true →
        let set := fun (u : State) (tap : Tap) => { u with sys := { u.sys with tap := tap } }
        (∀ tap scan, tap = .extest ∨ tap = .extestPulse ∨ tap = .extestTrain ∨ tap = .clamp ∨ tap = .highz →
          let u := match scan with
            | some x => s.scan x.1 x.2
            | none => s
          exec (.tapInstructionUpdate tap scan) s = .next (set u tap).takePins)
        ∧ exec (.tapInstructionUpdate .intscan none) s = .next ((set s .intscan).tapPrivate 2)
        ∧ exec (.tapInstructionUpdate .cpxdbg none) s = .next ((set s .cpxdbg).tapPrivate 3)
        ∧ exec (.tapInstructionUpdate .sample none) s = .next (set s .sample)
        ∧ exec (.tapInstructionUpdate .bypass none) s = .next (set s .bypass)
        ∧ exec (.tapInstructionUpdate .reset none) s = .next (set s .bypass)
        ∧ (s.sys.tap = .sample → tdi.length ≤ 1364 → ∃ t,
          exec (.tapInstructionUpdate .bypass (some (levels, tdi))) s = .next t ∧ t.sys.tap = .bypass
            ∧ t.sys.scanOut = (s.capture levels).take tdi.length ∧ t.sys.cells = (s.capture levels).drop tdi.length ++ tdi))

/-- R641, R633, R647: ROOT_PLL_UNLOCK, SEC_SELF_TEST_FAIL, SUPPLY_FAULT and RAIL_BACK_IN_WINDOW each answer a next state: a PLL that
unlocks puts every domain but the keeper's in reset and the device in SAFE with cause 0x06, but in SAFE and SERVICE; a failed
self-test of SEC and a rail outside its window are F-class faults; a rail back in its window ends the episode. R648 to R651,
R653: THERMAL_CONVERSION, THROTTLE_STEP_UP, THROTTLE_STEP_DOWN and CRITICAL_TEMPERATURE each answer a next state: a conversion is
shown and counts; the third failure in a row makes it invalid; the throttle goes up one step after 10 ms at or above its
threshold, and down one after 1 s below it; a sensor that has been at 120 °C or more for 1 ms enters SAFE with cause 0x0F. -/
def Obligations.ClocksAndThermal : Prop :=
  (∀ (s : State) (test : Fin 4) (rail : Fin 8) (mv : BitVec 16),
        (s.alive = true → s.fld CLK.CLKSTAT_ROOTLOCK = 1 → ∃ t, exec .rootPllUnlock s = .next t
          ∧ (s.mode ≠ .safe → s.mode ≠ .service → t.mode = .safe ∧ t.fld GLB.MODE_CAUSE = 6)
          ∧ (s.mode = .safe ∨ s.mode = .service → t.mode = s.mode) ∧ t.sys.gated = true ∧ t.fld CLK.CLKSTAT_ROOTLOCK = 0
          ∧ ∀ a, Memory.get t.mem a = if a < 0x100000000 then Memory.get s.mem a else Memory.get [] a)
        ∧ (s.domainOn .fabric = true → s.sys.secDead = false → exec (.secSelfTestFail test) s =
            .next (({ s with sys := { s.sys with secDead := true } }.setFld SEC.SECSTAT_STOK 0).raiseF 0x6001 0 test.val))
        ∧ (s.sys.pwrgood = true → rail.val ∉ s.sys.railEp →
            let u := { s with sys := { s.sys with railEp := rail.val :: s.sys.railEp } }
            exec (.supplyFault rail mv) s = .next ((u.setFlds [(CLK.RAILMV_MV rail, mv.toNat),
              (CLK.RAILSTAT_INWIN, withBit (s.fld CLK.RAILSTAT_INWIN) rail false),
              (CLK.RAILSTAT_FAULTED, withBit (s.fld CLK.RAILSTAT_FAULTED) rail true)]).raiseF 0x0503 rail mv.toNat))
        ∧ (s.sys.pwrgood = true → rail.val ∈ s.sys.railEp →
            let u := { s with sys := { s.sys with railEp := s.sys.railEp.filter (· != rail.val) } }
            exec (.railBackInWindow rail mv) s = .next (u.setFlds [(CLK.RAILMV_MV rail, mv.toNat),
              (CLK.RAILSTAT_INWIN, withBit (s.fld CLK.RAILSTAT_INWIN) rail true)])))
  ∧ (∀ (s : State) (n : Fin 30) (v : BitVec 12),
        let hot := since s.sys.critAt n s.clock (decide (480 ≤ signed 12 v.toNat))
        (s.sensorRuns n = true →
          exec (.thermalConversion n (some v)) s =
            .next (({ s with sys := { s.sys with convFail := s.sys.convFail.drop n, critAt := hot } }.setFlds
              [(CLK.TS_TJ n, v.toNat), (CLK.TS_VALID n, 1)]).showTmax)
          ∧ (s.sys.convFail.get n 0 = 2 → exec (.thermalConversion n none) s =
            .next (({ s with sys := { s.sys with convFail := s.sys.convFail.set n 3 } }.setFld (CLK.TS_VALID n) 0).showTmax))
          ∧ (s.sys.convFail.get n 0 < 2 → exec (.thermalConversion n none) s =
            .next ({ s with sys := { s.sys with convFail := s.sys.convFail.set n (s.sys.convFail.get n 0 + 1) } }.showTmax)))
        ∧ (∀ x k, s.domainOn .fabric = true → s.fld CLK.THRSTAT_STEP = k → k < 4 → s.hottest = some x → ((420 + 12 * k : Nat) : Int) ≤ x.2 →
            s.sys.hotAt.has k = true → s.sys.hotAt.get k 0 + 10000000 ≤ s.clock →
            exec .throttleStepUp s = .next ((s.bump CLK.THRCNT_STEPUPS 1).throttleStep (k + 1)))
        ∧ (∀ x k, s.domainOn .fabric = true → s.fld CLK.THRSTAT_STEP = k + 1 → s.hottest = some x →
            x.2 < ((396 + 12 * (k + 1) : Nat) : Int) → s.sys.coolAt.has (k + 1) = true →
            s.sys.coolAt.get (k + 1) 0 + 1000000000 ≤ s.clock → exec .throttleStepDown s = .next (s.throttleStep k))
        ∧ (∀ w, s.tempOf n = some w → 480 ≤ w → s.sys.critAt.has n = true → s.sys.critAt.get n 0 + 1000000 ≤ s.clock →
            exec (.criticalTemperature n) s = .next ((s.report 0x0502 n (unsigned 64 (w / 4))).enterSafe 0x0F)))

/-! ## Links, heads, time -/

/-- R94, R103: LANE_LOS, LANE_LOS_RELEASE, LANE_LOL, LOSS_OF_ALIGNMENT and ALIGNMENT_MARKER each answer a next state for every lane the
device has: a lane event is counted and shown in LANEC0 and LANEC3, before what the failure of the lane does to its link. R80,
R81: a crumb that is no marker where none is expected changes nothing; a marker more than 64 crumbs apart from its group is
counted and fails the lane. R94, R95, R98: what a lane that fails does: alignment ends and a quad in training is abandoned; an
operating link asks the far end to drop the lane where degradation is allowed, else it goes back to DETECT, as does a training
link with no live lane left; a failed lane that is not in the active set changes nothing more. A FALLBACK that stands is left
first (log entry 188). -/
def Obligations.LaneResults : Prop :=
  (∀ (s : State) (l : Link) (k : Fin 16), s.domainOn (lkDomain l) = true → bit (rxPins l) k.val = true →
        let u := s.lkSettle l
        let y := (u.link l).lanes.get k.val {}
        (u.fld (LK.LANEC3_LOSNOW l k) = 0 →
          exec (.laneLos l k) s = .next (((u.bump (LK.LANEC0_LOS l k) 1).setFld (LK.LANEC3_LOSNOW l k) 1).laneFail l k))
        ∧ (u.fld (LK.LANEC3_LOSNOW l k) = 1 → exec (.laneLos l k) s = .next u)
        ∧ exec (.laneLosRelease l k) s = .next (((u.setFld (LK.LANEC3_LOSNOW l k) 0).lkTrainPort l).lkStart l)
        ∧ exec (.laneLol l k) s = .next ((u.bump (LK.LANEC0_LOL l k) 1).laneFail l k)
        ∧ exec (.lossOfAlignment l k) s = .next (u.laneFail l k)
        ∧ (u.rxMarked l k.val = true → lsLock ≤ u.lkState l →
          (∀ c skew stuffs, exec (.alignmentMarker l k c skew stuffs) s = .next (u.marker l k.val c skew.toNat stuffs.toNat))
          ∧ (∀ c skew, y.seq = none → markerGood c = false → markerGood (~~~c) = false →
            exec (.alignmentMarker l k c skew 0) s = .next u)
          ∧ (∀ c skew, y.seq = none → markerGood c = true → u.fld (LK.LANEC3_ALIGNED l k) = 0 →
            (u.link l).gseq = some (bitsOf c.toNat 39 32) → 64 < skew.toNat → exec (.alignmentMarker l k c skew 0) s =
              .next ((((u.setFld (LK.LANEC3_INV l k) 0).bump (LK.LANEC3_DSKW l k) 1).laneDwellError l k).laneFail l k))))
  ∧ (∀ (s : State) (l : Link) (k : Fin 16),
        let x := s.link l
        let y := x.lanes.get k.val {}
        let u := (s.setLink l { x with lanes := x.lanes.set k.val { y with seq := none, misses := 0 } }).setFld (LK.LANEC3_ALIGNED l k) 0
        let v := u.dropQuad l
        let z := v.link l
        let n := v.laneNo l k.val
        let active := bit (u.fld (LK.ACTRX_ACTRX l)) k.val = true
        (¬active → s.lkState l ≠ lsOper → s.lkState l ≠ lsHold → s.lkState l ≠ lsGo → s.laneFail l k = u)
        ∧ (s.lkState l = lsOper → bit (v.fld (LK.ACTRX_ACTRX l)) k.val = true →
          (v.mayDegrade l = false ∨ v.rxLeft l (n :: z.rsreq) = 0 → s.laneFail l k = v.lkDetect l)
          ∧ (v.mayDegrade l = true → v.rxLeft l (n :: z.rsreq) ≠ 0 → n ∉ z.rsreq → s.laneFail l k =
            v.setLink l { z with lanes := z.lanes.set k.val { z.lanes.get k.val {} with failed := true }, rsreq := z.rsreq ++ [n] }))
        ∧ (s.lkState l = lsDwell → active → s.laneFail l k = u.dwellError l)
        ∧ (s.lkState l = lsLock → active → s.laneFail l k = if u.rxLive l = 0 then u.lkDetect l else u))

/-- R86 to R90: LANE_LOCK, STEP_REQ, STEP_ACK, STEP_NAK and GO_OPER each answer a next state, for the forward group and for the
back-channel group of a head port: lock and alignment of every active lane begin the dwell; the leader asks for a step while its
dwell has passed below the target, and a follower answers by its own dwell; a step acknowledged begins; one refused ends the
stepping at the rate it has; GO_OPER at the target takes the group to GO. R83 to R87, R91: TRAINING_FRAME and DWELL_PASS each answer
a next state: a good training frame gives its capability word; a bad one is a dwell error. A dwell that passes at the target asks
for GO_OPER; after a fallback the link goes on at the lower rate, shown in FELLBACK; after a doubled rate the hold ends. -/
def Obligations.BringUpResults : Prop :=
  (∀ (s : State) (l : Link), s.domainOn (lkDomain l) = true →
        let u := s.lkSettle l
        let x := u.link l
        let st := u.lkState l
        let rate := u.fld (LK.LKSTAT_RATE l)
        (x.wrong = false → st = lsLock → u.allAligned l = true →
          exec (.laneLock l false) s = .next ((u.setLink l { x with dwelt := false }).setLk l lsDwell))
        ∧ (x.wrong = false → x.bstate = lsLock → lsLock ≤ st →
          exec (.laneLock l true) s = .next (u.setLink l { x with bstate := lsDwell, bdwelt := false }))
        ∧ (u.leads l = true → u.stepDue l false = true →
          exec (.stepReq l false) s = .next ((u.setLink l { x with stepReq := true }).tell l tkStepReq (rate + 1)))
        ∧ (u.leads l = true → u.stepDue l true = true → exec (.stepReq l true) s =
          .next ((u.setLink l { x with bstepReq := true }).tell l tkStepReq (u.fld (LK.LKSTAT_BRATE l) + 1)))
        ∧ (u.leads l = false → st = lsDwell → x.dwelt = true → rate < x.max →
          exec (.stepReq l false) s = .next (((u.setLink l { x with dwelt := false }).tell l tkStepAck (rate + 1)).setLk l lsStep))
        ∧ (u.leads l = false → st = lsDwell → x.dwelt = false ∨ x.max ≤ rate →
          exec (.stepReq l false) s = .next (u.tell l tkStepNak rate))
        ∧ (x.stepReq = true →
          exec (.stepAck l false) s = .next ((u.setLink l { x with stepReq := false, dwelt := false }).setLk l lsStep)
          ∧ exec (.stepNak l false) s = .next ((u.setLink l { x with stepReq := false, stop := true }).tell l tkGoOper 0))
        ∧ (x.bstepReq = true →
          exec (.stepAck l true) s =
            .next ((u.setLink l { x with bstepReq := false, bdwelt := false, bstate := lsLock }).setFld (LK.LKSTAT_BRATE l) 1)
          ∧ exec (.stepNak l true) s = .next ((u.setLink l { x with bstepReq := false, bstop := true }).tell l tkGoOper 0))
        ∧ (st = lsDwell → x.dwelt = true → u.leads l = false ∨ u.lkTarget l ≤ rate ∨ x.falling = true ∨ x.stop = true →
          exec (.goOper l false) s = .next ((u.setLk l lsGo).lkGo l))
        ∧ (x.bstate = lsDwell → x.bdwelt = true → u.bTarget l ≤ u.fld (LK.LKSTAT_BRATE l) ∨ x.bfalling = true ∨ x.bstop = true →
          exec (.goOper l true) s = .next ((u.setLink l { x with bstate := lsGo }).lkGo l)))
  ∧ (∀ (s : State) (l : Link) (k : Fin 16) (cs : List Crumb), s.domainOn (lkDomain l) = true →
        let u := s.lkSettle l
        let x := u.link l
        let st := u.lkState l
        let line := if u.fld (LK.LANEC3_INV l k.val) = 1 then cs.map (~~~ ·) else cs
        let a := (x.lanes.get k.val {}).take line
        let v := u.setLink l { x with lanes := x.lanes.set k.val a.2 }
        let y := u.setLink l { x with dwelt := true }
        (bit (u.fld (LK.ACTRX_ACTRX l)) k.val = true → lsLock ≤ st → st ≤ lsStep →
          (a.1 = [] → exec (.trainingFrame l cs k) s = .next v)
          ∧ (trainGood a.1 = true → exec (.trainingFrame l cs k) s = .next (v.takeTrain l a.1))
          ∧ (a.1 ≠ [] → trainGood a.1 = false → exec (.trainingFrame l cs k) s = .next (v.laneDwellError l k)))
        ∧ (st = lsDwell → x.cap ≠ none → x.dwelt = false →
          (x.falling = true → exec (.dwellPass l false) s =
            .next (((y.setFld (LK.LKSTAT_FELLBACK l) 1).lkReport l 1 (y.fld (LK.LKSTAT_RATE l))).tell l tkGoOper 0))
          ∧ (x.falling = false → y.fld (LK.LKSTAT_HOLD l) = 1 →
            exec (.dwellPass l false) s = .next (y.setFlds [(LK.LKSTAT_STATE l, lsOper), (LK.LKSTAT_HOLD l, 0)]))
          ∧ (x.falling = false → y.fld (LK.LKSTAT_HOLD l) = 0 → y.lkTarget l ≤ y.fld (LK.LKSTAT_RATE l) →
            exec (.dwellPass l false) s = .next (y.tell l tkGoOper 0))))
  ∧ (∀ (s : State) (l : Link) (w : Nat),
        (bitsOf w 3 0 = farKind l → bitsOf w 7 4 ≠ 0 → ((s.takeCap l w).link l).cap = some w ∧ ((s.takeCap l w).link l).wrong = false)
        ∧ (bitsOf w 3 0 ≠ farKind l ∨ bitsOf w 7 4 = 0 → (s.link l).wrong = false →
          (s.takeCap l w).lkState l = lsLock ∧ ((s.takeCap l w).link l).attempts = (s.link l).attempts + 1))

/-- R88, R90, R91, R92, R97, R100: STEP_TIMER_EXPIRY, DETECT_RETRY, LANE_LOCK_TIMEOUT, RSNEXT_TIMEOUT and LINK_RETRAIN each answer a next
state: a step that does not complete falls back one index, and a second failure ends the attempt; what ends an attempt, and what
begins a new one. R98, R101: QUAD_RETRAIN, QUAD_JOIN and LINK_COUNTER_CLEAR each answer a next state: a dropped quad of an operating
uplink or peer link trains, one at a time, and once its lanes are aligned it is added at this end's next marker; CLRCNT zeroes the
counters of the lanes and those of the block above. -/
def Obligations.LinkResults : Prop :=
  (∀ (s : State) (l : Link), s.domainOn (lkDomain l) = true →
        let u := s.lkSettle l
        let x := u.link l
        let st := u.lkState l
        let rate := u.fld (LK.LKSTAT_RATE l)
        let falls := fun (to_ : Nat) =>
          (u.setLink l { x with falling := true, dwelt := false, stepReq := false, fallTo := to_ }).setLk l lsFallback
        (st = lsStep → x.falling = false → exec (.stepTimerExpiry l false) s = .next (falls rate))
        ∧ (st = lsLock ∨ st = lsDwell ∧ x.dwelt = false → 0 < rate → x.falling = false →
          exec (.stepTimerExpiry l false) s = .next (falls (rate - 1)))
        ∧ (st = lsStep ∨ st = lsLock ∨ st = lsDwell ∧ x.dwelt = false → x.falling = true →
          exec (.stepTimerExpiry l false) s = .next (u.lkFail l))
        ∧ (x.bstate = lsLock ∨ x.bstate = lsDwell ∧ x.bdwelt = false → 0 < u.fld (LK.LKSTAT_BRATE l) → x.bfalling = false →
          exec (.stepTimerExpiry l true) s = .next ((u.setLink l { x with
            bfalling := true, bdwelt := false, bstepReq := false, bstate := lsLock }).setFld (LK.LKSTAT_BRATE l) 0))
        ∧ (st = lsDetect → exec (.detectRetry l) s = .next (((u.setLink l { x with retry := false }).lkTrainPort l).lkStart l))
        ∧ (st = lsLock → rate = 0 → exec (.laneLockTimeout l false) s = .next (u.lkFail l))
        ∧ (x.bstate = lsLock → u.fld (LK.LKSTAT_BRATE l) = 0 → lsLock ≤ st → exec (.laneLockTimeout l true) s = .next (u.lkFail l))
        ∧ (x.rsreq ≠ [] → exec (.rsnextTimeout l) s = .next (u.lkDetect l))
        ∧ (st ≠ lsOff → exec (.linkRetrain l) s = .next ((u.setLink l { x with retry := false }).lkDetect l)))
  ∧ (∀ (s : State) (l : Link), s.domainOn (lkDomain l) = true →
        let u := s.lkSettle l
        let x := u.link l
        let q := u.fld (LK.LKCTL_QSEL l)
        let m := 0xF <<< (4 * q)
        let rx := u.fld (LK.ACTRX_ACTRX l)
        let tx := u.fld (LK.LKACT_ACTTX l)
        ((∀ p, l ≠ .hp p) → u.lkState l = lsOper → x.quad = none →
          (m ∈ txUnits l ∧ meets tx m = false ∨ m ∈ u.rxUnits l ∧ meets rx m = false) →
          exec (.quadRetrain l) s = .next ((u.setLink l { x with
            quad := some q, lanes := x.lanes.filter fun e => e.1 / 4 != q || bit rx e.1
            tx := x.tx.filter fun e => e.1 / 4 != q || meets tx m }).trainOn l (lanesOf (m &&& sumN (txUnits l))) tkQuadJoin 0))
        ∧ (∀ n, u.lkState l = lsOper → x.quad = some n →
          let m := 0xF <<< (4 * n)
          m ∈ txUnits l → meets tx m = false → (∀ k ∈ lanesOf (m &&& rxPins l), u.fld (LK.LANEC3_ALIGNED l k) = 1) →
          exec (.quadJoin l) s = .next (u.setLink l { x with txNext := some (tx + m) }))
        ∧ ∃ t, exec (.linkCounterClear l) s = .next t ∧ (l = .upl → t.reg UPL.UPCNT0 = 0 ∧ t.reg UPL.UPCNT5 = 0)
          ∧ (l = .peer → t.reg PEER.PCNT0 = 0 ∧ t.reg PEER.PCNT2 = 0) ∧ (∀ p, l = .hp p → t.reg (HP.PCNT0 p) = 0 ∧ t.reg (HP.ICNT4 p) = 0)
          ∧ ∀ k : Fin 16, bit (rxPins l) k.val = true → t.fld (LK.LANEC0_LOS l k) = 0 ∧ t.fld (LK.LANEC0_LOL l k) = 0)

/-- R109, R113, R118: a header crumb that fails its CRC is counted and what follows it lost; STATUS and RESPONSE packets reach the
head's state and the command that waits. R115, R117, R118, R153, R158: the next command of a port leaves with the
next TAG, at most 16 outstanding; a TSYNC takes its T1 as it leaves, and a TRIGGER whose target is too near is missed; one not
answered in time ends and is counted. -/
def Obligations.HeadResults : Prop :=
  (∀ (s : State) (port : Port) (h : Crumb) (r : List Crumb),
        let p := port.val
        let w := h.toNat
        let g := s.ingests.get p {}
        s.hears p = true →
        (h ≠ 0 → crc8Good h = false → exec (.headerCrcFailure port h) s =
          .next { s.bump (HP.PCNT0_HCRCERR p) 1 with ingests := s.ingests.set p { g with orphans := true } })
        ∧ (crc8Good h = true → bitsOf w 5 0 = 4 → exec (.headStatus port (h :: r)) s = .next (s.headStatus p h))
        ∧ (∀ o, crc8Good h = true → bitsOf w 5 0 = 5 →
            let len := bitsOf w 45 32
            let n := ceilDiv len 8
            n + 1 ≤ r.length → bitsOf (r.getD n 0).toNat 31 0 = crc32Crumbs (r.take n) → (s.port p).out.find? (fun o => o.tag == bitsOf w 15 8) = some o →
            let u := s.bcEnd p o.cmd (.rsp (bitsOf w 23 16) h (r.take n) (bytesAt (crumbsBytes (r.take n)) 0 len) s.now)
            exec (.headResponse port (h :: r)) s = .next (u.setPort p { u.port p with out := (u.port p).out.erase o })))
  ∧ (∀ (s : State) (port : Port) (tag : Byte),
        let p := port.val
        let x := s.port p
        (∀ c, s.domainOn .pixel = true → x.out.length < 16 → s.bcNext p = some c →
          let u := s.setPort p { x with queue := x.queue.erase c }
          ((∀ g t fn, c.origin ≠ .trigger g t fn) → (∀ seq, c.origin ≠ .queue seq) → (∀ k, c.origin ≠ .tsync k) →
            let y := { x with queue := x.queue.erase c, out := x.out ++ [⟨x.nextTag, c, s.clock⟩], nextTag := (x.nextTag + 1) % 256 }
            ∃ t, exec (.backchannelCommandSend port) s = .next t ∧ t.port p = y ∧ t.sent.getLast? = some (.back p (c.crumbs x.nextTag)))
          ∧ (∀ k, c.origin = .tsync k →
            exec (.backchannelCommandSend port) s = .next (u.bcLeave p { c with origin := .tsync s.now }))
          ∧ (∀ g t fn, c.origin = .trigger g t fn → t < s.now + s.trigLat p →
            exec (.backchannelCommandSend port) s = .next (u.missTrigger p g)))
        ∧ (∀ o, x.out.find? (fun o => o.tag == tag.toNat) = some o →
          let u := (s.bcEnd p o.cmd .timeout).bump (HP.PCNT1_BCTIMEOUT p) 1
          exec (.backchannelTimeout port tag) s = .next (u.setPort p { u.port p with out := (u.port p).out.erase o })))

/-- R128, R130, R134: the timers of a streaming head. R154, R156, R157: TSYNC exchanges are queued in class 4, stale head time is
reported once, and a TRIGGER of a target of the port's group is queued in class 1. -/
def Obligations.HeadTimerResults : Prop :=
  (∀ (s : State) (port : Port), s.pstate port.val = psStreaming →
        let p := port.val
        let x := s.port p
        (s.fld (HP.PCTL_REAUTH p) ≠ 0 → exec (.reauthTimer port) s = .next (s.challenge p true))
        ∧ (s.fld (HP.PSTAT_MASTER p) = 0 → exec (.wearWriteTimer port) s = .next (s.setPort p { x with minutes := x.minutes + 10 }))
        ∧ (s.fld (HP.PSTAT_MASTER p) = 1 →
          exec (.wearWriteTimer port) s = .next ((s.setPort p { x with minutes := x.minutes + 10 }).writeWear p))
        ∧ (x.sharp ≠ [] → s.fld (HP.PSTAT_WEAR p) = 0 →
          exec (.lensContrastHourly port) s = .next (s.setPort p { x with sharp := [], hours := [] }))
        ∧ (x.sharp ≠ [] → s.fld (HP.PSTAT_WEAR p) ≠ 0 → x.hours.length + 1 < 24 →
          exec (.lensContrastHourly port) s = .next (s.setPort p { x with sharp := [], hours := median x.sharp :: x.hours })))
  ∧ (∀ (s : State) (port : Port) (target : BitVec 64),
        let p := port.val
        let x := s.port p
        let set := s.setAt target.toNat
        s.domainOn .pixel = true →
        (s.pstate p = psEnum → 0 < x.enumTsync → exec (.tsyncSchedule port) s =
          .next ((s.setPort p { x with enumTsync := x.enumTsync - 1 }).bcQueue p ⟨bcTsync, 0, [], 4, .tsync 0⟩))
        ∧ (s.pstate p = psReady ∨ s.pstate p = psStreaming → exec (.tsyncSchedule port) s = .next (s.bcQueue p ⟨bcTsync, 0, [], 4, .tsync 0⟩))
        ∧ (s.pstate p = psStreaming → x.stale = false →
          exec (.headTimeStale port) s = .next ((s.setPort p { x with stale := true }).report 0x2019 p 0))
        ∧ (∀ g, CfgSet.groupOf set p = some g → s.isTarget set g target.toNat = true → s.pstate p = psReady ∨ s.pstate p = psStreaming →
          (s.trigBegin p : Int) ≤ (target.toNat : Int) - (s.trigLat p : Int) - (CfgSet.grpLead set g : Int) →
          (s.camOf p).dropped = false → s.standby p = false → x.deposed = false →
          exec (.triggerDispatch port target) s =
            .next (((List.range 8).foldl (fun s n => s.latNumber set g target.toNat n) s).bcQueue p
              ⟨bcTrigger, g, [], 1, .trigger g target.toNat 0⟩)))

/-- R145, R149 to R152: PPS_EDGE, PPS_LOSS, SLEW_END, PPS_OUT_PULSE, PPS_OUT_PULSE_END, KEEPER_SHADOW_COPY and TSU_SNAP each answer a next
state. R147 to R149: a PPS edge that is too narrow, or comes less than 900 ms after the last, is only counted; one with an error of
at most 1000 ns is good, and one beyond it an outlier; PHERR shows the error. R159 to R161: SYNC_OUTPUT_EDGE, SYNC_INPUT_EDGE and
SCAP_POP each answer a next state: a SYNC output is active from a target of its group, moved by OFFSET, until the last of its
overlapping pulses ends; a SYNC input captures an edge into a FIFO of 16, counts what finds it full and reports the first; a read of
SCAPL takes the oldest capture. -/
def Obligations.TimeResults : Prop :=
  (∀ (s : State) (captured : BitVec 64) (wide : Bool), s.tsu.running = true →
        let st := s.fld TSU.DSTAT_STATE
        let lost := { s.holdover with tsu := { s.holdover.tsu with lostRep := true } }.report 0x0402 0 0
        (s.pinsTaken = false → s.fld TSU.DCTL_PPS_EN = 1 → exec (.ppsEdge captured wide) s = .next (s.ppsEdge captured.toNat wide))
        ∧ (st = tuAcquire ∨ st = tuLocked → exec .ppsLoss s = .next lost)
        ∧ (st = tuHoldover → s.tsu.lostRep = false → exec .ppsLoss s = .next lost)
        ∧ (st = tuHoldover → s.tsu.lostRep = true → exec .ppsLoss s = .next s)
        ∧ (s.fld TSU.DSTAT_SLEWING = 1 → exec .slewEnd s = .next s.stopSlew)
        ∧ (s.mode.full = true → s.mode ≠ .service → s.fld TSU.DCTL_PPSOUT_EN = 1 → s.fld TSU.DSTAT_TIMEVALID = 1 →
          exec .ppsOutPulse s = .next (s.drivePps true))
        ∧ exec .ppsOutPulseEnd s = .next (s.drivePps false)
        ∧ (s.sys.vio = true → exec .keeperShadowCopy s = .next { s with keeper := { s.keeper with shadow := s.now } })
        ∧ (s.domainOn .fabric = true → ∃ t, exec .tsuSnap s = .next t ∧ (t.reg TSU.SNAPL).toNat = s.now % 2 ^ 32
          ∧ (t.reg TSU.SNAPH).toNat = s.now / 2 ^ 32 % 2 ^ 32 ∧ ∀ a, a ≠ TSU.SNAPL → a ≠ TSU.SNAPH → t.reg a = s.reg a))
  ∧ (∀ (s : State) (cap : Nat),
        let v := s.holdDue cap
        let u := { v with tsu := { v.tsu with lastEdge := some cap } }.setFld TSU.PHERR_E (unsigned 32 (edgeError cap))
        s.ppsEdge cap false = s.bump TSU.PCNT_PPSBAD 1
        ∧ (∀ l, s.tsu.lastEdge = some l → cap < l + 900000000 → s.ppsEdge cap true = s.bump TSU.PCNT_PPSBAD 1)
        ∧ (∀ c, (∀ l, s.tsu.lastEdge = some l → l + 900000000 ≤ cap) → s.tsu.change = some c →
          s.ppsEdge cap true = u.changeEdge c (edgeError cap) cap)
        ∧ ((∀ l, s.tsu.lastEdge = some l → l + 900000000 ≤ cap) → s.tsu.change = none → (edgeError cap).natAbs ≤ 1000 →
          s.ppsEdge cap true = u.goodEdge (edgeError cap) cap)
        ∧ ((∀ l, s.tsu.lastEdge = some l → l + 900000000 ≤ cap) → s.tsu.change = none → 1000 < (edgeError cap).natAbs →
          s.ppsEdge cap true = u.outlier (edgeError cap) cap))
  ∧ (∀ (s : State) (pin : SyncPin) (falling : Bool) (time : BitVec 64) (path : Path),
        let n := pin.val
        let m := s.fld (TSU.SYNC_MODE n)
        let q := s.tsu.caps.get n []
        let fresh := s.tsu.capLast.has n = false ∨ s.tsu.capLast.get n 0 + 20 ≤ time.toNat
        let takes := (m = 3 ∧ falling = false) ∨ (m = 4 ∧ falling = true) ∨ m = 5
        let full := { s with tsu := { s.tsu with
          capLast := s.tsu.capLast.set n time.toNat, capOvf := s.tsu.capOvf.set n true } }.bump (TSU.SYNCST_OVF n) 1
        (s.mode.full = true → s.mode ≠ .service → s.tsu.running = true → (m = 1 ∨ m = 2) →
          (∀ t c, s.syncTarget n s.now = some (t, c) →
            let stop := if m = 1 then ((t : Int) + s.sfld (TSU.SYNCOFS_OFFSET n) + s.fld (TSU.SYNCW_WIDTH n)).toNat
              else (s.syncStop n t c).toNat
            let stop := if s.sys.syncOut.get n false = true then max stop (s.tsu.syncEnd.get n 0) else stop
            exec (.syncOutputEdge pin true) s =
              .next { s.setSync n true with tsu := { s.tsu with syncEnd := s.tsu.syncEnd.set n stop } })
          ∧ (s.tsu.syncEnd.get n 0 ≤ s.now + 1 → exec (.syncOutputEdge pin false) s = .next (s.setSync n false))
          ∧ (s.now + 1 < s.tsu.syncEnd.get n 0 → exec (.syncOutputEdge pin false) s = .next s))
        ∧ (s.tsu.running = true → s.pinsTaken = false → takes → fresh →
          (q.length < 16 → exec (.syncInputEdge pin falling time) s = .next { s with tsu := { s.tsu with
            capLast := s.tsu.capLast.set n time.toNat, caps := s.tsu.caps.set n (q ++ [(time.toNat, falling)]), capOvf := s.tsu.capOvf.set n false } })
          ∧ (16 ≤ q.length → s.tsu.capOvf.get n false = true → exec (.syncInputEdge pin falling time) s = .next full)
          ∧ (16 ≤ q.length → s.tsu.capOvf.get n false = false → exec (.syncInputEdge pin falling time) s = .next (full.report 0x0405 n 0)))
        ∧ (s.domainOn .fabric = true →
          let u := s.latch path [TSU.SCAPH n]
          exec (.scapPop path pin) s = .next { u with tsu := { u.tsu with caps := u.tsu.caps.set n (u.tsu.caps.get n []).tail }
                                                      readOut := u.readOut.set path.num (leBytes 4 (s.peek (TSU.SCAPL n)).toNat) }))

/-! ## Frames, outputs, rotation -/

/-- R106, R109, R162, R171, R172: FRAME_START answers a next state: with a good header crumb on a port that opens frames it begins a
frame at its boundary; a repeated counter is a duplicate; an open frame closes with NOEND first. R168 to R170: FRAME_END,
FRAME_WATCHDOG_EXPIRY and LINE_WATCHDOG_EXPIRY each answer a next state: a FRAME_END of the open frame closes it, complete where
every line is valid, with the marks of counts or an FCRC that do not agree; the frame watchdog closes it TRUNCATED, and the line
watchdog closes the open packet, at the first tick of 1 µs at or after their time, never before. -/
def Obligations.FrameResults : Prop :=
  (∀ (s : State) (port : Port) (h : Crumb) (r : List Crumb),
        let p := port.val
        s.hears p = true → crc8Good h = true → bitsOf h.toNat 5 0 = 1 → s.opensFrames p = true →
        ((s.ingest p).frame = none → exec (.frameStart port (h :: r)) s = .next (s.boundary port h.toNat r))
        ∧ (∀ f, (s.ingest p).frame = some f → f.hf = bitsOf h.toNat 23 8 →
            exec (.frameStart port (h :: r)) s = .next (s.bump (HP.ICNT4_DUPLINE p) 1))
        ∧ (∀ f, (s.ingest p).frame = some f → f.hf ≠ bitsOf h.toNat 23 8 →
            exec (.frameStart port (h :: r)) s = .next ((s.closeFrame p 3 false).boundary port h.toNat r)))
  ∧ (∀ (s : State) (port : Port) (h : Crumb) (r : List Crumb) (f : Frame),
        let p := port.val
        let g := s.ingest p
        let w := h.toNat
        let set := s.setFor p
        let period := s.frameLimit p
        g.frame = some f →
        (s.hears p = true → crc8Good h = true → bitsOf w 5 0 = 3 → s.ingestOn p = true → bitsOf w 23 8 = f.hf →
          let a := if bitsOf w 37 24 = f.lcount ∧ bitsOf w 51 38 = f.scount then f else f.mark igCount
          let b := if (r.getD 0 0).toNat % 2 ^ 32 = f.fcrc then a else a.mark igFcrc
          exec (.frameEnd port (h :: r)) s = .next ((s.setFrame p b).closeFrame p (if f.valid = f.height then 0 else 1) false))
        ∧ (period ≠ 0 → ∀ k : Int, 16000 * k = 16 * (g.boundary + f.wdShift) + period + (-(16 * (g.boundary + f.wdShift) + period)) % 16000 →
          (1000 * k ≤ s.now → exec (.frameWatchdogExpiry port) s = .next (s.closeFrame p 2 true))
          ∧ ((s.now : Int) < 1000 * k → exec (.frameWatchdogExpiry port) s = .next s))
        ∧ (∀ n e t, g.openLine = some (n, e, t) →
          let l := CfgSet.fld set 1 p (HP.INGLT_LTIME 0)
          let wd := CfgSet.fld set 1 p (HP.INGFMT_LWDOG 0)
          l ≠ 0 → ∀ k : Nat, 16 * t + (if wd = 0 then 0x40 else wd) * l ≤ 16000 * k → 1000 * k ≤ s.now →
          exec (.lineWatchdogExpiry port) s = .next ((s.setIngest p { g with openLine := none, frame := some (f.failBurst (e == 2) n 4) }).bump
            (HP.ICNT0_LCRCERR p) 1)))

/-- R110, R165, R175, R179: LINE_PACKET answers a next state: a packet of the open frame whose header, length and trailer CRC agree is
accepted: its pixels, unpacked from the payload, are the burst of that line, and LASTLINE follows; one whose trailer CRC does not
agree, or whose crumbs fail their FIFO parity, has its line filled. R165, R169: a LINE packet with no frame open, or of another
frame, is an orphan: it is counted and discarded. -/
def Obligations.LineResults : Prop :=
  (∀ (s : State) (port : Port) (h : Crumb) (r : List Crumb) (f : Frame),
        let p := port.val
        let w := h.toNat
        let n := lnLine w
        let body := r.take (lnCrumbs w)
        let crc := (r.getD (lnCrumbs w) 0).toNat % 2 ^ 32
        s.hears p = true → crc8Good h = true → bitsOf w 5 0 = 2 → s.ingestOn p = true →
        (s.ingest p).frame = some f → f.hf % 1024 = lnFclo w → f.ovf = false → f.hdr = false → f.lastL = none →
        lnKnown w = true → lnDt w = f.dt → lnWidth w = f.width → lnExp w = 0 → n < f.height → lnCrumbs w + 1 ≤ r.length →
        let g := f.countPacket w (some crc)
        let v := s.setFrame p g
        let u := v.setFrame p ((g.accept false n (unpackPixels (dtBits f.dt) f.width (crumbsBytes body))).unpair false n)
        (crc = crc32Crumbs body → exec (.linePacket port (h :: r) false false) s =
          .next (u.setFld (HP.INGSTAT_LASTLINE p) (max n (u.fld (HP.INGSTAT_LASTLINE p)))))
        ∧ (crc = crc32Crumbs body → exec (.linePacket port (h :: r) false true) s =
          .next (v.setFrame p ({ g with lastL := some n }.failBurst false n 1)))
        ∧ (crc ≠ crc32Crumbs body → ∀ parity, exec (.linePacket port (h :: r) false parity) s =
          .next ((v.bump (HP.ICNT0_LCRCERR p) 1).setFrame p (g.failBurst false n 1))))
  ∧ (∀ (s : State) (port : Port) (h : Crumb) (r : List Crumb) (full parity : Bool),
        let p := port.val
        let g := s.ingest p
        s.hears p = true → crc8Good h = true → bitsOf h.toNat 5 0 = 2 → s.ingestOn p = true →
        (g.frame = none → g.lastClosed = none →
          exec (.linePacket port (h :: r) full parity) s = .next ((s.setIngest p { g with orphans := true }).bump (HP.ICNT1_ORPHAN p) 1))
        ∧ (∀ f, g.frame = some f → lnFclo h.toNat ≠ f.hf % 1024 →
          exec (.linePacket port (h :: r) full parity) s = .next ((s.setIngest p { g with orphans := true }).bump (HP.ICNT1_ORPHAN p) 1)))

/-- R248, R297: the next line of an output leaves once the frame's latches have been taken; output 4 is the warp source. R299: a
STATUS repeats on an open image stream while its condition holds and no frame of it is under way. R202, R316, R320, R324, R325,
R328: the statistics of a closed frame complete; a PIPE field and the motion latch for their frame; sensor writes of open windows
are issued in class 3; entries past their deadline move. R267, R269, R270, R275, R300: a lattice frame that is ready starts while
the LAT is idle, no ready rival has an earlier deadline and its canvas has been read; an assembly in progress ends; a frame past its limit is skipped, counted in
SKIPPED and reported. R497: the next frame of a ring start is read. -/
def Obligations.OutputResults : Prop :=
  (∀ (s : State) (sl : Slice) (k : Fin 5) (p : Nat) (f : Frame), s.domainOn .pixel = true → s.nextLine sl.val k.val = some (p, f) →
        let u := s.latchAll p f.fn
        let g := (u.frameOf p f.fn).getD f
        (k.val = 4 → exec (.outputLineReady sl k) s = .next ((u.warpLineOut p g).sweep p))
        ∧ (k.val ≠ 4 → exec (.outputLineReady sl k) s = .next ((u.imageLine p sl.val k.val g).sweep p)))
  ∧ (∀ (s : State) (sid : BitVec 12) (r : Nat), s.domainOn .uplink = true →
        let n := sid.toNat
        (s.stream n).opened = true → isImageSid n = true → s.unended (n / 8) (n % 8) = [] → (s.stream n).due = [] → (s.stream n).shown = some r →
        exec (.streamStatusRepeat sid) s = .next (s.statusNow (n / 8) n r))
  ∧ (∀ (s : State) (port : Port) (fn : Word), s.domainOn .pixel = true →
        let p := port.val
        (∀ f sl, s.frameOf p fn.toNat = some f → f.slice = some sl → f.closed = true → f.statsDone = false → f.skipWhy = 0 →
          exec (.statsSetComplete port fn) s = .next (s.statsComplete p f sl))
        ∧ exec (.motionDeadline port fn) s = .next (s.latchField p 1 fn.toNat)
        ∧ (∀ id f, id.toNat ∈ pipeFields →
          ((s.camOf p).frames.reverse ++ (s.openFrame p).toList).find? (fun f => !f.ring && !f.latched.contains id.toNat) = some f →
          exec (.pqPipeLatch port id) s = .next (s.latchField p id.toNat f.fn))
        ∧ (∀ e, s.standby p = false → (s.camOf p).queue.filter (s.maySend p) = [e] →
          exec (.pqSensorDispatch port) s = .next (s.bcQueue p (cmdWrite 3 e.addr (leBytes e.len e.data) (.queue e.seq))))
        ∧ exec (.pqDeadlinePass port) s = .next (s.pqDeadlines p (s.camOf p).queue))
  ∧ (∀ (s : State) (lat : Lattice), s.domainOn .pixel = true →
        let n := lat.val
        let x := s.lat n
        (∀ f r, x.frames = f :: r → (∀ e ∈ s.lats, e.2.busy = none) →
          (∀ e ∈ s.lats, e.1 ≠ n → ∀ g q, e.2.frames = g :: q → s.latOwner g.set e.1 = true → s.latReady e.1 g = true → f.dead ≤ g.dead) →
          (∀ u ∈ s.fifo (latSid n), u.fn ≠ (f.lfn + 2 ^ 32 - 2) % 2 ^ 32) →
          s.latOwner f.set n = true → s.latReady n f = true → s.now < f.limit →
          exec (.latticeAssemblyStart lat) s = .next (s.latStart n f))
        ∧ (∀ b, x.busy = some b → exec (.latticeAssemblyEnd lat) s = .next (s.latEnd n b))
        ∧ (∀ f r, x.frames = f :: r → s.latOwner f.set n = true → f.limit ≤ s.now → s.mirrors = false →
          let fl := 16 + 8 * b2n f.tkover + 32 * b2n (s.latSplit f.set n)
          let rec_ := latRecord f fl f.tref f.tref (slotMask ((CfgSet.latSlots f.set n).map (·.1))) 0 0 0 0 0
          let u := (s.latAnnounce n f).showLrec n f.lfn rec_
          let y := u.stream (latSid n)
          let v := u.setStream (latSid n) { y with fseq := (y.fseq + 1) % 2 ^ 32 }
          let w := ((v.latNotice n f y.fseq 0 (v.latFlags n f.tkover) f.tref f.tref rec_).bump (LT.LCNT_SKIPPED n) 1).report 0x4003 n f.lfn
          w.mirrors = false →
          exec (.latticeSkip lat) s = .next ((w.setLat n { w.lat n with frames := r }).latSettle n)))
  ∧ (∀ (s : State) (port : Port) (run : RingRun), s.domainOn .pixel = true →
        let p := port.val
        s.pair.runs.has p = true → (∀ d, s.pair.runs.get p d = run) → run.ready = true →
        exec (.ringReadFrame port) s = .next (s.ringRead p))

/-- R213, R305, R334, R367, R395, R531: a counter clear zeroes the counters of its block and no other register. -/
def Obligations.CounterClears : Prop :=
  ∀ (s : State) (sl : Slice) (k : Fin 4), s.domainOn .pixel = true →
    (∃ t, exec (.nrCounterClear sl) s = .next t ∧ t.reg (SL.NRCNT0 sl) = 0 ∧ t.reg (SL.NRCNT1 sl) = 0
      ∧ ∀ a, a ≠ SL.NRCNT0 sl → a ≠ SL.NRCNT1 sl → t.reg a = s.reg a)
    ∧ (∃ t, exec (.outputCounterClear sl k) s = .next t ∧ t.reg (SL.OCNT sl k) = 0 ∧ t.reg (SL.OCNT2 sl k) = 0
      ∧ ∀ a, a ≠ SL.OCNT sl k → a ≠ SL.OCNT2 sl k → t.reg a = s.reg a)
    ∧ (∃ t, exec (.statsCounterClear sl) s = .next t ∧ t.reg (SL.PQCNT0 sl) = 0 ∧ t.reg (SL.PQCNT1 sl) = 0 ∧ t.reg (SL.PQCNT2 sl) = 0
      ∧ ∀ a, a ≠ SL.PQCNT0 sl → a ≠ SL.PQCNT1 sl → a ≠ SL.PQCNT2 sl → t.reg a = s.reg a)
    ∧ (∃ t, exec (.readlateClear sl) s = .next t ∧ t.fld (SL.STSTAT_READLATE sl) = 0
      ∧ ∀ a, a ≠ (SL.STSTAT_READLATE sl).addr → t.reg a = s.reg a)
    ∧ (∃ t, exec .rotationCounterClear s = .next t ∧ t.fld XBAR.ROTCNT0_WINDOWS = 0 ∧ t.fld XBAR.ROTCNT0_TRANSIENT = 0
      ∧ t.fld XBAR.ROTCNT1_REPAIRS = 0 ∧ t.fld XBAR.ROTCNT1_DEFERRED = 0
      ∧ ∀ a, a ≠ XBAR.ROTCNT0_WINDOWS.addr → a ≠ XBAR.ROTCNT1_REPAIRS.addr → t.reg a = s.reg a)

/-- R510 to R513: a drained slice is isolated; its segments and its memory test go on while they pass; a mismatch is rerun and a
second one retires the slice. R510, R513, R514, R517: windows start on the next slice that is due, are aborted after 100 ms, and
end with the reset of the slice; a slice not covered in time is reported once. -/
def Obligations.RotationResults : Prop :=
  (∀ (s : State) (sl : Slice) (w : Window) (misr : BitVec 64), s.proving sl.val = some w → s.domainOn .pixel = true →
        let x := w.slice
        let missed := (s.bump (SL.PRVCNT_MISMATCH x) 1).setFlds
          [(SL.PRVSIGL_MISR x, misr.toNat), (SL.PRVSIGH_MISR x, misr.toNat / 2 ^ 32), (SL.PRVSTAT_LASTSEG x, w.seg)]
        (w.stage ≤ 1 → w.after = none → s.fld (XBAR.RMAP_PORT sl.val) = 0xFF → s.slBusy sl.val = false →
          exec (.sliceDrained sl) s = .next (s.isolate w))
        ∧ (w.stage = 2 → w.retest = false → w.seg < 63 → exec (.bistSegmentDone sl true misr) s =
            .next ((s.setWindow { w with seg := w.seg + 1 }).setFld (SL.PRVSTAT_LASTSEG x) (w.seg + 1)))
        ∧ (w.stage = 2 → w.retest = false → w.seg = 63 →
            exec (.bistSegmentDone sl true misr) s = .next (s.setWindow { w with stage := 3 }))
        ∧ (w.stage = 2 → w.retest = false →
            exec (.bistSegmentDone sl false misr) s = .next (missed.setWindow { w with retest := true })
            ∧ exec (.bistSegmentTimeout sl misr) s = .next (missed.setWindow { w with retest := true }))
        ∧ (w.stage = 2 → w.retest = true → exec (.bistSegmentTimeout sl misr) s = .next (missed.retireIn w w.seg misr.toNat))
        ∧ (w.stage = 3 → exec (.memoryBistDone sl [] true) s = .next (s.setWindow { w with stage := 4 })))
  ∧ (∀ (s : State) (sl : Slice), s.domainOn .pixel = true →
        let n := sl.val
        (∀ x, let u := s.pausedCheck
          u.domainOn .pixel = true → u.pcause = 0 ∨ u.pcause = 7 → u.running_ < u.maxWin → 2 ≤ u.freeSpares.length → u.rotOrder.find? u.settledSlice = some x →
          s.rot.started * s.fld XBAR.ROTPER_PERIOD * 1000000000 ≤ (s.clock - s.rot.cycleAt) * s.sound.length →
          exec .provingWindowStart s = .next ((u.setRot { u.rot with passedOver :=
            (u.rot.passedOver ++ (u.rotOrder.takeWhile (· != x)).filter fun y => !u.rot.first.contains y).eraseDups }).startWindow x))
        ∧ (∀ w, s.proving n = some w → 2 ≤ w.stage → w.retire = false → w.abort = false → w.start + 100000000 ≤ s.now → n ∉ s.rot.aborted →
          exec (.provingWindowAbort sl) s =
            .next ((s.setRot { s.rot with aborted := n :: s.rot.aborted }).setWindow { w with stage := 4, abort := true }))
        ∧ (∀ w, s.proving n = some w → w.stage = 4 → w.retire = false → w.abort = false →
          exec (.sliceResetDone sl) s =
            .next ((((((s.zeroSlice n).resetSlice n).dropWindow n).bump XBAR.ROTCNT0_WINDOWS 1).passWindow w).giveBack.serveWaits))
        ∧ (∀ w, s.proving n = some w → w.stage = 4 → w.retire = true →
          exec (.sliceResetDone sl) s =
            .next ((((((s.zeroSlice n).resetSlice n).dropWindow n).bump XBAR.ROTCNT0_WINDOWS 1).cycleCheck).giveBack.serveWaits))
        ∧ (∀ w, s.proving n = some w → w.stage = 4 → w.retire = false → w.abort = true →
          exec (.sliceResetDone sl) s =
            .next ((((((s.zeroSlice n).resetSlice n).dropWindow n).setSstate n ssSpare).markFirst n).giveBack.serveWaits))
        ∧ (∀ t, s.lastPass n = some t ∧ t + 2 * s.fld XBAR.ROTPER_PERIOD * 1000000000 ≤ s.now
            ∨ s.lastPass n = none ∧ s.rot.since = some t ∧ t + 2 * s.fld XBAR.ROTPER_PERIOD * 1000000000 ≤ s.clock →
          s.isRetired n = false → n ∉ s.rot.covered →
          exec (.rotationCoverage sl) s = .next ((s.setRot { s.rot with covered := n :: s.rot.covered }).report 0x1003 n n)))

/-! ## Slice engines -/

/-- R342: each scalar register instruction writes its result modulo 2^32, takes one cycle and goes on at the next index; a word
of the class with a reserved operation, or with a field marked 0 that is not 0, traps with ILLEGAL. -/
def Obligations.EngineScalarResults : Prop :=
  ∀ (s : State) (sl : Slice) (sd sa sb : BitVec 5), s.issues sl →
    let e := s.eng sl
    let a := e.sget sa
    let b := e.sget sb
    let n := b.toNat % 32
    let write := fun (v : BitVec 32) => (Host.Outcome.next (s.wentOn sl 1 (e.sset sd v)) : Out)
    exec (.engAdd sl sd sa sb) s = write (BitVec.ofNat 32 (a.toNat + b.toNat))
    ∧ exec (.engSub sl sd sa sb) s = write (BitVec.ofInt 32 ((a.toNat : Int) - b.toNat))
    ∧ exec (.engAnd sl sd sa sb) s = write (a &&& b)
    ∧ exec (.engOr sl sd sa sb) s = write (a ||| b)
    ∧ exec (.engXor sl sd sa sb) s = write (a ^^^ b)
    ∧ exec (.engSll sl sd sa sb) s = write (BitVec.ofNat 32 (a.toNat * 2 ^ n))
    ∧ exec (.engSrl sl sd sa sb) s = write (BitVec.ofNat 32 (a.toNat / 2 ^ n))
    ∧ exec (.engSra sl sd sa sb) s = write (BitVec.ofInt 32 (a.toInt / (2 ^ n : Nat)))
    ∧ exec (.engMul sl sd sa sb) s = write (BitVec.ofNat 32 (a.toNat * b.toNat))
    ∧ exec (.engMulh sl sd sa sb) s = write (BitVec.ofInt 32 (a.toInt * b.toInt / (2 ^ 32 : Nat)))
    ∧ exec (.engMulhu sl sd sa sb) s = write (BitVec.ofNat 32 (a.toNat * b.toNat / 2 ^ 32))
    ∧ exec (.engSlt sl sd sa sb) s = write (if a.toInt < b.toInt then 1 else 0)
    ∧ exec (.engSltu sl sd sa sb) s = write (if a.toNat < b.toNat then 1 else 0)
    ∧ exec (.engMin sl sd sa sb) s = write (BitVec.ofInt 32 (min a.toInt b.toInt))
    ∧ exec (.engMax sl sd sa sb) s = write (BitVec.ofInt 32 (max a.toInt b.toInt))
    ∧ exec (.engClz sl sd sa) s = write (if a = 0 then 32 else BitVec.ofNat 32 (31 - a.toNat.log2))
    ∧ ∀ word : Word, getBits word 31 28 = 0 →
      (0x10 ≤ getBits word 27 22 ∨ getBits word 6 0 ≠ 0 ∨ getBits word 27 22 = 0x0F ∧ getBits word 11 7 ≠ 0) →
      exec (.engIllegalInstruction sl word) s = .next (s.engTrap sl 1)

/-- R343: each scalar immediate instruction; a word of the class with a reserved operation, or a shift whose bits [13:5] are not
0, traps with ILLEGAL. -/
def Obligations.EngineImmediateResults : Prop :=
  ∀ (s : State) (sl : Slice) (sd sa sh : BitVec 5) (imm : BitVec 14) (high : BitVec 19), s.issues sl →
    let e := s.eng sl
    let a := e.sget sa
    let write := fun (v : BitVec 32) => (Host.Outcome.next (s.wentOn sl 1 (e.sset sd v)) : Out)
    exec (.engAddi sl sd sa imm) s = write (BitVec.ofInt 32 (a.toInt + imm.toInt))
    ∧ exec (.engAndi sl sd sa imm) s = write (a &&& BitVec.ofNat 32 imm.toNat)
    ∧ exec (.engOri sl sd sa imm) s = write (a ||| BitVec.ofNat 32 imm.toNat)
    ∧ exec (.engXori sl sd sa imm) s = write (a ^^^ BitVec.ofNat 32 imm.toNat)
    ∧ exec (.engSlli sl sd sa sh) s = write (BitVec.ofNat 32 (a.toNat * 2 ^ sh.toNat))
    ∧ exec (.engSrli sl sd sa sh) s = write (BitVec.ofNat 32 (a.toNat / 2 ^ sh.toNat))
    ∧ exec (.engSrai sl sd sa sh) s = write (BitVec.ofInt 32 (a.toInt / (2 ^ sh.toNat : Nat)))
    ∧ exec (.engSlti sl sd sa imm) s = write (if a.toInt < imm.toInt then 1 else 0)
    ∧ exec (.engLui sl sd high) s = write (BitVec.ofNat 32 (high.toNat * 2 ^ 13))
    ∧ ∀ word : Word, getBits word 31 28 = 1 →
      (9 ≤ getBits word 27 24 ∨ 4 ≤ getBits word 27 24 ∧ getBits word 27 24 ≤ 6 ∧ getBits word 13 5 ≠ 0) →
      exec (.engIllegalInstruction sl word) s = .next (s.engTrap sl 1)

/-- R344, R341: a branch taken jumps to PC + off14 in two cycles, one not taken goes on in one; JAL and JR save PC + 1 and jump,
JR to the index that s[sa] held. R344: LOOP repeats the next off14 instructions s[sa] times, skips them for a count of 0, and is
ILLEGAL inside a loop body or with an offset of 0 or below. -/
def Obligations.EngineFlowResults : Prop :=
  (∀ (s : State) (sl : Slice) (sa sb : BitVec 5) (off : BitVec 14), s.fetches sl →
        let e := s.eng sl
        let a := e.sget sa
        let b := e.sget sb
        let t := (s.engPc sl : Int) + off.toInt
        let branch := fun (i : Instr) (c : Prop) => (c → 0 ≤ t → t < 8192 → exec i s = .next (s.jumped sl e t.toNat))
          ∧ (¬c → (nextIndex (s.engPc sl) e.loop).1 < 8192 → exec i s = .next (s.wentOn sl 1 e))
        let back := BitVec.ofNat 32 (s.engPc sl + 1)
        branch (.engBeq sl sa sb off) (a = b) ∧ branch (.engBne sl sa sb off) (a ≠ b)
        ∧ branch (.engBlt sl sa sb off) (a.toInt < b.toInt) ∧ branch (.engBge sl sa sb off) (b.toInt ≤ a.toInt)
        ∧ branch (.engBltu sl sa sb off) (a.toNat < b.toNat) ∧ branch (.engBgeu sl sa sb off) (b.toNat ≤ a.toNat)
        ∧ (0 ≤ t → t < 8192 → exec (.engJal sl sa off) s = .next (s.jumped sl (e.sset sa back) t.toNat))
        ∧ (a.toNat < 8192 → exec (.engJr sl sa sb) s = .next (s.jumped sl (e.sset sb back) a.toNat)))
  ∧ (∀ (s : State) (sl : Slice) (sa : BitVec 5) (off : BitVec 14), s.fetches sl →
        let e := s.eng sl
        let pc := s.engPc sl
        let inside := ∃ n b x, e.loop = some (n, b, x) ∧ b ≤ pc ∧ pc < x
        (0 < off.toInt → ¬inside → pc + 1 < 8192 → e.sget sa ≠ 0 →
          exec (.engLoop sl sa off) s = .next ((s.setEng sl { e with loop := some ((e.sget sa).toNat, pc + 1, pc + 1 + off.toNat)
                                                                     busy := e.busy + 1 }).setFld (SL.ENGPC_PC sl) (pc + 1)))
        ∧ (0 < off.toInt → ¬inside → e.sget sa = 0 → pc + 1 + off.toNat < 8192 →
          exec (.engLoop sl sa off) s = .next ((s.setEng sl { e with loop := afterJump (pc + 1 + off.toNat) e.loop
                                                                     busy := e.busy + 1 }).setFld (SL.ENGPC_PC sl) (pc + 1 + off.toNat)))
        ∧ ((off.toInt ≤ 0 ∨ inside) → exec (.engLoop sl sa off) s = .next (s.engTrap sl 1)))

/-- R345: the vector arithmetic, each lane on its own: signed or unsigned, clamped or wrapped. R345: the vector logic,
comparisons, selection and the sum of the lanes; VMACQ adds the exact VMULQ result before the lane is clamped or wrapped (log
entry 22). -/
def Obligations.EngineVectorResults : Prop :=
  (∀ (s : State) (sl : Slice) (vd va vb : BitVec 3) (sb : BitVec 5) (sat sgn : Bool), s.issues sl →
        let e := s.eng sl
        let x := fun i => laneInt sgn (lane (e.vget va) i)
        let y := fun i => laneInt sgn (lane (e.vget vb) i)
        let sh := min (e.sget sb).toNat 16
        let product := fun i => (x i * y i + if 0 < sh then ((2 ^ (sh - 1) : Nat) : Int) else 0) / ((2 ^ sh : Nat) : Int)
        let write := fun (f : Nat → BitVec 16) => (Host.Outcome.next (s.wentOn sl 1 (e.vset vd (lanes f))) : Out)
        exec (.engVadd sl vd va vb sat sgn) s = write (fun i => laneFit sat sgn (x i + y i))
        ∧ exec (.engVsub sl vd va vb sat sgn) s = write (fun i => laneFit sat sgn (x i - y i))
        ∧ exec (.engVmulq sl vd va vb sb sat sgn) s = write (fun i => laneFit sat sgn (product i))
        ∧ exec (.engVmin sl vd va vb sgn) s = write (fun i => BitVec.ofInt 16 (min (x i) (y i)))
        ∧ exec (.engVmax sl vd va vb sgn) s = write (fun i => BitVec.ofInt 16 (max (x i) (y i)))
        ∧ exec (.engVabsd sl vd va vb sgn) s = write (fun i => BitVec.ofNat 16 (x i - y i).natAbs)
        ∧ exec (.engVshl sl vd va sb sat sgn) s = write (fun i => laneFit sat sgn (x i * ((2 ^ sh : Nat) : Int)))
        ∧ exec (.engVshr sl vd va sb sgn) s = write (fun i => BitVec.ofInt 16 (x i / ((2 ^ sh : Nat) : Int))))
  ∧ (∀ (s : State) (sl : Slice) (vd va vb : BitVec 3) (sb : BitVec 5) (sat sgn : Bool), s.issues sl →
        let e := s.eng sl
        let n := (e.sget sb).toNat
        let a := fun i => lane (e.vget va) i
        let b := fun i => lane (e.vget vb) i
        let d := fun i => lane (e.vget vd) i
        let write := fun (f : Nat → BitVec 16) => (Host.Outcome.next (s.wentOn sl 1 (e.vset vd (lanes f))) : Out)
        exec (.engVmacq sl vd va vb sb sat sgn) s = write (fun i => laneFit sat sgn (laneInt sgn (d i) + mulq sgn (a i) (b i) n))
        ∧ exec (.engVand sl vd va vb) s = write (fun i => a i &&& b i)
        ∧ exec (.engVor sl vd va vb) s = write (fun i => a i ||| b i)
        ∧ exec (.engVxor sl vd va vb) s = write (fun i => a i ^^^ b i)
        ∧ exec (.engVsplat sl vd sb) s = write (fun _ => BitVec.ofNat 16 n)
        ∧ exec (.engVcmplt sl vd va vb sgn) s = write (fun i => if laneInt sgn (a i) < laneInt sgn (b i) then 0xFFFF else 0)
        ∧ exec (.engVcmpeq sl vd va vb) s = write (fun i => if a i = b i then 0xFFFF else 0)
        ∧ exec (.engVsel sl vd va vb) s = write (fun i => if d i ≠ 0 then a i else b i)
        ∧ exec (.engVslide sl vd va vb sb) s = write (fun i => (e.vget va ++ e.vget vb).getD (i + n % 16) 0)
        ∧ exec (.engVrsum sl va sb sgn) s =
            .next (s.wentOn sl 1 (e.sset sb (BitVec.ofInt 32 ((e.vget va).map (laneInt sgn)).sum))))

/-- R346: loads and stores of data memory at s[sa] + off15, where the access is aligned, in range and not poisoned; VLUT replaces
each lane by the halfword at the address plus twice the lane. R348, R316, R317, R320: statistics reads, poisoned words as 0; the copy of u15 blocks of 64
bytes to data memory; and a read of a bank that is accumulating again, whose value is any value and which sets READLATE (log entry
23). -/
def Obligations.EngineMemoryResults : Prop :=
  (∀ (s : State) (sl : Slice) (sd sa : BitVec 5) (vd : BitVec 3) (off : BitVec 15), s.issues sl →
        let e := s.eng sl
        let at_ := fun (k : Nat) => ((((e.sget sa).toNat : Int) + off.toInt + 2 * k) % (2 ^ 32 : Nat)).toNat
        let a := at_ 0
        let reads := fun (n align : Nat) => a % align = 0 ∧ a + n ≤ 0x8000 ∧ s.poisoned (engDataBase sl + a) n = false
        let word := fun (a n : Nat) => leNat (s.dataBytes sl a n)
        let store := fun (l : List Byte) => (Host.Outcome.next ((s.dataPoke sl a l).wentOn sl 1 e) : Out)
        (reads 4 4 → exec (.engLdw sl sd sa off) s = .next (s.wentOn sl 1 (e.sset sd (BitVec.ofNat 32 (word a 4))))
          ∧ exec (.engStw sl sd sa off) s = store (leBytes 4 (e.sget sd).toNat))
        ∧ (reads 2 2 → exec (.engLdh sl sd sa off) s = .next (s.wentOn sl 1 (e.sset sd (BitVec.ofNat 32 (word a 2))))
          ∧ exec (.engSth sl sd sa off) s = store (leBytes 2 (e.sget sd).toNat))
        ∧ (reads 32 2 → exec (.engVld sl vd sa off) s =
              .next (s.wentOn sl 1 (e.vset vd (lanes fun i => BitVec.ofNat 16 (word (a + 2 * i) 2))))
          ∧ exec (.engVst sl vd sa off) s = store ((List.range 16).flatMap fun i => leBytes 2 (lane (e.vget vd) i).toNat))
        ∧ ((∀ i < 16, let w := at_ (lane (e.vget vd) i).toNat
              w % 2 = 0 ∧ w + 2 ≤ 0x8000 ∧ s.poisoned (engDataBase sl + w) 2 = false) →
            exec (.engVlut sl vd sa off) s =
              .next (s.wentOn sl 4 (e.vset vd (lanes fun i => BitVec.ofNat 16 (word (at_ (lane (e.vget vd) i).toNat) 2))))))
  ∧ (∀ (s : State) (sl : Slice) (sd sa : BitVec 5) (vd : BitVec 3) (u : BitVec 15), s.issues sl →
        let e := s.eng sl
        let a := (e.sget sa).toNat + u.toNat
        let src := (e.sget sa).toNat
        let d := (e.sget sd).toNat
        let n := 64 * u.toNat
        (s.bankReused sl a = false → a % 4 = 0 → a < 0x8000 →
          exec (.engStlw sl sd sa u) s = .next (s.wentOn sl 1 (e.sset sd (BitVec.ofNat 32 (leNat (s.cleanBytes (statsBase sl + a) 4))))))
        ∧ (s.bankReused sl a = false → a % 32 = 0 → a < 0x8000 →
          exec (.engStlv sl vd sa u) s = .next (s.wentOn sl 1 (e.vset vd (vecOf (s.cleanBytes (statsBase sl + a) 32)))))
        ∧ (s.bankReused sl src = false → 1 ≤ u.toNat → u.toNat ≤ 480 → src % 64 = 0 → d % 64 = 0 → src + n ≤ 0x8000 → d + n ≤ 0x8000 →
          exec (.engStcpy sl sd sa u) s =
            .next ((s.dataPoke sl d (s.cleanBytes (statsBase sl + src) n)).wentOn sl (2 * u.toNat) e))
        ∧ (s.bankReused sl a = true → a % 4 = 0 → a < 0x8000 → ∃ (v : BitVec 32) (n : Nat),
          exec (.engStlw sl sd sa u) s =
            .next ((({ s with fresh := n }).setFld (SL.STSTAT_READLATE sl) 1).wentOn sl 1 (e.sset sd v))))

/-- R346, R337, R609: a misaligned access traps with DALIGN, one that ends beyond 0x7FFF with DRANGE, one of a poisoned word with
ECC; and so does a word of a reserved class or operation with ILLEGAL (R340). R344,
R358, R609: an instruction fetched at or above CODELEN / 4 traps with CRANGE and one whose word is poisoned with ECC; an index that
no program counter holds traps with CRANGE as it is reached (log entry 207). R347: a TPOP or a TPUSH of a tap that is not
enabled, or of a plane outside the tap's mask, traps with TAPSEQ, and so does a TPOP beyond the last group of the line. -/
def Obligations.EngineTraps : Prop :=
  (∀ (s : State) (sl : Slice) (sd sa : BitVec 5) (off : BitVec 15) (word : Word), s.fetches sl →
        let a := ((((s.eng sl).sget sa).toNat + off.toInt) % (2 ^ 32 : Nat)).toNat
        (a % 4 ≠ 0 → exec (.engLdw sl sd sa off) s = .next (s.engTrap sl 2) ∧ exec (.engStw sl sd sa off) s = .next (s.engTrap sl 2))
        ∧ (a % 4 = 0 → 0x8000 ≤ a →
            exec (.engLdw sl sd sa off) s = .next (s.engTrap sl 3) ∧ exec (.engStw sl sd sa off) s = .next (s.engTrap sl 3))
        ∧ (a % 4 = 0 → a < 0x8000 → s.poisoned (engDataBase sl + a) 4 = true →
            exec (.engLdw sl sd sa off) s = .next (s.engTrap sl 5) ∧ exec (.engStw sl sd sa off) s = .next (s.engTrap sl 5))
        ∧ (engLegal word = false → exec (.engIllegalInstruction sl word) s = .next (s.engTrap sl 1)))
  ∧ (∀ (s : State) (sl : Slice) (sd sa sb : BitVec 5), s.engReady sl = true →
        let e := s.eng sl
        let bad := s.poisoned (engCodeBase sl + 4 * s.engPc sl) 4
        (e.codeLen / 4 ≤ s.engPc sl → exec (.engAdd sl sd sa sb) s = .next (s.engTrap sl 4) ∧ exec (.engHalt sl) s = .next (s.engTrap sl 4))
        ∧ (s.engPc sl < e.codeLen / 4 → bad = true →
            exec (.engAdd sl sd sa sb) s = .next (s.engTrap sl 5) ∧ exec (.engHalt sl) s = .next (s.engTrap sl 5))
        ∧ (s.engPc sl < e.codeLen / 4 → bad = false → 8192 ≤ (nextIndex (s.engPc sl) e.loop).1 →
            exec (.engAdd sl sd sa sb) s = .next ((s.setEng sl (e.sset sd (e.sget sa + e.sget sb))).engTrap sl 4)))
  ∧ (∀ (s : State) (sl : Slice) (vd : BitVec 3) (scaler : Bool) (plane : Fin 8), s.fetches sl →
        let t := (s.eng sl).tap scaler
        let mask := getBits (s.reg (tapCfg scaler sl)) 15 0
        let off := s.flag (tapEnFld scaler sl) = false
        (off ∨ bit mask plane.val = false ∨ (scaler = false ∧ 4 ≤ plane.val) → exec (.engTpop sl scaler vd plane) s = .next (s.engTrap sl 6))
        ∧ (off ∨ bit mask (8 + plane.val) = false ∨ (scaler = false ∧ 4 ≤ plane.val) →
            exec (.engTpush sl scaler vd plane) s = .next (s.engTrap sl 6))
        ∧ (∀ f y, s.tapAllows sl scaler plane.val 0 = true → t.line = some y → s.tapFrame sl scaler = some f →
            (s.scene (s.eng sl).cam f).tapWidth scaler plane.val ≤ 16 * t.popped.get plane.val 0 →
            exec (.engTpop sl scaler vd plane) s = .next (s.engTrap sl 6)))

/-- R347, R353, R355, R357: the tap instructions, the arrival of a line at a tap and an underrun. A sample past the end of the
line is any value (log entry 1). R353, R357: a line that reaches a tap waits there and posts TLINED or TLINES; a group that misses
its due time puts the tap in bypass, flags the frame, is counted in UNDERRUN and raises tap-underrun. -/
def Obligations.EngineTapResults : Prop :=
  (∀ (s : State) (sl : Slice) (sd : BitVec 5) (vd : BitVec 3) (scaler : Bool) (plane : Fin 8), s.issues sl →
        let e := s.eng sl
        let t := e.tap scaler
        let p := plane.val
        (∀ y last st r, t.ready = (y, last, st) :: r →
          let e1 := (e.setTap scaler { t with ready := r, line := some y, popped := [] }).sset sd
            (BitVec.ofNat 32 (y % 2 ^ 14 + 2 ^ 14 * b2n last + 2 ^ 16 * (st % 2 ^ 8)))
          exec (.engTline sl scaler sd) s =
            .next (s.wentOn sl 1 { e1 with latch := e1.latch.drop (if scaler then evTlines else evTlined), fed := s.now }))
        ∧ (∀ f y, s.tapAllows sl scaler p 0 = true → t.line = some y → s.tapFrame sl scaler = some f →
          let c := s.scene e.cam f
          let w := c.tapWidth scaler p
          let g := t.popped.get p 0
          let e1 := e.setTap scaler { t with popped := t.popped.set p (g + 1) }
          (16 * (g + 1) ≤ w → exec (.engTpop sl scaler vd plane) s =
            .next (s.wentOn sl 1 (e1.vset vd (lanes fun i => BitVec.ofNat 16 (c.popped scaler p (16 * g + i) y)))))
          ∧ (16 * g < w → ∃ (v : Nat → BitVec 16) (n : Nat), exec (.engTpop sl scaler vd plane) s =
            .next (({ s with fresh := n }).wentOn sl 1 (e1.vset vd (lanes fun i =>
              if 16 * g + i < w then BitVec.ofNat 16 (c.popped scaler p (16 * g + i) y) else v i)))))
        ∧ (∀ y, s.tapAllows sl scaler p 8 = true → t.line = some y →
          let v := (e.vget vd).map fun x => if scaler ∧ p = 7 then unsigned 16 (clamp (-128) 127 x.toInt) else x.toNat
          let key := tapKey (b2n scaler) p y
          let push := fun f : Frame => { f with taps := f.taps.set key (f.taps.get key [] ++ v) }
          (t.bypass = false → exec (.engTpush sl scaler vd plane) s = .next ((s.onFrame e.cam t.fn push).wentOn sl 1 e))
          ∧ (t.bypass = true → exec (.engTpush sl scaler vd plane) s = .next (s.wentOn sl 1 e)))
        ∧ (∀ f, s.tapFrame sl scaler = some f → exec (.engTstat sl scaler sd) s =
            .next (s.wentOn sl 1 (e.sset sd (BitVec.ofNat 32
              (ceilDiv ((s.scene e.cam f).tapWidth scaler 0) 16 % 2 ^ 10 + 2 ^ 16 * b2n t.bypass))))))
  ∧ (∀ (s : State) (sl : Slice) (scaler : Bool) (fn : Word) (line : BitVec 13),
        let e := s.eng sl
        let t := e.tap scaler
        let y := line.toNat
        (∀ f, (s.slFrames e.cam sl).find? (fun f => f.fn == fn.toNat) = some f →
          let h := if scaler then (s.scene e.cam f).inH else f.height
          let st := f.lstate (min y (f.height - 1))
          y < h → exec (.tapLineAvailable sl scaler fn line) s =
            .next ((s.setEng sl (e.setTap scaler { t with fn := f.fn, ready := t.ready ++ [(y, decide (y + 1 = h), st)] })).post sl
              (if scaler then evTlines else evTlined) [y, st]))
        ∧ (s.flag (tapEnFld scaler sl) = true → t.bypass = false →
          let u := (s.setEng sl (e.setTap scaler { t with bypass := true })).setFld (tapBypFld scaler sl) 1
          exec (.tapUnderrun sl scaler) s =
            .next (((u.onFrame e.cam t.fn fun f => f.sflag 7).bump (SL.ENGCNT0_UNDERRUN sl) 1).report 0x3055 sl (b2n scaler))))

/-- R349: SRD and SWR of a head register with fewer than four commands outstanding are queued in class 5 and counted in OUTST, the
record of a read pending; an offset below 0x1000 is refused without being sent. SCNT reads the count. R350: PQPUT submits the
aligned 16-byte entry at s[sa] and writes its status, in 1 to 64 cycles (how many is a free value); PQFN reads FNopen and PQUSED the entries used. -/
def Obligations.EngineQueueResults : Prop :=
  (∀ (s : State) (sl : Slice) (sd sa sb : BitVec 5) (len : Fin 4), s.issues sl →
        let e := s.eng sl
        let port := e.cam
        let off := (e.sget sa).toNat % 2 ^ 24
        let a := (e.sget sb).toNat
        let n := len.val + 1
        let record := fun (status : Byte) => s.dataPoke sl a [status, BitVec.ofNat 8 n, 0, 0, 0, 0, 0, 0]
        exec (.engScnt sl sd) s = .next (s.wentOn sl 1 (e.sset sd (BitVec.ofNat 32 (s.fld (SL.SCQSTAT_OUTST sl)))))
        ∧ (s.fld (SL.SCQSTAT_OUTST sl) < 4 → a % 8 = 0 → a < 0x8000 →
          (0x1000 ≤ off → exec (.engSrd sl sa sb len) s =
            .next ((((record 0xFF).bcQueue port (cmdRead 5 off n (.engine sl a true))).bump (SL.SCQSTAT_OUTST sl) 1).wentOn sl 1 e))
          ∧ (off < 0x1000 → exec (.engSrd sl sa sb len) s = .next (((record 0xF1).bump (SL.SCQSTAT_SCQERR sl) 1).wentOn sl 1 e)))
        ∧ (s.fld (SL.SCQSTAT_OUTST sl) < 4 →
          (0x1000 ≤ off → exec (.engSwr sl sa sb len) s =
            .next (((s.bcQueue port (cmdWrite 5 off (leBytes n a) (.engine sl 0 false))).bump (SL.SCQSTAT_OUTST sl) 1).wentOn sl 1 e))
          ∧ (off < 0x1000 → exec (.engSwr sl sa sb len) s = .next ((s.bump (SL.SCQSTAT_SCQERR sl) 1).wentOn sl 1 e))))
  ∧ (∀ (s : State) (sl : Slice) (sd sa : BitVec 5), s.issues sl →
        let e := s.eng sl
        let a := (e.sget sa).toNat
        let write := fun (v : Nat) => (Host.Outcome.next (s.wentOn sl 1 (e.sset sd (BitVec.ofNat 32 v))) : Out)
        (a % 16 = 0 → a < 0x8000 → s.poisoned (engDataBase sl + a) 16 = false →
          let r := s.took.pqPut e.cam e.port.isSome (pqDecode (s.dataBytes sl a 16))
          ∃ c, 1 ≤ c ∧ c ≤ 64 ∧ exec (.engPqput sl sd sa) s = .next (r.2.wentOn sl c ((r.2.eng sl).sset sd (BitVec.ofNat 32 r.1))))
        ∧ exec (.engPqfn sl sd) s = write (s.fnOpen e.cam)
        ∧ exec (.engPqused sl sd) s = write (s.fld (SL.PQSTAT_USED sl)))

/-- R351, R338, R354: the lowest latched event of a mask ends an EVWAIT at once and empties its latch; with none latched the
engine waits, for s[sa] microseconds where that is not 0; EVARG, TIME, REPORT and COMMIT, which
copies the persistence window, is lost once the service has ended, and traps on a poisoned word of it. R351: what ends an EVWAIT: the
destination takes the event's code, or 7 after the timeout, the latch of the event empties, and the engine runs on at the next
index. -/
def Obligations.EngineEventResults : Prop :=
  (∀ (s : State) (sl : Slice) (sd sa : BitVec 5) (imm : BitVec 15), s.issues sl →
        let e := s.eng sl
        let us := (e.sget sa).toNat
        let limit := if us = 0 then none else some (s.now + 1000 * us)
        let waits := (s.setEng sl { e with wait := some (imm.toNat, sd.toNat, limit) }).setFld (SL.ENGSTAT_STATE sl) esWaiting
        let write := fun (e1 : Eng) (v : Nat) => (Host.Outcome.next (s.wentOn sl 1 (e1.sset sd (BitVec.ofNat 32 v))) : Out)
        (imm.toNat < 256 → e.lowest imm.toNat = none → exec (.engEvwait sl sd sa imm) s = .next waits)
        ∧ (∀ c, imm.toNat < 256 → e.lowest imm.toNat = some c →
          exec (.engEvwait sl sd sa imm) s = .next (waits.endWait sl sd.toNat c))
        ∧ (imm.toNat < 4 → exec (.engEvarg sl sd imm) s = write e (e.last.getD imm.toNat 0))
        ∧ exec (.engineTimeNow sl sd) s = write { e with timeHi := s.now / 2 ^ 32 } s.now
        ∧ exec (.engineTimeHigh sl sd) s = write e e.timeHi
        ∧ exec (.engReport sl sa) s = .next ((s.report 0x3054 sl (e.sget sa).toNat).wentOn sl 1 e)
        ∧ (s.windowPoisoned sl = false →
          (e.port.isSome = true → exec (.engCommit sl) s =
            .next (s.wentOn sl 64 { e with shadow := some (s.dataBytes sl 0x7C00 1024) }))
          ∧ (e.port = none → exec (.engCommit sl) s = .next ((s.bump (SL.ENGCNT1_LOSTCOMMIT sl) 1).wentOn sl 64 e)))
        ∧ (s.windowPoisoned sl = true → exec (.engCommit sl) s = .next (s.engTrap sl 5)))
  ∧ (∀ (s : State) (sl : Slice) (mask d t code : Nat),
        let e := (s.eng sl).sset (BitVec.ofNat 5 d) (BitVec.ofNat 32 code)
        ((nextIndex (s.engPc sl) (s.eng sl).loop).1 < 8192 → s.endWait sl d code = ((s.setFld (SL.ENGSTAT_STATE sl) esRunning).wentOn sl 1
            { e with last := e.latch.get code [0, 0, 0, 0], latch := e.latch.drop code, wait := none, fed := s.now }))
        ∧ ((s.eng sl).wait = some (mask, d, some t) → exec (.engEvwaitTimeout sl) s = .next (s.endWait sl d 7)))

/-- R352: DMARD and DMAWR start the transfer that the 16-byte descriptor at s[sa] describes, or end it in error; DMAST reads the
state and tag of the last one; a transfer that ends copies its bytes, poisoned ones as 0 with their mark and in error (log
entry 208). R344, R358, R359, R367:
HALT stops the engine and raises engine-halt; the watchdog stops it with WDOG; a restart request, the clearing of its counters, a
read of ENGMDATA and the loading of a program for a planned move. -/
def Obligations.EngineMoverResults : Prop :=
  (∀ (s : State) (sl : Slice) (sd sa : BitVec 5),
        let e := s.eng sl
        let a := (e.sget sa).toNat
        let d := s.dataBytes sl a 16
        let win := fieldAt d 0 1
        let off := fieldAt d 4 4
        let la := fieldAt d 8 2
        let len := fieldAt d 10 2
        let tag := fieldAt d 12 4
        let fits := la % 64 = 0 ∧ len % 64 = 0 ∧ 64 ≤ len ∧ len ≤ 8192 ∧ la + len ≤ 0x8000
        let starts := fun (m : Mover) => (Host.Outcome.next (s.wentOn sl 1 { e with mover := m }) : Out)
        (s.issues sl → e.mover.state ≠ 1 → a + 16 ≤ 0x8000 → s.poisoned (engDataBase sl + a) 16 = false →
          (win = 0 → fits → off + len ≤ e.tabLen → exec (.engDmard sl sa) s = starts ⟨1, tag, some (true, e.tabAddr + off, la, len)⟩)
          ∧ (win = 1 → fits → off + len ≤ 65536 →
            exec (.engDmard sl sa) s = starts ⟨1, tag, some (true, traceBase sl + off, la, len)⟩
            ∧ exec (.engDmawr sl sa) s = starts ⟨1, tag, some (false, traceBase sl + off, la, len)⟩)
          ∧ (win = 0 → exec (.engDmawr sl sa) s = starts ⟨2, tag, none⟩))
        ∧ (s.issues sl → exec (.engDmast sl sd) s =
            .next (s.wentOn sl 1 (e.sset sd (BitVec.ofNat 32 (e.mover.state % 4 + 2 ^ 16 * (e.mover.tag % 2 ^ 16))))))
        ∧ (∀ read w l n, e.mover.job = some (read, w, l, n) →
          let src := if read then w else engDataBase sl + l
          let dst := if read then engDataBase sl + l else w
          let hit := fun (i : Nat) => s.memx.poison.contains (8 * ((src + i) / 8))
          let clean := (List.range n).map fun i => if hit i then 0 else Memory.get s.mem (src + i)
          let marks := ((List.range n).filter hit).map fun i => dst + i
          exec (.engineMoverDone sl) s =
            .next ((marks.foldl State.poisonWord (s.store dst clean)).setEng sl { e with mover := ⟨if s.poisoned src n then 2 else 0, e.mover.tag, none⟩ })))
  ∧ (∀ (s : State) (sl : Slice) (path : Path),
        let e := s.eng sl
        (s.fetches sl → exec (.engHalt sl) s = .next ((s.engStop sl 4 8).report 0x3051 sl (s.engPc sl)))
        ∧ (s.domainOn .pixel = true → (s.fld (SL.ENGSTAT_STATE sl) = 2 ∨ s.fld (SL.ENGSTAT_STATE sl) = 3) →
            exec (.engineWatchdog sl) s = .next (s.engTrap sl 7))
        ∧ (s.domainOn .pixel = true → exec (.engineRestartRequest sl) s = .next (s.setEng sl { e with restart := true }))
        ∧ (s.domainOn .pixel = true → exec (.engineCounterClear sl) s =
            .next (((s.setReg (SL.ENGCNT0 sl) 0).setReg (SL.ENGCNT1 sl) 0).setReg (SL.ENGCNT2 sl) 0))
        ∧ (s.domainOn .pixel = true →
            let a := 4 * (s.fld (SL.ENGMADDR_ADDR sl) / 4)
            let base := if s.flag (SL.ENGMADDR_SPACE sl) then engDataBase sl else engCodeBase sl
            exec (.engmdataRead path sl) s = .next { s.setFld (SL.ENGMADDR_ADDR sl) ((a + 4) % 0x8000) with
              readOut := s.readOut.set path.num (leBytes 4 (s.num (base + a) 4 % 2 ^ 32)) })
        ∧ (∀ p c u, s.domainOn .pixel = true → s.cams.find? (fun x => x.2.move.map (·.1) == some sl.val) = some (p, c) →
            c.move.map (·.2) ≠ some mvProgram →
            (s.setSstate sl ssLoading).loadEngine sl (s.progId p (s.setFor p)) = some u →
            exec (.engineLoad sl) s = .next (u.setCam p { c with moveTry := 0, moveReady := true })))

/-- R336, R342, R343: a scalar instruction of an engine leaves s0 at 0, every other register but its destination, every other
engine, every register but the engine's PC, all of memory and the queue as they were. -/
def Obligations.EngineScalarFrame : Prop :=
  ∀ (s t : State) (sl : Slice) (sd sa sb : BitVec 5) (imm : BitVec 14) (i : Instr), s.issues sl →
    i ∈ [Instr.engAdd sl sd sa sb, .engSub sl sd sa sb, .engAnd sl sd sa sb, .engOr sl sd sa sb, .engXor sl sd sa sb, .engSll sl sd sa sb,
      .engSrl sl sd sa sb, .engSra sl sd sa sb, .engMul sl sd sa sb, .engMulh sl sd sa sb, .engMulhu sl sd sa sb, .engSlt sl sd sa sb,
      .engSltu sl sd sa sb, .engMin sl sd sa sb, .engMax sl sd sa sb, .engClz sl sd sa, .engAddi sl sd sa imm, .engAndi sl sd sa imm,
      .engOri sl sd sa imm, .engXori sl sd sa imm, .engSlti sl sd sa imm] →
    exec i s = .next t →
    (t.eng sl).sget 0 = 0 ∧ (∀ r, r ≠ sd → (t.eng sl).sget r = (s.eng sl).sget r) ∧ (∀ v, (t.eng sl).vget v = (s.eng sl).vget v)
    ∧ (∀ k, k ≠ sl.val → t.eng k = s.eng k) ∧ (∀ a, a ≠ (SL.ENGPC_PC sl).addr → t.reg a = s.reg a) ∧ t.mem = s.mem ∧ t.pending = s.pending

/-- R336, R346: a store of an engine writes the bytes of its source at the address it computes, and no other byte of memory; it
leaves every scalar and vector register and every other engine as they were. -/
def Obligations.EngineStoreFrame : Prop :=
  ∀ (s t : State) (sl : Slice) (sd sa : BitVec 5) (vd : BitVec 3) (off : BitVec 15), s.issues sl → Memory.wf s.mem = true →
    let e := s.eng sl
    let a := ((((e.sget sa).toNat : Int) + off.toInt) % (2 ^ 32 : Nat)).toNat
    let base := engDataBase sl + a
    let fits := fun (n align : Nat) => a % align = 0 ∧ a + n ≤ 0x8000 ∧ s.poisoned base n = false
    let stored := fun (l : List Byte) =>
      (∀ i < l.length, Memory.get t.mem (base + i) = l.getD i 0)
      ∧ (∀ x, (x < base ∨ base + l.length ≤ x) → Memory.get t.mem x = Memory.get s.mem x)
      ∧ (∀ r, (t.eng sl).sget r = e.sget r) ∧ (∀ v, (t.eng sl).vget v = e.vget v) ∧ ∀ k, k ≠ sl.val → t.eng k = s.eng k
    (fits 4 4 → exec (.engStw sl sd sa off) s = .next t → stored (leBytes 4 (e.sget sd).toNat))
    ∧ (fits 2 2 → exec (.engSth sl sd sa off) s = .next t → stored (leBytes 2 (e.sget sd).toNat))
    ∧ (fits 32 2 → exec (.engVst sl vd sa off) s = .next t → stored ((List.range 16).flatMap fun i => leBytes 2 (lane (e.vget vd) i).toNat))

/-! ## The fault log and the keeper -/

/-- R539, R543: the next report goes to the log, a waiting F report first, else the oldest of the intake queue, and FAULT_N
follows. R538 to R540: a report waits for the keeper: an F report in its own path, a C or U report at the end of the intake queue
while fewer than 64 wait there and the newest is of another fault. -/
def Obligations.FaultResults : Prop :=
  (∀ (s : State) (r : FReport) (rest : List FReport), s.sys.vio = true →
        (s.keeper.fpend = r :: rest →
          exec .faultRecordWrite s = .next (({ s with keeper := { s.keeper with fpend := rest } }.writeF r).driveFaultN))
        ∧ (s.keeper.fpend = [] → s.keeper.intake = r :: rest →
          exec .faultRecordWrite s = .next (({ s with keeper := { s.keeper with intake := rest } }.writeCU r).driveFaultN)))
  ∧ (∀ (s : State) (code inst arg : Nat),
        let r : FReport := ⟨code, inst, arg % 2 ^ 64, s.clock, !s.tsu.running, 1, s.clock⟩
        let k := s.report code inst arg
        (k.mem = s.mem ∧ k.tsu = s.tsu ∧ k.keeper.log = s.keeper.log)
        ∧ (faultClass code ≠ 2 → mergeNewest code inst s.clock s.keeper.intake = none → s.keeper.intake.length < 64 →
            k.keeper.intake = s.keeper.intake ++ [r]))

/-- R541, R545, R546: the keeper's commands that need no power but the keeper's: KARG takes the argument, KSTAT shows the code and
whether it was refused. R545, R597: the window over two wires: its offset, whole words written at KARG and KCMD, and bytes read on
from the offset. R548, R549: a heartbeat restarts its age; one lost is reported and, where HBACT says so, enters SAFE or resets
the device; a lockstep mismatch holds its pair and enters SAFE. -/
def Obligations.KeeperResults : Prop :=
  (∀ (s : State) (k : Word), s.sys.vio = true →
        let u := s.setReg KPR.KARG k
        let said := fun (code : Nat) => u.report 0x0203 0 (packArg [(16, code), (32, k.toNat)])
        let done := fun (code : Nat) (t : State) => (Host.Outcome.next (t.setFlds [(KPR.KSTAT_LAST, code), (KPR.KSTAT_ERR, 0)]) : Out)
        let refused := fun (code : Nat) (t : State) => (Host.Outcome.next (t.setFlds [(KPR.KSTAT_LAST, code), (KPR.KSTAT_ERR, 1)]) : Out)
        (∀ t, k.toNat < 1024 → u.markRead k.toNat = some t → exec (.keeperMarkRead k) s = done 1 t)
        ∧ (∀ t, getBits k 15 10 = 0 → u.clearRecord (getBits k 9 0) (getBits k 31 16) = some t → exec (.keeperClearRecord k) s = done 2 t)
        ∧ exec (.keeperForceUplinkIdle k) s = done 3 (((said 3).setFld KPR.DOMST_UPIDLE 1).lkOff .upl).bridgeOff
        ∧ exec (.keeperReleaseUplink k) s = done 4 (((said 4).setFld KPR.DOMST_UPIDLE 0).lkOn .upl)
        ∧ (k.toNat < 512 → exec (.keeperResetDomains k) s = done 5 ((said 5).resetDomains k.toNat))
        ∧ ((said 6).powered = true → exec (.keeperResetDevice k) s = done 6 ((said 6).enterBoot 2 false))
        ∧ ((said 7).powered = true → exec (.keeperEnterSafe k) s = done 7 ((said 7).keeperSafe 7))
        ∧ (k.toNat < 8 → exec (.keeperSetPinmask k) s = done 8 (u.setFld FCU.PINMASK_MASK k.toNat).driveFaultN)
        ∧ ∀ code : Byte, exec (.keeperCommandRefused code k) s = refused code.toNat u)
  ∧ (∀ (s : State) (kpr : Bool) (off : BitVec 16) (data : List Byte) (n : Nat), s.keeperAnswers kpr = true →
        let p := kprPath kpr
        exec (.keeperOffsetSet kpr off) s = .next (s.setKoffset p off.toNat)
        ∧ (data = [] → exec (.keeperWrite kpr off data) s = .next (s.setKoffset p off.toNat))
        ∧ (off = 4 → data.length = 4 →
          exec (.keeperWrite kpr off data) s = .next ((s.setKoffset p 8).setReg KPR.KARG (BitVec.ofNat 32 (leNat data))))
        ∧ (let x := s.windowBytes p n (s.koffset p) none
           let u := x.2.setKoffset p (s.koffset p + n)
           exec (.keeperRead kpr n) s = .next { u with readOut := u.readOut.set p.num x.1, sent := u.sent ++ [.wire p x.1] }))
  ∧ (∀ s : State, s.alive = true →
        (s.sys.pairA.ran = true → s.mode ≠ .standby → s.keeper.hbLost = false → s.hbLimit < s.hbAge →
          exec .cpxHeartbeatLost s = .next s.heartbeatLost)
        ∧ (s.sys.pairA.ran = true →
          let u := ({ s with sys := { s.sys with pairA := .held } }.setFld KPR.DOMST_CPXHOLDA 1).raiseF 0x0601 0 0
          u.sys.pairB ≠ .held → exec (.lockstepMismatch false) s = .next (u.resetPairs false true))
        ∧ (s.sys.pairA = .standby →
          exec (.lockstepMismatch false) s =
            .next ((({ s with sys := { s.sys with pairA := .held } }.setFld KPR.DOMST_CPXHOLDA 1).report 0x0602 0 0).switchFails)))

/-! ## Registers and the bridge -/

/-- R10, R12, R550, R622, R624, R656, R658: a read of NOWL gives the low word of the time and latches the high word on its own
path; a read of OVFC gives and zeroes the counter with its first lost code; a write by Sirfiqua to a hole changes nothing; a host
write that a test refuses is reported, one that none refuses acts as Sirfiqua's. -/
def Obligations.RegisterAccesses : Prop :=
  ∀ (s : State) (p : Path) (reg v : Word) (tag : BitVec 12),
    let a := reg.toNat
    (s.domainOn .fabric = true → a = TSU.NOWL → pathReaches p a = true → ∃ t, exec (.snapshotRead p reg) s = .next t
      ∧ t.readOut.get p.num [] = leBytes 4 s.now ∧ t.snaps.get (snapKey p TSU.NOWH) 0 = BitVec.ofNat 32 (s.now / 2 ^ 32)
      ∧ t.mem = s.mem ∧ ∀ x, t.reg x = s.reg x)
    ∧ (s.sys.vio = true → a = FCU.OVFC → ∃ t, exec (.rclrRead p reg) s = .next t
      ∧ t.readOut.get p.num [] = leBytes 4 (s.fld FCU.OVFC_LOST) ∧ t.fld FCU.OVFC_LOST = 0 ∧ t.fld FCU.FIRSTLOST_CCODE = 0
      ∧ t.fld FCU.FIRSTLOST_UCODE = s.fld FCU.FIRSTLOST_UCODE ∧ t.mem = s.mem)
    ∧ (a % 4 = 0 → regAt a = none → exec (.registerWrite none reg v) s = .next s)
    ∧ (a % 4 = 0 → exec (.registerWrite none reg v) s = .next (s.writeReg a v false))
    ∧ (∀ st d, s.bridgeTest a 4 true true = some (st, d) →
      exec (.registerWrite (some tag) reg v) s = .next (s.pwFail tag.toNat a st d 0xFFFF))
    ∧ (a < 0x1000000 → s.bridgeTest a 4 true true = none →
      exec (.registerWrite (some tag) reg v) s = .next (s.writeReg a v false))
    ∧ (s.cpxRuns = true → exec (.heartbeatWrite v) s =
      .next { s.setFlds [(KPR.HB_COUNT, v.toNat), (KPR.HBLAST_TIME, s.clock)] with
        keeper := { s.keeper with hbTime := s.clock, hbLost := false } })

/-- R401, R406, R407: a read of the local scope ends at once within the fast window, else in a delayed-read buffer; a read of a
head is answered RETRY and issued in class 5; a retry is answered from its buffer, which it frees; a result that nobody claims is
discarded and counted. R406, R407: the fast window of a read passes, its fetch ends, and an unclaimed result is discarded. -/
def Obligations.BridgeReads : Prop :=
  (∀ (s u : State) (p : Pkt), s.domainOn .uplink = true → s.popPkt (fun p => p.kind == pkRdreq) = some (p, u) →
        let c := p.payload.getD 0 0
        let a := acAddr c
        let n := acCount c
        let good := acOpc c = 0 ∧ n ≤ 512 ∧ p.payload.length = 1
        let hold := fun (head fast : Bool) => ({ u with bridge := { u.bridge with drbs := u.bridge.drbs ++
          [{ tag := p.id, addr := a, n := n, fast := fast, head := head,
             endAt := if fast then u.clock else 0 }] } } : State)
        (∀ st d fast, good → u.drbOf p.id = none → u.bridgeTest a n true false = some (st, d) →
          exec (.brgRead fast) s = .next (u.complete p.id a n st d []))
        ∧ (∀ fast, ¬good → u.drbOf p.id = none → exec (.brgRead fast) s = .next (u.complete p.id a n 3 0 []))
        ∧ (good → u.drbOf p.id = none → u.bridgeTest a n true false = none → 192 ≤ scopeOf a →
          let x := u.localRead .bridge a n
          exec (.brgRead true) s = .next (x.2.complete p.id a n x.1.1 x.1.2.1 x.1.2.2)
          ∧ exec (.brgRead false) s = .next (hold false true))
        ∧ (∀ fast, good → u.drbOf p.id = none → u.bridgeTest a n true false = none → scopeOf a < 192 → u.lockOn (scopeOf a) = none →
          u.drBusy < 64 → exec (.brgRead fast) s =
            .next (((hold true false).bcQueue (scopeOf a) (cmdRead 5 (a % 0x1000000) n (.bridgeRead p.id a n))).complete p.id a n 1 0 []))
        ∧ (∀ d fast, acOpc c = 0 → u.drbOf p.id = some d → d.addr = a → d.n = n →
          (d.result = none → exec (.brgRead fast) s = .next (u.complete p.id a n 1 0 []))
          ∧ ∀ st det data, d.result = some (st, det, data) → d.tag = p.id →
            exec (.brgRead fast) s = .next ((u.dropDrb d).complete p.id a n st det data)))
  ∧ (∀ (s : State) (tag : BitVec 12) (d : Drb),
        let map := fun (s : State) (f : Drb → Drb) => { s with bridge := { s.bridge with drbs := s.bridge.drbs.map fun x => if x = d then f x else x } }
        (s.bridge.drbs.find? (fun d => d.tag == tag.toNat && d.fast) = some d →
          (d.endAt + s.fastNs ≤ s.clock → s.drBusy < 64 → exec (.brgFastwinExpiry tag) s = .next ((map s fun x => { x with fast := false }).complete d.tag d.addr d.n 1 0 []))
          ∧ (s.clock < d.endAt + s.fastNs → exec (.brgFastwinExpiry tag) s = .next s)
          ∧ (d.endAt + s.fastNs ≤ s.clock → 64 ≤ s.drBusy → exec (.brgFastwinExpiry tag) s =
            .next (((s.dropDrb d).complete d.tag d.addr d.n 1 1 []).bump BRG.CNT0_NOBUF 1)))
        ∧ (s.bridge.drbs.find? (fun d => d.tag == tag.toNat && !d.head && d.result.isNone) = some d →
          let x := s.localRead .bridge d.addr d.n
          (d.fast = true → exec (.brgDelayedReadDone tag) s = .next ((x.2.dropDrb d).complete d.tag d.addr d.n x.1.1 x.1.2.1 x.1.2.2))
          ∧ (d.fast = false → exec (.brgDelayedReadDone tag) s =
            .next (map x.2 fun y => { y with result := some x.1, endAt := x.2.clock })))
        ∧ (s.bridge.drbs.find? (fun d => d.tag == tag.toNat && d.result.isSome) = some d → d.endAt + 990000 ≤ s.clock →
          exec (.brgDelayedReadDiscard tag) s = .next ((s.dropDrb d).bump BRG.CNT1_DRDISCARD 1)))

/-- R402 to R404: a posted write that fails a test is reported with its code and DETAIL; a good one to a head waits in its port's
queue of 64, or is discarded with QFULL; a good one to memory stores its bytes. -/
def Obligations.BridgeWrites : Prop :=
  ∀ (s u : State) (p : Pkt), s.domainOn .uplink = true → s.popPkt (fun p => p.kind == pkPwrite) = some (p, u) →
    let c := p.payload.getD 0 0
    let a := acAddr c
    let n := acCount c
    let data := bytesAt (crumbsBytes (p.payload.drop 1)) 0 n
    let port := scopeOf a
    let fails := fun (st d : Nat) => (Host.Outcome.next (u.pwFail p.id a st d (if port < 192 then port else 0xFFFF)) : Out)
    let good := acOpc c = 0 ∧ n ≤ 512 ∧ p.payload.length = 1 + (n + 7) / 8
    (¬good → exec .brgWrite s = fails 3 0)
    ∧ (∀ st d, good → u.bridgeTest a n true true = some (st, d) → exec .brgWrite s = fails st d)
    ∧ (good → u.bridgeTest a n true true = none →
      (port < 192 → u.headWrites port < 64 →
        exec .brgWrite s = .next (u.bcQueue port (cmdWrite 5 (a % 0x1000000) data (.bridgeWrite p.id a))))
      ∧ (port < 192 → 64 ≤ u.headWrites port → exec .brgWrite s = .next ((u.pwFail p.id a 0x0C 0 port).bump BRG.CNT2_QFULL 1))
      ∧ (192 ≤ port → 0x1000000 ≤ a → u.partialPoison a n = false → exec .brgWrite s = .next (u.store a data))
      ∧ (192 ≤ port → 0x1000000 ≤ a → u.partialPoison a n = true →
        exec .brgWrite s = .next ((u.store a data).pwFail p.id a 4 0 0xFFFF))
      ∧ (192 ≤ port → a < 0x1000000 → exec .brgWrite s = .next (u.writeCsr a data false)))

/-- R410 to R412: an LREAD takes a free lock of its port and is issued; a second lock of a port and a ninth lock are LOCK_BUSY; an
LWRITE of the lock's tag is issued, an LRELEASE closes the lock with OK; a step without a lock is NOT_LOCKED; a lock left open too
long expires, is counted and reported. -/
def Obligations.LockedSequences : Prop :=
  ∀ (s u : State) (p : Pkt) (port : Port), s.domainOn .uplink = true →
    let c := p.payload.getD 0 0
    let a := acAddr c
    let n := acCount c
    let b := u.bridge
    (s.popPkt (isLocked 0) = some (p, u) → acOpc c = 0 → n ≤ 512 → p.payload.length = 1 → scopeOf a < 192 →
        u.bridgeTest a n true false = none →
      (u.lockOn (scopeOf a) ≠ none → exec .brgLread s = .next (u.complete p.id a n 9 0 []))
      ∧ (u.lockOn (scopeOf a) = none → 8 ≤ b.locks.length → exec .brgLread s = .next (u.complete p.id a n 9 1 []))
      ∧ (u.lockOn (scopeOf a) = none → b.locks.length < 8 → u.flag BRG.CTL_COMPATNOW = false → exec .brgLread s =
        .next ({ u with bridge := { b with locks := ⟨p.id, scopeOf a, 0, 0⟩ :: b.locks, expired := b.expired.filter fun e => e.1 != p.id } }.bcQueue
          (scopeOf a) (cmdRead 5 (a % 0x1000000) n (.locked 0 p.id a n)))))
    ∧ (s.popPkt (s.stepRuns 1) = some (p, u) → ∀ l, u.lockOf p.id = some l → l.port = scopeOf a → n ≤ 64 →
        p.payload.length = 1 + (n + 7) / 8 → u.bridgeTest a n true false = none →
      exec .brgLwrite s = .next ({ u with bridge := { b with locks := b.locks.map fun x => if x = l then { x with stage := 2 } else x } }.bcQueue
        l.port (cmdWrite 5 (a % 0x1000000) (bytesAt (crumbsBytes (p.payload.drop 1)) 0 n) (.locked 1 p.id a n))))
    ∧ (s.popPkt (s.stepRuns 2) = some (p, u) →
      (∀ l, u.lockOf p.id = some l → exec .brgLrelease s = .next ((u.closeLock l).complete p.id a n 0 0 []))
      ∧ (u.lockOf p.id = none → (∀ e ∈ b.expired, e.1 ≠ p.id) → exec .brgLrelease s = .next (u.complete p.id a n 0x0A 0 [])))
    ∧ (∀ l, s.lockOn port = some l → l.stage = 1 → (∀ q ∈ s.upl.rxq, ¬(q.id = l.tag ∧ (isLocked 1 q = true ∨ isLocked 2 q = true))) →
      l.at_ + s.lockNs ≤ s.clock → exec (.brgLockTimeout port) s =
      .next (({ s with bridge := { s.bridge with locks := s.bridge.locks.filter (fun x => x != l)
                                                 expired := (l.tag, s.clock, 0) :: s.bridge.expired } }.bump BRG.CNT2_LOCKTO 1).report 0x0902 l.port 0))

/-- R419, R420, R577, R579: a CAN_TX that is well formed enters the queue of a controller that sends, BADITEM answers one that is
not; a two-wire request of 1 to 64 bytes becomes one REG_WRITE or REG_READ at the tunnel offset, a head message the command it
spells. R405, R413, R415, R423, R427: the first eligible message goes to the uplink with the count of its source; IMASK is
written; PWERRH and LOST are cleared, and so are the bridge's counters; the mode asked for takes effect once nothing is
outstanding. -/
def Obligations.TunnelsAndMessages : Prop :=
  (∀ (s u : State) (p : Pkt), s.domainOn .uplink = true →
        let i := tnItem p
        let can := fun p : Pkt => p.kind == pkTunnel && (p.id == 0x700 || p.id == 0x701)
        let port := tunnelPort p
        (s.popPkt can = some (p, u) →
          let c := p.id % 2
          let x := u.can c
          let good := tnForm p = true ∧ tnType p = 2 ∧ canItemGood (u.flag (CAN.CTL_FDEN c)) i = true
          let sends := u.flag (CAN.CTL_EN c) = true ∧ u.flag (CAN.CTL_LISTEN c) = false ∧ u.fld (CAN.STAT_STATE c) ≠ 2
          (¬good → exec .canTx s = .next (u.txDone c 3 (tnTag p) 0 i))
          ∧ (good → ¬sends → exec .canTx s = .next (u.txDone c 2 (tnTag p) 0 i))
          ∧ (good → sends → 32 ≤ x.queue.length → exec .canTx s = .next (u.txDone c 1 (tnTag p) 0 i))
          ∧ (good → sends → x.queue.length < 32 → exec .canTx s = .next (u.setCan c { x with
            queue := x.queue ++ [(tnTag p, i)], headAt := if x.queue = [] then u.clock else x.headAt })))
        ∧ (s.popPkt (fun p => p.kind == pkTunnel && p.id == 0x708) = some (p, u) →
          tnForm p = true → tnType p = 0x10 → port < 192 → twGood i = true → u.accessible port (twOffset i) = true → u.headTunnels port < 16 →
          let o := Origin.tunnel p.id 0x11 (tnTag p) (i.take 8)
          exec .twReq s = .next (u.bcQueue port
            (if fieldAt i 2 1 = 0 then cmdRead 5 (twOffset i) (fieldAt i 3 1) o else cmdWrite 5 (twOffset i) (i.drop 8) o)))
        ∧ (s.popPkt (fun p => p.kind == pkTunnel && p.id == 0x709) = some (p, u) →
          let h := fieldAt i 0 8
          tnForm p = true → tnType p = 0x20 → port < 192 → hmGood i = true →
          u.accessible port (if h % 64 = bcPoll then 0 else bitsOf h 39 16) = true → u.headTunnels port < 16 →
          exec .hmReq s = .next (u.bcQueue port ⟨h % 64, bitsOf h 55 16, i.drop 8, 5, .tunnel p.id 0x21 (tnTag p) (i.take 8)⟩)))
  ∧ (∀ (s : State) (mask : BitVec 11),
        (∀ m, s.uplUp = true → s.upl.hello = false → s.intr.find? s.eligible = some m → s.flag BRG.CTL_COMPATNOW = false →
          let q := s.iseq.get m.src 0
          exec .intmsgSend s = .next { s with intr := s.intr.filter (fun x => x != m), iseq := s.iseq.set m.src ((q + 1) % 65536)
                                              upl := { s.upl with q0 := s.upl.q0 ++ [m.pkt q] } })
        ∧ (s.domainOn .fabric = true → exec (.interruptUnmask mask) s = .next (s.setFld BRG.IMASK_EN mask.toNat))
        ∧ (s.domainOn .fabric = true → exec .pwerrClear s = .next (s.setFlds [(BRG.PWERRH_VALID, 0), (BRG.PWERRT_LOST, 0)]))
        ∧ (s.domainOn .fabric = true → ∃ t, exec .bridgeCounterClear s = .next t ∧ t.fld BRG.CNT0_RETRYTX = 0 ∧ t.fld BRG.CNT0_NOBUF = 0
          ∧ t.fld BRG.CNT1_DRDISCARD = 0 ∧ t.fld BRG.CNT1_REFUSED = 0 ∧ t.fld BRG.CNT2_QFULL = 0 ∧ t.fld BRG.CNT2_LOCKTO = 0
          ∧ t.fld BRG.CNT3_TUNERR = 0 ∧ t.mem = s.mem ∧ t.upl = s.upl)
        ∧ (s.domainOn .fabric = true → s.upl.rxq = [] → s.hostBusy = false → s.bridge.drbs = [] → s.bridge.locks = [] → s.mbx.runs = [] →
          exec .compatSwitch s = .next (s.setFld BRG.CTL_COMPATNOW (s.fld BRG.CTL_COMPAT))))

/-! ## The uplink -/

/-- R375 to R379, R382: a CREDIT that passes its checks gives its limits and acknowledgement; a NAK replays, an INIT makes the
link layer come up, or starts it again where it was up. R370: one of a class other than 0 is a bad kind. R483: the same on the peer
link, whose packets that waited then go, and where a class below its least limit stays closed. -/
def Obligations.CreditPackets : Prop :=
  (∀ (s : State) (h : Crumb) (r : List Crumb), s.uplOperating = true → s.uplLoops = false → s.upl.injRx = false →
    pktCheck (h :: r) = 0 → bitsOf h.toNat 5 0 = 10 → bitsOf h.toNat 46 37 = 3 →
    let cs := h :: r
    let l := r.take 3
    let good := bitsOf h.toNat 8 6 = 0
    let seq := bitsOf h.toNat 36 21
    let u := s.limits l
    let starts := fun (x : State) =>
      let y := x.limits l
      ((y.setUpl { y.upl with initGot := true, initDue := y.upl.initDue + 1 }).closeClasses [0, 1, 2, 3, 4]).comeUp
    (∀ c < 5, u.fld (UPL.UPTXCL_CL c) = bitsOf (l.getD (c / 2) 0).toNat (if c % 2 = 0 then 31 else 63) (if c % 2 = 0 then 0 else 32))
    ∧ (good → s.flag UPL.UPSTAT_UP = true → bit h.toNat 49 = false → bit h.toNat 50 = false →
      exec (.uplCredit cs false) s = .next (u.acked seq))
    ∧ (good → s.flag UPL.UPSTAT_UP = true → bit h.toNat 49 = false → bit h.toNat 50 = true →
      exec (.uplCreditNak cs false) s = .next (((u.acked seq).bump UPL.UPCNT0_NAKRX 1).startReplay false))
    ∧ (¬good → bit h.toNat 49 = false → bit h.toNat 50 = false → exec (.uplCredit cs false) s = .next (s.bump UPL.UPCNT3_BADKIND 1))
    ∧ (good → bit h.toNat 49 = true → (s.flag UPL.UPSTAT_UP = false → exec (.uplCreditInit cs false) s = .next (starts s))
      ∧ (s.flag UPL.UPSTAT_UP = true → exec (.uplCreditInit cs false) s = .next (starts (s.uplRestart 3)))))
  ∧ (∀ (s : State) (h : Crumb) (r : List Crumb), s.peerUp = true → s.pl.initSent = true →
    pktCheck (h :: r) = 0 → bitsOf h.toNat 5 0 = 10 → bitsOf h.toNat 8 6 = 0 → bitsOf h.toNat 46 37 = 3 →
    let cs := h :: r
    let l := r.take 3
    let seq := bitsOf h.toNat 36 21
    let u := s.setPl { s.pl with txcl := creditLimits l }
    let shut := (if u.pl.txcl.get 0 0 < 1 then [0] else []) ++ if u.pl.txcl.get 1 0 < 17 then [1] else []
    let starts := fun (x : State) =>
      ((x.setPl { x.pl with txcl := creditLimits l, initGot := true, closed := shut }).plSendCredit true false).plUp
    (∀ c < 5, u.pl.txcl.get c 0 = bitsOf (l.getD (c / 2) 0).toNat (if c % 2 = 0 then 31 else 63) (if c % 2 = 0 then 0 else 32))
    ∧ (s.pl.up = true → bit h.toNat 49 = false →
      (bit h.toNat 50 = false → exec (.uplCredit cs true) s = .next (u.plAcked seq).plPumped)
      ∧ (bit h.toNat 50 = true → exec (.uplCreditNak cs true) s = .next (u.plAcked seq).plReplaySoon.plPumped))
    ∧ (bit h.toNat 49 = true → (s.pl.up = false → exec (.uplCreditInit cs true) s = .next (starts s))
      ∧ (s.pl.up = true → exec (.uplCreditInit cs true) s = .next (starts (s.plRestart 3)))))

/-- R376, R377: an acknowledgement within the window takes the packets up to it from the replay buffer; any other is ignored; a
replay sends every unacknowledged packet again, at most once in 10 µs. R374, R483: on the peer link too a new packet is numbered
and kept, and a re-initialisation makes what is unacknowledged wait to be sent again. -/
def Obligations.AcknowledgementAndReplay : Prop :=
  ∀ (s : State) (seq : Nat) (timeout : Bool), seq < 65536 →
    let d := (seq + 65536 - s.fld UPL.UPSEQ_TXACK) % 65536
    let held := s.upl.replay
    (d = 0 ∨ held.length < d → s.acked seq = s)
    ∧ (0 < d → d ≤ held.length → (s.acked seq).upl.replay = held.drop d ∧ (s.acked seq).fld UPL.UPSEQ_TXACK = seq
      ∧ (s.acked seq).mem = s.mem)
    ∧ (held ≠ [] → (∀ t, s.upl.replayAt = some t → t + 10000 ≤ s.clock) → (s.startReplay timeout).upl.again = held
      ∧ (s.startReplay timeout).upl.replay = held ∧ (s.startReplay timeout).mem = s.mem)
    ∧ (∀ t, s.upl.replayAt = some t → s.clock < t + 10000 → s.startReplay timeout = s)
    ∧ (let e := (seq + 65536 - s.pl.txAck) % 65536
      let kept := s.pl.replay
      (e = 0 ∨ kept.length < e → s.plAcked seq = s)
      ∧ (0 < e → e ≤ kept.length → (s.plAcked seq).pl.replay = kept.drop e ∧ (s.plAcked seq).pl.txAck = seq ∧ (s.plAcked seq).mem = s.mem)
      ∧ (∀ t, s.pl.replayAt = some t → s.clock < t + 10000 → s.plReplaySoon = s)
      ∧ (∀ p, (s.peerNew p).pl.replay = kept ++ [(s.pl.txNext, p)] ∧ (s.peerNew p).pl.txNext = (s.pl.txNext + 1) % 65536
        ∧ (s.peerNew p).mem = s.mem)
      ∧ ∀ cause, (s.pairReinit cause).pl.wait = kept.map (·.2) ++ s.pl.wait ∧ (s.pairReinit cause).pl.replay = [])

/-- R375, R376, R377, R382, R395: the timers of the link layer and the fault injections. R370, R375, R378, R379, R383, R388: a
good packet with the LSEQ that is due is accepted, one ahead of it enters NAK state, one behind is acknowledged again, one whose
CRC fails is counted, as is one that the injected fault drops; the transmitter sends a CREDIT that is due first, then a replay in progress, then HELLO. A looped
group (R395) hears its own transmitter alone. R483: the timers and the reception of the peer link, whose CREDITs leave at once. -/
def Obligations.UplinkResults : Prop :=
  (∀ s : State,
        let u := s.upl
        (s.uplOperating = true → u.initSent = true → u.initGot = false →
          exec (.uplInitRepeat false) s = .next (s.setUpl { u with initDue := max 1 u.initDue }))
        ∧ (s.uplOperating = true → u.initGot = false → u.ackAt + 1000000 ≤ s.clock →
          let x := s.link .upl
          (x.attempts + 1 < 16 → exec (.uplInitTimeout false) s = .next ((s.setLink .upl { x with attempts := x.attempts + 1 }).lkRetrain .upl))
          ∧ (16 ≤ x.attempts + 1 → x.failRep = false → exec (.uplInitTimeout false) s =
            .next (((s.setLink .upl { x with attempts := x.attempts + 1, failRep := true }).lkReport .upl 2 16).lkRetrain .upl)))
        ∧ (s.uplOperating = true → s.flag UPL.UPSTAT_NAKWAIT = true → exec (.uplNakResend false) s = .next (s.setUpl { u with nakDue := true }))
        ∧ (s.uplUp = true → exec (.uplAckTimer false) s = .next (s.setUpl { u with ackDue := true }))
        ∧ (s.uplUp = true → u.ackAt + s.replayNs ≤ s.clock → exec (.uplReplayTimeout false) s = .next (s.startReplay true))
        ∧ (s.uplUp = true → u.replay ≠ [] → u.ackAt + s.stallNs .upl ≤ s.clock → exec (.uplAckStallReinit false) s = .next (s.uplRestart 1))
        ∧ (s.domainOn .uplink = true → exec .injectTxCrc s = .next (s.setUpl { u with injTx := true })
          ∧ exec .injectRxDrop s = .next (s.setUpl { u with injRx := true })))
  ∧ (∀ s : State,
        let x := s.pl
        (s.peerUp = true → x.initGot = false →
          (x.initSent = true → exec (.uplInitRepeat true) s = .next (s.plSendCredit true false))
          ∧ (x.ackAt + 1000000 ≤ s.clock → exec (.uplInitTimeout true) s = .next (s.initTimeout .peer)))
        ∧ (s.peerUp = true → x.nakWait = true → exec (.uplNakResend true) s = .next (s.plSendCredit false true))
        ∧ (s.peerUp = true → x.up = true → exec (.uplAckTimer true) s = .next (s.plSendCredit false false)
          ∧ (x.ackAt + 100000 ≤ s.clock → exec (.uplReplayTimeout true) s = .next s.plReplaySoon)
          ∧ (x.replay ≠ [] → x.ackAt + s.stallNs .peer ≤ s.clock → exec (.uplAckStallReinit true) s = .next (s.plRestart 1)))
        ∧ (∀ (h : Crumb) (r : List Crumb), s.peerUp = true → x.initSent = true →
          let d := (bitsOf h.toNat 36 21 + 65536 - x.rxNext) % 65536
          (pktCheck (h :: r) ≠ 0 → exec (.uplinkPacketReceive (h :: r) true) s = .next s.plNak)
          ∧ (pktCheck (h :: r) = 0 → bitsOf h.toNat 5 0 ≠ 10 → bitsOf h.toNat 5 0 ≠ 0x10 →
            (d = 0 → exec (.uplinkPacketReceive (h :: r) true) s = .next (s.plAccept h (r.take (bitsOf h.toNat 46 37))))
            ∧ (0 < d → d ≤ 32767 → exec (.uplinkPacketReceive (h :: r) true) s = .next s.plNak)
            ∧ (32767 < d → exec (.uplinkPacketReceive (h :: r) true) s = .next (s.plSendCredit false false)))))
  ∧ (∀ (s : State) (h : Crumb) (r : List Crumb), s.uplOperating = true →
        let loops := s.uplLoops = true
        let u := s.upl
        let cs := h :: r
        let plen := bitsOf h.toNat 46 37
        let d := (bitsOf h.toNat 36 21 + 65536 - s.fld UPL.UPRXSEQ_RXNEXT) % 65536
        (∀ x : State, x.nakState = if x.flag UPL.UPSTAT_NAKWAIT then x
          else (x.setFld UPL.UPSTAT_NAKWAIT 1).setUpl { x.upl with nakDue := true })
        ∧ (¬loops → u.initSent = true → u.injRx = false → pktCheck cs = 0 → bitsOf h.toNat 5 0 ≠ 10 →
          (d = 0 → exec (.uplinkPacketReceive cs false) s = .next (s.accept h (r.take plen)))
          ∧ (0 < d → d ≤ 32767 → exec (.uplinkPacketReceive cs false) s = .next s.nakState)
          ∧ (32767 < d → exec (.uplinkPacketReceive cs false) s = .next (s.setUpl { u with ackDue := true })))
        ∧ (¬loops → u.initSent = true →
          (crc8Good h = false → exec (.uplinkPacketReceive cs false) s = .next (s.bump UPL.UPCNT2_HCRCERR 1).nakState)
          ∧ (crc8Good h = true → pktCheck cs = 2 → exec (.uplinkPacketReceive cs false) s = .next (s.bump UPL.UPCNT2_TCRCERR 1).nakState)
          ∧ (u.injRx = true → pktCheck cs = 0 →
            exec (.uplinkPacketReceive cs false) s = .next ((s.setUpl { u with injRx := false }).bump UPL.UPCNT2_TCRCERR 1).nakState))
        ∧ (loops → exec (.uplinkPacketReceive cs false) s = .next s)
        ∧ (0 < u.initDue → exec .uplinkPacketTransmit s =
          .next ((s.setUpl { u with initDue := u.initDue - 1, initSent := true }).sendCredit true false).comeUp)
        ∧ (u.initDue = 0 → u.nakDue = true → exec .uplinkPacketTransmit s =
          .next (((s.setUpl { u with nakDue := false, ackDue := false }).sendCredit false true).bump UPL.UPCNT0_NAKTX 1))
        ∧ (u.initDue = 0 → u.nakDue = false → u.ackDue = true → exec .uplinkPacketTransmit s =
          .next ((s.setUpl { u with ackDue := false }).sendCredit false false))
        ∧ (u.initDue = 0 → u.nakDue = false → u.ackDue = false → s.flag UPL.UPSTAT_UP = true →
          (∀ x l, u.again = x :: l → u.injTx = false →
            exec .uplinkPacketTransmit s = .next ((s.setUpl { u with again := l, injTx := false }).uplSend (x.pkt.crumbs x.lseq)))
          ∧ (u.again = [] → u.hello = true → s.mayLow s.helloPkt = true →
            exec .uplinkPacketTransmit s = .next ((s.setUpl { u with hello := false }).sendNew s.helloPkt none))))

/-! ## Mailboxes -/

/-- R430, R431, R435, R457: a doorbell that stays within 64 entries of CCI moves CPI and makes the entries up to it eligible, one
beyond puts the channel in ERROR; a write of RCI frees slots, or puts the channel in ERROR; a reset silences the channel's
commands, and ends with its indices at 0, its level at 0x0300 and the channel IDLE. -/
def Obligations.MailboxChannels : Prop :=
  ∀ (s : State) (ch : Chan) (v : BitVec 16) (i2c : Bool), s.domainOn .fabric = true →
    let n := v.toNat
    let st := s.fld (MBX.CST_STATE ch)
    let cci := s.fld (MBX.IDX_CCI ch)
    let cpi := s.fld (MBX.DB_CPI ch)
    (st ≠ 4 → idxDiff n cci ≤ 64 → exec (.doorbell ch v i2c) s = .next { s.setFld (MBX.DB_CPI ch) n with
      mbx := { s.mbx with order := (s.mbx.order.filter fun e => e.1 != ch.val || decide (idxDiff e.2.1 cci < idxDiff n cci)) ++
        if st = 3 then [] else (List.range (idxDiff n cci - idxDiff cpi cci)).map fun i => (ch.val, (cpi + i) % 65536, i2c) } })
    ∧ (st ≠ 4 → 64 < idxDiff n cci → ∃ t, exec (.doorbell ch v i2c) s = .next t ∧ t = s.chError ch n
      ∧ t.fld (MBX.CST_STATE ch) = 3 ∧ t.fld (MBX.DB_CPI ch) = cpi ∧ t.mem = s.mem)
    ∧ (st ≠ 4 → idxDiff (s.fld (MBX.IDX_RPI ch)) n ≤ 64 →
      exec (.responseConsume ch v) s = .next ((s.setFld (MBX.RCI_RCI ch) n).chState ch))
    ∧ (st ≠ 4 → 64 < idxDiff (s.fld (MBX.IDX_RPI ch)) n → exec (.responseConsume ch v) s = .next (s.chError ch n))
    ∧ (st = 4 → exec (.doorbell ch v i2c) s = .next s ∧ exec (.responseConsume ch v) s = .next s ∧ exec (.channelReset ch) s = .next s)
    ∧ (st ≠ 4 → ∃ t, exec (.channelReset ch) s = .next t ∧ t.fld (MBX.CST_STATE ch) = 4 ∧ (∀ e ∈ t.mbx.order, e.1 ≠ ch.val)
      ∧ (∀ r ∈ t.mbx.runs, r.ch = ch.val → r.mute = true) ∧ t.mem = s.mem)
    ∧ (st = 4 → ∃ t, exec (.channelResetDone ch) s = .next t ∧ t.fld (MBX.DB_CPI ch) = 0 ∧ t.fld (MBX.RCI_RCI ch) = 0
      ∧ t.fld (MBX.IDX_CCI ch) = 0 ∧ t.fld (MBX.IDX_RPI ch) = 0 ∧ t.fld (MBX.CST_LEVEL ch) = 0x0300 ∧ t.fld (MBX.CST_COMPAT ch) = 0
      ∧ t.fld (MBX.CST_STATE ch) = 0 ∧ ∀ a, (a < 0x100000000 + 0x10000 * ch.val ∨ 0x100010000 + 0x10000 * ch.val ≤ a) →
        Memory.get t.mem a = Memory.get s.mem a)

/-- R428, R433, R434, R436: a final response is written whole into the entry at RPI of its channel, and into no other byte, and
RPI is raised by one. -/
def Obligations.MailboxResponses : Prop :=
  ∀ (s : State) (r : Req) (status detail : Nat) (result : List Byte), r.ch < 64 → r.mute = false → Memory.wf s.mem = true →
    let rpi := s.fld (MBX.IDX_RPI r.ch)
    let base := 0x15E81000 + 0x2000 * r.ch + 0x40 * (rpi % 64)
    let entry := leBytes 2 r.opcode ++ leBytes 2 1 ++ leBytes 2 r.tag ++ leBytes 2 result.length ++ leBytes 2 status ++ leBytes 2 r.level
      ++ leBytes 4 detail ++ bytesAt result 0 48
    let t := s.final r status detail result
    t.fld (MBX.IDX_RPI r.ch) = (rpi + 1) % 65536
    ∧ (∀ i < 64, Memory.get t.mem (base + i) = entry.getD i 0)
    ∧ ∀ a, (a < base ∨ base + 64 ≤ a) → Memory.get t.mem a = Memory.get s.mem a

/-- R432, R434, R435, R442: the entry whose doorbell came first is read, its channel's CCI moves past it, and it is checked: it
becomes the channel's command, or is answered with the error of the first check that fails. R443: at level 2.4 the port of
PORT_STATUS and PORT_RETRAIN is taken by its alias. -/
def Obligations.MailboxAcceptance : Prop :=
  ∀ (s : State) (ch : Chan) (i : Nat) (i2c : Bool) (rest : List (Nat × Nat × Bool)),
    s.serving = true → s.mbx.order = (ch.val, i, i2c) :: rest → s.chFree ch = true → s.chRoom ch = true →
    let e := s.bytes (cmdEntry ch i) 64
    let op := fieldAt e 0 2
    let shi := fieldAt e 8 2
    let chl := s.fld (MBX.CST_LEVEL ch)
    let level := if shi = 0 ∨ op = 0x0101 ∨ shiServed chl shi = false then chl else shi
    let len := fieldAt e 6 2
    let r : Req := { ch := ch, opcode := op, tag := fieldAt e 4 2, noint := bit (fieldAt e 2 2) 0 || i2c, level := level, len := len,
                     body := bytesAt (bytesAt e 16 (min len 48)) 0 48 }
    let x := { s with mbx := { s.mbx with order := s.mbx.order.filter fun y => y != (ch.val, i, i2c) } }.setFld (MBX.IDX_CCI ch) ((i + 1) % 65536)
    let u := { x with mbx := { x.mbx with cur := x.mbx.cur.set ch r } }.chState ch
    s.poisoned (cmdEntry ch i) 64 = false →
    (u.checkEntry ch e level = none → level ≠ 0x0204 → exec .mailboxEntryAccept s = .next u ∧ u.takes ch op = some r)
    ∧ (u.checkEntry ch e level = none → level = 0x0204 → op ≠ 0x0200 → op ≠ 0x0201 → exec .mailboxEntryAccept s = .next u)
    ∧ (u.checkEntry ch e level = none → level = 0x0204 → (op = 0x0200 ∨ op = 0x0201) →
      (u.aliasOf (r.arg 0 2) = none → exec .mailboxEntryAccept s = .next (u.refuse r 4 0))
      ∧ ∀ p, u.aliasOf (r.arg 0 2) = some p → exec .mailboxEntryAccept s =
        .next { u with mbx := { u.mbx with cur := u.mbx.cur.set ch { r with body := leBytes 2 p ++ r.body.drop 2 } } })
    ∧ ∀ st d, u.checkEntry ch e level = some (st, d) → exec .mailboxEntryAccept s = .next (u.refuse r st d)

/-- R445, R446: the SYS commands. -/
def Obligations.SystemCommands : Prop :=
  ∀ (s : State) (ch : Chan) (r : Req),
    let is := fun (op : Nat) => s.takes ch op = some r
    (is 0x0100 → exec (.sysNop ch) s = .next (s.done r []))
    ∧ (is 0x0101 → 0x0300 ≤ r.arg 2 2 → r.arg 0 2 ≤ min (r.arg 2 2) 0x0302 →
      let l := min (r.arg 2 2) 0x0302
      let u := s.setFlds [(MBX.CST_LEVEL r.ch, l), (MBX.CST_COMPAT r.ch, 0)]
      let u := { u with mbx := { u.mbx with agents := u.mbx.agents.set r.ch (r.arg 4 4) } }
      exec (.sysHello ch) s = .next (u.done r (leBytes 2 l ++ leBytes 2 0x0302 ++ leBytes 2 0x0204 ++ leBytes 1 u.dev ++ leBytes 1 0
        ++ u.words4 [GLB.IDCODE, GLB.MODE] ++ leBytes 4 (u.fld GLB.CFGGEN_GEN))))
    ∧ (∀ i, is 0x0102 → s.sys.image = some i → exec (.sysInfo ch) s = .next (s.done r (s.words4 [GLB.IDCODE, GLB.MODE]
        ++ (leBytes 4 (fieldAt i.body 0x0C 4) ++ leBytes 2 (fieldAt i.body 0x10 2) ++ leBytes 1 (s.fld GLB.MODE_BOOTSLOT) ++ leBytes 1 0)
        ++ s.words4 [GLB.BUILD, KPR.STRAPS])))
    ∧ (is 0x0103 →
      let target := Mode.ofCode (r.arg 0 1)
      let busy := s.flag GLB.MODE_BUSY = true
      (busy → exec (.sysSetMode ch) s = .next (s.refuse r 0x0102 0))
      ∧ (¬busy → 8 ≤ r.arg 0 1 → exec (.sysSetMode ch) s = .next (s.refuse r 4 0))
      ∧ (¬busy → r.arg 0 1 < 8 → target = .degraded ∨ (target ≠ s.mode ∧ legalMove s.mode target = false) →
        exec (.sysSetMode ch) s = .next (s.refuse r 0x0101 0))
      ∧ (¬busy → r.arg 0 1 < 8 → target = .service → target ≠ s.mode → legalMove s.mode target = true →
        (s.granted = true → exec (.sysSetMode ch) s =
          .next (({ s with sec := { s.sec with grant := none } }.setFld SEC.SECSTAT_GRANT 0).beginTrans r .service))
        ∧ (s.granted = false → exec (.sysSetMode ch) s = .next (s.refuse r 0x000A 0)))
      ∧ (¬busy → r.arg 0 1 < 8 → target = .run → s.mode = .prepare →
        let fits := s.checkPixels s.cfg.active = none ∧ s.checkMemory s.cfg.active [] = none
        (fits → exec (.sysSetMode ch) s = .next (s.beginTrans r .run)) ∧ (¬fits → exec (.sysSetMode ch) s = .next (s.refuse r 0x0103 0)))
      ∧ (¬busy → r.arg 0 1 < 8 → target = .paired → s.mode = .prepare ∨ s.mode = .run →
        (s.dev = 0 → exec (.sysSetMode ch) s = .next (s.refuse r 0x0104 1))
        ∧ (s.dev ≠ 0 → s.pairAdmits s.pair.mode = true → exec (.sysSetMode ch) s = .next ((s.interim r []).startJoin r.ch r.tag)))
      ∧ (r.arg 0 1 < 8 → s.flag GLB.MODE_BUSY = false → target ≠ .degraded → target = s.mode →
        exec (.sysSetMode ch) s = .next (s.done r (leBytes 4 (s.reg GLB.MODE).toNat)))
      ∧ (r.arg 0 1 < 8 → s.flag GLB.MODE_BUSY = false → target ≠ s.mode → legalMove s.mode target = true →
        (target = .standby ∨ target = .boot ∨ target = .safe) → exec (.sysSetMode ch) s = .next (s.beginTrans r target)))
    ∧ (is 0x0104 → exec (.sysGetMode ch) s = .next (s.done r (s.words4 [GLB.MODE, GLB.WAKE])))
    ∧ (is 0x0105 → r.arg 0 2 = 0 →
      let n := r.arg 2 1
      let ports := (List.range n).map fun i => r.arg (3 + i) 1
      let share := ((List.range n).filter fun i => bit (r.arg 43 5) i).map fun i => r.arg (3 + i) 1
      1 ≤ n → n ≤ 40 → ports.Nodup → (∀ p ∈ ports, p < 192) →
      exec (.sysPriority ch) s =
        .next ({ s with mbx := { s.mbx with priority := ports, share := share } }.done r (leBytes 2 n)))
    ∧ (is 0x0106 → r.arg 0 1 ≤ 1 → (∀ i < 24, r.arg (2 + i) 1 < 192 ∨ r.arg (2 + i) 1 = 255) → (∀ x ∈ s.mbx.runs, x.opcode ≠ 0x0106) →
      let u := ({ s with mbx := { s.mbx with ck2100 := bytesAt r.body 2 24 } }.setFld BRG.CTL_COMPAT (r.arg 0 1)).interim r []
      exec (.sysCompat ch) s = .next (u.answerCompat u.mbx.runs))

/-- R434, R447, R448: the PORT and HEAD commands of an enabled port. -/
def Obligations.PortCommands : Prop :=
  ∀ (s : State) (ch : Chan) (r : Req) (port : Port),
    let is := fun (op : Nat) => s.takes ch op = some r
    let p := port.val
    let x := s.port p
    let here := r.arg 0 2 = p ∧ CfgSet.portEnabled (s.setFor p) p = true
    let head := here ∧ (s.pstate p = psReady ∨ s.pstate p = psStreaming)
    (is 0x0200 → here → exec (.portStatus ch) s = .next (s.done r
        (s.words4 [HP.PSTAT p, HP.PCTL p, linkBase (.hp port) + 0x104, HP.INGSTAT p, HP.INGFN p] ++ s.serial p)))
    ∧ (is 0x0201 → here → exec (.portRetrain ch) s = .next ((s.lkRetrain (.hp port)).done r []))
    ∧ (is 0x0202 → here → r.arg 2 1 ≤ 1 → exec (.portAuth ch) s =
      .next ((s.askPctl p (((x.pctlNext.getD (s.reg (HP.PCTL p)).toNat) / 256 % 256) * 256 + r.arg 2 1 + 65536 * r.arg 3 1)).done r []))
    ∧ (is 0x0203 → here →
      let counts := s.words4 [HP.ICNT0 p, HP.ICNT1 p, HP.ICNT2 p, HP.ICNT3 p, HP.ICNT4 p, HP.PCNT0 p, HP.PCNT1 p]
      (r.arg 2 1 = 0 → exec (.portCounters ch) s = .next (s.done r counts))
      ∧ (r.arg 2 1 = 1 → exec (.portCounters ch) s = .next ((s.lkClear (.hp port)).done r counts)))
    ∧ (is 0x0300 → 1 ≤ r.arg 2 2 → r.arg 2 2 ≤ 256 →
      let entry := fun i => match s.ledger[r.arg 0 2 + i]? with
        | some e => e.bytes
        | none => List.replicate 256 0
      let b := (List.range (r.arg 2 2)).flatMap entry
      exec (.headLedger ch) s = .next ((s.poke (resultBuf r.ch) b).done r (leBytes 8 (resultBuf r.ch) ++ leBytes 4 b.length ++ leBytes 2 s.ledger.length)))
    ∧ (is 0x0301 → head → exec (.headLensReset ch) s = .next ((s.setPort p { x with
        sharp := [], hours := [], wearPend := x.wearPend ++ [(0x0F, 1, withBit (fieldAt x.wearNow 0x0F 1) 1 false)] }).done r []))
    ∧ (is 0x0302 → head → exec (.headReauth ch) s = .next ((s.interim r []).challenge p true))
    ∧ (is 0x0303 → head → exec (.headPoll ch) s = .next ((s.interim r []).bcQueue p ⟨bcPoll, 0, [], 6, .poll r.ch r.tag⟩))
    ∧ (is 0x0200 → r.arg 0 2 = p → CfgSet.portEnabled (s.setFor p) p = false → exec (.portStatus ch) s = .next (s.refuse r 0x000C 0))
    ∧ (is 0x0303 → here → s.pstate p ≠ psReady → s.pstate p ≠ psStreaming →
      exec (.headPoll ch) s = .next (s.refuse r 0x0301 (s.pstate p)))

/-- R273, R279, R314, R359, R449, R450, R453, R515: the SLICE, STREAM, LAT, STAT and PAIR commands; the counters of STREAM_STATUS
are those of log entry 82, PAIR_ROLES asks as log entry 83 says. -/
def Obligations.SliceStreamPairCommands : Prop :=
  ∀ (s : State) (ch : Chan) (r : Req),
    let is := fun (op : Nat) => s.takes ch op = some r
    let a := r.arg 0 2
    let buffer := fun (s : State) (b : List Byte) (more : List Byte) => (Host.Outcome.next
      ((s.poke (resultBuf r.ch) b).done r (leBytes 8 (resultBuf r.ch) ++ leBytes 4 b.length ++ more)) : Out)
    (is 0x0400 → a < 208 → exec (.sliceStatus ch) s = .next (s.done r ((leBytes 1 (s.sstate a) ++ leBytes 1 0
        ++ leBytes 2 ((s.portOf a).getD 0xFFFF)) ++ s.words4 [SL.ENGSTAT a, SL.ENGPROG a, SL.ENGCNT0 a, SL.TAPSTAT a])))
    ∧ (is 0x0401 → a < 192 →
      let t := s.pqPut a (s.pstate a == psStreaming && !(s.mode == .paired && s.standby a)) (pqDecode (bytesAt r.body 4 16))
      (t.1 = 0 → exec (.slicePqput ch) s = .next (t.2.done r (leBytes 4 (s.fnOpen a) ++ leBytes 8 s.now)))
      ∧ (1 ≤ t.1 → t.1 ≤ 5 → exec (.slicePqput ch) s = .next (t.2.refuse r (0x0400 + t.1) 0)))
    ∧ (is 0x0402 → a < 208 → exec (.sliceTrace ch) s = buffer s (s.bytes (traceBase a) 65536) [])
    ∧ (∀ sl, is 0x0403 → a < 192 → CfgSet.portEnabled (s.setFor a) a = true → s.sliceOf a = some sl →
      exec (.sliceRestart ch) s = .next ((s.setEng sl { s.eng sl with restart := true }).done r []))
    ∧ (is 0x0404 → 10 ≤ r.arg 0 4 → r.arg 0 4 ≤ 86400 → 1 ≤ r.arg 4 1 → r.arg 4 1 ≤ 4 → r.arg 5 1 ≤ 1 → exec (.sliceProving ch) s =
      .next ((((s.setFld XBAR.ROTPER_PERIOD (r.arg 0 4)).setFlds [(XBAR.ROTCTL_MAXWIN, r.arg 4 1), (XBAR.ROTCTL_PAUSE, r.arg 5 1)]).pausedCheck).done r []))
    ∧ (is 0x0500 → a < 1536 → a % 8 < 4 → CfgSet.portEnabled (s.setFor (a / 8)) (a / 8) = true →
        CfgSet.streamOn (s.setFor (a / 8)) (a / 8) (a % 8) = true →
      let c := s.setFor (a / 8)
      let x := s.stream a
      let f := CfgSet.formatOf c a
      let pol := CfgSet.fld c 3 a (SL.OCTL_POLICY 0 (a % 8))
      exec (.streamStatus ch) s = .next (s.done r (leBytes 1 (f.getD 0 0) ++ leBytes 1 pol ++ leBytes 1 (b2n (pol == 1)) ++ leBytes 1 (b2n x.opened)
        ++ leBytes 4 (if x.fseq = 0 then 0 else x.fseq - 1) ++ leBytes 4 x.lastFn ++ (s.streamCounts a).flatMap (leBytes 2)
        ++ leBytes 2 (f.getD 1 0) ++ leBytes 2 (f.getD 2 0))))
    ∧ (is 0x0501 → exec (.streamList ch) s = buffer s ((List.range 256).map fun j =>
        BitVec.ofNat 8 ((List.range 8).foldl (fun a i => a + if (s.stream (8 * j + i)).opened then 2 ^ i else 0) 0)) [])
    ∧ (let n := r.arg 0 1
      is 0x0600 → n < 8 → CfgSet.latDefined s.cfg.active n = false → exec (.latStatus ch) s = .next (s.refuse r 0x000C 0))
    ∧ (let n := r.arg 0 1
      let record := s.words4 ((List.range 16).map (LT.LREC n))
      is 0x0600 → n < 8 → CfgSet.latDefined s.cfg.active n = true → exec (.latStatus ch) s =
        .next (s.done r (s.word4 (LT.LLFN n) ++ bytesAt record 4 4 ++ bytesAt record 0x24 4 ++ bytesAt record 0x28 4 ++ bytesAt record 0x2C 4
          ++ bytesAt record 0x30 4 ++ bytesAt record 0x34 4 ++ (leBytes 2 (s.fld (LT.LCNT_INCOMPLETE n)) ++ leBytes 2 (s.fld (LT.LCNT_SKIPPED n))
          ++ leBytes 1 (1 + 2 * b2n (s.latOwner s.cfg.active n) + 4 * b2n (bit (s.fld LAT.LATSTAT_BUSY) n))))))
    ∧ (∀ sl, is 0x0700 → a < 192 → CfgSet.portEnabled (s.setFor a) a = true → s.sliceOf a = some sl →
      let b := s.statRead sl (0x3C00 * s.fld (SL.STSTAT_BANK sl)) 14912
      allZero b.1 0 64 = false → exec (.statRead ch) s = buffer b.2 b.1 (bytesAt b.1 4 4))
    ∧ (is 0x0701 → exec (.statLoad ch) s = .next (s.done r ((leBytes 4 (ceilQ (s.pixelLoad s.cfg.active)) ++ leBytes 4 (s.pixelBudget s.cfg.active)
        ++ leBytes 4 s.bwRes ++ leBytes 1 s.freeSpares.length ++ leBytes 1 (s.fld CLK.THRSTAT_STEP) ++ leBytes 2 0) ++ s.words4 [UPL.UPLOAD, UPL.UPCAP])))
    ∧ (is 0x0900 → exec (.pairStatus ch) s = .next (s.done r ((leBytes 1 s.prState ++ leBytes 1 0 ++ leBytes 2 (s.fld PEER.PLEVEL_PMAX)
        ++ leBytes 2 (s.fld PEER.PPEER_PMAX) ++ leBytes 2 s.prLevel) ++ portMap s.prima)))
    ∧ (is 0x0901 → s.prState = prPaired → s.pair.purpose = 0 →
      let moves := (List.range 192).filter fun p => bit (r.arg 0 24) p && s.pairedCam p && s.prima p != bit (r.arg 24 24) p
      (∀ p ∈ moves, s.primaryHere p = true) →
      let u := (s.interim r []).setPair { s.pair with purpose := 1, roles := some (r.ch, r.tag, false) }
      exec (.pairRoles ch) s = .next (((moves.filter fun p => (u.sliceOf p).isSome).foldl (fun (s : State) p => s.giveCamera p) u).handoversDone))
    ∧ (is 0x0901 → s.prState ≠ prPaired → exec (.pairRoles ch) s = .next (s.refuse r 0x0901 0))

/-- R440, R451, R452, R460 to R467, R620: the CFG commands, the epoch of a flip and the release of what an object held. -/
def Obligations.ConfigurationCommands : Prop :=
  ∀ (s : State) (ch : Chan) (r : Req),
    let is := fun (op : Nat) => s.takes ch op = some r
    let gen := s.fld GLB.CFGGEN_GEN
    let staged := fun (n len base size : Nat) => s.mbx.stages.has n = true ∧ s.mbx.stages.get n (0, 0, 0) = (r.ch, base, size) ∧ 1 ≤ len ∧ len ≤ size
    (is 0x0800 → 1 ≤ r.arg 0 4 → r.arg 0 4 ≤ 67108864 → (s.mbx.stages.get 1 (r.ch, 0, 0)).1 = r.ch → exec (.cfgStage ch) s =
      .next ((s.openStage 1 r.ch 0x10C000000 (r.arg 0 4)).done r (leBytes 8 0x10C000000 ++ leBytes 4 (r.arg 0 4))))
    ∧ (∀ base size, is 0x0801 → s.flipPending = false → staged 1 (r.arg 0 4) base size →
      exec (.cfgLoad ch) s = .next ((s.closeStage 1).interimAt r base []))
    ∧ (∀ c, is 0x0802 → s.flipPending = false → 1 ≤ r.arg 6 1 → r.arg 6 1 ≤ 40 →
        CfgSet.put s.cfg.shadow (r.arg 0 1) (r.arg 2 2) (r.arg 4 2) (bytesAt r.body 8 (r.arg 6 1)) = some c →
      exec (.cfgEdit ch) s = .next ((s.setShadow c).done r []))
    ∧ (is 0x0803 → s.flipPending = false → exec (.cfgCopy ch) s = .next ((s.setShadow s.cfg.active).done r []))
    ∧ (s.flipPending = true → (is 0x0803 → exec (.cfgCopy ch) s = .next (s.refuse r 0x080A 0))
      ∧ (is 0x0801 → exec (.cfgLoad ch) s = .next (s.refuse r 0x080A 0)) ∧ (is 0x0802 → exec (.cfgEdit ch) s = .next (s.refuse r 0x080A 0))
      ∧ (is 0x0805 → exec (.cfgFlip ch) s = .next (s.refuse r 0x080A 0)))
    ∧ (is 0x0804 →
      (s.admission s.cfg.shadow s.pairView = none → exec (.cfgCheck ch) s =
        .next ((s.interim r []).finish r.ch r.opcode r.tag 0 0 (s.checkResult s.cfg.shadow)))
      ∧ ∀ st d, s.admission s.cfg.shadow s.pairView = some (st, d) → exec (.cfgCheck ch) s = .next (s.refuse r st d))
    ∧ (is 0x0805 → s.flipPending = false →
        r.arg 0 1 = 0 ∧ r.arg 2 2 = 0 ∧ r.arg 8 8 ≤ s.now + 60000000000
          ∨ r.arg 0 1 = 1 ∧ r.arg 2 2 < 192 ∧ s.pstate (r.arg 2 2) = psStreaming ∧ r.arg 8 8 = 0 →
        (bit (r.arg 1 1) 0 = false ∨ r.arg 16 4 = gen) → s.mirrors = false →
      (∀ st d, s.admission s.cfg.shadow s.pairView = some (st, d) → exec (.cfgFlip ch) s = .next (s.refuse r st d))
      ∧ (s.admission s.cfg.shadow s.pairView = none →
        let f : Flip := { chan := r.ch, tag := r.tag, epoch := if r.arg 0 1 = 0 then some (r.arg 8 8) else none,
                          pace := if r.arg 0 1 = 0 then none else some (r.arg 2 2), admitted := s.now, reached := false, todo := [],
                          done := [], moves := [], failed := none, remote := false, wait := 0, tdone := 0, num := (s.pair.num + 1) % 65536 }
        (s.admitFlip f).mirrors = false → exec (.cfgFlip ch) s = .next ((s.admitFlip f).flipGo f (some r))))
    ∧ (is 0x0806 → (s.cfg.flip = none → exec (.cfgCancel ch) s = .next (s.done r []))
      ∧ (∀ f, s.cfg.flip = some f → f.reached = false → exec (.cfgCancel ch) s = .next ((s.abortFlip f 1).done r []))
      ∧ (∀ f, s.cfg.flip = some f → f.reached = true → exec (.cfgCancel ch) s = .next (s.refuse r 0x080D 0)))
    ∧ (is 0x0807 → r.arg 0 1 ≤ 1 → exec (.cfgExport ch) s = .next (s.interim r []))
    ∧ (is 0x0808 → exec (.cfgStatus ch) s = .next (s.done r (leBytes 4 gen ++ leBytes 1 (s.fld GLB.CFGSTAT_PENDING)
        ++ leBytes 1 (s.fld GLB.CFGSTAT_DIRTY) ++ leBytes 2 0 ++ leBytes 8 ((s.cfg.flip.bind (·.epoch)).getD 0) ++ leBytes 2 (s.fld GLB.CFGSTAT_SWITCHED) ++ leBytes 2 (s.fld GLB.CFGSTAT_TOTAL))))
    ∧ (∀ f e, s.cfg.flip = some f → f.epoch = some e → f.reached = false → f.wait ≠ 1 → e ≤ s.now →
      exec .flipEpochReached s = .next (s.flipReach e))
    ∧ (∀ (kind : Fin 8) (inst : BitVec 11), let o := kind.val * 65536 + inst.toNat
      s.oldGone o = true → exec (.reservationRelease kind inst) s =
        .next (s.setCfg { s.cfg with old := s.cfg.old.filter (fun e => ownerOf e.1 != o), oldBw := s.cfg.oldBw.drop o }))

/-- R149, R151, R159 to R161, R453, R454, R541, R543, R550, R574, R575, R581, R583, R588: the TIME, CAN and FAULT commands. -/
def Obligations.TimeCanFaultCommands : Prop :=
  ∀ (s : State) (ch : Chan) (r : Req),
    let is := fun (op : Nat) => s.takes ch op = some r
    let st := s.fld TSU.DSTAT_STATE
    let sec := r.arg 0 8
    let c := r.arg 0 1
    let d : Int := ((sec * 1000000000 : Nat) : Int)
      - if st = tuLocked ∨ st = tuAcquire then ((s.now / 1000000000 + 1) * 1000000000 : Nat) else (s.now : Nat)
    let near := -1000000 ≤ d ∧ d ≤ 1000000
    let asked := fun (op : Nat) => sec * 1000000000 < 2 ^ 64 ∧ (∀ a b c d, s.tsu.change ≠ some (.set a b c d)) ∧ r.opcode = op
    let places := ((st = tuLocked ∨ st = tuAcquire) → s.askTime r = { s.interim r [] with
        tsu := { (s.interim r []).tsu with change := some (.set sec r.ch r.opcode r.tag) } })
      ∧ (¬(st = tuLocked ∨ st = tuAcquire) → s.askTime r = (s.interim r []).applySet { r with interim := true } sec 0)
    (is 0x0A00 → exec (.timeGet ch) s = .next (s.done r (leBytes 8 s.now ++ s.words4 [TSU.DSTAT, TSU.PHERR, TSU.INC, TSU.PCNT])))
    ∧ (is 0x0A01 → asked 0x0A01 → (s.mode.streaming = false ∨ near) → exec (.timeSet ch) s = .next (s.askTime r) ∧ places)
    ∧ (is 0x0A01 → sec * 1000000000 < 2 ^ 64 → s.mode.streaming = true → ¬near → exec (.timeSet ch) s = .next (s.refuse r 0x0A01 0))
    ∧ (is 0x0A02 → asked 0x0A02 → r.arg 8 1 = 0 → exec (.timeStep ch) s = .next (s.askTime r) ∧ places)
    ∧ (is 0x0A02 → r.arg 8 1 = 1 → s.tsu.held = none → exec (.timeStep ch) s = .next (s.refuse r 0x0A02 0))
    ∧ (is 0x0A03 → exec (.timeDiscipline ch) s = .next (((s.setReg TSU.DCTL (BitVec.ofNat 32 (r.arg 0 4))).timePins).done r []))
    ∧ (s.flag TSU.DCTL_PPSOUT_EN = false ∨ s.flag TSU.DSTAT_TIMEVALID = false → s.timePins.sys.ppsOut = false)
    ∧ (is 0x0A04 →
      let zeros := ((List.range 16).map fun n => (TSU.SYNCST_OVF n, 0))
        ++ (List.range 64).flatMap fun g => [(TSU.TGSENT_SENT g, 0), (TSU.TGMISS_MISSED g, 0), (TSU.TGMISS_RESENT g, 0)]
      exec (.timeClrcnt ch) s = .next (((s.setReg TSU.PCNT 0).setFlds zeros).done r []))
    ∧ (is 0x0A05 → c < 16 →
      let w := fun o => BitVec.ofNat 32 (r.arg o 4)
      let u := ((s.setReg (TSU.SYNC c) (w 4)).setReg (TSU.SYNCOFS c) (w 8)).setReg (TSU.SYNCW c) (w 12)
      let off := s.sys.syncOut.drop c
      let o := if u.fld (TSU.SYNC_MODE c) = 6 then off.set c s.sys.ppsOut else off
      exec (.timeSync ch) s = .next ({ u with sys := { s.sys with syncOut := o } }.done r []))
    ∧ (is 0x0A06 → c < 16 → 1 ≤ r.arg 1 1 → r.arg 1 1 ≤ 5 →
      let x := s.popCaptures c (r.arg 1 1)
      exec (.timeCapture ch) s = .next (x.2.done r (leBytes 1 (x.1.length / 8) ++ leBytes 7 0 ++ x.1)))
    ∧ (is 0x0B00 → c ≤ 1 → exec (.canStatus ch) s =
      .next (s.done r (leBytes 4 (s.canStat c).toNat ++ s.word4 (CAN.ERRC c) ++ leBytes 1 (s.can c).queue.length)))
    ∧ (is 0x0B01 → c ≤ 1 → r.arg 1 1 < 64 →
      (∀ n d, canRates (r.arg 2 4) (r.arg 6 4) = some (n, d) → exec (.canConfig ch) s =
        .next ((s.setCan c { s.can c with config := some (r.arg 1 1, n, d) }).done r []))
      ∧ (canRates (r.arg 2 4) (r.arg 6 4) = none → exec (.canConfig ch) s = .next (s.refuse r 0x0B01 0)))
    ∧ (is 0x0B02 → c ≤ 1 → r.arg 1 1 < 32 → r.arg 2 1 ≤ 2 → let i := r.arg 1 1
      exec (.canFilter ch) s =
        .next ((s.setFlds [(CAN.FID_ID c i, r.arg 4 4), (CAN.FMASK_MASK c i, r.arg 8 4), (CAN.FACT_ACTION c i, r.arg 2 1)]).done r []))
    ∧ (is 0x0B03 → c ≤ 1 → r.arg 1 1 = 2 → s.canFast c = true → exec (.canWake ch) s = .next (s.refuse r 4 1))
    ∧ (is 0x0B03 → c ≤ 1 → r.arg 1 1 ≤ 1 ∨ r.arg 1 1 = 2 ∧ s.canFast c = false → exec (.canWake ch) s =
      .next ((s.setFlds [(CAN.WCTL_WKIND c, r.arg 1 1), (CAN.WID_ID c, r.arg 4 4), (CAN.WMASK_MASK c, r.arg 8 4), (CAN.WDATAL_DATA c, r.arg 12 4),
        (CAN.WDATAH_DATA c, r.arg 16 4), (CAN.WDMASKL_DMASK c, r.arg 20 4), (CAN.WDMASKH_DMASK c, r.arg 24 4)]).done r []))
    ∧ (is 0x0B04 → c ≤ 1 → exec (.canVehicle ch) s = .next ((s.setFlds [(CAN.VEHSA_SA c, r.arg 1 1),
        (CAN.STAT_SOURCE c, if r.arg 1 1 = 0xFE then 0 else 1), (CAN.STAT_SOURCE (1 - c), 0)]).done r []))
    ∧ (∀ i, is 0x0C00 → r.arg 0 2 < 1024 → s.firstRecord (r.arg 0 2) = some i →
      let u := (s.markRead i).getD s
      exec (.faultRead ch) s = .next (u.done r (leBytes 2 i ++ leBytes 2 0 ++ (u.logWords i).flatMap fun w => leBytes 4 w.toNat)))
    ∧ (is 0x0C00 → r.arg 0 2 < 1024 → s.firstRecord (r.arg 0 2) = none → exec (.faultRead ch) s = .next (s.refuse r 0x0C02 0))
    ∧ (∀ u, is 0x0C01 → s.clearRecord (r.arg 0 2) (r.arg 2 2) = some u → exec (.faultClear ch) s = .next (u.done r []))
    ∧ (is 0x0C02 → exec (.faultCounters ch) s = .next (((s.clearOnRead FCU.OVFC).clearOnRead FCU.OVFU).done r
        (s.words4 [FCU.OVFC, FCU.OVFU, FCU.OVFF] ++ s.word4 FCU.FIRSTLOST ++ leBytes 2 0)))
    ∧ (is 0x0C03 → exec (.faultPinmask ch) s = .next (((s.setFld FCU.PINMASK_MASK (r.arg 0 1)).driveFaultN).done r []))
    ∧ (is 0x0C04 →
      let b := (List.range 1024).flatMap fun i => (s.logWords i).flatMap fun w => leBytes 4 w.toNat
      exec (.faultDump ch) s = .next ((s.poke (resultBuf r.ch) b).done r (leBytes 8 (resultBuf r.ch) ++ leBytes 4 b.length)))

/-- R136, R440, R455, R473, R525, R630 to R634: the UPD and SVC commands that their checks admit. -/
def Obligations.UpdateServiceCommands : Prop :=
  ∀ (s : State) (ch : Chan) (r : Req),
    let is := fun (op : Nat) => s.takes ch op = some r
    let staged := fun (off base size : Nat) => s.mbx.stages.has 2 = true ∧ s.mbx.stages.get 2 (0, 0, 0) = (r.ch, base, size)
      ∧ 1 ≤ r.arg off 4 ∧ r.arg off 4 ≤ size
    let u := s.closeStage 2
    (is 0x0D00 → 1 ≤ r.arg 0 4 → r.arg 0 4 ≤ 16777216 → (s.mbx.stages.get 2 (r.ch, 0, 0)).1 = r.ch →
      let base := if s.mode = .safe then 0x14780000 else 0x114000000
      exec (.updStage ch) s = .next ((s.openStage 2 r.ch base (r.arg 0 4)).done r (leBytes 8 base ++ leBytes 4 (r.arg 0 4))))
    ∧ (∀ base size, is 0x0D01 → r.arg 0 1 ≤ 1 → staged 4 base size → exec (.updFlash ch) s = .next (u.interimAt r base []))
    ∧ (∀ base size, is 0x0D02 → s.mbx.runs = [] → staged 0 base size → s.mode ≠ .paired →
      let shi := fieldAt (s.bytes base (r.arg 0 4)) 0x10 2
      shi / 256 = 3 → (∀ c < 64, s.fld (MBX.CST_LEVEL c) / 256 = 3 → s.fld (MBX.CST_LEVEL c) ≤ shi) →
      exec (.updCpxSwitch ch) s = .next (u.interimAt r base []))
    ∧ (∀ base size, is 0x0D03 → staged 0 base size → exec (.updProgAdd ch) s = .next (u.interimAt r base []))
    ∧ (let id := r.arg 0 4
      is 0x0D04 → (s.binary id).isSome = true → (∀ p < 192, CfgSet.progId s.cfg.active p ≠ id ∧ CfgSet.progId s.cfg.shadow p ≠ id) →
      exec (.updProgRemove ch) s = .next ({ s with progs := s.progs.filter fun x => x.progid != id }.done r []))
    ∧ (∀ base size, let p := r.arg 0 2
      is 0x0D05 → p < 192 → CfgSet.portEnabled (s.setFor p) p = true → r.arg 2 1 ≤ 1 → (s.pstate p = psReady ∨ s.pstate p = psStreaming) →
        (∀ x ∈ s.mbx.runs, ¬(x.opcode = 0x0D05 ∧ x.arg 0 2 = p)) → staged 4 base size → s.sys.secDead = false →
      let x := u.interimAt r base []
      let img := x.bytes base (r.arg 4 4)
      verifyImage x.fuses.rootRev none 3 img = 0 →
      let mode := if r.arg 2 1 = 1 then 1 else if x.flag (HP.PSTAT_HITLESS p) then 0 else 2
      exec (.updHeadFw ch) s = .next ((x.setPort p { x.port p with fw := some (img, 0, mode) }).fwNext p))
    ∧ (is 0x0E00 → s.sys.secDead = false → ∃ (n k : Nat) (v : State), v = { s with fresh := k, sec := { s.sec with nonce := some (n, s.now, r.ch) } } ∧
      (s.flag SEC.SECSTAT_KEYLOCK = true → exec (.svcChallenge ch) s =
        .next ((v.setFlds ((List.range 24).map fun k => (SEC.ATTSIG_SIG k, 0))).done r (leBytes 48 n)))
      ∧ (s.flag SEC.SECSTAT_KEYLOCK = false →
        let sig := Config.identitySign (Config.sha384 (leBytes 48 n ++ leBytes 16 devId))
        exec (.svcChallenge ch) s = .next ((v.setFlds ((List.range 24).map fun k =>
          (SEC.ATTSIG_SIG k, fieldAt (leBytes 48 sig.1 ++ leBytes 48 sig.2) (4 * k) 4))).done r (leBytes 48 n))))
    ∧ (is 0x0E01 → exec (.svcAuthR ch) s = .next ({ s with sec := { s.sec with sigR := some (r.ch, r.arg 0 48) } }.done r []))
    ∧ (∀ sr n t nch i k, is 0x0E02 → s.sec.sigR = some (r.ch, sr) → s.sys.secDead = false → s.sec.nonce = some (n, t, nch) →
        s.sys.image = some i → i.serviceKey = some k →
      let good := Config.ecdsaVerify k (Config.sha384 (leBytes 48 n ++ leBytes 16 devId ++ leBytes 4 (s.reg GLB.IDCODE).toNat)) sr (r.arg 0 48)
      let e := s.now + 10000000000
      let spent := { s with sec := { s.sec with nonce := none, sigR := none } }
      let fresh := s.now < t + 60000000000
      (fresh → good = true → exec (.svcAuthS ch) s =
        .next (({ spent with sec := { spent.sec with grant := some e } }.setFld SEC.SECSTAT_GRANT 1).done r (leBytes 8 e)))
      ∧ (¬fresh ∨ good = false → exec (.svcAuthS ch) s = .next (spent.refuse r 0x0E01 0)))
    ∧ (is 0x0E03 → r.arg 0 4 < 16 → exec (.svcBist ch) s = .next (s.interim r []))
    ∧ (is 0x0E04 → exec (.svcFuse ch) s = .next (s.interim r []))

/-- R463, R473, R524, R525, R549, R630, R631: the ends of the long commands, and of a switch between the CPX pairs. -/
def Obligations.LongCommandEnds : Prop :=
  ∀ (s : State) (ch : Chan) (op tag : BitVec 16) (back : List Byte) (results : List BistResult) (r : Req),
    let ends := s.mbx.runs.find? (fun r => r.ch == ch.val && r.opcode == op.toNat && r.tag == tag.toNat) = some r ∧ s.cpxRuns = true
    let outcome := exec (.finalResponse ch op tag back results) s
    (ends → op = 0x0801 →
      let b := s.bytes r.base (r.arg 0 4)
      (∀ c, readImage b (s.fld (MBX.CST_LEVEL r.ch)) = .ok c → outcome = .next ((s.setShadow c).done r (bytesAt b 0x10 8)))
      ∧ ∀ off, readImage b (s.fld (MBX.CST_LEVEL r.ch)) = .error off → outcome = .next (s.refuse r 0x080C off))
    ∧ (ends → op = 0x0807 →
      let b := CfgSet.image (if r.arg 0 1 = 0 then s.cfg.active else s.cfg.shadow)
      b.length ≤ 67108864 → outcome =
        .next ((s.poke 0x110000000 b).done r (leBytes 8 0x110000000 ++ leBytes 4 b.length ++ leBytes 4 (s.fld GLB.CFGGEN_GEN))))
    ∧ (ends → op = 0x0D01 → s.sys.secDead = false →
      let img := s.bytes r.base (r.arg 4 4)
      verifyImage s.fuses.rootRev (some s.fuses.fwSvn) 1 img = 0 →
      let u := { s with sys := { s.sys with flash := s.sys.flash.set (r.arg 0 1) back } }
      (verifyImage s.fuses.rootRev (some s.fuses.fwSvn) 1 back = 0 → back.take img.length = img → outcome = .next (u.done r []))
      ∧ (verifyImage s.fuses.rootRev (some s.fuses.fwSvn) 1 back ≠ 0 → outcome = .next (u.refuse r 0x0D02 0)))
    ∧ (ends → op = 0x0D02 → s.mbx.paused = false → s.sys.secDead = false →
      verifyImage s.fuses.rootRev (some s.fuses.fwSvn) 1 (s.bytes r.base (r.arg 0 4)) = 0 →
      let u := { s with mbx := { s.mbx with paused := true } }
      outcome = .next (u.abortRuns (fun x => x.opcode != 0x0D02) 2 u.mbx.runs))
    ∧ (ends → op = 0x0D03 → s.sys.secDead = false →
      let b := s.bytes r.base (r.arg 0 4)
      let id := fieldAt b 0x0C 4
      let rest := s.progs.filter fun x => x.progid != id
      let keys := match s.sys.image with
        | some i => i.kernelKeys
        | none => []
      (kernelGood b = false → outcome = .next (s.refuse r 0x0D01 1))
      ∧ (kernelGood b = true → verifyKernel keys s.fuses.kbSvn b = 0 →
        (storePlace rest (kEnd b) = none → outcome = .next (s.refuse r 0x0D04 0))
        ∧ ∀ a, storePlace rest (kEnd b) = some a →
          let full := 64 ≤ rest.length ∨ 16777216 < ((rest.map (·.len)).foldl (· + ·) 0) + kEnd b
          (full → outcome = .next (s.refuse r 0x0D04 0))
          ∧ (¬full → outcome =
            .next (({ s with progs := rest ++ [Binary.mk id a (kEnd b)] }.poke a (b.take (kEnd b))).done r (leBytes 4 id)))))
    ∧ (ends → op = 0x0E03 →
      let l := results.filter fun b => bit (r.arg 0 4) (bistScope b.part)
      let v := s.retireFailed l
      let u := if bit (r.arg 0 4) 1 ∧ (v.sys.pairA = .standby ∨ v.sys.pairB = .standby) then v.swapPairs else v
      let bytes := l.flatMap BistResult.bytes
      outcome = .next ((u.poke (resultBuf r.ch) bytes).done r (leBytes 8 (resultBuf r.ch) ++ leBytes 4 bytes.length)))
    ∧ (∀ i, ends → op = 0x0E04 → s.sys.image = some i →
      let f := s.blown
      let ret := s.keeper.retired.filter fun x => !f.retired.contains x
      let rep := s.keeper.repairs.filter fun x => !f.repairs.contains x
      ∃ kb, kb ≤ 64 ∧ outcome = .next ({ s with blown :=
        { rootRev := f.rootRev ||| i.revoke, fwSvn := max f.fwSvn (min i.svn 64), kbSvn := max f.kbSvn kb,
          retired := f.retired ++ ret, repairs := f.repairs ++ rep } }.done r (leBytes 4 (ret.length + rep.length))))
    ∧ (∀ x, s.switching = some x → exec .cpxSwitchTimeout s = .next (s.switchFails.report 0x0603 0 0))
    ∧ (∀ x i, s.switching = some x → s.cpxRuns = true → (s.sys.pairA = .standby ∨ s.sys.pairB = .standby) → s.sys.image = some i →
      let img := s.bytes x.base (x.arg 0 4)
      let range := Config.pairRange img
      let u := { s with sys := { s.sys with pairA := s.sys.pairB, pairB := s.sys.pairA, image := some (imageOf s.fuses.rootRev i.slot img) }
                        mbx := { s.mbx with paused := false } }
      exec .newPairReady s = .next ((u.setFlds [(GLB.BUILD_BUILD, Config.buildOf (imageSection img 1)), (PEER.PLEVEL_PMIN, range.1.toNat),
        (PEER.PLEVEL_PMAX, range.2.toNat)]).done x []))

/-! ## The pair -/

/-- R275, R477, R485 to R493: beats are sent every 250 µs, a good one is recorded, one missed is counted (in LEFT and PARTNER-LOST
beats are ignored) and the fourth in a row
declares a takeover; mirrors, delivery reports, lattice records, RESYNC and PORTINFO are taken; a reserved CTYPE is answered
UNKNOWN. A beat that echoes none gives no offset (log entry 50). -/
def Obligations.PairBeatsAndMirrors : Prop :=
  ∀ (s : State) (cs : List Crumb),
    let c := crumbAt cs 0
    let x := s.pair
    let missed := s.fld PEER.PSTAT_MISSED
    let waited := s.setPair { x with beatAt := s.now }
    (s.peerHears = true → x.sentAt + 249000 ≤ s.now → s.hbAge ≤ 10000 → exec .peerBeatSend s = .next (s.sendBeat false))
    ∧ (s.domainOn .peer = true → s.prState ≠ prSolo → s.prState ≠ prLeft → s.prState ≠ prLost → s.flag (LK.LKSTAT_HOLD .peer) = false →
        x.beatAt + 250000 ≤ s.now →
      (missed < 3 → exec .peerBeatMiss s = .next ((waited.setFld PEER.PSTAT_MISSED (missed + 1)).bump PEER.PCNT1_BEATMISS 1))
      ∧ (missed = 3 → exec .peerBeatMiss s =
        .next ((waited.setFld PEER.PSTAT_MISSED 4).bump PEER.PCNT1_BEATMISS 1).declareTakeover))
    ∧ (s.prState = prLeft ∨ s.prState = prLost → ∀ good, exec (.peerBeat cs good) s = .next s)
    ∧ (s.peerHears = true → s.prState ≠ prLeft → s.prState ≠ prLost → exec (.peerBeat cs false) s = .next s.beatMissed)
    ∧ (s.peerHears = true → s.prState ≠ prLeft → s.prState ≠ prLost → bit c 10 = false →
      let u := (s.setPair { x with last := some (crumbAt cs 1, s.now), beatAt := s.now, dev := bitsOf c 9 8, mode := bitsOf c 15 12 }).setFlds
        [(PEER.PSTAT_MISSED, 0), (PEER.PLASTB_TBEAT, s.now)]
      exec (.peerBeat cs true) s = .next (u.beatSkew cs) ∧ (crumbAt cs 2 = 0 → u.beatSkew cs = u))
    ∧ (let p := bitsOf c 7 0
      let fn := bitsOf c 63 32
      let r := mirrorRecord cs ((x.recs.get p []).headD [])
      s.peerHears = true → s.mirrors = true → s.standby p = true → x.recs.get p [] = [] →
      (crc32 (r.take 4092) = fieldAt r 0xFFC 4 → exec (.peerMirror cs) s = .next (s.takeRecord p fn r))
      ∧ (crc32 (r.take 4092) ≠ fieldAt r 0xFFC 4 → exec (.peerMirror cs) s = .next (s.pairReq 0x0B 0 p [])))
    ∧ (let key := 8 * bitsOf c 7 0 + bitsOf c 10 8
      let fn := bitsOf c 63 32
      s.peerHears = true → bitsOf c 10 8 ≠ 5 → bitsOf c 10 8 ≠ 6 →
      (x.dones.has key = false ∨ 0 < fnAhead fn (x.dones.get key 0) →
        exec (.peerDone cs) s = .next (s.setPair { x with dones := x.dones.set key fn }))
      ∧ (x.dones.has key = true → fnAhead fn (x.dones.get key 0) ≤ 0 → exec (.peerDone cs) s = .next s))
    ∧ (let n := bitsOf c 2 0
      let lfn := bitsOf c 63 32
      let y := s.lat n
      s.peerHears = true → s.mirrors = true → exec (.peerLatmir cs) s = .next (s.setLat n { y with
        mirrored := some lfn, frames := y.frames.filter (fun f => decide (0 < fnAhead f.lfn lfn)),
        next := if 0 < fnAhead ((lfn + 1) % 2 ^ 32) y.next then (lfn + 1) % 2 ^ 32 else y.next }))
    ∧ (s.peerHears = true → pcType cs = 0x0B →
      exec (.peerResync cs) s = .next (s.setPair { x with sentRec := x.sentRec.drop (pcArg cs) }))
    ∧ (let p := bitsOf (pcArg cs) 7 0
      let i : PeerPort := { present := bit (pcArg cs) 9, dual := bit (pcArg cs) 8, serial := bytesAt (crumbsBytes (cs.drop 1)) 0 16 }
      s.peerHears = true → pcType cs = 0x0D → p < 192 → s.standby p = false →
      exec (.peerPortinfo cs) s = .next ((s.setPair { x with info := x.info.set p i }).pairMismatch p))
    ∧ (let t := pcType cs
      s.peerHears = true → (t = 0 ∨ 0x0E ≤ t ∧ t ≤ 0xFE) → exec (.peerUnknown cs) s = .next (s.pairCtl 0xFF 1 (pcNum cs) 0 []))

/-- R42, R43, R476 to R483, R501, R504: a JOIN_REQ is answered JOIN_ACK and the pair entered, or JOIN_NAK with its code; what the
answers and the timeout do; a LEAVE after its handovers; a handover is accepted by a device that is armed and has a slice. -/
def Obligations.PairJoining : Prop :=
  ∀ (s : State) (cs : List Crumb), s.peerHears = true →
    let x := s.pair
    let arg := pcArg cs
    let p := bitsOf (crumbAt cs 1) 7 0
    (pcType cs = 1 → (s.prState = prLinking ∨ s.prState = prLost) →
      let u := ((s.setFlds [(PEER.PPEER_PMIN, bitsOf arg 15 0), (PEER.PPEER_PMAX, bitsOf arg 31 16)]).setPrState prLinking).setPrState prJoining
      let common := min (u.fld PEER.PLEVEL_PMAX) (bitsOf arg 31 16)
      (∀ c, u.joinNak cs = some c → exec (.peerJoinReq cs) s = .next ((u.pairCtl 3 c (pcNum cs) 0 []).setPrState prLinking))
      ∧ (u.joinNak cs = none → exec (.peerJoinReq cs) s =
        .next (((u.pairCtl 2 0 (pcNum cs) common []).enterPair (bitsOf (crumbAt cs 1) 35 32) common).setMode .paired 3 true)))
    ∧ (pcType cs = 1 → s.prState ≠ prLinking → s.prState ≠ prLost →
      let fits := (s.mode = .prepare ∨ s.mode = .run) ∧ CfgSet.pairEn s.cfg.active = true ∧ s.pl.closed = []
      (¬fits → exec (.peerJoinReq cs) s = .next (s.pairCtl 3 6 (pcNum cs) 0 [])) ∧ (fits → exec (.peerJoinReq cs) s = .next s))
    ∧ (pcType cs = 2 → s.joinIs cs = true →
      let u := (s.setFld PEER.PPEER_PMAX (max (bitsOf arg 15 0) (s.fld PEER.PPEER_PMAX))).enterPair x.mode (bitsOf arg 15 0)
      ∀ t, u.sys.trans = some t → exec (.peerJoinAck cs) s = .next (u.endTrans t))
    ∧ (pcType cs = 3 → s.joinIs cs = true →
      let gaveUp := (s.setPair { x with join := none }).setPrState prLinking
      (pcCode cs = 0 → exec (.peerJoinNak cs) s = .next (gaveUp.failTrans 0x0103 0))
      ∧ (pcCode cs ≠ 0 → exec (.peerJoinNak cs) s = .next (gaveUp.failTrans 0x0104 (pcCode cs))))
    ∧ (∀ j, x.join = some j → j.sent + 10000000 ≤ s.now →
      exec .peerJoinTimeout s = .next (((s.setPair { x with join := none }).setPrState prLinking).failTrans 0x0104 2))
    ∧ (pcType cs = 4 → s.mirrors = true →
      ((∀ p < 192, s.pairedCam p = true → s.primaryHere p = true) →
        exec (.peerLeave cs) s = .next (s.endHandovers.setPrState prLeft).flipAlone)
      ∧ ∀ p < 192, s.pairedCam p = true → s.primaryHere p = false → exec (.peerLeave cs) s = .next s.declareTakeover)
    ∧ (pcType cs = 5 →
      (s.standby p = true → s.armed p = true → (s.claimTakeover p).isSome = true →
        let u := s.pairCtl 6 0 (pcNum cs) arg [p]
        exec (.peerHandover cs) s =
          .next (u.setPair { u.pair with handovers := u.pair.handovers.set p { giver := false, h := arg, accepted := true } }))
      ∧ (s.standby p = false → exec (.peerHandover cs) s = .next (s.pairCtl 6 1 (pcNum cs) arg [p])))
    ∧ (∀ h, pcType cs = 6 → (∀ d, x.handovers.get p d = h) → h.giver = true → h.req = pcNum cs →
      (pcCode cs = 0 → exec (.peerHandoverAck cs) s =
        .next (s.setPair { x with handovers := x.handovers.set p { h with accepted := true } }))
      ∧ (pcCode cs ≠ 0 → exec (.peerHandoverAck cs) s = .next (s.handoverFail p)))

/-- R470, R485, R502, R503: the messages of a flip in a pair: a proposal waits for its DIGEST, and is answered after the
comparison and admission (log entry 52); an answer or its timeout decides the own flip; the epoch and the TDONE of the partner. -/
def Obligations.PairFlips : Prop :=
  ∀ (s : State) (cs : List Crumb), s.peerHears = true →
    let x := s.pair
    let c := crumbAt cs 1
    let num := pcNum cs
    (pcType cs = 7 → s.mirrors = true → s.cfg.flip = none → exec (.peerFlipPropose cs) s =
      .next (s.setPair { x with proposed := some (num, pcArg cs, bitsOf c 7 0, bitsOf c 15 8, bitsOf c 31 16, crumbAt cs 2) }))
    ∧ (∀ gen ekind fl pace epoch, pcType cs = 0x0C → x.proposed = some (num, gen, ekind, fl, pace, epoch) → s.cfg.flip = none →
      let u := s.setPair { x with proposed := none }
      let same := crumbsBytes ((cs.drop 1).take 6) = CfgSet.digest s.cfg.shadow
      (¬same → exec (.peerDigest cs) s = .next (u.pairCtl 8 1 num 0xFE800000 []))
      ∧ (same → ∀ st d, u.admission u.cfg.shadow u.pairView = some (st, d) →
        exec (.peerDigest cs) s = .next (u.pairCtl 8 1 num (d ||| 0x00800000) []))
      ∧ (same → u.admission u.cfg.shadow u.pairView = none →
        let f : Flip := { chan := 64, tag := 0, epoch := if ekind = 0 then some epoch else none, pace := if ekind = 0 then none else some pace,
                          admitted := s.now, reached := false, todo := [], done := [], moves := [], failed := none, remote := true,
                          wait := 0, tdone := 0, num := num, gen := gen }
        let y := (u.admitFlip f).pairCtl 8 0 num 0 []
        ∀ g, y.cfg.flip = some g → exec (.peerDigest cs) s = .next (y.flipGo g none)))
    ∧ (∀ f, pcType cs = 8 → s.flipAsked = some f → f.num = num →
      (pcCode cs = 0 →
        let u := s.setCfg { s.cfg with flip := some { f with wait := 3 } }
        exec (.peerFlipAnswer cs) s = .next (u.flipGo { f with wait := 3 } (s.running f.chan 0x0805 f.tag)))
      ∧ (pcCode cs ≠ 0 → exec (.peerFlipAnswer cs) s =
        .next ((s.releaseFlip f).finish f.chan 0x0805 f.tag (if bit (pcArg cs) 23 then 0x0809 else 0x080A) (pcArg cs) [])))
    ∧ (∀ f, s.flipAsked = some f → f.admitted + 1000000 ≤ s.now →
      exec .peerFlipAnswerTimeout s = .next ((s.releaseFlip f).finish f.chan 0x0805 f.tag 0x0809 0x0080FFFF []))
    ∧ (∀ f, pcType cs = 9 → s.cfg.flip = some f → f.remote = true → f.reached = false →
      exec (.peerFlipEpoch cs) s = .next (s.flipReach c))
    ∧ (∀ f, pcType cs = 0x0A → s.cfg.flip = some f → f.remote = false → f.wait = 3 →
      let g := { f with peer := c, wait := 0 }
      let u := s.setCfg { s.cfg with flip := some g }
      (f.tdone = 0 → exec (.peerFlipDone cs) s = .next u) ∧ (f.tdone ≠ 0 → exec (.peerFlipDone cs) s = .next (u.flipAnswer g)))

/-! ## DMA, CAN, two-wire interfaces and memory -/

/-- R552, R554, R563, R564, R568, R570, R572: GO starts an idle channel on its descriptor, and is counted where the channel runs;
ABORT ends a program with code 1; writes of EVSET and EVCLR; the ends of a WAIT; the clearing of the counters. -/
def Obligations.DmaChannels : Prop :=
  ∀ (s : State) (ch : DmaCh) (n : Fin 2) (mask : Word), s.dmaOn = true →
    let desc := s.fld (DMA.CHDESCL_ADDR ch) + 2 ^ 32 * s.fld (DMA.CHDESCH_ADDR ch)
    let h := s.bytes desc 64
    (s.dmaRuns ch = true → exec (.dmaGo ch) s = .next (s.bump DMA.DMACNT_IGNGO 1))
    ∧ (s.dmaRuns ch = false → desc % 64 = 0 → inSram desc = true → s.poisoned desc 64 = false → fieldAt h 0 1 % 2 = 1 →
        dmaHeaderGood desc h = true → ∃ d : Dma, d.desc = desc ∧ d.pc = 0 ∧ d.nins = fieldAt h 4 2 ∧ d.next = fieldAt h 8 8
          ∧ d.tag = fieldAt h 0x10 4 ∧ d.irq = bit (fieldAt h 0 1) 1 ∧ d.move = none ∧ d.wait = none ∧ d.loop = none
          ∧ exec (.dmaGo ch) s = .next ((s.setFlds [(DMA.CHCUR_ADDRL ch, desc), (DMA.CHMOVED_MOVED ch, 0)]).setDma ch d))
    ∧ (∀ d, s.dmaOf ch = some d → exec (.dmaAbort ch) s = .next (s.dmaEnd ch d 1 0))
    ∧ exec (.dmaEvset n mask) s = .next (s.evSets mask.toNat (32 * n.val) (List.range 32))
    ∧ (∃ t, exec (.dmaEvclr n mask) s = .next t
      ∧ t.fld (DMA.EVFLAG_FLAG n) = (BitVec.ofNat 32 (s.fld (DMA.EVFLAG_FLAG n)) &&& ~~~mask).toNat ∧ t.mem = s.mem)
    ∧ (∀ d w, s.dmaOf ch = some d → d.wait = some w →
      (2 ≤ w.kind → w.ends ≤ s.clock → exec (.dmaWaitTime ch) s = .next (s.dmaNext ch d))
      ∧ (∀ t, w.tmo = some t → t ≤ s.clock → exec (.dmaWaitTimeout ch) s = .next (s.dmaEnd ch d 7 w.kind))
      ∧ (w.kind < 2 ∨ s.clock < w.ends → exec (.dmaWaitTime ch) s = .next s))
    ∧ (s.domainOn .fabric = true → exec .dmaCounterClear s = .next (s.setFlds [(DMA.DMACNT_ERRORS, 0), (DMA.DMACNT_IGNGO, 0)]))

/-- R555 to R566: the instruction that a channel reaches: MOVE tests its sides, LOOP and NEST3 enter their bodies, WAIT ends at
once where its condition holds, SIGNAL sets its flag, END writes back and goes on along the chain; an instruction that R556
rejects ends the program with code 4. A burst moves its bytes. -/
def Obligations.DmaInstructions : Prop :=
  ∀ (s : State) (ch : DmaCh) (d : Dma), s.dmaOn = true → s.dmaOf ch = some d →
    let ins := s.bytes (d.insAddr d.pc) 32
    let f := fun (o n : Nat) => fieldAt ins o n
    let idle := d.move = none ∧ d.wait = none
    let fetched := idle ∧ d.loop = none ∧ d.pc < d.nins ∧ s.poisoned (d.insAddr d.pc) 32 = false
    let at_ := fun (op : Nat) => fetched ∧ badIns d ins = none ∧ f 0 1 = op
    (∀ k, fetched → badIns d ins = some k → exec (.dmaEnd ch) s = .next (s.dmaEnd ch d 4 k))
    ∧ (at_ 1 →
      let sfix := bit (f 1 1) 0
      let dfix := bit (f 1 1) 1
      let e := { d with move := some { src := f 8 6, dst := f 16 6, left := f 4 4, sfix := sfix, dfix := dfix } }
      (sideGood sfix (f 8 6) (f 4 4) = true → sideGood dfix (f 16 6) (f 4 4) = true → exec (.dmaMove ch) s = .next (s.setDma ch e))
      ∧ (sideGood sfix (f 8 6) (f 4 4) = false → exec (.dmaMove ch) s = .next (s.dmaEnd ch e 5 1))
      ∧ (sideGood sfix (f 8 6) (f 4 4) = true → sideGood dfix (f 16 6) (f 4 4) = false → exec (.dmaMove ch) s = .next (s.dmaEnd ch e 5 2)))
    ∧ (∀ m data, d.move = some m →
      let n := m.burst
      let x := s.burstRead m n
      x.1 = some data → (decide (0x1000000 ≤ m.dst) && x.2.partialPoison m.dst (if m.dfix then 4 else n)) = false →
      let e := { d with move := some (m.after n), moved := d.moved + n }
      let u := x.2.burstWrite m data
      (n < m.left → exec (.dmaBurst ch) s = .next (u.setDma ch e))
      ∧ (m.left ≤ n → exec (.dmaBurst ch) s = .next (u.dmaNext ch (e.keepSides (m.after n)))))
    ∧ (at_ 2 → exec (.dmaLoop ch) s = .next (s.dmaEnter ch d ins { nest := false, pc := d.pc, body := [], c0 := f 4 4 }))
    ∧ (at_ 6 →
      let steps := (List.range 6).map fun k => signed 32 (f (8 + 4 * k) 4)
      (s.nestAllowed ch = true → exec (.dmaNest3 ch) s = .next (s.dmaEnter ch d ins
        { nest := true, pc := d.pc, body := [], c0 := f 2 2, c1 := f 4 2, c2 := f 6 2, steps := steps }))
      ∧ (s.nestAllowed ch = false → exec (.dmaNest3 ch) s = .next (s.dmaEnd ch d 8 s.mode.code)))
    ∧ (at_ 3 →
      let flag := bit (s.fld (DMA.EVFLAG_FLAG (f 4 4 / 32))) (f 4 4 % 32)
      let waits := { d with wait := some { kind := f 1 1, clr := bit (f 2 1) 0, arg := f 4 4
                                           ends := if f 1 1 = 3 then s.clock + f 8 8 else f 8 8
                                           tmo := if f 1 1 < 2 ∧ f 16 8 ≠ 0 then some (s.clock + f 16 8) else none } }
      (f 1 1 = 0 → flag = true → bit (f 2 1) 0 = false → exec (.dmaWait ch) s = .next (s.setDma ch d.advance))
      ∧ (f 1 1 = 0 → flag = true → bit (f 2 1) 0 = true → exec (.dmaWait ch) s = .next ((s.setEvFlag (f 4 4) false).setDma ch d.advance))
      ∧ (f 1 1 = 2 → f 8 8 ≤ s.now → exec (.dmaWait ch) s = .next (s.setDma ch d.advance))
      ∧ ((f 1 1 = 0 ∧ flag = false ∨ f 1 1 = 1 ∨ f 1 1 = 2 ∧ s.now < f 8 8 ∨ f 1 1 = 3 ∧ f 8 8 ≠ 0) →
        exec (.dmaWait ch) s = .next (s.setDma ch waits)))
    ∧ (at_ 4 →
      let u := if bit (f 1 1) 0 then s.evSet (f 4 4) else s
      let v := if bit (f 1 1) 1 then u.intrEvent (0x290 + ch.val) 2 (f 8 4) else u
      exec (.dmaSignal ch) s = .next (v.dmaNext ch d))
    ∧ (at_ 5 →
      let u := (s.dmaWriteBack d 0 0).dmaStop ch d.desc d.pc d.tag 0 0 d.irq
      (d.next = 0 → exec (.dmaEnd ch) s = .next u) ∧ (d.next ≠ 0 → exec (.dmaEnd ch) s = .next (u.dmaStart ch d.next (some d.tag))))

/-- R575 to R585, R588, R590: frames received, sent, failed and timed out; error states; recovery from bus-off; a configuration
that takes effect at bus idle; the wake; the counters. -/
def Obligations.CanResults : Prop :=
  ∀ (s : State) (c : CanId) (time : BitVec 64) (tec : BitVec 9) (rec_ : Byte),
    let x := s.can c
    let n := c.val
    (∀ id (dlc : Fin 16) flags data, s.domainOn .can = true → s.flag (CAN.CTL_EN n) = true → s.fld (CAN.STAT_STATE n) ≠ 2 →
        canFdf id.toNat = false ∨ s.flag (CAN.CTL_FDEN n) = true →
      let d := bytesAt data 0 (if canFdf id.toNat ∧ 8 < dlc.val then [12, 16, 20, 24, 32, 48, 64].getD (dlc.val - 9) 64 else min dlc.val 8)
      let t := time.toNat / 10 * 10
      let u := (s.bump (CAN.CNT0_RXFRAMES n) 1).vehicle n t id.toNat dlc d
      (u.canAction n id.toNat ≠ 1 → exec (.canFrameReceive c time id dlc flags data) s = .next u)
      ∧ (u.canAction n id.toNat = 1 → exec (.canFrameReceive c time id dlc flags data) s =
        .next (u.canTunnel n (leBytes 8 t ++ leBytes 4 id.toNat ++ leBytes 1 dlc ++ leBytes 1 flags.toNat ++ leBytes 2 0 ++ d))))
    ∧ (∀ ttag item rest, s.domainOn .can = true → s.flag (CAN.CTL_EN n) = true → s.flag (CAN.CTL_LISTEN n) = false → x.queue = (ttag, item) :: rest →
      let u := s.setCan n { x with queue := rest, headAt := s.clock }
      exec (.canTxDone c true time tec rec_) s =
        .next (((u.bump (CAN.CNT0_TXFRAMES n) 1).txDone n 0 ttag time.toNat item).canErr n tec.toNat rec_.toNat)
      ∧ (s.flag (CAN.CTL_ONESHOT n) = true →
        exec (.canTxDone c false time tec rec_) s = .next ((u.txDone n 2 ttag 0 item).canErr n tec.toNat rec_.toNat))
      ∧ (s.flag (CAN.CTL_ONESHOT n) = false → exec (.canTxDone c false time tec rec_) s = .next (s.canErr n tec.toNat rec_.toNat))
      ∧ (s.fld (CAN.TXLIFE_MS n) ≠ 0 → x.headAt + 1000000 * s.fld (CAN.TXLIFE_MS n) ≤ s.clock →
        exec (.canTxLifetime c) s = .next (u.txDone n 2 ttag 0 item)))
    ∧ (s.domainOn .can = true → s.flag (CAN.CTL_EN n) = true → (s.fld (CAN.STAT_STATE n) = 0 ∨ s.fld (CAN.STAT_STATE n) = 1) →
      ∃ t, exec (.canBusError c tec rec_) s = .next t ∧
        (tec.toNat < 256 → t.fld (CAN.ERRC_TEC n) = tec.toNat ∧ t.fld (CAN.ERRC_REC n) = rec_.toNat
          ∧ t.fld (CAN.STAT_STATE n) = if 128 ≤ tec.toNat ∨ 128 ≤ rec_.toNat then 1 else 0)
        ∧ (256 ≤ tec.toNat → t.fld (CAN.STAT_STATE n) = 2 ∧ (t.can n).queue = []))
    ∧ (s.domainOn .can = true → s.fld (CAN.STAT_STATE n) = 2 → s.flag (CAN.CTL_AUTOREC n) = true → exec (.busOffRecovery c) s =
      .next ((s.setFlds [(CAN.ERRC_TEC n, 0), (CAN.ERRC_REC n, 0), (CAN.STAT_STATE n, 0)]).canMsg n 1))
    ∧ (∀ mode nbt dbt, s.domainOn .can = true → x.config = some (mode, nbt, dbt) → mode < 64 → ∃ t, exec (.canConfigApply c) s = .next t
      ∧ getBits (t.reg (CAN.CTL n)) 5 0 = mode ∧ t.reg (CAN.NBT n) = BitVec.ofNat 32 nbt ∧ t.reg (CAN.DBT n) = BitVec.ofNat 32 dbt
      ∧ t.fld (CAN.ERRC_TEC n) = 0 ∧ t.fld (CAN.ERRC_REC n) = 0 ∧ t.fld (CAN.STAT_STATE n) = (if bit mode 0 then 0 else 3)
      ∧ (t.can n).queue = [] ∧ (t.can n).config = none)
    ∧ (∀ id (dlc : Fin 16) data, s.alive = true → s.sys.trans = none → s.mode = .standby → s.canWakes n id.toNat dlc data = true →
      exec (.canWakeDetect c id dlc data) s = .next (s.startWake (9 + n)))
    ∧ (s.domainOn .can = true → exec (.canCounterClear c) s =
      .next (((s.setReg (CAN.CNT0 n) 0).setReg (CAN.CNT1 n) 0).setReg (CAN.CNT2 n) 0))

/-- R591 to R604, R687: the management address sets P, writes and reads on from P, wakes the device and times out; the board bus
runs, ends, times out and clears its transactions. What the bus answers comes with the commands; how
many bytes a transaction that times out has transferred is any number up to its length (log entry 215). -/
def Obligations.TwoWireResults : Prop :=
  ∀ (s : State) (addr : BitVec 7) (p : BitVec 48) (data : List Byte) (n : Nat),
    let a := p.toNat
    let d := data.take (4096 - a % 4096)
    (s.mgmtAnswers addr = true →
      (6 ≤ data.length → exec (.i2caPointerSet addr data) s = .next (s.setMgmtPtr (bigNat (data.take 6))))
      ∧ (data.length < 6 → exec (.i2caPointerSet addr data) s = .next s)
      ∧ (let u := s.setMgmtPtr (a + d.length)
        d ≠ [] →
        (∀ c e, u.mgmtTest a d.length = some (c, e) → exec (.i2caWrite addr p data) s = .next (u.mgmtFail c e 1))
        ∧ (u.mgmtTest a d.length = none → a < 0x1000000 → exec (.i2caWrite addr p data) s = .next (u.writeCsr a d true))
        ∧ (u.mgmtTest a d.length = none → 0x1000000 ≤ a → u.partialPoison a d.length = false →
          exec (.i2caWrite addr p data) s = .next (u.store a d))
        ∧ (u.mgmtTest a d.length = none → 0x1000000 ≤ a → u.partialPoison a d.length = true →
          exec (.i2caWrite addr p data) s = .next ((u.store a d).mgmtFail 4 0 1)))
      ∧ (let b := s.mgmtPtr
        let x := s.mgmtBytes (b / 4096) n b none
        let u := x.2.setMgmtPtr (b + n)
        exec (.i2caRead addr n) s = .next { u with readOut := u.readOut.set Path.mgmt.num x.1, sent := u.sent ++ [.wire .mgmt x.1] }))
    ∧ (s.alive = true → s.pinsTaken = false → s.mgmtSlot addr = true →
      let u := { s with i2c := { s.i2c with held := true } }
      (s.mode = .standby → s.sys.trans = none → exec (.i2caWakeMatch addr) s = .next (u.startWake 8))
      ∧ (∀ t, s.sys.trans = some t → t.target = .standby → s.sys.wake = none →
        exec (.i2caWakeMatch addr) s = .next { u with sys := { s.sys with wake := some 8 } }))
    ∧ (s.mgmtReady = true → s.mgmtSlot addr = true → exec (.i2caStretchTimeout addr) s =
      .next (({ s with i2c := { s.i2c with held := false } }.bump I2CA.ICNT_STRETCHTO 1).report 0x0E01 0 addr.toNat))
    ∧ (s.domainOn .fabric = true → exec .i2caCounterClear s = .next (s.setFlds [(I2CA.MSTAT_ERRS, 0), (I2CA.ICNT_STRETCHTO, 0)]))
    ∧ (s.domainOn .boardBus = true →
      let st := s.fld I2CB.STAT_STATE
      let ends := fun (s : State) (code n : Nat) => s.setFlds [(I2CB.STAT_CODE, code), (I2CB.STAT_NDONE, n)]
      let goes := fun (x : State) =>
        let buf := (List.range 16).flatMap fun k => leBytes 4 (x.reg (I2CB.DATA k)).toNat
        { x with sent := x.sent ++ [Sent.i2cb (x.fld I2CB.TXN_ADDR) (buf.take (x.fld I2CB.TXN_WLEN)) (x.fld I2CB.TXN_RLEN)] }.setFld I2CB.STAT_STATE 1
      (∀ low freed, st = 0 → s.flag I2CB.CTL_EN = true → s.fld I2CB.TXN_WLEN ≤ 64 → s.fld I2CB.TXN_RLEN ≤ 64 →
        let clears := s.i2c.fresh = true ∨ low = true
        (¬clears → exec (.i2cbGo low freed) s = .next (goes s))
        ∧ (clears → freed = true → exec (.i2cbGo low freed) s = .next (goes (s.busClear true)))
        ∧ (clears → freed = false → exec (.i2cbGo low freed) s = .next ((ends (s.busClear false) 6 0).bump I2CB.CNT_ERRORS 1)))
      ∧ (∀ low freed, st = 0 → s.flag I2CB.CTL_EN = true → 64 < s.fld I2CB.TXN_WLEN →
        exec (.i2cbGo low freed) s = .next ((ends s 5 0).bump I2CB.CNT_ERRORS 1))
      ∧ (∀ (nd : BitVec 7) freed, st = 1 →
        let u := s.setFld I2CB.STAT_STATE 0
        exec (.i2cbTransactionDone 0 nd data freed) s = .next (ends (u.i2cbFill (bytesAt data 0 (u.fld I2CB.TXN_RLEN))) 0
          (u.fld I2CB.TXN_WLEN + u.fld I2CB.TXN_RLEN))
        ∧ exec (.i2cbTransactionDone 1 nd data freed) s = .next ((ends u 1 nd.toNat).bump I2CB.CNT_ERRORS 1)
        ∧ exec (.i2cbTransactionDone 2 nd data freed) s = .next ((ends u 2 nd.toNat).bump I2CB.CNT_ERRORS 1)
        ∧ exec (.i2cbTransactionDone 3 nd data freed) s = .next (((ends u 3 nd.toNat).bump I2CB.CNT_ERRORS 1).busClear freed)
        ∧ ∃ k f, k ≤ s.fld I2CB.TXN_WLEN + s.fld I2CB.TXN_RLEN ∧ exec (.i2cbTimeout freed) s =
          .next (((ends ({ s with fresh := f }.setFld I2CB.STAT_STATE 0) 4 k).bump I2CB.CNT_ERRORS 1).busClear freed))
      ∧ (∀ freed, st = 3 → exec (.clrstuck freed) s = .next (s.busClear freed))
      ∧ exec .i2cbCounterClear s = .next (s.setReg I2CB.CNT 0))

/-- R606 to R609, R613 to R616, R625: an SRAM or LPDDR word that ECC corrects is counted and reported, one it cannot is poisoned,
captured and reported; the zero-fill pass fills block by block; a first write fills its block; the registers of MEMC. -/
def Obligations.MemoryErrors : Prop :=
  ∀ (s : State) (addr : BitVec 48) (channel : Fin 4), s.domainOn .lpddr = true →
    let a := addr.toNat
    let ch := lpddrChannel a
    (∀ sid, inSram a = true → s.sramPowered a = true → s.unchecked a = false →
      let fixed := (s.bump MEMC.SRCNT_CE 1).report 0x5001 (sramRegion a) a
      let bad := (((s.poisonWord a).captureErr (8 * (a / 8)) 0).bump MEMC.SRCNT_UE 1).report 0x5002 (sramRegion a) a
      exec (.sramEccRead addr false sid) s = .next fixed
      ∧ exec (.sramEccRead addr true sid) s = .next (bad.sramConsumer a (sid.map BitVec.toNat))
      ∧ (s.flag MEMC.SCRUB_SR_EN = true → exec (.sramScrub addr false) s = .next fixed
        ∧ exec (.sramScrub addr true) s = .next bad))
    ∧ (inLpddr a = true → s.blockFilled a = true →
      exec (.lpddrEccRead addr .linkFixed .other) s = .next (s.bump (MEMC.LCNTB_LINKCE ch) 1)
      ∧ exec (.lpddrEccRead addr .inlineFixed .other) s = .next ((s.bump (MEMC.LCNTA_CE ch) 1).report 0x5003 ch a)
      ∧ exec (.lpddrEccRead addr .inlineBad .other) s =
        .next ((((s.bump (MEMC.LCNTA_UE ch) 1).poisonWord a).captureErr (8 * (a / 8)) 1).lpUncorrected a)
      ∧ exec (.lpddrEccRead addr .linkRetried .other) s = .next ((s.bump (MEMC.LCNTB_LINKRETRY ch) 1).lpTransfer ch)
      ∧ exec (.lpddrEccRead addr .linkRead .other) s =
        .next (((s.bump (MEMC.LCNTB_LINKRETRY ch) 1).captureErr (8 * (a / 8)) 2).lpUncorrected a)
      ∧ (s.flag MEMC.SCRUB_LP_EN = true → exec (.lpddrPatrolScrub addr false) s = .next ((s.bump (MEMC.LCNTA_CE ch) 1).report 0x5003 ch a)
        ∧ exec (.lpddrPatrolScrub addr true) s =
          .next ((((s.bump (MEMC.LCNTA_UE ch) 1).poisonWord a).captureErr (8 * (a / 8)) 1).lpUncorrected a)))
    ∧ (inLpddr a = true → exec (.lpddrEccRead addr .linkWrite .other) s =
      .next (((((s.bump (MEMC.LCNTB_LINKRETRY ch) 1).fillBlock a).poisonWord a).captureErr (8 * (a / 8)) 2).lpUncorrected a))
    ∧ exec (.lpddrChannelFail channel) s = .next (s.raiseF 0x5005 channel.val 0)
    ∧ (s.flag MEMC.INITSTAT_RUNNING = true → s.watermark + 0x10000 < lpddrTop →
      let wm := s.watermark + 0x10000
      exec .zeroFillBlock s = .next (({ s with memx := { s.memx with filled := s.memx.filled.filter fun b => decide (wm ≤ 0x10000 * b) } }).setFlds
        [(MEMC.INITWML_WM, wm), (MEMC.INITWMH_WM, wm / 2 ^ 32)]))
    ∧ (inLpddr a = true → s.blockFilled a = false → exec (.fillOnWrite addr) s =
      .next ({ s with memx := { s.memx with filled := s.memx.filled ++ [a / 0x10000] } }.bump MEMC.INITSTAT_FOWBLK 1))
    ∧ exec .erraddrClear s = .next (s.setFld MEMC.ERRADDRH_VALID 0)
    ∧ ∃ t, exec .memcCounterClear s = .next t ∧ t.reg MEMC.SRCNT = 0 ∧ (∀ n < 4, t.reg (MEMC.LCNTA n) = 0 ∧ t.reg (MEMC.LCNTB n) = 0)
      ∧ t.mem = s.mem ∧ ∀ x, x ≠ MEMC.SRCNT → (∀ n < 4, x ≠ MEMC.LCNTA n ∧ x ≠ MEMC.LCNTB n) → t.reg x = s.reg x

end
end

