-- ==== Sys2Proof/Laws/Bits.lean ====
section
/-!
SUPPORT. The laws of bit fields: a field after it is set, and after another field of its register is set.
-/
namespace Sys2Proof.Machine

theorem bitsOf_lt (w hi lo : Nat) : bitsOf w hi lo < 2 ^ fieldWidth hi lo := Nat.mod_lt _ (Nat.two_pow_pos _)

theorem getBits_lt (w : Word) (hi lo : Nat) : getBits w hi lo < 2 ^ fieldWidth hi lo := bitsOf_lt _ _ _

theorem testBit_bitsOf (w hi lo i : Nat) : (bitsOf w hi lo).testBit i = (decide (i < fieldWidth hi lo) && w.testBit (lo + i)) := by
  simp [bitsOf, Nat.testBit_mod_two_pow, Nat.testBit_shiftRight]

theorem getLsbD_fieldMask (hi lo i : Nat) : (fieldMask hi lo).getLsbD i =
    (decide (i < 32) && decide (lo ≤ i) && decide (i - lo < fieldWidth hi lo)) := by
  rw [fieldMask, BitVec.getLsbD_ofNat, Nat.testBit_shiftLeft, Nat.testBit_two_pow_sub_one, Bool.and_assoc]

theorem testBit_putBits (w : Word) (hi lo v i : Nat) : (putBits w hi lo v).toNat.testBit i =
    if i < 32 ∧ lo ≤ i ∧ i - lo < fieldWidth hi lo then v.testBit (i - lo) else w.toNat.testBit i := by
  simp only [BitVec.testBit_toNat, putBits, BitVec.getLsbD_or, BitVec.getLsbD_and, BitVec.getLsbD_not, getLsbD_fieldMask,
    BitVec.getLsbD_ofNat, Nat.testBit_shiftLeft]
  by_cases h32 : i < 32
  · by_cases h1 : lo ≤ i <;> by_cases h2 : i - lo < fieldWidth hi lo <;> simp [h32, h1, h2]
  · have : w.getLsbD i = false := BitVec.getLsbD_of_ge w i (by omega)
    simp [h32, this]

theorem getBits_putBits_same (w : Word) (hi lo v : Nat) (h : hi < 32) : getBits (putBits w hi lo v) hi lo = v % 2 ^ fieldWidth hi lo := by
  apply Nat.eq_of_testBit_eq
  intro i
  rw [getBits, testBit_bitsOf, testBit_putBits, Nat.testBit_mod_two_pow]
  by_cases hi' : i < fieldWidth hi lo
  · have h32 : lo + i < 32 := by unfold fieldWidth at hi'; omega
    simp [hi', h32]
  · simp [hi']

theorem getBits_putBits_other (w : Word) (hi lo hi' lo' v : Nat) (h : hi < lo' ∨ hi' < lo) :
    getBits (putBits w hi lo v) hi' lo' = getBits w hi' lo' := by
  apply Nat.eq_of_testBit_eq
  intro i
  rw [getBits, testBit_bitsOf, testBit_putBits, getBits, testBit_bitsOf]
  by_cases hi2 : i < fieldWidth hi' lo'
  · have : ¬ (lo' + i < 32 ∧ lo ≤ lo' + i ∧ lo' + i - lo < fieldWidth hi lo) := by
      unfold fieldWidth at *; omega
    simp [hi2, this]
  · simp [hi2]

theorem getBits_zero (hi lo : Nat) : getBits 0 hi lo = 0 := by simp [getBits, bitsOf]

end Sys2Proof.Machine
end

