-- ==== Sys2Proof/Laws/Store.lean ====
section
/-!
SUPPORT. The laws of a sparse table: a read after a write.
-/
namespace Sys2Proof.Machine

theorem Tbl.get_set_same {α : Type} (t : Tbl α) (k : Nat) (v d : α) : (t.set k v).get k d = v := by
  induction t with
  | nil => simp [Tbl.set, Tbl.get]
  | cons e r ih =>
    obtain ⟨k', v'⟩ := e
    simp only [Tbl.set]
    split
    · simp [Tbl.get]
    · split
      · simp [Tbl.get]
      · next h _ => simp [Tbl.get, h, ih]

theorem Tbl.get_set_other {α : Type} (t : Tbl α) (k k' : Nat) (v d : α) (h : k' ≠ k) : (t.set k v).get k' d = t.get k' d := by
  induction t with
  | nil => simp [Tbl.set, Tbl.get, h]
  | cons e r ih =>
    obtain ⟨k'', v''⟩ := e
    simp only [Tbl.set]
    split
    · next h1 => subst h1; simp [Tbl.get, h]
    · split
      · simp [Tbl.get, h]
      · by_cases h2 : k' = k'' <;> simp [Tbl.get, h2, ih]

theorem Tbl.get_set {α : Type} (t : Tbl α) (k k' : Nat) (v d : α) :
    (t.set k v).get k' d = if k' = k then v else t.get k' d := by
  split
  · next h => subst h; exact Tbl.get_set_same t _ v d
  · next h => exact Tbl.get_set_other t k k' v d h

theorem Tbl.set_set {α : Type} (t : Tbl α) (k : Nat) (v w : α) : (t.set k v).set k w = t.set k w := by
  induction t with
  | nil => simp [Tbl.set]
  | cons e r ih =>
    obtain ⟨k', v'⟩ := e
    simp only [Tbl.set]
    split
    · simp [Tbl.set]
    · split
      · simp [Tbl.set]
      · next h1 h2 => simp [Tbl.set, h1, h2, ih]

/-- The table's keys rise, all from a lower bound. -/
def Tbl.rising {α : Type} : Nat → Tbl α → Bool
  | _, [] => true
  | lo, (k, _) :: r => decide (lo ≤ k) && Tbl.rising (k + 1) r

end Sys2Proof.Machine
end

