-- ==== Sys2Proof/Laws/Regs.lean ====
section
/-!
SUPPORT. The laws of the register file: what a register and a field read after a register, a field or a counter is written.
-/
namespace Sys2Proof.Machine

theorem State.reg_setReg (s : State) (a b : Nat) (w : Word) : (s.setReg a w).reg b = if b = a then w else s.reg b := by
  simp only [State.reg, State.setReg, Tbl.get_set]

@[simp] theorem State.reg_setReg_same (s : State) (a : Nat) (w : Word) : (s.setReg a w).reg a = w := by
  simp [State.reg_setReg]

theorem State.reg_setReg_other (s : State) (a b : Nat) (w : Word) (h : b ≠ a) : (s.setReg a w).reg b = s.reg b := by
  simp [State.reg_setReg, h]

/-- A field lies in its word. -/
def Fld.good (f : Fld) : Prop := f.hi < 32

theorem State.fld_setFld_same (s : State) (f : Fld) (v : Nat) (h : f.hi < 32) :
    (s.setFld f v).fld f = v % 2 ^ fieldWidth f.hi f.lo := by
  simp [State.fld, State.setFld, getBits_putBits_same, h]

theorem State.reg_setFld_other (s : State) (f : Fld) (v a : Nat) (h : a ≠ f.addr) : (s.setFld f v).reg a = s.reg a := by
  simp [State.setFld, State.reg_setReg, h]

/-- Two fields share no bit. -/
def Fld.apart (f g : Fld) : Bool := f.addr != g.addr || decide (f.hi < g.lo) || decide (g.hi < f.lo)

theorem State.fld_setFld_other (s : State) (f g : Fld) (v : Nat) (h : f.apart g = true) : (s.setFld f v).fld g = s.fld g := by
  simp only [Fld.apart, Bool.or_eq_true, bne_iff_ne, decide_eq_true_eq] at h
  simp only [State.fld, State.setFld, State.reg_setReg]
  split
  · next he =>
    rw [getBits_putBits_other, he]
    rcases h with (h | h) | h
    · exact absurd he.symm h
    · exact .inl h
    · exact .inr h
  · rfl

theorem State.fld_lt (s : State) (f : Fld) : s.fld f < 2 ^ fieldWidth f.hi f.lo := getBits_lt _ _ _

theorem State.fld_bump_same (s : State) (f : Fld) (n : Nat) (h : f.hi < 32) :
    (s.bump f n).fld f = satAdd (fieldWidth f.hi f.lo) (s.fld f) n := by
  rw [State.bump, State.fld_setFld_same _ _ _ h]
  apply Nat.mod_eq_of_lt
  have := Nat.two_pow_pos (fieldWidth f.hi f.lo)
  simp only [satAdd]; omega

theorem State.fld_bump_other (s : State) (f g : Fld) (n : Nat) (h : f.apart g = true) : (s.bump f n).fld g = s.fld g :=
  State.fld_setFld_other s f g _ h

theorem State.reg_bump_other (s : State) (f : Fld) (n a : Nat) (h : a ≠ f.addr) : (s.bump f n).reg a = s.reg a :=
  State.reg_setFld_other s f _ a h

theorem State.reg_setFlds_other (s : State) (l : List (Fld × Nat)) (a : Nat) (h : ∀ x ∈ l, a ≠ x.1.addr) :
    (s.setFlds l).reg a = s.reg a := by
  induction l generalizing s with
  | nil => rfl
  | cons x r ih =>
    obtain ⟨f, v⟩ := x
    rw [State.setFlds, ih _ (fun y hy => h y (List.mem_cons_of_mem _ hy)), State.reg_setFld_other _ _ _ _ (h _ List.mem_cons_self)]

theorem State.fld_setFlds_other (s : State) (l : List (Fld × Nat)) (g : Fld) (h : ∀ x ∈ l, x.1.apart g = true) :
    (s.setFlds l).fld g = s.fld g := by
  induction l generalizing s with
  | nil => rfl
  | cons x r ih =>
    obtain ⟨f, v⟩ := x
    rw [State.setFlds, ih _ (fun y hy => h y (List.mem_cons_of_mem _ hy)), State.fld_setFld_other _ _ _ _ (h _ List.mem_cons_self)]

end Sys2Proof.Machine
end

