-- ==== Sys2Proof/Laws/Engine.lean ====
section
/-!
SUPPORT. The laws of the slice engines: what an instruction of an engine that issues comes to.
-/
namespace Sys2Proof.Machine

@[simp] theorem State.eng_setEng (s : State) (sl : Nat) (e : Eng) : (s.setEng sl e).eng sl = e := Tbl.get_set_same _ _ _ _

theorem State.eng_setEng_other (s : State) (a b : Nat) (e : Eng) (h : b ≠ a) : (s.setEng a e).eng b = s.eng b :=
  Tbl.get_set_other _ _ _ _ _ h

@[simp] theorem State.setEng_setEng (s : State) (sl : Nat) (e f : Eng) : (s.setEng sl e).setEng sl f = s.setEng sl f := by
  simp only [State.setEng, Tbl.set_set]

@[simp] theorem State.fld_setEng (s : State) (sl : Nat) (e : Eng) (f : Fld) : (s.setEng sl e).fld f = s.fld f := rfl

@[simp] theorem State.engPc_setEng (s : State) (sl a : Nat) (e : Eng) : (s.setEng sl e).engPc a = s.engPc a := rfl

@[simp] theorem State.eng_setFld (s : State) (f : Fld) (v a : Nat) : (s.setFld f v).eng a = s.eng a := rfl

@[simp] theorem Eng.loop_sset (e : Eng) (r : BitVec 5) (v : BitVec 32) : (e.sset r v).loop = e.loop := by
  unfold Eng.sset; split <;> rfl

@[simp] theorem Eng.busy_sset (e : Eng) (r : BitVec 5) (v : BitVec 32) : (e.sset r v).busy = e.busy := by
  unfold Eng.sset; split <;> rfl

/-- s0 reads 0, the register written reads its new value, every other register as before (R336). -/
theorem Eng.sget_sset (e : Eng) (r q : BitVec 5) (v : BitVec 32) :
    (e.sset r v).sget q = if q = 0 then 0 else if q = r then v else e.sget q := by
  unfold Eng.sset Eng.sget
  by_cases hq : q = 0
  · simp [hq]
  · by_cases hr : r = 0
    · subst hr; simp only [hq, if_false, if_true]
    · simp only [hq, hr, if_false]
      by_cases h : q = r
      · subst h; simp [Tbl.get_set_same]
      · have hn : q.toNat ≠ r.toNat := fun hh => h (BitVec.eq_of_toNat_eq hh)
        simp [h, Tbl.get_set_other _ _ _ _ _ hn]

/-- An instruction of an engine that issues it is its body and then its flow. -/
theorem State.engIssue_eq {s : State} {sl : Slice} (h : s.fetches sl) (c : Nat) (body : State → Eng → State × Flow) :
    s.engIssue sl c body = (body s (s.eng sl)).1.engFlow sl c (body s (s.eng sl)).2 := by
  obtain ⟨h1, h2, h4⟩ := h
  have h3 : ¬ (s.eng sl).codeLen / 4 ≤ s.engPc sl := by omega
  simp only [State.engIssue, h1, Bool.not_true, Bool.false_eq_true, if_false, h3, h4]

/-- An instruction that only changes the engine and goes on. -/
theorem State.engFlow_wentOn {s : State} {sl : Slice} {e : Eng} (h : (nextIndex (s.engPc sl) e.loop).1 < 8192) (c : Nat) :
    (s.setEng sl e).engFlow sl c .seq = s.wentOn sl c e := by
  simp only [State.engFlow, State.eng_setEng, State.engPc_setEng, State.setEng_setEng, State.wentOn, if_neg (Nat.not_le.mpr h)]

theorem State.engFlow_seq {s : State} {sl : Slice} (h : (nextIndex (s.engPc sl) (s.eng sl).loop).1 < 8192) (c : Nat) :
    s.engFlow sl c .seq = s.wentOn sl c (s.eng sl) := by
  simp only [State.engFlow, State.wentOn, if_neg (Nat.not_le.mpr h)]

@[simp] theorem Eng.loop_vset (e : Eng) (r : BitVec 3) (l : List (BitVec 16)) : (e.vset r l).loop = e.loop := rfl

theorem State.engScalar_eq {s : State} {sl : Slice} (h : s.issues sl) (sd : BitVec 5) (v : Eng → BitVec 32) :
    s.engScalar sl sd v = s.wentOn sl 1 ((s.eng sl).sset sd (v (s.eng sl))) := by
  rw [State.engScalar, State.engIssue_eq h.1, State.engFlow_wentOn (by rw [Eng.loop_sset]; exact h.2)]

theorem State.engVector_eq {s : State} {sl : Slice} (h : s.issues sl) (vd : BitVec 3) (v : Eng → List (BitVec 16)) :
    s.engVector sl vd v = s.wentOn sl 1 ((s.eng sl).vset vd (v (s.eng sl))) := by
  rw [State.engVector, State.engIssue_eq h.1, State.engFlow_wentOn (by rw [Eng.loop_vset]; exact h.2)]

end Sys2Proof.Machine
end

