-- ==== Sys2Proof/Laws/Memory.lean ====
section
/-!
SUPPORT. The laws of memory: a read after a write, and that every memory operation keeps the canonical form.
-/
namespace Sys2Proof.Machine

theorem Memory.get_put_same (m : List Host.Cell) (a : Nat) (b : Byte) : Memory.wf m = true → Memory.get (Memory.put m a b) a = b := by
  suffices h : ∀ lo, Memory.wfFrom lo m = true → Memory.get (Memory.put m a b) a = b from h 0
  induction m with
  | nil => intro lo _; by_cases h : b = 0#8 <;> simp [Memory.put, Memory.get, h]
  | cons e r ih =>
    obtain ⟨a', b'⟩ := e
    intro lo hw
    simp only [Memory.wfFrom, Bool.and_eq_true, decide_eq_true_eq] at hw
    have low : ∀ (r : List Host.Cell) (k : Nat), Memory.wfFrom k r = true → a < k → Memory.get r a = 0 := by
      intro r
      induction r with
      | nil => intros; rfl
      | cons e r ih =>
        obtain ⟨x, y⟩ := e
        intro k hk ha
        simp only [Memory.wfFrom, Bool.and_eq_true, decide_eq_true_eq] at hk
        have : a ≠ x := by omega
        simp [Memory.get, this, ih (x + 1) hk.2 (by omega)]
    by_cases h1 : a = a'
    · subst h1
      by_cases hb : b = 0#8
      · simp [Memory.put, hb, low r (a + 1) hw.2 (by omega)]
      · simp [Memory.put, hb, Memory.get]
    · by_cases h2 : a < a'
      · by_cases hb : b = 0#8
        · simp [Memory.put, h1, h2, hb, Memory.get, low r (a' + 1) hw.2 (by omega)]
        · simp [Memory.put, h1, h2, hb, Memory.get]
      · simp [Memory.put, h1, h2, Memory.get, ih (a' + 1) hw.2]

theorem Memory.get_put_other (m : List Host.Cell) (a a' : Nat) (b : Byte) (h : a' ≠ a) : Memory.get (Memory.put m a b) a' = Memory.get m a' := by
  induction m with
  | nil => by_cases hb : b = 0#8 <;> simp [Memory.put, Memory.get, hb, h]
  | cons e r ih =>
    obtain ⟨x, y⟩ := e
    by_cases h1 : a = x
    · subst h1; by_cases hb : b = 0#8 <;> simp [Memory.put, Memory.get, hb, h]
    · by_cases h2 : a < x
      · by_cases hb : b = 0#8 <;> simp [Memory.put, Memory.get, h1, h2, hb, h]
      · by_cases h3 : a' = x <;> simp [Memory.put, Memory.get, h1, h2, h3, ih]

theorem Memory.wfFrom_le {lo lo' : Nat} (m : List Host.Cell) (h : lo' ≤ lo) (hw : Memory.wfFrom lo m = true) : Memory.wfFrom lo' m = true := by
  cases m with
  | nil => rfl
  | cons e r =>
    simp only [Memory.wfFrom, Bool.and_eq_true, decide_eq_true_eq] at hw ⊢
    exact ⟨⟨by omega, hw.1.2⟩, hw.2⟩

theorem Memory.wfFrom_put (m : List Host.Cell) (a : Nat) (b : Byte) (lo : Nat) (h : lo ≤ a) (hw : Memory.wfFrom lo m = true) :
    Memory.wfFrom lo (Memory.put m a b) = true := by
  induction m generalizing lo with
  | nil => by_cases hb : b = 0#8 <;> simp [Memory.put, Memory.wfFrom, hb, h]
  | cons e r ih =>
    obtain ⟨x, y⟩ := e
    have hw' := hw
    simp only [Memory.wfFrom, Bool.and_eq_true, decide_eq_true_eq] at hw
    by_cases h1 : a = x
    · subst h1
      by_cases hb : b = 0#8
      · simpa [Memory.put, hb] using Memory.wfFrom_le r (by omega) hw.2
      · simp [Memory.put, Memory.wfFrom, hb, h, hw.2]
    · by_cases h2 : a < x
      · by_cases hb : b = 0#8
        · simpa [Memory.put, h1, h2, hb] using hw'
        · have hx : y ≠ 0#8 := by simpa using hw.1.2
          have hax : a + 1 ≤ x := by omega
          simp [Memory.put, h1, h2, Memory.wfFrom, hb, h, hx, hw.2, hax]
      · have hy := hw.1.2
        have hx : y ≠ 0#8 := by simpa using hy
        simp [Memory.put, h1, h2, Memory.wfFrom, hw.1.1, hx, ih (x + 1) (by omega) hw.2]

theorem Memory.wf_put (m : List Host.Cell) (a : Nat) (b : Byte) (h : Memory.wf m = true) : Memory.wf (Memory.put m a b) = true :=
  Memory.wfFrom_put m a b 0 (Nat.zero_le a) h

theorem Memory.wf_putList (l : List Byte) (m : List Host.Cell) (a : Nat) (h : Memory.wf m = true) : Memory.wf (Memory.putList m a l) = true := by
  induction l generalizing m a with
  | nil => exact h
  | cons b r ih => exact ih _ _ (Memory.wf_put m a b h)

theorem Memory.wfFrom_filter (m : List Host.Cell) (p : Host.Cell → Bool) (lo : Nat) (hw : Memory.wfFrom lo m = true) :
    Memory.wfFrom lo (m.filter p) = true := by
  induction m generalizing lo with
  | nil => rfl
  | cons e r ih =>
    obtain ⟨x, y⟩ := e
    simp only [Memory.wfFrom, Bool.and_eq_true, decide_eq_true_eq] at hw
    rw [List.filter_cons]
    split
    · have hx : y ≠ 0#8 := by simpa using hw.1.2
      simp [Memory.wfFrom, hw.1.1, hx, ih (x + 1) hw.2]
    · exact Memory.wfFrom_le _ (by omega) (ih (x + 1) hw.2)

theorem Memory.wf_filter (m : List Host.Cell) (p : Host.Cell → Bool) (h : Memory.wf m = true) : Memory.wf (m.filter p) = true :=
  Memory.wfFrom_filter m p 0 h

theorem Memory.get_putList_other (l : List Byte) (m : List Host.Cell) (a x : Nat) (h : x < a ∨ a + l.length ≤ x) :
    Memory.get (Memory.putList m a l) x = Memory.get m x := by
  induction l generalizing m a with
  | nil => rfl
  | cons b r ih =>
    simp only [List.length_cons] at h
    rw [Memory.putList, ih _ _ (by omega), Memory.get_put_other _ _ _ _ (by omega)]

theorem Memory.get_putList_same (l : List Byte) (m : List Host.Cell) (a i : Nat) (h : i < l.length) (hw : Memory.wf m = true) :
    Memory.get (Memory.putList m a l) (a + i) = l.getD i 0 := by
  induction l generalizing m a i with
  | nil => simp at h
  | cons b r ih =>
    rw [Memory.putList]
    cases i with
    | zero => rw [Memory.get_putList_other _ _ _ _ (by omega)]; simp [Memory.get_put_same m a b hw]
    | succ i =>
      have := ih (Memory.put m a b) (a + 1) i (by simpa using h) (Memory.wf_put m a b hw)
      rw [show a + (i + 1) = a + 1 + i by omega, this]; simp

end Sys2Proof.Machine
end

