-- ==== Sys2Proof/Laws/Keeps.lean ====
section
/-!
SUPPORT. The laws of Keeps: it composes, an update of other fields has it, and the operations on memory have it.
-/
namespace Sys2Proof.Machine

theorem Fuses.le_refl (a : Fuses) : a.le a :=
  ⟨Nat.and_self _, Nat.le_refl _, Nat.le_refl _, fun _ h => h, fun _ h => h⟩

theorem Fuses.le_trans {a b c : Fuses} (h : a.le b) (k : b.le c) : a.le c := by
  obtain ⟨h1, h2, h3, h4, h5⟩ := h
  obtain ⟨k1, k2, k3, k4, k5⟩ := k
  refine ⟨?_, Nat.le_trans h2 k2, Nat.le_trans h3 k3, fun x hx => k4 x (h4 x hx), fun x hx => k5 x (h5 x hx)⟩
  rw [← h1, Nat.and_assoc, k1]

theorem Keeps.refl (s : State) : Keeps s s := ⟨rfl, id, Fuses.le_refl _, id⟩

theorem Keeps.trans {a b c : State} (h : Keeps a b) (k : Keeps b c) : Keeps a c :=
  ⟨k.queue.trans h.queue, k.memory ∘ h.memory, Fuses.le_trans h.fuses k.fuses, k.fit ∘ h.fit⟩

theorem Keeps.ite {o a b : State} {c : Prop} [Decidable c] (ha : Keeps o a) (hb : Keeps o b) : Keeps o (if c then a else b) := by
  split <;> assumption

theorem Keeps.foldl {α : Type} {o s : State} {f : State → α → State} {l : List α} (h : Keeps o s)
    (hf : ∀ s x, Keeps o s → Keeps o (f s x)) : Keeps o (l.foldl f s) := by
  induction l generalizing s with
  | nil => exact h
  | cons x r ih => exact ih (hf s x h)

/-- An update of fields other than the queue, memory, poison and fuses. -/
theorem Keeps.upd {o s t : State} (h : Keeps o s) (hq : t.pending = s.pending) (hm : t.mem = s.mem)
    (hp : t.memx.poison = s.memx.poison) (hb : t.blown = s.blown) : Keeps o t := by
  refine ⟨hq.trans h.queue, fun hg => ?_, hb ▸ h.fuses, hb ▸ h.fit⟩
  have := h.memory hg
  unfold State.memoryGood at *
  rwa [hm, hp]

/-- An update of fields other than the queue, memory, poison and fuses, as a record. -/
theorem Keeps.of_mk {o s : State} {csr : Tbl Word} {memx : MemX} {keeper : Keeper} {intr : List IntMsg} {iseq : Tbl Nat}
    {sys : Sys} {fuses : Fuses} {sec : Sec} {tsu : Tsu} {links : Tbl LinkSt} {ports : Tbl PortSt} {ledger : List
    LedgerEntry} {cfg : Cfg} {ingests : Tbl Ingest} {cams : Tbl Cam} {streams : Tbl StreamSt} {rot : Rot} {lats : Tbl LatSt}
    {pair : Pair} {pl : PeerLl} {motions : List (Nat × Int × Int)} {upl : Upl} {bridge : Bridge} {mbx : Mbx} {dma : Tbl Dma} {cans : Tbl
    CanSt} {i2c : I2c} {engs : Tbl Eng} {progs : List Binary} {sent : List Sent} {snaps : Tbl Word} {readOut : Tbl (List
    Byte)} {fresh : Nat}
    (h : Keeps o s) (hp : memx.poison = s.memx.poison) :
    Keeps o ⟨csr, s.mem, memx, keeper, intr, iseq, sys, fuses, s.blown, sec, tsu, links, ports, ledger, cfg, ingests, cams,
    streams, rot, lats, pair, pl, motions, upl, bridge, mbx, dma, cans, i2c, engs, progs, sent, snaps, readOut, fresh,
    s.pending⟩ := Keeps.upd h rfl rfl hp rfl

/-- An update of memory that keeps its form, with poison among the poison before. -/
theorem Keeps.mem {o s t : State} (h : Keeps o s) (hq : t.pending = s.pending) (hm : Memory.wf s.mem = true → Memory.wf t.mem = true)
    (p : Nat → Bool) (hp : t.memx.poison = s.memx.poison.filter p) (hb : t.blown = s.blown) : Keeps o t := by
  refine ⟨hq.trans h.queue, fun hg => ?_, hb ▸ h.fuses, hb ▸ h.fit⟩
  obtain ⟨h1, h2, h3⟩ := h.memory hg
  refine ⟨hm h1, fun w hw => ?_, ?_⟩
  · rw [hp] at hw; exact h2 w (List.mem_filter.mp hw).1
  · rw [hp]; exact h3.filter p

/-- A state whose memory lists nothing. -/
theorem Keeps.fresh {o s t : State} (h : Keeps o s) (hq : t.pending = s.pending) (hm : t.mem = []) (hp : t.memx.poison = [])
    (hb : t.blown = s.blown) : Keeps o t := by
  refine ⟨hq.trans h.queue, fun _ => ⟨by rw [hm]; rfl, ?_, ?_⟩, hb ▸ h.fuses, hb ▸ h.fit⟩
  · rw [hp]; exact fun w hw => absurd hw List.not_mem_nil
  · rw [hp]; exact List.nodup_nil

theorem State.setReg_keeps {o s : State} {a : Nat} {w : Word} (h : Keeps o s) : Keeps o (s.setReg a w) := Keeps.upd h rfl rfl rfl rfl

theorem State.setFld_keeps {o s : State} {f : Fld} {v : Nat} (h : Keeps o s) : Keeps o (s.setFld f v) := Keeps.upd h rfl rfl rfl rfl

theorem State.bump_keeps {o s : State} {f : Fld} {n : Nat} (h : Keeps o s) : Keeps o (s.bump f n) := Keeps.upd h rfl rfl rfl rfl

theorem State.setFlds_keeps {o s : State} {l : List (Fld × Nat)} (h : Keeps o s) : Keeps o (s.setFlds l) := by
  induction l generalizing s with
  | nil => exact h
  | cons x r ih => obtain ⟨f, v⟩ := x; exact ih (State.setFld_keeps h)

theorem State.fillBlock_keeps {o s : State} {a : Nat} (h : Keeps o s) : Keeps o (s.fillBlock a) := by
  unfold State.fillBlock
  split
  · exact State.bump_keeps (Keeps.upd h rfl rfl rfl rfl)
  · exact h

theorem State.fillEnds_keeps {o s : State} {a n : Nat} (h : Keeps o s) :
    Keeps o (if n = 0 then (if n = 0 then s else s.fillBlock a) else (if n = 0 then s else s.fillBlock a).fillBlock (a + n - 1)) := by
  have h1 : Keeps o (if n = 0 then s else s.fillBlock a) := Keeps.ite h (State.fillBlock_keeps h)
  exact Keeps.ite h1 (State.fillBlock_keeps h1)

theorem State.poke_keeps {o s : State} {a : Nat} {l : List Byte} (h : Keeps o s) : Keeps o (s.poke a l) :=
  State.fillEnds_keeps (Keeps.mem h rfl (Memory.wf_putList l s.mem a)
    (fun w => !(decide (a ≤ w) && decide (w + 8 ≤ a + l.length))) rfl rfl)

theorem State.store_keeps {o s : State} {a : Nat} {l : List Byte} (h : Keeps o s) : Keeps o (s.store a l) := by
  unfold State.store
  exact Keeps.ite (State.poke_keeps h) (State.poke_keeps h)

theorem State.poisonWord_keeps {o s : State} {w : Nat} (h : Keeps o s) : Keeps o (s.poisonWord w) := by
  unfold State.poisonWord
  dsimp only
  split
  · exact h
  · next hc =>
    refine ⟨h.queue, fun hg => ?_, h.fuses, h.fit⟩
    obtain ⟨h1, h2, h3⟩ := h.memory hg
    refine ⟨h1, fun x hx => ?_, ?_⟩
    · rcases List.mem_append.mp hx with hx | hx
      · exact h2 x hx
      · rw [List.mem_singleton.mp hx]; omega
    · refine List.nodup_append.mpr ⟨h3, by simp, fun x hx y hy => ?_⟩
      rw [List.mem_singleton.mp hy]
      intro he; subst he; simp [hx] at hc

theorem State.keepMem_keeps {o s : State} {p : Nat → Bool} (h : Keeps o s) : Keeps o (s.keepMem p) :=
  Keeps.mem h rfl (Memory.wf_filter s.mem _) p rfl rfl

theorem State.captureErr_keeps {o s : State} {a src : Nat} (h : Keeps o s) : Keeps o (s.captureErr a src) := by
  unfold State.captureErr
  exact Keeps.ite h (State.setFlds_keeps h)

theorem State.took_keeps {o s : State} (h : Keeps o s) : Keeps o s.took := Keeps.upd h rfl rfl rfl rfl

theorem State.intrEvent_keeps {o s : State} {src cause arg : Nat} (h : Keeps o s) : Keeps o (s.intrEvent src cause arg) :=
  Keeps.upd h rfl rfl rfl rfl

theorem State.loseFault_keeps {o s : State} {code : Nat} (h : Keeps o s) : Keeps o (s.loseFault code) := by
  unfold State.loseFault
  repeat' first | exact h | with_reducible apply Keeps.ite | with_reducible apply State.intrEvent_keeps | with_reducible apply State.bump_keeps | with_reducible apply State.setFld_keeps

theorem State.driveFaultN_keeps {o s : State} (h : Keeps o s) : Keeps o s.driveFaultN := by
  unfold State.driveFaultN
  dsimp only
  repeat' first | exact h | with_reducible apply Keeps.ite | with_reducible apply State.intrEvent_keeps | with_reducible apply State.setFld_keeps

theorem State.report_keeps {o s : State} {code inst arg : Nat} (h : Keeps o s) : Keeps o (s.report code inst arg) := by
  unfold State.report
  dsimp only
  split
  · split <;> exact Keeps.upd h rfl rfl rfl rfl
  · split
    · exact Keeps.upd h rfl rfl rfl rfl
    · split
      · split
        · exact State.setFld_keeps (Keeps.upd h rfl rfl rfl rfl)
        · exact Keeps.upd h rfl rfl rfl rfl
      · exact State.driveFaultN_keeps (State.loseFault_keeps h)

theorem Keeps.ite_fst {α : Type} {o : State} {a b : State × α} {c : Prop} [Decidable c] (ha : Keeps o a.1) (hb : Keeps o b.1) :
    Keeps o (if c then a else b).1 := by split <;> assumption

theorem Keeps.ite_snd {α : Type} {o : State} {a b : α × State} {c : Prop} [Decidable c] (ha : Keeps o a.2) (hb : Keeps o b.2) :
    Keeps o (if c then a else b).2 := by split <;> assumption

theorem Keeps.foldl_fst {α β : Type} {o : State} {s : State × β} {f : State × β → α → State × β} {l : List α} (h : Keeps o s.1)
    (hf : ∀ s x, Keeps o s.1 → Keeps o (f s x).1) : Keeps o (l.foldl f s).1 := by
  induction l generalizing s with
  | nil => exact h
  | cons x r ih => exact ih (hf s x h)

theorem Keeps.foldl_snd {α β : Type} {o : State} {s : β × State} {f : β × State → α → β × State} {l : List α} (h : Keeps o s.2)
    (hf : ∀ s x, Keeps o s.2 → Keeps o (f s x).2) : Keeps o (l.foldl f s).2 := by
  induction l generalizing s with
  | nil => exact h
  | cons x r ih => exact ih (hf s x h)

/-- An operation that may answer a state: the state it answers keeps what a command keeps. -/
def KeepsOpt (o : State) (r : Option State) : Prop := ∀ x, r = some x → Keeps o x

theorem KeepsOpt.ofNone {o : State} : KeepsOpt o none := fun _ h => nomatch h

theorem KeepsOpt.ofSome {o t : State} (h : Keeps o t) : KeepsOpt o (some t) := fun x e => by injection e with e; subst e; exact h

theorem KeepsOpt.get {o x : State} {r : Option State} (h : KeepsOpt o r) (e : r = some x) : Keeps o x := h x e

theorem KeepsOpt.ite {o : State} {a b : Option State} {c : Prop} [Decidable c] (ha : KeepsOpt o a) (hb : KeepsOpt o b) :
    KeepsOpt o (if c then a else b) := by split <;> assumption

/-- An operation that may answer something and a state. -/
def KeepsSome {α : Type} (o : State) (r : Option (α × State)) : Prop := ∀ x, r = some x → Keeps o x.2

theorem KeepsSome.ofNone {α : Type} {o : State} : KeepsSome (α := α) o none := fun _ h => nomatch h

theorem KeepsSome.ofSome {α : Type} {o : State} {t : α × State} (h : Keeps o t.2) : KeepsSome o (some t) :=
  fun x e => by injection e with e; subst e; exact h

theorem KeepsSome.get {α : Type} {o : State} {x : α × State} {r : Option (α × State)} (h : KeepsSome o r) (e : r = some x) :
    Keeps o x.2 := h x e

theorem KeepsSome.ite {α : Type} {o : State} {a b : Option (α × State)} {c : Prop} [Decidable c] (ha : KeepsSome o a)
    (hb : KeepsSome o b) : KeepsSome o (if c then a else b) := by split <;> assumption

/-- A command that goes on to a state that keeps what a command keeps. -/
def KeepsOut (o : State) (r : Out) : Prop := ∃ t, r = .next t ∧ Keeps o t

theorem KeepsOut.next {o t : State} (h : Keeps o t) : KeepsOut o (.next t) := ⟨t, rfl, h⟩

theorem KeepsOut.ite {o : State} {a b : Out} {c : Prop} [Decidable c] (ha : KeepsOut o a) (hb : KeepsOut o b) :
    KeepsOut o (if c then a else b) := by split <;> assumption

end Sys2Proof.Machine
end

