-- ==== Sys2Proof/Laws/State.lean ====
section
/-!
SUPPORT. One lemma per field of State per update: what an update leaves alone, and what it sets.
-/
namespace Sys2Proof.Machine

/-! ## setReg -/

@[simp] theorem State.setReg_mem (s : State) (a : Nat) (w : Word) : (s.setReg a w).mem = s.mem := rfl
@[simp] theorem State.setReg_memx (s : State) (a : Nat) (w : Word) : (s.setReg a w).memx = s.memx := rfl
@[simp] theorem State.setReg_keeper (s : State) (a : Nat) (w : Word) : (s.setReg a w).keeper = s.keeper := rfl
@[simp] theorem State.setReg_intr (s : State) (a : Nat) (w : Word) : (s.setReg a w).intr = s.intr := rfl
@[simp] theorem State.setReg_iseq (s : State) (a : Nat) (w : Word) : (s.setReg a w).iseq = s.iseq := rfl
@[simp] theorem State.setReg_sys (s : State) (a : Nat) (w : Word) : (s.setReg a w).sys = s.sys := rfl
@[simp] theorem State.setReg_fuses (s : State) (a : Nat) (w : Word) : (s.setReg a w).fuses = s.fuses := rfl
@[simp] theorem State.setReg_blown (s : State) (a : Nat) (w : Word) : (s.setReg a w).blown = s.blown := rfl
@[simp] theorem State.setReg_sec (s : State) (a : Nat) (w : Word) : (s.setReg a w).sec = s.sec := rfl
@[simp] theorem State.setReg_tsu (s : State) (a : Nat) (w : Word) : (s.setReg a w).tsu = s.tsu := rfl
@[simp] theorem State.setReg_links (s : State) (a : Nat) (w : Word) : (s.setReg a w).links = s.links := rfl
@[simp] theorem State.setReg_ports (s : State) (a : Nat) (w : Word) : (s.setReg a w).ports = s.ports := rfl
@[simp] theorem State.setReg_ledger (s : State) (a : Nat) (w : Word) : (s.setReg a w).ledger = s.ledger := rfl
@[simp] theorem State.setReg_cfg (s : State) (a : Nat) (w : Word) : (s.setReg a w).cfg = s.cfg := rfl
@[simp] theorem State.setReg_ingests (s : State) (a : Nat) (w : Word) : (s.setReg a w).ingests = s.ingests := rfl
@[simp] theorem State.setReg_cams (s : State) (a : Nat) (w : Word) : (s.setReg a w).cams = s.cams := rfl
@[simp] theorem State.setReg_streams (s : State) (a : Nat) (w : Word) : (s.setReg a w).streams = s.streams := rfl
@[simp] theorem State.setReg_rot (s : State) (a : Nat) (w : Word) : (s.setReg a w).rot = s.rot := rfl
@[simp] theorem State.setReg_lats (s : State) (a : Nat) (w : Word) : (s.setReg a w).lats = s.lats := rfl
@[simp] theorem State.setReg_pair (s : State) (a : Nat) (w : Word) : (s.setReg a w).pair = s.pair := rfl
@[simp] theorem State.setReg_pl (s : State) (a : Nat) (w : Word) : (s.setReg a w).pl = s.pl := rfl
@[simp] theorem State.setReg_motions (s : State) (a : Nat) (w : Word) : (s.setReg a w).motions = s.motions := rfl
@[simp] theorem State.setReg_upl (s : State) (a : Nat) (w : Word) : (s.setReg a w).upl = s.upl := rfl
@[simp] theorem State.setReg_bridge (s : State) (a : Nat) (w : Word) : (s.setReg a w).bridge = s.bridge := rfl
@[simp] theorem State.setReg_mbx (s : State) (a : Nat) (w : Word) : (s.setReg a w).mbx = s.mbx := rfl
@[simp] theorem State.setReg_dma (s : State) (a : Nat) (w : Word) : (s.setReg a w).dma = s.dma := rfl
@[simp] theorem State.setReg_cans (s : State) (a : Nat) (w : Word) : (s.setReg a w).cans = s.cans := rfl
@[simp] theorem State.setReg_i2c (s : State) (a : Nat) (w : Word) : (s.setReg a w).i2c = s.i2c := rfl
@[simp] theorem State.setReg_engs (s : State) (a : Nat) (w : Word) : (s.setReg a w).engs = s.engs := rfl
@[simp] theorem State.setReg_progs (s : State) (a : Nat) (w : Word) : (s.setReg a w).progs = s.progs := rfl
@[simp] theorem State.setReg_sent (s : State) (a : Nat) (w : Word) : (s.setReg a w).sent = s.sent := rfl
@[simp] theorem State.setReg_snaps (s : State) (a : Nat) (w : Word) : (s.setReg a w).snaps = s.snaps := rfl
@[simp] theorem State.setReg_readOut (s : State) (a : Nat) (w : Word) : (s.setReg a w).readOut = s.readOut := rfl
@[simp] theorem State.setReg_fresh (s : State) (a : Nat) (w : Word) : (s.setReg a w).fresh = s.fresh := rfl
@[simp] theorem State.setReg_pending (s : State) (a : Nat) (w : Word) : (s.setReg a w).pending = s.pending := rfl

/-! ## setFld -/

@[simp] theorem State.setFld_mem (s : State) (f : Fld) (v : Nat) : (s.setFld f v).mem = s.mem := rfl
@[simp] theorem State.setFld_memx (s : State) (f : Fld) (v : Nat) : (s.setFld f v).memx = s.memx := rfl
@[simp] theorem State.setFld_keeper (s : State) (f : Fld) (v : Nat) : (s.setFld f v).keeper = s.keeper := rfl
@[simp] theorem State.setFld_intr (s : State) (f : Fld) (v : Nat) : (s.setFld f v).intr = s.intr := rfl
@[simp] theorem State.setFld_iseq (s : State) (f : Fld) (v : Nat) : (s.setFld f v).iseq = s.iseq := rfl
@[simp] theorem State.setFld_sys (s : State) (f : Fld) (v : Nat) : (s.setFld f v).sys = s.sys := rfl
@[simp] theorem State.setFld_fuses (s : State) (f : Fld) (v : Nat) : (s.setFld f v).fuses = s.fuses := rfl
@[simp] theorem State.setFld_blown (s : State) (f : Fld) (v : Nat) : (s.setFld f v).blown = s.blown := rfl
@[simp] theorem State.setFld_sec (s : State) (f : Fld) (v : Nat) : (s.setFld f v).sec = s.sec := rfl
@[simp] theorem State.setFld_tsu (s : State) (f : Fld) (v : Nat) : (s.setFld f v).tsu = s.tsu := rfl
@[simp] theorem State.setFld_links (s : State) (f : Fld) (v : Nat) : (s.setFld f v).links = s.links := rfl
@[simp] theorem State.setFld_ports (s : State) (f : Fld) (v : Nat) : (s.setFld f v).ports = s.ports := rfl
@[simp] theorem State.setFld_ledger (s : State) (f : Fld) (v : Nat) : (s.setFld f v).ledger = s.ledger := rfl
@[simp] theorem State.setFld_cfg (s : State) (f : Fld) (v : Nat) : (s.setFld f v).cfg = s.cfg := rfl
@[simp] theorem State.setFld_ingests (s : State) (f : Fld) (v : Nat) : (s.setFld f v).ingests = s.ingests := rfl
@[simp] theorem State.setFld_cams (s : State) (f : Fld) (v : Nat) : (s.setFld f v).cams = s.cams := rfl
@[simp] theorem State.setFld_streams (s : State) (f : Fld) (v : Nat) : (s.setFld f v).streams = s.streams := rfl
@[simp] theorem State.setFld_rot (s : State) (f : Fld) (v : Nat) : (s.setFld f v).rot = s.rot := rfl
@[simp] theorem State.setFld_lats (s : State) (f : Fld) (v : Nat) : (s.setFld f v).lats = s.lats := rfl
@[simp] theorem State.setFld_pair (s : State) (f : Fld) (v : Nat) : (s.setFld f v).pair = s.pair := rfl
@[simp] theorem State.setFld_pl (s : State) (f : Fld) (v : Nat) : (s.setFld f v).pl = s.pl := rfl
@[simp] theorem State.setFld_motions (s : State) (f : Fld) (v : Nat) : (s.setFld f v).motions = s.motions := rfl
@[simp] theorem State.setFld_upl (s : State) (f : Fld) (v : Nat) : (s.setFld f v).upl = s.upl := rfl
@[simp] theorem State.setFld_bridge (s : State) (f : Fld) (v : Nat) : (s.setFld f v).bridge = s.bridge := rfl
@[simp] theorem State.setFld_mbx (s : State) (f : Fld) (v : Nat) : (s.setFld f v).mbx = s.mbx := rfl
@[simp] theorem State.setFld_dma (s : State) (f : Fld) (v : Nat) : (s.setFld f v).dma = s.dma := rfl
@[simp] theorem State.setFld_cans (s : State) (f : Fld) (v : Nat) : (s.setFld f v).cans = s.cans := rfl
@[simp] theorem State.setFld_i2c (s : State) (f : Fld) (v : Nat) : (s.setFld f v).i2c = s.i2c := rfl
@[simp] theorem State.setFld_engs (s : State) (f : Fld) (v : Nat) : (s.setFld f v).engs = s.engs := rfl
@[simp] theorem State.setFld_progs (s : State) (f : Fld) (v : Nat) : (s.setFld f v).progs = s.progs := rfl
@[simp] theorem State.setFld_sent (s : State) (f : Fld) (v : Nat) : (s.setFld f v).sent = s.sent := rfl
@[simp] theorem State.setFld_snaps (s : State) (f : Fld) (v : Nat) : (s.setFld f v).snaps = s.snaps := rfl
@[simp] theorem State.setFld_readOut (s : State) (f : Fld) (v : Nat) : (s.setFld f v).readOut = s.readOut := rfl
@[simp] theorem State.setFld_fresh (s : State) (f : Fld) (v : Nat) : (s.setFld f v).fresh = s.fresh := rfl
@[simp] theorem State.setFld_pending (s : State) (f : Fld) (v : Nat) : (s.setFld f v).pending = s.pending := rfl

/-! ## bump -/

@[simp] theorem State.bump_mem (s : State) (f : Fld) (n : Nat) : (s.bump f n).mem = s.mem := rfl
@[simp] theorem State.bump_memx (s : State) (f : Fld) (n : Nat) : (s.bump f n).memx = s.memx := rfl
@[simp] theorem State.bump_keeper (s : State) (f : Fld) (n : Nat) : (s.bump f n).keeper = s.keeper := rfl
@[simp] theorem State.bump_intr (s : State) (f : Fld) (n : Nat) : (s.bump f n).intr = s.intr := rfl
@[simp] theorem State.bump_iseq (s : State) (f : Fld) (n : Nat) : (s.bump f n).iseq = s.iseq := rfl
@[simp] theorem State.bump_sys (s : State) (f : Fld) (n : Nat) : (s.bump f n).sys = s.sys := rfl
@[simp] theorem State.bump_fuses (s : State) (f : Fld) (n : Nat) : (s.bump f n).fuses = s.fuses := rfl
@[simp] theorem State.bump_blown (s : State) (f : Fld) (n : Nat) : (s.bump f n).blown = s.blown := rfl
@[simp] theorem State.bump_sec (s : State) (f : Fld) (n : Nat) : (s.bump f n).sec = s.sec := rfl
@[simp] theorem State.bump_tsu (s : State) (f : Fld) (n : Nat) : (s.bump f n).tsu = s.tsu := rfl
@[simp] theorem State.bump_links (s : State) (f : Fld) (n : Nat) : (s.bump f n).links = s.links := rfl
@[simp] theorem State.bump_ports (s : State) (f : Fld) (n : Nat) : (s.bump f n).ports = s.ports := rfl
@[simp] theorem State.bump_ledger (s : State) (f : Fld) (n : Nat) : (s.bump f n).ledger = s.ledger := rfl
@[simp] theorem State.bump_cfg (s : State) (f : Fld) (n : Nat) : (s.bump f n).cfg = s.cfg := rfl
@[simp] theorem State.bump_ingests (s : State) (f : Fld) (n : Nat) : (s.bump f n).ingests = s.ingests := rfl
@[simp] theorem State.bump_cams (s : State) (f : Fld) (n : Nat) : (s.bump f n).cams = s.cams := rfl
@[simp] theorem State.bump_streams (s : State) (f : Fld) (n : Nat) : (s.bump f n).streams = s.streams := rfl
@[simp] theorem State.bump_rot (s : State) (f : Fld) (n : Nat) : (s.bump f n).rot = s.rot := rfl
@[simp] theorem State.bump_lats (s : State) (f : Fld) (n : Nat) : (s.bump f n).lats = s.lats := rfl
@[simp] theorem State.bump_pair (s : State) (f : Fld) (n : Nat) : (s.bump f n).pair = s.pair := rfl
@[simp] theorem State.bump_pl (s : State) (f : Fld) (n : Nat) : (s.bump f n).pl = s.pl := rfl
@[simp] theorem State.bump_motions (s : State) (f : Fld) (n : Nat) : (s.bump f n).motions = s.motions := rfl
@[simp] theorem State.bump_upl (s : State) (f : Fld) (n : Nat) : (s.bump f n).upl = s.upl := rfl
@[simp] theorem State.bump_bridge (s : State) (f : Fld) (n : Nat) : (s.bump f n).bridge = s.bridge := rfl
@[simp] theorem State.bump_mbx (s : State) (f : Fld) (n : Nat) : (s.bump f n).mbx = s.mbx := rfl
@[simp] theorem State.bump_dma (s : State) (f : Fld) (n : Nat) : (s.bump f n).dma = s.dma := rfl
@[simp] theorem State.bump_cans (s : State) (f : Fld) (n : Nat) : (s.bump f n).cans = s.cans := rfl
@[simp] theorem State.bump_i2c (s : State) (f : Fld) (n : Nat) : (s.bump f n).i2c = s.i2c := rfl
@[simp] theorem State.bump_engs (s : State) (f : Fld) (n : Nat) : (s.bump f n).engs = s.engs := rfl
@[simp] theorem State.bump_progs (s : State) (f : Fld) (n : Nat) : (s.bump f n).progs = s.progs := rfl
@[simp] theorem State.bump_sent (s : State) (f : Fld) (n : Nat) : (s.bump f n).sent = s.sent := rfl
@[simp] theorem State.bump_snaps (s : State) (f : Fld) (n : Nat) : (s.bump f n).snaps = s.snaps := rfl
@[simp] theorem State.bump_readOut (s : State) (f : Fld) (n : Nat) : (s.bump f n).readOut = s.readOut := rfl
@[simp] theorem State.bump_fresh (s : State) (f : Fld) (n : Nat) : (s.bump f n).fresh = s.fresh := rfl
@[simp] theorem State.bump_pending (s : State) (f : Fld) (n : Nat) : (s.bump f n).pending = s.pending := rfl

/-! ## setFlds -/

@[simp] theorem State.setFlds_mem (s : State) (l : List (Fld × Nat)) : (s.setFlds l).mem = s.mem := by
  induction l generalizing s with
  | nil => rfl
  | cons x r ih => exact ih (s.setFld x.1 x.2)
@[simp] theorem State.setFlds_memx (s : State) (l : List (Fld × Nat)) : (s.setFlds l).memx = s.memx := by
  induction l generalizing s with
  | nil => rfl
  | cons x r ih => exact ih (s.setFld x.1 x.2)
@[simp] theorem State.setFlds_keeper (s : State) (l : List (Fld × Nat)) : (s.setFlds l).keeper = s.keeper := by
  induction l generalizing s with
  | nil => rfl
  | cons x r ih => exact ih (s.setFld x.1 x.2)
@[simp] theorem State.setFlds_intr (s : State) (l : List (Fld × Nat)) : (s.setFlds l).intr = s.intr := by
  induction l generalizing s with
  | nil => rfl
  | cons x r ih => exact ih (s.setFld x.1 x.2)
@[simp] theorem State.setFlds_iseq (s : State) (l : List (Fld × Nat)) : (s.setFlds l).iseq = s.iseq := by
  induction l generalizing s with
  | nil => rfl
  | cons x r ih => exact ih (s.setFld x.1 x.2)
@[simp] theorem State.setFlds_sys (s : State) (l : List (Fld × Nat)) : (s.setFlds l).sys = s.sys := by
  induction l generalizing s with
  | nil => rfl
  | cons x r ih => exact ih (s.setFld x.1 x.2)
@[simp] theorem State.setFlds_fuses (s : State) (l : List (Fld × Nat)) : (s.setFlds l).fuses = s.fuses := by
  induction l generalizing s with
  | nil => rfl
  | cons x r ih => exact ih (s.setFld x.1 x.2)
@[simp] theorem State.setFlds_blown (s : State) (l : List (Fld × Nat)) : (s.setFlds l).blown = s.blown := by
  induction l generalizing s with
  | nil => rfl
  | cons x r ih => exact ih (s.setFld x.1 x.2)
@[simp] theorem State.setFlds_sec (s : State) (l : List (Fld × Nat)) : (s.setFlds l).sec = s.sec := by
  induction l generalizing s with
  | nil => rfl
  | cons x r ih => exact ih (s.setFld x.1 x.2)
@[simp] theorem State.setFlds_tsu (s : State) (l : List (Fld × Nat)) : (s.setFlds l).tsu = s.tsu := by
  induction l generalizing s with
  | nil => rfl
  | cons x r ih => exact ih (s.setFld x.1 x.2)
@[simp] theorem State.setFlds_links (s : State) (l : List (Fld × Nat)) : (s.setFlds l).links = s.links := by
  induction l generalizing s with
  | nil => rfl
  | cons x r ih => exact ih (s.setFld x.1 x.2)
@[simp] theorem State.setFlds_ports (s : State) (l : List (Fld × Nat)) : (s.setFlds l).ports = s.ports := by
  induction l generalizing s with
  | nil => rfl
  | cons x r ih => exact ih (s.setFld x.1 x.2)
@[simp] theorem State.setFlds_ledger (s : State) (l : List (Fld × Nat)) : (s.setFlds l).ledger = s.ledger := by
  induction l generalizing s with
  | nil => rfl
  | cons x r ih => exact ih (s.setFld x.1 x.2)
@[simp] theorem State.setFlds_cfg (s : State) (l : List (Fld × Nat)) : (s.setFlds l).cfg = s.cfg := by
  induction l generalizing s with
  | nil => rfl
  | cons x r ih => exact ih (s.setFld x.1 x.2)
@[simp] theorem State.setFlds_ingests (s : State) (l : List (Fld × Nat)) : (s.setFlds l).ingests = s.ingests := by
  induction l generalizing s with
  | nil => rfl
  | cons x r ih => exact ih (s.setFld x.1 x.2)
@[simp] theorem State.setFlds_cams (s : State) (l : List (Fld × Nat)) : (s.setFlds l).cams = s.cams := by
  induction l generalizing s with
  | nil => rfl
  | cons x r ih => exact ih (s.setFld x.1 x.2)
@[simp] theorem State.setFlds_streams (s : State) (l : List (Fld × Nat)) : (s.setFlds l).streams = s.streams := by
  induction l generalizing s with
  | nil => rfl
  | cons x r ih => exact ih (s.setFld x.1 x.2)
@[simp] theorem State.setFlds_rot (s : State) (l : List (Fld × Nat)) : (s.setFlds l).rot = s.rot := by
  induction l generalizing s with
  | nil => rfl
  | cons x r ih => exact ih (s.setFld x.1 x.2)
@[simp] theorem State.setFlds_lats (s : State) (l : List (Fld × Nat)) : (s.setFlds l).lats = s.lats := by
  induction l generalizing s with
  | nil => rfl
  | cons x r ih => exact ih (s.setFld x.1 x.2)
@[simp] theorem State.setFlds_pair (s : State) (l : List (Fld × Nat)) : (s.setFlds l).pair = s.pair := by
  induction l generalizing s with
  | nil => rfl
  | cons x r ih => exact ih (s.setFld x.1 x.2)
@[simp] theorem State.setFlds_pl (s : State) (l : List (Fld × Nat)) : (s.setFlds l).pl = s.pl := by
  induction l generalizing s with
  | nil => rfl
  | cons x r ih => exact ih (s.setFld x.1 x.2)
@[simp] theorem State.setFlds_motions (s : State) (l : List (Fld × Nat)) : (s.setFlds l).motions = s.motions := by
  induction l generalizing s with
  | nil => rfl
  | cons x r ih => exact ih (s.setFld x.1 x.2)
@[simp] theorem State.setFlds_upl (s : State) (l : List (Fld × Nat)) : (s.setFlds l).upl = s.upl := by
  induction l generalizing s with
  | nil => rfl
  | cons x r ih => exact ih (s.setFld x.1 x.2)
@[simp] theorem State.setFlds_bridge (s : State) (l : List (Fld × Nat)) : (s.setFlds l).bridge = s.bridge := by
  induction l generalizing s with
  | nil => rfl
  | cons x r ih => exact ih (s.setFld x.1 x.2)
@[simp] theorem State.setFlds_mbx (s : State) (l : List (Fld × Nat)) : (s.setFlds l).mbx = s.mbx := by
  induction l generalizing s with
  | nil => rfl
  | cons x r ih => exact ih (s.setFld x.1 x.2)
@[simp] theorem State.setFlds_dma (s : State) (l : List (Fld × Nat)) : (s.setFlds l).dma = s.dma := by
  induction l generalizing s with
  | nil => rfl
  | cons x r ih => exact ih (s.setFld x.1 x.2)
@[simp] theorem State.setFlds_cans (s : State) (l : List (Fld × Nat)) : (s.setFlds l).cans = s.cans := by
  induction l generalizing s with
  | nil => rfl
  | cons x r ih => exact ih (s.setFld x.1 x.2)
@[simp] theorem State.setFlds_i2c (s : State) (l : List (Fld × Nat)) : (s.setFlds l).i2c = s.i2c := by
  induction l generalizing s with
  | nil => rfl
  | cons x r ih => exact ih (s.setFld x.1 x.2)
@[simp] theorem State.setFlds_engs (s : State) (l : List (Fld × Nat)) : (s.setFlds l).engs = s.engs := by
  induction l generalizing s with
  | nil => rfl
  | cons x r ih => exact ih (s.setFld x.1 x.2)
@[simp] theorem State.setFlds_progs (s : State) (l : List (Fld × Nat)) : (s.setFlds l).progs = s.progs := by
  induction l generalizing s with
  | nil => rfl
  | cons x r ih => exact ih (s.setFld x.1 x.2)
@[simp] theorem State.setFlds_sent (s : State) (l : List (Fld × Nat)) : (s.setFlds l).sent = s.sent := by
  induction l generalizing s with
  | nil => rfl
  | cons x r ih => exact ih (s.setFld x.1 x.2)
@[simp] theorem State.setFlds_snaps (s : State) (l : List (Fld × Nat)) : (s.setFlds l).snaps = s.snaps := by
  induction l generalizing s with
  | nil => rfl
  | cons x r ih => exact ih (s.setFld x.1 x.2)
@[simp] theorem State.setFlds_readOut (s : State) (l : List (Fld × Nat)) : (s.setFlds l).readOut = s.readOut := by
  induction l generalizing s with
  | nil => rfl
  | cons x r ih => exact ih (s.setFld x.1 x.2)
@[simp] theorem State.setFlds_fresh (s : State) (l : List (Fld × Nat)) : (s.setFlds l).fresh = s.fresh := by
  induction l generalizing s with
  | nil => rfl
  | cons x r ih => exact ih (s.setFld x.1 x.2)
@[simp] theorem State.setFlds_pending (s : State) (l : List (Fld × Nat)) : (s.setFlds l).pending = s.pending := by
  induction l generalizing s with
  | nil => rfl
  | cons x r ih => exact ih (s.setFld x.1 x.2)

/-! ## setEng -/

@[simp] theorem State.setEng_csr (s : State) (sl : Nat) (e : Eng) : (s.setEng sl e).csr = s.csr := rfl
@[simp] theorem State.setEng_mem (s : State) (sl : Nat) (e : Eng) : (s.setEng sl e).mem = s.mem := rfl
@[simp] theorem State.setEng_memx (s : State) (sl : Nat) (e : Eng) : (s.setEng sl e).memx = s.memx := rfl
@[simp] theorem State.setEng_keeper (s : State) (sl : Nat) (e : Eng) : (s.setEng sl e).keeper = s.keeper := rfl
@[simp] theorem State.setEng_intr (s : State) (sl : Nat) (e : Eng) : (s.setEng sl e).intr = s.intr := rfl
@[simp] theorem State.setEng_iseq (s : State) (sl : Nat) (e : Eng) : (s.setEng sl e).iseq = s.iseq := rfl
@[simp] theorem State.setEng_sys (s : State) (sl : Nat) (e : Eng) : (s.setEng sl e).sys = s.sys := rfl
@[simp] theorem State.setEng_fuses (s : State) (sl : Nat) (e : Eng) : (s.setEng sl e).fuses = s.fuses := rfl
@[simp] theorem State.setEng_blown (s : State) (sl : Nat) (e : Eng) : (s.setEng sl e).blown = s.blown := rfl
@[simp] theorem State.setEng_sec (s : State) (sl : Nat) (e : Eng) : (s.setEng sl e).sec = s.sec := rfl
@[simp] theorem State.setEng_tsu (s : State) (sl : Nat) (e : Eng) : (s.setEng sl e).tsu = s.tsu := rfl
@[simp] theorem State.setEng_links (s : State) (sl : Nat) (e : Eng) : (s.setEng sl e).links = s.links := rfl
@[simp] theorem State.setEng_ports (s : State) (sl : Nat) (e : Eng) : (s.setEng sl e).ports = s.ports := rfl
@[simp] theorem State.setEng_ledger (s : State) (sl : Nat) (e : Eng) : (s.setEng sl e).ledger = s.ledger := rfl
@[simp] theorem State.setEng_cfg (s : State) (sl : Nat) (e : Eng) : (s.setEng sl e).cfg = s.cfg := rfl
@[simp] theorem State.setEng_ingests (s : State) (sl : Nat) (e : Eng) : (s.setEng sl e).ingests = s.ingests := rfl
@[simp] theorem State.setEng_cams (s : State) (sl : Nat) (e : Eng) : (s.setEng sl e).cams = s.cams := rfl
@[simp] theorem State.setEng_streams (s : State) (sl : Nat) (e : Eng) : (s.setEng sl e).streams = s.streams := rfl
@[simp] theorem State.setEng_rot (s : State) (sl : Nat) (e : Eng) : (s.setEng sl e).rot = s.rot := rfl
@[simp] theorem State.setEng_lats (s : State) (sl : Nat) (e : Eng) : (s.setEng sl e).lats = s.lats := rfl
@[simp] theorem State.setEng_pair (s : State) (sl : Nat) (e : Eng) : (s.setEng sl e).pair = s.pair := rfl
@[simp] theorem State.setEng_pl (s : State) (sl : Nat) (e : Eng) : (s.setEng sl e).pl = s.pl := rfl
@[simp] theorem State.setEng_motions (s : State) (sl : Nat) (e : Eng) : (s.setEng sl e).motions = s.motions := rfl
@[simp] theorem State.setEng_upl (s : State) (sl : Nat) (e : Eng) : (s.setEng sl e).upl = s.upl := rfl
@[simp] theorem State.setEng_bridge (s : State) (sl : Nat) (e : Eng) : (s.setEng sl e).bridge = s.bridge := rfl
@[simp] theorem State.setEng_mbx (s : State) (sl : Nat) (e : Eng) : (s.setEng sl e).mbx = s.mbx := rfl
@[simp] theorem State.setEng_dma (s : State) (sl : Nat) (e : Eng) : (s.setEng sl e).dma = s.dma := rfl
@[simp] theorem State.setEng_cans (s : State) (sl : Nat) (e : Eng) : (s.setEng sl e).cans = s.cans := rfl
@[simp] theorem State.setEng_i2c (s : State) (sl : Nat) (e : Eng) : (s.setEng sl e).i2c = s.i2c := rfl
@[simp] theorem State.setEng_progs (s : State) (sl : Nat) (e : Eng) : (s.setEng sl e).progs = s.progs := rfl
@[simp] theorem State.setEng_sent (s : State) (sl : Nat) (e : Eng) : (s.setEng sl e).sent = s.sent := rfl
@[simp] theorem State.setEng_snaps (s : State) (sl : Nat) (e : Eng) : (s.setEng sl e).snaps = s.snaps := rfl
@[simp] theorem State.setEng_readOut (s : State) (sl : Nat) (e : Eng) : (s.setEng sl e).readOut = s.readOut := rfl
@[simp] theorem State.setEng_fresh (s : State) (sl : Nat) (e : Eng) : (s.setEng sl e).fresh = s.fresh := rfl
@[simp] theorem State.setEng_pending (s : State) (sl : Nat) (e : Eng) : (s.setEng sl e).pending = s.pending := rfl

/-! ## setPort -/

@[simp] theorem State.setPort_csr (s : State) (p : Nat) (x : PortSt) : (s.setPort p x).csr = s.csr := rfl
@[simp] theorem State.setPort_mem (s : State) (p : Nat) (x : PortSt) : (s.setPort p x).mem = s.mem := rfl
@[simp] theorem State.setPort_memx (s : State) (p : Nat) (x : PortSt) : (s.setPort p x).memx = s.memx := rfl
@[simp] theorem State.setPort_keeper (s : State) (p : Nat) (x : PortSt) : (s.setPort p x).keeper = s.keeper := rfl
@[simp] theorem State.setPort_intr (s : State) (p : Nat) (x : PortSt) : (s.setPort p x).intr = s.intr := rfl
@[simp] theorem State.setPort_iseq (s : State) (p : Nat) (x : PortSt) : (s.setPort p x).iseq = s.iseq := rfl
@[simp] theorem State.setPort_sys (s : State) (p : Nat) (x : PortSt) : (s.setPort p x).sys = s.sys := rfl
@[simp] theorem State.setPort_fuses (s : State) (p : Nat) (x : PortSt) : (s.setPort p x).fuses = s.fuses := rfl
@[simp] theorem State.setPort_blown (s : State) (p : Nat) (x : PortSt) : (s.setPort p x).blown = s.blown := rfl
@[simp] theorem State.setPort_sec (s : State) (p : Nat) (x : PortSt) : (s.setPort p x).sec = s.sec := rfl
@[simp] theorem State.setPort_tsu (s : State) (p : Nat) (x : PortSt) : (s.setPort p x).tsu = s.tsu := rfl
@[simp] theorem State.setPort_links (s : State) (p : Nat) (x : PortSt) : (s.setPort p x).links = s.links := rfl
@[simp] theorem State.setPort_ledger (s : State) (p : Nat) (x : PortSt) : (s.setPort p x).ledger = s.ledger := rfl
@[simp] theorem State.setPort_cfg (s : State) (p : Nat) (x : PortSt) : (s.setPort p x).cfg = s.cfg := rfl
@[simp] theorem State.setPort_ingests (s : State) (p : Nat) (x : PortSt) : (s.setPort p x).ingests = s.ingests := rfl
@[simp] theorem State.setPort_cams (s : State) (p : Nat) (x : PortSt) : (s.setPort p x).cams = s.cams := rfl
@[simp] theorem State.setPort_streams (s : State) (p : Nat) (x : PortSt) : (s.setPort p x).streams = s.streams := rfl
@[simp] theorem State.setPort_rot (s : State) (p : Nat) (x : PortSt) : (s.setPort p x).rot = s.rot := rfl
@[simp] theorem State.setPort_lats (s : State) (p : Nat) (x : PortSt) : (s.setPort p x).lats = s.lats := rfl
@[simp] theorem State.setPort_pair (s : State) (p : Nat) (x : PortSt) : (s.setPort p x).pair = s.pair := rfl
@[simp] theorem State.setPort_pl (s : State) (p : Nat) (x : PortSt) : (s.setPort p x).pl = s.pl := rfl
@[simp] theorem State.setPort_motions (s : State) (p : Nat) (x : PortSt) : (s.setPort p x).motions = s.motions := rfl
@[simp] theorem State.setPort_upl (s : State) (p : Nat) (x : PortSt) : (s.setPort p x).upl = s.upl := rfl
@[simp] theorem State.setPort_bridge (s : State) (p : Nat) (x : PortSt) : (s.setPort p x).bridge = s.bridge := rfl
@[simp] theorem State.setPort_mbx (s : State) (p : Nat) (x : PortSt) : (s.setPort p x).mbx = s.mbx := rfl
@[simp] theorem State.setPort_dma (s : State) (p : Nat) (x : PortSt) : (s.setPort p x).dma = s.dma := rfl
@[simp] theorem State.setPort_cans (s : State) (p : Nat) (x : PortSt) : (s.setPort p x).cans = s.cans := rfl
@[simp] theorem State.setPort_i2c (s : State) (p : Nat) (x : PortSt) : (s.setPort p x).i2c = s.i2c := rfl
@[simp] theorem State.setPort_engs (s : State) (p : Nat) (x : PortSt) : (s.setPort p x).engs = s.engs := rfl
@[simp] theorem State.setPort_progs (s : State) (p : Nat) (x : PortSt) : (s.setPort p x).progs = s.progs := rfl
@[simp] theorem State.setPort_sent (s : State) (p : Nat) (x : PortSt) : (s.setPort p x).sent = s.sent := rfl
@[simp] theorem State.setPort_snaps (s : State) (p : Nat) (x : PortSt) : (s.setPort p x).snaps = s.snaps := rfl
@[simp] theorem State.setPort_readOut (s : State) (p : Nat) (x : PortSt) : (s.setPort p x).readOut = s.readOut := rfl
@[simp] theorem State.setPort_fresh (s : State) (p : Nat) (x : PortSt) : (s.setPort p x).fresh = s.fresh := rfl
@[simp] theorem State.setPort_pending (s : State) (p : Nat) (x : PortSt) : (s.setPort p x).pending = s.pending := rfl

/-! ## setCam -/

@[simp] theorem State.setCam_csr (s : State) (p : Nat) (x : Cam) : (s.setCam p x).csr = s.csr := rfl
@[simp] theorem State.setCam_mem (s : State) (p : Nat) (x : Cam) : (s.setCam p x).mem = s.mem := rfl
@[simp] theorem State.setCam_memx (s : State) (p : Nat) (x : Cam) : (s.setCam p x).memx = s.memx := rfl
@[simp] theorem State.setCam_keeper (s : State) (p : Nat) (x : Cam) : (s.setCam p x).keeper = s.keeper := rfl
@[simp] theorem State.setCam_intr (s : State) (p : Nat) (x : Cam) : (s.setCam p x).intr = s.intr := rfl
@[simp] theorem State.setCam_iseq (s : State) (p : Nat) (x : Cam) : (s.setCam p x).iseq = s.iseq := rfl
@[simp] theorem State.setCam_sys (s : State) (p : Nat) (x : Cam) : (s.setCam p x).sys = s.sys := rfl
@[simp] theorem State.setCam_fuses (s : State) (p : Nat) (x : Cam) : (s.setCam p x).fuses = s.fuses := rfl
@[simp] theorem State.setCam_blown (s : State) (p : Nat) (x : Cam) : (s.setCam p x).blown = s.blown := rfl
@[simp] theorem State.setCam_sec (s : State) (p : Nat) (x : Cam) : (s.setCam p x).sec = s.sec := rfl
@[simp] theorem State.setCam_tsu (s : State) (p : Nat) (x : Cam) : (s.setCam p x).tsu = s.tsu := rfl
@[simp] theorem State.setCam_links (s : State) (p : Nat) (x : Cam) : (s.setCam p x).links = s.links := rfl
@[simp] theorem State.setCam_ports (s : State) (p : Nat) (x : Cam) : (s.setCam p x).ports = s.ports := rfl
@[simp] theorem State.setCam_ledger (s : State) (p : Nat) (x : Cam) : (s.setCam p x).ledger = s.ledger := rfl
@[simp] theorem State.setCam_cfg (s : State) (p : Nat) (x : Cam) : (s.setCam p x).cfg = s.cfg := rfl
@[simp] theorem State.setCam_ingests (s : State) (p : Nat) (x : Cam) : (s.setCam p x).ingests = s.ingests := rfl
@[simp] theorem State.setCam_streams (s : State) (p : Nat) (x : Cam) : (s.setCam p x).streams = s.streams := rfl
@[simp] theorem State.setCam_rot (s : State) (p : Nat) (x : Cam) : (s.setCam p x).rot = s.rot := rfl
@[simp] theorem State.setCam_lats (s : State) (p : Nat) (x : Cam) : (s.setCam p x).lats = s.lats := rfl
@[simp] theorem State.setCam_pair (s : State) (p : Nat) (x : Cam) : (s.setCam p x).pair = s.pair := rfl
@[simp] theorem State.setCam_pl (s : State) (p : Nat) (x : Cam) : (s.setCam p x).pl = s.pl := rfl
@[simp] theorem State.setCam_motions (s : State) (p : Nat) (x : Cam) : (s.setCam p x).motions = s.motions := rfl
@[simp] theorem State.setCam_upl (s : State) (p : Nat) (x : Cam) : (s.setCam p x).upl = s.upl := rfl
@[simp] theorem State.setCam_bridge (s : State) (p : Nat) (x : Cam) : (s.setCam p x).bridge = s.bridge := rfl
@[simp] theorem State.setCam_mbx (s : State) (p : Nat) (x : Cam) : (s.setCam p x).mbx = s.mbx := rfl
@[simp] theorem State.setCam_dma (s : State) (p : Nat) (x : Cam) : (s.setCam p x).dma = s.dma := rfl
@[simp] theorem State.setCam_cans (s : State) (p : Nat) (x : Cam) : (s.setCam p x).cans = s.cans := rfl
@[simp] theorem State.setCam_i2c (s : State) (p : Nat) (x : Cam) : (s.setCam p x).i2c = s.i2c := rfl
@[simp] theorem State.setCam_engs (s : State) (p : Nat) (x : Cam) : (s.setCam p x).engs = s.engs := rfl
@[simp] theorem State.setCam_progs (s : State) (p : Nat) (x : Cam) : (s.setCam p x).progs = s.progs := rfl
@[simp] theorem State.setCam_sent (s : State) (p : Nat) (x : Cam) : (s.setCam p x).sent = s.sent := rfl
@[simp] theorem State.setCam_snaps (s : State) (p : Nat) (x : Cam) : (s.setCam p x).snaps = s.snaps := rfl
@[simp] theorem State.setCam_readOut (s : State) (p : Nat) (x : Cam) : (s.setCam p x).readOut = s.readOut := rfl
@[simp] theorem State.setCam_fresh (s : State) (p : Nat) (x : Cam) : (s.setCam p x).fresh = s.fresh := rfl
@[simp] theorem State.setCam_pending (s : State) (p : Nat) (x : Cam) : (s.setCam p x).pending = s.pending := rfl

/-! ## setIngest -/

@[simp] theorem State.setIngest_csr (s : State) (p : Nat) (g : Ingest) : (s.setIngest p g).csr = s.csr := rfl
@[simp] theorem State.setIngest_mem (s : State) (p : Nat) (g : Ingest) : (s.setIngest p g).mem = s.mem := rfl
@[simp] theorem State.setIngest_memx (s : State) (p : Nat) (g : Ingest) : (s.setIngest p g).memx = s.memx := rfl
@[simp] theorem State.setIngest_keeper (s : State) (p : Nat) (g : Ingest) : (s.setIngest p g).keeper = s.keeper := rfl
@[simp] theorem State.setIngest_intr (s : State) (p : Nat) (g : Ingest) : (s.setIngest p g).intr = s.intr := rfl
@[simp] theorem State.setIngest_iseq (s : State) (p : Nat) (g : Ingest) : (s.setIngest p g).iseq = s.iseq := rfl
@[simp] theorem State.setIngest_sys (s : State) (p : Nat) (g : Ingest) : (s.setIngest p g).sys = s.sys := rfl
@[simp] theorem State.setIngest_fuses (s : State) (p : Nat) (g : Ingest) : (s.setIngest p g).fuses = s.fuses := rfl
@[simp] theorem State.setIngest_blown (s : State) (p : Nat) (g : Ingest) : (s.setIngest p g).blown = s.blown := rfl
@[simp] theorem State.setIngest_sec (s : State) (p : Nat) (g : Ingest) : (s.setIngest p g).sec = s.sec := rfl
@[simp] theorem State.setIngest_tsu (s : State) (p : Nat) (g : Ingest) : (s.setIngest p g).tsu = s.tsu := rfl
@[simp] theorem State.setIngest_links (s : State) (p : Nat) (g : Ingest) : (s.setIngest p g).links = s.links := rfl
@[simp] theorem State.setIngest_ports (s : State) (p : Nat) (g : Ingest) : (s.setIngest p g).ports = s.ports := rfl
@[simp] theorem State.setIngest_ledger (s : State) (p : Nat) (g : Ingest) : (s.setIngest p g).ledger = s.ledger := rfl
@[simp] theorem State.setIngest_cfg (s : State) (p : Nat) (g : Ingest) : (s.setIngest p g).cfg = s.cfg := rfl
@[simp] theorem State.setIngest_cams (s : State) (p : Nat) (g : Ingest) : (s.setIngest p g).cams = s.cams := rfl
@[simp] theorem State.setIngest_streams (s : State) (p : Nat) (g : Ingest) : (s.setIngest p g).streams = s.streams := rfl
@[simp] theorem State.setIngest_rot (s : State) (p : Nat) (g : Ingest) : (s.setIngest p g).rot = s.rot := rfl
@[simp] theorem State.setIngest_lats (s : State) (p : Nat) (g : Ingest) : (s.setIngest p g).lats = s.lats := rfl
@[simp] theorem State.setIngest_pair (s : State) (p : Nat) (g : Ingest) : (s.setIngest p g).pair = s.pair := rfl
@[simp] theorem State.setIngest_pl (s : State) (p : Nat) (g : Ingest) : (s.setIngest p g).pl = s.pl := rfl
@[simp] theorem State.setIngest_motions (s : State) (p : Nat) (g : Ingest) : (s.setIngest p g).motions = s.motions := rfl
@[simp] theorem State.setIngest_upl (s : State) (p : Nat) (g : Ingest) : (s.setIngest p g).upl = s.upl := rfl
@[simp] theorem State.setIngest_bridge (s : State) (p : Nat) (g : Ingest) : (s.setIngest p g).bridge = s.bridge := rfl
@[simp] theorem State.setIngest_mbx (s : State) (p : Nat) (g : Ingest) : (s.setIngest p g).mbx = s.mbx := rfl
@[simp] theorem State.setIngest_dma (s : State) (p : Nat) (g : Ingest) : (s.setIngest p g).dma = s.dma := rfl
@[simp] theorem State.setIngest_cans (s : State) (p : Nat) (g : Ingest) : (s.setIngest p g).cans = s.cans := rfl
@[simp] theorem State.setIngest_i2c (s : State) (p : Nat) (g : Ingest) : (s.setIngest p g).i2c = s.i2c := rfl
@[simp] theorem State.setIngest_engs (s : State) (p : Nat) (g : Ingest) : (s.setIngest p g).engs = s.engs := rfl
@[simp] theorem State.setIngest_progs (s : State) (p : Nat) (g : Ingest) : (s.setIngest p g).progs = s.progs := rfl
@[simp] theorem State.setIngest_sent (s : State) (p : Nat) (g : Ingest) : (s.setIngest p g).sent = s.sent := rfl
@[simp] theorem State.setIngest_snaps (s : State) (p : Nat) (g : Ingest) : (s.setIngest p g).snaps = s.snaps := rfl
@[simp] theorem State.setIngest_readOut (s : State) (p : Nat) (g : Ingest) : (s.setIngest p g).readOut = s.readOut := rfl
@[simp] theorem State.setIngest_fresh (s : State) (p : Nat) (g : Ingest) : (s.setIngest p g).fresh = s.fresh := rfl
@[simp] theorem State.setIngest_pending (s : State) (p : Nat) (g : Ingest) : (s.setIngest p g).pending = s.pending := rfl

/-! ## setStream -/

@[simp] theorem State.setStream_csr (s : State) (n : Nat) (x : StreamSt) : (s.setStream n x).csr = s.csr := rfl
@[simp] theorem State.setStream_mem (s : State) (n : Nat) (x : StreamSt) : (s.setStream n x).mem = s.mem := rfl
@[simp] theorem State.setStream_memx (s : State) (n : Nat) (x : StreamSt) : (s.setStream n x).memx = s.memx := rfl
@[simp] theorem State.setStream_keeper (s : State) (n : Nat) (x : StreamSt) : (s.setStream n x).keeper = s.keeper := rfl
@[simp] theorem State.setStream_intr (s : State) (n : Nat) (x : StreamSt) : (s.setStream n x).intr = s.intr := rfl
@[simp] theorem State.setStream_iseq (s : State) (n : Nat) (x : StreamSt) : (s.setStream n x).iseq = s.iseq := rfl
@[simp] theorem State.setStream_sys (s : State) (n : Nat) (x : StreamSt) : (s.setStream n x).sys = s.sys := rfl
@[simp] theorem State.setStream_fuses (s : State) (n : Nat) (x : StreamSt) : (s.setStream n x).fuses = s.fuses := rfl
@[simp] theorem State.setStream_blown (s : State) (n : Nat) (x : StreamSt) : (s.setStream n x).blown = s.blown := rfl
@[simp] theorem State.setStream_sec (s : State) (n : Nat) (x : StreamSt) : (s.setStream n x).sec = s.sec := rfl
@[simp] theorem State.setStream_tsu (s : State) (n : Nat) (x : StreamSt) : (s.setStream n x).tsu = s.tsu := rfl
@[simp] theorem State.setStream_links (s : State) (n : Nat) (x : StreamSt) : (s.setStream n x).links = s.links := rfl
@[simp] theorem State.setStream_ports (s : State) (n : Nat) (x : StreamSt) : (s.setStream n x).ports = s.ports := rfl
@[simp] theorem State.setStream_ledger (s : State) (n : Nat) (x : StreamSt) : (s.setStream n x).ledger = s.ledger := rfl
@[simp] theorem State.setStream_cfg (s : State) (n : Nat) (x : StreamSt) : (s.setStream n x).cfg = s.cfg := rfl
@[simp] theorem State.setStream_ingests (s : State) (n : Nat) (x : StreamSt) : (s.setStream n x).ingests = s.ingests := rfl
@[simp] theorem State.setStream_cams (s : State) (n : Nat) (x : StreamSt) : (s.setStream n x).cams = s.cams := rfl
@[simp] theorem State.setStream_rot (s : State) (n : Nat) (x : StreamSt) : (s.setStream n x).rot = s.rot := rfl
@[simp] theorem State.setStream_lats (s : State) (n : Nat) (x : StreamSt) : (s.setStream n x).lats = s.lats := rfl
@[simp] theorem State.setStream_pair (s : State) (n : Nat) (x : StreamSt) : (s.setStream n x).pair = s.pair := rfl
@[simp] theorem State.setStream_pl (s : State) (n : Nat) (x : StreamSt) : (s.setStream n x).pl = s.pl := rfl
@[simp] theorem State.setStream_motions (s : State) (n : Nat) (x : StreamSt) : (s.setStream n x).motions = s.motions := rfl
@[simp] theorem State.setStream_upl (s : State) (n : Nat) (x : StreamSt) : (s.setStream n x).upl = s.upl := rfl
@[simp] theorem State.setStream_bridge (s : State) (n : Nat) (x : StreamSt) : (s.setStream n x).bridge = s.bridge := rfl
@[simp] theorem State.setStream_mbx (s : State) (n : Nat) (x : StreamSt) : (s.setStream n x).mbx = s.mbx := rfl
@[simp] theorem State.setStream_dma (s : State) (n : Nat) (x : StreamSt) : (s.setStream n x).dma = s.dma := rfl
@[simp] theorem State.setStream_cans (s : State) (n : Nat) (x : StreamSt) : (s.setStream n x).cans = s.cans := rfl
@[simp] theorem State.setStream_i2c (s : State) (n : Nat) (x : StreamSt) : (s.setStream n x).i2c = s.i2c := rfl
@[simp] theorem State.setStream_engs (s : State) (n : Nat) (x : StreamSt) : (s.setStream n x).engs = s.engs := rfl
@[simp] theorem State.setStream_progs (s : State) (n : Nat) (x : StreamSt) : (s.setStream n x).progs = s.progs := rfl
@[simp] theorem State.setStream_sent (s : State) (n : Nat) (x : StreamSt) : (s.setStream n x).sent = s.sent := rfl
@[simp] theorem State.setStream_snaps (s : State) (n : Nat) (x : StreamSt) : (s.setStream n x).snaps = s.snaps := rfl
@[simp] theorem State.setStream_readOut (s : State) (n : Nat) (x : StreamSt) : (s.setStream n x).readOut = s.readOut := rfl
@[simp] theorem State.setStream_fresh (s : State) (n : Nat) (x : StreamSt) : (s.setStream n x).fresh = s.fresh := rfl
@[simp] theorem State.setStream_pending (s : State) (n : Nat) (x : StreamSt) : (s.setStream n x).pending = s.pending := rfl

/-! ## setLat -/

@[simp] theorem State.setLat_csr (s : State) (n : Nat) (x : LatSt) : (s.setLat n x).csr = s.csr := rfl
@[simp] theorem State.setLat_mem (s : State) (n : Nat) (x : LatSt) : (s.setLat n x).mem = s.mem := rfl
@[simp] theorem State.setLat_memx (s : State) (n : Nat) (x : LatSt) : (s.setLat n x).memx = s.memx := rfl
@[simp] theorem State.setLat_keeper (s : State) (n : Nat) (x : LatSt) : (s.setLat n x).keeper = s.keeper := rfl
@[simp] theorem State.setLat_intr (s : State) (n : Nat) (x : LatSt) : (s.setLat n x).intr = s.intr := rfl
@[simp] theorem State.setLat_iseq (s : State) (n : Nat) (x : LatSt) : (s.setLat n x).iseq = s.iseq := rfl
@[simp] theorem State.setLat_sys (s : State) (n : Nat) (x : LatSt) : (s.setLat n x).sys = s.sys := rfl
@[simp] theorem State.setLat_fuses (s : State) (n : Nat) (x : LatSt) : (s.setLat n x).fuses = s.fuses := rfl
@[simp] theorem State.setLat_blown (s : State) (n : Nat) (x : LatSt) : (s.setLat n x).blown = s.blown := rfl
@[simp] theorem State.setLat_sec (s : State) (n : Nat) (x : LatSt) : (s.setLat n x).sec = s.sec := rfl
@[simp] theorem State.setLat_tsu (s : State) (n : Nat) (x : LatSt) : (s.setLat n x).tsu = s.tsu := rfl
@[simp] theorem State.setLat_links (s : State) (n : Nat) (x : LatSt) : (s.setLat n x).links = s.links := rfl
@[simp] theorem State.setLat_ports (s : State) (n : Nat) (x : LatSt) : (s.setLat n x).ports = s.ports := rfl
@[simp] theorem State.setLat_ledger (s : State) (n : Nat) (x : LatSt) : (s.setLat n x).ledger = s.ledger := rfl
@[simp] theorem State.setLat_cfg (s : State) (n : Nat) (x : LatSt) : (s.setLat n x).cfg = s.cfg := rfl
@[simp] theorem State.setLat_ingests (s : State) (n : Nat) (x : LatSt) : (s.setLat n x).ingests = s.ingests := rfl
@[simp] theorem State.setLat_cams (s : State) (n : Nat) (x : LatSt) : (s.setLat n x).cams = s.cams := rfl
@[simp] theorem State.setLat_streams (s : State) (n : Nat) (x : LatSt) : (s.setLat n x).streams = s.streams := rfl
@[simp] theorem State.setLat_rot (s : State) (n : Nat) (x : LatSt) : (s.setLat n x).rot = s.rot := rfl
@[simp] theorem State.setLat_pair (s : State) (n : Nat) (x : LatSt) : (s.setLat n x).pair = s.pair := rfl
@[simp] theorem State.setLat_pl (s : State) (n : Nat) (x : LatSt) : (s.setLat n x).pl = s.pl := rfl
@[simp] theorem State.setLat_motions (s : State) (n : Nat) (x : LatSt) : (s.setLat n x).motions = s.motions := rfl
@[simp] theorem State.setLat_upl (s : State) (n : Nat) (x : LatSt) : (s.setLat n x).upl = s.upl := rfl
@[simp] theorem State.setLat_bridge (s : State) (n : Nat) (x : LatSt) : (s.setLat n x).bridge = s.bridge := rfl
@[simp] theorem State.setLat_mbx (s : State) (n : Nat) (x : LatSt) : (s.setLat n x).mbx = s.mbx := rfl
@[simp] theorem State.setLat_dma (s : State) (n : Nat) (x : LatSt) : (s.setLat n x).dma = s.dma := rfl
@[simp] theorem State.setLat_cans (s : State) (n : Nat) (x : LatSt) : (s.setLat n x).cans = s.cans := rfl
@[simp] theorem State.setLat_i2c (s : State) (n : Nat) (x : LatSt) : (s.setLat n x).i2c = s.i2c := rfl
@[simp] theorem State.setLat_engs (s : State) (n : Nat) (x : LatSt) : (s.setLat n x).engs = s.engs := rfl
@[simp] theorem State.setLat_progs (s : State) (n : Nat) (x : LatSt) : (s.setLat n x).progs = s.progs := rfl
@[simp] theorem State.setLat_sent (s : State) (n : Nat) (x : LatSt) : (s.setLat n x).sent = s.sent := rfl
@[simp] theorem State.setLat_snaps (s : State) (n : Nat) (x : LatSt) : (s.setLat n x).snaps = s.snaps := rfl
@[simp] theorem State.setLat_readOut (s : State) (n : Nat) (x : LatSt) : (s.setLat n x).readOut = s.readOut := rfl
@[simp] theorem State.setLat_fresh (s : State) (n : Nat) (x : LatSt) : (s.setLat n x).fresh = s.fresh := rfl
@[simp] theorem State.setLat_pending (s : State) (n : Nat) (x : LatSt) : (s.setLat n x).pending = s.pending := rfl

/-! ## setLink -/

@[simp] theorem State.setLink_csr (s : State) (l : Link) (x : LinkSt) : (s.setLink l x).csr = s.csr := rfl
@[simp] theorem State.setLink_mem (s : State) (l : Link) (x : LinkSt) : (s.setLink l x).mem = s.mem := rfl
@[simp] theorem State.setLink_memx (s : State) (l : Link) (x : LinkSt) : (s.setLink l x).memx = s.memx := rfl
@[simp] theorem State.setLink_keeper (s : State) (l : Link) (x : LinkSt) : (s.setLink l x).keeper = s.keeper := rfl
@[simp] theorem State.setLink_intr (s : State) (l : Link) (x : LinkSt) : (s.setLink l x).intr = s.intr := rfl
@[simp] theorem State.setLink_iseq (s : State) (l : Link) (x : LinkSt) : (s.setLink l x).iseq = s.iseq := rfl
@[simp] theorem State.setLink_sys (s : State) (l : Link) (x : LinkSt) : (s.setLink l x).sys = s.sys := rfl
@[simp] theorem State.setLink_fuses (s : State) (l : Link) (x : LinkSt) : (s.setLink l x).fuses = s.fuses := rfl
@[simp] theorem State.setLink_blown (s : State) (l : Link) (x : LinkSt) : (s.setLink l x).blown = s.blown := rfl
@[simp] theorem State.setLink_sec (s : State) (l : Link) (x : LinkSt) : (s.setLink l x).sec = s.sec := rfl
@[simp] theorem State.setLink_tsu (s : State) (l : Link) (x : LinkSt) : (s.setLink l x).tsu = s.tsu := rfl
@[simp] theorem State.setLink_ports (s : State) (l : Link) (x : LinkSt) : (s.setLink l x).ports = s.ports := rfl
@[simp] theorem State.setLink_ledger (s : State) (l : Link) (x : LinkSt) : (s.setLink l x).ledger = s.ledger := rfl
@[simp] theorem State.setLink_cfg (s : State) (l : Link) (x : LinkSt) : (s.setLink l x).cfg = s.cfg := rfl
@[simp] theorem State.setLink_ingests (s : State) (l : Link) (x : LinkSt) : (s.setLink l x).ingests = s.ingests := rfl
@[simp] theorem State.setLink_cams (s : State) (l : Link) (x : LinkSt) : (s.setLink l x).cams = s.cams := rfl
@[simp] theorem State.setLink_streams (s : State) (l : Link) (x : LinkSt) : (s.setLink l x).streams = s.streams := rfl
@[simp] theorem State.setLink_rot (s : State) (l : Link) (x : LinkSt) : (s.setLink l x).rot = s.rot := rfl
@[simp] theorem State.setLink_lats (s : State) (l : Link) (x : LinkSt) : (s.setLink l x).lats = s.lats := rfl
@[simp] theorem State.setLink_pair (s : State) (l : Link) (x : LinkSt) : (s.setLink l x).pair = s.pair := rfl
@[simp] theorem State.setLink_pl (s : State) (l : Link) (x : LinkSt) : (s.setLink l x).pl = s.pl := rfl
@[simp] theorem State.setLink_motions (s : State) (l : Link) (x : LinkSt) : (s.setLink l x).motions = s.motions := rfl
@[simp] theorem State.setLink_upl (s : State) (l : Link) (x : LinkSt) : (s.setLink l x).upl = s.upl := rfl
@[simp] theorem State.setLink_bridge (s : State) (l : Link) (x : LinkSt) : (s.setLink l x).bridge = s.bridge := rfl
@[simp] theorem State.setLink_mbx (s : State) (l : Link) (x : LinkSt) : (s.setLink l x).mbx = s.mbx := rfl
@[simp] theorem State.setLink_dma (s : State) (l : Link) (x : LinkSt) : (s.setLink l x).dma = s.dma := rfl
@[simp] theorem State.setLink_cans (s : State) (l : Link) (x : LinkSt) : (s.setLink l x).cans = s.cans := rfl
@[simp] theorem State.setLink_i2c (s : State) (l : Link) (x : LinkSt) : (s.setLink l x).i2c = s.i2c := rfl
@[simp] theorem State.setLink_engs (s : State) (l : Link) (x : LinkSt) : (s.setLink l x).engs = s.engs := rfl
@[simp] theorem State.setLink_progs (s : State) (l : Link) (x : LinkSt) : (s.setLink l x).progs = s.progs := rfl
@[simp] theorem State.setLink_sent (s : State) (l : Link) (x : LinkSt) : (s.setLink l x).sent = s.sent := rfl
@[simp] theorem State.setLink_snaps (s : State) (l : Link) (x : LinkSt) : (s.setLink l x).snaps = s.snaps := rfl
@[simp] theorem State.setLink_readOut (s : State) (l : Link) (x : LinkSt) : (s.setLink l x).readOut = s.readOut := rfl
@[simp] theorem State.setLink_fresh (s : State) (l : Link) (x : LinkSt) : (s.setLink l x).fresh = s.fresh := rfl
@[simp] theorem State.setLink_pending (s : State) (l : Link) (x : LinkSt) : (s.setLink l x).pending = s.pending := rfl

/-! ## setCan -/

@[simp] theorem State.setCan_csr (s : State) (c : Nat) (x : CanSt) : (s.setCan c x).csr = s.csr := rfl
@[simp] theorem State.setCan_mem (s : State) (c : Nat) (x : CanSt) : (s.setCan c x).mem = s.mem := rfl
@[simp] theorem State.setCan_memx (s : State) (c : Nat) (x : CanSt) : (s.setCan c x).memx = s.memx := rfl
@[simp] theorem State.setCan_keeper (s : State) (c : Nat) (x : CanSt) : (s.setCan c x).keeper = s.keeper := rfl
@[simp] theorem State.setCan_intr (s : State) (c : Nat) (x : CanSt) : (s.setCan c x).intr = s.intr := rfl
@[simp] theorem State.setCan_iseq (s : State) (c : Nat) (x : CanSt) : (s.setCan c x).iseq = s.iseq := rfl
@[simp] theorem State.setCan_sys (s : State) (c : Nat) (x : CanSt) : (s.setCan c x).sys = s.sys := rfl
@[simp] theorem State.setCan_fuses (s : State) (c : Nat) (x : CanSt) : (s.setCan c x).fuses = s.fuses := rfl
@[simp] theorem State.setCan_blown (s : State) (c : Nat) (x : CanSt) : (s.setCan c x).blown = s.blown := rfl
@[simp] theorem State.setCan_sec (s : State) (c : Nat) (x : CanSt) : (s.setCan c x).sec = s.sec := rfl
@[simp] theorem State.setCan_tsu (s : State) (c : Nat) (x : CanSt) : (s.setCan c x).tsu = s.tsu := rfl
@[simp] theorem State.setCan_links (s : State) (c : Nat) (x : CanSt) : (s.setCan c x).links = s.links := rfl
@[simp] theorem State.setCan_ports (s : State) (c : Nat) (x : CanSt) : (s.setCan c x).ports = s.ports := rfl
@[simp] theorem State.setCan_ledger (s : State) (c : Nat) (x : CanSt) : (s.setCan c x).ledger = s.ledger := rfl
@[simp] theorem State.setCan_cfg (s : State) (c : Nat) (x : CanSt) : (s.setCan c x).cfg = s.cfg := rfl
@[simp] theorem State.setCan_ingests (s : State) (c : Nat) (x : CanSt) : (s.setCan c x).ingests = s.ingests := rfl
@[simp] theorem State.setCan_cams (s : State) (c : Nat) (x : CanSt) : (s.setCan c x).cams = s.cams := rfl
@[simp] theorem State.setCan_streams (s : State) (c : Nat) (x : CanSt) : (s.setCan c x).streams = s.streams := rfl
@[simp] theorem State.setCan_rot (s : State) (c : Nat) (x : CanSt) : (s.setCan c x).rot = s.rot := rfl
@[simp] theorem State.setCan_lats (s : State) (c : Nat) (x : CanSt) : (s.setCan c x).lats = s.lats := rfl
@[simp] theorem State.setCan_pair (s : State) (c : Nat) (x : CanSt) : (s.setCan c x).pair = s.pair := rfl
@[simp] theorem State.setCan_pl (s : State) (c : Nat) (x : CanSt) : (s.setCan c x).pl = s.pl := rfl
@[simp] theorem State.setCan_motions (s : State) (c : Nat) (x : CanSt) : (s.setCan c x).motions = s.motions := rfl
@[simp] theorem State.setCan_upl (s : State) (c : Nat) (x : CanSt) : (s.setCan c x).upl = s.upl := rfl
@[simp] theorem State.setCan_bridge (s : State) (c : Nat) (x : CanSt) : (s.setCan c x).bridge = s.bridge := rfl
@[simp] theorem State.setCan_mbx (s : State) (c : Nat) (x : CanSt) : (s.setCan c x).mbx = s.mbx := rfl
@[simp] theorem State.setCan_dma (s : State) (c : Nat) (x : CanSt) : (s.setCan c x).dma = s.dma := rfl
@[simp] theorem State.setCan_i2c (s : State) (c : Nat) (x : CanSt) : (s.setCan c x).i2c = s.i2c := rfl
@[simp] theorem State.setCan_engs (s : State) (c : Nat) (x : CanSt) : (s.setCan c x).engs = s.engs := rfl
@[simp] theorem State.setCan_progs (s : State) (c : Nat) (x : CanSt) : (s.setCan c x).progs = s.progs := rfl
@[simp] theorem State.setCan_sent (s : State) (c : Nat) (x : CanSt) : (s.setCan c x).sent = s.sent := rfl
@[simp] theorem State.setCan_snaps (s : State) (c : Nat) (x : CanSt) : (s.setCan c x).snaps = s.snaps := rfl
@[simp] theorem State.setCan_readOut (s : State) (c : Nat) (x : CanSt) : (s.setCan c x).readOut = s.readOut := rfl
@[simp] theorem State.setCan_fresh (s : State) (c : Nat) (x : CanSt) : (s.setCan c x).fresh = s.fresh := rfl
@[simp] theorem State.setCan_pending (s : State) (c : Nat) (x : CanSt) : (s.setCan c x).pending = s.pending := rfl

/-! ## setUpl -/

@[simp] theorem State.setUpl_csr (s : State) (x : Upl) : (s.setUpl x).csr = s.csr := rfl
@[simp] theorem State.setUpl_mem (s : State) (x : Upl) : (s.setUpl x).mem = s.mem := rfl
@[simp] theorem State.setUpl_memx (s : State) (x : Upl) : (s.setUpl x).memx = s.memx := rfl
@[simp] theorem State.setUpl_keeper (s : State) (x : Upl) : (s.setUpl x).keeper = s.keeper := rfl
@[simp] theorem State.setUpl_intr (s : State) (x : Upl) : (s.setUpl x).intr = s.intr := rfl
@[simp] theorem State.setUpl_iseq (s : State) (x : Upl) : (s.setUpl x).iseq = s.iseq := rfl
@[simp] theorem State.setUpl_sys (s : State) (x : Upl) : (s.setUpl x).sys = s.sys := rfl
@[simp] theorem State.setUpl_fuses (s : State) (x : Upl) : (s.setUpl x).fuses = s.fuses := rfl
@[simp] theorem State.setUpl_blown (s : State) (x : Upl) : (s.setUpl x).blown = s.blown := rfl
@[simp] theorem State.setUpl_sec (s : State) (x : Upl) : (s.setUpl x).sec = s.sec := rfl
@[simp] theorem State.setUpl_tsu (s : State) (x : Upl) : (s.setUpl x).tsu = s.tsu := rfl
@[simp] theorem State.setUpl_links (s : State) (x : Upl) : (s.setUpl x).links = s.links := rfl
@[simp] theorem State.setUpl_ports (s : State) (x : Upl) : (s.setUpl x).ports = s.ports := rfl
@[simp] theorem State.setUpl_ledger (s : State) (x : Upl) : (s.setUpl x).ledger = s.ledger := rfl
@[simp] theorem State.setUpl_cfg (s : State) (x : Upl) : (s.setUpl x).cfg = s.cfg := rfl
@[simp] theorem State.setUpl_ingests (s : State) (x : Upl) : (s.setUpl x).ingests = s.ingests := rfl
@[simp] theorem State.setUpl_cams (s : State) (x : Upl) : (s.setUpl x).cams = s.cams := rfl
@[simp] theorem State.setUpl_streams (s : State) (x : Upl) : (s.setUpl x).streams = s.streams := rfl
@[simp] theorem State.setUpl_rot (s : State) (x : Upl) : (s.setUpl x).rot = s.rot := rfl
@[simp] theorem State.setUpl_lats (s : State) (x : Upl) : (s.setUpl x).lats = s.lats := rfl
@[simp] theorem State.setUpl_pair (s : State) (x : Upl) : (s.setUpl x).pair = s.pair := rfl
@[simp] theorem State.setUpl_pl (s : State) (x : Upl) : (s.setUpl x).pl = s.pl := rfl
@[simp] theorem State.setUpl_motions (s : State) (x : Upl) : (s.setUpl x).motions = s.motions := rfl
@[simp] theorem State.setUpl_bridge (s : State) (x : Upl) : (s.setUpl x).bridge = s.bridge := rfl
@[simp] theorem State.setUpl_mbx (s : State) (x : Upl) : (s.setUpl x).mbx = s.mbx := rfl
@[simp] theorem State.setUpl_dma (s : State) (x : Upl) : (s.setUpl x).dma = s.dma := rfl
@[simp] theorem State.setUpl_cans (s : State) (x : Upl) : (s.setUpl x).cans = s.cans := rfl
@[simp] theorem State.setUpl_i2c (s : State) (x : Upl) : (s.setUpl x).i2c = s.i2c := rfl
@[simp] theorem State.setUpl_engs (s : State) (x : Upl) : (s.setUpl x).engs = s.engs := rfl
@[simp] theorem State.setUpl_progs (s : State) (x : Upl) : (s.setUpl x).progs = s.progs := rfl
@[simp] theorem State.setUpl_sent (s : State) (x : Upl) : (s.setUpl x).sent = s.sent := rfl
@[simp] theorem State.setUpl_snaps (s : State) (x : Upl) : (s.setUpl x).snaps = s.snaps := rfl
@[simp] theorem State.setUpl_readOut (s : State) (x : Upl) : (s.setUpl x).readOut = s.readOut := rfl
@[simp] theorem State.setUpl_fresh (s : State) (x : Upl) : (s.setUpl x).fresh = s.fresh := rfl
@[simp] theorem State.setUpl_pending (s : State) (x : Upl) : (s.setUpl x).pending = s.pending := rfl

/-! ## setPair -/

@[simp] theorem State.setPair_csr (s : State) (x : Pair) : (s.setPair x).csr = s.csr := rfl
@[simp] theorem State.setPair_mem (s : State) (x : Pair) : (s.setPair x).mem = s.mem := rfl
@[simp] theorem State.setPair_memx (s : State) (x : Pair) : (s.setPair x).memx = s.memx := rfl
@[simp] theorem State.setPair_keeper (s : State) (x : Pair) : (s.setPair x).keeper = s.keeper := rfl
@[simp] theorem State.setPair_intr (s : State) (x : Pair) : (s.setPair x).intr = s.intr := rfl
@[simp] theorem State.setPair_iseq (s : State) (x : Pair) : (s.setPair x).iseq = s.iseq := rfl
@[simp] theorem State.setPair_sys (s : State) (x : Pair) : (s.setPair x).sys = s.sys := rfl
@[simp] theorem State.setPair_fuses (s : State) (x : Pair) : (s.setPair x).fuses = s.fuses := rfl
@[simp] theorem State.setPair_blown (s : State) (x : Pair) : (s.setPair x).blown = s.blown := rfl
@[simp] theorem State.setPair_sec (s : State) (x : Pair) : (s.setPair x).sec = s.sec := rfl
@[simp] theorem State.setPair_tsu (s : State) (x : Pair) : (s.setPair x).tsu = s.tsu := rfl
@[simp] theorem State.setPair_links (s : State) (x : Pair) : (s.setPair x).links = s.links := rfl
@[simp] theorem State.setPair_ports (s : State) (x : Pair) : (s.setPair x).ports = s.ports := rfl
@[simp] theorem State.setPair_ledger (s : State) (x : Pair) : (s.setPair x).ledger = s.ledger := rfl
@[simp] theorem State.setPair_cfg (s : State) (x : Pair) : (s.setPair x).cfg = s.cfg := rfl
@[simp] theorem State.setPair_ingests (s : State) (x : Pair) : (s.setPair x).ingests = s.ingests := rfl
@[simp] theorem State.setPair_cams (s : State) (x : Pair) : (s.setPair x).cams = s.cams := rfl
@[simp] theorem State.setPair_streams (s : State) (x : Pair) : (s.setPair x).streams = s.streams := rfl
@[simp] theorem State.setPair_rot (s : State) (x : Pair) : (s.setPair x).rot = s.rot := rfl
@[simp] theorem State.setPair_lats (s : State) (x : Pair) : (s.setPair x).lats = s.lats := rfl
@[simp] theorem State.setPair_pl (s : State) (x : Pair) : (s.setPair x).pl = s.pl := rfl
@[simp] theorem State.setPair_motions (s : State) (x : Pair) : (s.setPair x).motions = s.motions := rfl
@[simp] theorem State.setPair_upl (s : State) (x : Pair) : (s.setPair x).upl = s.upl := rfl
@[simp] theorem State.setPair_bridge (s : State) (x : Pair) : (s.setPair x).bridge = s.bridge := rfl
@[simp] theorem State.setPair_mbx (s : State) (x : Pair) : (s.setPair x).mbx = s.mbx := rfl
@[simp] theorem State.setPair_dma (s : State) (x : Pair) : (s.setPair x).dma = s.dma := rfl
@[simp] theorem State.setPair_cans (s : State) (x : Pair) : (s.setPair x).cans = s.cans := rfl
@[simp] theorem State.setPair_i2c (s : State) (x : Pair) : (s.setPair x).i2c = s.i2c := rfl
@[simp] theorem State.setPair_engs (s : State) (x : Pair) : (s.setPair x).engs = s.engs := rfl
@[simp] theorem State.setPair_progs (s : State) (x : Pair) : (s.setPair x).progs = s.progs := rfl
@[simp] theorem State.setPair_sent (s : State) (x : Pair) : (s.setPair x).sent = s.sent := rfl
@[simp] theorem State.setPair_snaps (s : State) (x : Pair) : (s.setPair x).snaps = s.snaps := rfl
@[simp] theorem State.setPair_readOut (s : State) (x : Pair) : (s.setPair x).readOut = s.readOut := rfl
@[simp] theorem State.setPair_fresh (s : State) (x : Pair) : (s.setPair x).fresh = s.fresh := rfl
@[simp] theorem State.setPair_pending (s : State) (x : Pair) : (s.setPair x).pending = s.pending := rfl

/-! ## setPl -/

@[simp] theorem State.setPl_csr (s : State) (x : PeerLl) : (s.setPl x).csr = s.csr := rfl
@[simp] theorem State.setPl_mem (s : State) (x : PeerLl) : (s.setPl x).mem = s.mem := rfl
@[simp] theorem State.setPl_memx (s : State) (x : PeerLl) : (s.setPl x).memx = s.memx := rfl
@[simp] theorem State.setPl_keeper (s : State) (x : PeerLl) : (s.setPl x).keeper = s.keeper := rfl
@[simp] theorem State.setPl_intr (s : State) (x : PeerLl) : (s.setPl x).intr = s.intr := rfl
@[simp] theorem State.setPl_iseq (s : State) (x : PeerLl) : (s.setPl x).iseq = s.iseq := rfl
@[simp] theorem State.setPl_sys (s : State) (x : PeerLl) : (s.setPl x).sys = s.sys := rfl
@[simp] theorem State.setPl_fuses (s : State) (x : PeerLl) : (s.setPl x).fuses = s.fuses := rfl
@[simp] theorem State.setPl_blown (s : State) (x : PeerLl) : (s.setPl x).blown = s.blown := rfl
@[simp] theorem State.setPl_sec (s : State) (x : PeerLl) : (s.setPl x).sec = s.sec := rfl
@[simp] theorem State.setPl_tsu (s : State) (x : PeerLl) : (s.setPl x).tsu = s.tsu := rfl
@[simp] theorem State.setPl_links (s : State) (x : PeerLl) : (s.setPl x).links = s.links := rfl
@[simp] theorem State.setPl_ports (s : State) (x : PeerLl) : (s.setPl x).ports = s.ports := rfl
@[simp] theorem State.setPl_ledger (s : State) (x : PeerLl) : (s.setPl x).ledger = s.ledger := rfl
@[simp] theorem State.setPl_cfg (s : State) (x : PeerLl) : (s.setPl x).cfg = s.cfg := rfl
@[simp] theorem State.setPl_ingests (s : State) (x : PeerLl) : (s.setPl x).ingests = s.ingests := rfl
@[simp] theorem State.setPl_cams (s : State) (x : PeerLl) : (s.setPl x).cams = s.cams := rfl
@[simp] theorem State.setPl_streams (s : State) (x : PeerLl) : (s.setPl x).streams = s.streams := rfl
@[simp] theorem State.setPl_rot (s : State) (x : PeerLl) : (s.setPl x).rot = s.rot := rfl
@[simp] theorem State.setPl_lats (s : State) (x : PeerLl) : (s.setPl x).lats = s.lats := rfl
@[simp] theorem State.setPl_pair (s : State) (x : PeerLl) : (s.setPl x).pair = s.pair := rfl
@[simp] theorem State.setPl_motions (s : State) (x : PeerLl) : (s.setPl x).motions = s.motions := rfl
@[simp] theorem State.setPl_upl (s : State) (x : PeerLl) : (s.setPl x).upl = s.upl := rfl
@[simp] theorem State.setPl_bridge (s : State) (x : PeerLl) : (s.setPl x).bridge = s.bridge := rfl
@[simp] theorem State.setPl_mbx (s : State) (x : PeerLl) : (s.setPl x).mbx = s.mbx := rfl
@[simp] theorem State.setPl_dma (s : State) (x : PeerLl) : (s.setPl x).dma = s.dma := rfl
@[simp] theorem State.setPl_cans (s : State) (x : PeerLl) : (s.setPl x).cans = s.cans := rfl
@[simp] theorem State.setPl_i2c (s : State) (x : PeerLl) : (s.setPl x).i2c = s.i2c := rfl
@[simp] theorem State.setPl_engs (s : State) (x : PeerLl) : (s.setPl x).engs = s.engs := rfl
@[simp] theorem State.setPl_progs (s : State) (x : PeerLl) : (s.setPl x).progs = s.progs := rfl
@[simp] theorem State.setPl_sent (s : State) (x : PeerLl) : (s.setPl x).sent = s.sent := rfl
@[simp] theorem State.setPl_snaps (s : State) (x : PeerLl) : (s.setPl x).snaps = s.snaps := rfl
@[simp] theorem State.setPl_readOut (s : State) (x : PeerLl) : (s.setPl x).readOut = s.readOut := rfl
@[simp] theorem State.setPl_fresh (s : State) (x : PeerLl) : (s.setPl x).fresh = s.fresh := rfl
@[simp] theorem State.setPl_pending (s : State) (x : PeerLl) : (s.setPl x).pending = s.pending := rfl

/-! ## setCfg -/

@[simp] theorem State.setCfg_csr (s : State) (c : Cfg) : (s.setCfg c).csr = s.csr := rfl
@[simp] theorem State.setCfg_mem (s : State) (c : Cfg) : (s.setCfg c).mem = s.mem := rfl
@[simp] theorem State.setCfg_memx (s : State) (c : Cfg) : (s.setCfg c).memx = s.memx := rfl
@[simp] theorem State.setCfg_keeper (s : State) (c : Cfg) : (s.setCfg c).keeper = s.keeper := rfl
@[simp] theorem State.setCfg_intr (s : State) (c : Cfg) : (s.setCfg c).intr = s.intr := rfl
@[simp] theorem State.setCfg_iseq (s : State) (c : Cfg) : (s.setCfg c).iseq = s.iseq := rfl
@[simp] theorem State.setCfg_sys (s : State) (c : Cfg) : (s.setCfg c).sys = s.sys := rfl
@[simp] theorem State.setCfg_fuses (s : State) (c : Cfg) : (s.setCfg c).fuses = s.fuses := rfl
@[simp] theorem State.setCfg_blown (s : State) (c : Cfg) : (s.setCfg c).blown = s.blown := rfl
@[simp] theorem State.setCfg_sec (s : State) (c : Cfg) : (s.setCfg c).sec = s.sec := rfl
@[simp] theorem State.setCfg_tsu (s : State) (c : Cfg) : (s.setCfg c).tsu = s.tsu := rfl
@[simp] theorem State.setCfg_links (s : State) (c : Cfg) : (s.setCfg c).links = s.links := rfl
@[simp] theorem State.setCfg_ports (s : State) (c : Cfg) : (s.setCfg c).ports = s.ports := rfl
@[simp] theorem State.setCfg_ledger (s : State) (c : Cfg) : (s.setCfg c).ledger = s.ledger := rfl
@[simp] theorem State.setCfg_ingests (s : State) (c : Cfg) : (s.setCfg c).ingests = s.ingests := rfl
@[simp] theorem State.setCfg_cams (s : State) (c : Cfg) : (s.setCfg c).cams = s.cams := rfl
@[simp] theorem State.setCfg_streams (s : State) (c : Cfg) : (s.setCfg c).streams = s.streams := rfl
@[simp] theorem State.setCfg_rot (s : State) (c : Cfg) : (s.setCfg c).rot = s.rot := rfl
@[simp] theorem State.setCfg_lats (s : State) (c : Cfg) : (s.setCfg c).lats = s.lats := rfl
@[simp] theorem State.setCfg_pair (s : State) (c : Cfg) : (s.setCfg c).pair = s.pair := rfl
@[simp] theorem State.setCfg_pl (s : State) (c : Cfg) : (s.setCfg c).pl = s.pl := rfl
@[simp] theorem State.setCfg_motions (s : State) (c : Cfg) : (s.setCfg c).motions = s.motions := rfl
@[simp] theorem State.setCfg_upl (s : State) (c : Cfg) : (s.setCfg c).upl = s.upl := rfl
@[simp] theorem State.setCfg_bridge (s : State) (c : Cfg) : (s.setCfg c).bridge = s.bridge := rfl
@[simp] theorem State.setCfg_mbx (s : State) (c : Cfg) : (s.setCfg c).mbx = s.mbx := rfl
@[simp] theorem State.setCfg_dma (s : State) (c : Cfg) : (s.setCfg c).dma = s.dma := rfl
@[simp] theorem State.setCfg_cans (s : State) (c : Cfg) : (s.setCfg c).cans = s.cans := rfl
@[simp] theorem State.setCfg_i2c (s : State) (c : Cfg) : (s.setCfg c).i2c = s.i2c := rfl
@[simp] theorem State.setCfg_engs (s : State) (c : Cfg) : (s.setCfg c).engs = s.engs := rfl
@[simp] theorem State.setCfg_progs (s : State) (c : Cfg) : (s.setCfg c).progs = s.progs := rfl
@[simp] theorem State.setCfg_sent (s : State) (c : Cfg) : (s.setCfg c).sent = s.sent := rfl
@[simp] theorem State.setCfg_snaps (s : State) (c : Cfg) : (s.setCfg c).snaps = s.snaps := rfl
@[simp] theorem State.setCfg_readOut (s : State) (c : Cfg) : (s.setCfg c).readOut = s.readOut := rfl
@[simp] theorem State.setCfg_fresh (s : State) (c : Cfg) : (s.setCfg c).fresh = s.fresh := rfl
@[simp] theorem State.setCfg_pending (s : State) (c : Cfg) : (s.setCfg c).pending = s.pending := rfl

/-! ## setRot -/

@[simp] theorem State.setRot_csr (s : State) (r : Rot) : (s.setRot r).csr = s.csr := rfl
@[simp] theorem State.setRot_mem (s : State) (r : Rot) : (s.setRot r).mem = s.mem := rfl
@[simp] theorem State.setRot_memx (s : State) (r : Rot) : (s.setRot r).memx = s.memx := rfl
@[simp] theorem State.setRot_keeper (s : State) (r : Rot) : (s.setRot r).keeper = s.keeper := rfl
@[simp] theorem State.setRot_intr (s : State) (r : Rot) : (s.setRot r).intr = s.intr := rfl
@[simp] theorem State.setRot_iseq (s : State) (r : Rot) : (s.setRot r).iseq = s.iseq := rfl
@[simp] theorem State.setRot_sys (s : State) (r : Rot) : (s.setRot r).sys = s.sys := rfl
@[simp] theorem State.setRot_fuses (s : State) (r : Rot) : (s.setRot r).fuses = s.fuses := rfl
@[simp] theorem State.setRot_blown (s : State) (r : Rot) : (s.setRot r).blown = s.blown := rfl
@[simp] theorem State.setRot_sec (s : State) (r : Rot) : (s.setRot r).sec = s.sec := rfl
@[simp] theorem State.setRot_tsu (s : State) (r : Rot) : (s.setRot r).tsu = s.tsu := rfl
@[simp] theorem State.setRot_links (s : State) (r : Rot) : (s.setRot r).links = s.links := rfl
@[simp] theorem State.setRot_ports (s : State) (r : Rot) : (s.setRot r).ports = s.ports := rfl
@[simp] theorem State.setRot_ledger (s : State) (r : Rot) : (s.setRot r).ledger = s.ledger := rfl
@[simp] theorem State.setRot_cfg (s : State) (r : Rot) : (s.setRot r).cfg = s.cfg := rfl
@[simp] theorem State.setRot_ingests (s : State) (r : Rot) : (s.setRot r).ingests = s.ingests := rfl
@[simp] theorem State.setRot_cams (s : State) (r : Rot) : (s.setRot r).cams = s.cams := rfl
@[simp] theorem State.setRot_streams (s : State) (r : Rot) : (s.setRot r).streams = s.streams := rfl
@[simp] theorem State.setRot_lats (s : State) (r : Rot) : (s.setRot r).lats = s.lats := rfl
@[simp] theorem State.setRot_pair (s : State) (r : Rot) : (s.setRot r).pair = s.pair := rfl
@[simp] theorem State.setRot_pl (s : State) (r : Rot) : (s.setRot r).pl = s.pl := rfl
@[simp] theorem State.setRot_motions (s : State) (r : Rot) : (s.setRot r).motions = s.motions := rfl
@[simp] theorem State.setRot_upl (s : State) (r : Rot) : (s.setRot r).upl = s.upl := rfl
@[simp] theorem State.setRot_bridge (s : State) (r : Rot) : (s.setRot r).bridge = s.bridge := rfl
@[simp] theorem State.setRot_mbx (s : State) (r : Rot) : (s.setRot r).mbx = s.mbx := rfl
@[simp] theorem State.setRot_dma (s : State) (r : Rot) : (s.setRot r).dma = s.dma := rfl
@[simp] theorem State.setRot_cans (s : State) (r : Rot) : (s.setRot r).cans = s.cans := rfl
@[simp] theorem State.setRot_i2c (s : State) (r : Rot) : (s.setRot r).i2c = s.i2c := rfl
@[simp] theorem State.setRot_engs (s : State) (r : Rot) : (s.setRot r).engs = s.engs := rfl
@[simp] theorem State.setRot_progs (s : State) (r : Rot) : (s.setRot r).progs = s.progs := rfl
@[simp] theorem State.setRot_sent (s : State) (r : Rot) : (s.setRot r).sent = s.sent := rfl
@[simp] theorem State.setRot_snaps (s : State) (r : Rot) : (s.setRot r).snaps = s.snaps := rfl
@[simp] theorem State.setRot_readOut (s : State) (r : Rot) : (s.setRot r).readOut = s.readOut := rfl
@[simp] theorem State.setRot_fresh (s : State) (r : Rot) : (s.setRot r).fresh = s.fresh := rfl
@[simp] theorem State.setRot_pending (s : State) (r : Rot) : (s.setRot r).pending = s.pending := rfl

/-! ## took -/

@[simp] theorem State.took_csr (s : State) : (s.took).csr = s.csr := rfl
@[simp] theorem State.took_mem (s : State) : (s.took).mem = s.mem := rfl
@[simp] theorem State.took_memx (s : State) : (s.took).memx = s.memx := rfl
@[simp] theorem State.took_keeper (s : State) : (s.took).keeper = s.keeper := rfl
@[simp] theorem State.took_intr (s : State) : (s.took).intr = s.intr := rfl
@[simp] theorem State.took_iseq (s : State) : (s.took).iseq = s.iseq := rfl
@[simp] theorem State.took_sys (s : State) : (s.took).sys = s.sys := rfl
@[simp] theorem State.took_fuses (s : State) : (s.took).fuses = s.fuses := rfl
@[simp] theorem State.took_blown (s : State) : (s.took).blown = s.blown := rfl
@[simp] theorem State.took_sec (s : State) : (s.took).sec = s.sec := rfl
@[simp] theorem State.took_tsu (s : State) : (s.took).tsu = s.tsu := rfl
@[simp] theorem State.took_links (s : State) : (s.took).links = s.links := rfl
@[simp] theorem State.took_ports (s : State) : (s.took).ports = s.ports := rfl
@[simp] theorem State.took_ledger (s : State) : (s.took).ledger = s.ledger := rfl
@[simp] theorem State.took_cfg (s : State) : (s.took).cfg = s.cfg := rfl
@[simp] theorem State.took_ingests (s : State) : (s.took).ingests = s.ingests := rfl
@[simp] theorem State.took_cams (s : State) : (s.took).cams = s.cams := rfl
@[simp] theorem State.took_streams (s : State) : (s.took).streams = s.streams := rfl
@[simp] theorem State.took_rot (s : State) : (s.took).rot = s.rot := rfl
@[simp] theorem State.took_lats (s : State) : (s.took).lats = s.lats := rfl
@[simp] theorem State.took_pair (s : State) : (s.took).pair = s.pair := rfl
@[simp] theorem State.took_pl (s : State) : (s.took).pl = s.pl := rfl
@[simp] theorem State.took_motions (s : State) : (s.took).motions = s.motions := rfl
@[simp] theorem State.took_upl (s : State) : (s.took).upl = s.upl := rfl
@[simp] theorem State.took_bridge (s : State) : (s.took).bridge = s.bridge := rfl
@[simp] theorem State.took_mbx (s : State) : (s.took).mbx = s.mbx := rfl
@[simp] theorem State.took_dma (s : State) : (s.took).dma = s.dma := rfl
@[simp] theorem State.took_cans (s : State) : (s.took).cans = s.cans := rfl
@[simp] theorem State.took_i2c (s : State) : (s.took).i2c = s.i2c := rfl
@[simp] theorem State.took_engs (s : State) : (s.took).engs = s.engs := rfl
@[simp] theorem State.took_progs (s : State) : (s.took).progs = s.progs := rfl
@[simp] theorem State.took_sent (s : State) : (s.took).sent = s.sent := rfl
@[simp] theorem State.took_snaps (s : State) : (s.took).snaps = s.snaps := rfl
@[simp] theorem State.took_readOut (s : State) : (s.took).readOut = s.readOut := rfl
@[simp] theorem State.took_pending (s : State) : (s.took).pending = s.pending := rfl

/-! ## Registers under updates of other fields -/

@[simp] theorem State.setEng_reg (s : State) (sl : Nat) (e : Eng) (a : Nat) : (s.setEng sl e).reg a = s.reg a := rfl
@[simp] theorem State.setEng_fld (s : State) (sl : Nat) (e : Eng) (f : Fld) : (s.setEng sl e).fld f = s.fld f := rfl
@[simp] theorem State.setPort_reg (s : State) (p : Nat) (x : PortSt) (a : Nat) : (s.setPort p x).reg a = s.reg a := rfl
@[simp] theorem State.setPort_fld (s : State) (p : Nat) (x : PortSt) (f : Fld) : (s.setPort p x).fld f = s.fld f := rfl
@[simp] theorem State.setCam_reg (s : State) (p : Nat) (x : Cam) (a : Nat) : (s.setCam p x).reg a = s.reg a := rfl
@[simp] theorem State.setCam_fld (s : State) (p : Nat) (x : Cam) (f : Fld) : (s.setCam p x).fld f = s.fld f := rfl
@[simp] theorem State.setIngest_reg (s : State) (p : Nat) (g : Ingest) (a : Nat) : (s.setIngest p g).reg a = s.reg a := rfl
@[simp] theorem State.setIngest_fld (s : State) (p : Nat) (g : Ingest) (f : Fld) : (s.setIngest p g).fld f = s.fld f := rfl
@[simp] theorem State.setStream_reg (s : State) (n : Nat) (x : StreamSt) (a : Nat) : (s.setStream n x).reg a = s.reg a := rfl
@[simp] theorem State.setStream_fld (s : State) (n : Nat) (x : StreamSt) (f : Fld) : (s.setStream n x).fld f = s.fld f := rfl
@[simp] theorem State.setLat_reg (s : State) (n : Nat) (x : LatSt) (a : Nat) : (s.setLat n x).reg a = s.reg a := rfl
@[simp] theorem State.setLat_fld (s : State) (n : Nat) (x : LatSt) (f : Fld) : (s.setLat n x).fld f = s.fld f := rfl
@[simp] theorem State.setLink_reg (s : State) (l : Link) (x : LinkSt) (a : Nat) : (s.setLink l x).reg a = s.reg a := rfl
@[simp] theorem State.setLink_fld (s : State) (l : Link) (x : LinkSt) (f : Fld) : (s.setLink l x).fld f = s.fld f := rfl
@[simp] theorem State.setCan_reg (s : State) (c : Nat) (x : CanSt) (a : Nat) : (s.setCan c x).reg a = s.reg a := rfl
@[simp] theorem State.setCan_fld (s : State) (c : Nat) (x : CanSt) (f : Fld) : (s.setCan c x).fld f = s.fld f := rfl
@[simp] theorem State.setUpl_reg (s : State) (x : Upl) (a : Nat) : (s.setUpl x).reg a = s.reg a := rfl
@[simp] theorem State.setUpl_fld (s : State) (x : Upl) (f : Fld) : (s.setUpl x).fld f = s.fld f := rfl
@[simp] theorem State.setPair_reg (s : State) (x : Pair) (a : Nat) : (s.setPair x).reg a = s.reg a := rfl
@[simp] theorem State.setPair_fld (s : State) (x : Pair) (f : Fld) : (s.setPair x).fld f = s.fld f := rfl
@[simp] theorem State.setPl_reg (s : State) (x : PeerLl) (a : Nat) : (s.setPl x).reg a = s.reg a := rfl
@[simp] theorem State.setPl_fld (s : State) (x : PeerLl) (f : Fld) : (s.setPl x).fld f = s.fld f := rfl
@[simp] theorem State.setCfg_reg (s : State) (c : Cfg) (a : Nat) : (s.setCfg c).reg a = s.reg a := rfl
@[simp] theorem State.setCfg_fld (s : State) (c : Cfg) (f : Fld) : (s.setCfg c).fld f = s.fld f := rfl
@[simp] theorem State.setRot_reg (s : State) (r : Rot) (a : Nat) : (s.setRot r).reg a = s.reg a := rfl
@[simp] theorem State.setRot_fld (s : State) (r : Rot) (f : Fld) : (s.setRot r).fld f = s.fld f := rfl
@[simp] theorem State.took_reg (s : State) (a : Nat) : (s.took).reg a = s.reg a := rfl
@[simp] theorem State.took_fld (s : State) (f : Fld) : (s.took).fld f = s.fld f := rfl

/-! ## The entries that the updates set -/

@[simp] theorem State.setPort_port (s : State) (p : Nat) (x : PortSt) : (s.setPort p x).port p = x := Tbl.get_set_same _ _ _ _
@[simp] theorem State.setCam_camOf (s : State) (p : Nat) (x : Cam) : (s.setCam p x).camOf p = x := Tbl.get_set_same _ _ _ _
@[simp] theorem State.setIngest_ingest (s : State) (p : Nat) (g : Ingest) : (s.setIngest p g).ingest p = g := Tbl.get_set_same _ _ _ _
@[simp] theorem State.setStream_stream (s : State) (n : Nat) (x : StreamSt) : (s.setStream n x).stream n = x := Tbl.get_set_same _ _ _ _
@[simp] theorem State.setLat_lat (s : State) (n : Nat) (x : LatSt) : (s.setLat n x).lat n = x := Tbl.get_set_same _ _ _ _
@[simp] theorem State.setCan_can (s : State) (c : Nat) (x : CanSt) : (s.setCan c x).can c = x := Tbl.get_set_same _ _ _ _
@[simp] theorem State.setLink_link (s : State) (l : Link) (x : LinkSt) : (s.setLink l x).link l = x := Tbl.get_set_same _ _ _ _

end Sys2Proof.Machine
end

