-- ==== Sys2Proof/Laws/Ops.lean ====
section
/-!
SUPPORT. What the shared operations leave alone, one lemma per field, and what running a mailbox command or a bridge packet comes
to.
-/
namespace Sys2Proof.Machine

/-! ## intrEvent (R413, R415: an interrupt event joins the pending messages.) -/

@[simp] theorem State.intrEvent_csr (s : State) (src cause arg : Nat) : (s.intrEvent src cause arg).csr = s.csr :=
  rfl
@[simp] theorem State.intrEvent_mem (s : State) (src cause arg : Nat) : (s.intrEvent src cause arg).mem = s.mem :=
  rfl
@[simp] theorem State.intrEvent_memx (s : State) (src cause arg : Nat) : (s.intrEvent src cause arg).memx = s.memx :=
  rfl
@[simp] theorem State.intrEvent_keeper (s : State) (src cause arg : Nat) : (s.intrEvent src cause arg).keeper = s.keeper :=
  rfl
@[simp] theorem State.intrEvent_iseq (s : State) (src cause arg : Nat) : (s.intrEvent src cause arg).iseq = s.iseq :=
  rfl
@[simp] theorem State.intrEvent_sys (s : State) (src cause arg : Nat) : (s.intrEvent src cause arg).sys = s.sys :=
  rfl
@[simp] theorem State.intrEvent_fuses (s : State) (src cause arg : Nat) : (s.intrEvent src cause arg).fuses = s.fuses :=
  rfl
@[simp] theorem State.intrEvent_blown (s : State) (src cause arg : Nat) : (s.intrEvent src cause arg).blown = s.blown :=
  rfl
@[simp] theorem State.intrEvent_sec (s : State) (src cause arg : Nat) : (s.intrEvent src cause arg).sec = s.sec :=
  rfl
@[simp] theorem State.intrEvent_tsu (s : State) (src cause arg : Nat) : (s.intrEvent src cause arg).tsu = s.tsu :=
  rfl
@[simp] theorem State.intrEvent_links (s : State) (src cause arg : Nat) : (s.intrEvent src cause arg).links = s.links :=
  rfl
@[simp] theorem State.intrEvent_ports (s : State) (src cause arg : Nat) : (s.intrEvent src cause arg).ports = s.ports :=
  rfl
@[simp] theorem State.intrEvent_ledger (s : State) (src cause arg : Nat) : (s.intrEvent src cause arg).ledger = s.ledger :=
  rfl
@[simp] theorem State.intrEvent_cfg (s : State) (src cause arg : Nat) : (s.intrEvent src cause arg).cfg = s.cfg :=
  rfl
@[simp] theorem State.intrEvent_ingests (s : State) (src cause arg : Nat) : (s.intrEvent src cause arg).ingests = s.ingests :=
  rfl
@[simp] theorem State.intrEvent_cams (s : State) (src cause arg : Nat) : (s.intrEvent src cause arg).cams = s.cams :=
  rfl
@[simp] theorem State.intrEvent_streams (s : State) (src cause arg : Nat) : (s.intrEvent src cause arg).streams = s.streams :=
  rfl
@[simp] theorem State.intrEvent_rot (s : State) (src cause arg : Nat) : (s.intrEvent src cause arg).rot = s.rot :=
  rfl
@[simp] theorem State.intrEvent_lats (s : State) (src cause arg : Nat) : (s.intrEvent src cause arg).lats = s.lats :=
  rfl
@[simp] theorem State.intrEvent_pair (s : State) (src cause arg : Nat) : (s.intrEvent src cause arg).pair = s.pair :=
  rfl
@[simp] theorem State.intrEvent_pl (s : State) (src cause arg : Nat) : (s.intrEvent src cause arg).pl = s.pl :=
  rfl
@[simp] theorem State.intrEvent_motions (s : State) (src cause arg : Nat) : (s.intrEvent src cause arg).motions = s.motions :=
  rfl
@[simp] theorem State.intrEvent_upl (s : State) (src cause arg : Nat) : (s.intrEvent src cause arg).upl = s.upl :=
  rfl
@[simp] theorem State.intrEvent_bridge (s : State) (src cause arg : Nat) : (s.intrEvent src cause arg).bridge = s.bridge :=
  rfl
@[simp] theorem State.intrEvent_mbx (s : State) (src cause arg : Nat) : (s.intrEvent src cause arg).mbx = s.mbx :=
  rfl
@[simp] theorem State.intrEvent_dma (s : State) (src cause arg : Nat) : (s.intrEvent src cause arg).dma = s.dma :=
  rfl
@[simp] theorem State.intrEvent_cans (s : State) (src cause arg : Nat) : (s.intrEvent src cause arg).cans = s.cans :=
  rfl
@[simp] theorem State.intrEvent_i2c (s : State) (src cause arg : Nat) : (s.intrEvent src cause arg).i2c = s.i2c :=
  rfl
@[simp] theorem State.intrEvent_engs (s : State) (src cause arg : Nat) : (s.intrEvent src cause arg).engs = s.engs :=
  rfl
@[simp] theorem State.intrEvent_progs (s : State) (src cause arg : Nat) : (s.intrEvent src cause arg).progs = s.progs :=
  rfl
@[simp] theorem State.intrEvent_sent (s : State) (src cause arg : Nat) : (s.intrEvent src cause arg).sent = s.sent :=
  rfl
@[simp] theorem State.intrEvent_snaps (s : State) (src cause arg : Nat) : (s.intrEvent src cause arg).snaps = s.snaps :=
  rfl
@[simp] theorem State.intrEvent_readOut (s : State) (src cause arg : Nat) : (s.intrEvent src cause arg).readOut = s.readOut :=
  rfl
@[simp] theorem State.intrEvent_fresh (s : State) (src cause arg : Nat) : (s.intrEvent src cause arg).fresh = s.fresh :=
  rfl
@[simp] theorem State.intrEvent_pending (s : State) (src cause arg : Nat) : (s.intrEvent src cause arg).pending = s.pending :=
  rfl

/-! ## driveFaultN (R543: FAULT_N follows the log.) -/

@[simp] theorem State.driveFaultN_mem (s : State) : (s.driveFaultN).mem = s.mem := by
  simp only [State.driveFaultN]; split <;> rfl
@[simp] theorem State.driveFaultN_memx (s : State) : (s.driveFaultN).memx = s.memx := by
  simp only [State.driveFaultN]; split <;> rfl
@[simp] theorem State.driveFaultN_keeper (s : State) : (s.driveFaultN).keeper = s.keeper := by
  simp only [State.driveFaultN]; split <;> rfl
@[simp] theorem State.driveFaultN_iseq (s : State) : (s.driveFaultN).iseq = s.iseq := by
  simp only [State.driveFaultN]; split <;> rfl
@[simp] theorem State.driveFaultN_sys (s : State) : (s.driveFaultN).sys = s.sys := by
  simp only [State.driveFaultN]; split <;> rfl
@[simp] theorem State.driveFaultN_fuses (s : State) : (s.driveFaultN).fuses = s.fuses := by
  simp only [State.driveFaultN]; split <;> rfl
@[simp] theorem State.driveFaultN_blown (s : State) : (s.driveFaultN).blown = s.blown := by
  simp only [State.driveFaultN]; split <;> rfl
@[simp] theorem State.driveFaultN_sec (s : State) : (s.driveFaultN).sec = s.sec := by
  simp only [State.driveFaultN]; split <;> rfl
@[simp] theorem State.driveFaultN_tsu (s : State) : (s.driveFaultN).tsu = s.tsu := by
  simp only [State.driveFaultN]; split <;> rfl
@[simp] theorem State.driveFaultN_links (s : State) : (s.driveFaultN).links = s.links := by
  simp only [State.driveFaultN]; split <;> rfl
@[simp] theorem State.driveFaultN_ports (s : State) : (s.driveFaultN).ports = s.ports := by
  simp only [State.driveFaultN]; split <;> rfl
@[simp] theorem State.driveFaultN_ledger (s : State) : (s.driveFaultN).ledger = s.ledger := by
  simp only [State.driveFaultN]; split <;> rfl
@[simp] theorem State.driveFaultN_cfg (s : State) : (s.driveFaultN).cfg = s.cfg := by
  simp only [State.driveFaultN]; split <;> rfl
@[simp] theorem State.driveFaultN_ingests (s : State) : (s.driveFaultN).ingests = s.ingests := by
  simp only [State.driveFaultN]; split <;> rfl
@[simp] theorem State.driveFaultN_cams (s : State) : (s.driveFaultN).cams = s.cams := by
  simp only [State.driveFaultN]; split <;> rfl
@[simp] theorem State.driveFaultN_streams (s : State) : (s.driveFaultN).streams = s.streams := by
  simp only [State.driveFaultN]; split <;> rfl
@[simp] theorem State.driveFaultN_rot (s : State) : (s.driveFaultN).rot = s.rot := by
  simp only [State.driveFaultN]; split <;> rfl
@[simp] theorem State.driveFaultN_lats (s : State) : (s.driveFaultN).lats = s.lats := by
  simp only [State.driveFaultN]; split <;> rfl
@[simp] theorem State.driveFaultN_pair (s : State) : (s.driveFaultN).pair = s.pair := by
  simp only [State.driveFaultN]; split <;> rfl
@[simp] theorem State.driveFaultN_pl (s : State) : (s.driveFaultN).pl = s.pl := by
  simp only [State.driveFaultN]; split <;> rfl
@[simp] theorem State.driveFaultN_motions (s : State) : (s.driveFaultN).motions = s.motions := by
  simp only [State.driveFaultN]; split <;> rfl
@[simp] theorem State.driveFaultN_upl (s : State) : (s.driveFaultN).upl = s.upl := by
  simp only [State.driveFaultN]; split <;> rfl
@[simp] theorem State.driveFaultN_bridge (s : State) : (s.driveFaultN).bridge = s.bridge := by
  simp only [State.driveFaultN]; split <;> rfl
@[simp] theorem State.driveFaultN_mbx (s : State) : (s.driveFaultN).mbx = s.mbx := by
  simp only [State.driveFaultN]; split <;> rfl
@[simp] theorem State.driveFaultN_dma (s : State) : (s.driveFaultN).dma = s.dma := by
  simp only [State.driveFaultN]; split <;> rfl
@[simp] theorem State.driveFaultN_cans (s : State) : (s.driveFaultN).cans = s.cans := by
  simp only [State.driveFaultN]; split <;> rfl
@[simp] theorem State.driveFaultN_i2c (s : State) : (s.driveFaultN).i2c = s.i2c := by
  simp only [State.driveFaultN]; split <;> rfl
@[simp] theorem State.driveFaultN_engs (s : State) : (s.driveFaultN).engs = s.engs := by
  simp only [State.driveFaultN]; split <;> rfl
@[simp] theorem State.driveFaultN_progs (s : State) : (s.driveFaultN).progs = s.progs := by
  simp only [State.driveFaultN]; split <;> rfl
@[simp] theorem State.driveFaultN_sent (s : State) : (s.driveFaultN).sent = s.sent := by
  simp only [State.driveFaultN]; split <;> rfl
@[simp] theorem State.driveFaultN_snaps (s : State) : (s.driveFaultN).snaps = s.snaps := by
  simp only [State.driveFaultN]; split <;> rfl
@[simp] theorem State.driveFaultN_readOut (s : State) : (s.driveFaultN).readOut = s.readOut := by
  simp only [State.driveFaultN]; split <;> rfl
@[simp] theorem State.driveFaultN_fresh (s : State) : (s.driveFaultN).fresh = s.fresh := by
  simp only [State.driveFaultN]; split <;> rfl
@[simp] theorem State.driveFaultN_pending (s : State) : (s.driveFaultN).pending = s.pending := by
  simp only [State.driveFaultN]; split <;> rfl

/-! ## loseFault (R540: a report lost.) -/

@[simp] theorem State.loseFault_mem (s : State) (code : Nat) : (s.loseFault code).mem = s.mem := by
  unfold State.loseFault; repeat' split
  all_goals rfl
@[simp] theorem State.loseFault_memx (s : State) (code : Nat) : (s.loseFault code).memx = s.memx := by
  unfold State.loseFault; repeat' split
  all_goals rfl
@[simp] theorem State.loseFault_keeper (s : State) (code : Nat) : (s.loseFault code).keeper = s.keeper := by
  unfold State.loseFault; repeat' split
  all_goals rfl
@[simp] theorem State.loseFault_iseq (s : State) (code : Nat) : (s.loseFault code).iseq = s.iseq := by
  unfold State.loseFault; repeat' split
  all_goals rfl
@[simp] theorem State.loseFault_sys (s : State) (code : Nat) : (s.loseFault code).sys = s.sys := by
  unfold State.loseFault; repeat' split
  all_goals rfl
@[simp] theorem State.loseFault_fuses (s : State) (code : Nat) : (s.loseFault code).fuses = s.fuses := by
  unfold State.loseFault; repeat' split
  all_goals rfl
@[simp] theorem State.loseFault_blown (s : State) (code : Nat) : (s.loseFault code).blown = s.blown := by
  unfold State.loseFault; repeat' split
  all_goals rfl
@[simp] theorem State.loseFault_sec (s : State) (code : Nat) : (s.loseFault code).sec = s.sec := by
  unfold State.loseFault; repeat' split
  all_goals rfl
@[simp] theorem State.loseFault_tsu (s : State) (code : Nat) : (s.loseFault code).tsu = s.tsu := by
  unfold State.loseFault; repeat' split
  all_goals rfl
@[simp] theorem State.loseFault_links (s : State) (code : Nat) : (s.loseFault code).links = s.links := by
  unfold State.loseFault; repeat' split
  all_goals rfl
@[simp] theorem State.loseFault_ports (s : State) (code : Nat) : (s.loseFault code).ports = s.ports := by
  unfold State.loseFault; repeat' split
  all_goals rfl
@[simp] theorem State.loseFault_ledger (s : State) (code : Nat) : (s.loseFault code).ledger = s.ledger := by
  unfold State.loseFault; repeat' split
  all_goals rfl
@[simp] theorem State.loseFault_cfg (s : State) (code : Nat) : (s.loseFault code).cfg = s.cfg := by
  unfold State.loseFault; repeat' split
  all_goals rfl
@[simp] theorem State.loseFault_ingests (s : State) (code : Nat) : (s.loseFault code).ingests = s.ingests := by
  unfold State.loseFault; repeat' split
  all_goals rfl
@[simp] theorem State.loseFault_cams (s : State) (code : Nat) : (s.loseFault code).cams = s.cams := by
  unfold State.loseFault; repeat' split
  all_goals rfl
@[simp] theorem State.loseFault_streams (s : State) (code : Nat) : (s.loseFault code).streams = s.streams := by
  unfold State.loseFault; repeat' split
  all_goals rfl
@[simp] theorem State.loseFault_rot (s : State) (code : Nat) : (s.loseFault code).rot = s.rot := by
  unfold State.loseFault; repeat' split
  all_goals rfl
@[simp] theorem State.loseFault_lats (s : State) (code : Nat) : (s.loseFault code).lats = s.lats := by
  unfold State.loseFault; repeat' split
  all_goals rfl
@[simp] theorem State.loseFault_pair (s : State) (code : Nat) : (s.loseFault code).pair = s.pair := by
  unfold State.loseFault; repeat' split
  all_goals rfl
@[simp] theorem State.loseFault_pl (s : State) (code : Nat) : (s.loseFault code).pl = s.pl := by
  unfold State.loseFault; repeat' split
  all_goals rfl
@[simp] theorem State.loseFault_motions (s : State) (code : Nat) : (s.loseFault code).motions = s.motions := by
  unfold State.loseFault; repeat' split
  all_goals rfl
@[simp] theorem State.loseFault_upl (s : State) (code : Nat) : (s.loseFault code).upl = s.upl := by
  unfold State.loseFault; repeat' split
  all_goals rfl
@[simp] theorem State.loseFault_bridge (s : State) (code : Nat) : (s.loseFault code).bridge = s.bridge := by
  unfold State.loseFault; repeat' split
  all_goals rfl
@[simp] theorem State.loseFault_mbx (s : State) (code : Nat) : (s.loseFault code).mbx = s.mbx := by
  unfold State.loseFault; repeat' split
  all_goals rfl
@[simp] theorem State.loseFault_dma (s : State) (code : Nat) : (s.loseFault code).dma = s.dma := by
  unfold State.loseFault; repeat' split
  all_goals rfl
@[simp] theorem State.loseFault_cans (s : State) (code : Nat) : (s.loseFault code).cans = s.cans := by
  unfold State.loseFault; repeat' split
  all_goals rfl
@[simp] theorem State.loseFault_i2c (s : State) (code : Nat) : (s.loseFault code).i2c = s.i2c := by
  unfold State.loseFault; repeat' split
  all_goals rfl
@[simp] theorem State.loseFault_engs (s : State) (code : Nat) : (s.loseFault code).engs = s.engs := by
  unfold State.loseFault; repeat' split
  all_goals rfl
@[simp] theorem State.loseFault_progs (s : State) (code : Nat) : (s.loseFault code).progs = s.progs := by
  unfold State.loseFault; repeat' split
  all_goals rfl
@[simp] theorem State.loseFault_sent (s : State) (code : Nat) : (s.loseFault code).sent = s.sent := by
  unfold State.loseFault; repeat' split
  all_goals rfl
@[simp] theorem State.loseFault_snaps (s : State) (code : Nat) : (s.loseFault code).snaps = s.snaps := by
  unfold State.loseFault; repeat' split
  all_goals rfl
@[simp] theorem State.loseFault_readOut (s : State) (code : Nat) : (s.loseFault code).readOut = s.readOut := by
  unfold State.loseFault; repeat' split
  all_goals rfl
@[simp] theorem State.loseFault_fresh (s : State) (code : Nat) : (s.loseFault code).fresh = s.fresh := by
  unfold State.loseFault; repeat' split
  all_goals rfl
@[simp] theorem State.loseFault_pending (s : State) (code : Nat) : (s.loseFault code).pending = s.pending := by
  unfold State.loseFault; repeat' split
  all_goals rfl

/-! ## report (R538 to R540: a report waits for the keeper.) -/

@[simp] theorem State.report_mem (s : State) (code inst arg : Nat) : (s.report code inst arg).mem = s.mem := by
  simp only [State.report]; repeat' split
  all_goals simp
@[simp] theorem State.report_memx (s : State) (code inst arg : Nat) : (s.report code inst arg).memx = s.memx := by
  simp only [State.report]; repeat' split
  all_goals simp
@[simp] theorem State.report_iseq (s : State) (code inst arg : Nat) : (s.report code inst arg).iseq = s.iseq := by
  simp only [State.report]; repeat' split
  all_goals simp
@[simp] theorem State.report_sys (s : State) (code inst arg : Nat) : (s.report code inst arg).sys = s.sys := by
  simp only [State.report]; repeat' split
  all_goals simp
@[simp] theorem State.report_fuses (s : State) (code inst arg : Nat) : (s.report code inst arg).fuses = s.fuses := by
  simp only [State.report]; repeat' split
  all_goals simp
@[simp] theorem State.report_blown (s : State) (code inst arg : Nat) : (s.report code inst arg).blown = s.blown := by
  simp only [State.report]; repeat' split
  all_goals simp
@[simp] theorem State.report_sec (s : State) (code inst arg : Nat) : (s.report code inst arg).sec = s.sec := by
  simp only [State.report]; repeat' split
  all_goals simp
@[simp] theorem State.report_tsu (s : State) (code inst arg : Nat) : (s.report code inst arg).tsu = s.tsu := by
  simp only [State.report]; repeat' split
  all_goals simp
@[simp] theorem State.report_links (s : State) (code inst arg : Nat) : (s.report code inst arg).links = s.links := by
  simp only [State.report]; repeat' split
  all_goals simp
@[simp] theorem State.report_ports (s : State) (code inst arg : Nat) : (s.report code inst arg).ports = s.ports := by
  simp only [State.report]; repeat' split
  all_goals simp
@[simp] theorem State.report_ledger (s : State) (code inst arg : Nat) : (s.report code inst arg).ledger = s.ledger := by
  simp only [State.report]; repeat' split
  all_goals simp
@[simp] theorem State.report_cfg (s : State) (code inst arg : Nat) : (s.report code inst arg).cfg = s.cfg := by
  simp only [State.report]; repeat' split
  all_goals simp
@[simp] theorem State.report_ingests (s : State) (code inst arg : Nat) : (s.report code inst arg).ingests = s.ingests := by
  simp only [State.report]; repeat' split
  all_goals simp
@[simp] theorem State.report_cams (s : State) (code inst arg : Nat) : (s.report code inst arg).cams = s.cams := by
  simp only [State.report]; repeat' split
  all_goals simp
@[simp] theorem State.report_streams (s : State) (code inst arg : Nat) : (s.report code inst arg).streams = s.streams := by
  simp only [State.report]; repeat' split
  all_goals simp
@[simp] theorem State.report_rot (s : State) (code inst arg : Nat) : (s.report code inst arg).rot = s.rot := by
  simp only [State.report]; repeat' split
  all_goals simp
@[simp] theorem State.report_lats (s : State) (code inst arg : Nat) : (s.report code inst arg).lats = s.lats := by
  simp only [State.report]; repeat' split
  all_goals simp
@[simp] theorem State.report_pair (s : State) (code inst arg : Nat) : (s.report code inst arg).pair = s.pair := by
  simp only [State.report]; repeat' split
  all_goals simp
@[simp] theorem State.report_pl (s : State) (code inst arg : Nat) : (s.report code inst arg).pl = s.pl := by
  simp only [State.report]; repeat' split
  all_goals simp
@[simp] theorem State.report_motions (s : State) (code inst arg : Nat) : (s.report code inst arg).motions = s.motions := by
  simp only [State.report]; repeat' split
  all_goals simp
@[simp] theorem State.report_upl (s : State) (code inst arg : Nat) : (s.report code inst arg).upl = s.upl := by
  simp only [State.report]; repeat' split
  all_goals simp
@[simp] theorem State.report_bridge (s : State) (code inst arg : Nat) : (s.report code inst arg).bridge = s.bridge := by
  simp only [State.report]; repeat' split
  all_goals simp
@[simp] theorem State.report_mbx (s : State) (code inst arg : Nat) : (s.report code inst arg).mbx = s.mbx := by
  simp only [State.report]; repeat' split
  all_goals simp
@[simp] theorem State.report_dma (s : State) (code inst arg : Nat) : (s.report code inst arg).dma = s.dma := by
  simp only [State.report]; repeat' split
  all_goals simp
@[simp] theorem State.report_cans (s : State) (code inst arg : Nat) : (s.report code inst arg).cans = s.cans := by
  simp only [State.report]; repeat' split
  all_goals simp
@[simp] theorem State.report_i2c (s : State) (code inst arg : Nat) : (s.report code inst arg).i2c = s.i2c := by
  simp only [State.report]; repeat' split
  all_goals simp
@[simp] theorem State.report_engs (s : State) (code inst arg : Nat) : (s.report code inst arg).engs = s.engs := by
  simp only [State.report]; repeat' split
  all_goals simp
@[simp] theorem State.report_progs (s : State) (code inst arg : Nat) : (s.report code inst arg).progs = s.progs := by
  simp only [State.report]; repeat' split
  all_goals simp
@[simp] theorem State.report_sent (s : State) (code inst arg : Nat) : (s.report code inst arg).sent = s.sent := by
  simp only [State.report]; repeat' split
  all_goals simp
@[simp] theorem State.report_snaps (s : State) (code inst arg : Nat) : (s.report code inst arg).snaps = s.snaps := by
  simp only [State.report]; repeat' split
  all_goals simp
@[simp] theorem State.report_readOut (s : State) (code inst arg : Nat) : (s.report code inst arg).readOut = s.readOut := by
  simp only [State.report]; repeat' split
  all_goals simp
@[simp] theorem State.report_fresh (s : State) (code inst arg : Nat) : (s.report code inst arg).fresh = s.fresh := by
  simp only [State.report]; repeat' split
  all_goals simp
@[simp] theorem State.report_pending (s : State) (code inst arg : Nat) : (s.report code inst arg).pending = s.pending := by
  simp only [State.report]; repeat' split
  all_goals simp

/-! ## fillBlock (R614: a first write fills its block.) -/

@[simp] theorem State.fillBlock_mem (s : State) (a : Nat) : (s.fillBlock a).mem = s.mem := by
  unfold State.fillBlock; split <;> rfl
@[simp] theorem State.fillBlock_keeper (s : State) (a : Nat) : (s.fillBlock a).keeper = s.keeper := by
  unfold State.fillBlock; split <;> rfl
@[simp] theorem State.fillBlock_intr (s : State) (a : Nat) : (s.fillBlock a).intr = s.intr := by
  unfold State.fillBlock; split <;> rfl
@[simp] theorem State.fillBlock_iseq (s : State) (a : Nat) : (s.fillBlock a).iseq = s.iseq := by
  unfold State.fillBlock; split <;> rfl
@[simp] theorem State.fillBlock_sys (s : State) (a : Nat) : (s.fillBlock a).sys = s.sys := by
  unfold State.fillBlock; split <;> rfl
@[simp] theorem State.fillBlock_fuses (s : State) (a : Nat) : (s.fillBlock a).fuses = s.fuses := by
  unfold State.fillBlock; split <;> rfl
@[simp] theorem State.fillBlock_blown (s : State) (a : Nat) : (s.fillBlock a).blown = s.blown := by
  unfold State.fillBlock; split <;> rfl
@[simp] theorem State.fillBlock_sec (s : State) (a : Nat) : (s.fillBlock a).sec = s.sec := by
  unfold State.fillBlock; split <;> rfl
@[simp] theorem State.fillBlock_tsu (s : State) (a : Nat) : (s.fillBlock a).tsu = s.tsu := by
  unfold State.fillBlock; split <;> rfl
@[simp] theorem State.fillBlock_links (s : State) (a : Nat) : (s.fillBlock a).links = s.links := by
  unfold State.fillBlock; split <;> rfl
@[simp] theorem State.fillBlock_ports (s : State) (a : Nat) : (s.fillBlock a).ports = s.ports := by
  unfold State.fillBlock; split <;> rfl
@[simp] theorem State.fillBlock_ledger (s : State) (a : Nat) : (s.fillBlock a).ledger = s.ledger := by
  unfold State.fillBlock; split <;> rfl
@[simp] theorem State.fillBlock_cfg (s : State) (a : Nat) : (s.fillBlock a).cfg = s.cfg := by
  unfold State.fillBlock; split <;> rfl
@[simp] theorem State.fillBlock_ingests (s : State) (a : Nat) : (s.fillBlock a).ingests = s.ingests := by
  unfold State.fillBlock; split <;> rfl
@[simp] theorem State.fillBlock_cams (s : State) (a : Nat) : (s.fillBlock a).cams = s.cams := by
  unfold State.fillBlock; split <;> rfl
@[simp] theorem State.fillBlock_streams (s : State) (a : Nat) : (s.fillBlock a).streams = s.streams := by
  unfold State.fillBlock; split <;> rfl
@[simp] theorem State.fillBlock_rot (s : State) (a : Nat) : (s.fillBlock a).rot = s.rot := by
  unfold State.fillBlock; split <;> rfl
@[simp] theorem State.fillBlock_lats (s : State) (a : Nat) : (s.fillBlock a).lats = s.lats := by
  unfold State.fillBlock; split <;> rfl
@[simp] theorem State.fillBlock_pair (s : State) (a : Nat) : (s.fillBlock a).pair = s.pair := by
  unfold State.fillBlock; split <;> rfl
@[simp] theorem State.fillBlock_pl (s : State) (a : Nat) : (s.fillBlock a).pl = s.pl := by
  unfold State.fillBlock; split <;> rfl
@[simp] theorem State.fillBlock_motions (s : State) (a : Nat) : (s.fillBlock a).motions = s.motions := by
  unfold State.fillBlock; split <;> rfl
@[simp] theorem State.fillBlock_upl (s : State) (a : Nat) : (s.fillBlock a).upl = s.upl := by
  unfold State.fillBlock; split <;> rfl
@[simp] theorem State.fillBlock_bridge (s : State) (a : Nat) : (s.fillBlock a).bridge = s.bridge := by
  unfold State.fillBlock; split <;> rfl
@[simp] theorem State.fillBlock_mbx (s : State) (a : Nat) : (s.fillBlock a).mbx = s.mbx := by
  unfold State.fillBlock; split <;> rfl
@[simp] theorem State.fillBlock_dma (s : State) (a : Nat) : (s.fillBlock a).dma = s.dma := by
  unfold State.fillBlock; split <;> rfl
@[simp] theorem State.fillBlock_cans (s : State) (a : Nat) : (s.fillBlock a).cans = s.cans := by
  unfold State.fillBlock; split <;> rfl
@[simp] theorem State.fillBlock_i2c (s : State) (a : Nat) : (s.fillBlock a).i2c = s.i2c := by
  unfold State.fillBlock; split <;> rfl
@[simp] theorem State.fillBlock_engs (s : State) (a : Nat) : (s.fillBlock a).engs = s.engs := by
  unfold State.fillBlock; split <;> rfl
@[simp] theorem State.fillBlock_progs (s : State) (a : Nat) : (s.fillBlock a).progs = s.progs := by
  unfold State.fillBlock; split <;> rfl
@[simp] theorem State.fillBlock_sent (s : State) (a : Nat) : (s.fillBlock a).sent = s.sent := by
  unfold State.fillBlock; split <;> rfl
@[simp] theorem State.fillBlock_snaps (s : State) (a : Nat) : (s.fillBlock a).snaps = s.snaps := by
  unfold State.fillBlock; split <;> rfl
@[simp] theorem State.fillBlock_readOut (s : State) (a : Nat) : (s.fillBlock a).readOut = s.readOut := by
  unfold State.fillBlock; split <;> rfl
@[simp] theorem State.fillBlock_fresh (s : State) (a : Nat) : (s.fillBlock a).fresh = s.fresh := by
  unfold State.fillBlock; split <;> rfl
@[simp] theorem State.fillBlock_pending (s : State) (a : Nat) : (s.fillBlock a).pending = s.pending := by
  unfold State.fillBlock; split <;> rfl

/-! ## poke (Bytes written to memory.) -/

@[simp] theorem State.poke_keeper (s : State) (a : Nat) (l : List Byte) : (s.poke a l).keeper = s.keeper := by
  simp only [State.poke]; split <;> simp
@[simp] theorem State.poke_intr (s : State) (a : Nat) (l : List Byte) : (s.poke a l).intr = s.intr := by
  simp only [State.poke]; split <;> simp
@[simp] theorem State.poke_iseq (s : State) (a : Nat) (l : List Byte) : (s.poke a l).iseq = s.iseq := by
  simp only [State.poke]; split <;> simp
@[simp] theorem State.poke_sys (s : State) (a : Nat) (l : List Byte) : (s.poke a l).sys = s.sys := by
  simp only [State.poke]; split <;> simp
@[simp] theorem State.poke_fuses (s : State) (a : Nat) (l : List Byte) : (s.poke a l).fuses = s.fuses := by
  simp only [State.poke]; split <;> simp
@[simp] theorem State.poke_blown (s : State) (a : Nat) (l : List Byte) : (s.poke a l).blown = s.blown := by
  simp only [State.poke]; split <;> simp
@[simp] theorem State.poke_sec (s : State) (a : Nat) (l : List Byte) : (s.poke a l).sec = s.sec := by
  simp only [State.poke]; split <;> simp
@[simp] theorem State.poke_tsu (s : State) (a : Nat) (l : List Byte) : (s.poke a l).tsu = s.tsu := by
  simp only [State.poke]; split <;> simp
@[simp] theorem State.poke_links (s : State) (a : Nat) (l : List Byte) : (s.poke a l).links = s.links := by
  simp only [State.poke]; split <;> simp
@[simp] theorem State.poke_ports (s : State) (a : Nat) (l : List Byte) : (s.poke a l).ports = s.ports := by
  simp only [State.poke]; split <;> simp
@[simp] theorem State.poke_ledger (s : State) (a : Nat) (l : List Byte) : (s.poke a l).ledger = s.ledger := by
  simp only [State.poke]; split <;> simp
@[simp] theorem State.poke_cfg (s : State) (a : Nat) (l : List Byte) : (s.poke a l).cfg = s.cfg := by
  simp only [State.poke]; split <;> simp
@[simp] theorem State.poke_ingests (s : State) (a : Nat) (l : List Byte) : (s.poke a l).ingests = s.ingests := by
  simp only [State.poke]; split <;> simp
@[simp] theorem State.poke_cams (s : State) (a : Nat) (l : List Byte) : (s.poke a l).cams = s.cams := by
  simp only [State.poke]; split <;> simp
@[simp] theorem State.poke_streams (s : State) (a : Nat) (l : List Byte) : (s.poke a l).streams = s.streams := by
  simp only [State.poke]; split <;> simp
@[simp] theorem State.poke_rot (s : State) (a : Nat) (l : List Byte) : (s.poke a l).rot = s.rot := by
  simp only [State.poke]; split <;> simp
@[simp] theorem State.poke_lats (s : State) (a : Nat) (l : List Byte) : (s.poke a l).lats = s.lats := by
  simp only [State.poke]; split <;> simp
@[simp] theorem State.poke_pair (s : State) (a : Nat) (l : List Byte) : (s.poke a l).pair = s.pair := by
  simp only [State.poke]; split <;> simp
@[simp] theorem State.poke_pl (s : State) (a : Nat) (l : List Byte) : (s.poke a l).pl = s.pl := by
  simp only [State.poke]; split <;> simp
@[simp] theorem State.poke_motions (s : State) (a : Nat) (l : List Byte) : (s.poke a l).motions = s.motions := by
  simp only [State.poke]; split <;> simp
@[simp] theorem State.poke_upl (s : State) (a : Nat) (l : List Byte) : (s.poke a l).upl = s.upl := by
  simp only [State.poke]; split <;> simp
@[simp] theorem State.poke_bridge (s : State) (a : Nat) (l : List Byte) : (s.poke a l).bridge = s.bridge := by
  simp only [State.poke]; split <;> simp
@[simp] theorem State.poke_mbx (s : State) (a : Nat) (l : List Byte) : (s.poke a l).mbx = s.mbx := by
  simp only [State.poke]; split <;> simp
@[simp] theorem State.poke_dma (s : State) (a : Nat) (l : List Byte) : (s.poke a l).dma = s.dma := by
  simp only [State.poke]; split <;> simp
@[simp] theorem State.poke_cans (s : State) (a : Nat) (l : List Byte) : (s.poke a l).cans = s.cans := by
  simp only [State.poke]; split <;> simp
@[simp] theorem State.poke_i2c (s : State) (a : Nat) (l : List Byte) : (s.poke a l).i2c = s.i2c := by
  simp only [State.poke]; split <;> simp
@[simp] theorem State.poke_engs (s : State) (a : Nat) (l : List Byte) : (s.poke a l).engs = s.engs := by
  simp only [State.poke]; split <;> simp
@[simp] theorem State.poke_progs (s : State) (a : Nat) (l : List Byte) : (s.poke a l).progs = s.progs := by
  simp only [State.poke]; split <;> simp
@[simp] theorem State.poke_sent (s : State) (a : Nat) (l : List Byte) : (s.poke a l).sent = s.sent := by
  simp only [State.poke]; split <;> simp
@[simp] theorem State.poke_snaps (s : State) (a : Nat) (l : List Byte) : (s.poke a l).snaps = s.snaps := by
  simp only [State.poke]; split <;> simp
@[simp] theorem State.poke_readOut (s : State) (a : Nat) (l : List Byte) : (s.poke a l).readOut = s.readOut := by
  simp only [State.poke]; split <;> simp
@[simp] theorem State.poke_fresh (s : State) (a : Nat) (l : List Byte) : (s.poke a l).fresh = s.fresh := by
  simp only [State.poke]; split <;> simp
@[simp] theorem State.poke_pending (s : State) (a : Nat) (l : List Byte) : (s.poke a l).pending = s.pending := by
  simp only [State.poke]; split <;> simp

/-! ## poisonWord (R616: a word poisoned.) -/

@[simp] theorem State.poisonWord_csr (s : State) (w : Nat) : (s.poisonWord w).csr = s.csr := by
  simp only [State.poisonWord]; split <;> rfl
@[simp] theorem State.poisonWord_mem (s : State) (w : Nat) : (s.poisonWord w).mem = s.mem := by
  simp only [State.poisonWord]; split <;> rfl
@[simp] theorem State.poisonWord_keeper (s : State) (w : Nat) : (s.poisonWord w).keeper = s.keeper := by
  simp only [State.poisonWord]; split <;> rfl
@[simp] theorem State.poisonWord_intr (s : State) (w : Nat) : (s.poisonWord w).intr = s.intr := by
  simp only [State.poisonWord]; split <;> rfl
@[simp] theorem State.poisonWord_iseq (s : State) (w : Nat) : (s.poisonWord w).iseq = s.iseq := by
  simp only [State.poisonWord]; split <;> rfl
@[simp] theorem State.poisonWord_sys (s : State) (w : Nat) : (s.poisonWord w).sys = s.sys := by
  simp only [State.poisonWord]; split <;> rfl
@[simp] theorem State.poisonWord_fuses (s : State) (w : Nat) : (s.poisonWord w).fuses = s.fuses := by
  simp only [State.poisonWord]; split <;> rfl
@[simp] theorem State.poisonWord_blown (s : State) (w : Nat) : (s.poisonWord w).blown = s.blown := by
  simp only [State.poisonWord]; split <;> rfl
@[simp] theorem State.poisonWord_sec (s : State) (w : Nat) : (s.poisonWord w).sec = s.sec := by
  simp only [State.poisonWord]; split <;> rfl
@[simp] theorem State.poisonWord_tsu (s : State) (w : Nat) : (s.poisonWord w).tsu = s.tsu := by
  simp only [State.poisonWord]; split <;> rfl
@[simp] theorem State.poisonWord_links (s : State) (w : Nat) : (s.poisonWord w).links = s.links := by
  simp only [State.poisonWord]; split <;> rfl
@[simp] theorem State.poisonWord_ports (s : State) (w : Nat) : (s.poisonWord w).ports = s.ports := by
  simp only [State.poisonWord]; split <;> rfl
@[simp] theorem State.poisonWord_ledger (s : State) (w : Nat) : (s.poisonWord w).ledger = s.ledger := by
  simp only [State.poisonWord]; split <;> rfl
@[simp] theorem State.poisonWord_cfg (s : State) (w : Nat) : (s.poisonWord w).cfg = s.cfg := by
  simp only [State.poisonWord]; split <;> rfl
@[simp] theorem State.poisonWord_ingests (s : State) (w : Nat) : (s.poisonWord w).ingests = s.ingests := by
  simp only [State.poisonWord]; split <;> rfl
@[simp] theorem State.poisonWord_cams (s : State) (w : Nat) : (s.poisonWord w).cams = s.cams := by
  simp only [State.poisonWord]; split <;> rfl
@[simp] theorem State.poisonWord_streams (s : State) (w : Nat) : (s.poisonWord w).streams = s.streams := by
  simp only [State.poisonWord]; split <;> rfl
@[simp] theorem State.poisonWord_rot (s : State) (w : Nat) : (s.poisonWord w).rot = s.rot := by
  simp only [State.poisonWord]; split <;> rfl
@[simp] theorem State.poisonWord_lats (s : State) (w : Nat) : (s.poisonWord w).lats = s.lats := by
  simp only [State.poisonWord]; split <;> rfl
@[simp] theorem State.poisonWord_pair (s : State) (w : Nat) : (s.poisonWord w).pair = s.pair := by
  simp only [State.poisonWord]; split <;> rfl
@[simp] theorem State.poisonWord_pl (s : State) (w : Nat) : (s.poisonWord w).pl = s.pl := by
  simp only [State.poisonWord]; split <;> rfl
@[simp] theorem State.poisonWord_motions (s : State) (w : Nat) : (s.poisonWord w).motions = s.motions := by
  simp only [State.poisonWord]; split <;> rfl
@[simp] theorem State.poisonWord_upl (s : State) (w : Nat) : (s.poisonWord w).upl = s.upl := by
  simp only [State.poisonWord]; split <;> rfl
@[simp] theorem State.poisonWord_bridge (s : State) (w : Nat) : (s.poisonWord w).bridge = s.bridge := by
  simp only [State.poisonWord]; split <;> rfl
@[simp] theorem State.poisonWord_mbx (s : State) (w : Nat) : (s.poisonWord w).mbx = s.mbx := by
  simp only [State.poisonWord]; split <;> rfl
@[simp] theorem State.poisonWord_dma (s : State) (w : Nat) : (s.poisonWord w).dma = s.dma := by
  simp only [State.poisonWord]; split <;> rfl
@[simp] theorem State.poisonWord_cans (s : State) (w : Nat) : (s.poisonWord w).cans = s.cans := by
  simp only [State.poisonWord]; split <;> rfl
@[simp] theorem State.poisonWord_i2c (s : State) (w : Nat) : (s.poisonWord w).i2c = s.i2c := by
  simp only [State.poisonWord]; split <;> rfl
@[simp] theorem State.poisonWord_engs (s : State) (w : Nat) : (s.poisonWord w).engs = s.engs := by
  simp only [State.poisonWord]; split <;> rfl
@[simp] theorem State.poisonWord_progs (s : State) (w : Nat) : (s.poisonWord w).progs = s.progs := by
  simp only [State.poisonWord]; split <;> rfl
@[simp] theorem State.poisonWord_sent (s : State) (w : Nat) : (s.poisonWord w).sent = s.sent := by
  simp only [State.poisonWord]; split <;> rfl
@[simp] theorem State.poisonWord_snaps (s : State) (w : Nat) : (s.poisonWord w).snaps = s.snaps := by
  simp only [State.poisonWord]; split <;> rfl
@[simp] theorem State.poisonWord_readOut (s : State) (w : Nat) : (s.poisonWord w).readOut = s.readOut := by
  simp only [State.poisonWord]; split <;> rfl
@[simp] theorem State.poisonWord_fresh (s : State) (w : Nat) : (s.poisonWord w).fresh = s.fresh := by
  simp only [State.poisonWord]; split <;> rfl
@[simp] theorem State.poisonWord_pending (s : State) (w : Nat) : (s.poisonWord w).pending = s.pending := by
  simp only [State.poisonWord]; split <;> rfl

/-! ## captureErr (R616: the first address captured.) -/

@[simp] theorem State.captureErr_mem (s : State) (a src : Nat) : (s.captureErr a src).mem = s.mem := by
  unfold State.captureErr; split <;> rfl
@[simp] theorem State.captureErr_memx (s : State) (a src : Nat) : (s.captureErr a src).memx = s.memx := by
  unfold State.captureErr; split <;> rfl
@[simp] theorem State.captureErr_keeper (s : State) (a src : Nat) : (s.captureErr a src).keeper = s.keeper := by
  unfold State.captureErr; split <;> rfl
@[simp] theorem State.captureErr_intr (s : State) (a src : Nat) : (s.captureErr a src).intr = s.intr := by
  unfold State.captureErr; split <;> rfl
@[simp] theorem State.captureErr_iseq (s : State) (a src : Nat) : (s.captureErr a src).iseq = s.iseq := by
  unfold State.captureErr; split <;> rfl
@[simp] theorem State.captureErr_sys (s : State) (a src : Nat) : (s.captureErr a src).sys = s.sys := by
  unfold State.captureErr; split <;> rfl
@[simp] theorem State.captureErr_fuses (s : State) (a src : Nat) : (s.captureErr a src).fuses = s.fuses := by
  unfold State.captureErr; split <;> rfl
@[simp] theorem State.captureErr_blown (s : State) (a src : Nat) : (s.captureErr a src).blown = s.blown := by
  unfold State.captureErr; split <;> rfl
@[simp] theorem State.captureErr_sec (s : State) (a src : Nat) : (s.captureErr a src).sec = s.sec := by
  unfold State.captureErr; split <;> rfl
@[simp] theorem State.captureErr_tsu (s : State) (a src : Nat) : (s.captureErr a src).tsu = s.tsu := by
  unfold State.captureErr; split <;> rfl
@[simp] theorem State.captureErr_links (s : State) (a src : Nat) : (s.captureErr a src).links = s.links := by
  unfold State.captureErr; split <;> rfl
@[simp] theorem State.captureErr_ports (s : State) (a src : Nat) : (s.captureErr a src).ports = s.ports := by
  unfold State.captureErr; split <;> rfl
@[simp] theorem State.captureErr_ledger (s : State) (a src : Nat) : (s.captureErr a src).ledger = s.ledger := by
  unfold State.captureErr; split <;> rfl
@[simp] theorem State.captureErr_cfg (s : State) (a src : Nat) : (s.captureErr a src).cfg = s.cfg := by
  unfold State.captureErr; split <;> rfl
@[simp] theorem State.captureErr_ingests (s : State) (a src : Nat) : (s.captureErr a src).ingests = s.ingests := by
  unfold State.captureErr; split <;> rfl
@[simp] theorem State.captureErr_cams (s : State) (a src : Nat) : (s.captureErr a src).cams = s.cams := by
  unfold State.captureErr; split <;> rfl
@[simp] theorem State.captureErr_streams (s : State) (a src : Nat) : (s.captureErr a src).streams = s.streams := by
  unfold State.captureErr; split <;> rfl
@[simp] theorem State.captureErr_rot (s : State) (a src : Nat) : (s.captureErr a src).rot = s.rot := by
  unfold State.captureErr; split <;> rfl
@[simp] theorem State.captureErr_lats (s : State) (a src : Nat) : (s.captureErr a src).lats = s.lats := by
  unfold State.captureErr; split <;> rfl
@[simp] theorem State.captureErr_pair (s : State) (a src : Nat) : (s.captureErr a src).pair = s.pair := by
  unfold State.captureErr; split <;> rfl
@[simp] theorem State.captureErr_pl (s : State) (a src : Nat) : (s.captureErr a src).pl = s.pl := by
  unfold State.captureErr; split <;> rfl
@[simp] theorem State.captureErr_motions (s : State) (a src : Nat) : (s.captureErr a src).motions = s.motions := by
  unfold State.captureErr; split <;> rfl
@[simp] theorem State.captureErr_upl (s : State) (a src : Nat) : (s.captureErr a src).upl = s.upl := by
  unfold State.captureErr; split <;> rfl
@[simp] theorem State.captureErr_bridge (s : State) (a src : Nat) : (s.captureErr a src).bridge = s.bridge := by
  unfold State.captureErr; split <;> rfl
@[simp] theorem State.captureErr_mbx (s : State) (a src : Nat) : (s.captureErr a src).mbx = s.mbx := by
  unfold State.captureErr; split <;> rfl
@[simp] theorem State.captureErr_dma (s : State) (a src : Nat) : (s.captureErr a src).dma = s.dma := by
  unfold State.captureErr; split <;> rfl
@[simp] theorem State.captureErr_cans (s : State) (a src : Nat) : (s.captureErr a src).cans = s.cans := by
  unfold State.captureErr; split <;> rfl
@[simp] theorem State.captureErr_i2c (s : State) (a src : Nat) : (s.captureErr a src).i2c = s.i2c := by
  unfold State.captureErr; split <;> rfl
@[simp] theorem State.captureErr_engs (s : State) (a src : Nat) : (s.captureErr a src).engs = s.engs := by
  unfold State.captureErr; split <;> rfl
@[simp] theorem State.captureErr_progs (s : State) (a src : Nat) : (s.captureErr a src).progs = s.progs := by
  unfold State.captureErr; split <;> rfl
@[simp] theorem State.captureErr_sent (s : State) (a src : Nat) : (s.captureErr a src).sent = s.sent := by
  unfold State.captureErr; split <;> rfl
@[simp] theorem State.captureErr_snaps (s : State) (a src : Nat) : (s.captureErr a src).snaps = s.snaps := by
  unfold State.captureErr; split <;> rfl
@[simp] theorem State.captureErr_readOut (s : State) (a src : Nat) : (s.captureErr a src).readOut = s.readOut := by
  unfold State.captureErr; split <;> rfl
@[simp] theorem State.captureErr_fresh (s : State) (a src : Nat) : (s.captureErr a src).fresh = s.fresh := by
  unfold State.captureErr; split <;> rfl
@[simp] theorem State.captureErr_pending (s : State) (a src : Nat) : (s.captureErr a src).pending = s.pending := by
  unfold State.captureErr; split <;> rfl

/-! ## bcQueue (R113: a command queued on a port.) -/

@[simp] theorem State.bcQueue_csr (s : State) (p : Nat) (c : BcCmd) : (s.bcQueue p c).csr = s.csr :=
  rfl
@[simp] theorem State.bcQueue_mem (s : State) (p : Nat) (c : BcCmd) : (s.bcQueue p c).mem = s.mem :=
  rfl
@[simp] theorem State.bcQueue_memx (s : State) (p : Nat) (c : BcCmd) : (s.bcQueue p c).memx = s.memx :=
  rfl
@[simp] theorem State.bcQueue_keeper (s : State) (p : Nat) (c : BcCmd) : (s.bcQueue p c).keeper = s.keeper :=
  rfl
@[simp] theorem State.bcQueue_intr (s : State) (p : Nat) (c : BcCmd) : (s.bcQueue p c).intr = s.intr :=
  rfl
@[simp] theorem State.bcQueue_iseq (s : State) (p : Nat) (c : BcCmd) : (s.bcQueue p c).iseq = s.iseq :=
  rfl
@[simp] theorem State.bcQueue_sys (s : State) (p : Nat) (c : BcCmd) : (s.bcQueue p c).sys = s.sys :=
  rfl
@[simp] theorem State.bcQueue_fuses (s : State) (p : Nat) (c : BcCmd) : (s.bcQueue p c).fuses = s.fuses :=
  rfl
@[simp] theorem State.bcQueue_blown (s : State) (p : Nat) (c : BcCmd) : (s.bcQueue p c).blown = s.blown :=
  rfl
@[simp] theorem State.bcQueue_sec (s : State) (p : Nat) (c : BcCmd) : (s.bcQueue p c).sec = s.sec :=
  rfl
@[simp] theorem State.bcQueue_tsu (s : State) (p : Nat) (c : BcCmd) : (s.bcQueue p c).tsu = s.tsu :=
  rfl
@[simp] theorem State.bcQueue_links (s : State) (p : Nat) (c : BcCmd) : (s.bcQueue p c).links = s.links :=
  rfl
@[simp] theorem State.bcQueue_ledger (s : State) (p : Nat) (c : BcCmd) : (s.bcQueue p c).ledger = s.ledger :=
  rfl
@[simp] theorem State.bcQueue_cfg (s : State) (p : Nat) (c : BcCmd) : (s.bcQueue p c).cfg = s.cfg :=
  rfl
@[simp] theorem State.bcQueue_ingests (s : State) (p : Nat) (c : BcCmd) : (s.bcQueue p c).ingests = s.ingests :=
  rfl
@[simp] theorem State.bcQueue_cams (s : State) (p : Nat) (c : BcCmd) : (s.bcQueue p c).cams = s.cams :=
  rfl
@[simp] theorem State.bcQueue_streams (s : State) (p : Nat) (c : BcCmd) : (s.bcQueue p c).streams = s.streams :=
  rfl
@[simp] theorem State.bcQueue_rot (s : State) (p : Nat) (c : BcCmd) : (s.bcQueue p c).rot = s.rot :=
  rfl
@[simp] theorem State.bcQueue_lats (s : State) (p : Nat) (c : BcCmd) : (s.bcQueue p c).lats = s.lats :=
  rfl
@[simp] theorem State.bcQueue_pair (s : State) (p : Nat) (c : BcCmd) : (s.bcQueue p c).pair = s.pair :=
  rfl
@[simp] theorem State.bcQueue_pl (s : State) (p : Nat) (c : BcCmd) : (s.bcQueue p c).pl = s.pl :=
  rfl
@[simp] theorem State.bcQueue_motions (s : State) (p : Nat) (c : BcCmd) : (s.bcQueue p c).motions = s.motions :=
  rfl
@[simp] theorem State.bcQueue_upl (s : State) (p : Nat) (c : BcCmd) : (s.bcQueue p c).upl = s.upl :=
  rfl
@[simp] theorem State.bcQueue_bridge (s : State) (p : Nat) (c : BcCmd) : (s.bcQueue p c).bridge = s.bridge :=
  rfl
@[simp] theorem State.bcQueue_mbx (s : State) (p : Nat) (c : BcCmd) : (s.bcQueue p c).mbx = s.mbx :=
  rfl
@[simp] theorem State.bcQueue_dma (s : State) (p : Nat) (c : BcCmd) : (s.bcQueue p c).dma = s.dma :=
  rfl
@[simp] theorem State.bcQueue_cans (s : State) (p : Nat) (c : BcCmd) : (s.bcQueue p c).cans = s.cans :=
  rfl
@[simp] theorem State.bcQueue_i2c (s : State) (p : Nat) (c : BcCmd) : (s.bcQueue p c).i2c = s.i2c :=
  rfl
@[simp] theorem State.bcQueue_engs (s : State) (p : Nat) (c : BcCmd) : (s.bcQueue p c).engs = s.engs :=
  rfl
@[simp] theorem State.bcQueue_progs (s : State) (p : Nat) (c : BcCmd) : (s.bcQueue p c).progs = s.progs :=
  rfl
@[simp] theorem State.bcQueue_sent (s : State) (p : Nat) (c : BcCmd) : (s.bcQueue p c).sent = s.sent :=
  rfl
@[simp] theorem State.bcQueue_snaps (s : State) (p : Nat) (c : BcCmd) : (s.bcQueue p c).snaps = s.snaps :=
  rfl
@[simp] theorem State.bcQueue_readOut (s : State) (p : Nat) (c : BcCmd) : (s.bcQueue p c).readOut = s.readOut :=
  rfl
@[simp] theorem State.bcQueue_fresh (s : State) (p : Nat) (c : BcCmd) : (s.bcQueue p c).fresh = s.fresh :=
  rfl
@[simp] theorem State.bcQueue_pending (s : State) (p : Nat) (c : BcCmd) : (s.bcQueue p c).pending = s.pending :=
  rfl

/-! ## pwFail (R404: a posted write that failed.) -/

@[simp] theorem State.pwFail_mem (s : State) (tag addr code detail scope : Nat) : (s.pwFail tag addr code detail scope).mem = s.mem := by
  simp only [State.pwFail, State.report_mem, State.intrEvent_mem]
  split <;> split <;> rfl
@[simp] theorem State.pwFail_memx (s : State) (tag addr code detail scope : Nat) : (s.pwFail tag addr code detail scope).memx = s.memx := by
  simp only [State.pwFail, State.report_memx, State.intrEvent_memx]
  split <;> split <;> rfl
@[simp] theorem State.pwFail_iseq (s : State) (tag addr code detail scope : Nat) : (s.pwFail tag addr code detail scope).iseq = s.iseq := by
  simp only [State.pwFail, State.report_iseq, State.intrEvent_iseq]
  split <;> split <;> rfl
@[simp] theorem State.pwFail_sys (s : State) (tag addr code detail scope : Nat) : (s.pwFail tag addr code detail scope).sys = s.sys := by
  simp only [State.pwFail, State.report_sys, State.intrEvent_sys]
  split <;> split <;> rfl
@[simp] theorem State.pwFail_fuses (s : State) (tag addr code detail scope : Nat) : (s.pwFail tag addr code detail scope).fuses = s.fuses := by
  simp only [State.pwFail, State.report_fuses, State.intrEvent_fuses]
  split <;> split <;> rfl
@[simp] theorem State.pwFail_blown (s : State) (tag addr code detail scope : Nat) : (s.pwFail tag addr code detail scope).blown = s.blown := by
  simp only [State.pwFail, State.report_blown, State.intrEvent_blown]
  split <;> split <;> rfl
@[simp] theorem State.pwFail_sec (s : State) (tag addr code detail scope : Nat) : (s.pwFail tag addr code detail scope).sec = s.sec := by
  simp only [State.pwFail, State.report_sec, State.intrEvent_sec]
  split <;> split <;> rfl
@[simp] theorem State.pwFail_tsu (s : State) (tag addr code detail scope : Nat) : (s.pwFail tag addr code detail scope).tsu = s.tsu := by
  simp only [State.pwFail, State.report_tsu, State.intrEvent_tsu]
  split <;> split <;> rfl
@[simp] theorem State.pwFail_links (s : State) (tag addr code detail scope : Nat) : (s.pwFail tag addr code detail scope).links = s.links := by
  simp only [State.pwFail, State.report_links, State.intrEvent_links]
  split <;> split <;> rfl
@[simp] theorem State.pwFail_ports (s : State) (tag addr code detail scope : Nat) : (s.pwFail tag addr code detail scope).ports = s.ports := by
  simp only [State.pwFail, State.report_ports, State.intrEvent_ports]
  split <;> split <;> rfl
@[simp] theorem State.pwFail_ledger (s : State) (tag addr code detail scope : Nat) : (s.pwFail tag addr code detail scope).ledger = s.ledger := by
  simp only [State.pwFail, State.report_ledger, State.intrEvent_ledger]
  split <;> split <;> rfl
@[simp] theorem State.pwFail_cfg (s : State) (tag addr code detail scope : Nat) : (s.pwFail tag addr code detail scope).cfg = s.cfg := by
  simp only [State.pwFail, State.report_cfg, State.intrEvent_cfg]
  split <;> split <;> rfl
@[simp] theorem State.pwFail_ingests (s : State) (tag addr code detail scope : Nat) : (s.pwFail tag addr code detail scope).ingests = s.ingests := by
  simp only [State.pwFail, State.report_ingests, State.intrEvent_ingests]
  split <;> split <;> rfl
@[simp] theorem State.pwFail_cams (s : State) (tag addr code detail scope : Nat) : (s.pwFail tag addr code detail scope).cams = s.cams := by
  simp only [State.pwFail, State.report_cams, State.intrEvent_cams]
  split <;> split <;> rfl
@[simp] theorem State.pwFail_streams (s : State) (tag addr code detail scope : Nat) : (s.pwFail tag addr code detail scope).streams = s.streams := by
  simp only [State.pwFail, State.report_streams, State.intrEvent_streams]
  split <;> split <;> rfl
@[simp] theorem State.pwFail_rot (s : State) (tag addr code detail scope : Nat) : (s.pwFail tag addr code detail scope).rot = s.rot := by
  simp only [State.pwFail, State.report_rot, State.intrEvent_rot]
  split <;> split <;> rfl
@[simp] theorem State.pwFail_lats (s : State) (tag addr code detail scope : Nat) : (s.pwFail tag addr code detail scope).lats = s.lats := by
  simp only [State.pwFail, State.report_lats, State.intrEvent_lats]
  split <;> split <;> rfl
@[simp] theorem State.pwFail_pair (s : State) (tag addr code detail scope : Nat) : (s.pwFail tag addr code detail scope).pair = s.pair := by
  simp only [State.pwFail, State.report_pair, State.intrEvent_pair]
  split <;> split <;> rfl
@[simp] theorem State.pwFail_pl (s : State) (tag addr code detail scope : Nat) : (s.pwFail tag addr code detail scope).pl = s.pl := by
  simp only [State.pwFail, State.report_pl, State.intrEvent_pl]
  split <;> split <;> rfl
@[simp] theorem State.pwFail_motions (s : State) (tag addr code detail scope : Nat) : (s.pwFail tag addr code detail scope).motions = s.motions := by
  simp only [State.pwFail, State.report_motions, State.intrEvent_motions]
  split <;> split <;> rfl
@[simp] theorem State.pwFail_upl (s : State) (tag addr code detail scope : Nat) : (s.pwFail tag addr code detail scope).upl = s.upl := by
  simp only [State.pwFail, State.report_upl, State.intrEvent_upl]
  split <;> split <;> rfl
@[simp] theorem State.pwFail_bridge (s : State) (tag addr code detail scope : Nat) : (s.pwFail tag addr code detail scope).bridge = s.bridge := by
  simp only [State.pwFail, State.report_bridge, State.intrEvent_bridge]
  split <;> split <;> rfl
@[simp] theorem State.pwFail_mbx (s : State) (tag addr code detail scope : Nat) : (s.pwFail tag addr code detail scope).mbx = s.mbx := by
  simp only [State.pwFail, State.report_mbx, State.intrEvent_mbx]
  split <;> split <;> rfl
@[simp] theorem State.pwFail_dma (s : State) (tag addr code detail scope : Nat) : (s.pwFail tag addr code detail scope).dma = s.dma := by
  simp only [State.pwFail, State.report_dma, State.intrEvent_dma]
  split <;> split <;> rfl
@[simp] theorem State.pwFail_cans (s : State) (tag addr code detail scope : Nat) : (s.pwFail tag addr code detail scope).cans = s.cans := by
  simp only [State.pwFail, State.report_cans, State.intrEvent_cans]
  split <;> split <;> rfl
@[simp] theorem State.pwFail_i2c (s : State) (tag addr code detail scope : Nat) : (s.pwFail tag addr code detail scope).i2c = s.i2c := by
  simp only [State.pwFail, State.report_i2c, State.intrEvent_i2c]
  split <;> split <;> rfl
@[simp] theorem State.pwFail_engs (s : State) (tag addr code detail scope : Nat) : (s.pwFail tag addr code detail scope).engs = s.engs := by
  simp only [State.pwFail, State.report_engs, State.intrEvent_engs]
  split <;> split <;> rfl
@[simp] theorem State.pwFail_progs (s : State) (tag addr code detail scope : Nat) : (s.pwFail tag addr code detail scope).progs = s.progs := by
  simp only [State.pwFail, State.report_progs, State.intrEvent_progs]
  split <;> split <;> rfl
@[simp] theorem State.pwFail_sent (s : State) (tag addr code detail scope : Nat) : (s.pwFail tag addr code detail scope).sent = s.sent := by
  simp only [State.pwFail, State.report_sent, State.intrEvent_sent]
  split <;> split <;> rfl
@[simp] theorem State.pwFail_snaps (s : State) (tag addr code detail scope : Nat) : (s.pwFail tag addr code detail scope).snaps = s.snaps := by
  simp only [State.pwFail, State.report_snaps, State.intrEvent_snaps]
  split <;> split <;> rfl
@[simp] theorem State.pwFail_readOut (s : State) (tag addr code detail scope : Nat) : (s.pwFail tag addr code detail scope).readOut = s.readOut := by
  simp only [State.pwFail, State.report_readOut, State.intrEvent_readOut]
  split <;> split <;> rfl
@[simp] theorem State.pwFail_fresh (s : State) (tag addr code detail scope : Nat) : (s.pwFail tag addr code detail scope).fresh = s.fresh := by
  simp only [State.pwFail, State.report_fresh, State.intrEvent_fresh]
  split <;> split <;> rfl
@[simp] theorem State.pwFail_pending (s : State) (tag addr code detail scope : Nat) : (s.pwFail tag addr code detail scope).pending = s.pending := by
  simp only [State.pwFail, State.report_pending, State.intrEvent_pending]
  split <;> split <;> rfl


/-! ## complete (R401: a read completion.) -/

@[simp] theorem State.complete_mem (s : State) (tag addr n status detail : Nat) (data : List Byte) : (s.complete tag addr n status detail data).mem = s.mem := by
  unfold State.complete; split <;> rfl
@[simp] theorem State.complete_memx (s : State) (tag addr n status detail : Nat) (data : List Byte) : (s.complete tag addr n status detail data).memx = s.memx := by
  unfold State.complete; split <;> rfl
@[simp] theorem State.complete_keeper (s : State) (tag addr n status detail : Nat) (data : List Byte) : (s.complete tag addr n status detail data).keeper = s.keeper := by
  unfold State.complete; split <;> rfl
@[simp] theorem State.complete_intr (s : State) (tag addr n status detail : Nat) (data : List Byte) : (s.complete tag addr n status detail data).intr = s.intr := by
  unfold State.complete; split <;> rfl
@[simp] theorem State.complete_iseq (s : State) (tag addr n status detail : Nat) (data : List Byte) : (s.complete tag addr n status detail data).iseq = s.iseq := by
  unfold State.complete; split <;> rfl
@[simp] theorem State.complete_sys (s : State) (tag addr n status detail : Nat) (data : List Byte) : (s.complete tag addr n status detail data).sys = s.sys := by
  unfold State.complete; split <;> rfl
@[simp] theorem State.complete_fuses (s : State) (tag addr n status detail : Nat) (data : List Byte) : (s.complete tag addr n status detail data).fuses = s.fuses := by
  unfold State.complete; split <;> rfl
@[simp] theorem State.complete_blown (s : State) (tag addr n status detail : Nat) (data : List Byte) : (s.complete tag addr n status detail data).blown = s.blown := by
  unfold State.complete; split <;> rfl
@[simp] theorem State.complete_sec (s : State) (tag addr n status detail : Nat) (data : List Byte) : (s.complete tag addr n status detail data).sec = s.sec := by
  unfold State.complete; split <;> rfl
@[simp] theorem State.complete_tsu (s : State) (tag addr n status detail : Nat) (data : List Byte) : (s.complete tag addr n status detail data).tsu = s.tsu := by
  unfold State.complete; split <;> rfl
@[simp] theorem State.complete_links (s : State) (tag addr n status detail : Nat) (data : List Byte) : (s.complete tag addr n status detail data).links = s.links := by
  unfold State.complete; split <;> rfl
@[simp] theorem State.complete_ports (s : State) (tag addr n status detail : Nat) (data : List Byte) : (s.complete tag addr n status detail data).ports = s.ports := by
  unfold State.complete; split <;> rfl
@[simp] theorem State.complete_ledger (s : State) (tag addr n status detail : Nat) (data : List Byte) : (s.complete tag addr n status detail data).ledger = s.ledger := by
  unfold State.complete; split <;> rfl
@[simp] theorem State.complete_cfg (s : State) (tag addr n status detail : Nat) (data : List Byte) : (s.complete tag addr n status detail data).cfg = s.cfg := by
  unfold State.complete; split <;> rfl
@[simp] theorem State.complete_ingests (s : State) (tag addr n status detail : Nat) (data : List Byte) : (s.complete tag addr n status detail data).ingests = s.ingests := by
  unfold State.complete; split <;> rfl
@[simp] theorem State.complete_cams (s : State) (tag addr n status detail : Nat) (data : List Byte) : (s.complete tag addr n status detail data).cams = s.cams := by
  unfold State.complete; split <;> rfl
@[simp] theorem State.complete_streams (s : State) (tag addr n status detail : Nat) (data : List Byte) : (s.complete tag addr n status detail data).streams = s.streams := by
  unfold State.complete; split <;> rfl
@[simp] theorem State.complete_rot (s : State) (tag addr n status detail : Nat) (data : List Byte) : (s.complete tag addr n status detail data).rot = s.rot := by
  unfold State.complete; split <;> rfl
@[simp] theorem State.complete_lats (s : State) (tag addr n status detail : Nat) (data : List Byte) : (s.complete tag addr n status detail data).lats = s.lats := by
  unfold State.complete; split <;> rfl
@[simp] theorem State.complete_pair (s : State) (tag addr n status detail : Nat) (data : List Byte) : (s.complete tag addr n status detail data).pair = s.pair := by
  unfold State.complete; split <;> rfl
@[simp] theorem State.complete_pl (s : State) (tag addr n status detail : Nat) (data : List Byte) : (s.complete tag addr n status detail data).pl = s.pl := by
  unfold State.complete; split <;> rfl
@[simp] theorem State.complete_motions (s : State) (tag addr n status detail : Nat) (data : List Byte) : (s.complete tag addr n status detail data).motions = s.motions := by
  unfold State.complete; split <;> rfl
@[simp] theorem State.complete_bridge (s : State) (tag addr n status detail : Nat) (data : List Byte) : (s.complete tag addr n status detail data).bridge = s.bridge := by
  unfold State.complete; split <;> rfl
@[simp] theorem State.complete_mbx (s : State) (tag addr n status detail : Nat) (data : List Byte) : (s.complete tag addr n status detail data).mbx = s.mbx := by
  unfold State.complete; split <;> rfl
@[simp] theorem State.complete_dma (s : State) (tag addr n status detail : Nat) (data : List Byte) : (s.complete tag addr n status detail data).dma = s.dma := by
  unfold State.complete; split <;> rfl
@[simp] theorem State.complete_cans (s : State) (tag addr n status detail : Nat) (data : List Byte) : (s.complete tag addr n status detail data).cans = s.cans := by
  unfold State.complete; split <;> rfl
@[simp] theorem State.complete_i2c (s : State) (tag addr n status detail : Nat) (data : List Byte) : (s.complete tag addr n status detail data).i2c = s.i2c := by
  unfold State.complete; split <;> rfl
@[simp] theorem State.complete_engs (s : State) (tag addr n status detail : Nat) (data : List Byte) : (s.complete tag addr n status detail data).engs = s.engs := by
  unfold State.complete; split <;> rfl
@[simp] theorem State.complete_progs (s : State) (tag addr n status detail : Nat) (data : List Byte) : (s.complete tag addr n status detail data).progs = s.progs := by
  unfold State.complete; split <;> rfl
@[simp] theorem State.complete_sent (s : State) (tag addr n status detail : Nat) (data : List Byte) : (s.complete tag addr n status detail data).sent = s.sent := by
  unfold State.complete; split <;> rfl
@[simp] theorem State.complete_snaps (s : State) (tag addr n status detail : Nat) (data : List Byte) : (s.complete tag addr n status detail data).snaps = s.snaps := by
  unfold State.complete; split <;> rfl
@[simp] theorem State.complete_readOut (s : State) (tag addr n status detail : Nat) (data : List Byte) : (s.complete tag addr n status detail data).readOut = s.readOut := by
  unfold State.complete; split <;> rfl
@[simp] theorem State.complete_fresh (s : State) (tag addr n status detail : Nat) (data : List Byte) : (s.complete tag addr n status detail data).fresh = s.fresh := by
  unfold State.complete; split <;> rfl
@[simp] theorem State.complete_pending (s : State) (tag addr n status detail : Nat) (data : List Byte) : (s.complete tag addr n status detail data).pending = s.pending := by
  unfold State.complete; split <;> rfl

/-! ## tunnel (R418: a tunnel packet.) -/

@[simp] theorem State.tunnel_mem (s : State) (sid key ttype tstat inst ttag : Nat) (item : List Byte) : (s.tunnel sid key ttype tstat inst ttag item).mem = s.mem := by
  simp only [State.tunnel]; repeat' split
  all_goals rfl
@[simp] theorem State.tunnel_memx (s : State) (sid key ttype tstat inst ttag : Nat) (item : List Byte) : (s.tunnel sid key ttype tstat inst ttag item).memx = s.memx := by
  simp only [State.tunnel]; repeat' split
  all_goals rfl
@[simp] theorem State.tunnel_keeper (s : State) (sid key ttype tstat inst ttag : Nat) (item : List Byte) : (s.tunnel sid key ttype tstat inst ttag item).keeper = s.keeper := by
  simp only [State.tunnel]; repeat' split
  all_goals rfl
@[simp] theorem State.tunnel_intr (s : State) (sid key ttype tstat inst ttag : Nat) (item : List Byte) : (s.tunnel sid key ttype tstat inst ttag item).intr = s.intr := by
  simp only [State.tunnel]; repeat' split
  all_goals rfl
@[simp] theorem State.tunnel_iseq (s : State) (sid key ttype tstat inst ttag : Nat) (item : List Byte) : (s.tunnel sid key ttype tstat inst ttag item).iseq = s.iseq := by
  simp only [State.tunnel]; repeat' split
  all_goals rfl
@[simp] theorem State.tunnel_sys (s : State) (sid key ttype tstat inst ttag : Nat) (item : List Byte) : (s.tunnel sid key ttype tstat inst ttag item).sys = s.sys := by
  simp only [State.tunnel]; repeat' split
  all_goals rfl
@[simp] theorem State.tunnel_fuses (s : State) (sid key ttype tstat inst ttag : Nat) (item : List Byte) : (s.tunnel sid key ttype tstat inst ttag item).fuses = s.fuses := by
  simp only [State.tunnel]; repeat' split
  all_goals rfl
@[simp] theorem State.tunnel_blown (s : State) (sid key ttype tstat inst ttag : Nat) (item : List Byte) : (s.tunnel sid key ttype tstat inst ttag item).blown = s.blown := by
  simp only [State.tunnel]; repeat' split
  all_goals rfl
@[simp] theorem State.tunnel_sec (s : State) (sid key ttype tstat inst ttag : Nat) (item : List Byte) : (s.tunnel sid key ttype tstat inst ttag item).sec = s.sec := by
  simp only [State.tunnel]; repeat' split
  all_goals rfl
@[simp] theorem State.tunnel_tsu (s : State) (sid key ttype tstat inst ttag : Nat) (item : List Byte) : (s.tunnel sid key ttype tstat inst ttag item).tsu = s.tsu := by
  simp only [State.tunnel]; repeat' split
  all_goals rfl
@[simp] theorem State.tunnel_links (s : State) (sid key ttype tstat inst ttag : Nat) (item : List Byte) : (s.tunnel sid key ttype tstat inst ttag item).links = s.links := by
  simp only [State.tunnel]; repeat' split
  all_goals rfl
@[simp] theorem State.tunnel_ports (s : State) (sid key ttype tstat inst ttag : Nat) (item : List Byte) : (s.tunnel sid key ttype tstat inst ttag item).ports = s.ports := by
  simp only [State.tunnel]; repeat' split
  all_goals rfl
@[simp] theorem State.tunnel_ledger (s : State) (sid key ttype tstat inst ttag : Nat) (item : List Byte) : (s.tunnel sid key ttype tstat inst ttag item).ledger = s.ledger := by
  simp only [State.tunnel]; repeat' split
  all_goals rfl
@[simp] theorem State.tunnel_cfg (s : State) (sid key ttype tstat inst ttag : Nat) (item : List Byte) : (s.tunnel sid key ttype tstat inst ttag item).cfg = s.cfg := by
  simp only [State.tunnel]; repeat' split
  all_goals rfl
@[simp] theorem State.tunnel_ingests (s : State) (sid key ttype tstat inst ttag : Nat) (item : List Byte) : (s.tunnel sid key ttype tstat inst ttag item).ingests = s.ingests := by
  simp only [State.tunnel]; repeat' split
  all_goals rfl
@[simp] theorem State.tunnel_cams (s : State) (sid key ttype tstat inst ttag : Nat) (item : List Byte) : (s.tunnel sid key ttype tstat inst ttag item).cams = s.cams := by
  simp only [State.tunnel]; repeat' split
  all_goals rfl
@[simp] theorem State.tunnel_streams (s : State) (sid key ttype tstat inst ttag : Nat) (item : List Byte) : (s.tunnel sid key ttype tstat inst ttag item).streams = s.streams := by
  simp only [State.tunnel]; repeat' split
  all_goals rfl
@[simp] theorem State.tunnel_rot (s : State) (sid key ttype tstat inst ttag : Nat) (item : List Byte) : (s.tunnel sid key ttype tstat inst ttag item).rot = s.rot := by
  simp only [State.tunnel]; repeat' split
  all_goals rfl
@[simp] theorem State.tunnel_lats (s : State) (sid key ttype tstat inst ttag : Nat) (item : List Byte) : (s.tunnel sid key ttype tstat inst ttag item).lats = s.lats := by
  simp only [State.tunnel]; repeat' split
  all_goals rfl
@[simp] theorem State.tunnel_pair (s : State) (sid key ttype tstat inst ttag : Nat) (item : List Byte) : (s.tunnel sid key ttype tstat inst ttag item).pair = s.pair := by
  simp only [State.tunnel]; repeat' split
  all_goals rfl
@[simp] theorem State.tunnel_pl (s : State) (sid key ttype tstat inst ttag : Nat) (item : List Byte) : (s.tunnel sid key ttype tstat inst ttag item).pl = s.pl := by
  simp only [State.tunnel]; repeat' split
  all_goals rfl
@[simp] theorem State.tunnel_motions (s : State) (sid key ttype tstat inst ttag : Nat) (item : List Byte) : (s.tunnel sid key ttype tstat inst ttag item).motions = s.motions := by
  simp only [State.tunnel]; repeat' split
  all_goals rfl
@[simp] theorem State.tunnel_bridge (s : State) (sid key ttype tstat inst ttag : Nat) (item : List Byte) : (s.tunnel sid key ttype tstat inst ttag item).bridge = s.bridge := by
  simp only [State.tunnel]; repeat' split
  all_goals rfl
@[simp] theorem State.tunnel_mbx (s : State) (sid key ttype tstat inst ttag : Nat) (item : List Byte) : (s.tunnel sid key ttype tstat inst ttag item).mbx = s.mbx := by
  simp only [State.tunnel]; repeat' split
  all_goals rfl
@[simp] theorem State.tunnel_dma (s : State) (sid key ttype tstat inst ttag : Nat) (item : List Byte) : (s.tunnel sid key ttype tstat inst ttag item).dma = s.dma := by
  simp only [State.tunnel]; repeat' split
  all_goals rfl
@[simp] theorem State.tunnel_cans (s : State) (sid key ttype tstat inst ttag : Nat) (item : List Byte) : (s.tunnel sid key ttype tstat inst ttag item).cans = s.cans := by
  simp only [State.tunnel]; repeat' split
  all_goals rfl
@[simp] theorem State.tunnel_i2c (s : State) (sid key ttype tstat inst ttag : Nat) (item : List Byte) : (s.tunnel sid key ttype tstat inst ttag item).i2c = s.i2c := by
  simp only [State.tunnel]; repeat' split
  all_goals rfl
@[simp] theorem State.tunnel_engs (s : State) (sid key ttype tstat inst ttag : Nat) (item : List Byte) : (s.tunnel sid key ttype tstat inst ttag item).engs = s.engs := by
  simp only [State.tunnel]; repeat' split
  all_goals rfl
@[simp] theorem State.tunnel_progs (s : State) (sid key ttype tstat inst ttag : Nat) (item : List Byte) : (s.tunnel sid key ttype tstat inst ttag item).progs = s.progs := by
  simp only [State.tunnel]; repeat' split
  all_goals rfl
@[simp] theorem State.tunnel_sent (s : State) (sid key ttype tstat inst ttag : Nat) (item : List Byte) : (s.tunnel sid key ttype tstat inst ttag item).sent = s.sent := by
  simp only [State.tunnel]; repeat' split
  all_goals rfl
@[simp] theorem State.tunnel_snaps (s : State) (sid key ttype tstat inst ttag : Nat) (item : List Byte) : (s.tunnel sid key ttype tstat inst ttag item).snaps = s.snaps := by
  simp only [State.tunnel]; repeat' split
  all_goals rfl
@[simp] theorem State.tunnel_readOut (s : State) (sid key ttype tstat inst ttag : Nat) (item : List Byte) : (s.tunnel sid key ttype tstat inst ttag item).readOut = s.readOut := by
  simp only [State.tunnel]; repeat' split
  all_goals rfl
@[simp] theorem State.tunnel_fresh (s : State) (sid key ttype tstat inst ttag : Nat) (item : List Byte) : (s.tunnel sid key ttype tstat inst ttag item).fresh = s.fresh := by
  simp only [State.tunnel]; repeat' split
  all_goals rfl
@[simp] theorem State.tunnel_pending (s : State) (sid key ttype tstat inst ttag : Nat) (item : List Byte) : (s.tunnel sid key ttype tstat inst ttag item).pending = s.pending := by
  simp only [State.tunnel]; repeat' split
  all_goals rfl

/-! ## The lanes, and packets to the partner (R73, R79, R83, R485) -/

/-- A state that differs from another at most in its links and in what has been sent. -/
def State.LanesOnly (s t : State) : Prop := ∃ ls out, t = { s with links := ls, sent := out }

theorem State.LanesOnly.refl (s : State) : s.LanesOnly s := ⟨s.links, s.sent, rfl⟩

theorem State.LanesOnly.trans {a b c : State} (h : a.LanesOnly b) (k : b.LanesOnly c) : a.LanesOnly c := by
  obtain ⟨l, o, rfl⟩ := h
  obtain ⟨m, q, rfl⟩ := k
  exact ⟨m, q, rfl⟩

theorem State.LanesOnly.foldl {α : Type} {f : State → α → State} (hf : ∀ (s : State) (x : α), s.LanesOnly (f s x)) (l : List α) (s : State) :
    s.LanesOnly (l.foldl f s) := by
  induction l generalizing s with
  | nil => exact .refl s
  | cons x r ih => exact (hf s x).trans (ih (f s x))

/-- What leaves on one lane changes the link's registers of the lane and what has been sent. -/
theorem State.laneSend_lanesOnly (s : State) (l : Link) (k : Nat) (m : Bool) (cs : List Crumb) : s.LanesOnly (s.laneSend l k m cs) :=
  ⟨_, _, rfl⟩

theorem State.sendMarkers_lanesOnly (s : State) (l : Link) (ns : Option Nat) : s.LanesOnly (s.sendMarkers l ns) :=
  (State.LanesOnly.foldl (fun s k => s.laneSend_lanesOnly l k true _) _ s).trans ⟨_, _, rfl⟩

theorem State.toLane_lanesOnly (s : State) (l : Link) (c : Crumb) : s.LanesOnly (s.toLane l c) := by
  unfold State.toLane
  extract_lets act x n m u
  have h : s.LanesOnly u := ⟨_, _, rfl⟩
  split
  · exact h.trans (u.sendMarkers_lanesOnly l none)
  · exact h

/-- The crumbs of a packet on the lanes of a group change the link and what has been sent. -/
theorem State.toLanes_lanesOnly (s : State) (l : Link) (cs : List Crumb) : s.LanesOnly (s.toLanes l cs) := by
  unfold State.toLanes
  split
  · exact .refl s
  · exact .foldl (fun s c => s.toLane_lanesOnly l c) cs s

theorem State.trainOn_lanesOnly (s : State) (l : Link) (lanes : List Nat) (cmd req : Nat) : s.LanesOnly (s.trainOn l lanes cmd req) :=
  (State.LanesOnly.foldl (fun t k => t.laneSend_lanesOnly l k false _) lanes s).trans ⟨_, _, rfl⟩

theorem State.tell_lanesOnly (s : State) (l : Link) (cmd req : Nat) : s.LanesOnly (s.tell l cmd req) := s.trainOn_lanesOnly l _ cmd req

/-- A state that differs from another at most in its links, in the link layer of the peer link and in what has been sent. -/
def State.PeerOnly (s t : State) : Prop := ∃ ls out x, t = { s with links := ls, sent := out, pl := x }

theorem State.PeerOnly.refl (s : State) : s.PeerOnly s := ⟨s.links, s.sent, s.pl, rfl⟩

theorem State.PeerOnly.trans {a b c : State} (h : a.PeerOnly b) (k : b.PeerOnly c) : a.PeerOnly c := by
  obtain ⟨l, o, x, rfl⟩ := h
  obtain ⟨m, q, y, rfl⟩ := k
  exact ⟨m, q, y, rfl⟩

theorem State.setPl_peerOnly (s : State) (x : PeerLl) : s.PeerOnly (s.setPl x) := ⟨_, _, _, rfl⟩

theorem State.peerPut_peerOnly (s : State) (p : Pkt) (n : Nat) : s.PeerOnly (s.peerPut p n) := by
  obtain ⟨l, o, h⟩ := s.toLanes_lanesOnly .peer (p.crumbs n)
  exact ⟨l, o ++ [.peer p.kind p.payload], s.pl, by simp only [State.peerPut, h]⟩

theorem State.peerNew_peerOnly (s : State) (p : Pkt) : s.PeerOnly (s.peerNew p) :=
  (s.setPl_peerOnly _).trans (State.peerPut_peerOnly _ p _)

theorem State.peerPump_peerOnly (s : State) (l h : List Pkt) : s.PeerOnly (s.peerPump l h) := by
  induction l generalizing s h with
  | nil => exact s.setPl_peerOnly _
  | cons p r ih =>
    unfold State.peerPump
    split
    · exact (s.peerNew_peerOnly p).trans (ih _ _)
    · exact ih _ _

/-- A packet to the partner changes the peer link, its link layer and what has been sent. -/
theorem State.peerSend_peerOnly (s : State) (kind : Nat) (cs : List Crumb) : s.PeerOnly (s.peerSend kind cs) := by
  unfold State.peerSend
  split
  · split
    · exact s.peerPut_peerOnly _ _
    · exact .refl s
  · split
    · exact s.peerPump_peerOnly _ _
    · exact .refl s

@[simp] theorem State.peerSend_csr (s : State) (kind : Nat) (cs : List Crumb) : (s.peerSend kind cs).csr = s.csr := by
  obtain ⟨_, _, _, h⟩ := s.peerSend_peerOnly kind cs
  rw [h]
@[simp] theorem State.peerSend_mem (s : State) (kind : Nat) (cs : List Crumb) : (s.peerSend kind cs).mem = s.mem := by
  obtain ⟨_, _, _, h⟩ := s.peerSend_peerOnly kind cs
  rw [h]
@[simp] theorem State.peerSend_memx (s : State) (kind : Nat) (cs : List Crumb) : (s.peerSend kind cs).memx = s.memx := by
  obtain ⟨_, _, _, h⟩ := s.peerSend_peerOnly kind cs
  rw [h]
@[simp] theorem State.peerSend_keeper (s : State) (kind : Nat) (cs : List Crumb) : (s.peerSend kind cs).keeper = s.keeper := by
  obtain ⟨_, _, _, h⟩ := s.peerSend_peerOnly kind cs
  rw [h]
@[simp] theorem State.peerSend_intr (s : State) (kind : Nat) (cs : List Crumb) : (s.peerSend kind cs).intr = s.intr := by
  obtain ⟨_, _, _, h⟩ := s.peerSend_peerOnly kind cs
  rw [h]
@[simp] theorem State.peerSend_iseq (s : State) (kind : Nat) (cs : List Crumb) : (s.peerSend kind cs).iseq = s.iseq := by
  obtain ⟨_, _, _, h⟩ := s.peerSend_peerOnly kind cs
  rw [h]
@[simp] theorem State.peerSend_sys (s : State) (kind : Nat) (cs : List Crumb) : (s.peerSend kind cs).sys = s.sys := by
  obtain ⟨_, _, _, h⟩ := s.peerSend_peerOnly kind cs
  rw [h]
@[simp] theorem State.peerSend_fuses (s : State) (kind : Nat) (cs : List Crumb) : (s.peerSend kind cs).fuses = s.fuses := by
  obtain ⟨_, _, _, h⟩ := s.peerSend_peerOnly kind cs
  rw [h]
@[simp] theorem State.peerSend_blown (s : State) (kind : Nat) (cs : List Crumb) : (s.peerSend kind cs).blown = s.blown := by
  obtain ⟨_, _, _, h⟩ := s.peerSend_peerOnly kind cs
  rw [h]
@[simp] theorem State.peerSend_sec (s : State) (kind : Nat) (cs : List Crumb) : (s.peerSend kind cs).sec = s.sec := by
  obtain ⟨_, _, _, h⟩ := s.peerSend_peerOnly kind cs
  rw [h]
@[simp] theorem State.peerSend_tsu (s : State) (kind : Nat) (cs : List Crumb) : (s.peerSend kind cs).tsu = s.tsu := by
  obtain ⟨_, _, _, h⟩ := s.peerSend_peerOnly kind cs
  rw [h]
@[simp] theorem State.peerSend_ports (s : State) (kind : Nat) (cs : List Crumb) : (s.peerSend kind cs).ports = s.ports := by
  obtain ⟨_, _, _, h⟩ := s.peerSend_peerOnly kind cs
  rw [h]
@[simp] theorem State.peerSend_ledger (s : State) (kind : Nat) (cs : List Crumb) : (s.peerSend kind cs).ledger = s.ledger := by
  obtain ⟨_, _, _, h⟩ := s.peerSend_peerOnly kind cs
  rw [h]
@[simp] theorem State.peerSend_cfg (s : State) (kind : Nat) (cs : List Crumb) : (s.peerSend kind cs).cfg = s.cfg := by
  obtain ⟨_, _, _, h⟩ := s.peerSend_peerOnly kind cs
  rw [h]
@[simp] theorem State.peerSend_ingests (s : State) (kind : Nat) (cs : List Crumb) : (s.peerSend kind cs).ingests = s.ingests := by
  obtain ⟨_, _, _, h⟩ := s.peerSend_peerOnly kind cs
  rw [h]
@[simp] theorem State.peerSend_cams (s : State) (kind : Nat) (cs : List Crumb) : (s.peerSend kind cs).cams = s.cams := by
  obtain ⟨_, _, _, h⟩ := s.peerSend_peerOnly kind cs
  rw [h]
@[simp] theorem State.peerSend_streams (s : State) (kind : Nat) (cs : List Crumb) : (s.peerSend kind cs).streams = s.streams := by
  obtain ⟨_, _, _, h⟩ := s.peerSend_peerOnly kind cs
  rw [h]
@[simp] theorem State.peerSend_rot (s : State) (kind : Nat) (cs : List Crumb) : (s.peerSend kind cs).rot = s.rot := by
  obtain ⟨_, _, _, h⟩ := s.peerSend_peerOnly kind cs
  rw [h]
@[simp] theorem State.peerSend_lats (s : State) (kind : Nat) (cs : List Crumb) : (s.peerSend kind cs).lats = s.lats := by
  obtain ⟨_, _, _, h⟩ := s.peerSend_peerOnly kind cs
  rw [h]
@[simp] theorem State.peerSend_pair (s : State) (kind : Nat) (cs : List Crumb) : (s.peerSend kind cs).pair = s.pair := by
  obtain ⟨_, _, _, h⟩ := s.peerSend_peerOnly kind cs
  rw [h]
@[simp] theorem State.peerSend_motions (s : State) (kind : Nat) (cs : List Crumb) : (s.peerSend kind cs).motions = s.motions := by
  obtain ⟨_, _, _, h⟩ := s.peerSend_peerOnly kind cs
  rw [h]
@[simp] theorem State.peerSend_upl (s : State) (kind : Nat) (cs : List Crumb) : (s.peerSend kind cs).upl = s.upl := by
  obtain ⟨_, _, _, h⟩ := s.peerSend_peerOnly kind cs
  rw [h]
@[simp] theorem State.peerSend_bridge (s : State) (kind : Nat) (cs : List Crumb) : (s.peerSend kind cs).bridge = s.bridge := by
  obtain ⟨_, _, _, h⟩ := s.peerSend_peerOnly kind cs
  rw [h]
@[simp] theorem State.peerSend_mbx (s : State) (kind : Nat) (cs : List Crumb) : (s.peerSend kind cs).mbx = s.mbx := by
  obtain ⟨_, _, _, h⟩ := s.peerSend_peerOnly kind cs
  rw [h]
@[simp] theorem State.peerSend_dma (s : State) (kind : Nat) (cs : List Crumb) : (s.peerSend kind cs).dma = s.dma := by
  obtain ⟨_, _, _, h⟩ := s.peerSend_peerOnly kind cs
  rw [h]
@[simp] theorem State.peerSend_cans (s : State) (kind : Nat) (cs : List Crumb) : (s.peerSend kind cs).cans = s.cans := by
  obtain ⟨_, _, _, h⟩ := s.peerSend_peerOnly kind cs
  rw [h]
@[simp] theorem State.peerSend_i2c (s : State) (kind : Nat) (cs : List Crumb) : (s.peerSend kind cs).i2c = s.i2c := by
  obtain ⟨_, _, _, h⟩ := s.peerSend_peerOnly kind cs
  rw [h]
@[simp] theorem State.peerSend_engs (s : State) (kind : Nat) (cs : List Crumb) : (s.peerSend kind cs).engs = s.engs := by
  obtain ⟨_, _, _, h⟩ := s.peerSend_peerOnly kind cs
  rw [h]
@[simp] theorem State.peerSend_progs (s : State) (kind : Nat) (cs : List Crumb) : (s.peerSend kind cs).progs = s.progs := by
  obtain ⟨_, _, _, h⟩ := s.peerSend_peerOnly kind cs
  rw [h]
@[simp] theorem State.peerSend_snaps (s : State) (kind : Nat) (cs : List Crumb) : (s.peerSend kind cs).snaps = s.snaps := by
  obtain ⟨_, _, _, h⟩ := s.peerSend_peerOnly kind cs
  rw [h]
@[simp] theorem State.peerSend_readOut (s : State) (kind : Nat) (cs : List Crumb) : (s.peerSend kind cs).readOut = s.readOut := by
  obtain ⟨_, _, _, h⟩ := s.peerSend_peerOnly kind cs
  rw [h]
@[simp] theorem State.peerSend_fresh (s : State) (kind : Nat) (cs : List Crumb) : (s.peerSend kind cs).fresh = s.fresh := by
  obtain ⟨_, _, _, h⟩ := s.peerSend_peerOnly kind cs
  rw [h]
@[simp] theorem State.peerSend_pending (s : State) (kind : Nat) (cs : List Crumb) : (s.peerSend kind cs).pending = s.pending := by
  obtain ⟨_, _, _, h⟩ := s.peerSend_peerOnly kind cs
  rw [h]

/-! ## dropReq (A command that owes no response any more.) -/

@[simp] theorem State.dropReq_csr (s : State) (r : Req) : (s.dropReq r).csr = s.csr :=
  rfl
@[simp] theorem State.dropReq_mem (s : State) (r : Req) : (s.dropReq r).mem = s.mem :=
  rfl
@[simp] theorem State.dropReq_memx (s : State) (r : Req) : (s.dropReq r).memx = s.memx :=
  rfl
@[simp] theorem State.dropReq_keeper (s : State) (r : Req) : (s.dropReq r).keeper = s.keeper :=
  rfl
@[simp] theorem State.dropReq_intr (s : State) (r : Req) : (s.dropReq r).intr = s.intr :=
  rfl
@[simp] theorem State.dropReq_iseq (s : State) (r : Req) : (s.dropReq r).iseq = s.iseq :=
  rfl
@[simp] theorem State.dropReq_sys (s : State) (r : Req) : (s.dropReq r).sys = s.sys :=
  rfl
@[simp] theorem State.dropReq_fuses (s : State) (r : Req) : (s.dropReq r).fuses = s.fuses :=
  rfl
@[simp] theorem State.dropReq_blown (s : State) (r : Req) : (s.dropReq r).blown = s.blown :=
  rfl
@[simp] theorem State.dropReq_sec (s : State) (r : Req) : (s.dropReq r).sec = s.sec :=
  rfl
@[simp] theorem State.dropReq_tsu (s : State) (r : Req) : (s.dropReq r).tsu = s.tsu :=
  rfl
@[simp] theorem State.dropReq_links (s : State) (r : Req) : (s.dropReq r).links = s.links :=
  rfl
@[simp] theorem State.dropReq_ports (s : State) (r : Req) : (s.dropReq r).ports = s.ports :=
  rfl
@[simp] theorem State.dropReq_ledger (s : State) (r : Req) : (s.dropReq r).ledger = s.ledger :=
  rfl
@[simp] theorem State.dropReq_cfg (s : State) (r : Req) : (s.dropReq r).cfg = s.cfg :=
  rfl
@[simp] theorem State.dropReq_ingests (s : State) (r : Req) : (s.dropReq r).ingests = s.ingests :=
  rfl
@[simp] theorem State.dropReq_cams (s : State) (r : Req) : (s.dropReq r).cams = s.cams :=
  rfl
@[simp] theorem State.dropReq_streams (s : State) (r : Req) : (s.dropReq r).streams = s.streams :=
  rfl
@[simp] theorem State.dropReq_rot (s : State) (r : Req) : (s.dropReq r).rot = s.rot :=
  rfl
@[simp] theorem State.dropReq_lats (s : State) (r : Req) : (s.dropReq r).lats = s.lats :=
  rfl
@[simp] theorem State.dropReq_pair (s : State) (r : Req) : (s.dropReq r).pair = s.pair :=
  rfl
@[simp] theorem State.dropReq_pl (s : State) (r : Req) : (s.dropReq r).pl = s.pl :=
  rfl
@[simp] theorem State.dropReq_motions (s : State) (r : Req) : (s.dropReq r).motions = s.motions :=
  rfl
@[simp] theorem State.dropReq_upl (s : State) (r : Req) : (s.dropReq r).upl = s.upl :=
  rfl
@[simp] theorem State.dropReq_bridge (s : State) (r : Req) : (s.dropReq r).bridge = s.bridge :=
  rfl
@[simp] theorem State.dropReq_dma (s : State) (r : Req) : (s.dropReq r).dma = s.dma :=
  rfl
@[simp] theorem State.dropReq_cans (s : State) (r : Req) : (s.dropReq r).cans = s.cans :=
  rfl
@[simp] theorem State.dropReq_i2c (s : State) (r : Req) : (s.dropReq r).i2c = s.i2c :=
  rfl
@[simp] theorem State.dropReq_engs (s : State) (r : Req) : (s.dropReq r).engs = s.engs :=
  rfl
@[simp] theorem State.dropReq_progs (s : State) (r : Req) : (s.dropReq r).progs = s.progs :=
  rfl
@[simp] theorem State.dropReq_sent (s : State) (r : Req) : (s.dropReq r).sent = s.sent :=
  rfl
@[simp] theorem State.dropReq_snaps (s : State) (r : Req) : (s.dropReq r).snaps = s.snaps :=
  rfl
@[simp] theorem State.dropReq_readOut (s : State) (r : Req) : (s.dropReq r).readOut = s.readOut :=
  rfl
@[simp] theorem State.dropReq_fresh (s : State) (r : Req) : (s.dropReq r).fresh = s.fresh :=
  rfl
@[simp] theorem State.dropReq_pending (s : State) (r : Req) : (s.dropReq r).pending = s.pending :=
  rfl

/-! ## chState (R457: the state of a channel.) -/

@[simp] theorem State.chState_mem (s : State) (ch : Nat) : (s.chState ch).mem = s.mem := by
  simp only [State.chState]; split <;> rfl
@[simp] theorem State.chState_memx (s : State) (ch : Nat) : (s.chState ch).memx = s.memx := by
  simp only [State.chState]; split <;> rfl
@[simp] theorem State.chState_keeper (s : State) (ch : Nat) : (s.chState ch).keeper = s.keeper := by
  simp only [State.chState]; split <;> rfl
@[simp] theorem State.chState_intr (s : State) (ch : Nat) : (s.chState ch).intr = s.intr := by
  simp only [State.chState]; split <;> rfl
@[simp] theorem State.chState_iseq (s : State) (ch : Nat) : (s.chState ch).iseq = s.iseq := by
  simp only [State.chState]; split <;> rfl
@[simp] theorem State.chState_sys (s : State) (ch : Nat) : (s.chState ch).sys = s.sys := by
  simp only [State.chState]; split <;> rfl
@[simp] theorem State.chState_fuses (s : State) (ch : Nat) : (s.chState ch).fuses = s.fuses := by
  simp only [State.chState]; split <;> rfl
@[simp] theorem State.chState_blown (s : State) (ch : Nat) : (s.chState ch).blown = s.blown := by
  simp only [State.chState]; split <;> rfl
@[simp] theorem State.chState_sec (s : State) (ch : Nat) : (s.chState ch).sec = s.sec := by
  simp only [State.chState]; split <;> rfl
@[simp] theorem State.chState_tsu (s : State) (ch : Nat) : (s.chState ch).tsu = s.tsu := by
  simp only [State.chState]; split <;> rfl
@[simp] theorem State.chState_links (s : State) (ch : Nat) : (s.chState ch).links = s.links := by
  simp only [State.chState]; split <;> rfl
@[simp] theorem State.chState_ports (s : State) (ch : Nat) : (s.chState ch).ports = s.ports := by
  simp only [State.chState]; split <;> rfl
@[simp] theorem State.chState_ledger (s : State) (ch : Nat) : (s.chState ch).ledger = s.ledger := by
  simp only [State.chState]; split <;> rfl
@[simp] theorem State.chState_cfg (s : State) (ch : Nat) : (s.chState ch).cfg = s.cfg := by
  simp only [State.chState]; split <;> rfl
@[simp] theorem State.chState_ingests (s : State) (ch : Nat) : (s.chState ch).ingests = s.ingests := by
  simp only [State.chState]; split <;> rfl
@[simp] theorem State.chState_cams (s : State) (ch : Nat) : (s.chState ch).cams = s.cams := by
  simp only [State.chState]; split <;> rfl
@[simp] theorem State.chState_streams (s : State) (ch : Nat) : (s.chState ch).streams = s.streams := by
  simp only [State.chState]; split <;> rfl
@[simp] theorem State.chState_rot (s : State) (ch : Nat) : (s.chState ch).rot = s.rot := by
  simp only [State.chState]; split <;> rfl
@[simp] theorem State.chState_lats (s : State) (ch : Nat) : (s.chState ch).lats = s.lats := by
  simp only [State.chState]; split <;> rfl
@[simp] theorem State.chState_pair (s : State) (ch : Nat) : (s.chState ch).pair = s.pair := by
  simp only [State.chState]; split <;> rfl
@[simp] theorem State.chState_pl (s : State) (ch : Nat) : (s.chState ch).pl = s.pl := by
  simp only [State.chState]; split <;> rfl
@[simp] theorem State.chState_motions (s : State) (ch : Nat) : (s.chState ch).motions = s.motions := by
  simp only [State.chState]; split <;> rfl
@[simp] theorem State.chState_upl (s : State) (ch : Nat) : (s.chState ch).upl = s.upl := by
  simp only [State.chState]; split <;> rfl
@[simp] theorem State.chState_bridge (s : State) (ch : Nat) : (s.chState ch).bridge = s.bridge := by
  simp only [State.chState]; split <;> rfl
@[simp] theorem State.chState_mbx (s : State) (ch : Nat) : (s.chState ch).mbx = s.mbx := by
  simp only [State.chState]; split <;> rfl
@[simp] theorem State.chState_dma (s : State) (ch : Nat) : (s.chState ch).dma = s.dma := by
  simp only [State.chState]; split <;> rfl
@[simp] theorem State.chState_cans (s : State) (ch : Nat) : (s.chState ch).cans = s.cans := by
  simp only [State.chState]; split <;> rfl
@[simp] theorem State.chState_i2c (s : State) (ch : Nat) : (s.chState ch).i2c = s.i2c := by
  simp only [State.chState]; split <;> rfl
@[simp] theorem State.chState_engs (s : State) (ch : Nat) : (s.chState ch).engs = s.engs := by
  simp only [State.chState]; split <;> rfl
@[simp] theorem State.chState_progs (s : State) (ch : Nat) : (s.chState ch).progs = s.progs := by
  simp only [State.chState]; split <;> rfl
@[simp] theorem State.chState_sent (s : State) (ch : Nat) : (s.chState ch).sent = s.sent := by
  simp only [State.chState]; split <;> rfl
@[simp] theorem State.chState_snaps (s : State) (ch : Nat) : (s.chState ch).snaps = s.snaps := by
  simp only [State.chState]; split <;> rfl
@[simp] theorem State.chState_readOut (s : State) (ch : Nat) : (s.chState ch).readOut = s.readOut := by
  simp only [State.chState]; split <;> rfl
@[simp] theorem State.chState_fresh (s : State) (ch : Nat) : (s.chState ch).fresh = s.fresh := by
  simp only [State.chState]; split <;> rfl
@[simp] theorem State.chState_pending (s : State) (ch : Nat) : (s.chState ch).pending = s.pending := by
  simp only [State.chState]; split <;> rfl

/-! ## putResponse (R433, R436: a response written.) -/

@[simp] theorem State.putResponse_keeper (s : State) (r : Req) (fin : Bool) (status detail : Nat) (result : List Byte) : (s.putResponse r fin status detail result).keeper = s.keeper := by
  simp only [State.putResponse, State.mbxIntr]; repeat' split
  all_goals first | rfl | simp
@[simp] theorem State.putResponse_iseq (s : State) (r : Req) (fin : Bool) (status detail : Nat) (result : List Byte) : (s.putResponse r fin status detail result).iseq = s.iseq := by
  simp only [State.putResponse, State.mbxIntr]; repeat' split
  all_goals first | rfl | simp
@[simp] theorem State.putResponse_sys (s : State) (r : Req) (fin : Bool) (status detail : Nat) (result : List Byte) : (s.putResponse r fin status detail result).sys = s.sys := by
  simp only [State.putResponse, State.mbxIntr]; repeat' split
  all_goals first | rfl | simp
@[simp] theorem State.putResponse_fuses (s : State) (r : Req) (fin : Bool) (status detail : Nat) (result : List Byte) : (s.putResponse r fin status detail result).fuses = s.fuses := by
  simp only [State.putResponse, State.mbxIntr]; repeat' split
  all_goals first | rfl | simp
@[simp] theorem State.putResponse_blown (s : State) (r : Req) (fin : Bool) (status detail : Nat) (result : List Byte) : (s.putResponse r fin status detail result).blown = s.blown := by
  simp only [State.putResponse, State.mbxIntr]; repeat' split
  all_goals first | rfl | simp
@[simp] theorem State.putResponse_sec (s : State) (r : Req) (fin : Bool) (status detail : Nat) (result : List Byte) : (s.putResponse r fin status detail result).sec = s.sec := by
  simp only [State.putResponse, State.mbxIntr]; repeat' split
  all_goals first | rfl | simp
@[simp] theorem State.putResponse_tsu (s : State) (r : Req) (fin : Bool) (status detail : Nat) (result : List Byte) : (s.putResponse r fin status detail result).tsu = s.tsu := by
  simp only [State.putResponse, State.mbxIntr]; repeat' split
  all_goals first | rfl | simp
@[simp] theorem State.putResponse_links (s : State) (r : Req) (fin : Bool) (status detail : Nat) (result : List Byte) : (s.putResponse r fin status detail result).links = s.links := by
  simp only [State.putResponse, State.mbxIntr]; repeat' split
  all_goals first | rfl | simp
@[simp] theorem State.putResponse_ports (s : State) (r : Req) (fin : Bool) (status detail : Nat) (result : List Byte) : (s.putResponse r fin status detail result).ports = s.ports := by
  simp only [State.putResponse, State.mbxIntr]; repeat' split
  all_goals first | rfl | simp
@[simp] theorem State.putResponse_ledger (s : State) (r : Req) (fin : Bool) (status detail : Nat) (result : List Byte) : (s.putResponse r fin status detail result).ledger = s.ledger := by
  simp only [State.putResponse, State.mbxIntr]; repeat' split
  all_goals first | rfl | simp
@[simp] theorem State.putResponse_cfg (s : State) (r : Req) (fin : Bool) (status detail : Nat) (result : List Byte) : (s.putResponse r fin status detail result).cfg = s.cfg := by
  simp only [State.putResponse, State.mbxIntr]; repeat' split
  all_goals first | rfl | simp
@[simp] theorem State.putResponse_ingests (s : State) (r : Req) (fin : Bool) (status detail : Nat) (result : List Byte) : (s.putResponse r fin status detail result).ingests = s.ingests := by
  simp only [State.putResponse, State.mbxIntr]; repeat' split
  all_goals first | rfl | simp
@[simp] theorem State.putResponse_cams (s : State) (r : Req) (fin : Bool) (status detail : Nat) (result : List Byte) : (s.putResponse r fin status detail result).cams = s.cams := by
  simp only [State.putResponse, State.mbxIntr]; repeat' split
  all_goals first | rfl | simp
@[simp] theorem State.putResponse_streams (s : State) (r : Req) (fin : Bool) (status detail : Nat) (result : List Byte) : (s.putResponse r fin status detail result).streams = s.streams := by
  simp only [State.putResponse, State.mbxIntr]; repeat' split
  all_goals first | rfl | simp
@[simp] theorem State.putResponse_rot (s : State) (r : Req) (fin : Bool) (status detail : Nat) (result : List Byte) : (s.putResponse r fin status detail result).rot = s.rot := by
  simp only [State.putResponse, State.mbxIntr]; repeat' split
  all_goals first | rfl | simp
@[simp] theorem State.putResponse_lats (s : State) (r : Req) (fin : Bool) (status detail : Nat) (result : List Byte) : (s.putResponse r fin status detail result).lats = s.lats := by
  simp only [State.putResponse, State.mbxIntr]; repeat' split
  all_goals first | rfl | simp
@[simp] theorem State.putResponse_pair (s : State) (r : Req) (fin : Bool) (status detail : Nat) (result : List Byte) : (s.putResponse r fin status detail result).pair = s.pair := by
  simp only [State.putResponse, State.mbxIntr]; repeat' split
  all_goals first | rfl | simp
@[simp] theorem State.putResponse_pl (s : State) (r : Req) (fin : Bool) (status detail : Nat) (result : List Byte) : (s.putResponse r fin status detail result).pl = s.pl := by
  simp only [State.putResponse, State.mbxIntr]; repeat' split
  all_goals first | rfl | simp
@[simp] theorem State.putResponse_motions (s : State) (r : Req) (fin : Bool) (status detail : Nat) (result : List Byte) : (s.putResponse r fin status detail result).motions = s.motions := by
  simp only [State.putResponse, State.mbxIntr]; repeat' split
  all_goals first | rfl | simp
@[simp] theorem State.putResponse_upl (s : State) (r : Req) (fin : Bool) (status detail : Nat) (result : List Byte) : (s.putResponse r fin status detail result).upl = s.upl := by
  simp only [State.putResponse, State.mbxIntr]; repeat' split
  all_goals first | rfl | simp
@[simp] theorem State.putResponse_bridge (s : State) (r : Req) (fin : Bool) (status detail : Nat) (result : List Byte) : (s.putResponse r fin status detail result).bridge = s.bridge := by
  simp only [State.putResponse, State.mbxIntr]; repeat' split
  all_goals first | rfl | simp
@[simp] theorem State.putResponse_mbx (s : State) (r : Req) (fin : Bool) (status detail : Nat) (result : List Byte) : (s.putResponse r fin status detail result).mbx = s.mbx := by
  simp only [State.putResponse, State.mbxIntr]; repeat' split
  all_goals first | rfl | simp
@[simp] theorem State.putResponse_dma (s : State) (r : Req) (fin : Bool) (status detail : Nat) (result : List Byte) : (s.putResponse r fin status detail result).dma = s.dma := by
  simp only [State.putResponse, State.mbxIntr]; repeat' split
  all_goals first | rfl | simp
@[simp] theorem State.putResponse_cans (s : State) (r : Req) (fin : Bool) (status detail : Nat) (result : List Byte) : (s.putResponse r fin status detail result).cans = s.cans := by
  simp only [State.putResponse, State.mbxIntr]; repeat' split
  all_goals first | rfl | simp
@[simp] theorem State.putResponse_i2c (s : State) (r : Req) (fin : Bool) (status detail : Nat) (result : List Byte) : (s.putResponse r fin status detail result).i2c = s.i2c := by
  simp only [State.putResponse, State.mbxIntr]; repeat' split
  all_goals first | rfl | simp
@[simp] theorem State.putResponse_engs (s : State) (r : Req) (fin : Bool) (status detail : Nat) (result : List Byte) : (s.putResponse r fin status detail result).engs = s.engs := by
  simp only [State.putResponse, State.mbxIntr]; repeat' split
  all_goals first | rfl | simp
@[simp] theorem State.putResponse_progs (s : State) (r : Req) (fin : Bool) (status detail : Nat) (result : List Byte) : (s.putResponse r fin status detail result).progs = s.progs := by
  simp only [State.putResponse, State.mbxIntr]; repeat' split
  all_goals first | rfl | simp
@[simp] theorem State.putResponse_sent (s : State) (r : Req) (fin : Bool) (status detail : Nat) (result : List Byte) : (s.putResponse r fin status detail result).sent = s.sent := by
  simp only [State.putResponse, State.mbxIntr]; repeat' split
  all_goals first | rfl | simp
@[simp] theorem State.putResponse_snaps (s : State) (r : Req) (fin : Bool) (status detail : Nat) (result : List Byte) : (s.putResponse r fin status detail result).snaps = s.snaps := by
  simp only [State.putResponse, State.mbxIntr]; repeat' split
  all_goals first | rfl | simp
@[simp] theorem State.putResponse_readOut (s : State) (r : Req) (fin : Bool) (status detail : Nat) (result : List Byte) : (s.putResponse r fin status detail result).readOut = s.readOut := by
  simp only [State.putResponse, State.mbxIntr]; repeat' split
  all_goals first | rfl | simp
@[simp] theorem State.putResponse_fresh (s : State) (r : Req) (fin : Bool) (status detail : Nat) (result : List Byte) : (s.putResponse r fin status detail result).fresh = s.fresh := by
  simp only [State.putResponse, State.mbxIntr]; repeat' split
  all_goals first | rfl | simp
@[simp] theorem State.putResponse_pending (s : State) (r : Req) (fin : Bool) (status detail : Nat) (result : List Byte) : (s.putResponse r fin status detail result).pending = s.pending := by
  simp only [State.putResponse, State.mbxIntr]; repeat' split
  all_goals first | rfl | simp

/-! ## final (R436: the final response.) -/

@[simp] theorem State.final_keeper (s : State) (r : Req) (status detail : Nat) (result : List Byte) : (s.final r status detail result).keeper = s.keeper := by
  simp [State.final]
@[simp] theorem State.final_iseq (s : State) (r : Req) (status detail : Nat) (result : List Byte) : (s.final r status detail result).iseq = s.iseq := by
  simp [State.final]
@[simp] theorem State.final_sys (s : State) (r : Req) (status detail : Nat) (result : List Byte) : (s.final r status detail result).sys = s.sys := by
  simp [State.final]
@[simp] theorem State.final_fuses (s : State) (r : Req) (status detail : Nat) (result : List Byte) : (s.final r status detail result).fuses = s.fuses := by
  simp [State.final]
@[simp] theorem State.final_blown (s : State) (r : Req) (status detail : Nat) (result : List Byte) : (s.final r status detail result).blown = s.blown := by
  simp [State.final]
@[simp] theorem State.final_sec (s : State) (r : Req) (status detail : Nat) (result : List Byte) : (s.final r status detail result).sec = s.sec := by
  simp [State.final]
@[simp] theorem State.final_tsu (s : State) (r : Req) (status detail : Nat) (result : List Byte) : (s.final r status detail result).tsu = s.tsu := by
  simp [State.final]
@[simp] theorem State.final_links (s : State) (r : Req) (status detail : Nat) (result : List Byte) : (s.final r status detail result).links = s.links := by
  simp [State.final]
@[simp] theorem State.final_ports (s : State) (r : Req) (status detail : Nat) (result : List Byte) : (s.final r status detail result).ports = s.ports := by
  simp [State.final]
@[simp] theorem State.final_ledger (s : State) (r : Req) (status detail : Nat) (result : List Byte) : (s.final r status detail result).ledger = s.ledger := by
  simp [State.final]
@[simp] theorem State.final_cfg (s : State) (r : Req) (status detail : Nat) (result : List Byte) : (s.final r status detail result).cfg = s.cfg := by
  simp [State.final]
@[simp] theorem State.final_ingests (s : State) (r : Req) (status detail : Nat) (result : List Byte) : (s.final r status detail result).ingests = s.ingests := by
  simp [State.final]
@[simp] theorem State.final_cams (s : State) (r : Req) (status detail : Nat) (result : List Byte) : (s.final r status detail result).cams = s.cams := by
  simp [State.final]
@[simp] theorem State.final_streams (s : State) (r : Req) (status detail : Nat) (result : List Byte) : (s.final r status detail result).streams = s.streams := by
  simp [State.final]
@[simp] theorem State.final_rot (s : State) (r : Req) (status detail : Nat) (result : List Byte) : (s.final r status detail result).rot = s.rot := by
  simp [State.final]
@[simp] theorem State.final_lats (s : State) (r : Req) (status detail : Nat) (result : List Byte) : (s.final r status detail result).lats = s.lats := by
  simp [State.final]
@[simp] theorem State.final_pair (s : State) (r : Req) (status detail : Nat) (result : List Byte) : (s.final r status detail result).pair = s.pair := by
  simp [State.final]
@[simp] theorem State.final_pl (s : State) (r : Req) (status detail : Nat) (result : List Byte) : (s.final r status detail result).pl = s.pl := by
  simp [State.final]
@[simp] theorem State.final_motions (s : State) (r : Req) (status detail : Nat) (result : List Byte) : (s.final r status detail result).motions = s.motions := by
  simp [State.final]
@[simp] theorem State.final_upl (s : State) (r : Req) (status detail : Nat) (result : List Byte) : (s.final r status detail result).upl = s.upl := by
  simp [State.final]
@[simp] theorem State.final_bridge (s : State) (r : Req) (status detail : Nat) (result : List Byte) : (s.final r status detail result).bridge = s.bridge := by
  simp [State.final]
@[simp] theorem State.final_dma (s : State) (r : Req) (status detail : Nat) (result : List Byte) : (s.final r status detail result).dma = s.dma := by
  simp [State.final]
@[simp] theorem State.final_cans (s : State) (r : Req) (status detail : Nat) (result : List Byte) : (s.final r status detail result).cans = s.cans := by
  simp [State.final]
@[simp] theorem State.final_i2c (s : State) (r : Req) (status detail : Nat) (result : List Byte) : (s.final r status detail result).i2c = s.i2c := by
  simp [State.final]
@[simp] theorem State.final_engs (s : State) (r : Req) (status detail : Nat) (result : List Byte) : (s.final r status detail result).engs = s.engs := by
  simp [State.final]
@[simp] theorem State.final_progs (s : State) (r : Req) (status detail : Nat) (result : List Byte) : (s.final r status detail result).progs = s.progs := by
  simp [State.final]
@[simp] theorem State.final_sent (s : State) (r : Req) (status detail : Nat) (result : List Byte) : (s.final r status detail result).sent = s.sent := by
  simp [State.final]
@[simp] theorem State.final_snaps (s : State) (r : Req) (status detail : Nat) (result : List Byte) : (s.final r status detail result).snaps = s.snaps := by
  simp [State.final]
@[simp] theorem State.final_readOut (s : State) (r : Req) (status detail : Nat) (result : List Byte) : (s.final r status detail result).readOut = s.readOut := by
  simp [State.final]
@[simp] theorem State.final_fresh (s : State) (r : Req) (status detail : Nat) (result : List Byte) : (s.final r status detail result).fresh = s.fresh := by
  simp [State.final]
@[simp] theorem State.final_pending (s : State) (r : Req) (status detail : Nat) (result : List Byte) : (s.final r status detail result).pending = s.pending := by
  simp [State.final]

/-! ## interim (R436: the interim response.) -/

@[simp] theorem State.interim_keeper (s : State) (r : Req) (result : List Byte) : (s.interim r result).keeper = s.keeper := by
  simp only [State.interim]; split <;> simp
@[simp] theorem State.interim_iseq (s : State) (r : Req) (result : List Byte) : (s.interim r result).iseq = s.iseq := by
  simp only [State.interim]; split <;> simp
@[simp] theorem State.interim_sys (s : State) (r : Req) (result : List Byte) : (s.interim r result).sys = s.sys := by
  simp only [State.interim]; split <;> simp
@[simp] theorem State.interim_fuses (s : State) (r : Req) (result : List Byte) : (s.interim r result).fuses = s.fuses := by
  simp only [State.interim]; split <;> simp
@[simp] theorem State.interim_blown (s : State) (r : Req) (result : List Byte) : (s.interim r result).blown = s.blown := by
  simp only [State.interim]; split <;> simp
@[simp] theorem State.interim_sec (s : State) (r : Req) (result : List Byte) : (s.interim r result).sec = s.sec := by
  simp only [State.interim]; split <;> simp
@[simp] theorem State.interim_tsu (s : State) (r : Req) (result : List Byte) : (s.interim r result).tsu = s.tsu := by
  simp only [State.interim]; split <;> simp
@[simp] theorem State.interim_links (s : State) (r : Req) (result : List Byte) : (s.interim r result).links = s.links := by
  simp only [State.interim]; split <;> simp
@[simp] theorem State.interim_ports (s : State) (r : Req) (result : List Byte) : (s.interim r result).ports = s.ports := by
  simp only [State.interim]; split <;> simp
@[simp] theorem State.interim_ledger (s : State) (r : Req) (result : List Byte) : (s.interim r result).ledger = s.ledger := by
  simp only [State.interim]; split <;> simp
@[simp] theorem State.interim_cfg (s : State) (r : Req) (result : List Byte) : (s.interim r result).cfg = s.cfg := by
  simp only [State.interim]; split <;> simp
@[simp] theorem State.interim_ingests (s : State) (r : Req) (result : List Byte) : (s.interim r result).ingests = s.ingests := by
  simp only [State.interim]; split <;> simp
@[simp] theorem State.interim_cams (s : State) (r : Req) (result : List Byte) : (s.interim r result).cams = s.cams := by
  simp only [State.interim]; split <;> simp
@[simp] theorem State.interim_streams (s : State) (r : Req) (result : List Byte) : (s.interim r result).streams = s.streams := by
  simp only [State.interim]; split <;> simp
@[simp] theorem State.interim_rot (s : State) (r : Req) (result : List Byte) : (s.interim r result).rot = s.rot := by
  simp only [State.interim]; split <;> simp
@[simp] theorem State.interim_lats (s : State) (r : Req) (result : List Byte) : (s.interim r result).lats = s.lats := by
  simp only [State.interim]; split <;> simp
@[simp] theorem State.interim_pair (s : State) (r : Req) (result : List Byte) : (s.interim r result).pair = s.pair := by
  simp only [State.interim]; split <;> simp
@[simp] theorem State.interim_pl (s : State) (r : Req) (result : List Byte) : (s.interim r result).pl = s.pl := by
  simp only [State.interim]; split <;> simp
@[simp] theorem State.interim_motions (s : State) (r : Req) (result : List Byte) : (s.interim r result).motions = s.motions := by
  simp only [State.interim]; split <;> simp
@[simp] theorem State.interim_upl (s : State) (r : Req) (result : List Byte) : (s.interim r result).upl = s.upl := by
  simp only [State.interim]; split <;> simp
@[simp] theorem State.interim_bridge (s : State) (r : Req) (result : List Byte) : (s.interim r result).bridge = s.bridge := by
  simp only [State.interim]; split <;> simp
@[simp] theorem State.interim_dma (s : State) (r : Req) (result : List Byte) : (s.interim r result).dma = s.dma := by
  simp only [State.interim]; split <;> simp
@[simp] theorem State.interim_cans (s : State) (r : Req) (result : List Byte) : (s.interim r result).cans = s.cans := by
  simp only [State.interim]; split <;> simp
@[simp] theorem State.interim_i2c (s : State) (r : Req) (result : List Byte) : (s.interim r result).i2c = s.i2c := by
  simp only [State.interim]; split <;> simp
@[simp] theorem State.interim_engs (s : State) (r : Req) (result : List Byte) : (s.interim r result).engs = s.engs := by
  simp only [State.interim]; split <;> simp
@[simp] theorem State.interim_progs (s : State) (r : Req) (result : List Byte) : (s.interim r result).progs = s.progs := by
  simp only [State.interim]; split <;> simp
@[simp] theorem State.interim_sent (s : State) (r : Req) (result : List Byte) : (s.interim r result).sent = s.sent := by
  simp only [State.interim]; split <;> simp
@[simp] theorem State.interim_snaps (s : State) (r : Req) (result : List Byte) : (s.interim r result).snaps = s.snaps := by
  simp only [State.interim]; split <;> simp
@[simp] theorem State.interim_readOut (s : State) (r : Req) (result : List Byte) : (s.interim r result).readOut = s.readOut := by
  simp only [State.interim]; split <;> simp
@[simp] theorem State.interim_fresh (s : State) (r : Req) (result : List Byte) : (s.interim r result).fresh = s.fresh := by
  simp only [State.interim]; split <;> simp
@[simp] theorem State.interim_pending (s : State) (r : Req) (result : List Byte) : (s.interim r result).pending = s.pending := by
  simp only [State.interim]; split <;> simp

/-! ## wentOn (R341: an engine goes on.) -/

@[simp] theorem State.wentOn_mem (s : State) (sl : Slice) (cycles : Nat) (e : Eng) : (s.wentOn sl cycles e).mem = s.mem :=
  rfl
@[simp] theorem State.wentOn_memx (s : State) (sl : Slice) (cycles : Nat) (e : Eng) : (s.wentOn sl cycles e).memx = s.memx :=
  rfl
@[simp] theorem State.wentOn_keeper (s : State) (sl : Slice) (cycles : Nat) (e : Eng) : (s.wentOn sl cycles e).keeper = s.keeper :=
  rfl
@[simp] theorem State.wentOn_intr (s : State) (sl : Slice) (cycles : Nat) (e : Eng) : (s.wentOn sl cycles e).intr = s.intr :=
  rfl
@[simp] theorem State.wentOn_iseq (s : State) (sl : Slice) (cycles : Nat) (e : Eng) : (s.wentOn sl cycles e).iseq = s.iseq :=
  rfl
@[simp] theorem State.wentOn_sys (s : State) (sl : Slice) (cycles : Nat) (e : Eng) : (s.wentOn sl cycles e).sys = s.sys :=
  rfl
@[simp] theorem State.wentOn_fuses (s : State) (sl : Slice) (cycles : Nat) (e : Eng) : (s.wentOn sl cycles e).fuses = s.fuses :=
  rfl
@[simp] theorem State.wentOn_blown (s : State) (sl : Slice) (cycles : Nat) (e : Eng) : (s.wentOn sl cycles e).blown = s.blown :=
  rfl
@[simp] theorem State.wentOn_sec (s : State) (sl : Slice) (cycles : Nat) (e : Eng) : (s.wentOn sl cycles e).sec = s.sec :=
  rfl
@[simp] theorem State.wentOn_tsu (s : State) (sl : Slice) (cycles : Nat) (e : Eng) : (s.wentOn sl cycles e).tsu = s.tsu :=
  rfl
@[simp] theorem State.wentOn_links (s : State) (sl : Slice) (cycles : Nat) (e : Eng) : (s.wentOn sl cycles e).links = s.links :=
  rfl
@[simp] theorem State.wentOn_ports (s : State) (sl : Slice) (cycles : Nat) (e : Eng) : (s.wentOn sl cycles e).ports = s.ports :=
  rfl
@[simp] theorem State.wentOn_ledger (s : State) (sl : Slice) (cycles : Nat) (e : Eng) : (s.wentOn sl cycles e).ledger = s.ledger :=
  rfl
@[simp] theorem State.wentOn_cfg (s : State) (sl : Slice) (cycles : Nat) (e : Eng) : (s.wentOn sl cycles e).cfg = s.cfg :=
  rfl
@[simp] theorem State.wentOn_ingests (s : State) (sl : Slice) (cycles : Nat) (e : Eng) : (s.wentOn sl cycles e).ingests = s.ingests :=
  rfl
@[simp] theorem State.wentOn_cams (s : State) (sl : Slice) (cycles : Nat) (e : Eng) : (s.wentOn sl cycles e).cams = s.cams :=
  rfl
@[simp] theorem State.wentOn_streams (s : State) (sl : Slice) (cycles : Nat) (e : Eng) : (s.wentOn sl cycles e).streams = s.streams :=
  rfl
@[simp] theorem State.wentOn_rot (s : State) (sl : Slice) (cycles : Nat) (e : Eng) : (s.wentOn sl cycles e).rot = s.rot :=
  rfl
@[simp] theorem State.wentOn_lats (s : State) (sl : Slice) (cycles : Nat) (e : Eng) : (s.wentOn sl cycles e).lats = s.lats :=
  rfl
@[simp] theorem State.wentOn_pair (s : State) (sl : Slice) (cycles : Nat) (e : Eng) : (s.wentOn sl cycles e).pair = s.pair :=
  rfl
@[simp] theorem State.wentOn_pl (s : State) (sl : Slice) (cycles : Nat) (e : Eng) : (s.wentOn sl cycles e).pl = s.pl :=
  rfl
@[simp] theorem State.wentOn_motions (s : State) (sl : Slice) (cycles : Nat) (e : Eng) : (s.wentOn sl cycles e).motions = s.motions :=
  rfl
@[simp] theorem State.wentOn_upl (s : State) (sl : Slice) (cycles : Nat) (e : Eng) : (s.wentOn sl cycles e).upl = s.upl :=
  rfl
@[simp] theorem State.wentOn_bridge (s : State) (sl : Slice) (cycles : Nat) (e : Eng) : (s.wentOn sl cycles e).bridge = s.bridge :=
  rfl
@[simp] theorem State.wentOn_mbx (s : State) (sl : Slice) (cycles : Nat) (e : Eng) : (s.wentOn sl cycles e).mbx = s.mbx :=
  rfl
@[simp] theorem State.wentOn_dma (s : State) (sl : Slice) (cycles : Nat) (e : Eng) : (s.wentOn sl cycles e).dma = s.dma :=
  rfl
@[simp] theorem State.wentOn_cans (s : State) (sl : Slice) (cycles : Nat) (e : Eng) : (s.wentOn sl cycles e).cans = s.cans :=
  rfl
@[simp] theorem State.wentOn_i2c (s : State) (sl : Slice) (cycles : Nat) (e : Eng) : (s.wentOn sl cycles e).i2c = s.i2c :=
  rfl
@[simp] theorem State.wentOn_progs (s : State) (sl : Slice) (cycles : Nat) (e : Eng) : (s.wentOn sl cycles e).progs = s.progs :=
  rfl
@[simp] theorem State.wentOn_sent (s : State) (sl : Slice) (cycles : Nat) (e : Eng) : (s.wentOn sl cycles e).sent = s.sent :=
  rfl
@[simp] theorem State.wentOn_snaps (s : State) (sl : Slice) (cycles : Nat) (e : Eng) : (s.wentOn sl cycles e).snaps = s.snaps :=
  rfl
@[simp] theorem State.wentOn_readOut (s : State) (sl : Slice) (cycles : Nat) (e : Eng) : (s.wentOn sl cycles e).readOut = s.readOut :=
  rfl
@[simp] theorem State.wentOn_fresh (s : State) (sl : Slice) (cycles : Nat) (e : Eng) : (s.wentOn sl cycles e).fresh = s.fresh :=
  rfl
@[simp] theorem State.wentOn_pending (s : State) (sl : Slice) (cycles : Nat) (e : Eng) : (s.wentOn sl cycles e).pending = s.pending :=
  rfl

/-! ## setDma (R572: a DMA program kept.) -/

@[simp] theorem State.setDma_mem (s : State) (ch : Nat) (d : Dma) : (s.setDma ch d).mem = s.mem :=
  rfl
@[simp] theorem State.setDma_memx (s : State) (ch : Nat) (d : Dma) : (s.setDma ch d).memx = s.memx :=
  rfl
@[simp] theorem State.setDma_keeper (s : State) (ch : Nat) (d : Dma) : (s.setDma ch d).keeper = s.keeper :=
  rfl
@[simp] theorem State.setDma_intr (s : State) (ch : Nat) (d : Dma) : (s.setDma ch d).intr = s.intr :=
  rfl
@[simp] theorem State.setDma_iseq (s : State) (ch : Nat) (d : Dma) : (s.setDma ch d).iseq = s.iseq :=
  rfl
@[simp] theorem State.setDma_sys (s : State) (ch : Nat) (d : Dma) : (s.setDma ch d).sys = s.sys :=
  rfl
@[simp] theorem State.setDma_fuses (s : State) (ch : Nat) (d : Dma) : (s.setDma ch d).fuses = s.fuses :=
  rfl
@[simp] theorem State.setDma_blown (s : State) (ch : Nat) (d : Dma) : (s.setDma ch d).blown = s.blown :=
  rfl
@[simp] theorem State.setDma_sec (s : State) (ch : Nat) (d : Dma) : (s.setDma ch d).sec = s.sec :=
  rfl
@[simp] theorem State.setDma_tsu (s : State) (ch : Nat) (d : Dma) : (s.setDma ch d).tsu = s.tsu :=
  rfl
@[simp] theorem State.setDma_links (s : State) (ch : Nat) (d : Dma) : (s.setDma ch d).links = s.links :=
  rfl
@[simp] theorem State.setDma_ports (s : State) (ch : Nat) (d : Dma) : (s.setDma ch d).ports = s.ports :=
  rfl
@[simp] theorem State.setDma_ledger (s : State) (ch : Nat) (d : Dma) : (s.setDma ch d).ledger = s.ledger :=
  rfl
@[simp] theorem State.setDma_cfg (s : State) (ch : Nat) (d : Dma) : (s.setDma ch d).cfg = s.cfg :=
  rfl
@[simp] theorem State.setDma_ingests (s : State) (ch : Nat) (d : Dma) : (s.setDma ch d).ingests = s.ingests :=
  rfl
@[simp] theorem State.setDma_cams (s : State) (ch : Nat) (d : Dma) : (s.setDma ch d).cams = s.cams :=
  rfl
@[simp] theorem State.setDma_streams (s : State) (ch : Nat) (d : Dma) : (s.setDma ch d).streams = s.streams :=
  rfl
@[simp] theorem State.setDma_rot (s : State) (ch : Nat) (d : Dma) : (s.setDma ch d).rot = s.rot :=
  rfl
@[simp] theorem State.setDma_lats (s : State) (ch : Nat) (d : Dma) : (s.setDma ch d).lats = s.lats :=
  rfl
@[simp] theorem State.setDma_pair (s : State) (ch : Nat) (d : Dma) : (s.setDma ch d).pair = s.pair :=
  rfl
@[simp] theorem State.setDma_pl (s : State) (ch : Nat) (d : Dma) : (s.setDma ch d).pl = s.pl :=
  rfl
@[simp] theorem State.setDma_motions (s : State) (ch : Nat) (d : Dma) : (s.setDma ch d).motions = s.motions :=
  rfl
@[simp] theorem State.setDma_upl (s : State) (ch : Nat) (d : Dma) : (s.setDma ch d).upl = s.upl :=
  rfl
@[simp] theorem State.setDma_bridge (s : State) (ch : Nat) (d : Dma) : (s.setDma ch d).bridge = s.bridge :=
  rfl
@[simp] theorem State.setDma_mbx (s : State) (ch : Nat) (d : Dma) : (s.setDma ch d).mbx = s.mbx :=
  rfl
@[simp] theorem State.setDma_cans (s : State) (ch : Nat) (d : Dma) : (s.setDma ch d).cans = s.cans :=
  rfl
@[simp] theorem State.setDma_i2c (s : State) (ch : Nat) (d : Dma) : (s.setDma ch d).i2c = s.i2c :=
  rfl
@[simp] theorem State.setDma_engs (s : State) (ch : Nat) (d : Dma) : (s.setDma ch d).engs = s.engs :=
  rfl
@[simp] theorem State.setDma_progs (s : State) (ch : Nat) (d : Dma) : (s.setDma ch d).progs = s.progs :=
  rfl
@[simp] theorem State.setDma_sent (s : State) (ch : Nat) (d : Dma) : (s.setDma ch d).sent = s.sent :=
  rfl
@[simp] theorem State.setDma_snaps (s : State) (ch : Nat) (d : Dma) : (s.setDma ch d).snaps = s.snaps :=
  rfl
@[simp] theorem State.setDma_readOut (s : State) (ch : Nat) (d : Dma) : (s.setDma ch d).readOut = s.readOut :=
  rfl
@[simp] theorem State.setDma_fresh (s : State) (ch : Nat) (d : Dma) : (s.setDma ch d).fresh = s.fresh :=
  rfl
@[simp] theorem State.setDma_pending (s : State) (ch : Nat) (d : Dma) : (s.setDma ch d).pending = s.pending :=
  rfl

/-! ## Mailbox commands and bridge packets -/

/-- The accepted command of a channel runs. -/
theorem State.onCommand_eq {s : State} {ch : Chan} {op : Nat} {r : Req} (h : s.takes ch op = some r) (k : State → Req → State) :
    s.onCommand ch op k = k s r := by
  simp only [State.onCommand, h]

/-- With no such command accepted, nothing changes (log entry 25). -/
theorem State.onCommand_none {s : State} {ch : Chan} {op : Nat} (h : s.takes ch op = none) (k : State → Req → State) :
    s.onCommand ch op k = s := by
  simp only [State.onCommand, h]

/-- The next packet of a kind is acted on. -/
theorem State.onPkt_eq {s u : State} {sel : Pkt → Bool} {p : Pkt} (hd : s.domainOn .uplink = true) (h : s.popPkt sel = some (p, u))
    (k : State → Pkt → State) : s.onPkt sel k = k u p := by
  simp only [State.onPkt, hd, h, Bool.not_true, Bool.false_eq_true, if_false]

end Sys2Proof.Machine
end

