-- ==== Sys2Proof/Laws/KeepsOps.lean ====
section
/-!
SUPPORT. What every operation and every command keeps (Keeps): the shared operations.
-/
namespace Sys2Proof.Machine

theorem State.loadReg_keeps {o s : State} {c : CfgSet} {kind : Nat} {inst : Nat} {a0 : Nat} {a : Nat}
    (h : Keeps o s) :
    Keeps o (State.loadReg s c kind inst a0 a) := by
  unfold State.loadReg
  split
  · exact h
  · extract_lets m1
    exact State.setReg_keeps h

theorem State.loadRegs_keeps {o s : State} {c : CfgSet} {kind : Nat} {inst : Nat} {z4 : List (Nat × Nat)}
    (h : Keeps o s) :
    Keeps o (State.loadRegs s c kind inst z4) := by
  revert h
  fun_induction State.loadRegs s c kind inst z4
  · intro k1
    exact k1
  · intro k2
    rename_i v3
    with_reducible apply v3
    exact State.loadReg_keeps k2

theorem State.setLink_keeps {o s : State} {l : Link} {x : LinkSt} (h : Keeps o s) :
    Keeps o (State.setLink s l x) := by
  unfold State.setLink
  refine Keeps.of_mk ?_ rfl
  exact h

theorem State.setLk_keeps {o s : State} {l : Link} {st : Nat} (h : Keeps o s) : Keeps o (State.setLk s l st) := by
  unfold State.setLk
  exact State.setFld_keeps h

theorem State.laneSend_keeps {o s : State} {l : Link} {k : Nat} {marker : Bool} {cs : List Crumb} (h : Keeps o s) :
    Keeps o (State.laneSend s l k marker cs) := by
  unfold State.laneSend
  extract_lets a1 x2
  have hx2 : Keeps o x2 := by
    unfold x2
    exact State.setLink_keeps h
  clear_value x2
  refine Keeps.of_mk ?_ rfl
  exact hx2

theorem State.sendMarkers_keeps {o s : State} {l : Link} {newSet : Option Nat} (h : Keeps o s) :
    Keeps o (State.sendMarkers s l newSet) := by
  unfold State.sendMarkers
  extract_lets x1 c2 s3 x4
  have hs3 : Keeps o s3 := by
    unfold s3
    refine Keeps.foldl ?_ ?_
    · exact h
    · intro k5 k6 k7
      exact State.laneSend_keeps k7
  clear_value s3
  exact State.setLink_keeps hs3

theorem State.toLane_keeps {o s : State} {l : Link} {c : Crumb} (h : Keeps o s) : Keeps o (State.toLane s l c) := by
  unfold State.toLane
  extract_lets act1 x2 n3 x4 s5
  have hs5 : Keeps o s5 := by
    unfold s5
    exact State.setLink_keeps h
  clear_value s5
  exact Keeps.ite (State.sendMarkers_keeps hs5) hs5

theorem State.toLanes_keeps {o s : State} {l : Link} {cs : List Crumb} (h : Keeps o s) :
    Keeps o (State.toLanes s l cs) := by
  unfold State.toLanes
  refine Keeps.ite ?_ ?_
  · exact h
  · refine Keeps.foldl ?_ ?_
    · exact h
    · intro k1 k2 k3
      exact State.toLane_keeps k3

theorem State.trainOn_keeps {o s : State} {l : Link} {lanes : List Nat} {cmd : Nat} {req : Nat} (h : Keeps o s) :
    Keeps o (State.trainOn s l lanes cmd req) := by
  unfold State.trainOn
  extract_lets t1 x2
  have ht1 : Keeps o t1 := by
    unfold t1
    refine Keeps.foldl ?_ ?_
    · exact h
    · intro k3 k4 k5
      exact State.laneSend_keeps k5
  clear_value t1
  exact State.setLink_keeps ht1

theorem State.tell_keeps {o s : State} {l : Link} {cmd : Nat} {req : Nat} (h : Keeps o s) :
    Keeps o (State.tell s l cmd req) := by
  unfold State.tell
  exact State.trainOn_keeps h

theorem State.scan_keeps {o s : State} {levels : List Bool} {tdi : List Bool} (h : Keeps o s) :
    Keeps o (State.scan s levels tdi) := by
  unfold State.scan
  extract_lets l1 x2
  refine Keeps.ite ?_ ?_
  · exact h
  · refine Keeps.of_mk ?_ rfl
    exact h

theorem State.drivePps_keeps {o s : State} {v : Bool} (h : Keeps o s) : Keeps o (State.drivePps s v) := by
  unfold State.drivePps
  extract_lets pins1 x2
  refine Keeps.of_mk ?_ rfl
  exact h

theorem State.setSync_keeps {o s : State} {n : Nat} {on : Bool} (h : Keeps o s) : Keeps o (State.setSync s n on) := by
  unfold State.setSync
  extract_lets x1
  refine Keeps.of_mk ?_ rfl
  exact h

theorem State.syncMode_keeps {o s : State} {n : Nat} (h : Keeps o s) : Keeps o (State.syncMode s n) := by
  unfold State.syncMode
  extract_lets m1 x2
  refine Keeps.ite ?_ ?_
  · exact State.setSync_keeps h
  · refine Keeps.ite ?_ ?_
    · exact h
    · refine Keeps.of_mk ?_ rfl
      exact h

theorem State.timePins_keeps {o s : State} (h : Keeps o s) : Keeps o (State.timePins s) := by
  unfold State.timePins
  extract_lets s1
  have hs1 : Keeps o s1 := by
    unfold s1
    exact Keeps.ite h (State.drivePps_keeps h)
  clear_value s1
  refine Keeps.foldl ?_ ?_
  · exact hs1
  · intro k2 k3 k4
    exact State.syncMode_keeps k4

theorem State.placeRecord_keeps {o s : State} {i : Nat} {r : FReport} (h : Keeps o s) :
    Keeps o (State.placeRecord s i r) := by
  unfold State.placeRecord
  extract_lets e1 x2 s3 s4
  have hs3 : Keeps o s3 := by
    unfold s3
    refine Keeps.of_mk ?_ rfl
    exact h
  clear_value s3
  have hs4 : Keeps o s4 := by
    unfold s4
    exact Keeps.ite hs3 (State.setFld_keeps hs3)
  clear_value s4
  exact State.intrEvent_keeps hs4

theorem State.writeF_keeps {o s : State} {r : FReport} (h : Keeps o s) : Keeps o (State.writeF s r) := by
  unfold State.writeF
  split
  · extract_lets x1 x2
    refine Keeps.of_mk ?_ rfl
    exact h
  · split
    · exact State.placeRecord_keeps h
    · exact h

theorem State.writeCU_keeps {o s : State} {r : FReport} (h : Keeps o s) : Keeps o (State.writeCU s r) := by
  unfold State.writeCU
  extract_lets recent1 fresh2 x3
  have hfresh2 : ∀ y0, Keeps o y0 → Keeps o (fresh2 y0) := by
    unfold fresh2
    intro k4 k5
    split
    · exact State.placeRecord_keeps k5
    · refine Keeps.ite ?_ ?_
      · exact State.loseFault_keeps k5
      · split
        · exact State.placeRecord_keeps (State.loseFault_keeps k5)
        · exact State.loseFault_keeps k5
  clear_value fresh2
  clear_value recent1
  split
  · refine Keeps.ite ?_ ?_
    · refine Keeps.of_mk ?_ rfl
      exact h
    · with_reducible apply hfresh2
      exact h
  · with_reducible apply hfresh2
    exact h

theorem State.writeNext_keeps {o s : State} (h : Keeps o s) : Keeps o (State.writeNext s) := by
  unfold State.writeNext
  split
  · extract_lets x1
    with_reducible apply State.driveFaultN_keeps
    with_reducible apply State.writeF_keeps
    refine Keeps.of_mk ?_ rfl
    exact h
  · split
    · extract_lets x2
      with_reducible apply State.driveFaultN_keeps
      with_reducible apply State.writeCU_keeps
      refine Keeps.of_mk ?_ rfl
      exact h
    · exact h

theorem execFaultRecordWrite_keeps {o s : State} (h : Keeps o s) : KeepsOut o (execFaultRecordWrite s) := by
  unfold execFaultRecordWrite
  exact KeepsOut.next (Keeps.ite (State.writeNext_keeps h) h)

theorem State.markRead_keeps {o s : State} {i : Nat} (h : Keeps o s) : KeepsOpt o (State.markRead s i) := by
  unfold State.markRead
  refine KeepsOpt.ite ?_ ?_
  · split
    · exact KeepsOpt.ofNone
    · extract_lets x1
      refine KeepsOpt.ite ?_ ?_
      · exact KeepsOpt.ofNone
      · refine KeepsOpt.ofSome ?_
        refine Keeps.of_mk ?_ rfl
        exact h
  · exact KeepsOpt.ofNone

theorem State.clearRecord_keeps {o s : State} {i : Nat} {code : Nat} (h : Keeps o s) :
    KeepsOpt o (State.clearRecord s i code) := by
  unfold State.clearRecord
  refine KeepsOpt.ite ?_ ?_
  · split
    · exact KeepsOpt.ofNone
    · extract_lets x1 s2
      have hs2 : Keeps o s2 := by
        unfold s2
        refine Keeps.of_mk ?_ rfl
        exact h
      clear_value s2
      exact KeepsOpt.ite KeepsOpt.ofNone (KeepsOpt.ofSome (State.driveFaultN_keeps hs2))
  · exact KeepsOpt.ofNone

theorem State.readLog_keeps {o s : State} {path : Nat} {i : Nat} {k : Nat} (h : Keeps o s) :
    Keeps o (State.readLog s path i k).2 := by
  unfold State.readLog
  extract_lets w1 x2 snap3
  refine Keeps.ite_snd ?_ ?_
  · dsimp -zeta only
    refine Keeps.of_mk ?_ rfl
    exact h
  · exact h

theorem State.writePlain_keeps {o s : State} {a : Nat} {v : Word} (h : Keeps o s) :
    Keeps o (State.writePlain s a v) := by
  unfold State.writePlain
  split
  · exact h
  · extract_lets fs1
    exact Keeps.ite (State.setReg_keeps h) h

theorem State.latch_keeps {o s : State} {p : Path} {z2 : List Nat} (h : Keeps o s) :
    Keeps o (State.latch s p z2) := by
  revert h
  fun_induction State.latch s p z2
  · intro k1
    exact k1
  · intro k2
    rename_i v3
    with_reducible apply v3
    refine Keeps.of_mk ?_ rfl
    exact k2

theorem State.clearOnRead_keeps {o s : State} {a : Nat} (h : Keeps o s) : Keeps o (State.clearOnRead s a) := by
  unfold State.clearOnRead
  split
  · exact h
  · extract_lets m1 s2
    have hs2 : Keeps o s2 := by
      unfold s2
      exact State.setReg_keeps h
    clear_value s2
    refine Keeps.ite ?_ ?_
    · exact h
    · refine Keeps.ite ?_ ?_
      · exact State.driveFaultN_keeps (State.setFld_keeps hs2)
      · exact Keeps.ite (State.driveFaultN_keeps (State.setFld_keeps hs2)) hs2

theorem State.setStream_keeps {o s : State} {sid : Nat} {x : StreamSt} (h : Keeps o s) :
    Keeps o (State.setStream s sid x) := by
  unfold State.setStream
  refine Keeps.of_mk ?_ rfl
  exact h

theorem State.setCam_keeps {o s : State} {p : Nat} {x : Cam} (h : Keeps o s) : Keeps o (State.setCam s p x) := by
  unfold State.setCam
  refine Keeps.of_mk ?_ rfl
  exact h

theorem State.setUpl_keeps {o s : State} {x : Upl} (h : Keeps o s) : Keeps o (State.setUpl s x) := by
  unfold State.setUpl
  refine Keeps.of_mk ?_ rfl
  exact h

theorem State.push_keeps {o s : State} {sid : Nat} {u : EgUnit} (h : Keeps o s) : Keeps o (State.push s sid u) := by
  unfold State.push
  extract_lets f1 x2 s3 all4
  have hs3 : Keeps o s3 := by
    unfold s3
    exact State.setUpl_keeps h
  clear_value s3
  exact Keeps.ite (State.setFld_keeps hs3) hs3

theorem State.loseUnit_keeps {o s : State} {sid : Nat} {fn : Nat} {fseq : Nat} (h : Keeps o s) :
    Keeps o (State.loseUnit s sid fn fseq) := by
  unfold State.loseUnit
  extract_lets l1 x2
  exact State.setUpl_keeps h

theorem State.pushOrLose_keeps {o s : State} {sid : Nat} {u : EgUnit} (h : Keeps o s) :
    Keeps o (State.pushOrLose s sid u) := by
  unfold State.pushOrLose
  extract_lets x1
  exact Keeps.ite (State.setStream_keeps h) (Keeps.ite (State.push_keeps h) (State.loseUnit_keeps h))

theorem State.showOut_keeps {o s : State} {p : Nat} {sid : Nat} {fseq : Nat} {fn : Nat} (h : Keeps o s) :
    Keeps o (State.showOut s p sid fseq fn) := by
  unfold State.showOut
  split
  · exact Keeps.ite (State.setFlds_keeps h) h
  · exact h

theorem State.bumpOut_keeps {o s : State} {p : Nat} {sid : Nat} {f : Nat → Nat → Fld} (h : Keeps o s) :
    Keeps o (State.bumpOut s p sid f) := by
  unfold State.bumpOut
  split
  · exact Keeps.ite (State.bump_keeps h) h
  · exact h

theorem State.noticeAt_keeps {o s : State} {p : Nat} {sid : Nat} {f : Frame} {fseq : Nat} {integ : Nat} {sflags : Nat}
    (h : Keeps o s) :
    Keeps o (State.noticeAt s p sid f fseq integ sflags) := by
  unfold State.noticeAt
  extract_lets t1 h2 s3 x4 s5
  have hs3 : Keeps o s3 := by
    unfold s3
    exact State.pushOrLose_keeps h
  clear_value s3
  have hs5 : Keeps o s5 := by
    unfold s5
    exact State.setStream_keeps hs3
  clear_value s5
  exact State.showOut_keeps (State.bumpOut_keeps hs5)

theorem State.notice_keeps {o s : State} {p : Nat} {sid : Nat} {f : Frame} {integ : Nat} {sflags : Nat}
    (h : Keeps o s) :
    Keeps o (State.notice s p sid f integ sflags) := by
  unfold State.notice
  extract_lets x1 s2
  have hs2 : Keeps o s2 := by
    unfold s2
    exact State.setStream_keeps h
  clear_value s2
  exact State.noticeAt_keeps hs2

theorem State.abandon_keeps {o s : State} {p : Nat} {sid : Nat} {f : Frame} {fseq : Nat} (h : Keeps o s) :
    Keeps o (State.abandon s p sid f fseq) := by
  unfold State.abandon
  extract_lets x1 s2 s3
  have hs2 : Keeps o s2 := by
    unfold s2
    exact State.setStream_keeps h
  clear_value s2
  have hs3 : Keeps o s3 := by
    unfold s3
    exact State.report_keeps (State.bump_keeps hs2)
  clear_value s3
  exact State.noticeAt_keeps hs3

theorem State.pushAll_keeps {o s : State} {sid : Nat} {z2 : List EgUnit} (h : Keeps o s) :
    Keeps o (State.pushAll s sid z2).2 := by
  revert h
  fun_induction State.pushAll s sid z2
  · intro k1
    exact k1
  · intro k2
    rename_i v3
    with_reducible apply v3
    exact State.push_keeps k2
  · intro k4
    exact k4

theorem State.formatChange_keeps {o s : State} {sid : Nat} {fmt : List Nat} {cause : Nat} {fn : Nat} {gen : Nat}
    (h : Keeps o s) :
    Keeps o (State.formatChange s sid fmt cause fn gen) := by
  unfold State.formatChange
  extract_lets x1 f2 b3 s4 x5
  have hs4 : Keeps o s4 := by
    unfold s4
    exact State.pushOrLose_keeps h
  clear_value s4
  exact State.setStream_keeps hs4

theorem State.openStream_keeps {o s : State} {sid : Nat} {c : CfgSet} {fn : Nat} {gen : Nat} (h : Keeps o s) :
    Keeps o (State.openStream s sid c fn gen) := by
  unfold State.openStream
  extract_lets x1 f2
  refine Keeps.ite ?_ ?_
  · exact State.setStream_keeps h
  · exact Keeps.ite (Keeps.ite h (State.formatChange_keeps h)) (State.formatChange_keeps h)

theorem State.closeStream_keeps {o s : State} {sid : Nat} {gen : Nat} (h : Keeps o s) :
    Keeps o (State.closeStream s sid gen) := by
  unfold State.closeStream
  extract_lets x1
  exact Keeps.ite (Keeps.ite (State.setStream_keeps h) (State.formatChange_keeps h)) h

theorem State.allocFifos_keeps {o s : State} {c : CfgSet} (h : Keeps o s) : Keeps o (State.allocFifos s c) := by
  unfold State.allocFifos
  extract_lets a1 x2 s3
  have hs3 : Keeps o s3 := by
    unfold s3
    exact State.setUpl_keeps h
  clear_value s3
  exact State.setFld_keeps hs3

theorem State.statusNow_keeps {o s : State} {p : Nat} {sid : Nat} {reason : Nat} (h : Keeps o s) :
    Keeps o (State.statusNow s p sid reason) := by
  unfold State.statusNow
  extract_lets x1 h2 s3 x4 s5
  have hs3 : Keeps o s3 := by
    unfold s3
    exact State.pushOrLose_keeps h
  clear_value s3
  have hs5 : Keeps o s5 := by
    unfold s5
    exact State.setStream_keeps hs3
  clear_value s5
  exact State.showOut_keeps (State.bumpOut_keeps hs5)

theorem State.statusItem_keeps {o s : State} {p : Nat} {sid : Nat} {reason : Nat} (h : Keeps o s) :
    Keeps o (State.statusItem s p sid reason) := by
  unfold State.statusItem
  extract_lets x1 s2 x3
  have hs2 : Keeps o s2 := by
    unfold s2
    exact State.setStream_keeps h
  clear_value s2
  split
  · exact Keeps.ite (State.statusNow_keeps hs2) (State.setStream_keeps hs2)
  · exact State.setStream_keeps hs2

theorem State.setReasons_keeps {o s : State} {p : Nat} {sid : Nat} {l : List Nat} (h : Keeps o s) :
    Keeps o (State.setReasons s p sid l) := by
  unfold State.setReasons
  extract_lets x1 s2 now3
  have hs2 : Keeps o s2 := by
    unfold s2
    exact State.setStream_keeps h
  clear_value s2
  refine Keeps.ite ?_ ?_
  · exact hs2
  · split
    · exact Keeps.ite hs2 (State.statusItem_keeps hs2)
    · exact Keeps.ite hs2 (State.statusItem_keeps hs2)

theorem State.eachReason_keeps {o s : State} {p : Nat} {g : List Nat → List Nat} {z3 : List Nat} (h : Keeps o s) :
    Keeps o (State.eachReason s p g z3) := by
  revert h
  fun_induction State.eachReason s p g z3
  · intro k1
    exact k1
  · intro k2
    rename_i v3
    with_reducible apply v3
    exact State.setReasons_keeps k2

theorem State.raiseReason_keeps {o s : State} {p : Nat} {reason : Nat} (h : Keeps o s) :
    Keeps o (State.raiseReason s p reason) := by
  unfold State.raiseReason
  exact State.eachReason_keeps h

theorem State.endReasons_keeps {o s : State} {p : Nat} {gone : List Nat} (h : Keeps o s) :
    Keeps o (State.endReasons s p gone) := by
  unfold State.endReasons
  exact State.eachReason_keeps h

theorem State.telemetry_keeps {o s : State} {p : Nat} {ttype : Nat} {payload : List Byte} (h : Keeps o s) :
    Keeps o (State.telemetry s p ttype payload) := by
  unfold State.telemetry
  extract_lets sid1 x2 s3
  have hs3 : Keeps o s3 := by
    unfold s3
    exact State.pushOrLose_keeps h
  clear_value s3
  exact Keeps.ite h (State.setStream_keeps hs3)

theorem State.statRecord_keeps {o s : State} {p : Nat} {f : Frame} {integ : Nat} {sflags : Nat} (h : Keeps o s) :
    Keeps o (State.statRecord s p f integ sflags) := by
  unfold State.statRecord
  extract_lets sid1 x2 white3 s4
  have hs4 : Keeps o s4 := by
    unfold s4
    exact State.pushOrLose_keeps h
  clear_value s4
  exact Keeps.ite h (State.setStream_keeps hs4)

theorem State.setEng_keeps {o s : State} {sl : Nat} {e : Eng} (h : Keeps o s) : Keeps o (State.setEng s sl e) := by
  unfold State.setEng
  refine Keeps.of_mk ?_ rfl
  exact h

theorem State.bypassTaps_keeps {o s : State} {sl : Nat} (h : Keeps o s) : Keeps o (State.bypassTaps s sl) := by
  unfold State.bypassTaps
  extract_lets e1 x2 x3
  exact State.setFlds_keeps (State.setEng_keeps h)

theorem State.flagSlice_keeps {o s : State} {sl : Nat} {b : Nat} (h : Keeps o s) :
    Keeps o (State.flagSlice s sl b) := by
  unfold State.flagSlice
  split
  · exact h
  · extract_lets c1 s2 g3
    have hs2 : Keeps o s2 := by
      unfold s2
      exact State.setCam_keeps h
    clear_value s2
    split
    · refine Keeps.ite ?_ ?_
      · refine Keeps.of_mk ?_ rfl
        exact hs2
      · exact hs2
    · exact hs2

theorem State.engStop_keeps {o s : State} {sl : Nat} {st : Nat} {cause : Nat} (h : Keeps o s) :
    Keeps o (State.engStop s sl st cause) := by
  unfold State.engStop
  extract_lets s1 x2 s3
  have hs1 : Keeps o s1 := by
    unfold s1
    exact State.setFlds_keeps h
  clear_value s1
  have hs3 : Keeps o s3 := by
    unfold s3
    exact State.setEng_keeps hs1
  clear_value s3
  exact State.flagSlice_keeps (State.bypassTaps_keeps hs3)

theorem State.engTrap_keeps {o s : State} {sl : Nat} {cause : Nat} (h : Keeps o s) :
    Keeps o (State.engTrap s sl cause) := by
  unfold State.engTrap
  extract_lets s1 s2 e3 s4
  have hs1 : Keeps o s1 := by
    unfold s1
    exact State.bump_keeps (State.engStop_keeps h)
  clear_value s1
  have hs2 : Keeps o s2 := by
    unfold s2
    exact State.report_keeps hs1
  clear_value s2
  have hs4 : Keeps o s4 := by
    unfold s4
    exact State.setEng_keeps hs2
  clear_value s4
  split
  · extract_lets x5
    exact State.setCam_keeps hs4
  · exact hs4

theorem State.engFlow_keeps {o s : State} {sl : Nat} {cycles : Nat} {z3 : Flow} (h : Keeps o s) :
    Keeps o (State.engFlow s sl cycles z3) := by
  unfold State.engFlow
  split
  · exact State.engTrap_keeps h
  · exact h
  · exact h
  · extract_lets e1 n2
    exact Keeps.ite (State.engTrap_keeps h) (State.setFld_keeps (State.setEng_keeps h))
  · extract_lets e3 s4
    have hs4 : Keeps o s4 := by
      unfold s4
      exact State.setEng_keeps h
    clear_value s4
    exact Keeps.ite (State.engTrap_keeps h) (State.setFld_keeps hs4)

theorem State.engIssue_keeps {o s : State} {sl : Slice} {cycles : Nat} {body : State → Eng → State × Flow}
    (h : Keeps o s) (hbody : ∀ (y0 : State) (y1 : Eng), Keeps o y0 → Keeps o (body y0 y1).1) :
    Keeps o (State.engIssue s sl cycles body) := by
  unfold State.engIssue
  extract_lets r1
  have hr1 : Keeps o r1.1 := by
    unfold r1
    with_reducible apply hbody
    exact h
  clear_value r1
  exact Keeps.ite h (Keeps.ite (State.engTrap_keeps h) (Keeps.ite (State.engTrap_keeps h) (State.engFlow_keeps hr1)))

theorem State.engScalar_keeps {o s : State} {sl : Slice} {sd : BitVec 5} {v : Eng → BitVec 32} (h : Keeps o s) :
    Keeps o (State.engScalar s sl sd v) := by
  unfold State.engScalar
  with_reducible apply State.engIssue_keeps
  · exact h
  · intro k1 k2 k3
    dsimp -zeta only
    exact State.setEng_keeps k3

theorem State.engVector_keeps {o s : State} {sl : Slice} {vd : BitVec 3} {v : Eng → List (BitVec 16)}
    (h : Keeps o s) :
    Keeps o (State.engVector s sl vd v) := by
  unfold State.engVector
  with_reducible apply State.engIssue_keeps
  · exact h
  · intro k1 k2 k3
    dsimp -zeta only
    exact State.setEng_keeps k3

theorem State.dataPoke_keeps {o s : State} {sl : Nat} {a : Nat} {l : List Byte} (h : Keeps o s) :
    Keeps o (State.dataPoke s sl a l) := by
  unfold State.dataPoke
  exact State.poke_keeps h

theorem State.engAccess_keeps {o s : State} {sl : Slice} {sa : BitVec 5} {off : BitVec 15} {n : Nat} {align : Nat} {cycles : Nat} {k : State → Eng → Nat → State} {wr : optParam Bool false}
    (h : Keeps o s) (hk : ∀ (y0 : State) (y1 : Eng) (y2 : Nat), Keeps o y0 → Keeps o (k y0 y1 y2)) :
    Keeps o (State.engAccess s sl sa off n align cycles k wr) := by
  unfold State.engAccess
  with_reducible apply State.engIssue_keeps
  · exact h
  · intro k1 k2 k3
    extract_lets a4
    split
    · exact k3
    · dsimp -zeta only
      with_reducible apply hk
      exact k3

theorem State.pqShow_keeps {o s : State} {p : Nat} (h : Keeps o s) : Keeps o (State.pqShow s p) := by
  unfold State.pqShow
  split
  · exact h
  · extract_lets q1 low2 disp3 next4 nextl5
    exact State.setFlds_keeps h

theorem State.pqBump_keeps {o s : State} {p : Nat} {f : Nat → Fld} {n : Nat} (h : Keeps o s) :
    Keeps o (State.pqBump s p f n) := by
  unfold State.pqBump
  split
  · exact State.bump_keeps h
  · exact h

theorem State.pqSupersede_keeps {o s : State} {p : Nat} (h : Keeps o s) : Keeps o (State.pqSupersede s p) := by
  unfold State.pqSupersede
  extract_lets c1 kept2 n3
  exact Keeps.ite (State.pqShow_keeps h) (State.pqShow_keeps (State.pqBump_keeps (State.setCam_keeps h)))

theorem State.pqLate_keeps {o s : State} {p : Nat} {fn : Nat} {n : Nat} (h : Keeps o s) :
    Keeps o (State.pqLate s p fn n) := by
  unfold State.pqLate
  extract_lets c1
  exact State.pqBump_keeps (State.setCam_keeps h)

theorem State.pqMove_keeps {o s : State} {p : Nat} {sel : PqEntry → Bool} {target : Nat} {k : Nat} (h : Keeps o s) :
    Keeps o (State.pqMove s p sel target k) := by
  unfold State.pqMove
  extract_lets c1 n2 t3 s4 s5
  have hs4 : Keeps o s4 := by
    unfold s4
    exact State.setCam_keeps h
  clear_value s4
  have hs5 : Keeps o s5 := by
    unfold s5
    exact State.pqLate_keeps hs4
  clear_value s5
  exact Keeps.ite h (State.pqSupersede_keeps (State.report_keeps hs5))

theorem State.pqSettleGroup_keeps {o s : State} {p : Nat} {grp : Nat} {t : Nat} (h : Keeps o s) :
    Keeps o (State.pqSettleGroup s p grp t) := by
  unfold State.pqSettleGroup
  extract_lets c1 es2 k3 s4
  have hs4 : Keeps o s4 := by
    unfold s4
    exact State.setCam_keeps h
  clear_value s4
  exact Keeps.ite h (State.pqMove_keeps hs4)

theorem State.pqPut_keeps {o s : State} {p : Nat} {owner : Bool} {e : PqEntry} (h : Keeps o s) :
    Keeps o (State.pqPut s p owner e).2 := by
  unfold State.pqPut
  extract_lets c1 moved2 t3 x4 c5 s6 s7 s8
  have hs6 : Keeps o s6 := by
    unfold s6
    exact State.setCam_keeps h
  clear_value s6
  have hs7 : Keeps o s7 := by
    unfold s7
    exact Keeps.ite (State.pqLate_keeps hs6) hs6
  clear_value s7
  have hs8 : Keeps o s8 := by
    unfold s8
    exact Keeps.ite (State.pqSettleGroup_keeps hs7) (State.pqMove_keeps hs7)
  clear_value s8
  refine Keeps.ite_snd ?_ ?_
  · exact h
  · split
    · refine Keeps.ite_snd ?_ ?_
      · exact h
      · refine Keeps.ite_snd ?_ ?_
        · dsimp -zeta only
          exact State.pqBump_keeps h
        · dsimp -zeta only
          exact State.pqSupersede_keeps hs8
    · exact h

theorem State.pqDropGroups_keeps {o s : State} {p : Nat} (h : Keeps o s) : Keeps o (State.pqDropGroups s p) := by
  unfold State.pqDropGroups
  extract_lets c1 live2
  exact State.setCam_keeps h

theorem State.pqDeadlines_keeps {o s : State} {p : Nat} {z2 : List PqEntry} (h : Keeps o s) :
    Keeps o (State.pqDeadlines s p z2) := by
  revert h
  fun_induction State.pqDeadlines s p z2
  · intro k1
    exact State.pqDropGroups_keeps k1
  · intro k2
    rename_i v3 v4
    have hv3 : Keeps o v3 := by
      unfold v3
      exact Keeps.ite k2 (Keeps.ite (Keeps.ite (State.pqMove_keeps k2) k2) (State.pqSettleGroup_keeps k2))
    clear_value v3
    with_reducible apply v4
    exact hv3

theorem State.pqDiscard_keeps {o s : State} {p : Nat} {sel : PqEntry → Bool} (h : Keeps o s) :
    Keeps o (State.pqDiscard s p sel) := by
  unfold State.pqDiscard
  extract_lets c1 kept2 n3 s4
  have hs4 : Keeps o s4 := by
    unfold s4
    exact State.pqBump_keeps (State.setCam_keeps h)
  clear_value s4
  exact Keeps.ite h (State.pqShow_keeps (State.pqDropGroups_keeps (State.report_keeps hs4)))

theorem State.onFrame_keeps {o s : State} {p : Nat} {fn : Nat} {k : Frame → Frame} (h : Keeps o s) :
    Keeps o (State.onFrame s p fn k) := by
  unfold State.onFrame
  extract_lets g1 s2 c3
  have hs2 : Keeps o s2 := by
    unfold s2
    split
    · refine Keeps.ite ?_ ?_
      · refine Keeps.of_mk ?_ rfl
        exact h
      · exact h
    · exact h
  clear_value s2
  exact State.setCam_keeps hs2

theorem State.pqLatch_keeps {o s : State} {p : Nat} {id : Nat} {f : Frame} (h : Keeps o s) :
    Keeps o (State.pqLatch s p id f) := by
  unfold State.pqLatch
  extract_lets c1 heldNow2
  split
  · extract_lets c3 c4 s5 s6 s7
    have hs5 : Keeps o s5 := by
      unfold s5
      exact State.setCam_keeps h
    clear_value s5
    have hs6 : Keeps o s6 := by
      unfold s6
      exact Keeps.ite (State.pqBump_keeps hs5) hs5
    clear_value s6
    have hs7 : Keeps o s7 := by
      unfold s7
      exact State.onFrame_keeps hs6
    clear_value s7
    exact State.pqShow_keeps (State.pqDropGroups_keeps hs7)
  · exact State.onFrame_keeps h

theorem State.pqApplied_keeps {o s : State} {p : Nat} {fn : Nat} (h : Keeps o s) :
    Keeps o (State.pqApplied s p fn) := by
  unfold State.pqApplied
  extract_lets c1 done2 n3 s4 s5
  have hs4 : Keeps o s4 := by
    unfold s4
    exact State.setCam_keeps h
  clear_value s4
  have hs5 : Keeps o s5 := by
    unfold s5
    exact State.onFrame_keeps hs4
  clear_value s5
  exact State.pqShow_keeps (State.pqDropGroups_keeps hs5)

theorem State.jumpMove_keeps {o s : State} {p : Nat} {sel : PqEntry → Bool} {old : Nat} {new : Nat} (h : Keeps o s) :
    Keeps o (State.jumpMove s p sel old new) := by
  unfold State.jumpMove
  extract_lets k1
  exact Keeps.ite h (State.pqMove_keeps h)

theorem State.pqJump_keeps {o s : State} {p : Nat} {fn : Nat} {d : Nat} {z4 : List PqEntry} (h : Keeps o s) :
    Keeps o (State.pqJump s p fn d z4) := by
  revert h
  fun_induction State.pqJump s p fn d z4
  · intro k1
    exact State.pqDropGroups_keeps k1
  · intro k2
    rename_i v3 v4 v5
    with_reducible apply v5
    exact k2
  · intro k6
    rename_i v7 v8 v9 v10 v11
    have hv10 : Keeps o v10 := by
      unfold v10
      extract_lets ms12 t13 c14
      refine Keeps.ite ?_ ?_
      · exact k6
      · exact Keeps.ite (State.jumpMove_keeps k6) (Keeps.ite k6 (State.jumpMove_keeps (State.setCam_keeps k6)))
    clear_value v10
    with_reducible apply v11
    exact hv10

theorem State.endWait_keeps {o s : State} {sl : Nat} {sd : Nat} {code : Nat} (h : Keeps o s) :
    Keeps o (State.endWait s sl sd code) := by
  unfold State.endWait
  extract_lets e1 e2 e3
  exact State.engFlow_keeps (State.setFld_keeps (State.setEng_keeps h))

theorem State.pollWait_keeps {o s : State} {sl : Nat} (h : Keeps o s) : Keeps o (State.pollWait s sl) := by
  unfold State.pollWait
  split
  · exact h
  · split
    · exact State.endWait_keeps h
    · exact h

theorem State.post_keeps {o s : State} {sl : Nat} {code : Nat} {args : List Nat} (h : Keeps o s) :
    Keeps o (State.post s sl code args) := by
  unfold State.post
  extract_lets e1 s2 a3
  have hs2 : Keeps o s2 := by
    unfold s2
    exact Keeps.ite (State.bump_keeps h) h
  clear_value s2
  exact State.pollWait_keeps (State.setEng_keeps hs2)

theorem State.postCam_keeps {o s : State} {p : Nat} {code : Nat} {args : List Nat} (h : Keeps o s) :
    Keeps o (State.postCam s p code args) := by
  unfold State.postCam
  split
  · exact State.post_keeps h
  · exact h

theorem State.setPair_keeps {o s : State} {x : Pair} (h : Keeps o s) : Keeps o (State.setPair s x) := by
  unfold State.setPair
  refine Keeps.of_mk ?_ rfl
  exact h

theorem State.peerIntr_keeps {o s : State} {cause : Nat} {arg : Nat} (h : Keeps o s) :
    Keeps o (State.peerIntr s cause arg) := by
  unfold State.peerIntr
  exact State.intrEvent_keeps h

theorem State.setPrState_keeps {o s : State} {st : Nat} (h : Keeps o s) : Keeps o (State.setPrState s st) := by
  unfold State.setPrState
  extract_lets s1
  have hs1 : Keeps o s1 := by
    unfold s1
    exact State.setFld_keeps h
  clear_value s1
  exact Keeps.ite h (State.peerIntr_keeps hs1)

theorem State.setPrima_keeps {o s : State} {p : Nat} {a : Bool} (h : Keeps o s) : Keeps o (State.setPrima s p a) := by
  unfold State.setPrima
  exact State.setFld_keeps h

theorem State.setArmed_keeps {o s : State} {p : Nat} {a : Bool} (h : Keeps o s) : Keeps o (State.setArmed s p a) := by
  unfold State.setArmed
  exact State.setFld_keeps h

theorem State.setPrimary_keeps {o s : State} {p : Nat} {here : Bool} (h : Keeps o s) :
    Keeps o (State.setPrimary s p here) := by
  unfold State.setPrimary
  exact State.setPrima_keeps h

theorem State.PeerOnly.keeps {o s t : State} (k : s.PeerOnly t) (h : Keeps o s) : Keeps o t := by
  obtain ⟨_, _, _, rfl⟩ := k
  exact Keeps.of_mk h rfl

theorem State.setPl_keeps {o s : State} {x : PeerLl} (h : Keeps o s) : Keeps o (State.setPl s x) := (s.setPl_peerOnly x).keeps h

theorem State.peerPut_keeps {o s : State} {p : Pkt} {n : Nat} (h : Keeps o s) : Keeps o (State.peerPut s p n) := (s.peerPut_peerOnly p n).keeps h

theorem State.peerSend_keeps {o s : State} {kind : Nat} {cs : List Crumb} (h : Keeps o s) :
    Keeps o (State.peerSend s kind cs) := (s.peerSend_peerOnly kind cs).keeps h

theorem State.plSendCredit_keeps {o s : State} {i n : Bool} (h : Keeps o s) : Keeps o (State.plSendCredit s i n) := State.peerPut_keeps h

theorem State.plStart_keeps {o s : State} (h : Keeps o s) : Keeps o (State.plStart s) := State.plSendCredit_keeps (State.setPl_keeps h)

theorem State.pairReinit_keeps {o s : State} {cause : Nat} (h : Keeps o s) : Keeps o (State.pairReinit s cause) := by
  unfold State.pairReinit
  exact State.setPair_keeps (State.bump_keeps (State.report_keeps (State.setPl_keeps h)))

theorem State.plRestart_keeps {o s : State} {cause : Nat} (h : Keeps o s) : Keeps o (State.plRestart s cause) :=
  State.plStart_keeps (State.pairReinit_keeps h)

theorem State.plPumped_keeps {o s : State} (h : Keeps o s) : Keeps o (State.plPumped s) := (s.peerPump_peerOnly s.pl.wait []).keeps h

theorem State.plNak_keeps {o s : State} (h : Keeps o s) : Keeps o (State.plNak s) := by
  unfold State.plNak
  exact Keeps.ite h (State.plSendCredit_keeps (State.setPl_keeps h))

theorem State.plAccept_keeps {o s : State} {c : Crumb} {p : List Crumb} (h : Keeps o s) : Keeps o (State.plAccept s c p) := by
  unfold State.plAccept
  exact Keeps.ite (State.plRestart_keeps (State.setPl_keeps h)) (State.plSendCredit_keeps (State.setPl_keeps h))

theorem State.plChecked_keeps {o s : State} {cs : List Crumb} {k : State → Crumb → List Crumb → State} (h : Keeps o s)
    (hk : ∀ c p, Keeps o (k s c p)) : Keeps o (State.plChecked s cs k) := by
  unfold State.plChecked
  refine Keeps.ite h ?_
  split
  · exact hk _ _
  · exact State.plNak_keeps h

theorem State.plTake_keeps {o s : State} {cs : List Crumb} (h : Keeps o s) : Keeps o (State.plTake s cs) :=
  State.plChecked_keeps h fun _ _ =>
    Keeps.ite h (Keeps.ite (State.plAccept_keeps h) (Keeps.ite (State.plNak_keeps h) (State.plSendCredit_keeps h)))

theorem State.plAcked_keeps {o s : State} {n : Nat} (h : Keeps o s) : Keeps o (State.plAcked s n) := by
  unfold State.plAcked
  exact Keeps.ite h (State.setPl_keeps h)

theorem State.plOnCredit_keeps {o s : State} {cs : List Crumb} {i n : Bool} {k : State → List Crumb → Nat → State} (h : Keeps o s)
    (hk : ∀ p q, Keeps o (k s p q)) : Keeps o (State.plOnCredit s cs i n k) :=
  State.plChecked_keeps h fun _ _ => Keeps.ite h (hk _ _)

theorem State.plCredit_keeps {o s : State} {cs : List Crumb} (h : Keeps o s) : Keeps o (State.plCredit s cs) :=
  State.plOnCredit_keeps h fun _ _ => Keeps.ite (State.plPumped_keeps (State.plAcked_keeps (State.setPl_keeps h))) h

theorem State.plUp_keeps {o s : State} (h : Keeps o s) : Keeps o (State.plUp s) := by
  unfold State.plUp
  exact Keeps.ite (State.plPumped_keeps (State.setLink_keeps (State.setPl_keeps h))) h

theorem State.plInit_keeps {o s : State} {cs : List Crumb} (h : Keeps o s) : Keeps o (State.plInit s cs) :=
  State.plOnCredit_keeps h fun _ _ =>
    State.plUp_keeps (State.plSendCredit_keeps (State.setPl_keeps (Keeps.ite (State.plRestart_keeps h) h)))

theorem State.plReplay_keeps {o s : State} (h : Keeps o s) : Keeps o (State.plReplay s) := by
  unfold State.plReplay
  exact Keeps.ite h (Keeps.foldl (State.setPl_keeps h) fun _ _ k => State.peerPut_keeps k)

theorem State.plReplaySoon_keeps {o s : State} (h : Keeps o s) : Keeps o (State.plReplaySoon s) := by
  unfold State.plReplaySoon
  exact Keeps.ite h (State.plReplay_keeps h)

theorem State.plNakCredit_keeps {o s : State} {cs : List Crumb} (h : Keeps o s) : Keeps o (State.plNakCredit s cs) :=
  State.plOnCredit_keeps h fun _ _ =>
    Keeps.ite (State.plPumped_keeps (State.plReplaySoon_keeps (State.plAcked_keeps (State.setPl_keeps h)))) h

theorem State.pairCtl_keeps {o s : State} {ctype : Nat} {code : Nat} {num : Nat} {arg : Nat} {more : List Nat}
    (h : Keeps o s) :
    Keeps o (State.pairCtl s ctype code num arg more) := by
  unfold State.pairCtl
  exact State.peerSend_keeps h

theorem State.pairReq_keeps {o s : State} {ctype : Nat} {code : Nat} {arg : Nat} {more : List Nat} (h : Keeps o s) :
    Keeps o (State.pairReq s ctype code arg more) := by
  unfold State.pairReq
  extract_lets n1 x2
  exact State.pairCtl_keeps (State.setPair_keeps h)

theorem State.portInfo_keeps {o s : State} {p : Nat} {present : Bool} (h : Keeps o s) :
    Keeps o (State.portInfo s p present) := by
  unfold State.portInfo
  extract_lets l1
  exact Keeps.ite h (State.pairReq_keeps h)

theorem State.pairMismatch_keeps {o s : State} {p : Nat} (h : Keeps o s) : Keeps o (State.pairMismatch s p) := by
  unfold State.pairMismatch
  extract_lets i1 bad2 was3 x4
  exact Keeps.ite (Keeps.ite h (State.report_keeps (State.setPair_keeps h))) (State.setPair_keeps h)

theorem State.sendDone_keeps {o s : State} {p : Nat} {k : Nat} {fn : Nat} (h : Keeps o s) :
    Keeps o (State.sendDone s p k fn) := by
  unfold State.sendDone
  exact State.peerSend_keeps h

theorem State.delivered_keeps {o s : State} {sid : Nat} {fn : Nat} (h : Keeps o s) :
    Keeps o (State.delivered s sid fn) := by
  unfold State.delivered
  extract_lets p1 a2 x3 s4 all5
  have hs4 : Keeps o s4 := by
    unfold s4
    exact State.setPair_keeps h
  clear_value s4
  exact Keeps.ite h (Keeps.ite (State.sendDone_keeps h) (Keeps.ite (State.sendDone_keeps hs4) hs4))

theorem State.editFrame_keeps {o s : State} {p : Nat} {fn : Nat} {k : Frame → Frame} (h : Keeps o s) :
    Keeps o (State.editFrame s p fn k) := by
  unfold State.editFrame
  extract_lets c1 g2 s3
  have hs3 : Keeps o s3 := by
    unfold s3
    refine Keeps.of_mk ?_ rfl
    exact h
  clear_value s3
  exact State.setCam_keeps hs3

theorem State.announce_keeps {o s : State} {sid : Nat} {f : Frame} (h : Keeps o s) :
    Keeps o (State.announce s sid f) := by
  unfold State.announce
  extract_lets x1 fmt2
  split
  · extract_lets s3 x4
    have hs3 : Keeps o s3 := by
      unfold s3
      exact State.formatChange_keeps h
    clear_value s3
    exact State.setStream_keeps hs3
  · exact Keeps.ite h (State.formatChange_keeps h)

theorem State.endOn_keeps {o s : State} {p : Nat} {k : Nat} {fn : Nat} (h : Keeps o s) :
    Keeps o (State.endOn s p k fn) := by
  unfold State.endOn
  extract_lets sid1 x2 s3
  have hs3 : Keeps o s3 := by
    unfold s3
    exact State.setStream_keeps h
  clear_value s3
  exact State.editFrame_keeps hs3

theorem State.giveNotice_keeps {o s : State} {p : Nat} {k : Nat} {f : Frame} (h : Keeps o s) :
    Keeps o (State.giveNotice s p k f) := by
  unfold State.giveNotice
  extract_lets sid1 s2 integ3 fl4 s5
  have hs2 : Keeps o s2 := by
    unfold s2
    exact State.announce_keeps h
  clear_value s2
  have hs5 : Keeps o s5 := by
    unfold s5
    exact Keeps.ite (State.noticeAt_keeps hs2) (State.notice_keeps hs2)
  clear_value s5
  exact State.endOn_keeps hs5

theorem State.settleOut_keeps {o s : State} {p : Nat} {k : Nat} {z3 : List Frame} (h : Keeps o s) :
    Keeps o (State.settleOut s p k z3) := by
  revert h
  fun_induction State.settleOut s p k z3
  · intro k1
    exact k1
  · intro k2
    rename_i v3
    with_reducible apply v3
    exact State.giveNotice_keeps k2
  · intro k4
    exact k4

theorem State.drainUnits_keeps {o s : State} {sid : Nat} {z2 : List EgUnit} (h : Keeps o s) :
    Keeps o (State.drainUnits s sid z2).2 := by
  revert h
  fun_induction State.drainUnits s sid z2
  · intro k1
    exact k1
  · intro k2
    rename_i v3
    with_reducible apply v3
    exact State.push_keeps k2
  · intro k4
    exact k4

theorem State.drainStores_keeps {o s : State} {sid : Nat} {z2 : List (List EgUnit)} (h : Keeps o s) :
    Keeps o (State.drainStores s sid z2).2 := by
  induction z2 generalizing s with
  | nil => exact h
  | cons us r ih =>
    have hd := State.drainUnits_keeps (sid := sid) (z2 := us) h
    unfold State.drainStores
    split
    · next heq => rw [heq] at hd; exact ih hd
    · next heq => rw [heq] at hd; exact hd

theorem State.drainStore_keeps {o s : State} {sid : Nat} (h : Keeps o s) : Keeps o (State.drainStore s sid) := by
  unfold State.drainStore
  extract_lets x1 r2 x3
  have hr2 : Keeps o r2.2 := by
    unfold r2
    exact State.drainStores_keeps h
  clear_value r2
  exact Keeps.ite h (State.setStream_keeps hr2)

theorem State.dueOut_keeps {o s : State} {p : Nat} {k : Nat} {z3 : List (Nat × Nat)} (h : Keeps o s) :
    Keeps o (State.dueOut s p k z3) := by
  revert h
  fun_induction State.dueOut s p k z3
  · intro k1
    exact k1
  · intro k2
    rename_i v3 v4 v5
    extract_lets x6
    exact State.setStream_keeps k2
  · intro k7
    rename_i v8 v9 v10 v11
    extract_lets x12
    with_reducible apply v11
    exact State.statusNow_keeps (State.setStream_keeps k7)

theorem State.settleK_keeps {o s : State} {p : Nat} {k : Nat} (h : Keeps o s) : Keeps o (State.settleK s p k) := by
  unfold State.settleK
  extract_lets sid1 s2 s3 s4 s5 x6 s7 x8
  have hs2 : Keeps o s2 := by
    unfold s2
    exact State.drainStore_keeps h
  clear_value s2
  have hs3 : Keeps o s3 := by
    unfold s3
    exact State.settleOut_keeps hs2
  clear_value s3
  have hs4 : Keeps o s4 := by
    unfold s4
    exact State.dueOut_keeps hs3
  clear_value s4
  have hs5 : Keeps o s5 := by
    unfold s5
    exact State.settleOut_keeps hs4
  clear_value s5
  have hs7 : Keeps o s7 := by
    unfold s7
    exact Keeps.ite hs5 (State.closeStream_keeps hs5)
  clear_value s7
  exact Keeps.ite hs2 (Keeps.ite (State.setStream_keeps hs7) hs5)

theorem State.settle_keeps {o s : State} {p : Nat} (h : Keeps o s) : Keeps o (State.settle s p) := by
  unfold State.settle
  extract_lets s1 idle2 shut3
  have hs1 : Keeps o s1 := by
    unfold s1
    exact State.settleK_keeps (State.settleK_keeps (State.settleK_keeps (State.settleK_keeps h)))
  clear_value s1
  have hshut3 : ∀ y0 y1, Keeps o y0 → Keeps o (shut3 y0 y1) := by
    unfold shut3
    intro k4 k5 k6
    extract_lets sid7 x8
    exact Keeps.ite (State.setStream_keeps (State.closeStream_keeps k6)) k6
  clear_value shut3
  with_reducible apply hshut3
  with_reducible apply hshut3
  exact hs1

theorem State.complete_keeps {o s : State} {tag : Nat} {addr : Nat} {n : Nat} {status : Nat} {detail : Nat} {data : List Byte}
    (h : Keeps o s) :
    Keeps o (State.complete s tag addr n status detail data) := by
  unfold State.complete
  extract_lets p1 s2 x3
  have hs2 : Keeps o s2 := by
    unfold s2
    exact Keeps.ite (State.bump_keeps h) h
  clear_value s2
  exact State.setUpl_keeps hs2

theorem State.tunnel_keeps {o s : State} {sid : Nat} {key : Nat} {ttype : Nat} {tstat : Nat} {inst : Nat} {ttag : Nat} {item : List Byte}
    (h : Keeps o s) :
    Keeps o (State.tunnel s sid key ttype tstat inst ttag item) := by
  unfold State.tunnel
  extract_lets h1 p2 s3 x4
  have hs3 : Keeps o s3 := by
    unfold s3
    exact Keeps.ite h (State.bump_keeps h)
  clear_value s3
  exact Keeps.ite (State.setUpl_keeps hs3) (State.setUpl_keeps hs3)

theorem State.markShed_keeps {o s : State} {shed : List Nat} {z2 : List Nat} (h : Keeps o s) :
    Keeps o (State.markShed s shed z2) := by
  revert h
  fun_induction State.markShed s shed z2
  · intro k1
    exact k1
  · intro k2
    rename_i v3
    extract_lets x4
    with_reducible apply v3
    exact State.setStream_keeps k2

theorem State.countShed_keeps {o s : State} (h : Keeps o s) : Keeps o (State.countShed s) := by
  unfold State.countShed
  exact State.bump_keeps h

theorem State.capacityChanged_keeps {o s : State} (h : Keeps o s) : Keeps o (State.capacityChanged s) := by
  unfold State.capacityChanged
  extract_lets c1 cap2 load3 s4 sids5 shed6 more7 s8 s9 s10 x11
  have hs4 : Keeps o s4 := by
    unfold s4
    exact State.setFlds_keeps h
  clear_value s4
  have hs8 : Keeps o s8 := by
    unfold s8
    exact State.markShed_keeps hs4
  clear_value s8
  have hs9 : Keeps o s9 := by
    unfold s9
    exact State.setFld_keeps hs8
  clear_value s9
  have hs10 : Keeps o s10 := by
    unfold s10
    exact Keeps.ite (State.report_keeps hs9) hs9
  clear_value s10
  exact State.setUpl_keeps hs10

theorem State.stopFrame_keeps {o s : State} {sid : Nat} {l : Nat × Nat} (h : Keeps o s) :
    Keeps o (State.stopFrame s sid l) := by
  unfold State.stopFrame
  extract_lets x1 s2 y3 y4
  have hs2 : Keeps o s2 := by
    unfold s2
    exact State.setStream_keeps h
  clear_value s2
  refine Keeps.ite ?_ ?_
  · refine Keeps.of_mk ?_ rfl
    exact hs2
  · exact State.endOn_keeps hs2

theorem State.stopFrames_keeps {o s : State} {sid : Nat} {all : List EgUnit} {z3 : List (Nat × Nat)} (h : Keeps o s) :
    Keeps o (State.stopFrames s sid all z3) := by
  revert h
  fun_induction State.stopFrames s sid all z3
  · intro k1
    exact k1
  · intro k2
    rename_i v3
    with_reducible apply v3
    exact Keeps.ite k2 (State.stopFrame_keeps k2)

theorem State.refill_keeps {o s : State} {sid : Nat} (h : Keeps o s) : Keeps o (State.refill s sid) := by
  unfold State.refill
  extract_lets held1 fifo2 x3 all4 gone5 notices6 again7 keep8 f9 s10 x11 s12 x13
  have hs10 : Keeps o s10 := by
    unfold s10
    exact State.stopFrames_keeps h
  clear_value s10
  have hs12 : Keeps o s12 := by
    unfold s12
    exact State.setStream_keeps hs10
  clear_value s12
  exact Keeps.ite (State.setUpl_keeps hs12) (State.setUpl_keeps hs12)

theorem State.refillAll_keeps {o s : State} {z1 : List Nat} (h : Keeps o s) : Keeps o (State.refillAll s z1) := by
  revert h
  fun_induction State.refillAll s z1
  · intro k1
    exact k1
  · intro k2
    rename_i v3
    with_reducible apply v3
    exact State.refill_keeps k2

theorem State.expireLock_keeps {o s : State} {l : Lock} {detail : Nat} (h : Keeps o s) :
    Keeps o (State.expireLock s l detail) := by
  unfold State.expireLock
  extract_lets b1 s2
  have hs2 : Keeps o s2 := by
    unfold s2
    refine Keeps.of_mk ?_ rfl
    exact h
  clear_value s2
  exact State.report_keeps (State.bump_keeps hs2)

theorem State.expireLocks_keeps {o s : State} {detail : Nat} {z2 : List Lock} (h : Keeps o s) :
    Keeps o (State.expireLocks s detail z2) := by
  revert h
  fun_induction State.expireLocks s detail z2
  · intro k1
    exact k1
  · intro k2
    rename_i v3
    with_reducible apply v3
    exact State.expireLock_keeps k2

theorem State.replayAll_keeps {o s : State} (h : Keeps o s) : Keeps o (State.replayAll s) := by
  unfold State.replayAll
  extract_lets x1
  exact Keeps.ite h (State.bump_keeps (State.setUpl_keeps h))

theorem State.uplReinit_keeps {o s : State} {cause : Nat} (h : Keeps o s) : Keeps o (State.uplReinit s cause) := by
  unfold State.uplReinit
  extract_lets s1 u2 sids3 s4 u5 ints6 s7 s8
  have hs1 : Keeps o s1 := by
    unfold s1
    exact State.bump_keeps (State.report_keeps h)
  clear_value s1
  have hs4 : Keeps o s4 := by
    unfold s4
    exact State.refillAll_keeps hs1
  clear_value s4
  have hs7 : Keeps o s7 := by
    unfold s7
    exact State.setUpl_keeps hs4
  clear_value s7
  have hs8 : Keeps o s8 := by
    unfold s8
    exact State.expireLocks_keeps hs7
  clear_value s8
  exact State.setFlds_keeps hs8

theorem State.uplStart_keeps {o s : State} (h : Keeps o s) : Keeps o (State.uplStart s) := by
  unfold State.uplStart
  extract_lets x1 s2 s3
  have hs2 : Keeps o s2 := by
    unfold s2
    exact State.setUpl_keeps h
  clear_value s2
  have hs3 : Keeps o s3 := by
    unfold s3
    exact State.setFlds_keeps hs2
  clear_value s3
  exact State.capacityChanged_keeps hs3

theorem State.uplDown_keeps {o s : State} (h : Keeps o s) : Keeps o (State.uplDown s) := by
  unfold State.uplDown
  exact State.uplReinit_keeps h

theorem State.bridgeOff_keeps {o s : State} (h : Keeps o s) : Keeps o (State.bridgeOff s) := by
  unfold State.bridgeOff
  extract_lets lost1 held2 x3 s4 x5 s6
  have hs4 : Keeps o s4 := by
    unfold s4
    exact State.setUpl_keeps h
  clear_value s4
  have hs6 : Keeps o s6 := by
    unfold s6
    refine Keeps.of_mk ?_ rfl
    exact hs4
  clear_value s6
  exact State.bump_keeps hs6

theorem State.mbxIntr_keeps {o s : State} {ch : Nat} {cause : Nat} {arg : Nat} (h : Keeps o s) :
    Keeps o (State.mbxIntr s ch cause arg) := by
  unfold State.mbxIntr
  exact State.intrEvent_keeps h

theorem State.chError_keeps {o s : State} {ch : Nat} {v : Nat} (h : Keeps o s) : Keeps o (State.chError s ch v) := by
  unfold State.chError
  extract_lets mute1 m2 s3
  have hs3 : Keeps o s3 := by
    unfold s3
    refine Keeps.of_mk ?_ rfl
    exact h
  clear_value s3
  exact State.mbxIntr_keeps (State.setFld_keeps (State.setFld_keeps hs3))

theorem State.chState_keeps {o s : State} {ch : Nat} (h : Keeps o s) : Keeps o (State.chState s ch) := by
  unfold State.chState
  extract_lets st1
  exact Keeps.ite h (State.setFld_keeps h)

theorem State.putResponse_keeps {o s : State} {r : Req} {final : Bool} {status : Nat} {detail : Nat} {result : List Byte}
    (h : Keeps o s) :
    Keeps o (State.putResponse s r final status detail result) := by
  unfold State.putResponse
  extract_lets rpi1 b2 s3 x4 s5
  have hs3 : Keeps o s3 := by
    unfold s3
    exact State.poke_keeps h
  clear_value s3
  have hs5 : Keeps o s5 := by
    unfold s5
    exact State.setFld_keeps hs3
  clear_value s5
  exact Keeps.ite h (Keeps.ite hs5 (State.mbxIntr_keeps hs5))

theorem State.dropReq_keeps {o s : State} {r : Req} (h : Keeps o s) : Keeps o (State.dropReq s r) := by
  unfold State.dropReq
  extract_lets m1 cur2
  refine Keeps.of_mk ?_ rfl
  exact h

theorem State.final_keeps {o s : State} {r : Req} {status : Nat} {detail : Nat} {result : List Byte} (h : Keeps o s) :
    Keeps o (State.final s r status detail result) := by
  unfold State.final
  exact State.chState_keeps (State.putResponse_keeps (State.dropReq_keeps h))

theorem State.done_keeps {o s : State} {r : Req} {result : List Byte} (h : Keeps o s) :
    Keeps o (State.done s r result) := by
  unfold State.done
  exact State.final_keeps h

theorem State.refuse_keeps {o s : State} {r : Req} {status : Nat} {detail : Nat} (h : Keeps o s) :
    Keeps o (State.refuse s r status detail) := by
  unfold State.refuse
  exact State.final_keeps h

theorem State.interim_keeps {o s : State} {r : Req} {result : List Byte} (h : Keeps o s) :
    Keeps o (State.interim s r result) := by
  unfold State.interim
  extract_lets s1 x2 x3 s4 s5
  have hs1 : Keeps o s1 := by
    unfold s1
    exact State.dropReq_keeps h
  clear_value s1
  have hs4 : Keeps o s4 := by
    unfold s4
    refine Keeps.of_mk ?_ rfl
    exact hs1
  clear_value s4
  have hs5 : Keeps o s5 := by
    unfold s5
    exact Keeps.ite hs4 (State.putResponse_keeps hs4)
  clear_value s5
  exact State.chState_keeps hs5

theorem State.interimAt_keeps {o s : State} {r : Req} {base : Nat} {result : List Byte} (h : Keeps o s) :
    Keeps o (State.interimAt s r base result) := by
  unfold State.interimAt
  extract_lets x1 m2
  with_reducible apply State.interim_keeps
  refine Keeps.of_mk ?_ rfl
  exact h

theorem State.finish_keeps {o s : State} {ch : Nat} {opcode : Nat} {tag : Nat} {status : Nat} {detail : Nat} {result : List Byte}
    (h : Keeps o s) :
    Keeps o (State.finish s ch opcode tag status detail result) := by
  unfold State.finish
  split
  · exact State.final_keeps h
  · exact h

theorem State.abortRuns_keeps {o s : State} {p : Req → Bool} {detail : Nat} {z3 : List Req} (h : Keeps o s) :
    Keeps o (State.abortRuns s p detail z3) := by
  revert h
  fun_induction State.abortRuns s p detail z3
  · intro k1
    exact k1
  · intro k2
    rename_i v3
    with_reducible apply v3
    exact Keeps.ite (State.refuse_keeps k2) k2

theorem State.onCommand_keeps {o s : State} {ch : Chan} {opcode : Nat} {k : State → Req → State}
    (h : Keeps o s) (hk : ∀ (y0 : State) (y1 : Req), Keeps o y0 → Keeps o (k y0 y1)) :
    Keeps o (State.onCommand s ch opcode k) := by
  unfold State.onCommand
  split
  · with_reducible apply hk
    exact h
  · exact h

theorem State.toBuffer_keeps {o s : State} {ch : Nat} {l : List Byte} (h : Keeps o s) :
    Keeps o (State.toBuffer s ch l).1 := by
  unfold State.toBuffer
  dsimp -zeta only
  exact State.poke_keeps h

theorem State.closeStage_keeps {o s : State} {n : Nat} (h : Keeps o s) : Keeps o (State.closeStage s n) := by
  unfold State.closeStage
  extract_lets x1 s2
  have hs2 : Keeps o s2 := by
    unfold s2
    refine Keeps.of_mk ?_ rfl
    exact h
  clear_value s2
  exact State.setFld_keeps hs2

theorem State.openStage_keeps {o s : State} {n : Nat} {ch : Nat} {base : Nat} {size : Nat} (h : Keeps o s) :
    Keeps o (State.openStage s n ch base size) := by
  unfold State.openStage
  extract_lets x1 s2
  have hs2 : Keeps o s2 := by
    unfold s2
    refine Keeps.of_mk ?_ rfl
    exact h
  clear_value s2
  exact State.setFlds_keeps hs2

theorem State.closeStages_keeps {o s : State} (h : Keeps o s) : Keeps o (State.closeStages s) := by
  unfold State.closeStages
  exact State.closeStage_keeps (State.closeStage_keeps h)

theorem State.drawNonce_keeps {o s : State} (h : Keeps o s) : Keeps o (State.drawNonce s).2 := by
  unfold State.drawNonce
  dsimp -zeta only
  refine Keeps.of_mk ?_ rfl
  exact h

theorem State.zeroise_keeps {o s : State} {arg : Nat} {lock : Bool} (h : Keeps o s) :
    Keeps o (State.zeroise s arg lock) := by
  unfold State.zeroise
  extract_lets s1 s2 s3
  have hs1 : Keeps o s1 := by
    unfold s1
    refine Keeps.of_mk ?_ rfl
    exact h
  clear_value s1
  have hs2 : Keeps o s2 := by
    unfold s2
    exact State.setFlds_keeps hs1
  clear_value s2
  have hs3 : Keeps o s3 := by
    unfold s3
    exact Keeps.ite (State.setFlds_keeps hs2) hs2
  clear_value s3
  exact State.report_keeps hs3

theorem State.setPort_keeps {o s : State} {p : Nat} {x : PortSt} (h : Keeps o s) : Keeps o (State.setPort s p x) := by
  unfold State.setPort
  refine Keeps.of_mk ?_ rfl
  exact h

theorem State.bcQueue_keeps {o s : State} {p : Nat} {c : BcCmd} (h : Keeps o s) : Keeps o (State.bcQueue s p c) := by
  unfold State.bcQueue
  extract_lets x1
  exact State.setPort_keeps h

theorem State.hpIntr_keeps {o s : State} {p : Nat} {cause : Nat} {arg : Nat} (h : Keeps o s) :
    Keeps o (State.hpIntr s p cause arg) := by
  unfold State.hpIntr
  exact State.intrEvent_keeps h

theorem State.putPctl_keeps {o s : State} {p : Nat} {v : Nat} (h : Keeps o s) : Keeps o (State.putPctl s p v) := by
  unfold State.putPctl
  extract_lets w1
  exact State.setFlds_keeps h

theorem State.setPstate_keeps {o s : State} {p : Nat} {st : Nat} (h : Keeps o s) :
    Keeps o (State.setPstate s p st) := by
  unfold State.setPstate
  extract_lets x1 s2
  have hs2 : Keeps o s2 := by
    unfold s2
    split
    · exact Keeps.ite (State.putPctl_keeps (State.setPort_keeps h)) h
    · exact h
  clear_value s2
  exact State.setFld_keeps hs2

theorem State.pwFail_keeps {o s : State} {tag : Nat} {addr : Nat} {code : Nat} {detail : Nat} {scope : Nat}
    (h : Keeps o s) :
    Keeps o (State.pwFail s tag addr code detail scope) := by
  unfold State.pwFail
  extract_lets s1 s2 s3
  have hs1 : Keeps o s1 := by
    unfold s1
    exact Keeps.ite (State.bump_keeps h) (State.setFlds_keeps h)
  clear_value s1
  have hs2 : Keeps o s2 := by
    unfold s2
    exact Keeps.ite (State.bump_keeps hs1) hs1
  clear_value s2
  have hs3 : Keeps o s3 := by
    unfold s3
    exact State.intrEvent_keeps hs2
  clear_value s3
  exact State.report_keeps hs3

theorem State.ledgerSee_keeps {o s : State} {p : Nat} {attached : Bool} (h : Keeps o s) :
    Keeps o (State.ledgerSee s p attached) := by
  unfold State.ledgerSee
  extract_lets x1 serial2 old3 auth4 e5
  refine Keeps.ite ?_ ?_
  · exact h
  · refine Keeps.of_mk ?_ rfl
    exact h

theorem State.hideHead_keeps {o s : State} {p : Nat} (h : Keeps o s) : Keeps o (State.hideHead s p) := by
  unfold State.hideHead
  exact State.setFlds_keeps h

end Sys2Proof.Machine
end

