-- ==== Sys2Proof/Laws/KeepsPath.lean ====
section
/-!
SUPPORT. What every operation and every command keeps (Keeps): time, slices, the uplink, the heads and frames.
-/
namespace Sys2Proof.Machine

theorem State.tsuState_keeps {o s : State} {st : Nat} (h : Keeps o s) : Keeps o (State.tsuState s st) := by
  unfold State.tsuState
  extract_lets x1 x2 x3
  have hx1 : Keeps o x1 := by
    unfold x1
    exact State.setFld_keeps (State.setFld_keeps h)
  clear_value x1
  have hx3 : Keeps o x3 := by
    unfold x3
    refine Keeps.ite ?_ ?_
    · exact hx1
    · refine Keeps.of_mk ?_ rfl
      exact hx1
  clear_value x3
  exact Keeps.ite hx3 (State.intrEvent_keeps hx3)

theorem State.setInc_keeps {o s : State} {adj : Int} (h : Keeps o s) : Keeps o (State.setInc s adj) := by
  unfold State.setInc
  extract_lets k1 x2
  with_reducible apply State.setFld_keeps
  refine Keeps.of_mk ?_ rfl
  exact h

theorem State.startSlew_keeps {o s : State} {e : Int} (h : Keeps o s) : Keeps o (State.startSlew s e) := by
  unfold State.startSlew
  extract_lets x1 s2
  have hs2 : Keeps o s2 := by
    unfold s2
    refine Keeps.of_mk ?_ rfl
    exact h
  clear_value s2
  exact State.setInc_keeps (State.setFld_keeps hs2)

theorem State.stopSlew_keeps {o s : State} (h : Keeps o s) : Keeps o (State.stopSlew s) := by
  unfold State.stopSlew
  extract_lets x1 s2
  have hs2 : Keeps o s2 := by
    unfold s2
    refine Keeps.of_mk ?_ rfl
    exact h
  clear_value s2
  exact State.setInc_keeps (State.setFld_keeps hs2)

theorem State.holdover_keeps {o s : State} (h : Keeps o s) : Keeps o (State.holdover s) := by
  unfold State.holdover
  extract_lets x1 s2
  have hs2 : Keeps o s2 := by
    unfold s2
    with_reducible apply State.setFld_keeps
    refine Keeps.of_mk ?_ rfl
    exact h
  clear_value s2
  exact Keeps.ite h (State.setInc_keeps (State.tsuState_keeps hs2))

theorem State.holdDue_keeps {o s : State} {t : Nat} (h : Keeps o s) : Keeps o (State.holdDue s t) := by
  unfold State.holdDue
  extract_lets st1
  exact Keeps.ite (State.holdover_keeps h) h

theorem State.tick_keeps {o s : State} (h : Keeps o s) : Keeps o (State.tick s) := by
  unfold State.tick
  extract_lets x1 s2 x3
  have hs2 : Keeps o s2 := by
    unfold s2
    refine Keeps.of_mk ?_ rfl
    exact h
  clear_value s2
  refine Keeps.ite ?_ ?_
  · exact State.holdDue_keeps hs2
  · refine Keeps.ite ?_ ?_
    · refine Keeps.of_mk ?_ rfl
      exact h
    · exact h

theorem State.timeStep_keeps {o s : State} {d : Int} {whole : Bool} (h : Keeps o s) :
    Keeps o (State.timeStep s d whole) := by
  unfold State.timeStep
  extract_lets t1 t2 mv3 x4 x5 s6
  have hs6 : Keeps o s6 := by
    unfold s6
    refine Keeps.of_mk ?_ rfl
    exact h
  clear_value s6
  exact Keeps.ite h (State.report_keeps (State.stopSlew_keeps (State.drivePps_keeps hs6)))

theorem State.setSeconds_keeps {o s : State} {sec : Nat} (h : Keeps o s) : Keeps o (State.setSeconds s sec) := by
  unfold State.setSeconds
  exact State.timeStep_keeps h

theorem State.applySet_keeps {o s : State} {r : Req} {sec : Nat} {when_ : Nat} (h : Keeps o s) :
    Keeps o (State.applySet s r sec when_) := by
  unfold State.applySet
  extract_lets d1 slews2 ans3 st4 s5 s6 x7 s8
  have hans3 : ∀ y0 y1, Keeps o y0 → Keeps o (ans3 y0 y1) := by
    unfold ans3
    intro k9 k10 k11
    exact State.done_keeps k11
  clear_value ans3
  have hs5 : Keeps o s5 := by
    unfold s5
    exact State.setFld_keeps h
  clear_value s5
  have hs6 : Keeps o s6 := by
    unfold s6
    exact Keeps.ite (State.tsuState_keeps hs5) hs5
  clear_value s6
  have hs8 : Keeps o s8 := by
    unfold s8
    refine Keeps.ite ?_ ?_
    · with_reducible apply State.tsuState_keeps
      refine Keeps.of_mk ?_ rfl
      exact hs6
    · exact hs6
  clear_value s8
  refine Keeps.ite ?_ ?_
  · exact State.refuse_keeps h
  · refine Keeps.ite ?_ ?_
    · with_reducible apply hans3
      exact Keeps.ite hs8 (State.startSlew_keeps hs8)
    · with_reducible apply hans3
      exact State.setSeconds_keeps hs8

theorem State.loopRun_keeps {o s : State} {e : Int} (h : Keeps o s) : Keeps o (State.loopRun s e) := by
  unfold State.loopRun
  extract_lets integ1 adj2 x3
  with_reducible apply State.setInc_keeps
  refine Keeps.of_mk ?_ rfl
  exact h

theorem State.acceptJump_keeps {o s : State} {e : Int} {cap : Nat} (h : Keeps o s) :
    Keeps o (State.acceptJump s e cap) := by
  unfold State.acceptJump
  extract_lets x1 s2 ok3 h4 x5 a6 x7
  have hs2 : Keeps o s2 := by
    unfold s2
    refine Keeps.of_mk ?_ rfl
    exact h
  clear_value s2
  have hok3 : ∀ y0, Keeps o y0 → Keeps o (ok3 y0) := by
    unfold ok3
    intro k8 k9
    extract_lets x10
    with_reducible apply State.setFld_keeps
    refine Keeps.of_mk ?_ rfl
    exact k9
  clear_value ok3
  have hh4 : Keeps o h4 := by
    unfold h4
    exact State.holdover_keeps hs2
  clear_value h4
  have ha6 : Keeps o a6 := by
    unfold a6
    with_reducible apply State.tsuState_keeps
    with_reducible apply hok3
    exact hs2
  clear_value a6
  refine Keeps.ite ?_ ?_
  · with_reducible apply State.startSlew_keeps
    with_reducible apply State.tsuState_keeps
    with_reducible apply hok3
    exact hs2
  · refine Keeps.ite ?_ ?_
    · with_reducible apply State.report_keeps
      refine Keeps.of_mk ?_ rfl
      exact hh4
    · refine Keeps.of_mk ?_ rfl
      exact ha6

theorem State.goodEdge_keeps {o s : State} {e : Int} {cap : Nat} (h : Keeps o s) :
    Keeps o (State.goodEdge s e cap) := by
  unfold State.goodEdge
  extract_lets st1 near2 good3 x4 s5 s6 x7
  have hs5 : Keeps o s5 := by
    unfold s5
    refine Keeps.of_mk ?_ rfl
    exact h
  clear_value s5
  have hs6 : Keeps o s6 := by
    unfold s6
    exact State.loopRun_keeps (State.setFld_keeps hs5)
  clear_value s6
  exact State.tsuState_keeps hs6

theorem State.outlier_keeps {o s : State} {e : Int} {cap : Nat} (h : Keeps o s) :
    Keeps o (State.outlier s e cap) := by
  unfold State.outlier
  extract_lets st1 s2 s3 run4 agree5 x6
  have hs2 : Keeps o s2 := by
    unfold s2
    exact State.bump_keeps h
  clear_value s2
  have hs3 : Keeps o s3 := by
    unfold s3
    exact Keeps.ite (State.tsuState_keeps hs2) hs2
  clear_value s3
  refine Keeps.ite ?_ ?_
  · exact hs3
  · refine Keeps.ite ?_ ?_
    · exact State.acceptJump_keeps hs3
    · refine Keeps.of_mk ?_ rfl
      exact hs3

theorem State.changeEdge_keeps {o s : State} {c : TimeChange} {e : Int} {cap : Nat} (h : Keeps o s) :
    Keeps o (State.changeEdge s c e cap) := by
  unfold State.changeEdge
  extract_lets x1 s2 x3 s4
  have hs2 : Keeps o s2 := by
    unfold s2
    refine Keeps.ite ?_ ?_
    · exact State.goodEdge_keeps h
    · with_reducible apply State.bump_keeps
      refine Keeps.of_mk ?_ rfl
      exact h
  clear_value s2
  have hs4 : Keeps o s4 := by
    unfold s4
    refine Keeps.of_mk ?_ rfl
    exact hs2
  clear_value s4
  split
  · exact State.timeStep_keeps hs4
  · split
    · exact State.applySet_keeps hs4
    · exact hs4

theorem State.ppsEdge_keeps {o s : State} {cap : Nat} {wide : Bool} (h : Keeps o s) :
    Keeps o (State.ppsEdge s cap wide) := by
  unfold State.ppsEdge
  extract_lets late1 e2 s3 x4 s5
  have hs3 : Keeps o s3 := by
    unfold s3
    exact State.holdDue_keeps h
  clear_value s3
  have hs5 : Keeps o s5 := by
    unfold s5
    with_reducible apply State.setFld_keeps
    refine Keeps.of_mk ?_ rfl
    exact hs3
  clear_value s5
  refine Keeps.ite ?_ ?_
  · exact State.bump_keeps h
  · split
    · exact State.changeEdge_keeps hs5
    · exact Keeps.ite (State.goodEdge_keeps hs5) (State.outlier_keeps hs5)

theorem execPpsEdge_keeps {o : State} {captured : BitVec 64} {wide : Bool} {s : State} (h : Keeps o s) :
    KeepsOut o (execPpsEdge captured wide s) := by
  unfold execPpsEdge
  exact KeepsOut.next (Keeps.ite (State.ppsEdge_keeps h) h)

theorem execPpsLoss_keeps {o s : State} (h : Keeps o s) : KeepsOut o (execPpsLoss s) := by
  unfold execPpsLoss
  extract_lets st1 s2 x3
  have hs2 : Keeps o s2 := by
    unfold s2
    exact State.holdover_keeps h
  clear_value s2
  refine KeepsOut.next ?_
  refine Keeps.ite ?_ ?_
  · with_reducible apply State.report_keeps
    refine Keeps.of_mk ?_ rfl
    exact hs2
  · exact h

theorem execSlewEnd_keeps {o s : State} (h : Keeps o s) : KeepsOut o (execSlewEnd s) := by
  unfold execSlewEnd
  exact KeepsOut.next (Keeps.ite h (State.stopSlew_keeps h))

theorem execPpsOutPulse_keeps {o s : State} (h : Keeps o s) : KeepsOut o (execPpsOutPulse s) := by
  unfold execPpsOutPulse
  exact KeepsOut.next (Keeps.ite (State.drivePps_keeps h) h)

theorem execPpsOutPulseEnd_keeps {o s : State} (h : Keeps o s) : KeepsOut o (execPpsOutPulseEnd s) := by
  unfold execPpsOutPulseEnd
  exact KeepsOut.next (State.drivePps_keeps h)

theorem execTsyncSchedule_keeps {o : State} {port : Port} {s : State} (h : Keeps o s) :
    KeepsOut o (execTsyncSchedule port s) := by
  unfold execTsyncSchedule
  extract_lets p1 x2 st3 cmd4
  refine KeepsOut.next ?_
  exact Keeps.ite h (Keeps.ite (State.bcQueue_keeps (State.setPort_keeps h)) (Keeps.ite (State.bcQueue_keeps h) h))

theorem execHeadTimeStale_keeps {o : State} {port : Port} {s : State} (h : Keeps o s) :
    KeepsOut o (execHeadTimeStale port s) := by
  unfold execHeadTimeStale
  extract_lets p1 x2
  exact KeepsOut.next (Keeps.ite (State.report_keeps (State.setPort_keeps h)) h)

theorem State.latNumber_keeps {o s : State} {c : CfgSet} {g : Nat} {t : Nat} {n : Nat} (h : Keeps o s) :
    Keeps o (State.latNumber s c g t n) := by
  unfold State.latNumber
  extract_lets x1 per2 rdiv3 k4 ld5 d6 tref7 f8
  refine Keeps.ite ?_ ?_
  · exact h
  · refine Keeps.of_mk ?_ rfl
    exact h

theorem execTriggerDispatch_keeps {o : State} {port : Port} {target : BitVec 64} {s : State} (h : Keeps o s) :
    KeepsOut o (execTriggerDispatch port target s) := by
  unfold execTriggerDispatch
  extract_lets p1 t2 c3 x4 st5
  refine KeepsOut.next ?_
  split
  · exact h
  · extract_lets leaves6 s7
    have hs7 : Keeps o s7 := by
      unfold s7
      refine Keeps.ite ?_ ?_
      · refine Keeps.foldl ?_ ?_
        · exact h
        · intro k8 k9 k10
          exact State.latNumber_keeps k10
      · exact h
    clear_value s7
    exact Keeps.ite (State.bcQueue_keeps hs7) hs7

theorem execSyncOutputEdge_keeps {o : State} {pin : SyncPin} {begins : Bool} {s : State} (h : Keeps o s) :
    KeepsOut o (execSyncOutputEdge pin begins s) := by
  unfold execSyncOutputEdge
  extract_lets n1 m2 x3 x4
  have hx3 : Keeps o x3 := by
    unfold x3
    exact State.setSync_keeps h
  clear_value x3
  refine KeepsOut.next ?_
  refine Keeps.ite ?_ ?_
  · refine Keeps.ite ?_ ?_
    · split
      · extract_lets stop5 stop6
        refine Keeps.of_mk ?_ rfl
        exact hx3
      · exact h
    · exact Keeps.ite (State.setSync_keeps h) h
  · exact h

theorem execSyncInputEdge_keeps {o : State} {pin : SyncPin} {falling : Bool} {time : BitVec 64} {s : State}
    (h : Keeps o s) :
    KeepsOut o (execSyncInputEdge pin falling time s) := by
  unfold execSyncInputEdge
  extract_lets n1 m2 takes3 t4 same5 q6 x7 u8 first9 s10
  have hs10 : Keeps o s10 := by
    unfold s10
    with_reducible apply State.bump_keeps
    refine Keeps.of_mk ?_ rfl
    exact h
  clear_value s10
  refine KeepsOut.next ?_
  refine Keeps.ite ?_ ?_
  · exact h
  · refine Keeps.ite ?_ ?_
    · refine Keeps.of_mk ?_ rfl
      exact h
    · exact Keeps.ite (State.report_keeps hs10) hs10

theorem State.popCapture_keeps {o s : State} {n : Nat} (h : Keeps o s) : Keeps o (State.popCapture s n) := by
  unfold State.popCapture
  extract_lets x1
  refine Keeps.of_mk ?_ rfl
  exact h

theorem State.scapRead_keeps {o s : State} {path : Path} {n : Nat} (h : Keeps o s) :
    Keeps o (State.scapRead s path n).2 := by
  unfold State.scapRead
  extract_lets w1 s2
  have hs2 : Keeps o s2 := by
    unfold s2
    exact State.latch_keeps h
  clear_value s2
  dsimp -zeta only
  exact State.popCapture_keeps hs2

theorem execScapPop_keeps {o : State} {path : Path} {pin : SyncPin} {s : State} (h : Keeps o s) :
    KeepsOut o (execScapPop path pin s) := by
  unfold execScapPop
  extract_lets r1 x2
  have hr1 : Keeps o r1.2 := by
    unfold r1
    exact State.scapRead_keeps h
  clear_value r1
  have hx2 : Keeps o x2 := by
    unfold x2
    exact hr1
  clear_value x2
  refine KeepsOut.ite ?_ ?_
  · refine KeepsOut.next ?_
    refine Keeps.of_mk ?_ rfl
    exact hx2
  · exact KeepsOut.next h

theorem State.tsuSnap_keeps {o s : State} (h : Keeps o s) : Keeps o (State.tsuSnap s) := by
  unfold State.tsuSnap
  exact State.setReg_keeps (State.setReg_keeps h)

theorem execTsuSnap_keeps {o s : State} (h : Keeps o s) : KeepsOut o (execTsuSnap s) := by
  unfold execTsuSnap
  exact KeepsOut.next (Keeps.ite (State.tsuSnap_keeps h) h)

theorem execKeeperShadowCopy_keeps {o s : State} (h : Keeps o s) : KeepsOut o (execKeeperShadowCopy s) := by
  unfold execKeeperShadowCopy
  extract_lets x1
  refine KeepsOut.next ?_
  refine Keeps.ite ?_ ?_
  · refine Keeps.of_mk ?_ rfl
    exact h
  · exact h

theorem execTapLineAvailable_keeps {o : State} {sl : Slice} {scaler : Bool} {fn : Word} {line : BitVec 13} {s : State}
    (h : Keeps o s) :
    KeepsOut o (execTapLineAvailable sl scaler fn line s) := by
  unfold execTapLineAvailable
  extract_lets e1 t2 y3
  refine KeepsOut.next ?_
  split
  · exact h
  · extract_lets h4 st5 t6
    exact Keeps.ite h (State.post_keeps (State.setEng_keeps h))

theorem execEngTline_keeps {o : State} {sl : Slice} {scaler : Bool} {sd : BitVec 5} {s : State} (h : Keeps o s) :
    KeepsOut o (execEngTline sl scaler sd s) := by
  unfold execEngTline
  refine KeepsOut.next ?_
  with_reducible apply State.engIssue_keeps
  · exact h
  · intro k1 k2 k3
    extract_lets t4
    split
    · exact k3
    · extract_lets t5 e6
      dsimp -zeta only
      exact State.setEng_keeps k3

theorem execEngTpop_keeps {o : State} {sl : Slice} {scaler : Bool} {vd : BitVec 3} {plane : Fin 8} {s : State}
    (h : Keeps o s) :
    KeepsOut o (execEngTpop sl scaler vd plane s) := by
  unfold execEngTpop
  refine KeepsOut.next ?_
  with_reducible apply State.engIssue_keeps
  · exact h
  · intro k1 k2 k3
    extract_lets t4 p5 g6
    refine Keeps.ite_fst ?_ ?_
    · exact k3
    · split
      · extract_lets c7 w8 v9 s10
        have hs10 : Keeps o s10 := by
          unfold s10
          refine Keeps.ite ?_ ?_
          · exact k3
          · refine Keeps.of_mk ?_ rfl
            exact k3
        clear_value s10
        refine Keeps.ite_fst ?_ ?_
        · exact k3
        · dsimp -zeta only
          exact State.setEng_keeps hs10
      · exact k3

theorem execEngTpush_keeps {o : State} {sl : Slice} {scaler : Bool} {vd : BitVec 3} {plane : Fin 8} {s : State}
    (h : Keeps o s) :
    KeepsOut o (execEngTpush sl scaler vd plane s) := by
  unfold execEngTpush
  refine KeepsOut.next ?_
  with_reducible apply State.engIssue_keeps
  · exact h
  · intro k1 k2 k3
    extract_lets t4 p5 v6
    refine Keeps.ite_fst ?_ ?_
    · exact k3
    · split
      · exact k3
      · extract_lets key7 k8
        refine Keeps.ite_fst ?_ ?_
        · exact k3
        · dsimp -zeta only
          exact State.onFrame_keeps k3

theorem execEngTstat_keeps {o : State} {sl : Slice} {scaler : Bool} {sd : BitVec 5} {s : State} (h : Keeps o s) :
    KeepsOut o (execEngTstat sl scaler sd s) := by
  unfold execEngTstat
  refine KeepsOut.next ?_
  with_reducible apply State.engIssue_keeps
  · exact h
  · intro k1 k2 k3
    extract_lets w4
    dsimp -zeta only
    exact State.setEng_keeps k3

theorem execTapUnderrun_keeps {o : State} {sl : Slice} {scaler : Bool} {s : State} (h : Keeps o s) :
    KeepsOut o (execTapUnderrun sl scaler s) := by
  unfold execTapUnderrun
  extract_lets e1 t2 s3 s4
  have hs3 : Keeps o s3 := by
    unfold s3
    exact State.setFld_keeps (State.setEng_keeps h)
  clear_value s3
  have hs4 : Keeps o s4 := by
    unfold s4
    exact State.onFrame_keeps hs3
  clear_value s4
  exact KeepsOut.next (Keeps.ite h (State.report_keeps (State.bump_keeps hs4)))

theorem State.sensorIssue_keeps {o s : State} {sl : Nat} {c : BcCmd} (h : Keeps o s) :
    Keeps o (State.sensorIssue s sl c) := by
  unfold State.sensorIssue
  exact State.bump_keeps (State.bcQueue_keeps h)

theorem execEngSrd_keeps {o : State} {sl : Slice} {sa : BitVec 5} {sb : BitVec 5} {len : Fin 4} {s : State}
    (h : Keeps o s) :
    KeepsOut o (execEngSrd sl sa sb len s) := by
  unfold execEngSrd
  refine KeepsOut.next ?_
  with_reducible apply State.engIssue_keeps
  · exact h
  · intro k1 k2 k3
    extract_lets off4 a5 n6 s7
    have hs7 : Keeps o s7 := by
      unfold s7
      exact State.dataPoke_keeps k3
    clear_value s7
    refine Keeps.ite_fst ?_ ?_
    · exact k3
    · refine Keeps.ite_fst ?_ ?_
      · exact k3
      · refine Keeps.ite_fst ?_ ?_
        · exact k3
        · refine Keeps.ite_fst ?_ ?_
          · dsimp -zeta only
            exact State.bump_keeps (State.dataPoke_keeps k3)
          · dsimp -zeta only
            exact State.sensorIssue_keeps hs7

theorem execEngSwr_keeps {o : State} {sl : Slice} {sa : BitVec 5} {sb : BitVec 5} {len : Fin 4} {s : State}
    (h : Keeps o s) :
    KeepsOut o (execEngSwr sl sa sb len s) := by
  unfold execEngSwr
  refine KeepsOut.next ?_
  with_reducible apply State.engIssue_keeps
  · exact h
  · intro k1 k2 k3
    extract_lets off4 n5
    refine Keeps.ite_fst ?_ ?_
    · exact k3
    · refine Keeps.ite_fst ?_ ?_
      · dsimp -zeta only
        exact State.bump_keeps k3
      · dsimp -zeta only
        exact State.sensorIssue_keeps k3

theorem execEngScnt_keeps {o : State} {sl : Slice} {sd : BitVec 5} {s : State} (h : Keeps o s) :
    KeepsOut o (execEngScnt sl sd s) := by
  unfold execEngScnt
  refine KeepsOut.next ?_
  with_reducible apply State.engIssue_keeps
  · exact h
  · intro k1 k2 k3
    dsimp -zeta only
    exact State.setEng_keeps k3

theorem State.sensorDone_keeps {o s : State} {sl : Nat} {port : Nat} {addr : Nat} {n : Nat} {rd : Bool} {status : Nat} {data : List Byte}
    (h : Keeps o s) :
    Keeps o (State.sensorDone s sl port addr n rd status data) := by
  unfold State.sensorDone
  extract_lets s1 s2 st3
  have hs1 : Keeps o s1 := by
    unfold s1
    exact State.setFld_keeps h
  clear_value s1
  have hs2 : Keeps o s2 := by
    unfold s2
    exact Keeps.ite hs1 (State.bump_keeps hs1)
  clear_value s2
  exact Keeps.ite (State.dataPoke_keeps hs2) hs2

theorem execEngPqput_keeps {o : State} {sl : Slice} {sd : BitVec 5} {sa : BitVec 5} {s : State} (h : Keeps o s) :
    KeepsOut o (execEngPqput sl sd sa s) := by
  unfold execEngPqput
  refine KeepsOut.next ?_
  with_reducible apply State.engIssue_keeps
  · exact h
  · intro k1 k2 k3
    extract_lets s4 a5 r6
    have hs4 : Keeps o s4 := by
      unfold s4
      exact State.took_keeps k3
    clear_value s4
    have hr6 : Keeps o r6.2 := by
      unfold r6
      exact State.pqPut_keeps hs4
    clear_value r6
    split
    · exact hs4
    · dsimp -zeta only
      exact State.setEng_keeps hr6

theorem execEngPqfn_keeps {o : State} {sl : Slice} {sd : BitVec 5} {s : State} (h : Keeps o s) :
    KeepsOut o (execEngPqfn sl sd s) := by
  unfold execEngPqfn
  refine KeepsOut.next ?_
  with_reducible apply State.engIssue_keeps
  · exact h
  · intro k1 k2 k3
    dsimp -zeta only
    exact State.setEng_keeps k3

theorem execEngPqused_keeps {o : State} {sl : Slice} {sd : BitVec 5} {s : State} (h : Keeps o s) :
    KeepsOut o (execEngPqused sl sd s) := by
  unfold execEngPqused
  refine KeepsOut.next ?_
  with_reducible apply State.engIssue_keeps
  · exact h
  · intro k1 k2 k3
    dsimp -zeta only
    exact State.setEng_keeps k3

theorem execEngEvwait_keeps {o : State} {sl : Slice} {sd : BitVec 5} {sa : BitVec 5} {imm : BitVec 15} {s : State}
    (h : Keeps o s) :
    KeepsOut o (execEngEvwait sl sd sa imm s) := by
  unfold execEngEvwait
  refine KeepsOut.next ?_
  with_reducible apply State.engIssue_keeps
  · exact h
  · intro k1 k2 k3
    extract_lets m4 us5 w6 s7
    have hs7 : Keeps o s7 := by
      unfold s7
      exact State.setFld_keeps (State.setEng_keeps k3)
    clear_value s7
    refine Keeps.ite_fst ?_ ?_
    · exact k3
    · dsimp -zeta only
      exact State.pollWait_keeps hs7

theorem execEngEvwaitTimeout_keeps {o : State} {sl : Slice} {s : State} (h : Keeps o s) :
    KeepsOut o (execEngEvwaitTimeout sl s) := by
  unfold execEngEvwaitTimeout
  refine KeepsOut.next ?_
  split
  · exact State.endWait_keeps h
  · exact h

theorem State.commitWindow_keeps {o s : State} {sl : Nat} {e : Eng} (h : Keeps o s) :
    Keeps o (State.commitWindow s sl e) := by
  unfold State.commitWindow
  exact Keeps.ite h (Keeps.ite (State.setEng_keeps h) (State.bump_keeps h))

theorem execEngCommit_keeps {o : State} {sl : Slice} {s : State} (h : Keeps o s) :
    KeepsOut o (execEngCommit sl s) := by
  unfold execEngCommit
  refine KeepsOut.next ?_
  with_reducible apply State.engIssue_keeps
  · exact h
  · intro k1 k2 k3
    dsimp -zeta only
    exact State.commitWindow_keeps k3

theorem execEngReport_keeps {o : State} {sl : Slice} {sa : BitVec 5} {s : State} (h : Keeps o s) :
    KeepsOut o (execEngReport sl sa s) := by
  unfold execEngReport
  refine KeepsOut.next ?_
  with_reducible apply State.engIssue_keeps
  · exact h
  · intro k1 k2 k3
    dsimp -zeta only
    exact State.report_keeps k3

theorem execEngEvarg_keeps {o : State} {sl : Slice} {sd : BitVec 5} {imm : BitVec 15} {s : State} (h : Keeps o s) :
    KeepsOut o (execEngEvarg sl sd imm s) := by
  unfold execEngEvarg
  refine KeepsOut.next ?_
  with_reducible apply State.engIssue_keeps
  · exact h
  · intro k1 k2 k3
    refine Keeps.ite_fst ?_ ?_
    · exact k3
    · dsimp -zeta only
      exact State.setEng_keeps k3

theorem execEngineTimeNow_keeps {o : State} {sl : Slice} {sd : BitVec 5} {s : State} (h : Keeps o s) :
    KeepsOut o (execEngineTimeNow sl sd s) := by
  unfold execEngineTimeNow
  refine KeepsOut.next ?_
  with_reducible apply State.engIssue_keeps
  · exact h
  · intro k1 k2 k3
    extract_lets x4
    dsimp -zeta only
    exact State.setEng_keeps k3

theorem execEngineTimeHigh_keeps {o : State} {sl : Slice} {sd : BitVec 5} {s : State} (h : Keeps o s) :
    KeepsOut o (execEngineTimeHigh sl sd s) := by
  unfold execEngineTimeHigh
  refine KeepsOut.next ?_
  with_reducible apply State.engIssue_keeps
  · exact h
  · intro k1 k2 k3
    dsimp -zeta only
    exact State.setEng_keeps k3

theorem State.moverStart_keeps {o s : State} {sl : Nat} {e : Eng} {sa : BitVec 5} {read : Bool} (h : Keeps o s) :
    Keeps o (State.moverStart s sl e sa read).1 := by
  unfold State.moverStart
  extract_lets a1 d2 win3 off4 la5 len6 tag7 size8 bad9 base10 m11
  refine Keeps.ite_fst ?_ ?_
  · exact h
  · split
    · exact h
    · dsimp -zeta only
      exact State.setEng_keeps h

theorem execEngDmard_keeps {o : State} {sl : Slice} {sa : BitVec 5} {s : State} (h : Keeps o s) :
    KeepsOut o (execEngDmard sl sa s) := by
  unfold execEngDmard
  refine KeepsOut.next ?_
  with_reducible apply State.engIssue_keeps
  · exact h
  · intro k1 k2 k3
    exact State.moverStart_keeps k3

theorem execEngDmawr_keeps {o : State} {sl : Slice} {sa : BitVec 5} {s : State} (h : Keeps o s) :
    KeepsOut o (execEngDmawr sl sa s) := by
  unfold execEngDmawr
  refine KeepsOut.next ?_
  with_reducible apply State.engIssue_keeps
  · exact h
  · intro k1 k2 k3
    exact State.moverStart_keeps k3

theorem execEngDmast_keeps {o : State} {sl : Slice} {sd : BitVec 5} {s : State} (h : Keeps o s) :
    KeepsOut o (execEngDmast sl sd s) := by
  unfold execEngDmast
  refine KeepsOut.next ?_
  with_reducible apply State.engIssue_keeps
  · exact h
  · intro k1 k2 k3
    dsimp -zeta only
    exact State.setEng_keeps k3

theorem State.copyClean_keeps {o s : State} {src : Nat} {dst : Nat} {n : Nat} (h : Keeps o s) :
    Keeps o (State.copyClean s src dst n).1 := by
  unfold State.copyClean
  extract_lets bad1
  dsimp -zeta only
  refine Keeps.foldl ?_ ?_
  · exact State.store_keeps h
  · intro k2 k3 k4
    exact State.poisonWord_keeps k4

theorem execEngineMoverDone_keeps {o : State} {sl : Slice} {s : State} (h : Keeps o s) :
    KeepsOut o (execEngineMoverDone sl s) := by
  unfold execEngineMoverDone
  extract_lets e1
  refine KeepsOut.next ?_
  split
  · exact h
  · extract_lets r2
    have hr2 : Keeps o r2.1 := by
      unfold r2
      exact Keeps.ite_fst (State.copyClean_keeps h) (State.copyClean_keeps h)
    clear_value r2
    exact State.setEng_keeps hr2

theorem execEngineWatchdog_keeps {o : State} {sl : Slice} {s : State} (h : Keeps o s) :
    KeepsOut o (execEngineWatchdog sl s) := by
  unfold execEngineWatchdog
  extract_lets st1
  exact KeepsOut.next (Keeps.ite (State.engTrap_keeps h) h)

theorem execEngineRestartRequest_keeps {o : State} {sl : Slice} {s : State} (h : Keeps o s) :
    KeepsOut o (execEngineRestartRequest sl s) := by
  unfold execEngineRestartRequest
  extract_lets x1
  exact KeepsOut.next (Keeps.ite (State.setEng_keeps h) h)

theorem execEngineCounterClear_keeps {o : State} {sl : Slice} {s : State} (h : Keeps o s) :
    KeepsOut o (execEngineCounterClear sl s) := by
  unfold execEngineCounterClear
  exact KeepsOut.next (Keeps.ite (State.setReg_keeps (State.setReg_keeps (State.setReg_keeps h))) h)

theorem State.engMdata_keeps {o s : State} {sl : Nat} (h : Keeps o s) : Keeps o (State.engMdata s sl).2 := by
  unfold State.engMdata
  extract_lets a1 base2 w3
  dsimp -zeta only
  exact State.setFld_keeps h

theorem execEngmdataRead_keeps {o : State} {path : Path} {sl : Slice} {s : State} (h : Keeps o s) :
    KeepsOut o (execEngmdataRead path sl s) := by
  unfold execEngmdataRead
  extract_lets r1 x2
  have hr1 : Keeps o r1.2 := by
    unfold r1
    exact State.engMdata_keeps h
  clear_value r1
  have hx2 : Keeps o x2 := by
    unfold x2
    exact hr1
  clear_value x2
  refine KeepsOut.next ?_
  refine Keeps.ite ?_ ?_
  · refine Keeps.of_mk ?_ rfl
    exact hx2
  · exact h

theorem State.setSstate_keeps {o s : State} {sl : Nat} {st : Nat} (h : Keeps o s) :
    Keeps o (State.setSstate s sl st) := by
  unfold State.setSstate
  exact State.setFld_keeps h

theorem State.claim_keeps {o s : State} {purpose : Nat} (h : Keeps o s) : KeepsSome o (State.claim s purpose) := by
  unfold State.claim
  split
  · exact KeepsSome.ofNone
  · extract_lets x1
    refine KeepsSome.ite ?_ ?_
    · exact KeepsSome.ofNone
    · refine KeepsSome.ofSome ?_
      dsimp -zeta only
      refine Keeps.of_mk ?_ rfl
      exact h

theorem State.unclaim_keeps {o s : State} {sl : Nat} (h : Keeps o s) : Keeps o (State.unclaim s sl) := by
  unfold State.unclaim
  extract_lets x1
  refine Keeps.of_mk ?_ rfl
  exact h

theorem State.markFirst_keeps {o s : State} {sl : Nat} (h : Keeps o s) : Keeps o (State.markFirst s sl) := by
  unfold State.markFirst
  extract_lets x1
  refine Keeps.ite ?_ ?_
  · exact h
  · with_reducible apply State.setFld_keeps
    refine Keeps.of_mk ?_ rfl
    exact h

theorem State.mapNext_keeps {o s : State} {p : Nat} {sl : Nat} (h : Keeps o s) : Keeps o (State.mapNext s p sl) := by
  unfold State.mapNext
  extract_lets v1
  exact State.setFld_keeps (State.setFld_keeps h)

theorem State.connect_keeps {o s : State} {p : Nat} {sl : Nat} (h : Keeps o s) : Keeps o (State.connect s p sl) := by
  unfold State.connect
  extract_lets old1 s2 s3
  have hs2 : Keeps o s2 := by
    unfold s2
    exact Keeps.ite (Keeps.ite (State.setFld_keeps h) (Keeps.ite (State.setFld_keeps (State.setFld_keeps h)) h)) h
  clear_value s2
  have hs3 : Keeps o s3 := by
    unfold s3
    exact State.setFlds_keeps hs2
  clear_value s3
  exact Keeps.ite hs3 (Keeps.ite (State.setFld_keeps hs3) (Keeps.ite hs3 (State.setFld_keeps hs3)))

theorem State.showCamera_keeps {o s : State} {sl : Nat} {p : Nat} {c : CfgSet} (h : Keeps o s) :
    Keeps o (State.showCamera s sl p c) := by
  unfold State.showCamera
  extract_lets s1
  have hs1 : Keeps o s1 := by
    unfold s1
    exact State.setFlds_keeps h
  clear_value s1
  refine Keeps.foldl ?_ ?_
  · exact hs1
  · intro k2 k3 k4
    extract_lets d5
    exact State.setFlds_keeps k4

theorem State.loadSlice_keeps {o s : State} {sl : Nat} {p : Nat} {c : CfgSet} (h : Keeps o s) :
    Keeps o (State.loadSlice s sl p c) := by
  unfold State.loadSlice
  extract_lets base1 mine2 offs3
  with_reducible apply State.showCamera_keeps
  refine Keeps.foldl ?_ ?_
  · exact h
  · intro k4 k5 k6
    split
    exact State.loadReg_keeps k6

theorem State.loadPort_keeps {o s : State} {p : Nat} {c : CfgSet} (h : Keeps o s) :
    Keeps o (State.loadPort s p c) := by
  unfold State.loadPort
  extract_lets a01
  exact State.loadRegs_keeps h

theorem State.loadEngine_keeps {o s : State} {sl : Nat} {id : Nat} (h : Keeps o s) :
    KeepsOpt o (State.loadEngine s sl id) := by
  unfold State.loadEngine
  split
  · exact KeepsOpt.ofNone
  · extract_lets l1 code2 data3 s4 fl5 e6 x7 s8 s9
    have hs4 : Keeps o s4 := by
      unfold s4
      exact State.poke_keeps (State.poke_keeps h)
    clear_value s4
    have hx7 : Keeps o x7 := by
      unfold x7
      exact State.setEng_keeps hs4
    clear_value x7
    have hs8 : Keeps o s8 := by
      unfold s8
      refine Keeps.of_mk ?_ rfl
      exact hx7
    clear_value s8
    have hs9 : Keeps o s9 := by
      unfold s9
      exact State.setReg_keeps (State.setReg_keeps hs8)
    clear_value s9
    exact KeepsOpt.ite KeepsOpt.ofNone (KeepsOpt.ofSome (State.setFlds_keeps hs9))

theorem State.startEngine_keeps {o s : State} {sl : Nat} {p : Nat} {fn : Nat} {flags : Nat} (h : Keeps o s) :
    Keeps o (State.startEngine s sl p fn flags) := by
  unfold State.startEngine
  extract_lets c1 e2 keep3 s4 regs5 e6
  have hs4 : Keeps o s4 := by
    unfold s4
    exact State.dataPoke_keeps h
  clear_value s4
  exact State.setFlds_keeps (State.setEng_keeps hs4)

theorem State.endService_keeps {o s : State} {sl : Nat} (h : Keeps o s) : Keeps o (State.endService s sl) := by
  unfold State.endService
  extract_lets e1
  exact State.setEng_keeps h

theorem State.idleEngine_keeps {o s : State} {sl : Nat} (h : Keeps o s) : Keeps o (State.idleEngine s sl) := by
  unfold State.idleEngine
  extract_lets e1
  exact State.setFlds_keeps (State.setEng_keeps h)

theorem State.restartEngine_keeps {o s : State} {sl : Nat} {p : Nat} {fn : Nat} (h : Keeps o s) :
    Keeps o (State.restartEngine s sl p fn) := by
  unfold State.restartEngine
  extract_lets c1 id2 recent3 fall4 s5
  have hs5 : Keeps o s5 := by
    unfold s5
    exact Keeps.ite (State.report_keeps (State.setCam_keeps h)) h
  clear_value s5
  have hd6 : KeepsOpt o (s5.loadEngine sl (if fall4 = true then 0 else id2)) := by
    exact State.loadEngine_keeps hs5
  generalize (s5.loadEngine sl (if fall4 = true then 0 else id2)) = d6 at hd6 ⊢
  rcases d6 with _ | d7a
  · try dsimp -zeta only
    exact hs5
  · have kd7 := KeepsOpt.get hd6 rfl
    try dsimp -zeta only at kd7 ⊢
    exact State.startEngine_keeps kd7

theorem State.emptySlice_keeps {o s : State} {sl : Nat} (h : Keeps o s) : Keeps o (State.emptySlice s sl) := by
  unfold State.emptySlice
  exact State.setFlds_keeps (State.keepMem_keeps h)

theorem State.takeSlice_keeps {o s : State} {p : Nat} {sl : Nat} {fn : Nat} {flags : Nat} {c : CfgSet}
    (h : Keeps o s) :
    Keeps o (State.takeSlice s p sl fn flags c) := by
  unfold State.takeSlice
  extract_lets s1 s2
  have hs1 : Keeps o s1 := by
    unfold s1
    exact State.emptySlice_keeps (State.setSstate_keeps (State.connect_keeps (State.unclaim_keeps h)))
  clear_value s1
  have hs2 : Keeps o s2 := by
    unfold s2
    exact State.loadSlice_keeps hs1
  clear_value s2
  have hd3 : KeepsOpt o (s2.loadEngine sl (s2.progId p c)) := by
    exact State.loadEngine_keeps hs2
  generalize (s2.loadEngine sl (s2.progId p c)) = d3 at hd3 ⊢
  rcases d3 with _ | d4a
  · try dsimp -zeta only
    exact State.report_keeps hs2
  · have kd4 := KeepsOpt.get hd3 rfl
    try dsimp -zeta only at kd4 ⊢
    exact State.startEngine_keeps kd4

theorem State.freeSlice_keeps {o s : State} {sl : Nat} (h : Keeps o s) : Keeps o (State.freeSlice s sl) := by
  unfold State.freeSlice
  extract_lets s1
  have hs1 : Keeps o s1 := by
    unfold s1
    exact State.setFlds_keeps (State.idleEngine_keeps h)
  clear_value s1
  exact Keeps.ite (State.setSstate_keeps hs1) hs1

theorem State.sweepSlices_keeps {o s : State} {z1 : List Nat} (h : Keeps o s) : Keeps o (State.sweepSlices s z1) := by
  revert h
  fun_induction State.sweepSlices s z1
  · intro k1
    exact k1
  · intro k2
    rename_i v3 v4
    have hv3 : Keeps o v3 := by
      unfold v3
      exact Keeps.ite (Keeps.ite (State.freeSlice_keeps k2) (State.idleEngine_keeps k2)) k2
    clear_value v3
    with_reducible apply v4
    exact hv3

theorem State.endDual_keeps {o s : State} {p : Nat} (h : Keeps o s) : Keeps o (State.endDual s p) := by
  unfold State.endDual
  split
  · extract_lets elsewhere1
    exact Keeps.ite (State.setFld_keeps h) h
  · exact h

theorem State.sweep_keeps {o s : State} {p : Nat} (h : Keeps o s) : Keeps o (State.sweep s p) := by
  unfold State.sweep
  extract_lets c1 keep2 s3 turn4 x5 s6 s7
  have hs3 : Keeps o s3 := by
    unfold s3
    exact State.setCam_keeps h
  clear_value s3
  have hs6 : Keeps o s6 := by
    unfold s6
    refine Keeps.of_mk ?_ rfl
    exact hs3
  clear_value s6
  have hs7 : Keeps o s7 := by
    unfold s7
    exact State.endDual_keeps hs6
  clear_value s7
  exact State.sweepSlices_keeps hs7

theorem State.release_keeps {o s : State} {p : Nat} (h : Keeps o s) : Keeps o (State.release s p) := by
  unfold State.release
  split
  · exact h
  · extract_lets s1
    have hs1 : Keeps o s1 := by
      unfold s1
      exact State.connect_keeps h
    clear_value s1
    exact Keeps.ite (State.sweepSlices_keeps (State.endService_keeps hs1)) hs1

theorem State.planMove_keeps {o s : State} {p : Nat} {dest : Nat} {reason : Nat} (h : Keeps o s) :
    Keeps o (State.planMove s p dest reason) := by
  unfold State.planMove
  extract_lets c1
  exact State.setSstate_keeps (State.mapNext_keeps (State.setCam_keeps h))

theorem State.dropMove_keeps {o s : State} {p : Nat} (h : Keeps o s) : Keeps o (State.dropMove s p) := by
  unfold State.dropMove
  extract_lets c1 s2
  have hs2 : Keeps o s2 := by
    unfold s2
    exact State.mapNext_keeps (State.setCam_keeps h)
  clear_value s2
  split
  · exact Keeps.ite h (State.setCam_keeps h)
  · extract_lets s3
    have hs3 : Keeps o s3 := by
      unfold s3
      exact State.unclaim_keeps hs2
    clear_value s3
    exact Keeps.ite (State.setSstate_keeps (State.idleEngine_keeps hs3)) hs3

theorem execEngineLoad_keeps {o : State} {sl : Slice} {s : State} (h : Keeps o s) :
    KeepsOut o (execEngineLoad sl s) := by
  unfold execEngineLoad
  refine KeepsOut.next ?_
  refine Keeps.ite ?_ ?_
  · exact h
  · split
    · exact h
    · extract_lets set1 id2 s3 s4 x5 s6
      have hs3 : Keeps o s3 := by
        unfold s3
        exact State.setSstate_keeps h
      clear_value s3
      have hs4 : Keeps o s4 := by
        unfold s4
        exact State.report_keeps (State.dropMove_keeps hs3)
      clear_value s4
      have hs6 : Keeps o s6 := by
        unfold s6
        split
        · refine Keeps.ite ?_ ?_
          · refine Keeps.of_mk ?_ rfl
            exact hs4
          · exact hs4
        · exact hs4
      clear_value s6
      have hd7 : KeepsOpt o (s3.loadEngine (↑sl) id2) := by
        exact State.loadEngine_keeps hs3
      generalize (s3.loadEngine (↑sl) id2) = d7 at hd7 ⊢
      rcases d7 with _ | d8a
      · try dsimp -zeta only
        exact Keeps.ite (State.bump_keeps (State.setCam_keeps hs3)) (State.markFirst_keeps hs6)
      · have kd8 := KeepsOpt.get hd7 rfl
        try dsimp -zeta only at kd8 ⊢
        exact State.setCam_keeps kd8

theorem State.uplRestart_keeps {o s : State} {cause : Nat} (h : Keeps o s) : Keeps o (State.uplRestart s cause) := by
  unfold State.uplRestart
  exact State.uplStart_keeps (State.uplReinit_keeps h)

theorem State.nakState_keeps {o s : State} (h : Keeps o s) : Keeps o (State.nakState s) := by
  unfold State.nakState
  extract_lets x1
  exact Keeps.ite h (State.setUpl_keeps (State.setFld_keeps h))

theorem State.checked_keeps {o s : State} {cs : List Crumb} {k : State → Crumb → List Crumb → State}
    (h : Keeps o s) (hk : ∀ (y0 : State) (y1 : Crumb) (y2 : List Crumb), Keeps o y0 → Keeps o (k y0 y1 y2)) :
    Keeps o (State.checked s cs k) := by
  unfold State.checked
  extract_lets inj1 x2
  split
  · refine Keeps.ite ?_ ?_
    · exact State.nakState_keeps (State.bump_keeps (State.setUpl_keeps h))
    · with_reducible apply hk
      exact h
  · exact State.nakState_keeps (State.bump_keeps h)
  · exact State.nakState_keeps (State.bump_keeps h)

theorem State.freeBlocks_keeps {o s : State} {tc : Nat} {n : Nat} (h : Keeps o s) :
    Keeps o (State.freeBlocks s tc n) := by
  unfold State.freeBlocks
  exact State.setFld_keeps h

theorem State.accept_keeps {o s : State} {z1 : Crumb} {payload : List Crumb} (h : Keeps o s) :
    Keeps o (State.accept s z1 payload) := by
  unfold State.accept
  extract_lets kind1 tc2 id3 p4 s5 x6 s7 s8 x9 n10 used11 room12 u13 e14 s15
  have hs5 : Keeps o s5 := by
    unfold s5
    exact State.setFlds_keeps h
  clear_value s5
  have hs7 : Keeps o s7 := by
    unfold s7
    exact State.setUpl_keeps hs5
  clear_value s7
  have hs8 : Keeps o s8 := by
    unfold s8
    exact State.bump_keeps hs7
  clear_value s8
  have hs15 : Keeps o s15 := by
    unfold s15
    exact State.setUpl_keeps hs7
  clear_value s15
  refine Keeps.ite ?_ ?_
  · exact Keeps.ite (State.freeBlocks_keeps (State.setUpl_keeps hs8)) hs8
  · exact Keeps.ite (State.uplRestart_keeps (State.bump_keeps hs15)) hs15

theorem State.takePacket_keeps {o s : State} {crumbs : List Crumb} (h : Keeps o s) :
    Keeps o (State.takePacket s crumbs) := by
  unfold State.takePacket
  refine Keeps.ite ?_ ?_
  · exact h
  · with_reducible apply State.checked_keeps
    · exact h
    · intro k1 k2 k3 k4
      extract_lets d5 x6
      refine Keeps.ite ?_ ?_
      · exact k4
      · exact Keeps.ite (State.accept_keeps k4) (Keeps.ite (State.nakState_keeps k4) (State.setUpl_keeps k4))

theorem execUplinkPacketReceive_keeps {o : State} {peer : Bool} {crumbs : List Crumb} {s : State} (h : Keeps o s) :
    KeepsOut o (execUplinkPacketReceive crumbs s peer) := by
  unfold execUplinkPacketReceive
  exact KeepsOut.next (Keeps.ite (State.plTake_keeps h) (Keeps.ite h (State.takePacket_keeps h)))

theorem State.deliveredAll_keeps {o s : State} {z1 : List Held} (h : Keeps o s) :
    Keeps o (State.deliveredAll s z1) := by
  revert h
  fun_induction State.deliveredAll s z1
  · intro k1
    exact k1
  · intro k2
    rename_i v3
    with_reducible apply v3
    exact Keeps.ite (State.delivered_keeps k2) k2
  · intro k4
    rename_i v5
    with_reducible apply v5
    exact k4

theorem State.acked_keeps {o s : State} {seq : Nat} (h : Keeps o s) : Keeps o (State.acked s seq) := by
  unfold State.acked
  extract_lets last1 d2 n3 done4 left5 s6 x7 s8
  have hs6 : Keeps o s6 := by
    unfold s6
    refine Keeps.of_mk ?_ rfl
    exact h
  clear_value s6
  have hs8 : Keeps o s8 := by
    unfold s8
    exact State.setUpl_keeps hs6
  clear_value s8
  exact Keeps.ite h (State.deliveredAll_keeps (State.setFlds_keeps hs8))

theorem State.limits_keeps {o s : State} {payload : List Crumb} (h : Keeps o s) :
    Keeps o (State.limits s payload) := by
  unfold State.limits
  exact State.setFlds_keeps h

theorem State.onCredit_keeps {o s : State} {cs : List Crumb} {init : Bool} {nak : Bool} {k : State → List Crumb → Nat → State}
    (h : Keeps o s) (hk : ∀ (y0 : State) (y1 : List Crumb) (y2 : Nat), Keeps o y0 → Keeps o (k y0 y1 y2)) :
    Keeps o (State.onCredit s cs init nak k) := by
  unfold State.onCredit
  refine Keeps.ite ?_ ?_
  · exact h
  · with_reducible apply State.checked_keeps
    · exact h
    · intro k1 k2 k3 k4
      refine Keeps.ite ?_ ?_
      · exact k4
      · refine Keeps.ite ?_ ?_
        · exact State.bump_keeps k4
        · with_reducible apply hk
          exact k4

theorem State.takeCredit_keeps {o s : State} {crumbs : List Crumb} (h : Keeps o s) :
    Keeps o (State.takeCredit s crumbs) := by
  unfold State.takeCredit
  with_reducible apply State.onCredit_keeps
  · exact h
  · intro k1 k2 k3 k4
    exact Keeps.ite (State.acked_keeps (State.limits_keeps k4)) k4

theorem execUplCredit_keeps {o : State} {peer : Bool} {crumbs : List Crumb} {s : State} (h : Keeps o s) :
    KeepsOut o (execUplCredit crumbs s peer) := by
  unfold execUplCredit
  exact KeepsOut.next (Keeps.ite (State.plCredit_keeps h) (Keeps.ite h (State.takeCredit_keeps h)))

theorem State.closeClasses_keeps {o s : State} {z1 : List Nat} (h : Keeps o s) :
    Keeps o (State.closeClasses s z1) := by
  revert h
  fun_induction State.closeClasses s z1
  · intro k1
    exact k1
  · intro k2
    rename_i v3
    with_reducible apply v3
    exact State.report_keeps (State.setFld_keeps k2)
  · intro k4
    rename_i v5
    with_reducible apply v5
    exact k4

theorem State.comeUp_keeps {o s : State} (h : Keeps o s) : Keeps o (State.comeUp s) := by
  unfold State.comeUp
  extract_lets x1 s2 x3
  have hs2 : Keeps o s2 := by
    unfold s2
    exact State.setUpl_keeps (State.setFld_keeps h)
  clear_value s2
  exact Keeps.ite (State.setLink_keeps hs2) h

theorem State.takeInit_keeps {o s : State} {crumbs : List Crumb} (h : Keeps o s) :
    Keeps o (State.takeInit s crumbs) := by
  unfold State.takeInit
  with_reducible apply State.onCredit_keeps
  · exact h
  · intro k1 k2 k3 k4
    extract_lets s5 x6 s7
    have hs5 : Keeps o s5 := by
      unfold s5
      exact Keeps.ite (State.uplRestart_keeps k4) k4
    clear_value s5
    have hs7 : Keeps o s7 := by
      unfold s7
      exact State.setUpl_keeps (State.limits_keeps hs5)
    clear_value s7
    exact State.comeUp_keeps (State.closeClasses_keeps hs7)

theorem execUplCreditInit_keeps {o : State} {peer : Bool} {crumbs : List Crumb} {s : State} (h : Keeps o s) :
    KeepsOut o (execUplCreditInit crumbs s peer) := by
  unfold execUplCreditInit
  exact KeepsOut.next (Keeps.ite (State.plInit_keeps h) (Keeps.ite h (State.takeInit_keeps h)))

theorem State.startReplay_keeps {o s : State} {timeout : Bool} (h : Keeps o s) :
    Keeps o (State.startReplay s timeout) := by
  unfold State.startReplay
  extract_lets soon1
  exact Keeps.ite h (Keeps.ite (State.bump_keeps (State.replayAll_keeps h)) (State.replayAll_keeps h))

theorem State.takeNak_keeps {o s : State} {crumbs : List Crumb} (h : Keeps o s) :
    Keeps o (State.takeNak s crumbs) := by
  unfold State.takeNak
  with_reducible apply State.onCredit_keeps
  · exact h
  · intro k1 k2 k3 k4
    exact Keeps.ite (State.startReplay_keeps (State.bump_keeps (State.acked_keeps (State.limits_keeps k4)))) k4

theorem execUplCreditNak_keeps {o : State} {peer : Bool} {crumbs : List Crumb} {s : State} (h : Keeps o s) :
    KeepsOut o (execUplCreditNak crumbs s peer) := by
  unfold execUplCreditNak
  exact KeepsOut.next (Keeps.ite (State.plNakCredit_keeps h) (Keeps.ite h (State.takeNak_keeps h)))

theorem execUplInitRepeat_keeps {o : State} {peer : Bool} {s : State} (h : Keeps o s) : KeepsOut o (execUplInitRepeat s peer) := by
  unfold execUplInitRepeat
  exact KeepsOut.next (Keeps.ite (Keeps.ite (State.plSendCredit_keeps h) h) (Keeps.ite (State.setUpl_keeps h) h))

theorem execUplNakResend_keeps {o : State} {peer : Bool} {s : State} (h : Keeps o s) : KeepsOut o (execUplNakResend s peer) := by
  unfold execUplNakResend
  exact KeepsOut.next (Keeps.ite (Keeps.ite (State.plSendCredit_keeps h) h) (Keeps.ite (State.setUpl_keeps h) h))

theorem execUplAckTimer_keeps {o : State} {peer : Bool} {s : State} (h : Keeps o s) : KeepsOut o (execUplAckTimer s peer) := by
  unfold execUplAckTimer
  exact KeepsOut.next (Keeps.ite (Keeps.ite (State.plSendCredit_keeps h) h) (Keeps.ite (State.setUpl_keeps h) h))

theorem execUplReplayTimeout_keeps {o : State} {peer : Bool} {s : State} (h : Keeps o s) : KeepsOut o (execUplReplayTimeout s peer) := by
  unfold execUplReplayTimeout
  exact KeepsOut.next (Keeps.ite (Keeps.ite (State.plReplaySoon_keeps h) h) (Keeps.ite (State.startReplay_keeps h) h))

theorem execUplAckStallReinit_keeps {o : State} {peer : Bool} {s : State} (h : Keeps o s) : KeepsOut o (execUplAckStallReinit s peer) := by
  unfold execUplAckStallReinit
  exact KeepsOut.next (Keeps.ite (Keeps.ite (State.plRestart_keeps h) h) (Keeps.ite (State.uplRestart_keeps h) h))

theorem State.loopBack_keeps {o s : State} {cs : List Crumb} (h : Keeps o s) : Keeps o (State.loopBack s cs) := by
  unfold State.loopBack
  split
  · exact h
  · refine Keeps.ite ?_ ?_
    · exact State.takePacket_keeps h
    · exact Keeps.ite (State.takeInit_keeps h) (Keeps.ite (State.takeNak_keeps h) (State.takeCredit_keeps h))

theorem State.uplSend_keeps {o s : State} {cs : List Crumb} (h : Keeps o s) : Keeps o (State.uplSend s cs) := by
  unfold State.uplSend
  extract_lets t1 s2
  have ht1 : Keeps o t1 := by
    unfold t1
    exact State.toLanes_keeps h
  clear_value t1
  have hs2 : Keeps o s2 := by
    unfold s2
    refine Keeps.of_mk ?_ rfl
    exact ht1
  clear_value s2
  exact Keeps.ite (State.loopBack_keeps hs2) hs2

theorem State.sendNew_keeps {o s : State} {p : Pkt} {whole : Option EgUnit} (h : Keeps o s) :
    Keeps o (State.sendNew s p whole) := by
  unfold State.sendNew
  extract_lets seq1 cs2 cs3 rep4 low5 x6 s7 s8
  have hs7 : Keeps o s7 := by
    unfold s7
    exact State.setUpl_keeps h
  clear_value s7
  have hs8 : Keeps o s8 := by
    unfold s8
    exact State.setFlds_keeps hs7
  clear_value s8
  exact State.uplSend_keeps hs8

theorem State.sendCredit_keeps {o s : State} {init : Bool} {nak : Bool} (h : Keeps o s) :
    Keeps o (State.sendCredit s init nak) := by
  unfold State.sendCredit
  extract_lets ack1 l2 p3
  exact State.uplSend_keeps h

theorem State.drrPay_keeps {o s : State} {sid : Nat} {p : Pkt} (h : Keeps o s) : Keeps o (State.drrPay s sid p) := by
  unfold State.drrPay
  extract_lets n1 cost2 gain3 d4 left5 v6 x7
  exact Keeps.ite (State.setUpl_keeps h) h

theorem State.sendStream_keeps {o s : State} {sid : Nat} (h : Keeps o s) : Keeps o (State.sendStream s sid) := by
  unfold State.sendStream
  split
  · exact h
  · extract_lets p1 s2 f3 x4 s5 x6 s7 s8
    have hs2 : Keeps o s2 := by
      unfold s2
      exact State.drrPay_keeps h
    clear_value s2
    have hs5 : Keeps o s5 := by
      unfold s5
      exact State.setUpl_keeps hs2
    clear_value s5
    have hs7 : Keeps o s7 := by
      unfold s7
      exact Keeps.ite (State.setStream_keeps hs5) hs5
    clear_value s7
    have hs8 : Keeps o s8 := by
      unfold s8
      exact State.sendNew_keeps hs7
    clear_value s8
    exact Keeps.ite (State.settleK_keeps hs8) hs8

theorem State.sendClass0_keeps {o s : State} (h : Keeps o s) : KeepsOpt o (State.sendClass0 s) := by
  unfold State.sendClass0
  extract_lets x1
  refine KeepsOpt.ite ?_ ?_
  · exact KeepsOpt.ite (KeepsOpt.ofSome (State.sendNew_keeps (State.setUpl_keeps h))) KeepsOpt.ofNone
  · refine KeepsOpt.ite ?_ ?_
    · exact KeepsOpt.ite (KeepsOpt.ofSome (State.sendNew_keeps (State.setUpl_keeps h))) KeepsOpt.ofNone
    · split
      · extract_lets p2 s3
        have hs3 : Keeps o s3 := by
          unfold s3
          exact State.report_keeps (State.setUpl_keeps h)
        clear_value s3
        exact KeepsOpt.ite (KeepsOpt.ofSome (State.sendNew_keeps (State.bump_keeps hs3))) KeepsOpt.ofNone
      · split
        · exact KeepsOpt.ite (KeepsOpt.ofSome (State.sendNew_keeps (State.setUpl_keeps h))) KeepsOpt.ofNone
        · exact KeepsOpt.ofNone

theorem State.sendLower_keeps {o s : State} (h : Keeps o s) : Keeps o (State.sendLower s) := by
  unfold State.sendLower
  extract_lets quiet u c3 c1
  have h3 : KeepsOpt o c3 := by
    unfold c3
    split
    · exact KeepsOpt.ite (KeepsOpt.ofSome (State.sendNew_keeps (State.setUpl_keeps h))) KeepsOpt.ofNone
    · exact KeepsOpt.ofNone
  have h1 : KeepsOpt o c1 := by
    unfold c1
    split
    · exact KeepsOpt.ite (KeepsOpt.ofSome (State.sendNew_keeps (State.setUpl_keeps h))) KeepsOpt.ofNone
    · exact KeepsOpt.ofNone
  clear_value c3 c1
  rcases c3 with _ | t
  · rcases c1 with _ | t
    · show Keeps o (if quiet = true then s else _)
      refine Keeps.ite h ?_
      split
      · exact State.sendStream_keeps h
      · exact h
    · exact h1 t rfl
  · exact h3 t rfl

theorem State.sendNext_keeps {o s : State} (h : Keeps o s) : Keeps o (State.sendNext s) := by
  unfold State.sendNext
  extract_lets u1
  refine Keeps.ite ?_ ?_
  · exact State.comeUp_keeps (State.sendCredit_keeps (State.setUpl_keeps h))
  · refine Keeps.ite ?_ ?_
    · exact State.bump_keeps (State.sendCredit_keeps (State.setUpl_keeps h))
    · refine Keeps.ite ?_ ?_
      · exact State.sendCredit_keeps (State.setUpl_keeps h)
      · refine Keeps.ite ?_ ?_
        · exact h
        · split
          · extract_lets cs2 cs3 s4
            have hs4 : Keeps o s4 := by
              unfold s4
              exact State.setUpl_keeps h
            clear_value s4
            exact State.uplSend_keeps hs4
          · have hd5 : KeepsOpt o (s.sendClass0) := by
              exact State.sendClass0_keeps h
            generalize (s.sendClass0) = d5 at hd5 ⊢
            rcases d5 with _ | d6a
            · try dsimp -zeta only
              exact State.sendLower_keeps h
            · have kd6 := KeepsOpt.get hd5 rfl
              try dsimp -zeta only at kd6 ⊢
              exact kd6

theorem execUplinkPacketTransmit_keeps {o s : State} (h : Keeps o s) : KeepsOut o (execUplinkPacketTransmit s) := by
  unfold execUplinkPacketTransmit
  exact KeepsOut.next (Keeps.ite (State.sendNext_keeps h) h)

theorem execInjectTxCrc_keeps {o s : State} (h : Keeps o s) : KeepsOut o (execInjectTxCrc s) := by
  unfold execInjectTxCrc
  extract_lets x1
  exact KeepsOut.next (Keeps.ite (State.setUpl_keeps h) h)

theorem execInjectRxDrop_keeps {o s : State} (h : Keeps o s) : KeepsOut o (execInjectRxDrop s) := by
  unfold execInjectRxDrop
  extract_lets x1
  exact KeepsOut.next (Keeps.ite (State.setUpl_keeps h) h)

theorem State.leaveSlice_keeps {o s : State} {p : Nat} (h : Keeps o s) : Keeps o (State.leaveSlice s p) := by
  unfold State.leaveSlice
  extract_lets s1 s2
  have hs1 : Keeps o s1 := by
    unfold s1
    exact State.dropMove_keeps h
  clear_value s1
  have hs2 : Keeps o s2 := by
    unfold s2
    exact State.pqDiscard_keeps hs1
  clear_value s2
  exact State.release_keeps hs2

theorem State.loseHead_keeps {o s : State} {p : Nat} {st : Nat} {reason : Nat} (h : Keeps o s) :
    Keeps o (State.loseHead s p st reason) := by
  unfold State.loseHead
  extract_lets s1 s2 s3 s4 c5 s6 g7 s8
  have hs1 : Keeps o s1 := by
    unfold s1
    exact State.hpIntr_keeps (State.setPstate_keeps h)
  clear_value s1
  have hs2 : Keeps o s2 := by
    unfold s2
    exact State.report_keeps hs1
  clear_value s2
  have hs3 : Keeps o s3 := by
    unfold s3
    exact State.ledgerSee_keeps (State.telemetry_keeps hs2)
  clear_value s3
  have hs4 : Keeps o s4 := by
    unfold s4
    exact State.raiseReason_keeps hs3
  clear_value s4
  have hs6 : Keeps o s6 := by
    unfold s6
    exact State.setCam_keeps hs4
  clear_value s6
  have hs8 : Keeps o s8 := by
    unfold s8
    refine Keeps.of_mk ?_ rfl
    exact hs6
  clear_value s8
  exact Keeps.ite hs8 (State.leaveSlice_keeps hs8)

theorem State.refuseReason_keeps {o s : State} {p : Nat} {reason : Nat} (h : Keeps o s) :
    Keeps o (State.refuseReason s p reason) := by
  unfold State.refuseReason
  exact State.endReasons_keeps (State.raiseReason_keeps h)

theorem State.invalidHead_keeps {o s : State} {p : Nat} {why : Nat} (h : Keeps o s) :
    Keeps o (State.invalidHead s p why) := by
  unfold State.invalidHead
  extract_lets s1
  have hs1 : Keeps o s1 := by
    unfold s1
    exact State.hpIntr_keeps (State.report_keeps (State.setPstate_keeps h))
  clear_value s1
  exact State.refuseReason_keeps hs1

theorem State.refuseHead_keeps {o s : State} {p : Nat} (h : Keeps o s) : Keeps o (State.refuseHead s p) := by
  unfold State.refuseHead
  exact State.refuseReason_keeps (State.hpIntr_keeps (State.setPstate_keeps h))

theorem State.queueInit_keeps {o s : State} {p : Nat} (h : Keeps o s) : Keeps o (State.queueInit s p) := by
  unfold State.queueInit
  extract_lets l1 x2 s3 cmds4
  have hs3 : Keeps o s3 := by
    unfold s3
    exact State.setPort_keeps h
  clear_value s3
  refine Keeps.foldl ?_ ?_
  · exact hs3
  · intro k5 k6 k7
    exact State.bcQueue_keeps k7

theorem State.admitHead_keeps {o s : State} {p : Nat} (h : Keeps o s) : Keeps o (State.admitHead s p) := by
  unfold State.admitHead
  extract_lets s1 x2 s3 bad4 x5 s6
  have hs1 : Keeps o s1 := by
    unfold s1
    exact State.ledgerSee_keeps (State.hpIntr_keeps (State.setPstate_keeps h))
  clear_value s1
  have hs3 : Keeps o s3 := by
    unfold s3
    refine Keeps.of_mk ?_ rfl
    exact hs1
  clear_value s3
  have hs6 : Keeps o s6 := by
    unfold s6
    exact State.pairMismatch_keeps (State.portInfo_keeps (State.setPort_keeps hs3))
  clear_value s6
  exact Keeps.ite (State.refuseReason_keeps (State.hpIntr_keeps (State.report_keeps hs6))) (State.queueInit_keeps hs6)

theorem State.answerReauth_keeps {o s : State} {p : Nat} {status : Nat} {detail : Nat} {result : List Byte} {z5 : List Req}
    (h : Keeps o s) :
    Keeps o (State.answerReauth s p status detail result z5) := by
  revert h
  fun_induction State.answerReauth s p status detail result z5
  · intro k1
    exact k1
  · intro k2
    rename_i v3
    with_reducible apply v3
    exact Keeps.ite (State.final_keeps k2) k2

theorem State.authResult_keeps {o s : State} {p : Nat} {r : Nat} {again : Bool} (h : Keeps o s) :
    Keeps o (State.authResult s p r again) := by
  unfold State.authResult
  extract_lets s1 s2 ok3 x4 s5 s6 x7
  have hs1 : Keeps o s1 := by
    unfold s1
    exact State.setFld_keeps h
  clear_value s1
  have hs2 : Keeps o s2 := by
    unfold s2
    exact Keeps.ite (State.report_keeps hs1) (Keeps.ite (State.report_keeps hs1) hs1)
  clear_value s2
  have hs5 : Keeps o s5 := by
    unfold s5
    exact State.setPort_keeps hs2
  clear_value s5
  have hs6 : Keeps o s6 := by
    unfold s6
    exact State.answerReauth_keeps hs5
  clear_value s6
  refine Keeps.ite ?_ ?_
  · refine Keeps.ite ?_ ?_
    · exact State.setPort_keeps hs6
    · exact Keeps.ite (State.setPort_keeps hs6) (Keeps.ite (State.refuseHead_keeps hs6) hs6)
  · exact Keeps.ite (State.admitHead_keeps hs6) (State.refuseHead_keeps hs6)

theorem State.challenge_keeps {o s : State} {p : Nat} {again : Bool} (h : Keeps o s) :
    Keeps o (State.challenge s p again) := by
  unfold State.challenge
  extract_lets r1
  have hr1 : Keeps o r1.2 := by
    unfold r1
    exact State.drawNonce_keeps h
  clear_value r1
  exact Keeps.ite (State.authResult_keeps h) (State.bcQueue_keeps hr1)

theorem State.startAuth_keeps {o s : State} {p : Nat} (h : Keeps o s) : Keeps o (State.startAuth s p) := by
  unfold State.startAuth
  exact State.challenge_keeps (State.setPstate_keeps h)

theorem State.takeWear_keeps {o s : State} {p : Nat} {w : List Byte} {good : Bool} (h : Keeps o s) :
    Keeps o (State.takeWear s p w good) := by
  unfold State.takeWear
  extract_lets base1 x2 x3 s4 s5
  have hs4 : Keeps o s4 := by
    unfold s4
    exact State.setPort_keeps h
  clear_value s4
  have hs5 : Keeps o s5 := by
    unfold s5
    exact State.setFld_keeps hs4
  clear_value s5
  exact Keeps.ite hs5 (State.report_keeps hs5)

theorem State.descRead_keeps {o s : State} {p : Nat} (h : Keeps o s) : Keeps o (State.descRead s p) := by
  unfold State.descRead
  extract_lets d1 caps2 serial3 x4 s5 s6 w7
  have hs5 : Keeps o s5 := by
    unfold s5
    exact Keeps.ite h (State.setPort_keeps h)
  clear_value s5
  have hs6 : Keeps o s6 := by
    unfold s6
    exact State.setFlds_keeps hs5
  clear_value s6
  refine Keeps.ite ?_ ?_
  · exact State.invalidHead_keeps h
  · exact Keeps.ite (State.startAuth_keeps (State.takeWear_keeps hs6)) (State.bcQueue_keeps hs6)

theorem State.readDesc_keeps {o s : State} {p : Nat} {k : Nat} {retry : Bool} (h : Keeps o s) :
    Keeps o (State.readDesc s p k retry) := by
  unfold State.readDesc
  exact State.bcQueue_keeps h

theorem State.enumerate_keeps {o s : State} {p : Nat} (h : Keeps o s) : Keeps o (State.enumerate s p) := by
  unfold State.enumerate
  extract_lets x1 s2
  have hs2 : Keeps o s2 := by
    unfold s2
    exact State.setPort_keeps h
  clear_value s2
  exact State.readDesc_keeps (State.setPstate_keeps (State.hideHead_keeps hs2))

theorem State.writeWear_keeps {o s : State} {p : Nat} (h : Keeps o s) : Keeps o (State.writeWear s p) := by
  unfold State.writeWear
  extract_lets w1 st2 up3 s4
  have hs4 : Keeps o s4 := by
    unfold s4
    exact State.bcQueue_keeps (State.setFld_keeps h)
  clear_value s4
  exact Keeps.ite (State.report_keeps hs4) hs4

theorem State.wearDone_keeps {o s : State} {p : Nat} {w : List Byte} (h : Keeps o s) :
    Keeps o (State.wearDone s p w) := by
  unfold State.wearDone
  extract_lets x1 m2 c3 s4
  have hs4 : Keeps o s4 := by
    unfold s4
    exact State.setPort_keeps h
  clear_value s4
  exact State.ledgerSee_keeps (State.telemetry_keeps hs4)

theorem State.fwCommit_keeps {o s : State} {p : Nat} {img : List Byte} {mode : Nat} (h : Keeps o s) :
    Keeps o (State.fwCommit s p img mode) := by
  unfold State.fwCommit
  exact State.bcQueue_keeps h

theorem State.fwNext_keeps {o s : State} {p : Nat} (h : Keeps o s) : Keeps o (State.fwNext s p) := by
  unfold State.fwNext
  split
  · exact h
  · extract_lets x1
    exact Keeps.ite (State.bcQueue_keeps (State.setPort_keeps h)) (Keeps.ite h (State.fwCommit_keeps h))

theorem State.answerFw_keeps {o s : State} {p : Nat} {status : Nat} {detail : Nat} (h : Keeps o s) :
    Keeps o (State.answerFw s p status detail) := by
  unfold State.answerFw
  split
  · exact State.final_keeps h
  · exact h

theorem State.fwDone_keeps {o s : State} {p : Nat} {btype : Nat} {rcode : Nat} (h : Keeps o s) :
    Keeps o (State.fwDone s p btype rcode) := by
  unfold State.fwDone
  extract_lets x1 s2 s3 mode4 s5 s6
  have hs2 : Keeps o s2 := by
    unfold s2
    exact State.setPort_keeps h
  clear_value s2
  have hs3 : Keeps o s3 := by
    unfold s3
    exact Keeps.ite (State.report_keeps hs2) hs2
  clear_value s3
  have hs5 : Keeps o s5 := by
    unfold s5
    exact State.setPort_keeps h
  clear_value s5
  have hs6 : Keeps o s6 := by
    unfold s6
    exact State.fwNext_keeps h
  clear_value s6
  refine Keeps.ite ?_ ?_
  · exact State.answerFw_keeps hs3
  · refine Keeps.ite ?_ ?_
    · exact State.answerFw_keeps hs5
    · split
      · exact Keeps.ite (State.answerFw_keeps hs6) hs6
      · exact hs6

theorem State.missTrigger_keeps {o s : State} {p : Nat} {g : Nat} (h : Keeps o s) :
    Keeps o (State.missTrigger s p g) := by
  unfold State.missTrigger
  exact State.report_keeps (State.bump_keeps h)

theorem State.setMaster_keeps {o s : State} {p : Nat} {v : Bool} (h : Keeps o s) :
    Keeps o (State.setMaster s p v) := by
  unfold State.setMaster
  extract_lets was1 s2
  have hs2 : Keeps o s2 := by
    unfold s2
    exact State.setFld_keeps h
  clear_value s2
  exact Keeps.ite (State.challenge_keeps hs2) hs2

theorem State.triggerDone_keeps {o s : State} {p : Nat} {g : Nat} {t : Nat} {fn : Nat} {a : Answer} (h : Keeps o s) :
    Keeps o (State.triggerDone s p g t fn a) := by
  unfold State.triggerDone
  extract_lets x1 drop2 s3 x4
  have hdrop2 : Keeps o drop2 := by
    unfold drop2
    exact State.setPort_keeps h
  clear_value drop2
  have hs3 : Keeps o s3 := by
    unfold s3
    exact State.missTrigger_keeps hdrop2
  clear_value s3
  split
  · exact h
  · refine Keeps.ite ?_ ?_
    · exact State.missTrigger_keeps hdrop2
    · refine Keeps.ite ?_ ?_
      · exact Keeps.ite (State.bcQueue_keeps (State.bump_keeps hdrop2)) (State.missTrigger_keeps hdrop2)
      · exact Keeps.ite hs3 (State.setMaster_keeps (State.setPort_keeps hs3))
  · exact State.missTrigger_keeps hdrop2

theorem State.drbEnd_keeps {o s : State} {tag : Nat} {addr : Nat} {n : Nat} {r : Nat × Nat × List Byte}
    (h : Keeps o s) :
    Keeps o (State.drbEnd s tag addr n r) := by
  unfold State.drbEnd
  extract_lets k1 x2
  refine Keeps.of_mk ?_ rfl
  exact h

theorem State.lockDone_keeps {o s : State} {p : Nat} {step : Nat} {tag : Nat} {addr : Nat} {n : Nat} {a : Answer}
    (h : Keeps o s) :
    Keeps o (State.lockDone s p step tag addr n a) := by
  unfold State.lockDone
  extract_lets r1 stage2 b3 d4
  split
  · extract_lets rest5
    refine Keeps.ite ?_ ?_
    · with_reducible apply State.complete_keeps
      refine Keeps.of_mk ?_ rfl
      exact h
    · refine Keeps.ite ?_ ?_
      · exact State.complete_keeps (State.expireLock_keeps h)
      · with_reducible apply State.complete_keeps
        refine Keeps.of_mk ?_ rfl
        exact h
  · exact State.complete_keeps h

theorem State.tunnelDone_keeps {o s : State} {p : Nat} {sid : Nat} {ttype : Nat} {ttag : Nat} {head : List Byte} {a : Answer}
    (h : Keeps o s) :
    Keeps o (State.tunnelDone s p sid ttype ttag head a) := by
  unfold State.tunnelDone
  extract_lets two1 t2
  have ht2 : ∀ y0 y1, Keeps o (t2 y0 y1) := by
    unfold t2
    intro k3 k4
    exact State.tunnel_keeps h
  clear_value t2
  split
  · extract_lets st5
    refine Keeps.ite ?_ ?_
    · with_reducible apply ht2
    · with_reducible apply ht2
  · with_reducible apply ht2
  · with_reducible apply ht2

theorem State.pollDone_keeps {o s : State} {p : Nat} {ch : Nat} {tag : Nat} {a : Answer} (h : Keeps o s) :
    Keeps o (State.pollDone s p ch tag a) := by
  unfold State.pollDone
  split
  · extract_lets r1
    have hr1 : Keeps o r1.1 := by
      unfold r1
      exact State.toBuffer_keeps h
    clear_value r1
    exact State.finish_keeps hr1
  · exact State.finish_keeps h

theorem State.authDone_keeps {o s : State} {p : Nat} {nonce : Nat} {again : Bool} {a : Answer} (h : Keeps o s) :
    Keeps o (State.authDone s p nonce again a) := by
  unfold State.authDone
  split
  · extract_lets x1 ok2
    exact State.authResult_keeps h
  · exact State.authResult_keeps h
  · exact State.answerReauth_keeps h
  · exact State.authResult_keeps h

theorem State.bcEnd_keeps {o s : State} {p : Nat} {c : BcCmd} {a : Answer} (h : Keeps o s) :
    Keeps o (State.bcEnd s p c a) := by
  unfold State.bcEnd
  extract_lets good1 x2 r3 n4
  split
  · clear_value good1
    split
    · exact h
    · extract_lets s5
      have hs5 : Keeps o s5 := by
        unfold s5
        exact State.setPort_keeps h
      clear_value s5
      refine Keeps.ite ?_ ?_
      · exact Keeps.ite (State.invalidHead_keeps h) (State.readDesc_keeps h)
      · exact Keeps.ite (State.readDesc_keeps hs5) (State.descRead_keeps hs5)
    · exact Keeps.ite (State.invalidHead_keeps h) (State.readDesc_keeps h)
  · clear_value good1
    split
    · exact h
    · exact State.startAuth_keeps (State.takeWear_keeps h)
    · exact State.startAuth_keeps (State.takeWear_keeps h)
  · exact State.authDone_keeps h
  · exact State.drbEnd_keeps h
  · exact Keeps.ite h (State.pwFail_keeps h)
  · exact State.lockDone_keeps h
  · exact State.tunnelDone_keeps h
  · split
    · exact State.sensorDone_keeps h
    · exact State.sensorDone_keeps h
  · exact State.triggerDone_keeps h
  · split
    · exact State.setPort_keeps h
    · exact h
  · exact State.pollDone_keeps h
  · exact Keeps.ite (State.wearDone_keeps h) h
  · split
    · exact State.fwDone_keeps h
    · exact State.answerFw_keeps (State.setPort_keeps h)
  · clear_value good1
    split
    · extract_lets held6 mine7 s8
      have hs8 : Keeps o s8 := by
        unfold s8
        exact State.setPort_keeps h
      clear_value s8
      exact State.setMaster_keeps hs8
    · exact h
  · exact State.setPort_keeps h
  · exact h
  · exact h

theorem State.bcEndAll_keeps {o s : State} {p : Nat} {a : Answer} {z3 : List BcCmd} (h : Keeps o s) :
    Keeps o (State.bcEndAll s p a z3) := by
  revert h
  fun_induction State.bcEndAll s p a z3
  · intro k1
    exact k1
  · intro k2
    rename_i v3
    with_reducible apply v3
    exact State.bcEnd_keeps k2

theorem State.endLocks_keeps {o s : State} {p : Nat} (h : Keeps o s) : Keeps o (State.endLocks s p) := by
  unfold State.endLocks
  split
  · exact State.expireLock_keeps h
  · exact h

theorem State.portGone_keeps {o s : State} {p : Nat} (h : Keeps o s) : Keeps o (State.portGone s p) := by
  unfold State.portGone
  extract_lets x1 all2 s3 s4 s5 s6 x7
  have hs3 : Keeps o s3 := by
    unfold s3
    exact State.setPort_keeps h
  clear_value s3
  have hs4 : Keeps o s4 := by
    unfold s4
    exact State.endLocks_keeps (State.bcEndAll_keeps hs3)
  clear_value s4
  have hs5 : Keeps o s5 := by
    unfold s5
    exact Keeps.ite hs4 (State.portInfo_keeps hs4)
  clear_value s5
  have hs6 : Keeps o s6 := by
    unfold s6
    exact Keeps.ite hs5 (State.setFld_keeps (State.hideHead_keeps hs5))
  clear_value s6
  exact State.setPort_keeps hs6

theorem State.portLinkLost_keeps {o s : State} {p : Nat} (h : Keeps o s) : Keeps o (State.portLinkLost s p) := by
  unfold State.portLinkLost
  extract_lets st1 x2 s3
  have hs3 : Keeps o s3 := by
    unfold s3
    exact State.ledgerSee_keeps h
  clear_value s3
  refine Keeps.ite ?_ ?_
  · exact State.portGone_keeps (State.loseHead_keeps h)
  · refine Keeps.ite ?_ ?_
    · exact State.portGone_keeps h
    · refine Keeps.ite ?_ ?_
      · exact Keeps.ite (State.setPstate_keeps h) (State.setPstate_keeps h)
      · exact State.endReasons_keeps (State.portGone_keeps (State.setPstate_keeps hs3))

theorem State.portTrain_keeps {o s : State} {p : Nat} (h : Keeps o s) : Keeps o (State.portTrain s p) := by
  unfold State.portTrain
  extract_lets st1 keep2 x3
  exact State.endReasons_keeps (State.setPstate_keeps (State.setPort_keeps h))

theorem State.bcLeave_keeps {o s : State} {p : Nat} {c : BcCmd} (h : Keeps o s) : Keeps o (State.bcLeave s p c) := by
  unfold State.bcLeave
  extract_lets x1 s2 cs3 s4
  have hs2 : Keeps o s2 := by
    unfold s2
    exact State.setPort_keeps h
  clear_value s2
  have hs4 : Keeps o s4 := by
    unfold s4
    exact State.toLanes_keeps hs2
  clear_value s4
  refine Keeps.of_mk ?_ rfl
  exact hs4

theorem State.leaveTrigger_keeps {o s : State} {p : Nat} {c : BcCmd} {g : Nat} {t : Nat} (h : Keeps o s) :
    Keeps o (State.leaveTrigger s p c g t) := by
  unfold State.leaveTrigger
  extract_lets x1 fn2 m3 s4 e5 x6 s7
  have hs4 : Keeps o s4 := by
    unfold s4
    split
    · extract_lets x8 m9
      exact State.pqShow_keeps (State.pqDropGroups_keeps (State.setCam_keeps h))
    · exact h
  clear_value s4
  have hs7 : Keeps o s7 := by
    unfold s7
    exact State.setPort_keeps hs4
  clear_value s7
  exact Keeps.ite (State.missTrigger_keeps h) (State.bcLeave_keeps (State.bump_keeps hs7))

theorem State.leaveSensor_keeps {o s : State} {p : Nat} {c : BcCmd} {seq : Nat} (h : Keeps o s) :
    Keeps o (State.leaveSensor s p c seq) := by
  unfold State.leaveSensor
  extract_lets m1 g2 s3
  have hs3 : Keeps o s3 := by
    unfold s3
    exact State.setCam_keeps h
  clear_value s3
  split
  · exact h
  · extract_lets disp4
    exact Keeps.ite (State.pqShow_keeps (State.bcLeave_keeps hs3)) (State.pqMove_keeps h)

theorem execBackchannelCommandSend_keeps {o : State} {port : Port} {s : State} (h : Keeps o s) :
    KeepsOut o (execBackchannelCommandSend port s) := by
  unfold execBackchannelCommandSend
  extract_lets p1 x2
  refine KeepsOut.next ?_
  refine Keeps.ite ?_ ?_
  · exact h
  · split
    · exact h
    · extract_lets s3
      have hs3 : Keeps o s3 := by
        unfold s3
        exact State.setPort_keeps h
      clear_value s3
      split
      · exact State.leaveTrigger_keeps hs3
      · exact State.leaveSensor_keeps hs3
      · exact State.bcLeave_keeps hs3
      · exact State.bcLeave_keeps hs3

theorem execBackchannelTimeout_keeps {o : State} {port : Port} {tag : Byte} {s : State} (h : Keeps o s) :
    KeepsOut o (execBackchannelTimeout port tag s) := by
  unfold execBackchannelTimeout
  extract_lets p1 x2
  refine KeepsOut.next ?_
  split
  · exact h
  · extract_lets s3 x4
    have hs3 : Keeps o s3 := by
      unfold s3
      exact State.bump_keeps (State.bcEnd_keeps h)
    clear_value s3
    exact State.setPort_keeps hs3

theorem State.headerLost_keeps {o s : State} {p : Nat} {z2 : Crumb} (h : Keeps o s) :
    Keeps o (State.headerLost s p z2) := by
  unfold State.headerLost
  extract_lets s1 g2
  have hs1 : Keeps o s1 := by
    unfold s1
    exact Keeps.ite (State.bump_keeps h) (State.bump_keeps h)
  clear_value s1
  refine Keeps.of_mk ?_ rfl
  exact hs1

theorem State.onPacket_keeps {o s : State} {p : Nat} {ptype : Nat} {cs : List Crumb} {k : State → Crumb → List Crumb → State}
    (h : Keeps o s) (hk : ∀ (y0 : State) (y1 : Crumb) (y2 : List Crumb), Keeps o y0 → Keeps o (k y0 y1 y2)) :
    Keeps o (State.onPacket s p ptype cs k) := by
  unfold State.onPacket
  refine Keeps.ite ?_ ?_
  · exact h
  · split
    · exact h
    · refine Keeps.ite ?_ ?_
      · with_reducible apply hk
        exact h
      · exact State.headerLost_keeps h

theorem execHeaderCrcFailure_keeps {o : State} {port : Port} {header : Crumb} {s : State} (h : Keeps o s) :
    KeepsOut o (execHeaderCrcFailure port header s) := by
  unfold execHeaderCrcFailure
  extract_lets t1
  exact KeepsOut.next (Keeps.ite (State.headerLost_keeps h) h)

theorem State.headStatus_keeps {o s : State} {p : Nat} {z2 : Crumb} (h : Keeps o s) :
    Keeps o (State.headStatus s p z2) := by
  unfold State.headStatus
  extract_lets w1 ovt2 se3 x4 rise5 x6 s7 s8
  have hs7 : Keeps o s7 := by
    unfold s7
    exact State.setPort_keeps h
  clear_value s7
  have hs8 : Keeps o s8 := by
    unfold s8
    exact State.telemetry_keeps (State.setFld_keeps hs7)
  clear_value s8
  exact Keeps.ite (State.report_keeps (State.hpIntr_keeps hs8)) hs8

theorem execHeadStatus_keeps {o : State} {port : Port} {crumbs : List Crumb} {s : State} (h : Keeps o s) :
    KeepsOut o (execHeadStatus port crumbs s) := by
  unfold execHeadStatus
  refine KeepsOut.next ?_
  with_reducible apply State.onPacket_keeps
  · exact h
  · intro k1 k2 k3 k4
    exact State.headStatus_keeps k4

theorem State.headResponse_keeps {o s : State} {p : Nat} {z2 : Crumb} {r : List Crumb} (h : Keeps o s) :
    Keeps o (State.headResponse s p z2 r) := by
  unfold State.headResponse
  extract_lets w1 len2 n3 body4
  refine Keeps.ite ?_ ?_
  · exact State.bump_keeps h
  · split
    · exact State.bump_keeps h
    · extract_lets s5 x6
      have hs5 : Keeps o s5 := by
        unfold s5
        exact State.bcEnd_keeps h
      clear_value s5
      exact State.setPort_keeps hs5

theorem execHeadResponse_keeps {o : State} {port : Port} {crumbs : List Crumb} {s : State} (h : Keeps o s) :
    KeepsOut o (execHeadResponse port crumbs s) := by
  unfold execHeadResponse
  refine KeepsOut.next ?_
  with_reducible apply State.onPacket_keeps
  · exact h
  · intro k1 k2 k3 k4
    exact State.headResponse_keeps k4

theorem execReauthTimer_keeps {o : State} {port : Port} {s : State} (h : Keeps o s) :
    KeepsOut o (execReauthTimer port s) := by
  unfold execReauthTimer
  exact KeepsOut.next (Keeps.ite (State.challenge_keeps h) h)

theorem execWearWriteTimer_keeps {o : State} {port : Port} {s : State} (h : Keeps o s) :
    KeepsOut o (execWearWriteTimer port s) := by
  unfold execWearWriteTimer
  extract_lets p1 x2 s3
  have hs3 : Keeps o s3 := by
    unfold s3
    exact State.setPort_keeps h
  clear_value s3
  exact KeepsOut.next (Keeps.ite (Keeps.ite (State.writeWear_keeps hs3) hs3) h)

theorem execLensContrastHourly_keeps {o : State} {port : Port} {s : State} (h : Keeps o s) :
    KeepsOut o (execLensContrastHourly port s) := by
  unfold execLensContrastHourly
  extract_lets p1 x2 w3 h4 x5 m6 fl7
  refine KeepsOut.next ?_
  refine Keeps.ite ?_ ?_
  · exact h
  · refine Keeps.ite ?_ ?_
    · exact State.setPort_keeps h
    · exact Keeps.ite (State.setPort_keeps h) (Keeps.ite (State.setPort_keeps h) (State.setPort_keeps h))

theorem State.programPost_keeps {o s : State} {p : Nat} {id : Nat} {fn : Nat} {v : Nat} (h : Keeps o s) :
    Keeps o (State.programPost s p id fn v) := by
  unfold State.programPost
  exact State.pqPut_keeps h

theorem State.motionPost_keeps {o s : State} {p : Nat} {sl : Nat} {f : Frame} (h : Keeps o s) :
    Keeps o (State.motionPost s p sl f) := by
  unfold State.motionPost
  extract_lets m1
  exact Keeps.ite (State.programPost_keeps h) h

theorem State.lateMotion_keeps {o s : State} {p : Nat} {f : Frame} (h : Keeps o s) :
    Keeps o (State.lateMotion s p f).2 := by
  unfold State.lateMotion
  extract_lets m1 t2 sc3
  refine Keeps.ite_snd ?_ ?_
  · exact h
  · refine Keeps.ite_snd ?_ ?_
    · dsimp -zeta only
      exact State.took_keeps h
    · exact h

theorem State.motionOf_keeps {o s : State} {p : Nat} {f : Frame} {q : Option PqEntry} (h : Keeps o s) :
    Keeps o (State.motionOf s p f q).2 := by
  unfold State.motionOf
  split
  · exact h
  · exact State.lateMotion_keeps h

theorem State.loseRef_keeps {o s : State} {p : Nat} {sl : Nat} {f : Frame} {cause : Nat} (h : Keeps o s) :
    Keeps o (State.loseRef s p sl f cause) := by
  unfold State.loseRef
  extract_lets s1 s2 x3 s4
  have hs1 : Keeps o s1 := by
    unfold s1
    exact Keeps.ite (State.bump_keeps h) h
  clear_value s1
  have hs2 : Keeps o s2 := by
    unfold s2
    exact State.setFlds_keeps hs1
  clear_value s2
  have hs4 : Keeps o s4 := by
    unfold s4
    exact State.setCam_keeps hs2
  clear_value s4
  exact Keeps.ite h (State.onFrame_keeps hs4)

theorem State.motionLoss_keeps {o s : State} {p : Nat} {sl : Nat} {f : Frame} {m : Int × Int} (h : Keeps o s) :
    Keeps o (State.motionLoss s p sl f m) := by
  unfold State.motionLoss
  extract_lets lim1 lim2
  exact Keeps.ite h (State.loseRef_keeps h)

theorem State.latchMotion_keeps {o s : State} {p : Nat} {f : Frame} (h : Keeps o s) :
    Keeps o (State.latchMotion s p f) := by
  unfold State.latchMotion
  refine Keeps.ite ?_ ?_
  · exact h
  · split
    · exact State.pqLatch_keeps h
    · extract_lets q1 src2
      refine Keeps.ite ?_ ?_
      · exact State.pqLatch_keeps h
      · have hd3 : Keeps o (s.motionOf p f q1).2 := by
          exact State.motionOf_keeps h
        generalize (s.motionOf p f q1) = d3 at hd3 ⊢
        rcases d3 with ⟨d4a, d4b⟩
        dsimp -zeta only at *
        extract_lets s5 s6 s7 x8 s9 s10
        have hs5 : Keeps o s5 := by
          unfold s5
          exact State.pqLatch_keeps hd3
        clear_value s5
        have hs6 : Keeps o s6 := by
          unfold s6
          exact Keeps.ite hs5 (State.report_keeps (State.bump_keeps hs5))
        clear_value s6
        have hs7 : Keeps o s7 := by
          unfold s7
          exact State.setFlds_keeps hs6
        clear_value s7
        have hs9 : Keeps o s9 := by
          unfold s9
          exact State.setCam_keeps hs7
        clear_value s9
        have hs10 : Keeps o s10 := by
          unfold s10
          exact State.onFrame_keeps hs9
        clear_value s10
        exact State.motionLoss_keeps hs10

theorem State.showModel_keeps {o s : State} {p : Nat} {sl : Nat} {f : Frame} {gain : Nat} (h : Keeps o s) :
    Keeps o (State.showModel s p sl f gain) := by
  unfold State.showModel
  split
  · exact State.setFlds_keeps h
  · exact h

theorem State.latchGain_keeps {o s : State} {p : Nat} {f : Frame} (h : Keeps o s) :
    Keeps o (State.latchGain s p f) := by
  unfold State.latchGain
  extract_lets s1
  have hs1 : Keeps o s1 := by
    unfold s1
    exact State.pqLatch_keeps h
  clear_value s1
  split
  · extract_lets s2 s3
    have hs2 : Keeps o s2 := by
      unfold s2
      exact State.setFld_keeps hs1
    clear_value s2
    have hs3 : Keeps o s3 := by
      unfold s3
      exact State.showModel_keeps hs2
    clear_value s3
    refine Keeps.ite ?_ ?_
    · exact hs2
    · split
      · exact hs3
      · extract_lets r4
        exact Keeps.ite (State.onFrame_keeps hs3) (State.loseRef_keeps hs3)
  · exact hs1

theorem State.latchField_keeps {o s : State} {p : Nat} {id : Nat} {fn : Nat} (h : Keeps o s) :
    Keeps o (State.latchField s p id fn) := by
  unfold State.latchField
  split
  · exact h
  · refine Keeps.ite ?_ ?_
    · exact h
    · exact Keeps.ite (State.latchMotion_keeps h) (Keeps.ite (State.latchGain_keeps h) (State.pqLatch_keeps h))

theorem State.latchAll_keeps {o s : State} {p : Nat} {fn : Nat} (h : Keeps o s) :
    Keeps o (State.latchAll s p fn) := by
  unfold State.latchAll
  refine Keeps.foldl ?_ ?_
  · exact h
  · intro k1 k2 k3
    exact State.latchField_keeps k3

theorem State.setMode_keeps {o s : State} {m : Mode} {cause : Nat} {inpair : Bool} (h : Keeps o s) :
    Keeps o (State.setMode s m cause inpair) := by
  unfold State.setMode
  extract_lets old1 runs2 since3 x4 x5 s6 s7
  have hs6 : Keeps o s6 := by
    unfold s6
    refine Keeps.of_mk ?_ rfl
    exact h
  clear_value s6
  have hs7 : Keeps o s7 := by
    unfold s7
    exact State.setFlds_keeps hs6
  clear_value s7
  exact State.intrEvent_keeps hs7

theorem State.pausedCheck_keeps {o s : State} (h : Keeps o s) : Keeps o (State.pausedCheck s) := by
  unfold State.pausedCheck
  extract_lets few1 x2 x3
  have hx3 : Keeps o x3 := by
    unfold x3
    refine Keeps.of_mk ?_ rfl
    exact h
  clear_value x3
  exact Keeps.ite (State.report_keeps hx3) hx3

theorem State.setIngest_keeps {o s : State} {p : Nat} {g : Ingest} (h : Keeps o s) :
    Keeps o (State.setIngest s p g) := by
  unfold State.setIngest
  refine Keeps.of_mk ?_ rfl
  exact h

theorem State.recordBytes_keeps {o s : State} {p : Nat} {f : Frame} (h : Keeps o s) :
    Keeps o (State.recordBytes s p f).2 := by
  unfold State.recordBytes
  extract_lets c1 g2 m3 seqs4 tseq5 loc6 prog7 body8
  dsimp -zeta only
  refine Keeps.of_mk ?_ rfl
  exact h

theorem State.mirror_keeps {o s : State} {p : Nat} {fn : Nat} {r : List Byte} (h : Keeps o s) :
    Keeps o (State.mirror s p fn r) := by
  unfold State.mirror
  extract_lets full1 head2 old3 ch4 x5 s6
  have hs6 : Keeps o s6 := by
    unfold s6
    exact State.setPair_keeps h
  clear_value s6
  exact Keeps.ite h (Keeps.ite (State.peerSend_keeps hs6) (State.peerSend_keeps hs6))

theorem State.tryArm_keeps {o s : State} {p : Nat} (h : Keeps o s) : Keeps o (State.tryArm s p) := by
  unfold State.tryArm
  exact Keeps.ite (State.setArmed_keeps h) h

theorem State.ringWrite_keeps {o s : State} {p : Nat} {f : Frame} (h : Keeps o s) :
    Keeps o (State.ringWrite s p f) := by
  unfold State.ringWrite
  extract_lets s1 old2 x3
  have hs1 : Keeps o s1 := by
    unfold s1
    split
    · exact State.poke_keeps h
    · exact h
  clear_value s1
  exact State.tryArm_keeps (State.setPair_keeps hs1)

theorem State.endPixels_keeps {o s : State} {p : Nat} {sl : Nat} {f : Frame} (h : Keeps o s) :
    Keeps o (State.endPixels s p sl f) := by
  unfold State.endPixels
  extract_lets c1 sc2 res3 rmed4 bias5 d6 s7 s8 bad9 s10 x11 c12
  have hs7 : Keeps o s7 := by
    unfold s7
    exact State.setFlds_keeps h
  clear_value s7
  have hs8 : Keeps o s8 := by
    unfold s8
    exact State.editFrame_keeps hs7
  clear_value s8
  have hs10 : Keeps o s10 := by
    unfold s10
    exact Keeps.ite hs8 (State.report_keeps (State.bump_keeps hs8))
  clear_value s10
  split
  · exact State.setCam_keeps hs10
  · exact Keeps.ite (State.setCam_keeps (State.store_keeps (State.store_keeps hs10))) (State.setCam_keeps hs10)

theorem State.endEngine_keeps {o s : State} {p : Nat} {sl : Nat} (h : Keeps o s) :
    Keeps o (State.endEngine s p sl) := by
  unfold State.endEngine
  extract_lets e1 x2 s3
  have hs3 : Keeps o s3 := by
    unfold s3
    split
    · exact State.setCam_keeps h
    · exact h
  clear_value s3
  exact Keeps.ite h (State.setFld_keeps (State.setEng_keeps hs3))

theorem State.skipStats_keeps {o s : State} {p : Nat} {f : Frame} (h : Keeps o s) :
    Keeps o (State.skipStats s p f) := by
  unfold State.skipStats
  extract_lets s1
  have hs1 : Keeps o s1 := by
    unfold s1
    exact State.statRecord_keeps h
  clear_value s1
  exact State.editFrame_keeps hs1

theorem State.afterClose_keeps {o s : State} {p : Nat} {f : Frame} (h : Keeps o s) :
    Keeps o (State.afterClose s p f) := by
  unfold State.afterClose
  extract_lets s1 f2 s3 s4 s5
  have hs1 : Keeps o s1 := by
    unfold s1
    exact State.latchAll_keeps h
  clear_value s1
  have hs3 : Keeps o s3 := by
    unfold s3
    split
    · exact hs1
    · exact Keeps.ite (State.post_keeps hs1) hs1
  clear_value s3
  have hs4 : Keeps o s4 := by
    unfold s4
    refine Keeps.ite ?_ ?_
    · exact hs3
    · split
      · exact State.endPixels_keeps hs3
      · exact hs3
  clear_value s4
  have hs5 : Keeps o s5 := by
    unfold s5
    split
    · exact State.endEngine_keeps hs4
    · exact hs4
  clear_value s5
  have hd6 : Keeps o (s5.recordBytes p f2).2 := by
    exact State.recordBytes_keeps hs5
  generalize (s5.recordBytes p f2) = d6 at hd6 ⊢
  rcases d6 with ⟨d7a, d7b⟩
  dsimp -zeta only at *
  extract_lets s8 s9 s10
  have hs8 : Keeps o s8 := by
    unfold s8
    exact State.mirror_keeps (State.store_keeps hd6)
  clear_value s8
  have hs9 : Keeps o s9 := by
    unfold s9
    exact Keeps.ite (State.skipStats_keeps hs8) hs8
  clear_value s9
  have hs10 : Keeps o s10 := by
    unfold s10
    split
    · exact Keeps.ite (State.endService_keeps hs9) hs9
    · exact hs9
  clear_value s10
  exact State.sweep_keeps (State.settle_keeps hs10)

theorem State.closeFrame_keeps {o s : State} {p : Nat} {cause : Nat} {discard : Bool} (h : Keeps o s) :
    Keeps o (State.closeFrame s p cause discard) := by
  unfold State.closeFrame
  extract_lets g1
  split
  · exact h
  · extract_lets f2 s3 s4 s5 s6 s7 s8 c9 s10
    have hs3 : Keeps o s3 := by
      unfold s3
      exact State.setIngest_keeps h
    clear_value s3
    have hs4 : Keeps o s4 := by
      unfold s4
      exact State.setFlds_keeps hs3
    clear_value s4
    have hs5 : Keeps o s5 := by
      unfold s5
      exact Keeps.ite hs4 (State.setFld_keeps hs4)
    clear_value s5
    have hs6 : Keeps o s6 := by
      unfold s6
      exact State.bump_keeps hs5
    clear_value s6
    have hs7 : Keeps o s7 := by
      unfold s7
      exact Keeps.ite (State.report_keeps (State.bump_keeps hs6)) hs6
    clear_value s7
    have hs8 : Keeps o s8 := by
      unfold s8
      exact Keeps.ite (State.ringWrite_keeps hs7) hs7
    clear_value s8
    have hs10 : Keeps o s10 := by
      unfold s10
      exact Keeps.ite hs8 (State.afterClose_keeps (State.setCam_keeps hs8))
    clear_value s10
    exact Keeps.ite (State.leaveSlice_keeps hs10) hs10

theorem State.moveObject_keeps {o s : State} {sb : List Nat} {z2 : Nat} (h : Keeps o s) :
    Keeps o (State.moveObject s sb z2) := by
  unfold State.moveObject
  extract_lets g1 mine2 rest3 left4 old5 place6 bw7 x8
  refine Keeps.of_mk ?_ rfl
  exact h

theorem State.moveObjects_keeps {o s : State} {z1 : List Nat} (h : Keeps o s) : Keeps o (State.moveObjects s z1) := by
  revert h
  fun_induction State.moveObjects s z1
  · intro k1
    exact k1
  · intro k2
    rename_i v3
    with_reducible apply v3
    exact State.moveObject_keeps k2

theorem State.placeRing_keeps {o s : State} {p : Nat} (h : Keeps o s) : Keeps o (State.placeRing s p) := by
  unfold State.placeRing
  extract_lets need1 x2
  split
  · refine Keeps.of_mk ?_ rfl
    exact h
  · exact h

theorem State.dropRing_keeps {o s : State} {p : Nat} (h : Keeps o s) : Keeps o (State.dropRing s p) := by
  unfold State.dropRing
  extract_lets x1
  refine Keeps.of_mk ?_ rfl
  exact h

theorem State.lkReport_keeps {o s : State} {l : Link} {n : Nat} {arg : Nat} (h : Keeps o s) :
    Keeps o (State.lkReport s l n arg) := by
  unfold State.lkReport
  exact State.report_keeps h

theorem State.setLanes_keeps {o s : State} {l : Link} {rx : Nat} {tx : Nat} (h : Keeps o s) :
    Keeps o (State.setLanes s l rx tx) := by
  unfold State.setLanes
  extract_lets s1
  have hs1 : Keeps o s1 := by
    unfold s1
    exact State.setFlds_keeps h
  clear_value s1
  exact Keeps.ite (State.setFlds_keeps hs1) hs1

theorem State.lkStart_keeps {o s : State} {l : Link} (h : Keeps o s) : Keeps o (State.lkStart s l) := by
  unfold State.lkStart
  extract_lets rx1 x2 s3 s4
  have hs3 : Keeps o s3 := by
    unfold s3
    exact State.setLink_keeps h
  clear_value s3
  have hs4 : Keeps o s4 := by
    unfold s4
    exact State.setFlds_keeps hs3
  clear_value s4
  exact Keeps.ite h (State.tell_keeps (State.setLanes_keeps hs4))

theorem State.lkTrainPort_keeps {o s : State} {l : Link} (h : Keeps o s) : Keeps o (State.lkTrainPort s l) := by
  unfold State.lkTrainPort
  split
  · extract_lets st1
    exact Keeps.ite (State.portTrain_keeps h) h
  · exact h

theorem State.lkLost_keeps {o s : State} {l : Link} {was : Nat} (h : Keeps o s) : Keeps o (State.lkLost s l was) := by
  unfold State.lkLost
  split
  · exact Keeps.ite h (State.portLinkLost_keeps h)
  · exact Keeps.ite (State.uplDown_keeps h) h
  · exact Keeps.ite (State.pairReinit_keeps h) h

theorem State.dropAlign_keeps {o s : State} {l : Link} (h : Keeps o s) : Keeps o (State.dropAlign s l) := by
  unfold State.dropAlign
  extract_lets x1 s2
  have hs2 : Keeps o s2 := by
    unfold s2
    exact State.setLink_keeps h
  clear_value s2
  exact State.setFlds_keeps hs2

theorem State.lkLeave_keeps {o s : State} {l : Link} {st : Nat} (h : Keeps o s) : Keeps o (State.lkLeave s l st) := by
  unfold State.lkLeave
  extract_lets was1 x2 s3 s4 s5
  have hs3 : Keeps o s3 := by
    unfold s3
    exact State.setLink_keeps h
  clear_value s3
  have hs4 : Keeps o s4 := by
    unfold s4
    exact State.setFlds_keeps hs3
  clear_value s4
  have hs5 : Keeps o s5 := by
    unfold s5
    exact State.setLanes_keeps (State.dropAlign_keeps hs4)
  clear_value s5
  exact State.lkLost_keeps (State.setFld_keeps hs5)

theorem State.lkDetect_keeps {o s : State} {l : Link} (h : Keeps o s) : Keeps o (State.lkDetect s l) := by
  unfold State.lkDetect
  exact Keeps.ite h (State.lkStart_keeps (State.lkTrainPort_keeps (State.lkLeave_keeps h)))

theorem State.lkOff_keeps {o s : State} {l : Link} (h : Keeps o s) : Keeps o (State.lkOff s l) := by
  unfold State.lkOff
  extract_lets x1
  exact Keeps.ite h (State.lkLeave_keeps (State.setLink_keeps h))

theorem State.lkOn_keeps {o s : State} {l : Link} (h : Keeps o s) : Keeps o (State.lkOn s l) := by
  unfold State.lkOn
  exact Keeps.ite (State.lkStart_keeps (State.lkTrainPort_keeps (State.setLk_keeps h))) h

theorem State.lkFail_keeps {o s : State} {l : Link} (h : Keeps o s) : Keeps o (State.lkFail s l) := by
  unfold State.lkFail
  extract_lets x1 n2 s3 s4
  have hs3 : Keeps o s3 := by
    unfold s3
    exact State.setLink_keeps h
  clear_value s3
  have hs4 : Keeps o s4 := by
    unfold s4
    exact Keeps.ite (State.lkReport_keeps hs3) hs3
  clear_value s4
  exact State.lkLeave_keeps hs4

theorem State.lkFallback_keeps {o s : State} {l : Link} (h : Keeps o s) : Keeps o (State.lkFallback s l) := by
  unfold State.lkFallback
  extract_lets r1 x2 step3
  exact Keeps.ite (State.lkFail_keeps h) (State.setLk_keeps (State.setLink_keeps h))

theorem State.lkSettle_keeps {o s : State} {l : Link} (h : Keeps o s) : Keeps o (State.lkSettle s l) := by
  unfold State.lkSettle
  exact Keeps.ite (State.dropAlign_keeps (State.setFlds_keeps h)) h

theorem State.bFallback_keeps {o s : State} {l : Link} (h : Keeps o s) : Keeps o (State.bFallback s l) := by
  unfold State.bFallback
  extract_lets x1
  exact Keeps.ite (State.lkFail_keeps h) (State.setFld_keeps (State.setLink_keeps h))

theorem State.dwellError_keeps {o s : State} {l : Link} (h : Keeps o s) : Keeps o (State.dwellError s l) := by
  unfold State.dwellError
  exact Keeps.ite (State.lkFallback_keeps h) h

theorem State.lkGo_keeps {o s : State} {l : Link} (h : Keeps o s) : Keeps o (State.lkGo s l) := by
  unfold State.lkGo
  refine Keeps.ite ?_ ?_
  · split
    · extract_lets x1
      exact State.enumerate_keeps (State.setLink_keeps h)
    · exact h
    · exact h
  · exact h

theorem State.lkOperate_keeps {o s : State} {l : Link} (h : Keeps o s) : Keeps o (State.lkOperate s l) := by
  unfold State.lkOperate
  extract_lets s1
  have hs1 : Keeps o s1 := by
    unfold s1
    exact State.setFlds_keeps h
  clear_value s1
  refine Keeps.ite ?_ ?_
  · split
    · exact State.uplStart_keeps hs1
    · refine Keeps.foldl ?_ ?_
      · exact State.plStart_keeps hs1
      · intro k2 k3 k4
        exact State.portInfo_keeps k4
    · exact hs1
  · exact h

theorem State.dropQuad_keeps {o s : State} {l : Link} (h : Keeps o s) : Keeps o (State.dropQuad s l) := by
  unfold State.dropQuad
  split
  · exact h
  · extract_lets x1 out2 s3
    have hs3 : Keeps o s3 := by
      unfold s3
      exact State.setLink_keeps h
    clear_value s3
    exact State.setFlds_keeps hs3

theorem State.operLaneFail_keeps {o s : State} {l : Link} {k : Nat} (h : Keeps o s) :
    Keeps o (State.operLaneFail s l k) := by
  unfold State.operLaneFail
  extract_lets x1 n2 y3
  exact Keeps.ite h (Keeps.ite (State.setLink_keeps h) (State.lkDetect_keeps h))

theorem State.laneFail_keeps {o s : State} {l : Link} {k : Nat} (h : Keeps o s) : Keeps o (State.laneFail s l k) := by
  unfold State.laneFail
  extract_lets st1 x2 y3 s4
  have hs4 : Keeps o s4 := by
    unfold s4
    exact State.setFld_keeps (State.setLink_keeps h)
  clear_value s4
  refine Keeps.ite ?_ ?_
  · exact State.operLaneFail_keeps (State.dropQuad_keeps hs4)
  · exact Keeps.ite hs4 (Keeps.ite (State.dwellError_keeps hs4) (Keeps.ite (State.lkDetect_keeps hs4) hs4))

theorem State.startHold_keeps {o s : State} {l : Link} {rx : Option Nat} {tx : Option Nat} {doubles : Bool}
    (h : Keeps o s) :
    Keeps o (State.startHold s l rx tx doubles) := by
  unfold State.startHold
  extract_lets x1 left2 s3
  have hs3 : Keeps o s3 := by
    unfold s3
    exact State.setLink_keeps h
  clear_value s3
  exact State.setFlds_keeps hs3

theorem State.reportDrop_keeps {o s : State} {l : Link} {was : Nat} {now : Nat} (h : Keeps o s) :
    Keeps o (State.reportDrop s l was now) := by
  unfold State.reportDrop
  exact Keeps.ite h (State.lkReport_keeps h)

theorem State.endHold_keeps {o s : State} {l : Link} (h : Keeps o s) : Keeps o (State.endHold s l) := by
  unfold State.endHold
  extract_lets x1 rx02 tx03 rx4 tx5 s6 s7 s8
  have hs6 : Keeps o s6 := by
    unfold s6
    exact State.setLink_keeps h
  clear_value s6
  have hs7 : Keeps o s7 := by
    unfold s7
    exact State.reportDrop_keeps (State.reportDrop_keeps (State.setLanes_keeps hs6))
  clear_value s7
  have hs8 : Keeps o s8 := by
    unfold s8
    exact Keeps.ite (State.dropAlign_keeps (State.setFlds_keeps hs7)) (State.setFlds_keeps hs7)
  clear_value s8
  split
  · exact State.replayAll_keeps (State.capacityChanged_keeps hs8)
  · exact Keeps.ite (State.plPumped_keeps (State.plReplay_keeps hs8)) hs8
  · exact hs8

theorem State.restripe_keeps {o s : State} {l : Link} {w : Nat} (h : Keeps o s) : Keeps o (State.restripe s l w) := by
  unfold State.restripe
  extract_lets st1 rx2 s3 x4 f5 tx6 left7 x8
  have hs3 : Keeps o s3 := by
    unfold s3
    exact Keeps.ite h (Keeps.ite (State.lkDetect_keeps h) (State.startHold_keeps h))
  clear_value s3
  refine Keeps.ite ?_ ?_
  · exact h
  · exact Keeps.ite hs3 (Keeps.ite (State.lkDetect_keeps hs3) (State.setLink_keeps (State.dropQuad_keeps hs3)))

theorem State.interval_keeps {o s : State} {l : Link} (h : Keeps o s) : Keeps o (State.interval s l) := by
  unfold State.interval
  extract_lets st1 s2 x3 s4
  have hs2 : Keeps o s2 := by
    unfold s2
    exact Keeps.ite (State.lkOperate_keeps h) (Keeps.ite (State.endHold_keeps h) h)
  clear_value s2
  have hs4 : Keeps o s4 := by
    unfold s4
    exact State.setLink_keeps hs2
  clear_value s4
  refine Keeps.ite ?_ ?_
  · exact State.sendMarkers_keeps (State.dropAlign_keeps (State.setFlds_keeps h))
  · split
    · refine Keeps.ite ?_ ?_
      · exact State.tell_keeps (State.sendMarkers_keeps (State.startHold_keeps hs4))
      · exact State.sendMarkers_keeps hs2
    · exact State.sendMarkers_keeps hs2

theorem State.mapLane_keeps {o s : State} {l : Link} {k : Nat} {n : Nat} (h : Keeps o s) :
    Keeps o (State.mapLane s l k n) := by
  unfold State.mapLane
  extract_lets x1 same2 x3 s4
  have hs4 : Keeps o s4 := by
    unfold s4
    exact State.setLink_keeps h
  clear_value s4
  refine Keeps.ite ?_ ?_
  · exact State.laneFail_keeps hs4
  · clear_value same2
    split
    · exact hs4
    · exact State.laneFail_keeps (State.laneFail_keeps hs4)

theorem State.laneDwellError_keeps {o s : State} {l : Link} {k : Nat} (h : Keeps o s) :
    Keeps o (State.laneDwellError s l k) := by
  unfold State.laneDwellError
  exact Keeps.ite (State.dropQuad_keeps h) (State.dwellError_keeps h)

theorem State.markerBad_keeps {o s : State} {l : Link} {k : Nat} (h : Keeps o s) :
    Keeps o (State.markerBad s l k) := by
  unfold State.markerBad
  extract_lets x1 y2 lost3 s4 s5
  have hs4 : Keeps o s4 := by
    unfold s4
    exact State.setLink_keeps h
  clear_value s4
  have hs5 : Keeps o s5 := by
    unfold s5
    exact State.laneDwellError_keeps (State.bump_keeps hs4)
  clear_value s5
  exact Keeps.ite (State.laneFail_keeps hs5) hs5

theorem State.markerTaken_keeps {o s : State} {l : Link} {k : Nat} {w : Nat} {inv : Bool} {bad : Bool} {skew : Nat}
    (h : Keeps o s) :
    Keeps o (State.markerTaken s l k w inv bad skew) := by
  unfold State.markerTaken
  extract_lets x1 y2 s3 s4 s5 s6
  have hs3 : Keeps o s3 := by
    unfold s3
    exact Keeps.ite h (State.setFld_keeps h)
  clear_value s3
  have hs4 : Keeps o s4 := by
    unfold s4
    exact State.setLink_keeps hs3
  clear_value s4
  have hs5 : Keeps o s5 := by
    unfold s5
    exact Keeps.ite (State.setFld_keeps hs4) hs4
  clear_value s5
  have hs6 : Keeps o s6 := by
    unfold s6
    exact State.mapLane_keeps hs5
  clear_value s6
  refine Keeps.ite ?_ ?_
  · exact State.laneFail_keeps (State.laneDwellError_keeps (State.bump_keeps hs3))
  · exact Keeps.ite (State.restripe_keeps hs6) hs6

theorem State.marker_keeps {o s : State} {l : Link} {k : Nat} {c : Crumb} {skew : Nat} {stuffs : Nat}
    (h : Keeps o s) :
    Keeps o (State.marker s l k c skew stuffs) := by
  unfold State.marker
  extract_lets s1 x2 y3 inv4 c5 good6 seq7 due8 bad9 pos10 edge11 st12 s13
  have hs1 : Keeps o s1 := by
    unfold s1
    exact Keeps.ite h (State.laneDwellError_keeps (State.bump_keeps h))
  clear_value s1
  have hs13 : Keeps o s13 := by
    unfold s13
    exact Keeps.ite (State.interval_keeps (State.setLink_keeps hs1)) hs1
  clear_value s13
  exact Keeps.ite hs13 (Keeps.ite (State.markerTaken_keeps hs13) (Keeps.ite (State.markerBad_keeps hs13) hs13))

theorem State.takeCap_keeps {o s : State} {l : Link} {w : Nat} (h : Keeps o s) : Keeps o (State.takeCap s l w) := by
  unfold State.takeCap
  extract_lets x1 n2 s3 s4 s5 s6 s7
  have hs3 : Keeps o s3 := by
    unfold s3
    exact State.setLink_keeps h
  clear_value s3
  have hs4 : Keeps o s4 := by
    unfold s4
    exact Keeps.ite (State.lkReport_keeps hs3) hs3
  clear_value s4
  have hs5 : Keeps o s5 := by
    unfold s5
    exact State.setLink_keeps h
  clear_value s5
  have hs6 : Keeps o s6 := by
    unfold s6
    exact State.setFld_keeps hs5
  clear_value s6
  have hs7 : Keeps o s7 := by
    unfold s7
    split
    · exact State.setFld_keeps hs6
    · exact hs6
  clear_value s7
  exact Keeps.ite (Keeps.ite h (State.setLk_keeps hs4)) (State.setLanes_keeps hs7)

theorem State.askStep_keeps {o s : State} {l : Link} {back : Bool} (h : Keeps o s) :
    Keeps o (State.askStep s l back) := by
  unfold State.askStep
  extract_lets x1
  exact Keeps.ite h (Keeps.ite (State.tell_keeps (State.setLink_keeps h)) (State.tell_keeps (State.setLink_keeps h)))

theorem State.stepAsked_keeps {o s : State} {l : Link} {req : Nat} (h : Keeps o s) :
    Keeps o (State.stepAsked s l req) := by
  unfold State.stepAsked
  extract_lets x1 r2
  exact Keeps.ite h (Keeps.ite (State.setLk_keeps (State.tell_keeps (State.setLink_keeps h))) (State.tell_keeps h))

theorem State.stepAcked_keeps {o s : State} {l : Link} {back : Bool} (h : Keeps o s) :
    Keeps o (State.stepAcked s l back) := by
  unfold State.stepAcked
  extract_lets x1
  refine Keeps.ite ?_ ?_
  · exact Keeps.ite (State.setFld_keeps (State.setLink_keeps h)) h
  · exact Keeps.ite (State.setLk_keeps (State.setLink_keeps h)) h

theorem State.stepNaked_keeps {o s : State} {l : Link} {back : Bool} (h : Keeps o s) :
    Keeps o (State.stepNaked s l back) := by
  unfold State.stepNaked
  extract_lets x1
  refine Keeps.ite ?_ ?_
  · exact Keeps.ite (State.tell_keeps (State.setLink_keeps h)) h
  · exact Keeps.ite (State.tell_keeps (State.setLink_keeps h)) h

theorem State.goOper_keeps {o s : State} {l : Link} {back : Bool} (h : Keeps o s) :
    Keeps o (State.goOper s l back) := by
  unfold State.goOper
  extract_lets x1
  refine Keeps.ite ?_ ?_
  · exact Keeps.ite (State.lkGo_keeps (State.setLink_keeps h)) h
  · exact Keeps.ite (State.lkGo_keeps (State.setLk_keeps h)) h

theorem State.trainCmd_keeps {o s : State} {l : Link} {cmd : Nat} {req : Nat} (h : Keeps o s) :
    Keeps o (State.trainCmd s l cmd req) := by
  unfold State.trainCmd
  extract_lets back1
  refine Keeps.ite ?_ ?_
  · exact Keeps.ite h (State.stepAsked_keeps h)
  · refine Keeps.ite ?_ ?_
    · exact State.stepAcked_keeps h
    · refine Keeps.ite ?_ ?_
      · exact State.stepNaked_keeps h
      · refine Keeps.ite ?_ ?_
        · split
          · exact State.goOper_keeps (State.goOper_keeps h)
          · exact State.goOper_keeps h
        · exact h

theorem State.takeTrain_keeps {o s : State} {l : Link} {cs : List Crumb} (h : Keeps o s) :
    Keeps o (State.takeTrain s l cs) := by
  unfold State.takeTrain
  extract_lets f1 x2 s3 x4 s5
  have hs3 : Keeps o s3 := by
    unfold s3
    exact State.takeCap_keeps (State.setLink_keeps h)
  clear_value s3
  have hs5 : Keeps o s5 := by
    unfold s5
    split
    · exact Keeps.ite (State.bFallback_keeps hs3) hs3
    · exact hs3
  clear_value s5
  exact Keeps.ite hs5 (State.trainCmd_keeps hs5)

theorem State.onLink_keeps {o s : State} {l : Link} {f : State → State}
    (h : Keeps o s) (hf : ∀ (y0 : State), Keeps o y0 → Keeps o (f y0)) :
    KeepsOut o (State.onLink s l f) := by
  unfold State.onLink
  refine KeepsOut.next ?_
  refine Keeps.ite ?_ ?_
  · with_reducible apply hf
    exact State.lkSettle_keeps h
  · exact h

theorem State.onLane_keeps {o s : State} {l : Link} {k : Nat} {f : State → State}
    (h : Keeps o s) (hf : ∀ (y0 : State), Keeps o y0 → Keeps o (f y0)) :
    KeepsOut o (State.onLane s l k f) := by
  unfold State.onLane
  with_reducible apply State.onLink_keeps
  · exact h
  · intro k1 k2
    refine Keeps.ite ?_ ?_
    · with_reducible apply hf
      exact k2
    · exact k2

theorem execLaneLos_keeps {o : State} {link : Link} {lane : Fin 16} {s : State} (h : Keeps o s) :
    KeepsOut o (execLaneLos link lane s) := by
  unfold execLaneLos
  with_reducible apply State.onLane_keeps
  · exact h
  · intro k1 k2
    exact Keeps.ite k2 (State.laneFail_keeps (State.setFld_keeps (State.bump_keeps k2)))

theorem execLaneLosRelease_keeps {o : State} {link : Link} {lane : Fin 16} {s : State} (h : Keeps o s) :
    KeepsOut o (execLaneLosRelease link lane s) := by
  unfold execLaneLosRelease
  with_reducible apply State.onLane_keeps
  · exact h
  · intro k1 k2
    exact State.lkStart_keeps (State.lkTrainPort_keeps (State.setFld_keeps k2))

theorem execLaneLol_keeps {o : State} {link : Link} {lane : Fin 16} {s : State} (h : Keeps o s) :
    KeepsOut o (execLaneLol link lane s) := by
  unfold execLaneLol
  with_reducible apply State.onLane_keeps
  · exact h
  · intro k1 k2
    exact State.laneFail_keeps (State.bump_keeps k2)

theorem execLaneLock_keeps {o : State} {link : Link} {back : Bool} {s : State} (h : Keeps o s) :
    KeepsOut o (execLaneLock link back s) := by
  unfold execLaneLock
  with_reducible apply State.onLink_keeps
  · exact h
  · intro k1 k2
    extract_lets x3 st4
    refine Keeps.ite ?_ ?_
    · exact k2
    · refine Keeps.ite ?_ ?_
      · exact Keeps.ite (State.setLink_keeps k2) k2
      · exact Keeps.ite (State.setLk_keeps (State.setLink_keeps k2)) k2

theorem execAlignmentMarker_keeps {o : State} {link : Link} {lane : Fin 16} {crumb : Crumb} {skew : BitVec 16} {stuffs : BitVec 16} {s : State}
    (h : Keeps o s) :
    KeepsOut o (execAlignmentMarker link lane crumb skew stuffs s) := by
  unfold execAlignmentMarker
  with_reducible apply State.onLink_keeps
  · exact h
  · intro k1 k2
    exact Keeps.ite (State.marker_keeps k2) k2

theorem execLossOfAlignment_keeps {o : State} {link : Link} {lane : Fin 16} {s : State} (h : Keeps o s) :
    KeepsOut o (execLossOfAlignment link lane s) := by
  unfold execLossOfAlignment
  with_reducible apply State.onLane_keeps
  · exact h
  · intro k1 k2
    exact State.laneFail_keeps k2

theorem execRsnextTimeout_keeps {o : State} {link : Link} {s : State} (h : Keeps o s) :
    KeepsOut o (execRsnextTimeout link s) := by
  unfold execRsnextTimeout
  with_reducible apply State.onLink_keeps
  · exact h
  · intro k1 k2
    exact Keeps.ite (State.lkDetect_keeps k2) k2

theorem execTrainingFrame_keeps {o : State} {link : Link} {lane : Fin 16} {crumbs : List Crumb} {s : State}
    (h : Keeps o s) :
    KeepsOut o (execTrainingFrame link crumbs s lane) := by
  unfold execTrainingFrame
  with_reducible apply State.onLink_keeps
  · exact h
  · intro k1 k2
    extract_lets k3 st4 active5 x6 cs7 a8 s9
    have hs9 : Keeps o s9 := by
      unfold s9
      exact State.setLink_keeps k2
    clear_value s9
    refine Keeps.ite ?_ ?_
    · exact k2
    · exact Keeps.ite hs9 (Keeps.ite (State.laneDwellError_keeps hs9) (Keeps.ite (State.takeTrain_keeps hs9) hs9))

theorem execStepReq_keeps {o : State} {link : Link} {back : Bool} {s : State} (h : Keeps o s) :
    KeepsOut o (execStepReq link back s) := by
  unfold execStepReq
  with_reducible apply State.onLink_keeps
  · exact h
  · intro k1 k2
    exact Keeps.ite (State.askStep_keeps k2) (State.stepAsked_keeps k2)

theorem execStepAck_keeps {o : State} {link : Link} {back : Bool} {s : State} (h : Keeps o s) :
    KeepsOut o (execStepAck link back s) := by
  unfold execStepAck
  with_reducible apply State.onLink_keeps
  · exact h
  · intro k1 k2
    exact State.stepAcked_keeps k2

theorem execStepNak_keeps {o : State} {link : Link} {back : Bool} {s : State} (h : Keeps o s) :
    KeepsOut o (execStepNak link back s) := by
  unfold execStepNak
  with_reducible apply State.onLink_keeps
  · exact h
  · intro k1 k2
    exact State.stepNaked_keeps k2

theorem execGoOper_keeps {o : State} {link : Link} {back : Bool} {s : State} (h : Keeps o s) :
    KeepsOut o (execGoOper link back s) := by
  unfold execGoOper
  with_reducible apply State.onLink_keeps
  · exact h
  · intro k1 k2
    exact State.goOper_keeps k2

theorem execQuadJoin_keeps {o : State} {link : Link} {s : State} (h : Keeps o s) :
    KeepsOut o (execQuadJoin link s) := by
  unfold execQuadJoin
  with_reducible apply State.onLink_keeps
  · exact h
  · intro k1 k2
    extract_lets x3 tx4
    split
    · exact k2
    · extract_lets m5 ready6
      exact Keeps.ite (State.setLink_keeps k2) k2

theorem State.fellBack_keeps {o s : State} {l : Link} {rate : Nat} (h : Keeps o s) :
    Keeps o (State.fellBack s l rate) := by
  unfold State.fellBack
  exact State.tell_keeps (State.lkReport_keeps (State.setFld_keeps h))

theorem execDwellPass_keeps {o : State} {link : Link} {back : Bool} {s : State} (h : Keeps o s) :
    KeepsOut o (execDwellPass link back s) := by
  unfold execDwellPass
  with_reducible apply State.onLink_keeps
  · exact h
  · intro k1 k2
    extract_lets x3 s4 s5
    have hs4 : Keeps o s4 := by
      unfold s4
      exact State.setLink_keeps k2
    clear_value s4
    have hs5 : Keeps o s5 := by
      unfold s5
      exact State.setLink_keeps k2
    clear_value s5
    refine Keeps.ite ?_ ?_
    · exact k2
    · refine Keeps.ite ?_ ?_
      · exact Keeps.ite k2 (Keeps.ite (State.fellBack_keeps hs4) (Keeps.ite (State.tell_keeps hs4) hs4))
      · refine Keeps.ite ?_ ?_
        · exact k2
        · refine Keeps.ite ?_ ?_
          · exact State.fellBack_keeps hs5
          · exact Keeps.ite (State.setFlds_keeps hs5) (Keeps.ite (State.tell_keeps hs5) hs5)

theorem execStepTimerExpiry_keeps {o : State} {link : Link} {back : Bool} {s : State} (h : Keeps o s) :
    KeepsOut o (execStepTimerExpiry link back s) := by
  unfold execStepTimerExpiry
  with_reducible apply State.onLink_keeps
  · exact h
  · intro k1 k2
    extract_lets x3 st4
    exact Keeps.ite (Keeps.ite (State.bFallback_keeps k2) k2) (Keeps.ite (State.lkFallback_keeps k2) k2)

theorem execDetectRetry_keeps {o : State} {link : Link} {s : State} (h : Keeps o s) :
    KeepsOut o (execDetectRetry link s) := by
  unfold execDetectRetry
  with_reducible apply State.onLink_keeps
  · exact h
  · intro k1 k2
    extract_lets x3
    exact Keeps.ite (State.lkStart_keeps (State.lkTrainPort_keeps (State.setLink_keeps k2))) k2

theorem execLaneLockTimeout_keeps {o : State} {link : Link} {back : Bool} {s : State} (h : Keeps o s) :
    KeepsOut o (execLaneLockTimeout link s back) := by
  unfold execLaneLockTimeout
  with_reducible apply State.onLink_keeps
  · exact h
  · intro k1 k2
    extract_lets idle3
    exact Keeps.ite (State.lkFail_keeps k2) k2

theorem State.lkRetrain_keeps {o s : State} {l : Link} (h : Keeps o s) : Keeps o (State.lkRetrain s l) := by
  unfold State.lkRetrain
  extract_lets x1
  exact Keeps.ite h (State.lkDetect_keeps (State.setLink_keeps h))

theorem execLinkRetrain_keeps {o : State} {link : Link} {s : State} (h : Keeps o s) :
    KeepsOut o (execLinkRetrain link s) := by
  unfold execLinkRetrain
  with_reducible apply State.onLink_keeps
  · exact h
  · intro k1 k2
    exact State.lkRetrain_keeps k2

theorem State.quadRetrain_keeps {o s : State} {l : Link} (h : Keeps o s) : Keeps o (State.quadRetrain s l) := by
  unfold State.quadRetrain
  extract_lets q1 m2 out3 head4 x5 tx6 s7
  have hs7 : Keeps o s7 := by
    unfold s7
    exact State.setLink_keeps h
  clear_value s7
  exact Keeps.ite h (State.trainOn_keeps hs7)

theorem execQuadRetrain_keeps {o : State} {link : Link} {s : State} (h : Keeps o s) :
    KeepsOut o (execQuadRetrain link s) := by
  unfold execQuadRetrain
  with_reducible apply State.onLink_keeps
  · exact h
  · intro k1 k2
    exact State.quadRetrain_keeps k2

theorem State.lkClear_keeps {o s : State} {l : Link} (h : Keeps o s) : Keeps o (State.lkClear s l) := by
  unfold State.lkClear
  extract_lets lanes1 s2 regs3 s4
  have hs2 : Keeps o s2 := by
    unfold s2
    exact State.setFlds_keeps h
  clear_value s2
  have hs4 : Keeps o s4 := by
    unfold s4
    refine Keeps.foldl ?_ ?_
    · exact hs2
    · intro k5 k6 k7
      exact State.setReg_keeps k7
  clear_value s4
  exact Keeps.ite (State.setFld_keeps hs4) hs4

theorem execLinkCounterClear_keeps {o : State} {link : Link} {s : State} (h : Keeps o s) :
    KeepsOut o (execLinkCounterClear link s) := by
  unfold execLinkCounterClear
  with_reducible apply State.onLink_keeps
  · exact h
  · intro k1 k2
    exact State.lkClear_keeps k2

theorem State.idle_keeps {o s : State} (h : Keeps o s) : Keeps o (State.idle s) := by
  unfold State.idle
  refine Keeps.foldl ?_ ?_
  · exact State.tick_keeps h
  · intro k1 k2 k3
    exact State.lkSettle_keeps k3

theorem State.initTimeout_keeps {o s : State} {l : Link} (h : Keeps o s) : Keeps o (State.initTimeout s l) := by
  unfold State.initTimeout
  exact State.lkRetrain_keeps (Keeps.ite (State.lkReport_keeps (State.setLink_keeps h)) (State.setLink_keeps h))

theorem execUplInitTimeout_keeps {o : State} {peer : Bool} {s : State} (h : Keeps o s) : KeepsOut o (execUplInitTimeout s peer) := by
  unfold execUplInitTimeout
  exact KeepsOut.next (Keeps.ite (Keeps.ite (State.initTimeout_keeps h) h) (Keeps.ite (State.initTimeout_keeps h) h))

theorem State.notePlans_keeps {o s : State} {z1 : Tbl Nat} (h : Keeps o s) : Keeps o (State.notePlans s z1) := by
  revert h
  fun_induction State.notePlans s z1
  · intro k1
    exact k1
  · intro k2
    rename_i v3
    extract_lets x4
    with_reducible apply v3
    exact Keeps.ite k2 (State.setCam_keeps k2)

theorem State.noteDrops_keeps {o s : State} {z1 : List Nat} (h : Keeps o s) : Keeps o (State.noteDrops s z1) := by
  revert h
  fun_induction State.noteDrops s z1
  · intro k1
    exact k1
  · intro k2
    rename_i v3 v4
    with_reducible apply v4
    exact Keeps.ite k2 (State.report_keeps (State.setCam_keeps k2))

theorem State.assign_keeps {o s : State} {need : List Nat} (h : Keeps o s) : Keeps o (State.assign s need) := by
  unfold State.assign
  extract_lets rank1 own2 a3 s4
  have hs4 : Keeps o s4 := by
    unfold s4
    exact State.noteDrops_keeps (State.notePlans_keeps h)
  clear_value s4
  refine Keeps.foldl ?_ ?_
  · exact hs4
  · intro k5 k6 k7
    exact State.report_keeps k7

theorem State.noSpare_keeps {o s : State} {p : Nat} (h : Keeps o s) : Keeps o (State.noSpare s p) := by
  unfold State.noSpare
  exact State.assign_keeps h

theorem State.reassign_keeps {o s : State} (h : Keeps o s) : Keeps o (State.reassign s) := by
  unfold State.reassign
  exact State.assign_keeps h

theorem State.setPctl_keeps {o s : State} {p : Nat} {v : Nat} (h : Keeps o s) : Keeps o (State.setPctl s p v) := by
  unfold State.setPctl
  extract_lets was1 s2
  have hs2 : Keeps o s2 := by
    unfold s2
    exact State.putPctl_keeps h
  clear_value s2
  exact Keeps.ite (State.startAuth_keeps hs2) hs2

theorem State.linkEnable_keeps {o s : State} {l : Link} {on : Bool} (h : Keeps o s) :
    Keeps o (State.linkEnable s l on) := by
  unfold State.linkEnable
  extract_lets s1
  have hs1 : Keeps o s1 := by
    unfold s1
    exact State.setFld_keeps h
  clear_value s1
  exact Keeps.ite (Keeps.ite (State.lkOn_keeps hs1) hs1) (State.lkOff_keeps hs1)

theorem State.loadPortSet_keeps {o s : State} {p : Port} {c : CfgSet} (h : Keeps o s) :
    Keeps o (State.loadPortSet s p c) := by
  unfold State.loadPortSet
  extract_lets s1 lk2 s3 v4 s5
  have hs1 : Keeps o s1 := by
    unfold s1
    exact State.loadPort_keeps h
  clear_value s1
  have hs3 : Keeps o s3 := by
    unfold s3
    exact State.setFld_keeps (State.loadReg_keeps hs1)
  clear_value s3
  have hs5 : Keeps o s5 := by
    unfold s5
    exact State.setPctl_keeps hs3
  clear_value s5
  exact State.linkEnable_keeps hs5

theorem State.recheckHead_keeps {o s : State} {p : Nat} (h : Keeps o s) : Keeps o (State.recheckHead s p) := by
  unfold State.recheckHead
  extract_lets bad1 was2 x3 s4
  have hs4 : Keeps o s4 := by
    unfold s4
    exact State.setPort_keeps h
  clear_value s4
  refine Keeps.ite ?_ ?_
  · exact h
  · refine Keeps.ite ?_ ?_
    · exact State.refuseReason_keeps (State.hpIntr_keeps (State.report_keeps hs4))
    · exact Keeps.ite (State.queueInit_keeps (State.endReasons_keeps hs4)) hs4

theorem State.loadLattice_keeps {o s : State} {c : CfgSet} {n : Nat} (h : Keeps o s) :
    Keeps o (State.loadLattice s c n) := by
  unfold State.loadLattice
  extract_lets base1 offs2 s3
  have hs3 : Keeps o s3 := by
    unfold s3
    refine Keeps.foldl ?_ ?_
    · exact h
    · intro k4 k5 k6
      exact State.loadReg_keeps k6
  clear_value s3
  exact State.setFld_keeps hs3

theorem State.loadSystem_keeps {o s : State} {c : CfgSet} (h : Keeps o s) : Keeps o (State.loadSystem s c) := by
  unfold State.loadSystem
  extract_lets offs1 s2 s3 pairs4 s5 s6
  have hs2 : Keeps o s2 := by
    unfold s2
    refine Keeps.foldl ?_ ?_
    · exact h
    · intro k7 k8 k9
      exact Keeps.ite (State.loadReg_keeps k9) k9
  clear_value s2
  have hs3 : Keeps o s3 := by
    unfold s3
    exact State.timePins_keeps hs2
  clear_value s3
  have hs5 : Keeps o s5 := by
    unfold s5
    exact State.setFld_keeps hs3
  clear_value s5
  have hs6 : Keeps o s6 := by
    unfold s6
    exact Keeps.ite (State.linkEnable_keeps hs5) (State.setFld_keeps hs5)
  clear_value s6
  exact Keeps.ite (State.setPrState_keeps hs6) (Keeps.ite (State.setPrState_keeps hs6) hs6)

theorem State.closeOld_keeps {o s : State} {p : Nat} {c : CfgSet} {z3 : List Nat} (h : Keeps o s) :
    Keeps o (State.closeOld s p c z3) := by
  revert h
  fun_induction State.closeOld s p c z3
  · intro k1
    exact k1
  · intro k2
    rename_i v3 v4 v5 v6 v7
    have hv6 : Keeps o v6 := by
      unfold v6
      exact Keeps.ite (State.setStream_keeps k2) (Keeps.ite (State.setStream_keeps k2) k2)
    clear_value v6
    with_reducible apply v7
    exact hv6

theorem State.setCfg_keeps {o s : State} {c : Cfg} (h : Keeps o s) : Keeps o (State.setCfg s c) := by
  unfold State.setCfg
  refine Keeps.of_mk ?_ rfl
  exact h

theorem State.portSwitched_keeps {o s : State} {p : Port} (h : Keeps o s) : Keeps o (State.portSwitched s p) := by
  unfold State.portSwitched
  extract_lets s1 x2 s3 c4 s5 x6 s7
  have hs1 : Keeps o s1 := by
    unfold s1
    exact State.moveObjects_keeps h
  clear_value s1
  have hs3 : Keeps o s3 := by
    unfold s3
    exact State.setCfg_keeps hs1
  clear_value s3
  have hs5 : Keeps o s5 := by
    unfold s5
    exact Keeps.ite hs3 (State.loadPortSet_keeps hs3)
  clear_value s5
  have hs7 : Keeps o s7 := by
    unfold s7
    exact Keeps.ite hs5 (State.setPort_keeps hs5)
  clear_value s7
  exact State.recheckHead_keeps (State.settle_keeps (State.closeOld_keeps hs7))

theorem State.showFlip_keeps {o s : State} {f : Flip} (h : Keeps o s) : Keeps o (State.showFlip s f) := by
  unfold State.showFlip
  extract_lets x1
  exact State.setFlds_keeps (State.setCfg_keeps h)

theorem State.flipAnswer_keeps {o s : State} {f : Flip} (h : Keeps o s) : Keeps o (State.flipAnswer s f) := by
  unfold State.flipAnswer
  extract_lets gen1 r2 x3 s4 s5
  have hs4 : Keeps o s4 := by
    unfold s4
    exact State.setCfg_keeps h
  clear_value s4
  have hs5 : Keeps o s5 := by
    unfold s5
    exact State.setFld_keeps hs4
  clear_value s5
  refine Keeps.ite ?_ ?_
  · exact hs5
  · split
    · exact State.finish_keeps hs5
    · exact State.finish_keeps hs5

theorem State.flipDone_keeps {o s : State} {f : Flip} (h : Keeps o s) : Keeps o (State.flipDone s f) := by
  unfold State.flipDone
  extract_lets g1 gen2 kept3 f4 s5 s6 s7 s8 s9
  have hs5 : Keeps o s5 := by
    unfold s5
    exact State.setCfg_keeps h
  clear_value s5
  have hs6 : Keeps o s6 := by
    unfold s6
    exact State.setFlds_keeps hs5
  clear_value s6
  have hs7 : Keeps o s7 := by
    unfold s7
    exact State.capacityChanged_keeps (State.allocFifos_keeps hs6)
  clear_value s7
  have hs8 : Keeps o s8 := by
    unfold s8
    exact Keeps.ite (State.reassign_keeps hs7) hs7
  clear_value s8
  have hs9 : Keeps o s9 := by
    unfold s9
    exact Keeps.ite (State.pairCtl_keeps hs8) hs8
  clear_value s9
  exact Keeps.ite hs9 (State.flipAnswer_keeps hs9)

theorem State.flipCheck_keeps {o s : State} (h : Keeps o s) : Keeps o (State.flipCheck s) := by
  unfold State.flipCheck
  split
  · exact Keeps.ite (State.flipDone_keeps h) h
  · exact h

theorem State.switchIdle_keeps {o s : State} {z1 : List Port} (h : Keeps o s) : Keeps o (State.switchIdle s z1) := by
  revert h
  fun_induction State.switchIdle s z1
  · intro k1
    exact k1
  · intro k2
    rename_i v3
    with_reducible apply v3
    exact Keeps.ite k2 (State.portSwitched_keeps k2)

theorem State.latSettle_keeps {o s : State} {n : Nat} (h : Keeps o s) : Keeps o (State.latSettle s n) := by
  unfold State.latSettle
  extract_lets x1 l2 s3 x4
  have hs3 : Keeps o s3 := by
    unfold s3
    exact State.closeStream_keeps h
  clear_value s3
  exact Keeps.ite (State.setStream_keeps hs3) h

theorem State.firstMembers_keeps {o s : State} {epoch : Nat} (h : Keeps o s) :
    Keeps o (State.firstMembers s epoch) := by
  unfold State.firstMembers
  extract_lets new1 x2
  refine Keeps.of_mk ?_ rfl
  exact h

theorem State.flipReach_keeps {o s : State} {epoch : Nat} (h : Keeps o s) : Keeps o (State.flipReach s epoch) := by
  unfold State.flipReach
  split
  · exact h
  · extract_lets f1 s2 s3 s4 s5 s6 s7
    have hs2 : Keeps o s2 := by
      unfold s2
      exact State.firstMembers_keeps (State.moveObjects_keeps h)
    clear_value s2
    have hs3 : Keeps o s3 := by
      unfold s3
      exact State.setFlds_keeps hs2
    clear_value s3
    have hs4 : Keeps o s4 := by
      unfold s4
      exact State.showFlip_keeps hs3
    clear_value s4
    have hs5 : Keeps o s5 := by
      unfold s5
      exact State.loadSystem_keeps hs4
    clear_value s5
    have hs6 : Keeps o s6 := by
      unfold s6
      refine Keeps.foldl ?_ ?_
      · exact hs5
      · intro k8 k9 k10
        exact State.loadLattice_keeps k10
    clear_value s6
    have hs7 : Keeps o s7 := by
      unfold s7
      refine Keeps.foldl ?_ ?_
      · exact hs6
      · intro k11 k12 k13
        extract_lets x14
        exact Keeps.ite (State.latSettle_keeps (State.setStream_keeps k13)) k13
    clear_value s7
    exact State.flipCheck_keeps (State.switchIdle_keeps hs7)

theorem State.flipPaced_keeps {o s : State} {p : Nat} (h : Keeps o s) : Keeps o (State.flipPaced s p) := by
  unfold State.flipPaced
  split
  · extract_lets s1
    have hs1 : Keeps o s1 := by
      unfold s1
      exact State.flipReach_keeps h
    clear_value s1
    exact Keeps.ite (Keeps.ite (State.pairCtl_keeps hs1) hs1) h
  · exact h

theorem State.flipOne_keeps {o s : State} {p : Nat} (h : Keeps o s) : Keeps o (State.flipOne s p) := by
  unfold State.flipOne
  split
  · exact h
  · exact Keeps.ite (State.flipCheck_keeps (State.showFlip_keeps h)) h

theorem State.switchCamera_keeps {o s : State} {p : Port} (h : Keeps o s) : Keeps o (State.switchCamera s p) := by
  unfold State.switchCamera
  extract_lets s1 c2 m3 s4 s5 s6
  have hs1 : Keeps o s1 := by
    unfold s1
    exact State.portSwitched_keeps h
  clear_value s1
  have hs4 : Keeps o s4 := by
    unfold s4
    exact State.setCam_keeps hs1
  clear_value s4
  have hs5 : Keeps o s5 := by
    unfold s5
    exact State.setPctl_keeps (State.loadPort_keeps hs4)
  clear_value s5
  have hs6 : Keeps o s6 := by
    unfold s6
    exact State.release_keeps (State.dropMove_keeps (State.pqDiscard_keeps hs5))
  clear_value s6
  refine Keeps.ite ?_ ?_
  · split
    · exact State.loadSlice_keeps hs5
    · exact hs5
  · exact State.linkEnable_keeps (State.setPstate_keeps hs6)

theorem State.flipLeaves_keeps {o s : State} {p : Nat} (h : Keeps o s) : Keeps o (State.flipLeaves s p) := by
  unfold State.flipLeaves
  split
  · exact h
  · extract_lets x1 s2
    have hs2 : Keeps o s2 := by
      unfold s2
      exact State.setCfg_keeps h
    clear_value s2
    exact Keeps.ite (Keeps.ite (State.flipOne_keeps hs2) h) (State.flipPaced_keeps h)

theorem State.flipLeavesAll_keeps {o s : State} {z1 : List Nat} (h : Keeps o s) :
    Keeps o (State.flipLeavesAll s z1) := by
  revert h
  fun_induction State.flipLeavesAll s z1
  · intro k1
    exact k1
  · intro k2
    rename_i v3
    with_reducible apply v3
    exact State.flipLeaves_keeps k2

theorem State.setRot_keeps {o s : State} {r : Rot} (h : Keeps o s) : Keeps o (State.setRot s r) := by
  unfold State.setRot
  refine Keeps.of_mk ?_ rfl
  exact h

theorem State.throttle_keeps {o s : State} (h : Keeps o s) : Keeps o (State.throttle s) := by
  unfold State.throttle
  extract_lets served1 rate2 rest3 low4 budget5 q6 m7 s8 word9
  have hs8 : Keeps o s8 := by
    unfold s8
    refine Keeps.foldl ?_ ?_
    · exact h
    · intro k10 k11 k12
      extract_lets c13 v14
      exact Keeps.ite k12 (State.setCam_keeps k12)
  clear_value s8
  exact State.setFlds_keeps hs8

theorem State.enterDegraded_keeps {o s : State} (h : Keeps o s) : Keeps o (State.enterDegraded s) := by
  unfold State.enterDegraded
  exact Keeps.ite (State.setMode_keeps h) h

theorem State.leaveDegraded_keeps {o s : State} (h : Keeps o s) : Keeps o (State.leaveDegraded s) := by
  unfold State.leaveDegraded
  extract_lets owns1
  exact Keeps.ite (State.setMode_keeps h) h

theorem State.giveBack_keeps {o s : State} (h : Keeps o s) : Keeps o (State.giveBack s) := by
  unfold State.giveBack
  refine Keeps.ite ?_ ?_
  · exact h
  · split
    · exact State.leaveDegraded_keeps h
    · have hd1 : KeepsSome o (s.claim clRepair) := by
        exact State.claim_keeps h
      generalize (s.claim clRepair) = d1 at hd1 ⊢
      rcases d1 with _ | ⟨d2a, d2b⟩
      · try dsimp -zeta only
        exact h
      · have kd2 := KeepsSome.get hd1 rfl
        try dsimp -zeta only at kd2 ⊢
        extract_lets c3 x4 s5
        have hs5 : Keeps o s5 := by
          unfold s5
          refine Keeps.of_mk ?_ rfl
          exact kd2
        clear_value s5
        exact State.setCam_keeps hs5

theorem State.retire_keeps {o s : State} {sl : Nat} {seg : Nat} {misr : Nat} (h : Keeps o s) :
    Keeps o (State.retire s sl seg misr) := by
  unfold State.retire
  extract_lets x1 s2 s3 x4 s5
  have hs2 : Keeps o s2 := by
    unfold s2
    refine Keeps.of_mk ?_ rfl
    exact h
  clear_value s2
  have hs3 : Keeps o s3 := by
    unfold s3
    exact State.setFlds_keeps hs2
  clear_value s3
  have hs5 : Keeps o s5 := by
    unfold s5
    exact State.setRot_keeps hs3
  clear_value s5
  exact State.intrEvent_keeps (State.report_keeps hs5)

theorem State.addWindow_keeps {o s : State} {w : Window} (h : Keeps o s) : Keeps o (State.addWindow s w) := by
  unfold State.addWindow
  extract_lets x1
  exact Keeps.ite h (State.setRot_keeps h)

theorem State.loseFrames_keeps {o s : State} {p : Nat} {sl : Nat} (h : Keeps o s) :
    Keeps o (State.loseFrames s p sl) := by
  unfold State.loseFrames
  extract_lets lose1 g2 s3 c4 hit5 s6 s7 s8
  have hs3 : Keeps o s3 := by
    unfold s3
    exact State.setIngest_keeps h
  clear_value s3
  have hs6 : Keeps o s6 := by
    unfold s6
    exact State.setCam_keeps hs3
  clear_value s6
  have hs7 : Keeps o s7 := by
    unfold s7
    refine Keeps.foldl ?_ ?_
    · exact hs6
    · intro k9 k10 k11
      extract_lets x12
      exact State.setStream_keeps k11
  clear_value s7
  have hs8 : Keeps o s8 := by
    unfold s8
    refine Keeps.foldl ?_ ?_
    · exact hs7
    · intro k13 k14 k15
      exact Keeps.ite (State.skipStats_keeps k15) k15
  clear_value s8
  exact State.settle_keeps hs8

theorem State.immediateRepair_keeps {o s : State} {p : Nat} {sl : Nat} (h : Keeps o s) :
    Keeps o (State.immediateRepair s p sl) := by
  unfold State.immediateRepair
  extract_lets s1 s2 again3 s4 x5
  have hs1 : Keeps o s1 := by
    unfold s1
    exact State.bump_keeps (State.report_keeps h)
  clear_value s1
  have hs2 : Keeps o s2 := by
    unfold s2
    exact State.loseFrames_keeps (State.dropMove_keeps hs1)
  clear_value s2
  have hs4 : Keeps o s4 := by
    unfold s4
    exact Keeps.ite (State.retire_keeps (State.connect_keeps hs2)) (State.addWindow_keeps hs2)
  clear_value s4
  have hd6 : KeepsSome o (s4.claim clRepair) := by
    exact State.claim_keeps hs4
  generalize (s4.claim clRepair) = d6 at hd6 ⊢
  rcases d6 with _ | ⟨d7a, d7b⟩
  · try dsimp -zeta only
    exact State.noSpare_keeps (State.setCam_keeps hs4)
  · have kd7 := KeepsSome.get hd6 rfl
    try dsimp -zeta only at kd7 ⊢
    extract_lets x8 s9
    have hs9 : Keeps o s9 := by
      unfold s9
      exact State.setCam_keeps kd7
    clear_value s9
    exact State.setSstate_keeps (State.mapNext_keeps hs9)

theorem State.exitRepair_keeps {o s : State} {p : Nat} {sl : Nat} (h : Keeps o s) :
    Keeps o (State.exitRepair s p sl) := by
  unfold State.exitRepair
  extract_lets s1
  have hs1 : Keeps o s1 := by
    unfold s1
    exact State.bump_keeps (State.report_keeps h)
  clear_value s1
  exact State.retire_keeps (State.connect_keeps (State.loseFrames_keeps (State.dropMove_keeps hs1)))

theorem State.tryDeferred_keeps {o s : State} {sl : Nat} (h : Keeps o s) : Keeps o (State.tryDeferred s sl) := by
  unfold State.tryDeferred
  split
  · exact h
  · refine Keeps.ite ?_ ?_
    · exact h
    · have hd1 : KeepsSome o (s.claim clDeferred) := by
        exact State.claim_keeps h
      generalize (s.claim clDeferred) = d1 at hd1 ⊢
      rcases d1 with _ | ⟨d2a, d2b⟩
      · try dsimp -zeta only
        exact h
      · have kd2 := KeepsSome.get hd1 rfl
        try dsimp -zeta only at kd2 ⊢
        extract_lets x3
        exact State.planMove_keeps (State.setRot_keeps kd2)

theorem State.serveWaits_keeps {o s : State} (h : Keeps o s) : Keeps o (State.serveWaits s) := by
  unfold State.serveWaits
  with_reducible apply State.pausedCheck_keeps
  refine Keeps.foldl ?_ ?_
  · exact h
  · intro k1 k2 k3
    exact State.tryDeferred_keeps k3

theorem State.deferRepair_keeps {o s : State} {sl : Nat} {trigger : Nat} (h : Keeps o s) :
    Keeps o (State.deferRepair s sl trigger) := by
  unfold State.deferRepair
  extract_lets s1 s2 x3
  have hs1 : Keeps o s1 := by
    unfold s1
    exact State.bump_keeps (State.report_keeps h)
  clear_value s1
  have hs2 : Keeps o s2 := by
    unfold s2
    exact State.addWindow_keeps hs1
  clear_value s2
  exact Keeps.ite h (State.serveWaits_keeps (State.setRot_keeps hs2))

theorem State.windowDrain_keeps {o s : State} {sl : Nat} (h : Keeps o s) : Keeps o (State.windowDrain s sl) := by
  unfold State.windowDrain
  extract_lets x1
  exact State.setRot_keeps h

end Sys2Proof.Machine
end

