-- ==== Sys2Proof/Laws/KeepsPixel.lean ====
section
/-!
SUPPORT. What every operation and every command keeps (Keeps): the pixel path, configurations and pairing.
-/
namespace Sys2Proof.Machine

theorem State.claimMaster_keeps {o s : State} {p : Nat} {epoch : Nat} (h : Keeps o s) :
    Keeps o (State.claimMaster s p epoch) := by
  unfold State.claimMaster
  exact State.bcQueue_keeps h

theorem State.restore_keeps {o s : State} {p : Nat} {r : List Byte} (h : Keeps o s) :
    Keeps o (State.restore s p r) := by
  unfold State.restore
  extract_lets c1 q2 ends3 opt4 s5 x6 s7 s8 x9
  have hs5 : Keeps o s5 := by
    unfold s5
    exact State.setCam_keeps h
  clear_value s5
  have hs7 : Keeps o s7 := by
    unfold s7
    exact State.setPort_keeps hs5
  clear_value s7
  have hs8 : Keeps o s8 := by
    unfold s8
    refine Keeps.foldl ?_ ?_
    · exact hs7
    · intro k10 k11 k12
      extract_lets d13 n14 x15
      exact State.setStream_keeps k12
  clear_value s8
  exact State.setStream_keeps hs8

theorem State.loseSpare_keeps {o s : State} {p : Nat} (h : Keeps o s) : Keeps o (State.loseSpare s p) := by
  unfold State.loseSpare
  split
  · exact h
  · extract_lets c1 s2 s3
    have hs2 : Keeps o s2 := by
      unfold s2
      exact State.mapNext_keeps (State.setCam_keeps h)
    clear_value s2
    have hs3 : Keeps o s3 := by
      unfold s3
      exact State.setSstate_keeps (State.idleEngine_keeps (State.unclaim_keeps hs2))
    clear_value s3
    exact State.bump_keeps (State.report_keeps hs3)

theorem State.flipDest_keeps {o s : State} {p : Nat} {dest : Option Nat} (h : Keeps o s) :
    Keeps o (State.flipDest s p dest) := by
  unfold State.flipDest
  split
  · exact h
  · extract_lets f1 x2
    refine Keeps.of_mk ?_ rfl
    exact h

theorem State.retake_keeps {o s : State} {p : Nat} (h : Keeps o s) : Keeps o (State.retake s p) := by
  unfold State.retake
  split
  · exact h
  · extract_lets x1 s2 x3
    have hs2 : Keeps o s2 := by
      unfold s2
      exact State.setCam_keeps h
    clear_value s2
    rename_i v4 v5 v6
    have hd7 : KeepsSome o (s2.claim (if v5 = mvProving then clProving else if v5 = mvDeferred then clDeferred else clFlip)) := by
      exact State.claim_keeps hs2
    generalize (s2.claim (if v5 = mvProving then clProving else if v5 = mvDeferred then clDeferred else clFlip)) = d7 at hd7 ⊢
    rcases d7 with _ | ⟨d8a, d8b⟩
    · try dsimp -zeta only
      split
      · exact hs2
      · exact Keeps.ite (State.setRot_keeps hs2) (Keeps.ite (State.flipDest_keeps hs2) (State.setRot_keeps hs2))
    · have kd8 := KeepsSome.get hd7 rfl
      try dsimp -zeta only at kd8 ⊢
      exact State.planMove_keeps (Keeps.ite (State.flipDest_keeps kd8) kd8)

theorem State.claimTakeover_keeps {o s : State} {sids : Nat} (h : Keeps o s) :
    KeepsSome o (State.claimTakeover s sids) := by
  unfold State.claimTakeover
  split
  · refine KeepsSome.ofSome ?_
    dsimp -zeta only
    exact State.setFld_keeps h
  · have hd1 : KeepsSome o (s.claim clTakeover) := by
      exact State.claim_keeps h
    generalize (s.claim clTakeover) = d1 at hd1 ⊢
    rcases d1 with _ | ⟨d2a, d2b⟩
    · try dsimp -zeta only
      split
      · extract_lets dest3 s4
        have hs4 : Keeps o s4 := by
          unfold s4
          exact State.loseSpare_keeps h
        clear_value s4
        exact KeepsSome.ite (KeepsSome.ofSome hs4) hd1
      · exact hd1
    · have kd2 := KeepsSome.get hd1 rfl
      try dsimp -zeta only at kd2 ⊢
      exact hd1

theorem State.noticeRun_keeps {o s : State} {p : Nat} {k : Nat} {f : Frame} {z4 : Nat} {z5 : Nat} (h : Keeps o s) :
    Keeps o (State.noticeRun s p k f z4 z5) := by
  revert h
  fun_induction State.noticeRun s p k f z4 z5
  · intro k1
    exact k1
  · intro k2
    rename_i v3 v4 v5 v6 v7
    have hv5 : Keeps o v5 := by
      unfold v5
      exact State.announce_keeps k2
    clear_value v5
    have hv6 : Keeps o v6 := by
      unfold v6
      exact State.notice_keeps hv5
    clear_value v6
    extract_lets x8
    with_reducible apply v7
    exact State.setStream_keeps hv6

theorem State.recordRun_keeps {o s : State} {p : Nat} {f : Frame} {x : Nat × Nat} (h : Keeps o s) :
    Keeps o (State.recordRun s p f x) := by
  unfold State.recordRun
  refine Keeps.foldl ?_ ?_
  · exact h
  · intro k1 k2 k3
    exact State.statRecord_keeps k3

theorem State.noticeGaps_keeps {o s : State} {p : Nat} {f : Frame} {z3 : List (Nat × Nat × Nat)} (h : Keeps o s) :
    Keeps o (State.noticeGaps s p f z3) := by
  revert h
  fun_induction State.noticeGaps s p f z3
  · intro k1
    exact k1
  · intro k2
    rename_i v3
    with_reducible apply v3
    exact State.noticeRun_keeps k2

theorem State.takeStreams_keeps {o s : State} {p : Nat} {cause : Nat} (h : Keeps o s) :
    Keeps o (State.takeStreams s p cause) := by
  unfold State.takeStreams
  refine Keeps.foldl ?_ ?_
  · exact h
  · intro k1 k2 k3
    extract_lets sid4 x5
    exact Keeps.ite (State.setStream_keeps k3) k3

theorem State.takenAll_keeps {o s : State} (h : Keeps o s) : Keeps o (State.takenAll s) := by
  unfold State.takenAll
  extract_lets x1 s2
  have hs2 : Keeps o s2 := by
    unfold s2
    refine Keeps.ite ?_ ?_
    · refine Keeps.of_mk ?_ rfl
      exact h
    · exact h
  clear_value s2
  exact Keeps.ite h (Keeps.ite (State.setMode_keeps h) (State.setFld_keeps hs2))

theorem State.latTakeover_keeps {o s : State} {p : Nat} (h : Keeps o s) : Keeps o (State.latTakeover s p) := by
  unfold State.latTakeover
  extract_lets one1
  refine Keeps.of_mk ?_ rfl
  exact h

theorem State.tryTakeover_keeps {o s : State} {p : Nat} (h : Keeps o s) : Keeps o (State.tryTakeover s p).2 := by
  unfold State.tryTakeover
  have hd1 : KeepsSome o (s.claimTakeover p) := by
    exact State.claimTakeover_keeps h
  generalize (s.claimTakeover p) = d1 at hd1 ⊢
  rcases d1 with _ | ⟨d2a, d2b⟩
  · try dsimp -zeta only
    exact h
  · have kd2 := KeepsSome.get hd1 rfl
    try dsimp -zeta only at kd2 ⊢
    exact kd2

theorem State.takeover_keeps {o s : State} {p : Nat} {g : Nat} {g0 : Frame} (h : Keeps o s) :
    Keeps o (State.takeover s p g g0) := by
  unfold State.takeover
  extract_lets x1 s2 s3 x4 s5 last6
  have hs2 : Keeps o s2 := by
    unfold s2
    exact State.setPair_keeps h
  clear_value s2
  have hs3 : Keeps o s3 := by
    unfold s3
    exact State.bump_keeps (State.setArmed_keeps (State.setPrimary_keeps hs2))
  clear_value s3
  have hs5 : Keeps o s5 := by
    unfold s5
    exact State.setPort_keeps hs3
  clear_value s5
  have hd7 : Keeps o (s5.tryTakeover p).2 := by
    exact State.tryTakeover_keeps hs5
  generalize (s5.tryTakeover p) = d7 at hd7 ⊢
  rcases d7 with ⟨d8a, d8b⟩
  dsimp -zeta only at *
  extract_lets recs9 s10 held11 two12 x13 behind14 s15 again16 x17 s18 s19
  have hs10 : Keeps o s10 := by
    unfold s10
    exact State.takeStreams_keeps hd7
  clear_value s10
  have hs15 : Keeps o s15 := by
    unfold s15
    split
    · exact State.setCam_keeps (State.report_keeps hs10)
    · extract_lets s20 gaps21 n22 s23 s24 x25
      have hs20 : Keeps o s20 := by
        unfold s20
        exact State.restore_keeps hs10
      clear_value s20
      have hs23 : Keeps o s23 := by
        unfold s23
        exact State.bump_keeps (State.recordRun_keeps (State.noticeGaps_keeps hs20))
      clear_value s23
      have hs24 : Keeps o s24 := by
        unfold s24
        exact Keeps.ite hs23 (State.report_keeps hs23)
      clear_value s24
      split
      · extract_lets f26 f27 ring28
        exact State.bump_keeps (State.setPair_keeps hs24)
      · exact hs24
  clear_value s15
  have hs18 : Keeps o s18 := by
    unfold s18
    exact State.setPair_keeps hs15
  clear_value s18
  have hs19 : Keeps o s19 := by
    unfold s19
    split
    · exact State.takeSlice_keeps hs18
    · exact State.noSpare_keeps hs18
  clear_value s19
  exact State.takenAll_keeps (State.peerIntr_keeps (State.latTakeover_keeps hs19))

theorem State.handoverHere_keeps {o s : State} {p : Nat} {z2 : Nat} (h : Keeps o s) :
    Keeps o (State.handoverHere s p z2) := by
  unfold State.handoverHere
  extract_lets s1 s2 x3 s4
  have hs1 : Keeps o s1 := by
    unfold s1
    exact State.claimMaster_keeps h
  clear_value s1
  have hs2 : Keeps o s2 := by
    unfold s2
    exact State.takeStreams_keeps (State.setArmed_keeps (State.setPrimary_keeps hs1))
  clear_value s2
  have hs4 : Keeps o s4 := by
    unfold s4
    exact State.setPair_keeps hs2
  clear_value s4
  have hd5 : KeepsSome o (s4.claimTakeover p) := by
    exact State.claimTakeover_keeps hs4
  generalize (s4.claimTakeover p) = d5 at hd5 ⊢
  rcases d5 with _ | ⟨d6a, d6b⟩
  · try dsimp -zeta only
    exact State.noSpare_keeps hs4
  · have kd6 := KeepsSome.get hd5 rfl
    try dsimp -zeta only at kd6 ⊢
    exact State.takeSlice_keeps kd6

theorem State.handoverLate_keeps {o s : State} {p : Nat} {g0 : Frame} (h : Keeps o s) :
    Keeps o (State.handoverLate s p g0) := by
  unfold State.handoverLate
  extract_lets r1 x2 s3
  have hs3 : Keeps o s3 := by
    unfold s3
    exact State.setPair_keeps h
  clear_value s3
  split
  · exact State.report_keeps hs3
  · extract_lets s4 gaps5 n6 s7
    have hs4 : Keeps o s4 := by
      unfold s4
      exact State.restore_keeps hs3
    clear_value s4
    have hs7 : Keeps o s7 := by
      unfold s7
      exact State.bump_keeps (State.recordRun_keeps (State.noticeGaps_keeps hs4))
    clear_value s7
    exact Keeps.ite hs7 (State.report_keeps hs7)

theorem State.handoverRecord_keeps {o s : State} {p : Nat} (h : Keeps o s) : Keeps o (State.handoverRecord s p) := by
  unfold State.handoverRecord
  extract_lets r1 x2
  split
  · exact State.setPair_keeps (State.restore_keeps h)
  · exact h

theorem State.arrive_keeps {o s : State} {t : Trans} (h : Keeps o s) : Keeps o (State.arrive s t) := by
  unfold State.arrive
  extract_lets x1
  refine Keeps.ite ?_ ?_
  · with_reducible apply State.setFlds_keeps
    refine Keeps.of_mk ?_ rfl
    exact h
  · exact State.setMode_keeps h

theorem State.endTrans_keeps {o s : State} {t : Trans} (h : Keeps o s) : Keeps o (State.endTrans s t) := by
  unfold State.endTrans
  extract_lets x1 s2 s3
  have hs2 : Keeps o s2 := by
    unfold s2
    refine Keeps.of_mk ?_ rfl
    exact h
  clear_value s2
  have hs3 : Keeps o s3 := by
    unfold s3
    exact State.arrive_keeps hs2
  clear_value s3
  split
  · exact State.finish_keeps hs3
  · exact hs3

theorem State.failTrans_keeps {o s : State} {status : Nat} {detail : Nat} (h : Keeps o s) :
    Keeps o (State.failTrans s status detail) := by
  unfold State.failTrans
  split
  · exact h
  · extract_lets x1 s2
    have hs2 : Keeps o s2 := by
      unfold s2
      with_reducible apply State.setFld_keeps
      refine Keeps.of_mk ?_ rfl
      exact h
    clear_value s2
    split
    · exact State.finish_keeps hs2
    · exact hs2

theorem State.propose_keeps {o s : State} {p : Nat} {z2 : Nat} {tries : Nat} (h : Keeps o s) :
    Keeps o (State.propose s p z2 tries) := by
  unfold State.propose
  extract_lets s1 x2
  have hs1 : Keeps o s1 := by
    unfold s1
    exact State.pairReq_keeps h
  clear_value s1
  exact State.setPair_keeps hs1

theorem State.giveCamera_keeps {o s : State} {p : Nat} (h : Keeps o s) : Keeps o (State.giveCamera s p) := by
  unfold State.giveCamera
  extract_lets soon1
  exact State.propose_keeps h

theorem State.leavePair_keeps {o s : State} (h : Keeps o s) : Keeps o (State.leavePair s) := by
  unfold State.leavePair
  extract_lets s1 x2 s3 s4 x5 s6
  have hs1 : Keeps o s1 := by
    unfold s1
    exact State.pairCtl_keeps h
  clear_value s1
  have hs3 : Keeps o s3 := by
    unfold s3
    exact State.setPrState_keeps (State.setPair_keeps hs1)
  clear_value s3
  have hs4 : Keeps o s4 := by
    unfold s4
    exact State.setFld_keeps hs3
  clear_value s4
  have hs6 : Keeps o s6 := by
    unfold s6
    refine Keeps.of_mk ?_ rfl
    exact hs4
  clear_value s6
  refine Keeps.foldl ?_ ?_
  · exact hs6
  · intro k7 k8 k9
    exact State.setFld_keeps k9

theorem State.standbyTurn_keeps {o s : State} {p : Nat} {fn : Nat} (h : Keeps o s) :
    Keeps o (State.standbyTurn s p fn) := by
  unfold State.standbyTurn
  extract_lets x1 s2 s3 s4
  have hs2 : Keeps o s2 := by
    unfold s2
    exact State.setPair_keeps h
  clear_value s2
  have hs3 : Keeps o s3 := by
    unfold s3
    exact State.claimMaster_keeps hs2
  clear_value s3
  have hs4 : Keeps o s4 := by
    unfold s4
    exact State.release_keeps (State.dropMove_keeps h)
  clear_value s4
  refine Keeps.ite ?_ ?_
  · refine Keeps.ite ?_ ?_
    · exact hs2
    · have hd5 : KeepsSome o (s3.claim clRepair) := by
        exact State.claim_keeps hs3
      generalize (s3.claim clRepair) = d5 at hd5 ⊢
      rcases d5 with _ | ⟨d6a, d6b⟩
      · try dsimp -zeta only
        exact State.noSpare_keeps hs3
      · have kd6 := KeepsSome.get hd5 rfl
        try dsimp -zeta only at kd6 ⊢
        exact State.takeSlice_keeps kd6
  · refine Keeps.ite ?_ ?_
    · refine Keeps.foldl ?_ ?_
      · exact hs4
      · intro k7 k8 k9
        extract_lets x10
        exact Keeps.ite (State.setStream_keeps k9) k9
    · exact h

theorem State.handoversDone_keeps {o s : State} (h : Keeps o s) : Keeps o (State.handoversDone s) := by
  unfold State.handoversDone
  refine Keeps.ite ?_ ?_
  · exact h
  · split
    · split
      · extract_lets x1
        exact State.finish_keeps (State.setPair_keeps h)
      · exact h
    · extract_lets s2
      have hs2 : Keeps o s2 := by
        unfold s2
        exact State.leavePair_keeps h
      clear_value s2
      split
      · exact State.endTrans_keeps hs2
      · exact hs2
    · exact State.leavePair_keeps h
    · exact h

theorem State.handoverFail_keeps {o s : State} {p : Nat} (h : Keeps o s) : Keeps o (State.handoverFail s p) := by
  unfold State.handoverFail
  extract_lets x1 s2 x3 s4
  have hs2 : Keeps o s2 := by
    unfold s2
    exact State.setPair_keeps h
  clear_value s2
  have hs4 : Keeps o s4 := by
    unfold s4
    exact State.setPair_keeps hs2
  clear_value s4
  refine Keeps.ite ?_ ?_
  · exact State.handoversDone_keeps (State.setPair_keeps hs2)
  · exact Keeps.ite (State.failTrans_keeps (State.setPrState_keeps hs4)) hs2

theorem State.handoverGive_keeps {o s : State} {p : Nat} {fn : Nat} (h : Keeps o s) :
    Keeps o (State.handoverGive s p fn) := by
  unfold State.handoverGive
  extract_lets x1 x2 s3 s4 s5
  have hs3 : Keeps o s3 := by
    unfold s3
    exact State.setPrimary_keeps (State.setPair_keeps h)
  clear_value s3
  have hs4 : Keeps o s4 := by
    unfold s4
    exact State.release_keeps (State.dropMove_keeps hs3)
  clear_value s4
  have hs5 : Keeps o s5 := by
    unfold s5
    refine Keeps.foldl ?_ ?_
    · exact hs4
    · intro k6 k7 k8
      extract_lets x9
      exact State.setStream_keeps k8
  clear_value s5
  refine Keeps.ite ?_ ?_
  · exact h
  · refine Keeps.ite ?_ ?_
    · exact h
    · refine Keeps.ite ?_ ?_
      · exact State.handoversDone_keeps (State.peerIntr_keeps (State.bump_keeps hs5))
      · exact Keeps.ite (State.propose_keeps h) (State.handoverFail_keeps h)

theorem State.setDma_keeps {o s : State} {ch : Nat} {d : Dma} (h : Keeps o s) : Keeps o (State.setDma s ch d) := by
  unfold State.setDma
  extract_lets st1
  with_reducible apply State.setFlds_keeps
  refine Keeps.of_mk ?_ rfl
  exact h

theorem State.dmaWriteBack_keeps {o s : State} {d : Dma} {code : Nat} {detail : Nat} (h : Keeps o s) :
    Keeps o (State.dmaWriteBack s d code detail) := by
  unfold State.dmaWriteBack
  extract_lets res1
  exact State.store_keeps (State.store_keeps h)

theorem State.dmaStop_keeps {o s : State} {ch : Nat} {desc : Nat} {pc : Nat} {tag : Nat} {code : Nat} {detail : Nat} {irq : Bool}
    (h : Keeps o s) :
    Keeps o (State.dmaStop s ch desc pc tag code detail irq) := by
  unfold State.dmaStop
  extract_lets s1 s2 s3
  have hs1 : Keeps o s1 := by
    unfold s1
    with_reducible apply State.setFlds_keeps
    refine Keeps.of_mk ?_ rfl
    exact h
  clear_value s1
  have hs2 : Keeps o s2 := by
    unfold s2
    exact Keeps.ite hs1 (State.intrEvent_keeps hs1)
  clear_value s2
  have hs3 : Keeps o s3 := by
    unfold s3
    exact Keeps.ite (State.report_keeps hs2) (Keeps.ite (State.report_keeps hs2) hs2)
  clear_value s3
  exact Keeps.ite hs3 (State.bump_keeps hs3)

theorem State.dmaStart_keeps {o s : State} {ch : Nat} {desc : Nat} {last : Option Nat} (h : Keeps o s) :
    Keeps o (State.dmaStart s ch desc last) := by
  unfold State.dmaStart
  extract_lets s1 h2 tag3 d4
  have hs1 : Keeps o s1 := by
    unfold s1
    exact State.setFlds_keeps h
  clear_value s1
  refine Keeps.ite ?_ ?_
  · split
    · exact State.dmaStop_keeps hs1
    · exact State.dmaStop_keeps (State.took_keeps hs1)
  · refine Keeps.ite ?_ ?_
    · exact State.dmaStop_keeps (State.dmaWriteBack_keeps hs1)
    · refine Keeps.ite ?_ ?_
      · exact State.dmaStop_keeps hs1
      · exact Keeps.ite (State.dmaStop_keeps (State.dmaWriteBack_keeps hs1)) (State.setDma_keeps hs1)

theorem State.dmaEnd_keeps {o s : State} {ch : Nat} {d : Dma} {code : Nat} {detail : Nat} (h : Keeps o s) :
    Keeps o (State.dmaEnd s ch d code detail) := by
  unfold State.dmaEnd
  extract_lets s1
  have hs1 : Keeps o s1 := by
    unfold s1
    exact State.dmaStop_keeps (State.dmaWriteBack_keeps h)
  clear_value s1
  exact Keeps.ite (State.dmaStart_keeps hs1) hs1

theorem State.dmaNext_keeps {o s : State} {ch : Nat} {d : Dma} (h : Keeps o s) : Keeps o (State.dmaNext s ch d) := by
  unfold State.dmaNext
  exact State.setDma_keeps h

theorem State.setEvFlag_keeps {o s : State} {k : Nat} {b : Bool} (h : Keeps o s) :
    Keeps o (State.setEvFlag s k b) := by
  unfold State.setEvFlag
  exact State.setFld_keeps h

theorem State.dmaWake_keeps {o s : State} {z1 : List (Nat × Dma)} (h : Keeps o s) : Keeps o (State.dmaWake s z1) := by
  revert h
  fun_induction State.dmaWake s z1
  · intro k1
    exact k1
  · intro k2
    rename_i v3
    with_reducible apply v3
    exact State.dmaNext_keeps k2

theorem State.evSet_keeps {o s : State} {k : Nat} (h : Keeps o s) : Keeps o (State.evSet s k) := by
  unfold State.evSet
  extract_lets s1 plain2 clear3 s4
  have hs1 : Keeps o s1 := by
    unfold s1
    exact State.setEvFlag_keeps h
  clear_value s1
  have hs4 : Keeps o s4 := by
    unfold s4
    exact State.dmaWake_keeps hs1
  clear_value s4
  refine Keeps.ite ?_ ?_
  · exact h
  · clear_value clear3
    split
    · exact hs4
    · exact State.setEvFlag_keeps (State.dmaNext_keeps hs4)

theorem State.evSets_keeps {o s : State} {mask : Nat} {base : Nat} {z3 : List Nat} (h : Keeps o s) :
    Keeps o (State.evSets s mask base z3) := by
  revert h
  fun_induction State.evSets s mask base z3
  · intro k1
    exact k1
  · intro k2
    rename_i v3
    with_reducible apply v3
    exact Keeps.ite (State.evSet_keeps k2) k2

theorem State.evSetWrite_keeps {o s : State} {n : Nat} {mask : Nat} (h : Keeps o s) :
    Keeps o (State.evSetWrite s n mask) := by
  unfold State.evSetWrite
  exact State.evSets_keeps h

theorem State.evClrWrite_keeps {o s : State} {n : Nat} {mask : Nat} (h : Keeps o s) :
    Keeps o (State.evClrWrite s n mask) := by
  unfold State.evClrWrite
  exact State.setFld_keeps h

theorem State.dmaBoundary_keeps {o s : State} {p : Nat} (h : Keeps o s) : Keeps o (State.dmaBoundary s p) := by
  unfold State.dmaBoundary
  exact State.dmaWake_keeps h

theorem State.dmaGo_keeps {o s : State} {ch : Nat} (h : Keeps o s) : Keeps o (State.dmaGo s ch) := by
  unfold State.dmaGo
  exact Keeps.ite (State.bump_keeps h) (State.dmaStart_keeps h)

theorem State.dmaAbort_keeps {o s : State} {ch : Nat} {detail : Nat} (h : Keeps o s) :
    Keeps o (State.dmaAbort s ch detail) := by
  unfold State.dmaAbort
  split
  · exact h
  · exact State.dmaEnd_keeps h

theorem State.dmaAbortAll_keeps {o s : State} {z1 : List (Nat × Dma)} (h : Keeps o s) :
    Keeps o (State.dmaAbortAll s z1) := by
  revert h
  fun_induction State.dmaAbortAll s z1
  · intro k1
    exact k1
  · intro k2
    rename_i v3
    with_reducible apply v3
    exact State.dmaAbort_keeps k2

theorem State.dmaIdle_keeps {o s : State} {z1 : List (Nat × Dma)} (h : Keeps o s) : Keeps o (State.dmaIdle s z1) := by
  revert h
  fun_induction State.dmaIdle s z1
  · intro k1
    exact k1
  · intro k2
    rename_i v3
    with_reducible apply v3
    exact State.setFld_keeps k2

theorem State.dmaHalt_keeps {o s : State} (h : Keeps o s) : Keeps o (State.dmaHalt s) := by
  unfold State.dmaHalt
  extract_lets l1
  with_reducible apply State.dmaIdle_keeps
  refine Keeps.of_mk ?_ rfl
  exact h

theorem execDmaGo_keeps {o : State} {ch : DmaCh} {s : State} (h : Keeps o s) : KeepsOut o (execDmaGo ch s) := by
  unfold execDmaGo
  exact KeepsOut.next (Keeps.ite (State.dmaGo_keeps h) h)

theorem execDmaAbort_keeps {o : State} {ch : DmaCh} {s : State} (h : Keeps o s) : KeepsOut o (execDmaAbort ch s) := by
  unfold execDmaAbort
  exact KeepsOut.next (Keeps.ite (State.dmaAbort_keeps h) h)

theorem execDmaEvset_keeps {o : State} {n : Fin 2} {mask : Word} {s : State} (h : Keeps o s) :
    KeepsOut o (execDmaEvset n mask s) := by
  unfold execDmaEvset
  exact KeepsOut.next (Keeps.ite (State.evSetWrite_keeps h) h)

theorem execDmaEvclr_keeps {o : State} {n : Fin 2} {mask : Word} {s : State} (h : Keeps o s) :
    KeepsOut o (execDmaEvclr n mask s) := by
  unfold execDmaEvclr
  exact KeepsOut.next (Keeps.ite (State.evClrWrite_keeps h) h)

theorem State.dmaClear_keeps {o s : State} (h : Keeps o s) : Keeps o (State.dmaClear s) := by
  unfold State.dmaClear
  exact State.setFlds_keeps h

theorem execDmaCounterClear_keeps {o s : State} (h : Keeps o s) : KeepsOut o (execDmaCounterClear s) := by
  unfold execDmaCounterClear
  exact KeepsOut.next (Keeps.ite (State.dmaClear_keeps h) h)

theorem State.number_keeps {o s : State} {p : Nat} {z2 : Nat} (h : Keeps o s) : Keeps o (State.number s p z2) := by
  unfold State.number
  extract_lets g1 fn2 j3 s4
  have hs4 : Keeps o s4 := by
    unfold s4
    exact State.setIngest_keeps h
  clear_value s4
  clear_value j3
  split
  · exact hs4
  · extract_lets s5
    have hs5 : Keeps o s5 := by
      unfold s5
      exact State.report_keeps (State.bump_keeps hs4)
    clear_value s5
    exact Keeps.ite (State.pqJump_keeps hs5) (State.queueInit_keeps hs5)

theorem State.attachChecks_keeps {o s : State} {p : Nat} (h : Keeps o s) : Keeps o (State.attachChecks s p) := by
  unfold State.attachChecks
  extract_lets c1 d2 i3 s4 s5 s6
  have hs4 : Keeps o s4 := by
    unfold s4
    exact Keeps.ite (State.report_keeps h) h
  clear_value s4
  have hs5 : Keeps o s5 := by
    unfold s5
    exact Keeps.ite hs4 (State.report_keeps hs4)
  clear_value s5
  have hs6 : Keeps o s6 := by
    unfold s6
    exact Keeps.ite (State.report_keeps hs5) hs5
  clear_value s6
  exact Keeps.ite (State.report_keeps hs6) hs6

theorem State.attach_keeps {o s : State} {p : Nat} (h : Keeps o s) : Keeps o (State.attach s p) := by
  unfold State.attach
  extract_lets s1 x2 s3 s4 s5 x6 s7 c8 again9 s10 s11 s12 s13
  have hs1 : Keeps o s1 := by
    unfold s1
    exact State.setPstate_keeps h
  clear_value s1
  have hs3 : Keeps o s3 := by
    unfold s3
    exact State.setIngest_keeps hs1
  clear_value s3
  have hs4 : Keeps o s4 := by
    unfold s4
    exact State.endReasons_keeps hs3
  clear_value s4
  have hs5 : Keeps o s5 := by
    unfold s5
    exact Keeps.ite hs4 (State.queueInit_keeps hs4)
  clear_value s5
  have hs7 : Keeps o s7 := by
    unfold s7
    exact State.setPort_keeps hs5
  clear_value s7
  have hs10 : Keeps o s10 := by
    unfold s10
    exact Keeps.ite (State.openStream_keeps hs7) hs7
  clear_value s10
  have hs11 : Keeps o s11 := by
    unfold s11
    exact State.telemetry_keeps hs10
  clear_value s11
  have hs12 : Keeps o s12 := by
    unfold s12
    exact State.setCam_keeps hs11
  clear_value s12
  have hs13 : Keeps o s13 := by
    unfold s13
    refine Keeps.ite ?_ ?_
    · exact hs12
    · have hd14 : KeepsSome o (s12.claim clRepair) := by
        exact State.claim_keeps hs12
      generalize (s12.claim clRepair) = d14 at hd14 ⊢
      rcases d14 with _ | ⟨d15a, d15b⟩
      · try dsimp -zeta only
        exact State.noSpare_keeps hs12
      · have kd15 := KeepsSome.get hd14 rfl
        try dsimp -zeta only at kd15 ⊢
        exact State.takeSlice_keeps kd15
  clear_value s13
  exact State.attachChecks_keeps hs13

theorem State.dropCamera_keeps {o s : State} {p : Nat} (h : Keeps o s) : Keeps o (State.dropCamera s p) := by
  unfold State.dropCamera
  extract_lets c1 s2
  have hs2 : Keeps o s2 := by
    unfold s2
    exact State.setPstate_keeps (State.setCam_keeps h)
  clear_value s2
  with_reducible apply State.flipLeaves_keeps
  exact State.enterDegraded_keeps (State.raiseReason_keeps (State.release_keeps (State.dropMove_keeps hs2)))

theorem State.depose_keeps {o s : State} {p : Nat} (h : Keeps o s) : Keeps o (State.depose s p) := by
  unfold State.depose
  extract_lets x1 s2 s3 x4 s5 s6
  have hs2 : Keeps o s2 := by
    unfold s2
    exact State.setPort_keeps h
  clear_value s2
  have hs3 : Keeps o s3 := by
    unfold s3
    exact State.release_keeps (State.dropMove_keeps (State.setPrimary_keeps hs2))
  clear_value s3
  have hs5 : Keeps o s5 := by
    unfold s5
    exact State.setPair_keeps hs3
  clear_value s5
  have hs6 : Keeps o s6 := by
    unfold s6
    refine Keeps.foldl ?_ ?_
    · exact hs5
    · intro k7 k8 k9
      extract_lets x10
      exact State.setStream_keeps k9
  clear_value s6
  exact State.peerIntr_keeps (State.report_keeps hs6)

theorem State.portTurns_keeps {o s : State} {p : Nat} {z2 : Nat} (h : Keeps o s) :
    Keeps o (State.portTurns s p z2) := by
  unfold State.portTurns
  extract_lets x1 s2 m3 s4 x5 serves6
  have hs2 : Keeps o s2 := by
    unfold s2
    split
    · exact State.setPctl_keeps (State.setPort_keeps h)
    · exact h
  clear_value s2
  have hs4 : Keeps o s4 := by
    unfold s4
    exact Keeps.ite (State.setMaster_keeps hs2) hs2
  clear_value s4
  refine Keeps.ite ?_ ?_
  · exact hs4
  · refine Keeps.ite ?_ ?_
    · exact State.flipLeaves_keeps (State.leaveSlice_keeps (State.refuseHead_keeps (State.setPort_keeps hs4)))
    · refine Keeps.ite ?_ ?_
      · exact State.flipLeaves_keeps (State.loseHead_keeps (State.setPort_keeps hs4))
      · exact Keeps.ite (State.dropCamera_keeps hs4) (Keeps.ite (State.depose_keeps hs4) hs4)

theorem State.flipBoundary_keeps {o s : State} {port : Port} (h : Keeps o s) :
    Keeps o (State.flipBoundary s port) := by
  unfold State.flipBoundary
  extract_lets p1 s2
  have hs2 : Keeps o s2 := by
    unfold s2
    exact State.flipPaced_keeps h
  clear_value s2
  split
  · exact Keeps.ite (State.flipOne_keeps (State.switchCamera_keeps hs2)) (State.flipCheck_keeps hs2)
  · exact hs2

theorem State.takePlan_keeps {o s : State} {p : Nat} {sl : Nat} {fn : Nat} (h : Keeps o s) :
    Keeps o (State.takePlan s p sl fn) := by
  unfold State.takePlan
  extract_lets c1 shares2 first3 old4 s5 s6 s7 s8 x9 s10 s11 s12
  have hs5 : Keeps o s5 := by
    unfold s5
    exact State.setCam_keeps h
  clear_value s5
  have hs6 : Keeps o s6 := by
    unfold s6
    exact State.connect_keeps hs5
  clear_value s6
  have hs7 : Keeps o s7 := by
    unfold s7
    clear_value old4
    split
    · extract_lets s13
      have hs13 : Keeps o s13 := by
        unfold s13
        exact Keeps.ite (State.sweepSlices_keeps (State.windowDrain_keeps (State.endService_keeps hs6))) hs6
      clear_value s13
      exact Keeps.ite (State.giveBack_keeps hs13) hs13
    · exact hs5
  clear_value s7
  have hs8 : Keeps o s8 := by
    unfold s8
    exact State.connect_keeps hs7
  clear_value s8
  have hs10 : Keeps o s10 := by
    unfold s10
    refine Keeps.of_mk ?_ rfl
    exact hs8
  clear_value s10
  have hs11 : Keeps o s11 := by
    unfold s11
    exact Keeps.ite (State.enterDegraded_keeps hs10) (State.takeSlice_keeps hs7)
  clear_value s11
  have hs12 : Keeps o s12 := by
    unfold s12
    exact Keeps.ite (Keeps.ite (State.enterDegraded_keeps hs11) hs11) hs11
  clear_value s12
  exact State.leaveDegraded_keeps hs12

theorem State.moveNow_keeps {o s : State} {port : Port} {dest : Nat} {why : Nat} {fn : Nat} (h : Keeps o s) :
    Keeps o (State.moveNow s port dest why fn) := by
  unfold State.moveNow
  extract_lets p1 old2 s3 c4 s5 s6 s7 s8 s9
  have hs3 : Keeps o s3 := by
    unfold s3
    exact Keeps.ite (State.flipOne_keeps (State.switchCamera_keeps h)) h
  clear_value s3
  have hs5 : Keeps o s5 := by
    unfold s5
    exact State.setCam_keeps hs3
  clear_value s5
  have hs6 : Keeps o s6 := by
    unfold s6
    exact State.emptySlice_keeps (State.setSstate_keeps (State.connect_keeps (State.unclaim_keeps hs5)))
  clear_value s6
  have hs7 : Keeps o s7 := by
    unfold s7
    exact State.setFld_keeps hs6
  clear_value s7
  have hs8 : Keeps o s8 := by
    unfold s8
    exact State.startEngine_keeps (State.loadSlice_keeps hs7)
  clear_value s8
  have hs9 : Keeps o s9 := by
    unfold s9
    exact State.post_keeps hs8
  clear_value s9
  exact Keeps.ite (State.sweepSlices_keeps (State.windowDrain_keeps (State.endService_keeps hs9))) hs9

theorem State.moveBoundary_keeps {o s : State} {port : Port} {fn : Nat} {busy : Bool} (h : Keeps o s) :
    Keeps o (State.moveBoundary s port fn busy) := by
  unfold State.moveBoundary
  extract_lets p1 s2 c3 src4
  have hs2 : Keeps o s2 := by
    unfold s2
    exact State.retake_keeps h
  clear_value s2
  split
  · exact hs2
  · extract_lets leave5 defer6 early7
    have hleave5 : ∀ y0, Keeps o y0 → Keeps o (leave5 y0) := by
      unfold leave5
      intro k8 k9
      extract_lets x10 s11
      have hs11 : Keeps o s11 := by
        unfold s11
        exact State.setCam_keeps k9
      clear_value s11
      refine Keeps.ite ?_ ?_
      · clear_value src4
        split
        · exact State.post_keeps hs11
        · exact hs11
      · exact k9
    clear_value leave5
    have hdefer6 : ∀ y0, Keeps o y0 → Keeps o (defer6 y0) := by
      unfold defer6
      intro k12 k13
      clear_value src4
      split
      · with_reducible apply hleave5
        exact State.post_keeps (State.bump_keeps (State.report_keeps k13))
      · exact k13
    clear_value defer6
    split
    · refine Keeps.ite ?_ ?_
      · with_reducible apply hleave5
        exact hs2
      · clear_value src4
        split
        · with_reducible apply hleave5
          exact State.post_keeps (State.report_keeps hs2)
        · exact hs2
    · refine Keeps.ite ?_ ?_
      · exact State.moveNow_keeps hs2
      · with_reducible apply hdefer6
        exact hs2

theorem State.mapBoundary_keeps {o s : State} {p : Nat} {fn : Nat} (h : Keeps o s) :
    Keeps o (State.mapBoundary s p fn) := by
  unfold State.mapBoundary
  extract_lets c1 n2 s3 s4
  have hs3 : Keeps o s3 := by
    unfold s3
    exact State.connect_keeps h
  clear_value s3
  have hs4 : Keeps o s4 := by
    unfold s4
    split
    · exact Keeps.ite (State.sweepSlices_keeps (State.endService_keeps hs3)) hs3
    · exact h
  clear_value s4
  exact Keeps.ite h (Keeps.ite (State.release_keeps h) (Keeps.ite h (State.takeSlice_keeps hs4)))

theorem State.planBoundary_keeps {o s : State} {p : Nat} {fn : Nat} (h : Keeps o s) :
    Keeps o (State.planBoundary s p fn) := by
  unfold State.planBoundary
  extract_lets c1
  split
  · exact Keeps.ite (State.takePlan_keeps h) h
  · exact h

theorem State.lateWarp_keeps {o s : State} {p : Nat} {fn : Nat} (h : Keeps o s) :
    Keeps o (State.lateWarp s p fn) := by
  unfold State.lateWarp
  split
  · exact h
  · extract_lets s1
    have hs1 : Keeps o s1 := by
      unfold s1
      exact State.editFrame_keeps h
    clear_value s1
    refine Keeps.ite ?_ ?_
    · exact h
    · split
      · exact State.report_keeps (State.setFld_keeps (State.bump_keeps hs1))
      · exact hs1

theorem State.hangCheck_keeps {o s : State} {p : Nat} {fn : Nat} (h : Keeps o s) :
    Keeps o (State.hangCheck s p fn) := by
  unfold State.hangCheck
  split
  · exact h
  · extract_lets hung1
    exact Keeps.ite (State.immediateRepair_keeps h) h

theorem State.exitHang_keeps {o s : State} {p : Nat} {z2 : Nat} (h : Keeps o s) :
    Keeps o (State.exitHang s p z2) := by
  unfold State.exitHang
  split
  · exact h
  · extract_lets hung1
    exact Keeps.ite (State.exitRepair_keeps h) h

theorem State.openTnr_keeps {o s : State} {p : Nat} {sl : Nat} {f : Frame} (h : Keeps o s) :
    Keeps o (State.openTnr s p sl f).1 := by
  unfold State.openTnr
  extract_lets c1 gain2 model3 s4 geo5 bits6 r7 cause8 n9 out10 old11 x12 f13 f14 s15 s16 s17
  have hs4 : Keeps o s4 := by
    unfold s4
    exact State.showModel_keeps h
  have hs15 : Keeps o s15 := by
    unfold s15
    exact State.setCam_keeps hs4
  clear_value s15
  have hs16 : Keeps o s16 := by
    unfold s16
    clear_value out10
    split
    · exact State.store_keeps hs15
    · exact hs15
  clear_value s16
  have hs17 : Keeps o s17 := by
    unfold s17
    exact State.setFlds_keeps hs16
  clear_value s17
  refine Keeps.ite_fst ?_ ?_
  · dsimp -zeta only
    exact State.setCam_keeps hs4
  · dsimp -zeta only
    exact Keeps.ite hs17 (State.bump_keeps hs17)

theorem State.takeWarp_keeps {o s : State} {base : Nat} {f : Frame} {planes : Nat} (h : Keeps o s) :
    Keeps o (State.takeWarp s base f planes) := by
  unfold State.takeWarp
  extract_lets lose1 hit2 k3 lats4 s5
  have hs5 : Keeps o s5 := by
    unfold s5
    refine Keeps.ite ?_ ?_
    · refine Keeps.of_mk ?_ rfl
      exact h
    · exact h
  clear_value s5
  exact State.store_keeps hs5

theorem State.openWarp_keeps {o s : State} {p : Nat} {f : Frame} (h : Keeps o s) :
    Keeps o (State.openWarp s p f).1 := by
  unfold State.openWarp
  extract_lets planes1 c2 n3
  refine Keeps.ite_fst ?_ ?_
  · exact h
  · split
    · exact h
    · extract_lets f4 s5
      have hs5 : Keeps o s5 := by
        unfold s5
        exact State.setCam_keeps h
      clear_value s5
      dsimp -zeta only
      exact State.takeWarp_keeps hs5

theorem State.openStores_keeps {o s : State} {p : Nat} {f : Frame} {z3 : List Nat} (h : Keeps o s) :
    Keeps o (State.openStores s p f z3).1 := by
  revert h
  fun_induction State.openStores s p f z3
  · intro k1
    exact k1
  · intro k2
    rename_i v3
    with_reducible apply v3
    exact k2
  · intro k4
    rename_i v5 v6 v7 v8 v9
    with_reducible apply v9
    exact State.countShed_keeps k4
  · intro k10
    rename_i v11 v12 v13 v14 v15 v16
    with_reducible apply v16
    exact k10
  · intro k17
    rename_i v18 v19 v20 v21 v22 v23 v24
    with_reducible apply v24
    exact State.bumpOut_keeps (State.report_keeps k17)
  · intro k25
    rename_i v26 v27 v28 v29 v30 v31 v32
    with_reducible apply v32
    exact k25

theorem State.endBypass_keeps {o s : State} {sl : Nat} (h : Keeps o s) : Keeps o (State.endBypass s sl) := by
  unfold State.endBypass
  extract_lets st1 e2 x3 x4
  exact Keeps.ite (State.setFlds_keeps (State.setEng_keeps h)) h

theorem State.openEngine_keeps {o s : State} {p : Nat} {sl : Nat} {f : Frame} (h : Keeps o s) :
    Keeps o (State.openEngine s p sl f) := by
  unfold State.openEngine
  extract_lets x1 s2 s3 s4 s5 st6 s7
  have hs2 : Keeps o s2 := by
    unfold s2
    refine Keeps.of_mk ?_ rfl
    exact h
  clear_value s2
  have hs3 : Keeps o s3 := by
    unfold s3
    exact State.loadSlice_keeps hs2
  clear_value s3
  have hs4 : Keeps o s4 := by
    unfold s4
    refine Keeps.ite ?_ ?_
    · refine Keeps.ite ?_ ?_
      · exact h
      · have hd8 : KeepsOpt o (s3.loadEngine sl (s3.progId p (s3.setFor p))) := by
          exact State.loadEngine_keeps hs3
        generalize (s3.loadEngine sl (s3.progId p (s3.setFor p))) = d8 at hd8 ⊢
        rcases d8 with _ | d9a
        · try dsimp -zeta only
          exact State.report_keeps hs3
        · have kd9 := KeepsOpt.get hd8 rfl
          try dsimp -zeta only at kd9 ⊢
          exact State.startEngine_keeps kd9
    · exact Keeps.ite (State.restartEngine_keeps (Keeps.ite (State.deferRepair_keeps h) h)) h
  clear_value s4
  have hs5 : Keeps o s5 := by
    unfold s5
    exact State.endBypass_keeps hs4
  clear_value s5
  have hs7 : Keeps o s7 := by
    unfold s7
    exact Keeps.ite (State.editFrame_keeps hs5) hs5
  clear_value s7
  exact Keeps.ite (State.motionPost_keeps (State.post_keeps hs7)) hs7

theorem State.openAt_keeps {o s : State} {p : Nat} {f : Frame} {ring : Bool} (h : Keeps o s) :
    Keeps o (State.openAt s p f ring) := by
  unfold State.openAt
  extract_lets why1 sl2 f3 f4 c5 s6 f7 s8
  have hs6 : Keeps o s6 := by
    unfold s6
    exact State.setCam_keeps h
  clear_value s6
  have hs8 : Keeps o s8 := by
    unfold s8
    refine Keeps.foldl ?_ ?_
    · exact hs6
    · intro k9 k10 k11
      exact Keeps.ite (State.openStream_keeps k11) k11
  clear_value s8
  have hd12 : Keeps o (s8.openStores p f7 (List.range 4)).1 := by
    exact State.openStores_keeps hs8
  generalize (s8.openStores p f7 (List.range 4)) = d12 at hd12 ⊢
  rcases d12 with ⟨d13a, d13b⟩
  dsimp -zeta only at *
  extract_lets g14 s15 x16 s17 s18 s19
  have hs15 : Keeps o s15 := by
    unfold s15
    with_reducible apply State.setIngest_keeps
    refine Keeps.ite_fst ?_ ?_
    · with_reducible apply State.openWarp_keeps
      clear_value sl2
      split
      · exact Keeps.ite_fst (State.openTnr_keeps hd12) hd12
      · exact hd12
    · dsimp -zeta only
      clear_value sl2
      split
      · exact Keeps.ite_fst (State.openTnr_keeps hd12) hd12
      · exact hd12
  clear_value s15
  have hs17 : Keeps o s17 := by
    unfold s17
    exact State.setPort_keeps hs15
  clear_value s17
  have hs18 : Keeps o s18 := by
    unfold s18
    exact State.setFlds_keeps hs17
  clear_value s18
  have hs19 : Keeps o s19 := by
    unfold s19
    exact State.pqApplied_keeps hs18
  clear_value s19
  clear_value sl2
  split
  · exact State.openEngine_keeps hs19
  · exact hs19

theorem State.goLive_keeps {o s : State} {p : Nat} {fn : Nat} (h : Keeps o s) : Keeps o (State.goLive s p fn) := by
  unfold State.goLive
  extract_lets r1 x2 s3
  have hs3 : Keeps o s3 := by
    unfold s3
    exact State.setPair_keeps h
  clear_value s3
  exact Keeps.ite (Keeps.ite (Keeps.ite hs3 (State.dropRing_keeps hs3)) h) h

theorem State.boundary_keeps {o s : State} {port : Port} {z2 : Nat} {r : List Crumb} (h : Keeps o s) :
    Keeps o (State.boundary s port z2 r) := by
  unfold State.boundary
  extract_lets p1 s2 s3 g04 jump5 s6 fn7 takes8 s9 run10 s11 was12 drops13 s14 flips15 s16 s17 s18 s19 s20 f21 f22 ring23 s24
  have hs2 : Keeps o s2 := by
    unfold s2
    exact State.portTurns_keeps (State.dmaBoundary_keeps h)
  clear_value s2
  have hs3 : Keeps o s3 := by
    unfold s3
    exact Keeps.ite (State.attach_keeps hs2) hs2
  clear_value s3
  have hs6 : Keeps o s6 := by
    unfold s6
    exact State.number_keeps hs3
  clear_value s6
  have hs9 : Keeps o s9 := by
    unfold s9
    refine Keeps.ite ?_ ?_
    · exact State.takeover_keeps hs6
    · exact Keeps.ite (State.handoverHere_keeps hs6) (State.standbyTurn_keeps (State.handoverGive_keeps hs6))
  clear_value s9
  have hs11 : Keeps o s11 := by
    unfold s11
    exact Keeps.ite (State.handoverLate_keeps hs9) hs9
  clear_value s11
  have hs14 : Keeps o s14 := by
    unfold s14
    exact State.flipBoundary_keeps hs11
  clear_value s14
  have hs16 : Keeps o s16 := by
    unfold s16
    exact State.goLive_keeps hs14
  clear_value s16
  have hs17 : Keeps o s17 := by
    unfold s17
    exact State.planBoundary_keeps hs16
  clear_value s17
  have hs18 : Keeps o s18 := by
    unfold s18
    exact State.mapBoundary_keeps (State.moveBoundary_keeps hs17)
  clear_value s18
  have hs19 : Keeps o s19 := by
    unfold s19
    exact State.hangCheck_keeps (State.lateWarp_keeps hs18)
  clear_value s19
  have hs20 : Keeps o s20 := by
    unfold s20
    exact Keeps.ite (State.throttle_keeps hs19) hs19
  clear_value s20
  have hs24 : Keeps o s24 := by
    unfold s24
    exact Keeps.ite (State.placeRing_keeps hs20) hs20
  clear_value s24
  refine Keeps.ite ?_ ?_
  · exact Keeps.ite (State.exitHang_keeps h) h
  · refine Keeps.ite ?_ ?_
    · exact hs2
    · exact Keeps.ite (State.settle_keeps (State.setIngest_keeps hs14)) (State.settle_keeps (State.openAt_keeps hs24))

theorem State.frameStart_keeps {o s : State} {port : Port} {z2 : Nat} {r : List Crumb} (h : Keeps o s) :
    Keeps o (State.frameStart s port z2 r) := by
  unfold State.frameStart
  extract_lets p1
  refine Keeps.ite ?_ ?_
  · exact h
  · split
    · exact Keeps.ite (State.bump_keeps h) (State.boundary_keeps (State.closeFrame_keeps h))
    · exact State.boundary_keeps h

theorem execFrameStart_keeps {o : State} {port : Port} {crumbs : List Crumb} {s : State} (h : Keeps o s) :
    KeepsOut o (execFrameStart port crumbs s) := by
  unfold execFrameStart
  refine KeepsOut.next ?_
  with_reducible apply State.onPacket_keeps
  · exact h
  · intro k1 k2 k3 k4
    exact State.frameStart_keeps k4

theorem State.setFrame_keeps {o s : State} {p : Nat} {f : Frame} (h : Keeps o s) :
    Keeps o (State.setFrame s p f) := by
  unfold State.setFrame
  extract_lets x1
  exact State.setIngest_keeps h

theorem State.noFrame_keeps {o s : State} {p : Nat} {z2 : Nat} (h : Keeps o s) : Keeps o (State.noFrame s p z2) := by
  unfold State.noFrame
  extract_lets g1 s2
  have hs2 : Keeps o s2 := by
    unfold s2
    exact State.setIngest_keeps h
  clear_value s2
  exact Keeps.ite (State.bump_keeps hs2) (State.bump_keeps hs2)

theorem State.overflowLine_keeps {o s : State} {p : Nat} {f : Frame} (h : Keeps o s) :
    Keeps o (State.overflowLine s p f) := by
  unfold State.overflowLine
  extract_lets s1 s2
  have hs1 : Keeps o s1 := by
    unfold s1
    exact State.setFrame_keeps h
  clear_value s1
  have hs2 : Keeps o s2 := by
    unfold s2
    exact State.bump_keeps hs1
  clear_value s2
  exact Keeps.ite hs1 (Keeps.ite hs2 (State.report_keeps (State.setFld_keeps hs2)))

theorem State.checkLine_keeps {o s : State} {p : Nat} {f : Frame} {z3 : Nat} {body : List Crumb} {crcGood : Bool} {whole : Bool} {parity : Bool}
    (h : Keeps o s) :
    Keeps o (State.checkLine s p f z3 body crcGood whole parity) := by
  unfold State.checkLine
  extract_lets n1 e2 sec3 malformed4 x5 px6 s7
  have hs7 : Keeps o s7 := by
    unfold s7
    exact State.setFrame_keeps h
  clear_value s7
  refine Keeps.ite ?_ ?_
  · exact State.setFrame_keeps (State.bump_keeps h)
  · refine Keeps.ite ?_ ?_
    · exact State.setFrame_keeps (State.bump_keeps h)
    · refine Keeps.ite ?_ ?_
      · exact State.setFrame_keeps (State.bump_keeps h)
      · refine Keeps.ite ?_ ?_
        · exact State.setIngest_keeps h
        · refine Keeps.ite ?_ ?_
          · exact State.setFrame_keeps (State.bump_keeps h)
          · exact Keeps.ite (State.setFrame_keeps h) (State.setFld_keeps hs7)

theorem State.linePacket_keeps {o s : State} {p : Nat} {z2 : Crumb} {r : List Crumb} {full : Bool} {parity : Bool}
    (h : Keeps o s) :
    Keeps o (State.linePacket s p z2 r full parity) := by
  unfold State.linePacket
  extract_lets w1 x2 n3 body4 whole5 crc6
  refine Keeps.ite ?_ ?_
  · exact h
  · split
    · exact State.noFrame_keeps h
    · extract_lets f7 s8
      have hs8 : Keeps o s8 := by
        unfold s8
        exact State.setFrame_keeps h
      clear_value s8
      refine Keeps.ite ?_ ?_
      · exact State.bump_keeps (State.setIngest_keeps h)
      · exact Keeps.ite (State.overflowLine_keeps hs8) (State.checkLine_keeps hs8)

theorem execLinePacket_keeps {o : State} {port : Port} {crumbs : List Crumb} {full : Bool} {parity : Bool} {s : State}
    (h : Keeps o s) :
    KeepsOut o (execLinePacket port crumbs full s parity) := by
  unfold execLinePacket
  refine KeepsOut.next ?_
  with_reducible apply State.onPacket_keeps
  · exact h
  · intro k1 k2 k3 k4
    exact State.linePacket_keeps k4

theorem State.frameEnd_keeps {o s : State} {p : Nat} {z2 : Crumb} {r : List Crumb} (h : Keeps o s) :
    Keeps o (State.frameEnd s p z2 r) := by
  unfold State.frameEnd
  extract_lets w1 g2 s3
  have hs3 : Keeps o s3 := by
    unfold s3
    exact State.setIngest_keeps h
  clear_value s3
  refine Keeps.ite ?_ ?_
  · exact h
  · split
    · refine Keeps.ite ?_ ?_
      · exact State.bump_keeps (State.setIngest_keeps h)
      · exact Keeps.ite (State.bump_keeps hs3) (State.bump_keeps hs3)
    · extract_lets f4 f5 s6
      have hs6 : Keeps o s6 := by
        unfold s6
        exact State.setFrame_keeps h
      clear_value s6
      exact Keeps.ite (State.bump_keeps (State.setIngest_keeps h)) (State.closeFrame_keeps hs6)

theorem execFrameEnd_keeps {o : State} {port : Port} {crumbs : List Crumb} {s : State} (h : Keeps o s) :
    KeepsOut o (execFrameEnd port crumbs s) := by
  unfold execFrameEnd
  refine KeepsOut.next ?_
  with_reducible apply State.onPacket_keeps
  · exact h
  · intro k1 k2 k3 k4
    exact State.frameEnd_keeps k4

theorem execFrameWatchdogExpiry_keeps {o : State} {port : Port} {s : State} (h : Keeps o s) :
    KeepsOut o (execFrameWatchdogExpiry port s) := by
  unfold execFrameWatchdogExpiry
  extract_lets p1 lim2
  refine KeepsOut.next ?_
  split
  · exact h
  · exact Keeps.ite h (State.closeFrame_keeps h)

theorem execLineWatchdogExpiry_keeps {o : State} {port : Port} {s : State} (h : Keeps o s) :
    KeepsOut o (execLineWatchdogExpiry port s) := by
  unfold execLineWatchdogExpiry
  extract_lets p1 g2 c3 l4 wd5
  refine KeepsOut.next ?_
  split
  · extract_lets s6
    have hs6 : Keeps o s6 := by
      unfold s6
      exact State.setIngest_keeps h
    clear_value s6
    exact Keeps.ite h (State.bump_keeps hs6)
  · exact h

theorem State.putUnit_keeps {o s : State} {p : Nat} {k : Nat} {f : Frame} {fseq : Nat} {u : EgUnit} (h : Keeps o s) :
    Keeps o (State.putUnit s p k f fseq u) := by
  unfold State.putUnit
  extract_lets sid1 x2
  split
  · exact State.setStream_keeps h
  · exact Keeps.ite h (Keeps.ite (State.push_keeps h) (State.endOn_keeps (State.abandon_keeps h)))

theorem State.startFrame_keeps {o s : State} {p : Nat} {k : Nat} {f : Frame} (h : Keeps o s) :
    Keeps o (State.startFrame s p k f) := by
  unfold State.startFrame
  extract_lets sid1 s2 x3 stores4 s5 s6 h7
  have hs2 : Keeps o s2 := by
    unfold s2
    exact State.announce_keeps h
  clear_value s2
  have hs5 : Keeps o s5 := by
    unfold s5
    exact State.setStream_keeps hs2
  clear_value s5
  have hs6 : Keeps o s6 := by
    unfold s6
    exact State.editFrame_keeps hs5
  clear_value s6
  exact State.putUnit_keeps hs6

theorem State.fetchCount_keeps {o s : State} {sl : Nat} {p : Nat} {k : Nat} {f : Frame} (h : Keeps o s) :
    Keeps o (State.fetchCount s sl p k f) := by
  unfold State.fetchCount
  extract_lets c1 r2 s3 bad4
  have hs3 : Keeps o s3 := by
    unfold s3
    exact State.setFlds_keeps h
  clear_value s3
  exact Keeps.ite (Keeps.ite hs3 (State.report_keeps (State.bump_keeps hs3))) h

theorem State.endFrame_keeps {o s : State} {p : Nat} {sl : Nat} {k : Nat} {f : Frame} (h : Keeps o s) :
    Keeps o (State.endFrame s p sl k f) := by
  unfold State.endFrame
  extract_lets sid1 fseq2 t3 h4 u5 x6 s7 x8 s9 x10 s11
  have hs7 : Keeps o s7 := by
    unfold s7
    exact State.setStream_keeps h
  clear_value s7
  have hs9 : Keeps o s9 := by
    unfold s9
    split
    · exact Keeps.ite (State.noticeAt_keeps hs7) (State.setStream_keeps hs7)
    · exact State.putUnit_keeps h
  clear_value s9
  have hs11 : Keeps o s11 := by
    unfold s11
    exact Keeps.ite hs9 (State.setStream_keeps (State.showOut_keeps (State.bump_keeps (State.fetchCount_keeps hs9))))
  clear_value s11
  exact Keeps.ite hs9 (State.endOn_keeps hs11)

theorem State.showWarpLine_keeps {o s : State} {p : Nat} {sl : Nat} {k : Nat} {f : Frame} {j : Nat} (h : Keeps o s) :
    Keeps o (State.showWarpLine s p sl k f j) := by
  unfold State.showWarpLine
  extract_lets c1
  exact Keeps.ite (State.setFld_keeps h) h

theorem State.imageLine_keeps {o s : State} {p : Nat} {sl : Nat} {k : Nat} {f : Frame} (h : Keeps o s) :
    Keeps o (State.imageLine s p sl k f) := by
  unfold State.imageLine
  extract_lets j1 n2 s3 f4 fseq5 s6 s7 s8 s9 f10
  have hs3 : Keeps o s3 := by
    unfold s3
    exact Keeps.ite (State.startFrame_keeps h) h
  clear_value s3
  have hs6 : Keeps o s6 := by
    unfold s6
    exact State.putUnit_keeps hs3
  clear_value s6
  have hs7 : Keeps o s7 := by
    unfold s7
    exact State.setFld_keeps hs6
  clear_value s7
  have hs8 : Keeps o s8 := by
    unfold s8
    exact State.showWarpLine_keeps hs7
  clear_value s8
  have hs9 : Keeps o s9 := by
    unfold s9
    exact State.editFrame_keeps hs8
  clear_value s9
  refine Keeps.ite ?_ ?_
  · exact State.settle_keeps hs3
  · exact Keeps.ite (State.settle_keeps hs9) (Keeps.ite (State.settle_keeps (State.endFrame_keeps hs9)) hs9)

theorem State.storeAll_keeps {o s : State} {base : Nat} {z2 : List (Nat × List Byte)} (h : Keeps o s) :
    Keeps o (State.storeAll s base z2) := by
  revert h
  fun_induction State.storeAll s base z2
  · intro k1
    exact k1
  · intro k2
    rename_i v3
    with_reducible apply v3
    exact State.store_keeps k2

theorem State.warpLineOut_keeps {o s : State} {p : Nat} {f : Frame} (h : Keeps o s) :
    Keeps o (State.warpLineOut s p f) := by
  unfold State.warpLineOut
  extract_lets y1 planes2 hgain3 last4 s5
  have hs5 : Keeps o s5 := by
    unfold s5
    split
    · exact h
    · extract_lets mine6 s7 x8
      have hs7 : Keeps o s7 := by
        unfold s7
        exact State.store_keeps (State.storeAll_keeps h)
      clear_value s7
      exact Keeps.ite h (State.setCam_keeps hs7)
  clear_value s5
  exact State.editFrame_keeps hs5

theorem execOutputLineReady_keeps {o : State} {sl : Slice} {k : Fin 5} {s : State} (h : Keeps o s) :
    KeepsOut o (execOutputLineReady sl k s) := by
  unfold execOutputLineReady
  refine KeepsOut.next ?_
  refine Keeps.ite ?_ ?_
  · exact h
  · split
    · exact h
    · extract_lets s1 f2 s3
      have hs1 : Keeps o s1 := by
        unfold s1
        exact State.latchAll_keeps h
      clear_value s1
      have hs3 : Keeps o s3 := by
        unfold s3
        exact Keeps.ite (State.warpLineOut_keeps hs1) (State.imageLine_keeps hs1)
      clear_value s3
      exact State.sweep_keeps hs3

theorem State.takeSharp_keeps {o s : State} {p : Nat} {f : Frame} {sc : Scene} (h : Keeps o s) :
    Keeps o (State.takeSharp s p f sc) := by
  unfold State.takeSharp
  extract_lets runs1 sh2 mt3 v4 x5
  exact Keeps.ite h (State.setPort_keeps h)

theorem State.statsComplete_keeps {o s : State} {p : Nat} {f : Frame} {src : Nat} (h : Keeps o s) :
    Keeps o (State.statsComplete s p f src) := by
  unfold State.statsComplete
  extract_lets sid1 dst2 bank3 base4 sc5 only6
  split
  extract_lets s7 fl8 x9 hdr10 s11 s12 s13 s14 s15
  have hs7 : Keeps o s7 := by
    unfold s7
    exact Keeps.ite (State.report_keeps h) h
  clear_value s7
  have hs11 : Keeps o s11 := by
    unfold s11
    exact State.setFlds_keeps (State.store_keeps hs7)
  clear_value s11
  have hs12 : Keeps o s12 := by
    unfold s12
    exact State.postCam_keeps hs11
  clear_value s12
  have hs13 : Keeps o s13 := by
    unfold s13
    refine Keeps.ite ?_ ?_
    · exact State.statRecord_keeps hs12
    · refine Keeps.ite ?_ ?_
      · exact hs12
      · exact Keeps.ite (State.statRecord_keeps hs12) (State.setStream_keeps (State.pushOrLose_keeps hs12))
  clear_value s13
  have hs14 : Keeps o s14 := by
    unfold s14
    exact State.takeSharp_keeps hs13
  clear_value s14
  have hs15 : Keeps o s15 := by
    unfold s15
    exact State.editFrame_keeps hs14
  clear_value s15
  exact State.sweep_keeps (State.settle_keeps hs15)

theorem execStatsSetComplete_keeps {o : State} {port : Port} {fn : Word} {s : State} (h : Keeps o s) :
    KeepsOut o (execStatsSetComplete port fn s) := by
  unfold execStatsSetComplete
  extract_lets p1
  refine KeepsOut.next ?_
  split
  · exact h
  · split
    · exact h
    · exact Keeps.ite h (State.statsComplete_keeps h)

theorem execMotionDeadline_keeps {o : State} {port : Port} {fn : Word} {s : State} (h : Keeps o s) :
    KeepsOut o (execMotionDeadline port fn s) := by
  unfold execMotionDeadline
  exact KeepsOut.next (Keeps.ite (State.latchField_keeps h) h)

theorem execPqPipeLatch_keeps {o : State} {port : Port} {field : BitVec 16} {s : State} (h : Keeps o s) :
    KeepsOut o (execPqPipeLatch port field s) := by
  unfold execPqPipeLatch
  extract_lets p1 l2
  refine KeepsOut.next ?_
  refine Keeps.ite ?_ ?_
  · exact h
  · split
    · exact State.latchField_keeps h
    · exact h

theorem execPqSensorDispatch_keeps {o : State} {port : Port} {s : State} (h : Keeps o s) :
    KeepsOut o (execPqSensorDispatch port s) := by
  unfold execPqSensorDispatch
  extract_lets p1
  refine KeepsOut.next ?_
  refine Keeps.ite ?_ ?_
  · exact h
  · refine Keeps.foldl ?_ ?_
    · exact h
    · intro k2 k3 k4
      exact State.bcQueue_keeps k4

theorem execPqDeadlinePass_keeps {o : State} {port : Port} {s : State} (h : Keeps o s) :
    KeepsOut o (execPqDeadlinePass port s) := by
  unfold execPqDeadlinePass
  exact KeepsOut.next (Keeps.ite (State.pqDeadlines_keeps h) h)

theorem execStreamStatusRepeat_keeps {o : State} {sid : BitVec 12} {s : State} (h : Keeps o s) :
    KeepsOut o (execStreamStatusRepeat sid s) := by
  unfold execStreamStatusRepeat
  extract_lets x1
  refine KeepsOut.next ?_
  refine Keeps.ite ?_ ?_
  · exact h
  · split
    · exact State.statusNow_keeps h
    · exact h

theorem execNrCounterClear_keeps {o : State} {sl : Slice} {s : State} (h : Keeps o s) :
    KeepsOut o (execNrCounterClear sl s) := by
  unfold execNrCounterClear
  exact KeepsOut.next (Keeps.ite (State.setReg_keeps (State.setReg_keeps h)) h)

theorem execOutputCounterClear_keeps {o : State} {sl : Slice} {k : Fin 4} {s : State} (h : Keeps o s) :
    KeepsOut o (execOutputCounterClear sl k s) := by
  unfold execOutputCounterClear
  exact KeepsOut.next (Keeps.ite (State.setReg_keeps (State.setReg_keeps h)) h)

theorem execStatsCounterClear_keeps {o : State} {sl : Slice} {s : State} (h : Keeps o s) :
    KeepsOut o (execStatsCounterClear sl s) := by
  unfold execStatsCounterClear
  exact KeepsOut.next (Keeps.ite (State.setReg_keeps (State.setReg_keeps (State.setReg_keeps h))) h)

theorem execReadlateClear_keeps {o : State} {sl : Slice} {s : State} (h : Keeps o s) :
    KeepsOut o (execReadlateClear sl s) := by
  unfold execReadlateClear
  exact KeepsOut.next (Keeps.ite (State.setFld_keeps h) h)

theorem State.ringBegin_keeps {o s : State} {p : Nat} {f : Frame} (h : Keeps o s) :
    Keeps o (State.ringBegin s p f).1 := by
  unfold State.ringBegin
  extract_lets why1 f2
  have hd3 : Keeps o (s.openStores p f2 (List.range 4)).1 := by
    exact State.openStores_keeps h
  generalize (s.openStores p f2 (List.range 4)) = d3 at hd3 ⊢
  rcases d3 with ⟨d4a, d4b⟩
  dsimp -zeta only at *
  split
  · exact hd3
  · exact State.openWarp_keeps (State.openTnr_keeps hd3)

theorem State.ringRead.ringSlot_keeps {o : State} {p : Nat} {s : State} {ahead : State} {tell : State → Frame → State} {run : RingRun}
    (h : Keeps o s) (h2 : Keeps o ahead) (htell : ∀ (y0 : State) (y1 : Frame), Keeps o y0 → Keeps o (tell y0 y1)) :
    Keeps o (State.ringRead.ringSlot p s ahead tell run) := by
  unfold State.ringRead.ringSlot
  split
  · rename_i v1 v2 v3
    have hd4 : Keeps o (ahead.ringBegin p v2).1 := by
      exact State.ringBegin_keeps h2
    generalize (ahead.ringBegin p v2) = d4 at hd4 ⊢
    rcases d4 with ⟨d5a, d5b⟩
    dsimp -zeta only at *
    extract_lets x6 s7
    have hs7 : Keeps o s7 := by
      unfold s7
      exact State.setCam_keeps hd4
    clear_value s7
    with_reducible apply State.afterClose_keeps
    with_reducible apply htell
    exact hs7
  · refine Keeps.ite ?_ ?_
    · exact h
    · split
      · exact h
      · extract_lets f8 x9 s10
        have hs10 : Keeps o s10 := by
          unfold s10
          exact State.setCam_keeps h2
        clear_value s10
        exact State.settle_keeps (State.skipStats_keeps hs10)

theorem State.ringRead_keeps {o s : State} {p : Nat} (h : Keeps o s) : Keeps o (State.ringRead s p) := by
  unfold State.ringRead
  extract_lets run1 x2 ahead3 tell4
  have hahead3 : Keeps o ahead3 := by
    unfold ahead3
    exact State.setPair_keeps h
  clear_value ahead3
  have htell4 : ∀ y0 y1, Keeps o y0 → Keeps o (tell4 y0 y1) := by
    unfold tell4
    intro k5 k6 k7
    split
    · exact State.openEngine_keeps k7
    · exact k7
  clear_value tell4
  split
  · refine Keeps.ite ?_ ?_
    · rename_i v8 v9 v10
      have hd11 : Keeps o (ahead3.ringBegin p v9).1 := by
        exact State.ringBegin_keeps hahead3
      generalize (ahead3.ringBegin p v9) = d11 at hd11 ⊢
      rcases d11 with ⟨d12a, d12b⟩
      dsimp -zeta only at *
      with_reducible apply htell4
      exact State.setFrame_keeps hd11
    · with_reducible apply State.ringRead.ringSlot_keeps
      · exact h
      · exact hahead3
      · intro k13 k14 k15
        with_reducible apply htell4
        exact k15
  · with_reducible apply State.ringRead.ringSlot_keeps
    · exact h
    · exact hahead3
    · intro k16 k17 k18
      with_reducible apply htell4
      exact k18

theorem execRingReadFrame_keeps {o : State} {port : Port} {s : State} (h : Keeps o s) :
    KeepsOut o (execRingReadFrame port s) := by
  unfold execRingReadFrame
  extract_lets p1 r2
  exact KeepsOut.next (Keeps.ite (State.ringRead_keeps h) h)

theorem State.setLat_keeps {o s : State} {n : Nat} {x : LatSt} (h : Keeps o s) : Keeps o (State.setLat s n x) := by
  unfold State.setLat
  refine Keeps.of_mk ?_ rfl
  exact h

theorem State.latAnnounce_keeps {o s : State} {n : Nat} {f : LatFrame} (h : Keeps o s) :
    Keeps o (State.latAnnounce s n f) := by
  unfold State.latAnnounce
  extract_lets sid1 x2 fmt3
  exact Keeps.ite h (State.formatChange_keeps h)

theorem State.latStart_keeps {o s : State} {n : Nat} {f : LatFrame} (h : Keeps o s) :
    Keeps o (State.latStart s n f) := by
  unfold State.latStart
  extract_lets x1 c2 found3 ldmg4 damaged5 present6 split7 s8 mot9 s10 s11 y12 m13 s14 shed15
  have hs8 : Keeps o s8 := by
    unfold s8
    exact Keeps.ite (State.report_keeps h) h
  clear_value s8
  have hs10 : Keeps o s10 := by
    unfold s10
    exact Keeps.ite (State.report_keeps hs8) hs8
  clear_value s10
  have hs11 : Keeps o s11 := by
    unfold s11
    exact State.latAnnounce_keeps hs10
  clear_value s11
  have hs14 : Keeps o s14 := by
    unfold s14
    exact State.setStream_keeps hs11
  clear_value s14
  split
  extract_lets b16 h17 u18
  have hd19 : Keeps o (if shed15 = true ∨ (!s14.uplCarries) = true then ({ frame := b16.frame, slots := b16.slots, present := b16.present, damaged := b16.damaged, tko := b16.tko, v := b16.v, omega := b16.omega, nomotion := b16.nomotion, ntile := b16.ntile, mem := b16.mem, poison := b16.poison, fseq := b16.fseq, dead := true }, if shed15 = true then s14.countShed else s14) else if s14.fits (latSid n) u18.bytes.length = true then (b16, s14.push (latSid n) u18) else ({ frame := b16.frame, slots := b16.slots, present := b16.present, damaged := b16.damaged, tko := b16.tko, v := b16.v, omega := b16.omega, nomotion := b16.nomotion, ntile := b16.ntile, mem := b16.mem, poison := b16.poison, fseq := b16.fseq, dead := true }, (s14.bump UPL.UPCNT4_EGOVF 1).report 2065 (latSid n) 0)).2 := by
    refine Keeps.ite_snd ?_ ?_
    · dsimp -zeta only
      exact Keeps.ite (State.countShed_keeps hs14) hs14
    · refine Keeps.ite_snd ?_ ?_
      · dsimp -zeta only
        exact State.push_keeps hs14
      · dsimp -zeta only
        exact State.report_keeps (State.bump_keeps hs14)
  generalize (if shed15 = true ∨ (!s14.uplCarries) = true then ({ frame := b16.frame, slots := b16.slots, present := b16.present, damaged := b16.damaged, tko := b16.tko, v := b16.v, omega := b16.omega, nomotion := b16.nomotion, ntile := b16.ntile, mem := b16.mem, poison := b16.poison, fseq := b16.fseq, dead := true }, if shed15 = true then s14.countShed else s14) else if s14.fits (latSid n) u18.bytes.length = true then (b16, s14.push (latSid n) u18) else ({ frame := b16.frame, slots := b16.slots, present := b16.present, damaged := b16.damaged, tko := b16.tko, v := b16.v, omega := b16.omega, nomotion := b16.nomotion, ntile := b16.ntile, mem := b16.mem, poison := b16.poison, fseq := b16.fseq, dead := true }, (s14.bump UPL.UPCNT4_EGOVF 1).report 2065 (latSid n) 0)) = d19 at hd19 ⊢
  rcases d19 with ⟨d20a, d20b⟩
  dsimp -zeta only at *
  extract_lets s21
  have hs21 : Keeps o s21 := by
    unfold s21
    exact State.setFlds_keeps hd19
  clear_value s21
  exact State.setLat_keeps hs21

theorem execLatticeAssemblyStart_keeps {o : State} {lat : Lattice} {s : State} (h : Keeps o s) :
    KeepsOut o (execLatticeAssemblyStart lat s) := by
  unfold execLatticeAssemblyStart
  extract_lets n1 idle2
  refine KeepsOut.next ?_
  split
  · exact h
  · extract_lets rival3 reading4
    exact Keeps.ite (State.latStart_keeps h) h

theorem State.hgainPost_keeps {o s : State} {p : Nat} {sl : Nat} {r : List Byte} (h : Keeps o s) :
    Keeps o (State.hgainPost s p sl r) := by
  unfold State.hgainPost
  split
  · exact Keeps.ite (State.programPost_keeps h) h
  · exact h

theorem State.giveOverlaps_keeps {o s : State} {n : Nat} {b : LatBusy} {rows : List (List LatPix)} {views : List LatView} {z5 : List LatView}
    (h : Keeps o s) :
    Keeps o (State.giveOverlaps s n b rows views z5) := by
  revert h
  fun_induction State.giveOverlaps s n b rows views z5
  · intro k1
    exact k1
  · intro k2
    rename_i v3 v4 v5
    have hv4 : Keeps o v4 := by
      unfold v4
      split
      · extract_lets r6
        exact State.hgainPost_keeps (State.post_keeps (State.store_keeps k2))
      · exact k2
    clear_value v4
    with_reducible apply v5
    exact hv4

theorem State.pushRows_keeps {o s : State} {n : Nat} {f : LatFrame} {fseq : Nat} {z4 : List (Nat × List Byte)}
    (h : Keeps o s) :
    Keeps o (State.pushRows s n f fseq z4).2 := by
  revert h
  fun_induction State.pushRows s n f fseq z4
  · intro k1
    exact k1
  · intro k2
    rename_i v3 v4 v5
    with_reducible apply v5
    exact State.push_keeps k2
  · intro k6
    rename_i v7 v8
    exact k6

theorem State.latNotice_keeps {o s : State} {n : Nat} {f : LatFrame} {fseq : Nat} {integ : Nat} {sflags : Nat} {tfirst : Nat} {tlast : Nat} {r : List Byte}
    (h : Keeps o s) :
    Keeps o (State.latNotice s n f fseq integ sflags tfirst tlast r) := by
  unfold State.latNotice
  extract_lets x1 h2 s3 x4
  have hs3 : Keeps o s3 := by
    unfold s3
    exact State.pushOrLose_keeps h
  clear_value s3
  exact State.setStream_keeps hs3

theorem State.showLrec_keeps {o s : State} {n : Nat} {lfn : Nat} {r : List Byte} (h : Keeps o s) :
    Keeps o (State.showLrec s n lfn r) := by
  unfold State.showLrec
  exact State.setFlds_keeps h

theorem State.latEnd_keeps {o s : State} {n : Nat} {b : LatBusy} (h : Keeps o s) : Keeps o (State.latEnd s n b) := by
  unfold State.latEnd
  extract_lets f1 c2 rows3 states4 slots5 expect6 closedNow7 late8 tm9 fl10 r11 s12 s13 lines14 s15 sid16 sfl17 t18 views19
  have hs12 : Keeps o s12 := by
    unfold s12
    exact Keeps.ite h (State.report_keeps (State.bump_keeps h))
  clear_value s12
  have hs13 : Keeps o s13 := by
    unfold s13
    exact State.showLrec_keeps hs12
  clear_value s13
  have hs15 : Keeps o s15 := by
    unfold s15
    split
    · refine Keeps.foldl ?_ ?_
      · exact hs13
      · intro k20 k21 k22
        exact State.store_keeps k22
    · exact hs13
  clear_value s15
  have hd23 : Keeps o (if b.dead = true then (false, s15) else s15.pushRows n f1 b.fseq lines14).2 := by
    exact Keeps.ite_snd hs15 (State.pushRows_keeps hs15)
  generalize (if b.dead = true then (false, s15) else s15.pushRows n f1 b.fseq lines14) = d23 at hd23 ⊢
  rcases d23 with ⟨d24a, d24b⟩
  dsimp -zeta only at *
  extract_lets h25 u26 s27 x28 x29 s30 s31 s32 s33 s34 s35 s36 x37
  have hs27 : Keeps o s27 := by
    unfold s27
    exact State.push_keeps hd23
  clear_value s27
  have hs30 : Keeps o s30 := by
    unfold s30
    exact State.setStream_keeps hd23
  clear_value s30
  have hs31 : Keeps o s31 := by
    unfold s31
    exact Keeps.ite hs30 (State.report_keeps (State.bump_keeps hs30))
  clear_value s31
  have hs32 : Keeps o s32 := by
    unfold s32
    exact Keeps.ite (State.setStream_keeps hs27) (State.latNotice_keeps hs31)
  clear_value s32
  have hs33 : Keeps o s33 := by
    unfold s33
    exact State.setFlds_keeps hs32
  clear_value s33
  have hs34 : Keeps o s34 := by
    unfold s34
    exact Keeps.ite hs33 (State.giveOverlaps_keeps hs33)
  clear_value s34
  have hs35 : Keeps o s35 := by
    unfold s35
    exact Keeps.ite (State.peerSend_keeps hs34) hs34
  clear_value s35
  have hs36 : Keeps o s36 := by
    unfold s36
    exact State.setFld_keeps hs35
  clear_value s36
  exact State.latSettle_keeps (State.setLat_keeps hs36)

theorem execLatticeAssemblyEnd_keeps {o : State} {lat : Lattice} {s : State} (h : Keeps o s) :
    KeepsOut o (execLatticeAssemblyEnd lat s) := by
  unfold execLatticeAssemblyEnd
  refine KeepsOut.next ?_
  split
  · exact h
  · exact Keeps.ite (State.latEnd_keeps h) h

theorem execLatticeSkip_keeps {o : State} {lat : Lattice} {s : State} (h : Keeps o s) :
    KeepsOut o (execLatticeSkip lat s) := by
  unfold execLatticeSkip
  extract_lets n1 x2
  refine KeepsOut.next ?_
  split
  · exact h
  · extract_lets expect3 fl4 x5 s6 y7 s8 s9 s10 s11 x12
    have hs6 : Keeps o s6 := by
      unfold s6
      exact State.showLrec_keeps (State.latAnnounce_keeps h)
    clear_value s6
    have hs8 : Keeps o s8 := by
      unfold s8
      exact State.setStream_keeps hs6
    clear_value s8
    have hs9 : Keeps o s9 := by
      unfold s9
      exact State.latNotice_keeps hs8
    clear_value s9
    have hs10 : Keeps o s10 := by
      unfold s10
      exact State.report_keeps (State.bump_keeps hs9)
    clear_value s10
    have hs11 : Keeps o s11 := by
      unfold s11
      exact Keeps.ite (State.peerSend_keeps hs10) hs10
    clear_value s11
    exact Keeps.ite h (State.latSettle_keeps (State.setLat_keeps hs11))

theorem State.stageCmd_keeps {o s : State} {r : Req} {n : Nat} {limit : Nat} (h : Keeps o s) :
    Keeps o (State.stageCmd s r n limit) := by
  unfold State.stageCmd
  extract_lets size1 base2 s3
  have hs3 : Keeps o s3 := by
    unfold s3
    exact Keeps.ite (State.closeStage_keeps h) (State.openStage_keeps h)
  clear_value s3
  split
  exact Keeps.ite (State.refuse_keeps h) (Keeps.ite (State.refuse_keeps h) (State.done_keeps hs3))

theorem State.setShadow_keeps {o s : State} {c : CfgSet} (h : Keeps o s) : Keeps o (State.setShadow s c) := by
  unfold State.setShadow
  extract_lets x1
  exact State.setFld_keeps (State.setCfg_keeps h)

theorem execCfgStage_keeps {o : State} {ch : Chan} {s : State} (h : Keeps o s) : KeepsOut o (execCfgStage ch s) := by
  unfold execCfgStage
  refine KeepsOut.next ?_
  with_reducible apply State.onCommand_keeps
  · exact h
  · intro k1 k2 k3
    exact State.stageCmd_keeps k3

theorem State.consume_keeps {o s : State} {r : Req} {n ilen off : Nat} (h :
    Keeps o s) :
 match State.consume s r n ilen off with
 | .error t => Keeps o t
 | .ok x => Keeps o x.2 := by
  unfold State.consume
  by_cases hn : s.mbx.stages.has n = true
  · rw [if_pos hn]
    generalize s.mbx.stages.get n (0, 0, 0) = st
    obtain ⟨owner, base, size⟩ := st
    dsimp only
    by_cases h1 : owner ≠ r.ch
    · rw [if_pos h1]; exact State.refuse_keeps h
    · rw [if_neg h1]
      by_cases h2 : size < ilen ∨ ilen = 0
      · rw [if_pos h2]; exact State.refuse_keeps h
      · rw [if_neg h2]; exact State.closeStage_keeps h
  · rw [if_neg hn]; exact State.refuse_keeps h

theorem execCfgLoad_keeps {o : State} {ch : Chan} {s : State} (h : Keeps o s) : KeepsOut o (execCfgLoad ch s) := by
  unfold execCfgLoad
  refine KeepsOut.next (State.onCommand_keeps h fun y r hy => Keeps.ite (State.refuse_keeps hy) ?_)
  have hc := State.consume_keeps (r := r) (n := 1) (ilen := r.arg 0 4) (off := 0) hy
  split
  · next heq => rw [heq] at hc; exact hc
  · next heq => rw [heq] at hc; exact State.interimAt_keeps hc

theorem State.loadFinish_keeps {o s : State} {r : Req} (h : Keeps o s) : Keeps o (State.loadFinish s r) := by
  unfold State.loadFinish
  extract_lets b1
  split
  · exact State.refuse_keeps h
  · exact State.done_keeps (State.setShadow_keeps h)

theorem execCfgEdit_keeps {o : State} {ch : Chan} {s : State} (h : Keeps o s) : KeepsOut o (execCfgEdit ch s) := by
  unfold execCfgEdit
  refine KeepsOut.next ?_
  with_reducible apply State.onCommand_keeps
  · exact h
  · intro k1 k2 k3
    extract_lets n4
    refine Keeps.ite ?_ ?_
    · exact State.refuse_keeps k3
    · refine Keeps.ite ?_ ?_
      · exact State.refuse_keeps k3
      · split
        · exact State.refuse_keeps k3
        · exact State.done_keeps (State.setShadow_keeps k3)

theorem execCfgCopy_keeps {o : State} {ch : Chan} {s : State} (h : Keeps o s) : KeepsOut o (execCfgCopy ch s) := by
  unfold execCfgCopy
  refine KeepsOut.next ?_
  with_reducible apply State.onCommand_keeps
  · exact h
  · intro k1 k2 k3
    exact Keeps.ite (State.refuse_keeps k3) (State.done_keeps (State.setShadow_keeps k3))

theorem execCfgCheck_keeps {o : State} {ch : Chan} {s : State} (h : Keeps o s) : KeepsOut o (execCfgCheck ch s) := by
  unfold execCfgCheck
  refine KeepsOut.next ?_
  with_reducible apply State.onCommand_keeps
  · exact h
  · intro k1 k2 k3
    split
    · exact State.refuse_keeps k3
    · extract_lets res4
      exact State.finish_keeps (State.interim_keeps k3)

theorem execCfgExport_keeps {o : State} {ch : Chan} {s : State} (h : Keeps o s) :
    KeepsOut o (execCfgExport ch s) := by
  unfold execCfgExport
  refine KeepsOut.next ?_
  with_reducible apply State.onCommand_keeps
  · exact h
  · intro k1 k2 k3
    exact Keeps.ite (State.refuse_keeps k3) (State.interim_keeps k3)

theorem State.exportFinish_keeps {o s : State} {r : Req} (h : Keeps o s) : Keeps o (State.exportFinish s r) := by
  unfold State.exportFinish
  extract_lets b1
  exact Keeps.ite (State.refuse_keeps h) (State.done_keeps (State.poke_keeps h))

theorem execCfgStatus_keeps {o : State} {ch : Chan} {s : State} (h : Keeps o s) :
    KeepsOut o (execCfgStatus ch s) := by
  unfold execCfgStatus
  refine KeepsOut.next ?_
  with_reducible apply State.onCommand_keeps
  · exact h
  · intro k1 k2 k3
    extract_lets epoch4
    exact State.done_keeps k3

theorem State.reserveMoves_keeps {o s : State} {z1 : List Nat} {z2 : List (Nat × Nat)} (h : Keeps o s) :
    Keeps o (State.reserveMoves s z1 z2).2 := by
  induction z1 generalizing s z2 with
  | nil => exact h
  | cons p r ih =>
    have hd := State.claim_keeps (purpose := clFlip) h
    unfold State.reserveMoves
    split
    · exact h
    · next heq => exact ih (State.planMove_keeps (State.dropMove_keeps (KeepsSome.get hd heq)))

theorem State.admitFlip_keeps {o s : State} {f : Flip} (h : Keeps o s) : Keeps o (State.admitFlip s f) := by
  unfold State.admitFlip
  extract_lets c1 next2 m3 s4 x5
  have hm3 : Keeps o m3.2 := by
    unfold m3
    exact State.reserveMoves_keeps h
  clear_value m3
  have hs4 : Keeps o s4 := by
    unfold s4
    exact hm3
  clear_value s4
  exact State.setFld_keeps (State.setCfg_keeps hs4)

theorem State.releaseFlip_keeps {o s : State} {f : Flip} (h : Keeps o s) : Keeps o (State.releaseFlip s f) := by
  unfold State.releaseFlip
  extract_lets s1 x2
  have hs1 : Keeps o s1 := by
    unfold s1
    refine Keeps.foldl ?_ ?_
    · exact h
    · intro k3 k4 k5
      exact State.dropMove_keeps k5
  clear_value s1
  exact State.setFld_keeps (State.setCfg_keeps hs1)

theorem State.abortFlip_keeps {o s : State} {f : Flip} {detail : Nat} (h : Keeps o s) :
    Keeps o (State.abortFlip s f detail) := by
  unfold State.abortFlip
  extract_lets s1
  have hs1 : Keeps o s1 := by
    unfold s1
    exact State.releaseFlip_keeps h
  clear_value s1
  exact Keeps.ite hs1 (State.finish_keeps hs1)

theorem State.flipExit_keeps {o s : State} (h : Keeps o s) : Keeps o (State.flipExit s) := by
  unfold State.flipExit
  split
  · exact h
  · exact Keeps.ite (State.flipCheck_keeps (State.flipLeavesAll_keeps h)) (State.abortFlip_keeps h)

theorem State.flipGo_keeps {o s : State} {f : Flip} {r : Option Req} (h : Keeps o s) :
    Keeps o (State.flipGo s f r) := by
  unfold State.flipGo
  extract_lets gen1 s2
  have hs2 : Keeps o s2 := by
    unfold s2
    split
    · exact State.interim_keeps h
    · exact h
  clear_value s2
  split
  · exact Keeps.ite (State.flipReach_keeps hs2) hs2
  · exact hs2

theorem execCfgFlip_keeps {o : State} {ch : Chan} {s : State} (h : Keeps o s) : KeepsOut o (execCfgFlip ch s) := by
  unfold execCfgFlip
  refine KeepsOut.next ?_
  with_reducible apply State.onCommand_keeps
  · exact h
  · intro k1 k2 k3
    extract_lets ekind4 fflags5 pace6 epoch7 gen8 f9 s10 s11 d12
    have hs10 : Keeps o s10 := by
      unfold s10
      exact State.admitFlip_keeps k3
    clear_value s10
    have hs11 : Keeps o s11 := by
      unfold s11
      exact State.pairReq_keeps hs10
    clear_value s11
    refine Keeps.ite ?_ ?_
    · exact State.refuse_keeps k3
    · refine Keeps.ite ?_ ?_
      · exact State.refuse_keeps k3
      · refine Keeps.ite ?_ ?_
        · exact State.refuse_keeps k3
        · refine Keeps.ite ?_ ?_
          · exact State.refuse_keeps k3
          · refine Keeps.ite ?_ ?_
            · exact State.refuse_keeps k3
            · split
              · exact State.refuse_keeps k3
              · exact Keeps.ite (State.pairCtl_keeps hs11) (State.flipGo_keeps hs10)

theorem execCfgCancel_keeps {o : State} {ch : Chan} {s : State} (h : Keeps o s) :
    KeepsOut o (execCfgCancel ch s) := by
  unfold execCfgCancel
  refine KeepsOut.next ?_
  with_reducible apply State.onCommand_keeps
  · exact h
  · intro k1 k2 k3
    split
    · exact State.done_keeps k3
    · exact Keeps.ite (State.refuse_keeps k3) (State.done_keeps (State.abortFlip_keeps k3))

theorem execFlipEpochReached_keeps {o s : State} (h : Keeps o s) : KeepsOut o (execFlipEpochReached s) := by
  unfold execFlipEpochReached
  refine KeepsOut.next ?_
  split
  · split
    · exact Keeps.ite (State.flipReach_keeps h) h
    · exact h
  · exact h

theorem execReservationRelease_keeps {o : State} {kind : Fin 8} {inst : BitVec 11} {s : State} (h : Keeps o s) :
    KeepsOut o (execReservationRelease kind inst s) := by
  unfold execReservationRelease
  extract_lets o1 x2
  exact KeepsOut.next (Keeps.ite (State.setCfg_keeps h) h)

theorem State.onPairCtl_keeps {o s : State} {ctype : Nat} {cs : List Crumb} {k : State → State}
    (h : Keeps o s) (hk : ∀ (y0 : State), Keeps o y0 → Keeps o (k y0)) :
    KeepsOut o (State.onPairCtl s ctype cs k) := by
  unfold State.onPairCtl
  refine KeepsOut.next ?_
  refine Keeps.ite ?_ ?_
  · with_reducible apply hk
    exact h
  · exact h

theorem State.flipAlone_keeps {o s : State} (h : Keeps o s) : Keeps o (State.flipAlone s) := by
  unfold State.flipAlone
  split
  · exact h
  · extract_lets r1 g2 x3 s4
    have hs4 : Keeps o s4 := by
      unfold s4
      exact State.setCfg_keeps h
    clear_value s4
    exact Keeps.ite (State.flipGo_keeps hs4) (Keeps.ite (State.flipAnswer_keeps hs4) hs4)

theorem State.endHandovers_keeps {o s : State} (h : Keeps o s) : Keeps o (State.endHandovers s) := by
  unfold State.endHandovers
  extract_lets given1 s2 x3
  have hs2 : Keeps o s2 := by
    unfold s2
    refine Keeps.foldl ?_ ?_
    · exact h
    · intro k4 k5 k6
      exact State.handoverFail_keeps k6
  clear_value s2
  exact State.setPair_keeps hs2

theorem State.declareTakeover_keeps {o s : State} (h : Keeps o s) : Keeps o (State.declareTakeover s) := by
  unfold State.declareTakeover
  extract_lets ps1 s2 s3 x4 s5 s6
  have hs2 : Keeps o s2 := by
    unfold s2
    exact State.report_keeps (State.setPrState_keeps (State.endHandovers_keeps h))
  clear_value s2
  have hs3 : Keeps o s3 := by
    unfold s3
    exact State.peerIntr_keeps hs2
  clear_value s3
  have hs5 : Keeps o s5 := by
    unfold s5
    exact State.setPair_keeps hs3
  clear_value s5
  have hs6 : Keeps o s6 := by
    unfold s6
    refine Keeps.foldl ?_ ?_
    · exact hs5
    · intro k7 k8 k9
      exact State.claimMaster_keeps k9
  clear_value s6
  exact Keeps.ite h (State.takenAll_keeps (State.flipAlone_keeps hs6))

theorem State.sendBeat_keeps {o s : State} {exit : Bool} (h : Keeps o s) : Keeps o (State.sendBeat s exit) := by
  unfold State.sendBeat
  extract_lets l1 c2 s3 x4
  have hs3 : Keeps o s3 := by
    unfold s3
    exact State.peerSend_keeps h
  clear_value s3
  exact State.setPair_keeps hs3

theorem execPeerBeatSend_keeps {o s : State} (h : Keeps o s) : KeepsOut o (execPeerBeatSend s) := by
  unfold execPeerBeatSend
  exact KeepsOut.next (Keeps.ite (State.sendBeat_keeps h) h)

theorem State.beatMissed_keeps {o s : State} (h : Keeps o s) : Keeps o (State.beatMissed s) := by
  unfold State.beatMissed
  extract_lets x1 s2 n3 s4
  have hs2 : Keeps o s2 := by
    unfold s2
    exact State.setPair_keeps h
  clear_value s2
  have hs4 : Keeps o s4 := by
    unfold s4
    exact State.bump_keeps (State.setFld_keeps hs2)
  clear_value s4
  exact Keeps.ite hs2 (Keeps.ite (State.declareTakeover_keeps hs4) hs4)

theorem execPeerBeatMiss_keeps {o s : State} (h : Keeps o s) : KeepsOut o (execPeerBeatMiss s) := by
  unfold execPeerBeatMiss
  exact KeepsOut.next (Keeps.ite (State.beatMissed_keeps h) h)

theorem State.beatSkew_keeps {o s : State} {cs : List Crumb} (h : Keeps o s) : Keeps o (State.beatSkew s cs) := by
  unfold State.beatSkew
  extract_lets l1 v2 s3 far4 n5 up6 x7 s8
  have hs3 : Keeps o s3 := by
    unfold s3
    exact State.setFld_keeps h
  clear_value s3
  have hs8 : Keeps o s8 := by
    unfold s8
    exact State.setPair_keeps hs3
  clear_value s8
  exact Keeps.ite h (Keeps.ite (State.peerIntr_keeps (State.report_keeps hs8)) hs8)

theorem execPeerBeat_keeps {o : State} {crumbs : List Crumb} {good : Bool} {s : State} (h : Keeps o s) :
    KeepsOut o (execPeerBeat crumbs good s) := by
  unfold execPeerBeat
  extract_lets c1 x2 s3 s4 s5
  have hs3 : Keeps o s3 := by
    unfold s3
    exact State.setPair_keeps h
  clear_value s3
  have hs4 : Keeps o s4 := by
    unfold s4
    exact State.setFlds_keeps hs3
  clear_value s4
  have hs5 : Keeps o s5 := by
    unfold s5
    exact State.beatSkew_keeps hs4
  clear_value s5
  refine KeepsOut.next ?_
  exact Keeps.ite h (Keeps.ite (State.beatMissed_keeps h) (Keeps.ite (State.declareTakeover_keeps hs5) hs5))

theorem State.takeRecord_keeps {o s : State} {p : Nat} {fn : Nat} {r : List Byte} (h : Keeps o s) :
    Keeps o (State.takeRecord s p fn r) := by
  unfold State.takeRecord
  extract_lets x1 s2 g3 h4 d5 d6 s7 x8 s9
  have hs2 : Keeps o s2 := by
    unfold s2
    exact State.setPair_keeps h
  clear_value s2
  have hs7 : Keeps o s7 := by
    unfold s7
    exact State.setIngest_keeps hs2
  clear_value s7
  have hs9 : Keeps o s9 := by
    unfold s9
    exact State.setPort_keeps hs7
  clear_value s9
  exact State.handoverRecord_keeps (State.tryArm_keeps hs9)

theorem execPeerMirror_keeps {o : State} {crumbs : List Crumb} {s : State} (h : Keeps o s) :
    KeepsOut o (execPeerMirror crumbs s) := by
  unfold execPeerMirror
  extract_lets p1 fn2 held3 r4
  exact KeepsOut.next (Keeps.ite h (Keeps.ite h (Keeps.ite (State.takeRecord_keeps h) (State.pairReq_keeps h))))

theorem execPeerDone_keeps {o : State} {crumbs : List Crumb} {s : State} (h : Keeps o s) :
    KeepsOut o (execPeerDone crumbs s) := by
  unfold execPeerDone
  extract_lets c1 key2 fn3 d4 x5
  exact KeepsOut.next (Keeps.ite h (Keeps.ite h (State.setPair_keeps h)))

theorem execPeerLatmir_keeps {o : State} {crumbs : List Crumb} {s : State} (h : Keeps o s) :
    KeepsOut o (execPeerLatmir crumbs s) := by
  unfold execPeerLatmir
  extract_lets n1 lfn2 x3 keep4 next5
  exact KeepsOut.next (Keeps.ite h (State.setLat_keeps h))

theorem execPeerResync_keeps {o : State} {crumbs : List Crumb} {s : State} (h : Keeps o s) :
    KeepsOut o (execPeerResync crumbs s) := by
  unfold execPeerResync
  with_reducible apply State.onPairCtl_keeps
  · exact h
  · intro k1 k2
    extract_lets x3
    exact State.setPair_keeps k2

theorem execPeerPortinfo_keeps {o : State} {crumbs : List Crumb} {s : State} (h : Keeps o s) :
    KeepsOut o (execPeerPortinfo crumbs s) := by
  unfold execPeerPortinfo
  with_reducible apply State.onPairCtl_keeps
  · exact h
  · intro k1 k2
    extract_lets a3 p4 was5 i6 x7 s8 x9
    have hs8 : Keeps o s8 := by
      unfold s8
      exact State.pairMismatch_keeps (State.setPair_keeps k2)
    clear_value s8
    exact Keeps.ite k2 (Keeps.ite (State.setPair_keeps (State.setArmed_keeps hs8)) hs8)

theorem State.assignRoles_keeps {o s : State} {partner : Nat} (h : Keeps o s) :
    Keeps o (State.assignRoles s partner) := by
  unfold State.assignRoles
  extract_lets theirs1
  refine Keeps.foldl ?_ ?_
  · exact h
  · intro k2 k3 k4
    extract_lets mine5 dflt6
    exact State.setPrimary_keeps k4

theorem State.leaveLattices_keeps {o s : State} (h : Keeps o s) : Keeps o (State.leaveLattices s) := by
  unfold State.leaveLattices
  refine Keeps.foldl ?_ ?_
  · exact h
  · intro k1 k2 k3
    extract_lets x4
    exact Keeps.ite (State.latSettle_keeps (State.setStream_keeps k3)) k3

theorem State.enterPair_keeps {o s : State} {partner : Nat} {common : Nat} (h : Keeps o s) :
    Keeps o (State.enterPair s partner common) := by
  unfold State.enterPair
  extract_lets s1 x2 s3 s4 s5 s6 s7 place8 x9 s10
  have hs1 : Keeps o s1 := by
    unfold s1
    exact State.assignRoles_keeps h
  clear_value s1
  have hs3 : Keeps o s3 := by
    unfold s3
    exact State.setPair_keeps hs1
  clear_value s3
  have hs4 : Keeps o s4 := by
    unfold s4
    refine Keeps.foldl ?_ ?_
    · exact hs3
    · intro k11 k12 k13
      exact State.setFld_keeps k13
  clear_value s4
  have hs5 : Keeps o s5 := by
    unfold s5
    exact State.setFlds_keeps hs4
  clear_value s5
  have hs6 : Keeps o s6 := by
    unfold s6
    exact Keeps.ite (State.report_keeps hs5) hs5
  clear_value s6
  have hs7 : Keeps o s7 := by
    unfold s7
    exact State.setPrState_keeps hs6
  clear_value s7
  have hs10 : Keeps o s10 := by
    unfold s10
    refine Keeps.of_mk ?_ rfl
    exact hs7
  clear_value s10
  exact State.leaveLattices_keeps hs10

theorem State.startJoin_keeps {o s : State} {ch : Nat} {tag : Nat} (h : Keeps o s) :
    Keeps o (State.startJoin s ch tag) := by
  unfold State.startJoin
  extract_lets x1 s2 s3 d4 arg5 s6 x7
  have hs2 : Keeps o s2 := by
    unfold s2
    with_reducible apply State.setFld_keeps
    refine Keeps.of_mk ?_ rfl
    exact h
  clear_value s2
  have hs3 : Keeps o s3 := by
    unfold s3
    exact State.setPrState_keeps hs2
  clear_value s3
  have hs6 : Keeps o s6 := by
    unfold s6
    exact State.pairReq_keeps hs3
  clear_value s6
  exact Keeps.ite (State.finish_keeps h) (Keeps.ite (State.finish_keeps h) (State.setPair_keeps hs6))

theorem State.joinFails_keeps {o s : State} {status : Nat} {detail : Nat} (h : Keeps o s) :
    Keeps o (State.joinFails s status detail) := by
  unfold State.joinFails
  extract_lets x1
  exact State.failTrans_keeps (State.setPrState_keeps (State.setPair_keeps h))

theorem execPeerJoinReq_keeps {o : State} {crumbs : List Crumb} {s : State} (h : Keeps o s) :
    KeepsOut o (execPeerJoinReq crumbs s) := by
  unfold execPeerJoinReq
  extract_lets a1 s2 s3 common4 s5
  have hs2 : Keeps o s2 := by
    unfold s2
    exact State.setFlds_keeps h
  clear_value s2
  have hs3 : Keeps o s3 := by
    unfold s3
    exact State.setPrState_keeps (State.setPrState_keeps hs2)
  clear_value s3
  have hs5 : Keeps o s5 := by
    unfold s5
    exact State.pairCtl_keeps hs3
  clear_value s5
  refine KeepsOut.next ?_
  refine Keeps.ite ?_ ?_
  · exact h
  · refine Keeps.ite ?_ ?_
    · exact Keeps.ite (State.pairCtl_keeps h) h
    · split
      · exact State.setPrState_keeps (State.pairCtl_keeps hs3)
      · exact State.setMode_keeps (State.enterPair_keeps hs5)

theorem execPeerJoinAck_keeps {o : State} {crumbs : List Crumb} {s : State} (h : Keeps o s) :
    KeepsOut o (execPeerJoinAck crumbs s) := by
  unfold execPeerJoinAck
  with_reducible apply State.onPairCtl_keeps
  · exact h
  · intro k1 k2
    extract_lets s3 s4
    have hs3 : Keeps o s3 := by
      unfold s3
      exact State.setFld_keeps k2
    clear_value s3
    have hs4 : Keeps o s4 := by
      unfold s4
      exact State.enterPair_keeps hs3
    clear_value s4
    refine Keeps.ite ?_ ?_
    · exact k2
    · split
      · exact State.endTrans_keeps hs4
      · exact State.setMode_keeps hs4

theorem execPeerJoinNak_keeps {o : State} {crumbs : List Crumb} {s : State} (h : Keeps o s) :
    KeepsOut o (execPeerJoinNak crumbs s) := by
  unfold execPeerJoinNak
  with_reducible apply State.onPairCtl_keeps
  · exact h
  · intro k1 k2
    exact Keeps.ite k2 (Keeps.ite (State.joinFails_keeps k2) (State.joinFails_keeps k2))

theorem execPeerJoinTimeout_keeps {o s : State} (h : Keeps o s) : KeepsOut o (execPeerJoinTimeout s) := by
  unfold execPeerJoinTimeout
  refine KeepsOut.next ?_
  split
  · exact Keeps.ite (State.joinFails_keeps h) h
  · exact h

theorem execPeerLeave_keeps {o : State} {crumbs : List Crumb} {s : State} (h : Keeps o s) :
    KeepsOut o (execPeerLeave crumbs s) := by
  unfold execPeerLeave
  with_reducible apply State.onPairCtl_keeps
  · exact h
  · intro k1 k2
    refine Keeps.ite ?_ ?_
    · exact k2
    · refine Keeps.ite ?_ ?_
      · exact State.declareTakeover_keeps k2
      · exact State.flipAlone_keeps (State.setPrState_keeps (State.endHandovers_keeps k2))

theorem execPeerHandover_keeps {o : State} {crumbs : List Crumb} {s : State} (h : Keeps o s) :
    KeepsOut o (execPeerHandover crumbs s) := by
  unfold execPeerHandover
  with_reducible apply State.onPairCtl_keeps
  · exact h
  · intro k1 k2
    extract_lets p3 h4 code5 s6 x7
    have hs6 : Keeps o s6 := by
      unfold s6
      exact State.pairCtl_keeps k2
    clear_value s6
    exact Keeps.ite hs6 (State.setPair_keeps hs6)

theorem execPeerHandoverAck_keeps {o : State} {crumbs : List Crumb} {s : State} (h : Keeps o s) :
    KeepsOut o (execPeerHandoverAck crumbs s) := by
  unfold execPeerHandoverAck
  with_reducible apply State.onPairCtl_keeps
  · exact h
  · intro k1 k2
    extract_lets p3 x4 x5
    exact Keeps.ite k2 (Keeps.ite (State.setPair_keeps k2) (State.handoverFail_keeps k2))

theorem execPeerFlipPropose_keeps {o : State} {crumbs : List Crumb} {s : State} (h : Keeps o s) :
    KeepsOut o (execPeerFlipPropose crumbs s) := by
  unfold execPeerFlipPropose
  with_reducible apply State.onPairCtl_keeps
  · exact h
  · intro k1 k2
    extract_lets c3 mine4 s5 x6
    have hs5 : Keeps o s5 := by
      unfold s5
      split
      · exact Keeps.ite (State.finish_keeps (State.releaseFlip_keeps k2)) k2
      · exact k2
    clear_value s5
    exact Keeps.ite k2 (State.setPair_keeps hs5)

theorem execPeerDigest_keeps {o : State} {crumbs : List Crumb} {s : State} (h : Keeps o s) :
    KeepsOut o (execPeerDigest crumbs s) := by
  unfold execPeerDigest
  with_reducible apply State.onPairCtl_keeps
  · exact h
  · intro k1 k2
    split
    · exact k2
    · extract_lets x3 s4 f5 s6
      have hs4 : Keeps o s4 := by
        unfold s4
        exact State.setPair_keeps k2
      clear_value s4
      have hs6 : Keeps o s6 := by
        unfold s6
        exact State.pairCtl_keeps (State.admitFlip_keeps hs4)
      clear_value s6
      refine Keeps.ite ?_ ?_
      · exact k2
      · refine Keeps.ite ?_ ?_
        · exact State.pairCtl_keeps hs4
        · refine Keeps.ite ?_ ?_
          · exact State.pairCtl_keeps hs4
          · split
            · exact State.pairCtl_keeps hs4
            · split
              · exact State.flipGo_keeps hs6
              · exact hs6

theorem execPeerFlipAnswer_keeps {o : State} {crumbs : List Crumb} {s : State} (h : Keeps o s) :
    KeepsOut o (execPeerFlipAnswer crumbs s) := by
  unfold execPeerFlipAnswer
  with_reducible apply State.onPairCtl_keeps
  · exact h
  · intro k1 k2
    split
    · exact k2
    · extract_lets g3 x4 d5
      refine Keeps.ite ?_ ?_
      · exact k2
      · exact Keeps.ite (State.flipGo_keeps (State.setCfg_keeps k2)) (State.finish_keeps (State.releaseFlip_keeps k2))

theorem execPeerFlipAnswerTimeout_keeps {o s : State} (h : Keeps o s) : KeepsOut o (execPeerFlipAnswerTimeout s) := by
  unfold execPeerFlipAnswerTimeout
  refine KeepsOut.next ?_
  split
  · exact Keeps.ite (State.finish_keeps (State.releaseFlip_keeps h)) h
  · exact h

theorem execPeerFlipEpoch_keeps {o : State} {crumbs : List Crumb} {s : State} (h : Keeps o s) :
    KeepsOut o (execPeerFlipEpoch crumbs s) := by
  unfold execPeerFlipEpoch
  with_reducible apply State.onPairCtl_keeps
  · exact h
  · intro k1 k2
    split
    · exact Keeps.ite (State.flipReach_keeps k2) k2
    · exact k2

theorem execPeerFlipDone_keeps {o : State} {crumbs : List Crumb} {s : State} (h : Keeps o s) :
    KeepsOut o (execPeerFlipDone crumbs s) := by
  unfold execPeerFlipDone
  with_reducible apply State.onPairCtl_keeps
  · exact h
  · intro k1 k2
    split
    · extract_lets f3 x4 s5
      have hs5 : Keeps o s5 := by
        unfold s5
        exact State.setCfg_keeps k2
      clear_value s5
      exact Keeps.ite k2 (Keeps.ite (State.flipAnswer_keeps hs5) hs5)
    · exact k2

theorem execPeerUnknown_keeps {o : State} {crumbs : List Crumb} {s : State} (h : Keeps o s) :
    KeepsOut o (execPeerUnknown crumbs s) := by
  unfold execPeerUnknown
  extract_lets t1
  exact KeepsOut.next (Keeps.ite (State.pairCtl_keeps h) h)

theorem State.setWindow_keeps {o s : State} {w : Window} (h : Keeps o s) : Keeps o (State.setWindow s w) := by
  unfold State.setWindow
  extract_lets x1
  exact State.setRot_keeps h

theorem State.dropWindow_keeps {o s : State} {sl : Nat} (h : Keeps o s) : Keeps o (State.dropWindow s sl) := by
  unfold State.dropWindow
  extract_lets x1
  exact State.setRot_keeps h

theorem State.isolate_keeps {o s : State} {w : Window} (h : Keeps o s) : Keeps o (State.isolate s w) := by
  unfold State.isolate
  exact State.setFlds_keeps (State.setWindow_keeps h)

theorem State.retireIn_keeps {o s : State} {w : Window} {seg : Nat} {misr : Nat} (h : Keeps o s) :
    Keeps o (State.retireIn s w seg misr) := by
  unfold State.retireIn
  extract_lets s1 x2
  have hs1 : Keeps o s1 := by
    unfold s1
    exact State.retire_keeps h
  clear_value s1
  exact State.setRot_keeps hs1

theorem State.startWindow_keeps {o s : State} {sl : Nat} (h : Keeps o s) : Keeps o (State.startWindow s sl) := by
  unfold State.startWindow
  extract_lets go1
  have hgo1 : ∀ y0, Keeps o y0 → Keeps o (go1 y0) := by
    unfold go1
    intro k2 k3
    extract_lets r4 last5
    exact State.setRot_keeps k3
  clear_value go1
  refine Keeps.ite ?_ ?_
  · with_reducible apply State.isolate_keeps
    with_reducible apply hgo1
    exact h
  · split
    · with_reducible apply State.setWindow_keeps
      with_reducible apply hgo1
      exact h
    · refine Keeps.ite ?_ ?_
      · exact h
      · have hd6 : KeepsSome o (s.claim clProving) := by
          exact State.claim_keeps h
        generalize (s.claim clProving) = d6 at hd6 ⊢
        rcases d6 with _ | ⟨d7a, d7b⟩
        · try dsimp -zeta only
          exact h
        · have kd7 := KeepsSome.get hd6 rfl
          try dsimp -zeta only at kd7 ⊢
          with_reducible apply State.planMove_keeps
          with_reducible apply hgo1
          exact kd7

theorem execProvingWindowStart_keeps {o s : State} (h : Keeps o s) : KeepsOut o (execProvingWindowStart s) := by
  unfold execProvingWindowStart
  extract_lets due1 s2 x3
  have hs2 : Keeps o s2 := by
    unfold s2
    exact State.pausedCheck_keeps h
  clear_value s2
  refine KeepsOut.next ?_
  refine Keeps.ite ?_ ?_
  · exact hs2
  · split
    · exact hs2
    · extract_lets ahead4
      exact State.startWindow_keeps (State.setRot_keeps hs2)

theorem execSliceDrained_keeps {o : State} {sl : Slice} {s : State} (h : Keeps o s) :
    KeepsOut o (execSliceDrained sl s) := by
  unfold execSliceDrained
  refine KeepsOut.next ?_
  split
  · extract_lets free1 may2
    exact Keeps.ite (State.isolate_keeps h) h
  · exact h

theorem State.segment_keeps {o s : State} {w : Window} {good : Bool} {misr : Nat} (h : Keeps o s) :
    Keeps o (State.segment s w good misr) := by
  unfold State.segment
  extract_lets sl1 s2 w3 s4
  have hs2 : Keeps o s2 := by
    unfold s2
    exact Keeps.ite (State.bump_keeps (State.report_keeps h)) h
  clear_value s2
  have hs4 : Keeps o s4 := by
    unfold s4
    exact State.setFlds_keeps (State.bump_keeps h)
  clear_value s4
  refine Keeps.ite ?_ ?_
  · exact Keeps.ite (State.setWindow_keeps hs2) (State.setFld_keeps (State.setWindow_keeps hs2))
  · exact Keeps.ite (State.retireIn_keeps hs4) (State.setWindow_keeps hs4)

theorem execBistSegmentDone_keeps {o : State} {sl : Slice} {good : Bool} {misr : BitVec 64} {s : State}
    (h : Keeps o s) :
    KeepsOut o (execBistSegmentDone sl good misr s) := by
  unfold execBistSegmentDone
  refine KeepsOut.next ?_
  split
  · exact Keeps.ite (State.segment_keeps h) h
  · exact h

theorem execBistSegmentTimeout_keeps {o : State} {sl : Slice} {misr : BitVec 64} {s : State} (h : Keeps o s) :
    KeepsOut o (execBistSegmentTimeout sl misr s) := by
  unfold execBistSegmentTimeout
  refine KeepsOut.next ?_
  split
  · exact Keeps.ite (State.segment_keeps h) h
  · exact h

theorem State.fitRows_keeps {o s : State} {sl : Nat} {z2 : List (Nat × Nat)} (h : Keeps o s) :
    KeepsOpt o (State.fitRows s sl z2) := by
  revert h
  fun_induction State.fitRows s sl z2
  · intro k1
    exact KeepsOpt.ofSome k1
  · intro k2
    exact KeepsOpt.ofNone
  · intro k3
    rename_i v4
    extract_lets x5
    with_reducible apply v4
    refine Keeps.of_mk ?_ rfl
    exact k3

theorem State.sayRepairs_keeps {o s : State} {sl : Nat} {z2 : List (Nat × Nat)} (h : Keeps o s) :
    Keeps o (State.sayRepairs s sl z2) := by
  revert h
  fun_induction State.sayRepairs s sl z2
  · intro k1
    exact k1
  · intro k2
    rename_i v3
    with_reducible apply v3
    exact State.report_keeps k2

theorem execMemoryBistDone_keeps {o : State} {sl : Slice} {rows : List (Fin 11 × Fin 512)} {again : Bool} {s : State}
    (h : Keeps o s) :
    KeepsOut o (execMemoryBistDone sl rows again s) := by
  unfold execMemoryBistDone
  extract_lets l1
  refine KeepsOut.next ?_
  split
  · refine Keeps.ite ?_ ?_
    · exact h
    · have hd2 : KeepsOpt o (s.fitRows (↑sl) l1) := by
        exact State.fitRows_keeps h
      generalize (s.fitRows (↑sl) l1) = d2 at hd2 ⊢
      rcases d2 with _ | d3a
      · try dsimp -zeta only
        exact State.retireIn_keeps h
      · have kd3 := KeepsOpt.get hd2 rfl
        try dsimp -zeta only at kd3 ⊢
        refine Keeps.ite ?_ ?_
        · exact State.setWindow_keeps h
        · exact Keeps.ite (State.setWindow_keeps (State.sayRepairs_keeps kd3)) (State.retireIn_keeps kd3)
  · exact h

theorem execProvingWindowAbort_keeps {o : State} {sl : Slice} {s : State} (h : Keeps o s) :
    KeepsOut o (execProvingWindowAbort sl s) := by
  unfold execProvingWindowAbort
  refine KeepsOut.next ?_
  split
  · extract_lets x1 s2
    have hs2 : Keeps o s2 := by
      unfold s2
      exact State.setRot_keeps h
    clear_value s2
    exact Keeps.ite h (Keeps.ite (State.retireIn_keeps h) (State.setWindow_keeps hs2))
  · exact h

theorem State.zeroSlice_keeps {o s : State} {sl : Nat} (h : Keeps o s) : Keeps o (State.zeroSlice s sl) := by
  unfold State.zeroSlice
  extract_lets b1
  exact State.keepMem_keeps h

theorem State.resetSlice_keeps {o s : State} {sl : Nat} (h : Keeps o s) : Keeps o (State.resetSlice s sl) := by
  unfold State.resetSlice
  extract_lets b1 gone2
  refine Keeps.of_mk ?_ rfl
  exact h

theorem State.cycleCheck_keeps {o s : State} (h : Keeps o s) : Keeps o (State.cycleCheck s) := by
  unfold State.cycleCheck
  extract_lets x1
  exact Keeps.ite (State.bump_keeps (State.setRot_keeps h)) h

theorem State.passWindow_keeps {o s : State} {w : Window} (h : Keeps o s) : Keeps o (State.passWindow s w) := by
  unfold State.passWindow
  extract_lets sl1 r2 s3 s4
  have hs3 : Keeps o s3 := by
    unfold s3
    exact State.setRot_keeps h
  clear_value s3
  have hs4 : Keeps o s4 := by
    unfold s4
    exact State.setFlds_keeps (State.bump_keeps hs3)
  clear_value s4
  exact State.cycleCheck_keeps hs4

theorem execSliceResetDone_keeps {o : State} {sl : Slice} {s : State} (h : Keeps o s) :
    KeepsOut o (execSliceResetDone sl s) := by
  unfold execSliceResetDone
  refine KeepsOut.next ?_
  split
  · extract_lets s1 s2 s3
    have hs1 : Keeps o s1 := by
      unfold s1
      exact State.dropWindow_keeps (State.resetSlice_keeps (State.zeroSlice_keeps h))
    clear_value s1
    have hs2 : Keeps o s2 := by
      unfold s2
      exact State.bump_keeps hs1
    clear_value s2
    have hs3 : Keeps o s3 := by
      unfold s3
      refine Keeps.ite ?_ ?_
      · exact State.markFirst_keeps (State.setSstate_keeps hs1)
      · exact Keeps.ite (State.cycleCheck_keeps hs2) (State.passWindow_keeps hs2)
    clear_value s3
    exact Keeps.ite h (State.serveWaits_keeps (State.giveBack_keeps hs3))
  · exact h

theorem execRotationCoverage_keeps {o : State} {sl : Slice} {s : State} (h : Keeps o s) :
    KeepsOut o (execRotationCoverage sl s) := by
  unfold execRotationCoverage
  extract_lets per1 late2 x3
  exact KeepsOut.next (Keeps.ite (State.report_keeps (State.setRot_keeps h)) h)

theorem execRotationCounterClear_keeps {o s : State} (h : Keeps o s) : KeepsOut o (execRotationCounterClear s) := by
  unfold execRotationCounterClear
  exact KeepsOut.next (Keeps.ite (State.setFlds_keeps h) h)

end Sys2Proof.Machine
end

