-- ==== Sys2Proof/Laws/KeepsSystem.lean ====
section
/-!
SUPPORT. What every operation and every command keeps (Keeps): the bridge, the buses, power, boot and the mailboxes.
-/
namespace Sys2Proof.Machine

theorem State.popPkt_keeps {o s : State} {sel : Pkt → Bool} (h : Keeps o s) : KeepsSome o (State.popPkt s sel) := by
  unfold State.popPkt
  extract_lets compat1 x2
  split
  · exact KeepsSome.ofNone
  · refine KeepsSome.ite ?_ ?_
    · refine KeepsSome.ite ?_ ?_
      · refine KeepsSome.ofSome ?_
        dsimp -zeta only
        exact State.freeBlocks_keeps (State.setUpl_keeps h)
      · exact KeepsSome.ofNone
    · refine KeepsSome.ite ?_ ?_
      · exact KeepsSome.ofNone
      · refine KeepsSome.ofSome ?_
        dsimp -zeta only
        exact State.freeBlocks_keeps (State.setUpl_keeps h)

theorem State.onPkt_keeps {o s : State} {sel : Pkt → Bool} {k : State → Pkt → State}
    (h : Keeps o s) (hk : ∀ (y0 : State) (y1 : Pkt), Keeps o y0 → Keeps o (k y0 y1)) :
    Keeps o (State.onPkt s sel k) := by
  unfold State.onPkt
  refine Keeps.ite ?_ ?_
  · exact h
  · have hd1 : KeepsSome o (s.popPkt sel) := by
      exact State.popPkt_keeps h
    generalize (s.popPkt sel) = d1 at hd1 ⊢
    rcases d1 with _ | ⟨d2a, d2b⟩
    · try dsimp -zeta only
      exact h
    · have kd2 := KeepsSome.get hd1 rfl
      try dsimp -zeta only at kd2 ⊢
      with_reducible apply hk
      exact kd2

theorem State.dropDrb_keeps {o s : State} {d : Drb} (h : Keeps o s) : Keeps o (State.dropDrb s d) := by
  unfold State.dropDrb
  extract_lets x1
  refine Keeps.of_mk ?_ rfl
  exact h

theorem State.noBuffer_keeps {o s : State} {tag : Nat} {addr : Nat} {n : Nat} (h : Keeps o s) :
    Keeps o (State.noBuffer s tag addr n) := by
  unfold State.noBuffer
  exact State.bump_keeps (State.complete_keeps h)

theorem State.headRead_keeps {o s : State} {tag : Nat} {addr : Nat} {n : Nat} (h : Keeps o s) :
    Keeps o (State.headRead s tag addr n) := by
  unfold State.headRead
  extract_lets d1 x2 s3
  have hs3 : Keeps o s3 := by
    unfold s3
    refine Keeps.of_mk ?_ rfl
    exact h
  clear_value s3
  exact Keeps.ite (State.noBuffer_keeps h) (State.complete_keeps (State.bcQueue_keeps hs3))

theorem State.retryRead_keeps {o s : State} {d : Drb} (h : Keeps o s) : Keeps o (State.retryRead s d) := by
  unfold State.retryRead
  split
  · exact State.complete_keeps h
  · exact State.complete_keeps (State.dropDrb_keeps h)

theorem execBrgFastwinExpiry_keeps {o : State} {tag : BitVec 12} {s : State} (h : Keeps o s) :
    KeepsOut o (execBrgFastwinExpiry tag s) := by
  unfold execBrgFastwinExpiry
  refine KeepsOut.next ?_
  split
  · exact h
  · extract_lets k1 x2
    refine Keeps.ite ?_ ?_
    · exact h
    · refine Keeps.ite ?_ ?_
      · exact State.noBuffer_keeps (State.dropDrb_keeps h)
      · with_reducible apply State.complete_keeps
        refine Keeps.of_mk ?_ rfl
        exact h

theorem execBrgDelayedReadDiscard_keeps {o : State} {tag : BitVec 12} {s : State} (h : Keeps o s) :
    KeepsOut o (execBrgDelayedReadDiscard tag s) := by
  unfold execBrgDelayedReadDiscard
  refine KeepsOut.next ?_
  split
  · exact h
  · exact Keeps.ite h (State.bump_keeps (State.dropDrb_keeps h))

theorem State.headWrite_keeps {o s : State} {tag : Nat} {addr : Nat} {data : List Byte} (h : Keeps o s) :
    Keeps o (State.headWrite s tag addr data) := by
  unfold State.headWrite
  extract_lets p1
  exact Keeps.ite (State.bump_keeps (State.pwFail_keeps h)) (State.bcQueue_keeps h)

theorem execBrgLread_keeps {o s : State} (h : Keeps o s) : KeepsOut o (execBrgLread s) := by
  unfold execBrgLread
  refine KeepsOut.next ?_
  with_reducible apply State.onPkt_keeps
  · exact h
  · intro k1 k2 k3
    extract_lets c4 a5 n6 form7 limit8 b9 s10
    have hs10 : Keeps o s10 := by
      unfold s10
      refine Keeps.of_mk ?_ rfl
      exact k3
    clear_value s10
    split
    · exact State.complete_keeps k3
    · exact Keeps.ite (State.complete_keeps k3) (Keeps.ite (State.complete_keeps k3) (State.bcQueue_keeps hs10))

theorem State.noLock_keeps {o s : State} {tag : Nat} {a : Nat} {n : Nat} (h : Keeps o s) :
    Keeps o (State.noLock s tag a n) := by
  unfold State.noLock
  split
  · exact Keeps.ite (State.complete_keeps h) (State.complete_keeps h)
  · exact State.complete_keeps h

theorem State.closeLock_keeps {o s : State} {l : Lock} (h : Keeps o s) : Keeps o (State.closeLock s l) := by
  unfold State.closeLock
  extract_lets x1
  refine Keeps.of_mk ?_ rfl
  exact h

theorem execBrgLwrite_keeps {o s : State} (h : Keeps o s) : KeepsOut o (execBrgLwrite s) := by
  unfold execBrgLwrite
  refine KeepsOut.next ?_
  with_reducible apply State.onPkt_keeps
  · exact h
  · intro k1 k2 k3
    extract_lets c4 a5 n6 x7
    split
    · exact State.noLock_keeps k3
    · extract_lets form8 k9 s10
      have hs10 : Keeps o s10 := by
        unfold s10
        refine Keeps.of_mk ?_ rfl
        exact k3
      clear_value s10
      split
      · exact State.complete_keeps (State.closeLock_keeps k3)
      · exact State.bcQueue_keeps hs10

theorem execBrgLrelease_keeps {o s : State} (h : Keeps o s) : KeepsOut o (execBrgLrelease s) := by
  unfold execBrgLrelease
  refine KeepsOut.next ?_
  with_reducible apply State.onPkt_keeps
  · exact h
  · intro k1 k2 k3
    extract_lets c4
    split
    · exact State.noLock_keeps k3
    · exact State.complete_keeps (State.closeLock_keeps k3)

theorem execBrgLockTimeout_keeps {o : State} {port : Port} {s : State} (h : Keeps o s) :
    KeepsOut o (execBrgLockTimeout port s) := by
  unfold execBrgLockTimeout
  refine KeepsOut.next ?_
  split
  · extract_lets step1
    exact Keeps.ite (State.expireLock_keeps h) h
  · exact h

theorem State.headTunnel_keeps {o s : State} {p : Pkt} {ttype : Nat} {good : Bool} {off : Nat} {cmd : Origin → BcCmd}
    (h : Keeps o s) :
    Keeps o (State.headTunnel s p ttype good off cmd) := by
  unfold State.headTunnel
  extract_lets port1 head2 t3
  have ht3 : ∀ y0, Keeps o (t3 y0) := by
    unfold t3
    intro k4
    exact State.tunnel_keeps h
  clear_value t3
  refine Keeps.ite ?_ ?_
  · with_reducible apply ht3
  · refine Keeps.ite ?_ ?_
    · with_reducible apply ht3
    · refine Keeps.ite ?_ ?_
      · with_reducible apply ht3
      · exact State.bcQueue_keeps h

theorem execTwReq_keeps {o s : State} (h : Keeps o s) : KeepsOut o (execTwReq s) := by
  unfold execTwReq
  refine KeepsOut.next ?_
  with_reducible apply State.onPkt_keeps
  · exact h
  · intro k1 k2 k3
    extract_lets i4 w5 good6
    exact State.headTunnel_keeps k3

theorem execHmReq_keeps {o s : State} (h : Keeps o s) : KeepsOut o (execHmReq s) := by
  unfold execHmReq
  refine KeepsOut.next ?_
  with_reducible apply State.onPkt_keeps
  · exact h
  · intro k1 k2 k3
    extract_lets i4 h5 good6
    exact State.headTunnel_keeps k3

theorem execIntmsgSend_keeps {o s : State} (h : Keeps o s) : KeepsOut o (execIntmsgSend s) := by
  unfold execIntmsgSend
  refine KeepsOut.next ?_
  refine Keeps.ite ?_ ?_
  · exact h
  · split
    · exact h
    · extract_lets q1 s2 x3
      have hs2 : Keeps o s2 := by
        unfold s2
        refine Keeps.of_mk ?_ rfl
        exact h
      clear_value s2
      exact Keeps.ite (State.setUpl_keeps hs2) (State.setUpl_keeps hs2)

theorem State.pwerrClear_keeps {o s : State} (h : Keeps o s) : Keeps o (State.pwerrClear s) := by
  unfold State.pwerrClear
  exact State.setFlds_keeps h

theorem execPwerrClear_keeps {o s : State} (h : Keeps o s) : KeepsOut o (execPwerrClear s) := by
  unfold execPwerrClear
  exact KeepsOut.next (Keeps.ite (State.pwerrClear_keeps h) h)

theorem execInterruptUnmask_keeps {o : State} {mask : BitVec 11} {s : State} (h : Keeps o s) :
    KeepsOut o (execInterruptUnmask mask s) := by
  unfold execInterruptUnmask
  exact KeepsOut.next (Keeps.ite (State.setFld_keeps h) h)

theorem State.brgClear_keeps {o s : State} (h : Keeps o s) : Keeps o (State.brgClear s) := by
  unfold State.brgClear
  exact State.setFlds_keeps h

theorem execBridgeCounterClear_keeps {o s : State} (h : Keeps o s) : KeepsOut o (execBridgeCounterClear s) := by
  unfold execBridgeCounterClear
  exact KeepsOut.next (Keeps.ite (State.brgClear_keeps h) h)

theorem State.answerCompat_keeps {o s : State} {z1 : List Req} (h : Keeps o s) :
    Keeps o (State.answerCompat s z1) := by
  revert h
  fun_induction State.answerCompat s z1
  · intro k1
    exact k1
  · intro k2
    rename_i v3
    with_reducible apply v3
    exact Keeps.ite (State.done_keeps k2) k2

theorem execCompatSwitch_keeps {o s : State} (h : Keeps o s) : KeepsOut o (execCompatSwitch s) := by
  unfold execCompatSwitch
  extract_lets s1
  have hs1 : Keeps o s1 := by
    unfold s1
    exact State.setFld_keeps h
  clear_value s1
  exact KeepsOut.next (Keeps.ite (State.answerCompat_keeps hs1) h)

theorem State.setCan_keeps {o s : State} {c : Nat} {x : CanSt} (h : Keeps o s) : Keeps o (State.setCan s c x) := by
  unfold State.setCan
  refine Keeps.of_mk ?_ rfl
  exact h

theorem State.canMsg_keeps {o s : State} {c : Nat} {cause : Nat} (h : Keeps o s) :
    Keeps o (State.canMsg s c cause) := by
  unfold State.canMsg
  exact State.intrEvent_keeps h

theorem State.txDone_keeps {o s : State} {c : Nat} {tstat : Nat} {ttag : Nat} {time : Nat} {item : List Byte}
    (h : Keeps o s) :
    Keeps o (State.txDone s c tstat ttag time item) := by
  unfold State.txDone
  extract_lets s1
  have hs1 : Keeps o s1 := by
    unfold s1
    exact Keeps.ite (State.bump_keeps h) h
  clear_value s1
  exact State.tunnel_keeps hs1

theorem State.abortTx_keeps {o s : State} {c : Nat} {z2 : List (Nat × List Byte)} (h : Keeps o s) :
    Keeps o (State.abortTx s c z2) := by
  revert h
  fun_induction State.abortTx s c z2
  · intro k1
    exact k1
  · intro k2
    rename_i v3
    with_reducible apply v3
    exact State.txDone_keeps k2

theorem State.abortQueue_keeps {o s : State} {c : Nat} (h : Keeps o s) : Keeps o (State.abortQueue s c) := by
  unfold State.abortQueue
  extract_lets q1 x2
  exact State.abortTx_keeps (State.setCan_keeps h)

theorem State.canErr_keeps {o s : State} {c : Nat} {tec : Nat} {rec : Nat} (h : Keeps o s) :
    Keeps o (State.canErr s c tec rec) := by
  unfold State.canErr
  extract_lets was1 st2 s3 arg4
  have hs3 : Keeps o s3 := by
    unfold s3
    exact State.setFlds_keeps h
  clear_value s3
  refine Keeps.ite ?_ ?_
  · exact h
  · refine Keeps.ite ?_ ?_
    · exact hs3
    · refine Keeps.ite ?_ ?_
      · exact State.canMsg_keeps (State.abortQueue_keeps (State.bump_keeps (State.report_keeps hs3)))
      · exact Keeps.ite (State.canMsg_keeps (State.report_keeps hs3)) (State.canMsg_keeps hs3)

theorem execCanTx_keeps {o s : State} (h : Keeps o s) : KeepsOut o (execCanTx s) := by
  unfold execCanTx
  refine KeepsOut.next ?_
  with_reducible apply State.onPkt_keeps
  · exact h
  · intro k1 k2 k3
    extract_lets c4 i5 x6 now7
    have hnow7 : ∀ y0, Keeps o (now7 y0) := by
      unfold now7
      intro k8
      exact State.txDone_keeps k3
    clear_value now7
    refine Keeps.ite ?_ ?_
    · with_reducible apply hnow7
    · refine Keeps.ite ?_ ?_
      · with_reducible apply hnow7
      · refine Keeps.ite ?_ ?_
        · with_reducible apply hnow7
        · exact State.setCan_keeps k3

theorem State.canPop_keeps {o s : State} {c : Nat} (h : Keeps o s) : Keeps o (State.canPop s c) := by
  unfold State.canPop
  extract_lets x1
  exact State.setCan_keeps h

theorem execCanTxDone_keeps {o : State} {ctrl : CanId} {ok : Bool} {time : BitVec 64} {tec : BitVec 9} {rec_ : Byte} {s : State}
    (h : Keeps o s) :
    KeepsOut o (execCanTxDone ctrl ok time tec rec_ s) := by
  unfold execCanTxDone
  extract_lets c1
  refine KeepsOut.next ?_
  refine Keeps.ite ?_ ?_
  · exact h
  · split
    · exact h
    · extract_lets s2
      have hs2 : Keeps o s2 := by
        unfold s2
        refine Keeps.ite ?_ ?_
        · exact State.txDone_keeps (State.bump_keeps (State.canPop_keeps h))
        · exact Keeps.ite (State.txDone_keeps (State.canPop_keeps h)) h
      clear_value s2
      exact State.canErr_keeps hs2

theorem execCanTxLifetime_keeps {o : State} {ctrl : CanId} {s : State} (h : Keeps o s) :
    KeepsOut o (execCanTxLifetime ctrl s) := by
  unfold execCanTxLifetime
  extract_lets c1
  refine KeepsOut.next ?_
  refine Keeps.ite ?_ ?_
  · exact h
  · split
    · exact h
    · exact State.txDone_keeps (State.canPop_keeps h)

theorem State.postMotion_keeps {o s : State} {c : Nat} {time : Nat} {vok : Bool} {yok : Bool} (h : Keeps o s) :
    Keeps o (State.postMotion s c time vok yok) := by
  unfold State.postMotion
  extract_lets v1 w2 was3 s4 s5 s6
  have hs4 : Keeps o s4 := by
    unfold s4
    exact State.setFlds_keeps h
  clear_value s4
  have hs5 : Keeps o s5 := by
    unfold s5
    exact Keeps.ite hs4 (State.canMsg_keeps hs4)
  clear_value s5
  have hs6 : Keeps o s6 := by
    unfold s6
    refine Keeps.of_mk ?_ rfl
    exact hs5
  clear_value s6
  refine Keeps.foldl ?_ ?_
  · exact hs6
  · intro k7 k8 k9
    exact State.postCam_keeps k9

theorem State.canTime_keeps {o s : State} {data : List Byte} (h : Keeps o s) : Keeps o (State.canTime s data) := by
  unfold State.canTime
  exact State.tsuState_keeps (State.setFld_keeps (State.setSeconds_keeps h))

theorem State.vehicle_keeps {o s : State} {c : Nat} {time : Nat} {id : Nat} {dlc : Nat} {data : List Byte}
    (h : Keeps o s) :
    Keeps o (State.vehicle s c time id dlc data) := by
  unfold State.vehicle
  extract_lets sa1 x2 bad3
  have hbad3 : Keeps o bad3 := by
    unfold bad3
    exact State.bump_keeps h
  clear_value bad3
  refine Keeps.ite ?_ ?_
  · exact h
  · refine Keeps.ite ?_ ?_
    · split
      · exact hbad3
      · exact State.postMotion_keeps (State.setFld_keeps (State.setCan_keeps h))
    · refine Keeps.ite ?_ ?_
      · split
        · exact hbad3
        · exact State.postMotion_keeps (State.setFld_keeps (State.setCan_keeps h))
      · exact Keeps.ite (Keeps.ite (State.canTime_keeps h) hbad3) h

theorem State.canTunnel_keeps {o s : State} {c : Nat} {item : List Byte} (h : Keeps o s) :
    Keeps o (State.canTunnel s c item) := by
  unfold State.canTunnel
  extract_lets n1 b2 full3 x4 s5 s6 s7
  have hs5 : Keeps o s5 := by
    unfold s5
    refine Keeps.of_mk ?_ rfl
    exact h
  clear_value s5
  have hs6 : Keeps o s6 := by
    unfold s6
    exact State.bump_keeps (State.setCan_keeps hs5)
  clear_value s6
  have hs7 : Keeps o s7 := by
    unfold s7
    exact Keeps.ite (State.intrEvent_keeps hs6) hs6
  clear_value s7
  exact Keeps.ite (State.report_keeps hs7) (State.tunnel_keeps (State.setCan_keeps hs5))

theorem execCanFrameReceive_keeps {o : State} {ctrl : CanId} {time : BitVec 64} {id : Word} {dlc : Fin 16} {flags : BitVec 2} {data : List Byte} {s : State}
    (h : Keeps o s) :
    KeepsOut o (execCanFrameReceive ctrl time id dlc flags data s) := by
  unfold execCanFrameReceive
  extract_lets c1 w2 t3 st4 d5 s6
  have hs6 : Keeps o s6 := by
    unfold s6
    exact State.vehicle_keeps (State.bump_keeps h)
  clear_value s6
  exact KeepsOut.next (Keeps.ite h (Keeps.ite (State.canTunnel_keeps hs6) hs6))

theorem execCanBusError_keeps {o : State} {ctrl : CanId} {tec : BitVec 9} {rec_ : Byte} {s : State} (h : Keeps o s) :
    KeepsOut o (execCanBusError ctrl tec rec_ s) := by
  unfold execCanBusError
  exact KeepsOut.next (Keeps.ite (State.canErr_keeps h) h)

theorem execBusOffRecovery_keeps {o : State} {ctrl : CanId} {s : State} (h : Keeps o s) :
    KeepsOut o (execBusOffRecovery ctrl s) := by
  unfold execBusOffRecovery
  extract_lets c1
  exact KeepsOut.next (Keeps.ite (State.canMsg_keeps (State.setFlds_keeps h)) h)

theorem execCanConfigApply_keeps {o : State} {ctrl : CanId} {s : State} (h : Keeps o s) :
    KeepsOut o (execCanConfigApply ctrl s) := by
  unfold execCanConfigApply
  extract_lets c1 x2 s3 old4
  have hs3 : Keeps o s3 := by
    unfold s3
    exact State.abortQueue_keeps (State.setCan_keeps h)
  clear_value s3
  refine KeepsOut.next ?_
  refine Keeps.ite ?_ ?_
  · exact h
  · split
    · exact h
    · extract_lets st5 s6 s7
      have hs6 : Keeps o s6 := by
        unfold s6
        exact State.setReg_keeps (State.setReg_keeps hs3)
      clear_value s6
      have hs7 : Keeps o s7 := by
        unfold s7
        exact State.setFlds_keeps hs6
      clear_value s7
      exact Keeps.ite hs7 (State.canMsg_keeps hs7)

theorem State.canClear_keeps {o s : State} {c : Nat} (h : Keeps o s) : Keeps o (State.canClear s c) := by
  unfold State.canClear
  exact State.setReg_keeps (State.setReg_keeps (State.setReg_keeps h))

theorem execCanCounterClear_keeps {o : State} {ctrl : CanId} {s : State} (h : Keeps o s) :
    KeepsOut o (execCanCounterClear ctrl s) := by
  unfold execCanCounterClear
  exact KeepsOut.next (Keeps.ite (State.canClear_keeps h) h)

theorem State.i2cbEnd_keeps {o s : State} {code : Nat} {ndone : Nat} (h : Keeps o s) :
    Keeps o (State.i2cbEnd s code ndone) := by
  unfold State.i2cbEnd
  extract_lets s1
  have hs1 : Keeps o s1 := by
    unfold s1
    exact State.setFlds_keeps h
  clear_value s1
  exact Keeps.ite hs1 (State.bump_keeps hs1)

theorem State.busClear_keeps {o s : State} {freed : Bool} (h : Keeps o s) : Keeps o (State.busClear s freed) := by
  unfold State.busClear
  extract_lets x1 s2
  have hs2 : Keeps o s2 := by
    unfold s2
    with_reducible apply State.bump_keeps
    refine Keeps.of_mk ?_ rfl
    exact h
  clear_value s2
  exact Keeps.ite (State.setFld_keeps hs2) (State.report_keeps (State.setFld_keeps hs2))

theorem State.i2cbGo_keeps {o s : State} {low : Bool} {freed : Bool} (h : Keeps o s) :
    Keeps o (State.i2cbGo s low freed) := by
  unfold State.i2cbGo
  extract_lets st1 s2 buf3
  have hs2 : Keeps o s2 := by
    unfold s2
    exact Keeps.ite (State.busClear_keeps h) h
  clear_value s2
  refine Keeps.ite ?_ ?_
  · exact h
  · refine Keeps.ite ?_ ?_
    · exact State.i2cbEnd_keeps h
    · refine Keeps.ite ?_ ?_
      · exact h
      · refine Keeps.ite ?_ ?_
        · exact State.i2cbEnd_keeps h
        · refine Keeps.ite ?_ ?_
          · exact State.i2cbEnd_keeps hs2
          · with_reducible apply State.setFld_keeps
            refine Keeps.of_mk ?_ rfl
            exact hs2

theorem execI2cbGo_keeps {o : State} {low : Bool} {freed : Bool} {s : State} (h : Keeps o s) :
    KeepsOut o (execI2cbGo low freed s) := by
  unfold execI2cbGo
  exact KeepsOut.next (Keeps.ite (State.i2cbGo_keeps h) h)

theorem State.i2cbFill_keeps {o s : State} {data : List Byte} (h : Keeps o s) : Keeps o (State.i2cbFill s data) := by
  unfold State.i2cbFill
  refine Keeps.foldl ?_ ?_
  · exact h
  · intro k1 k2 k3
    extract_lets old4 new5
    exact State.setReg_keeps k3

theorem execI2cbTransactionDone_keeps {o : State} {code : Fin 4} {ndone : BitVec 7} {data : List Byte} {freed : Bool} {s : State}
    (h : Keeps o s) :
    KeepsOut o (execI2cbTransactionDone code ndone data freed s) := by
  unfold execI2cbTransactionDone
  extract_lets s1 n2
  have hs1 : Keeps o s1 := by
    unfold s1
    exact State.setFld_keeps h
  clear_value s1
  refine KeepsOut.next ?_
  refine Keeps.ite ?_ ?_
  · exact h
  · refine Keeps.ite ?_ ?_
    · exact State.i2cbEnd_keeps (State.i2cbFill_keeps hs1)
    · exact Keeps.ite (State.busClear_keeps (State.i2cbEnd_keeps hs1)) (State.i2cbEnd_keeps hs1)

theorem execI2cbTimeout_keeps {o : State} {freed : Bool} {s : State} (h : Keeps o s) :
    KeepsOut o (execI2cbTimeout freed s) := by
  unfold execI2cbTimeout
  extract_lets n1
  refine KeepsOut.next ?_
  exact Keeps.ite h (State.busClear_keeps (State.i2cbEnd_keeps (State.setFld_keeps (State.took_keeps h))))

theorem State.clrStuck_keeps {o s : State} {freed : Bool} (h : Keeps o s) : Keeps o (State.clrStuck s freed) := by
  unfold State.clrStuck
  exact Keeps.ite (State.busClear_keeps h) h

theorem execClrstuck_keeps {o : State} {freed : Bool} {s : State} (h : Keeps o s) :
    KeepsOut o (execClrstuck freed s) := by
  unfold execClrstuck
  exact KeepsOut.next (Keeps.ite (State.clrStuck_keeps h) h)

theorem State.i2cbClear_keeps {o s : State} (h : Keeps o s) : Keeps o (State.i2cbClear s) := by
  unfold State.i2cbClear
  exact State.setReg_keeps h

theorem execI2cbCounterClear_keeps {o s : State} (h : Keeps o s) : KeepsOut o (execI2cbCounterClear s) := by
  unfold execI2cbCounterClear
  exact KeepsOut.next (Keeps.ite (State.i2cbClear_keeps h) h)

theorem State.i2caClear_keeps {o s : State} (h : Keeps o s) : Keeps o (State.i2caClear s) := by
  unfold State.i2caClear
  exact State.setFlds_keeps h

theorem execI2caCounterClear_keeps {o s : State} (h : Keeps o s) : KeepsOut o (execI2caCounterClear s) := by
  unfold execI2caCounterClear
  exact KeepsOut.next (Keeps.ite (State.i2caClear_keeps h) h)

theorem State.clearRegs_keeps {o s : State} {d : Domain} {keep : Nat → Bool} (h : Keeps o s) :
    Keeps o (State.clearRegs s d keep) := by
  unfold State.clearRegs
  refine Keeps.of_mk ?_ rfl
  exact h

theorem State.openWindow0_keeps {o s : State} (h : Keeps o s) : Keeps o (State.openWindow0 s) := by
  unfold State.openWindow0
  exact State.setFlds_keeps h

theorem State.tsuStop_keeps {o s : State} (h : Keeps o s) : Keeps o (State.tsuStop s) := by
  unfold State.tsuStop
  extract_lets x1
  refine Keeps.ite ?_ ?_
  · refine Keeps.of_mk ?_ rfl
    exact h
  · exact h

theorem State.tsuStart_keeps {o s : State} (h : Keeps o s) : Keeps o (State.tsuStart s) := by
  unfold State.tsuStart
  with_reducible apply State.setFlds_keeps
  refine Keeps.of_mk ?_ rfl
  exact h

theorem State.quietPins_keeps {o s : State} (h : Keeps o s) : Keeps o (State.quietPins s) := by
  unfold State.quietPins
  extract_lets x1
  refine Keeps.of_mk ?_ rfl
  exact h

theorem State.clearUplink_keeps {o s : State} (h : Keeps o s) : Keeps o (State.clearUplink s) := by
  unfold State.clearUplink
  extract_lets s1 x2
  have hs1 : Keeps o s1 := by
    unfold s1
    exact State.lkOff_keeps h
  clear_value s1
  have hx2 : Keeps o x2 := by
    unfold x2
    exact State.clearRegs_keeps hs1
  clear_value x2
  refine Keeps.of_mk ?_ rfl
  exact hx2

theorem State.clearBridge_keeps {o s : State} (h : Keeps o s) : Keeps o (State.clearBridge s) := by
  unfold State.clearBridge
  with_reducible apply State.openWindow0_keeps
  refine Keeps.of_mk ?_ rfl
  exact h

theorem State.clearPeer_keeps {o s : State} (h : Keeps o s) : Keeps o (State.clearPeer s) := by
  unfold State.clearPeer
  extract_lets x1
  have hx1 : Keeps o x1 := by
    unfold x1
    exact State.clearRegs_keeps h
  clear_value x1
  refine Keeps.of_mk ?_ rfl
  exact hx1

theorem State.clearCan_keeps {o s : State} {keep : Bool} (h : Keeps o s) : Keeps o (State.clearCan s keep) := by
  unfold State.clearCan
  extract_lets off1 x2 s3
  have hx2 : Keeps o x2 := by
    unfold x2
    exact State.clearRegs_keeps h
  clear_value x2
  have hs3 : Keeps o s3 := by
    unfold s3
    refine Keeps.of_mk ?_ rfl
    exact hx2
  clear_value s3
  exact State.setFlds_keeps hs3

theorem State.clearPixel_keeps {o s : State} {keep : Bool} (h : Keeps o s) : Keeps o (State.clearPixel s keep) := by
  unfold State.clearPixel
  extract_lets cams1 x2
  have hx2 : Keeps o x2 := by
    unfold x2
    exact State.clearRegs_keeps h
  clear_value x2
  refine Keeps.of_mk ?_ rfl
  exact hx2

theorem State.clearLpddr_keeps {o s : State} {keep : Bool} (h : Keeps o s) : Keeps o (State.clearLpddr s keep) := by
  unfold State.clearLpddr
  extract_lets t
  have ht : Keeps o t := State.clearRegs_keeps h
  clear_value t
  refine Keeps.ite ht ?_
  exact Keeps.mem ht rfl (Memory.wf_filter t.mem _) (fun a => decide (a < 0x100000000)) rfl rfl

theorem State.fullOff_keeps {o s : State} {standby : Bool} (h : Keeps o s) : Keeps o (State.fullOff s standby) := by
  unfold State.fullOff
  extract_lets s1 s2 s3 s4
  have hs1 : Keeps o s1 := by
    unfold s1
    exact State.bridgeOff_keeps (State.lkOff_keeps h)
  clear_value s1
  have hs2 : Keeps o s2 := by
    unfold s2
    exact State.closeStages_keeps (State.quietPins_keeps hs1)
  clear_value s2
  have hs3 : Keeps o s3 := by
    unfold s3
    exact State.clearCan_keeps (State.clearPeer_keeps (State.clearUplink_keeps hs2))
  clear_value s3
  have hs4 : Keeps o s4 := by
    unfold s4
    exact State.clearLpddr_keeps (State.clearPixel_keeps hs3)
  clear_value s4
  exact State.keepMem_keeps hs4

theorem State.standbyOff_keeps {o s : State} (h : Keeps o s) : Keeps o (State.standbyOff s) := by
  unfold State.standbyOff
  extract_lets s1 x2 s3 x4 s5
  have hs1 : Keeps o s1 := by
    unfold s1
    exact State.tsuStop_keeps h
  clear_value s1
  have hx2 : Keeps o x2 := by
    unfold x2
    exact State.clearRegs_keeps hs1
  clear_value x2
  have hs3 : Keeps o s3 := by
    unfold s3
    refine Keeps.of_mk ?_ rfl
    exact hx2
  clear_value s3
  have hx4 : Keeps o x4 := by
    unfold x4
    exact State.clearRegs_keeps hs3
  clear_value x4
  have hs5 : Keeps o s5 := by
    unfold s5
    refine Keeps.of_mk ?_ rfl
    exact hx4
  clear_value s5
  exact State.keepMem_keeps hs5

theorem State.loadActive_keeps {o s : State} (h : Keeps o s) : Keeps o (State.loadActive s) := by
  unfold State.loadActive
  extract_lets c1 s2 x3 s4 s5
  have hs2 : Keeps o s2 := by
    unfold s2
    exact State.loadSystem_keeps (State.allocFifos_keeps h)
  clear_value s2
  have hs4 : Keeps o s4 := by
    unfold s4
    refine Keeps.of_mk ?_ rfl
    exact hs2
  clear_value s4
  have hs5 : Keeps o s5 := by
    unfold s5
    refine Keeps.foldl ?_ ?_
    · exact hs4
    · intro k6 k7 k8
      exact State.loadLattice_keeps k8
  clear_value s5
  refine Keeps.foldl ?_ ?_
  · exact hs5
  · intro k9 k10 k11
    exact State.loadPortSet_keeps k11

theorem State.fullOn_keeps {o s : State} (h : Keeps o s) : Keeps o (State.fullOn s) := by
  unfold State.fullOn
  extract_lets st1 s2 s3 s4
  have hs2 : Keeps o s2 := by
    unfold s2
    exact State.setFlds_keeps h
  clear_value s2
  have hs3 : Keeps o s3 := by
    unfold s3
    refine Keeps.foldl ?_ ?_
    · exact hs2
    · intro k5 k6 k7
      exact Keeps.ite (State.setSstate_keeps k7) k7
  clear_value s3
  have hs4 : Keeps o s4 := by
    unfold s4
    exact Keeps.ite hs3 (State.loadActive_keeps hs3)
  clear_value s4
  exact State.lkOn_keeps hs4

theorem State.changeMode_keeps {o s : State} {m : Mode} {cause : Nat} (h : Keeps o s) :
    Keeps o (State.changeMode s m cause) := by
  unfold State.changeMode
  extract_lets was1 s2 s3 s4 s5 s6
  have hs2 : Keeps o s2 := by
    unfold s2
    exact Keeps.ite (State.fullOff_keeps h) (Keeps.ite (State.clearLpddr_keeps (State.clearPixel_keeps h)) h)
  clear_value s2
  have hs3 : Keeps o s3 := by
    unfold s3
    exact Keeps.ite (State.standbyOff_keeps hs2) hs2
  clear_value s3
  have hs4 : Keeps o s4 := by
    unfold s4
    exact Keeps.ite (State.quietPins_keeps hs3) hs3
  clear_value s4
  have hs5 : Keeps o s5 := by
    unfold s5
    exact Keeps.ite (State.keepMem_keeps hs4) hs4
  clear_value s5
  have hs6 : Keeps o s6 := by
    unfold s6
    exact State.setMode_keeps hs5
  clear_value s6
  exact Keeps.ite (State.fullOn_keeps hs6) hs6

theorem State.resetAll_keeps {o s : State} {keep : Nat → Bool} (h : Keeps o s) : Keeps o (State.resetAll s keep) := by
  unfold State.resetAll
  extract_lets t y
  have ht : Keeps o t := State.tsuStop_keeps h
  exact Keeps.mem ht rfl (Memory.wf_filter t.mem _) keep rfl rfl

theorem State.exitBeat_keeps {o s : State} (h : Keeps o s) : Keeps o (State.exitBeat s) := by
  unfold State.exitBeat
  exact Keeps.ite h (State.sendBeat_keeps h)

theorem State.enterBoot_keeps {o s : State} {cause : Nat} {resample : Bool} (h : Keeps o s) :
    Keeps o (State.enterBoot s cause resample) := by
  unfold State.enterBoot
  extract_lets s1 x2 x3 s4 s5
  have hs1 : Keeps o s1 := by
    unfold s1
    exact State.resetAll_keeps (State.exitBeat_keeps h)
  clear_value s1
  have hs4 : Keeps o s4 := by
    unfold s4
    refine Keeps.of_mk ?_ rfl
    exact hs1
  clear_value s4
  have hs5 : Keeps o s5 := by
    unfold s5
    exact State.setFlds_keeps hs4
  clear_value s5
  exact State.driveFaultN_keeps (State.setMode_keeps hs5)

theorem State.abandonTrans_keeps {o s : State} (h : Keeps o s) : Keeps o (State.abandonTrans s) := by
  unfold State.abandonTrans
  extract_lets x1 s2
  have hs2 : Keeps o s2 := by
    unfold s2
    refine Keeps.of_mk ?_ rfl
    exact h
  clear_value s2
  exact State.failTrans_keeps hs2

theorem State.endRuns_keeps {o s : State} {m : Mode} (h : Keeps o s) : Keeps o (State.endRuns s m) := by
  unfold State.endRuns
  extract_lets s1 all2
  have hs1 : Keeps o s1 := by
    unfold s1
    exact State.flipExit_keeps h
  clear_value s1
  exact State.abortRuns_keeps hs1

theorem State.cpxRestart_keeps {o s : State} (h : Keeps o s) : Keeps o (State.cpxRestart s) := by
  unfold State.cpxRestart
  extract_lets a1 b2 run3 pairA4 pairB5 x6 x7
  refine Keeps.of_mk ?_ rfl
  exact h

theorem State.enterSafe_keeps {o s : State} {cause : Nat} (h : Keeps o s) : Keeps o (State.enterSafe s cause) := by
  unfold State.enterSafe
  extract_lets s1 s2 boot3 s4 x5 s6 s7 s8
  have hs1 : Keeps o s1 := by
    unfold s1
    exact State.abandonTrans_keeps h
  clear_value s1
  have hs2 : Keeps o s2 := by
    unfold s2
    exact State.dmaHalt_keeps (State.exitBeat_keeps (State.endRuns_keeps hs1))
  clear_value s2
  have hs4 : Keeps o s4 := by
    unfold s4
    exact State.openWindow0_keeps (State.changeMode_keeps hs2)
  clear_value s4
  have hs6 : Keeps o s6 := by
    unfold s6
    refine Keeps.of_mk ?_ rfl
    exact hs4
  clear_value s6
  have hs7 : Keeps o s7 := by
    unfold s7
    exact Keeps.ite hs6 (State.tsuStart_keeps hs6)
  clear_value s7
  have hs8 : Keeps o s8 := by
    unfold s8
    exact Keeps.ite (State.driveFaultN_keeps (State.setFld_keeps hs7)) hs7
  clear_value s8
  exact Keeps.ite h (Keeps.ite hs1 (State.report_keeps hs8))

theorem State.keeperSafe_keeps {o s : State} {cause : Nat} (h : Keeps o s) : Keeps o (State.keeperSafe s cause) := by
  unfold State.keeperSafe
  extract_lets old1 s2
  have hs2 : Keeps o s2 := by
    unfold s2
    exact State.enterSafe_keeps h
  clear_value s2
  exact Keeps.ite (State.cpxRestart_keeps hs2) hs2

theorem State.raiseF_keeps {o s : State} {code : Nat} {inst : Nat} {arg : Nat} (h : Keeps o s) :
    Keeps o (State.raiseF s code inst arg) := by
  unfold State.raiseF
  exact State.enterSafe_keeps (State.report_keeps h)

theorem execPwrgoodRising_keeps {o s : State} (h : Keeps o s) : KeepsOut o (execPwrgoodRising s) := by
  unfold execPwrgoodRising
  extract_lets x1
  refine KeepsOut.next ?_
  refine Keeps.ite ?_ ?_
  · with_reducible apply State.enterBoot_keeps
    refine Keeps.of_mk ?_ rfl
    exact h
  · exact h

theorem execPwrgoodFalling_keeps {o s : State} (h : Keeps o s) : KeepsOut o (execPwrgoodFalling s) := by
  unfold execPwrgoodFalling
  extract_lets s1 x2 s3
  have hs1 : Keeps o s1 := by
    unfold s1
    exact State.resetAll_keeps h
  clear_value s1
  have hs3 : Keeps o s3 := by
    unfold s3
    refine Keeps.of_mk ?_ rfl
    exact hs1
  clear_value s3
  exact KeepsOut.next (Keeps.ite (State.driveFaultN_keeps (State.setFlds_keeps hs3)) h)

theorem execResetNAssert_keeps {o s : State} (h : Keeps o s) : KeepsOut o (execResetNAssert s) := by
  unfold execResetNAssert
  extract_lets s1 x2
  have hs1 : Keeps o s1 := by
    unfold s1
    exact State.enterBoot_keeps h
  clear_value s1
  refine KeepsOut.next ?_
  refine Keeps.ite ?_ ?_
  · refine Keeps.of_mk ?_ rfl
    exact hs1
  · exact h

theorem execResetNRelease_keeps {o s : State} (h : Keeps o s) : KeepsOut o (execResetNRelease s) := by
  unfold execResetNRelease
  extract_lets x1
  refine KeepsOut.next ?_
  refine Keeps.of_mk ?_ rfl
  exact h

theorem execKeeperPowerUp_keeps {o s : State} (h : Keeps o s) : KeepsOut o (execKeeperPowerUp s) := by
  unfold execKeeperPowerUp
  exact KeepsOut.next (Keeps.ite h (Keeps.fresh h rfl rfl rfl rfl))

theorem execKeeperPowerLoss_keeps {o s : State} (h : Keeps o s) : KeepsOut o (execKeeperPowerLoss s) := by
  exact KeepsOut.next (Keeps.fresh h rfl rfl rfl rfl)

theorem State.romStart_keeps {o s : State} (h : Keeps o s) : Keeps o (State.romStart s) := by
  unfold State.romStart
  extract_lets x1 s2
  have hs2 : Keeps o s2 := by
    unfold s2
    refine Keeps.of_mk ?_ rfl
    exact h
  exact Keeps.ite (State.enterSafe_keeps hs2) hs2

theorem State.clocksStart_keeps {o s : State} (h : Keeps o s) : Keeps o (State.clocksStart s) := by
  unfold State.clocksStart
  extract_lets x1 s2 s3
  have hs2 : Keeps o s2 := by
    unfold s2
    refine Keeps.of_mk ?_ rfl
    exact h
  clear_value s2
  have hs3 : Keeps o s3 := by
    unfold s3
    exact State.tsuStart_keeps (State.setFlds_keeps hs2)
  clear_value s3
  exact Keeps.ite hs3 (State.romStart_keeps hs3)

theorem execRootPllLock_keeps {o s : State} (h : Keeps o s) : KeepsOut o (execRootPllLock s) := by
  unfold execRootPllLock
  exact KeepsOut.next (Keeps.ite (State.clocksStart_keeps h) h)

theorem State.railShown_keeps {o s : State} {r : Nat} (h : Keeps o s) : Keeps o (State.railShown s r) := by
  unfold State.railShown
  extract_lets v1 lo2
  exact State.setFld_keeps (State.took_keeps h)

theorem State.railsShown_keeps {o s : State} (h : Keeps o s) : Keeps o (State.railsShown s) := by
  unfold State.railsShown
  extract_lets good1
  refine Keeps.foldl ?_ ?_
  · exact State.setFld_keeps h
  · intro k2 k3 k4
    exact State.railShown_keeps k4

theorem execStrapSampling_keeps {o : State} {bootUp : BitVec 2} {bootDn : BitVec 2} {pairUp : Bool} {pairDn : Bool} {twaUp : BitVec 2} {twaDn : BitVec 2} {s : State}
    (h : Keeps o s) :
    KeepsOut o (execStrapSampling bootUp bootDn pairUp pairDn twaUp twaDn s) := by
  unfold execStrapSampling
  extract_lets b1 p2 t3 w4 s5 s6 fault7
  have hs5 : Keeps o s5 := by
    unfold s5
    exact State.setReg_keeps h
  clear_value s5
  have hs6 : Keeps o s6 := by
    unfold s6
    exact State.railsShown_keeps hs5
  clear_value s6
  have hfault7 : ∀ y0 y1, Keeps o y0 → Keeps o (fault7 y0 y1) := by
    unfold fault7
    intro k8 k9 k10
    exact Keeps.ite (State.report_keeps k10) k10
  clear_value fault7
  refine KeepsOut.next ?_
  refine Keeps.ite ?_ ?_
  · exact h
  · with_reducible apply State.romStart_keeps
    with_reducible apply hfault7
    with_reducible apply hfault7
    with_reducible apply hfault7
    exact hs6

theorem State.pokeLong_keeps {o s : State} {a : Nat} {l : List Byte} (h : Keeps o s) :
    Keeps o (State.pokeLong s a l) := by
  unfold State.pokeLong
  refine Keeps.foldl ?_ ?_
  · exact h
  · intro k1 k2 k3
    exact State.poke_keeps k3

theorem State.eepromRead_keeps {o s : State} {freed : Bool} (h : Keeps o s) : Keeps o (State.eepromRead s freed) := by
  unfold State.eepromRead
  extract_lets v1 s2 s3
  have hs2 : Keeps o s2 := by
    unfold s2
    exact State.setFlds_keeps (State.took_keeps h)
  clear_value s2
  have hs3 : Keeps o s3 := by
    unfold s3
    refine Keeps.foldl ?_ ?_
    · exact hs2
    · intro k4 k5 k6
      exact State.setReg_keeps (State.took_keeps k6)
  clear_value s3
  exact State.i2cbGo_keeps hs3

theorem State.sirfiqua_keeps {o s : State} {slot : Nat} {img : List Byte} {pair : Nat} {busFreed : Bool}
    (h : Keeps o s) :
    Keeps o (State.sirfiqua s slot img pair busFreed) := by
  unfold State.sirfiqua
  extract_lets im1 set2 prog3 y4 held5 s6 s7
  have hs6 : Keeps o s6 := by
    unfold s6
    refine Keeps.of_mk ?_ rfl
    exact h
  clear_value s6
  have hs7 : Keeps o s7 := by
    unfold s7
    exact State.pokeLong_keeps hs6
  clear_value s7
  exact State.eepromRead_keeps (State.setFld_keeps hs7)

theorem State.copyParts_keeps {o s : State} (h : Keeps o s) : Keeps o (State.copyParts s) := by
  unfold State.copyParts
  split
  · refine Keeps.foldl ?_ ?_
    · exact h
    · intro k1 k2 k3
      exact State.pokeLong_keeps k3
  · exact h

theorem State.lockstepCheck_keeps {o s : State} {ok : Bool} {go : State → Nat → State}
    (h : Keeps o s) (hgo : ∀ (y0 : State) (y1 : Nat), Keeps o y0 → Keeps o (go y0 y1)) :
    Keeps o (State.lockstepCheck s ok go) := by
  unfold State.lockstepCheck
  extract_lets s1 x2 s3 x4
  have hs1 : Keeps o s1 := by
    unfold s1
    exact State.report_keeps (State.setFld_keeps h)
  clear_value s1
  have hs3 : Keeps o s3 := by
    unfold s3
    exact State.report_keeps (State.setFld_keeps h)
  clear_value s3
  refine Keeps.ite ?_ ?_
  · refine Keeps.ite ?_ ?_
    · with_reducible apply hgo
      exact h
    · refine Keeps.of_mk ?_ rfl
      exact hs1
  · refine Keeps.ite ?_ ?_
    · with_reducible apply hgo
      exact h
    · refine Keeps.of_mk ?_ rfl
      exact hs3

theorem execBootImageLoaded_keeps {o : State} {slotB : Bool} {octal : Bool} {image : List Byte} {selfTest : Fin 4} {lockstepOk : Bool} {busFreed : Bool} {s : State}
    (h : Keeps o s) :
    KeepsOut o (execBootImageLoaded slotB octal image selfTest lockstepOk s busFreed) := by
  unfold execBootImageLoaded
  extract_lets slot1 x2 h3 header4 asks5 slow6 s7 x8 s9 x10 s11
  have hs7 : Keeps o s7 := by
    unfold s7
    exact State.pokeLong_keeps h
  clear_value s7
  have hs9 : Keeps o s9 := by
    unfold s9
    refine Keeps.ite ?_ ?_
    · with_reducible apply State.report_keeps
      refine Keeps.of_mk ?_ rfl
      exact hs7
    · exact hs7
  clear_value s9
  have hs11 : Keeps o s11 := by
    unfold s11
    with_reducible apply State.report_keeps
    refine Keeps.of_mk ?_ rfl
    exact hs9
  clear_value s11
  refine KeepsOut.next ?_
  refine Keeps.ite ?_ ?_
  · exact h
  · refine Keeps.ite ?_ ?_
    · with_reducible apply State.raiseF_keeps
      refine Keeps.of_mk ?_ rfl
      exact h
    · refine Keeps.ite ?_ ?_
      · exact Keeps.ite (State.enterSafe_keeps hs11) hs11
      · with_reducible apply State.lockstepCheck_keeps
        · exact hs9
        · intro k12 k13 k14
          extract_lets s15
          have hs15 : Keeps o s15 := by
            unfold s15
            exact State.setFlds_keeps k14
          clear_value s15
          exact State.sirfiqua_keeps hs15

theorem execBootEnd_keeps {o s : State} (h : Keeps o s) : KeepsOut o (execBootEnd s) := by
  unfold execBootEnd
  extract_lets x1 s2
  have hs2 : Keeps o s2 := by
    unfold s2
    with_reducible apply State.openWindow0_keeps
    refine Keeps.of_mk ?_ rfl
    exact h
  clear_value s2
  refine KeepsOut.next ?_
  exact Keeps.ite (State.driveFaultN_keeps (State.setFld_keeps (State.copyParts_keeps (State.changeMode_keeps hs2)))) h

theorem execBootWatchdogExpiry_keeps {o s : State} (h : Keeps o s) : KeepsOut o (execBootWatchdogExpiry s) := by
  unfold execBootWatchdogExpiry
  exact KeepsOut.next (Keeps.ite (State.enterSafe_keeps h) h)

theorem State.stopStreams_keeps {o s : State} (h : Keeps o s) : Keeps o (State.stopStreams s) := by
  unfold State.stopStreams
  extract_lets gen1 x2 s3 s4
  have hs3 : Keeps o s3 := by
    unfold s3
    refine Keeps.foldl ?_ ?_
    · exact h
    · intro k5 k6 k7
      exact State.closeStream_keeps k7
  clear_value s3
  have hs4 : Keeps o s4 := by
    unfold s4
    refine Keeps.of_mk ?_ rfl
    exact hs3
  clear_value s4
  refine Keeps.foldl ?_ ?_
  · exact hs4
  · intro k8 k9 k10
    extract_lets s11
    have hs11 : Keeps o s11 := by
      unfold s11
      exact Keeps.ite (State.setPstate_keeps k10) k10
    clear_value s11
    exact Keeps.ite (State.release_keeps (State.dropMove_keeps hs11)) hs11

theorem State.startWake_keeps {o s : State} {cause : Nat} (h : Keeps o s) : Keeps o (State.startWake s cause) := by
  unfold State.startWake
  extract_lets x1 x2 s3
  have hs3 : Keeps o s3 := by
    unfold s3
    refine Keeps.of_mk ?_ rfl
    exact h
  clear_value s3
  exact State.setFlds_keeps (State.openWindow0_keeps (State.tsuStart_keeps hs3))

theorem State.wakeUp_keeps {o s : State} {cause : Nat} (h : Keeps o s) : Keeps o (State.wakeUp s cause) := by
  unfold State.wakeUp
  refine Keeps.ite ?_ ?_
  · exact h
  · split
    · exact Keeps.ite (State.startWake_keeps h) h
    · extract_lets x1
      refine Keeps.ite ?_ ?_
      · refine Keeps.of_mk ?_ rfl
        exact h
      · exact h

theorem State.standbyDone_keeps {o s : State} {t : Trans} (h : Keeps o s) : Keeps o (State.standbyDone s t) := by
  unfold State.standbyDone
  extract_lets w1 s2 s3 wake4 x5 s6 s7
  have hs2 : Keeps o s2 := by
    unfold s2
    split
    · exact State.finish_keeps h
    · exact h
  clear_value s2
  have hs3 : Keeps o s3 := by
    unfold s3
    exact State.dmaAbortAll_keeps (State.endRuns_keeps (State.stopStreams_keeps hs2))
  clear_value s3
  have hs6 : Keeps o s6 := by
    unfold s6
    refine Keeps.of_mk ?_ rfl
    exact hs3
  clear_value s6
  have hs7 : Keeps o s7 := by
    unfold s7
    exact State.setFld_keeps (State.changeMode_keeps hs6)
  clear_value s7
  clear_value wake4
  split
  · exact State.startWake_keeps hs7
  · exact hs7

theorem State.transDone_keeps {o s : State} {t : Trans} (h : Keeps o s) : Keeps o (State.transDone s t) := by
  unfold State.transDone
  extract_lets x1 s2 s3
  have hs2 : Keeps o s2 := by
    unfold s2
    refine Keeps.of_mk ?_ rfl
    exact h
  clear_value s2
  have hs3 : Keeps o s3 := by
    unfold s3
    exact State.changeMode_keeps hs2
  clear_value s3
  split
  · exact State.finish_keeps hs3
  · exact hs3

theorem execModeTransitionComplete_keeps {o s : State} (h : Keeps o s) :
    KeepsOut o (execModeTransitionComplete s) := by
  unfold execModeTransitionComplete
  refine KeepsOut.next ?_
  split
  · exact h
  · split
    · exact State.enterBoot_keeps h
    · exact Keeps.ite (State.endTrans_keeps h) h
    · refine Keeps.ite ?_ ?_
      · exact State.transDone_keeps h
      · exact Keeps.ite h (State.transDone_keeps (State.endRuns_keeps (State.stopStreams_keeps h)))
    · exact Keeps.ite h (State.standbyDone_keeps h)
    · extract_lets s1
      have hs1 : Keeps o s1 := by
        unfold s1
        exact State.transDone_keeps (State.dmaAbortAll_keeps (State.endRuns_keeps (State.stopStreams_keeps h)))
      clear_value s1
      exact Keeps.ite h (State.report_keeps hs1)
    · exact State.transDone_keeps (State.zeroise_keeps h)
    · exact h
    · exact h

theorem State.beginTrans_keeps {o s : State} {r : Req} {target : Mode} (h : Keeps o s) :
    Keeps o (State.beginTrans s r target) := by
  unfold State.beginTrans
  extract_lets x1 s2
  have hs2 : Keeps o s2 := by
    unfold s2
    refine Keeps.of_mk ?_ rfl
    exact h
  clear_value s2
  exact State.interim_keeps (State.setFld_keeps hs2)

theorem State.handAll_keeps {o s : State} {purpose : Nat} (h : Keeps o s) : Keeps o (State.handAll s purpose) := by
  unfold State.handAll
  extract_lets x1 s2 mine3
  have hs2 : Keeps o s2 := by
    unfold s2
    exact State.setPrState_keeps (State.setPair_keeps h)
  clear_value s2
  with_reducible apply State.handoversDone_keeps
  refine Keeps.foldl ?_ ?_
  · exact hs2
  · intro k4 k5 k6
    exact State.giveCamera_keeps k6

theorem State.askMode_keeps {o s : State} {r : Req} (h : Keeps o s) : Keeps o (State.askMode s r) := by
  unfold State.askMode
  extract_lets code1 target2 x3 s4 left5 s6 s7 s8
  have hs4 : Keeps o s4 := by
    unfold s4
    with_reducible apply State.setFld_keeps
    refine Keeps.of_mk ?_ rfl
    exact h
  clear_value s4
  have hs6 : Keeps o s6 := by
    unfold s6
    exact State.beginTrans_keeps h
  clear_value s6
  have hs7 : Keeps o s7 := by
    unfold s7
    exact State.leavePair_keeps hs6
  clear_value s7
  have hs8 : Keeps o s8 := by
    unfold s8
    exact State.beginTrans_keeps h
  clear_value s8
  refine Keeps.ite ?_ ?_
  · exact State.refuse_keeps h
  · refine Keeps.ite ?_ ?_
    · exact State.refuse_keeps h
    · refine Keeps.ite ?_ ?_
      · exact State.refuse_keeps h
      · refine Keeps.ite ?_ ?_
        · exact State.done_keeps h
        · refine Keeps.ite ?_ ?_
          · exact State.refuse_keeps h
          · clear_value target2
            split
            · exact Keeps.ite (State.beginTrans_keeps hs4) (State.refuse_keeps h)
            · refine Keeps.ite ?_ ?_
              · exact Keeps.ite (State.refuse_keeps h) (State.beginTrans_keeps h)
              · refine Keeps.ite ?_ ?_
                · split
                  · exact State.endTrans_keeps hs7
                  · exact hs7
                · exact State.handAll_keeps hs6
            · exact Keeps.ite (State.handAll_keeps hs8) (Keeps.ite (State.leavePair_keeps hs8) hs8)
            · refine Keeps.ite ?_ ?_
              · exact State.refuse_keeps h
              · exact Keeps.ite (State.refuse_keeps h) (State.startJoin_keeps (State.interim_keeps h))
            · exact State.beginTrans_keeps h

theorem execWakePendClear_keeps {o s : State} (h : Keeps o s) : KeepsOut o (execWakePendClear s) := by
  unfold execWakePendClear
  exact KeepsOut.next (Keeps.ite (State.setFld_keeps h) h)

theorem execCanWakeDetect_keeps {o : State} {ctrl : CanId} {id : Word} {dlc : Fin 16} {data : List Byte} {s : State}
    (h : Keeps o s) :
    KeepsOut o (execCanWakeDetect ctrl id dlc data s) := by
  unfold execCanWakeDetect
  extract_lets c1
  exact KeepsOut.next (Keeps.ite (State.wakeUp_keeps h) h)

theorem State.safeAsked_keeps {o s : State} (h : Keeps o s) : Keeps o (State.safeAsked s) := by
  unfold State.safeAsked
  exact Keeps.ite (State.keeperSafe_keeps h) h

theorem execKprSafeNRequest_keeps {o s : State} (h : Keeps o s) : KeepsOut o (execKprSafeNRequest s) := by
  unfold execKprSafeNRequest
  exact KeepsOut.next (State.safeAsked_keeps h)

theorem State.tapPrivate_keeps {o s : State} {arg : Nat} (h : Keeps o s) : Keeps o (State.tapPrivate s arg) := by
  unfold State.tapPrivate
  extract_lets s1 s2
  have hs1 : Keeps o s1 := by
    unfold s1
    exact State.zeroise_keeps h
  clear_value s1
  have hs2 : Keeps o s2 := by
    unfold s2
    exact Keeps.ite (State.failTrans_keeps hs1) hs1
  clear_value s2
  exact Keeps.ite hs2 (State.safeAsked_keeps hs2)

theorem State.takePins_keeps {o s : State} (h : Keeps o s) : Keeps o (State.takePins s) := by
  unfold State.takePins
  extract_lets x1 s2 s3
  have hs2 : Keeps o s2 := by
    unfold s2
    refine Keeps.of_mk ?_ rfl
    exact h
  clear_value s2
  have hs3 : Keeps o s3 := by
    unfold s3
    exact State.lkOff_keeps (State.lkOff_keeps hs2)
  clear_value s3
  with_reducible apply State.safeAsked_keeps
  refine Keeps.foldl ?_ ?_
  · exact hs3
  · intro k4 k5 k6
    exact State.lkOff_keeps k6

theorem execTapInstructionUpdate_keeps {o : State} {tap : Tap} {scan : Option (List Bool × List Bool)} {s : State}
    (h : Keeps o s) :
    KeepsOut o (execTapInstructionUpdate tap s scan) := by
  unfold execTapInstructionUpdate
  extract_lets s1 x2 s3
  have hs1 : Keeps o s1 := by
    unfold s1
    split
    · exact State.scan_keeps h
    · exact h
  clear_value s1
  have hs3 : Keeps o s3 := by
    unfold s3
    refine Keeps.of_mk ?_ rfl
    exact hs1
  clear_value s3
  refine KeepsOut.next ?_
  refine Keeps.ite ?_ ?_
  · exact h
  · split
    · exact State.takePins_keeps hs3
    · exact State.takePins_keeps hs3
    · exact State.takePins_keeps hs3
    · exact State.takePins_keeps hs3
    · exact State.takePins_keeps hs3
    · exact State.tapPrivate_keeps hs3
    · exact State.tapPrivate_keeps hs3
    · exact hs3
    · exact hs3
    · exact hs3

theorem execRootPllUnlock_keeps {o s : State} (h : Keeps o s) : KeepsOut o (execRootPllUnlock s) := by
  unfold execRootPllUnlock
  extract_lets image1 y2 was3 s4 x5 s6 s7 s8
  have hs4 : Keeps o s4 := by
    unfold s4
    exact State.resetAll_keeps (State.report_keeps h)
  clear_value s4
  have hs6 : Keeps o s6 := by
    unfold s6
    refine Keeps.of_mk ?_ rfl
    exact hs4
  clear_value s6
  have hs7 : Keeps o s7 := by
    unfold s7
    exact State.setFld_keeps hs6
  clear_value s7
  have hs8 : Keeps o s8 := by
    unfold s8
    exact State.bump_keeps hs7
  clear_value s8
  exact KeepsOut.next (Keeps.ite (Keeps.ite hs8 (State.report_keeps (State.setMode_keeps hs8))) h)

theorem execPllLockRetry_keeps {o : State} {locked : Bool} {s : State} (h : Keeps o s) :
    KeepsOut o (execPllLockRetry locked s) := by
  unfold execPllLockRetry
  extract_lets x1 s2
  have hs2 : Keeps o s2 := by
    unfold s2
    refine Keeps.of_mk ?_ rfl
    exact h
  clear_value s2
  refine KeepsOut.next ?_
  refine Keeps.ite ?_ ?_
  · refine Keeps.ite ?_ ?_
    · exact State.cpxRestart_keeps (State.openWindow0_keeps (State.tsuStart_keeps (State.setFlds_keeps hs2)))
    · exact h
  · refine Keeps.ite ?_ ?_
    · refine Keeps.ite ?_ ?_
      · exact State.clocksStart_keeps h
      · exact Keeps.ite (State.report_keeps (State.bump_keeps (State.setFld_keeps h))) h
    · exact h

theorem execSecSelfTestFail_keeps {o : State} {test : Fin 4} {s : State} (h : Keeps o s) :
    KeepsOut o (execSecSelfTestFail test s) := by
  unfold execSecSelfTestFail
  extract_lets x1
  refine KeepsOut.next ?_
  refine Keeps.ite ?_ ?_
  · with_reducible apply State.raiseF_keeps
    with_reducible apply State.setFld_keeps
    refine Keeps.of_mk ?_ rfl
    exact h
  · exact h

theorem execSupplyFault_keeps {o : State} {rail : Fin 8} {mv : BitVec 16} {s : State} (h : Keeps o s) :
    KeepsOut o (execSupplyFault rail mv s) := by
  unfold execSupplyFault
  extract_lets r1 x2 s3 s4
  have hs3 : Keeps o s3 := by
    unfold s3
    refine Keeps.of_mk ?_ rfl
    exact h
  clear_value s3
  have hs4 : Keeps o s4 := by
    unfold s4
    exact State.setFlds_keeps hs3
  clear_value s4
  exact KeepsOut.next (Keeps.ite h (State.raiseF_keeps hs4))

theorem execRailBackInWindow_keeps {o : State} {rail : Fin 8} {mv : BitVec 16} {s : State} (h : Keeps o s) :
    KeepsOut o (execRailBackInWindow rail mv s) := by
  unfold execRailBackInWindow
  extract_lets r1 x2 s3
  have hs3 : Keeps o s3 := by
    unfold s3
    refine Keeps.of_mk ?_ rfl
    exact h
  clear_value s3
  exact KeepsOut.next (Keeps.ite (State.setFlds_keeps hs3) h)

theorem State.showTmax_keeps {o s : State} (h : Keeps o s) : Keeps o (State.showTmax s) := by
  unfold State.showTmax
  split
  · extract_lets hot1 cool2 x3
    with_reducible apply State.setFlds_keeps
    refine Keeps.of_mk ?_ rfl
    exact h
  · exact h

theorem execThermalConversion_keeps {o : State} {sensor : Fin 30} {reading : Option (BitVec 12)} {s : State}
    (h : Keeps o s) :
    KeepsOut o (execThermalConversion sensor reading s) := by
  unfold execThermalConversion
  extract_lets n1 x2 k3 s4
  have hs4 : Keeps o s4 := by
    unfold s4
    refine Keeps.of_mk ?_ rfl
    exact h
  clear_value s4
  refine KeepsOut.next ?_
  refine Keeps.ite ?_ ?_
  · exact h
  · split
    · extract_lets s5
      have hs5 : Keeps o s5 := by
        unfold s5
        refine Keeps.of_mk ?_ rfl
        exact h
      clear_value s5
      exact State.showTmax_keeps (State.setFlds_keeps hs5)
    · exact State.showTmax_keeps (Keeps.ite (State.setFld_keeps hs4) hs4)

theorem State.throttleStep_keeps {o s : State} {k : Nat} (h : Keeps o s) : Keeps o (State.throttleStep s k) := by
  unfold State.throttleStep
  exact State.throttle_keeps (State.report_keeps (State.setFld_keeps h))

theorem execThrottleStepUp_keeps {o s : State} (h : Keeps o s) : KeepsOut o (execThrottleStepUp s) := by
  unfold execThrottleStepUp
  extract_lets k1
  exact KeepsOut.next (Keeps.ite (State.throttleStep_keeps (State.bump_keeps h)) h)

theorem execThrottleStepDown_keeps {o s : State} (h : Keeps o s) : KeepsOut o (execThrottleStepDown s) := by
  unfold execThrottleStepDown
  extract_lets k1
  exact KeepsOut.next (Keeps.ite (State.throttleStep_keeps h) h)

theorem execCriticalTemperature_keeps {o : State} {sensor : Fin 30} {s : State} (h : Keeps o s) :
    KeepsOut o (execCriticalTemperature sensor s) := by
  unfold execCriticalTemperature
  refine KeepsOut.next ?_
  split
  · exact Keeps.ite (State.enterSafe_keeps (State.report_keeps h)) h
  · exact h

theorem State.doorbell_keeps {o s : State} {ch : Nat} {v : Nat} {i2c : Bool} (h : Keeps o s) :
    Keeps o (State.doorbell s ch v i2c) := by
  unfold State.doorbell
  extract_lets st1 cci2 cpi3 s4 more5 old6 x7
  have hs4 : Keeps o s4 := by
    unfold s4
    exact State.setFld_keeps h
  clear_value s4
  refine Keeps.ite ?_ ?_
  · exact h
  · refine Keeps.ite ?_ ?_
    · exact State.chError_keeps h
    · refine Keeps.of_mk ?_ rfl
      exact hs4

theorem State.consumeResponses_keeps {o s : State} {ch : Nat} {v : Nat} (h : Keeps o s) :
    Keeps o (State.consumeResponses s ch v) := by
  unfold State.consumeResponses
  exact Keeps.ite h (Keeps.ite (State.chError_keeps h) (State.chState_keeps (State.setFld_keeps h)))

theorem State.chReset_keeps {o s : State} {ch : Nat} (h : Keeps o s) : Keeps o (State.chReset s ch) := by
  unfold State.chReset
  extract_lets mute1 m2 s3 held4 s5
  have hs3 : Keeps o s3 := by
    unfold s3
    refine Keeps.of_mk ?_ rfl
    exact h
  clear_value s3
  have hs5 : Keeps o s5 := by
    unfold s5
    refine Keeps.foldl ?_ ?_
    · exact hs3
    · intro k6 k7 k8
      exact State.closeStage_keeps k8
  clear_value s5
  exact Keeps.ite h (State.setFld_keeps (State.setFld_keeps hs5))

theorem State.freeBytes_keeps {o s : State} {n : Nat} (h : Keeps o s) : Keeps o (State.freeBytes s n).2 := by
  unfold State.freeBytes
  dsimp -zeta only
  refine Keeps.of_mk ?_ rfl
  exact h

theorem State.chResetDone_keeps {o s : State} {ch : Nat} (h : Keeps o s) : Keeps o (State.chResetDone s ch) := by
  unfold State.chResetDone
  extract_lets s1
  have hs1 : Keeps o s1 := by
    unfold s1
    exact State.setFlds_keeps h
  clear_value s1
  refine Keeps.ite ?_ ?_
  · exact h
  · have hd2 : Keeps o (s1.freeBytes 65536).2 := by
      exact State.freeBytes_keeps hs1
    generalize (s1.freeBytes 65536) = d2 at hd2 ⊢
    rcases d2 with ⟨d3a, d3b⟩
    dsimp -zeta only at *
    extract_lets s4 x5 s6
    have hs4 : Keeps o s4 := by
      unfold s4
      exact Keeps.ite (State.poke_keeps hd2) hd2
    clear_value s4
    have hs6 : Keeps o s6 := by
      unfold s6
      refine Keeps.of_mk ?_ rfl
      exact hs4
    clear_value s6
    exact State.mbxIntr_keeps hs6

theorem execDoorbell_keeps {o : State} {ch : Chan} {v : BitVec 16} {byI2c : Bool} {s : State} (h : Keeps o s) :
    KeepsOut o (execDoorbell ch v byI2c s) := by
  unfold execDoorbell
  exact KeepsOut.next (Keeps.ite (State.doorbell_keeps h) h)

theorem execResponseConsume_keeps {o : State} {ch : Chan} {v : BitVec 16} {s : State} (h : Keeps o s) :
    KeepsOut o (execResponseConsume ch v s) := by
  unfold execResponseConsume
  exact KeepsOut.next (Keeps.ite (State.consumeResponses_keeps h) h)

theorem execChannelReset_keeps {o : State} {ch : Chan} {s : State} (h : Keeps o s) :
    KeepsOut o (execChannelReset ch s) := by
  unfold execChannelReset
  exact KeepsOut.next (Keeps.ite (State.chReset_keeps h) h)

theorem execChannelResetDone_keeps {o : State} {ch : Chan} {s : State} (h : Keeps o s) :
    KeepsOut o (execChannelResetDone ch s) := by
  unfold execChannelResetDone
  exact KeepsOut.next (Keeps.ite (State.chResetDone_keeps h) h)

theorem State.nextEntry_keeps {o s : State} {z1 : List (Nat × Nat × Bool)} {z2 : List Nat} (h : Keeps o s) :
    Keeps o (State.nextEntry s z1 z2).2 := by
  revert h
  fun_induction State.nextEntry s z1 z2
  · intro k1
    exact k1
  · intro k2
    rename_i v3 v4 v5
    with_reducible apply v5
    exact k2
  · intro k6
    rename_i v7 v8 v9
    exact k6
  · intro k10
    rename_i v11 v12 v13 v14 v15
    have hv14 : Keeps o v14 := by
      unfold v14
      exact Keeps.ite k10 (State.mbxIntr_keeps (State.setFld_keeps k10))
    clear_value v14
    with_reducible apply v15
    exact hv14

theorem State.acceptEntry_keeps {o s : State} {x : Nat × Nat × Bool} (h : Keeps o s) :
    Keeps o (State.acceptEntry s x) := by
  unfold State.acceptEntry
  extract_lets ch1 a2 e3 x4 s5 shi6 chl7 op8 level9 len10 r11 x12 s13 x14
  have hs5 : Keeps o s5 := by
    unfold s5
    with_reducible apply State.setFld_keeps
    refine Keeps.of_mk ?_ rfl
    exact h
  clear_value s5
  have hs13 : Keeps o s13 := by
    unfold s13
    with_reducible apply State.chState_keeps
    refine Keeps.of_mk ?_ rfl
    exact hs5
  clear_value s13
  refine Keeps.ite ?_ ?_
  · exact State.refuse_keeps (State.report_keeps hs13)
  · split
    · exact State.refuse_keeps hs13
    · refine Keeps.ite ?_ ?_
      · split
        · exact State.refuse_keeps hs13
        · refine Keeps.of_mk ?_ rfl
          exact hs13
      · exact hs13

theorem execMailboxEntryAccept_keeps {o s : State} (h : Keeps o s) : KeepsOut o (execMailboxEntryAccept s) := by
  unfold execMailboxEntryAccept
  refine KeepsOut.next ?_
  refine Keeps.ite ?_ ?_
  · have hd1 : Keeps o (s.nextEntry s.mbx.order []).2 := by
      exact State.nextEntry_keeps h
    generalize (s.nextEntry s.mbx.order []) = d1 at hd1 ⊢
    rcases d1 with ⟨d2a, d2b⟩
    dsimp -zeta only at *
    split
    · exact State.acceptEntry_keeps hd1
    · exact hd1
  · exact h

theorem execEngLdw_keeps {o : State} {sl : Slice} {sd : BitVec 5} {sa : BitVec 5} {off : BitVec 15} {s : State}
    (h : Keeps o s) :
    KeepsOut o (execEngLdw sl sd sa off s) := by
  unfold execEngLdw
  refine KeepsOut.next ?_
  with_reducible apply State.engAccess_keeps
  · exact h
  · intro k1 k2 k3 k4
    exact State.setEng_keeps k4

theorem execEngStw_keeps {o : State} {sl : Slice} {sd : BitVec 5} {sa : BitVec 5} {off : BitVec 15} {s : State}
    (h : Keeps o s) :
    KeepsOut o (execEngStw sl sd sa off s) := by
  unfold execEngStw
  refine KeepsOut.next ?_
  with_reducible apply State.engAccess_keeps
  · exact h
  · intro k1 k2 k3 k4
    exact State.dataPoke_keeps k4

theorem execEngLdh_keeps {o : State} {sl : Slice} {sd : BitVec 5} {sa : BitVec 5} {off : BitVec 15} {s : State}
    (h : Keeps o s) :
    KeepsOut o (execEngLdh sl sd sa off s) := by
  unfold execEngLdh
  refine KeepsOut.next ?_
  with_reducible apply State.engAccess_keeps
  · exact h
  · intro k1 k2 k3 k4
    exact State.setEng_keeps k4

theorem execEngSth_keeps {o : State} {sl : Slice} {sd : BitVec 5} {sa : BitVec 5} {off : BitVec 15} {s : State}
    (h : Keeps o s) :
    KeepsOut o (execEngSth sl sd sa off s) := by
  unfold execEngSth
  refine KeepsOut.next ?_
  with_reducible apply State.engAccess_keeps
  · exact h
  · intro k1 k2 k3 k4
    exact State.dataPoke_keeps k4

theorem execEngVld_keeps {o : State} {sl : Slice} {vd : BitVec 3} {sa : BitVec 5} {off : BitVec 15} {s : State}
    (h : Keeps o s) :
    KeepsOut o (execEngVld sl vd sa off s) := by
  unfold execEngVld
  refine KeepsOut.next ?_
  with_reducible apply State.engAccess_keeps
  · exact h
  · intro k1 k2 k3 k4
    exact State.setEng_keeps k4

theorem execEngVst_keeps {o : State} {sl : Slice} {vd : BitVec 3} {sa : BitVec 5} {off : BitVec 15} {s : State}
    (h : Keeps o s) :
    KeepsOut o (execEngVst sl vd sa off s) := by
  unfold execEngVst
  refine KeepsOut.next ?_
  with_reducible apply State.engAccess_keeps
  · exact h
  · intro k1 k2 k3 k4
    exact State.dataPoke_keeps k4

theorem execEngVlut_keeps {o : State} {sl : Slice} {vd : BitVec 3} {sa : BitVec 5} {off : BitVec 15} {s : State}
    (h : Keeps o s) :
    KeepsOut o (execEngVlut sl vd sa off s) := by
  unfold execEngVlut
  refine KeepsOut.next ?_
  with_reducible apply State.engIssue_keeps
  · exact h
  · intro k1 k2 k3
    extract_lets x4 v5
    split
    · exact k3
    · dsimp -zeta only
      exact State.setEng_keeps k3

theorem State.statRead_keeps {o s : State} {sl : Nat} {a : Nat} {n : Nat} (h : Keeps o s) :
    Keeps o (State.statRead s sl a n).2 := by
  unfold State.statRead
  refine Keeps.ite_snd ?_ ?_
  · dsimp -zeta only
    with_reducible apply State.setFld_keeps
    refine Keeps.of_mk ?_ rfl
    exact h
  · exact h

theorem execEngStlw_keeps {o : State} {sl : Slice} {sd : BitVec 5} {sa : BitVec 5} {u : BitVec 15} {s : State}
    (h : Keeps o s) :
    KeepsOut o (execEngStlw sl sd sa u s) := by
  unfold execEngStlw
  refine KeepsOut.next ?_
  with_reducible apply State.engIssue_keeps
  · exact h
  · intro k1 k2 k3
    extract_lets a4 r5
    have hr5 : Keeps o r5.2 := by
      unfold r5
      exact State.statRead_keeps k3
    clear_value r5
    split
    · exact k3
    · dsimp -zeta only
      exact State.setEng_keeps hr5

theorem execEngStlv_keeps {o : State} {sl : Slice} {vd : BitVec 3} {sa : BitVec 5} {u : BitVec 15} {s : State}
    (h : Keeps o s) :
    KeepsOut o (execEngStlv sl vd sa u s) := by
  unfold execEngStlv
  refine KeepsOut.next ?_
  with_reducible apply State.engIssue_keeps
  · exact h
  · intro k1 k2 k3
    extract_lets a4 r5
    have hr5 : Keeps o r5.2 := by
      unfold r5
      exact State.statRead_keeps k3
    clear_value r5
    split
    · exact k3
    · dsimp -zeta only
      exact State.setEng_keeps hr5

theorem execEngStcpy_keeps {o : State} {sl : Slice} {sd : BitVec 5} {sa : BitVec 5} {u : BitVec 15} {s : State}
    (h : Keeps o s) :
    KeepsOut o (execEngStcpy sl sd sa u s) := by
  unfold execEngStcpy
  refine KeepsOut.next ?_
  with_reducible apply State.engIssue_keeps
  · exact h
  · intro k1 k2 k3
    extract_lets n4 a5 d6 r7
    have hr7 : Keeps o r7.2 := by
      unfold r7
      exact State.statRead_keeps k3
    clear_value r7
    refine Keeps.ite_fst ?_ ?_
    · exact k3
    · refine Keeps.ite_fst ?_ ?_
      · exact k3
      · refine Keeps.ite_fst ?_ ?_
        · exact k3
        · dsimp -zeta only
          exact State.dataPoke_keeps hr7

theorem execEngIllegalInstruction_keeps {o : State} {sl : Slice} {word : Word} {s : State} (h : Keeps o s) :
    KeepsOut o (execEngIllegalInstruction sl word s) := by
  unfold execEngIllegalInstruction
  refine KeepsOut.next ?_
  refine Keeps.ite ?_ ?_
  · exact h
  · with_reducible apply State.engIssue_keeps
    · exact h
    · intro k1 k2 k3
      exact k3

theorem execSysNop_keeps {o : State} {ch : Chan} {s : State} (h : Keeps o s) : KeepsOut o (execSysNop ch s) := by
  unfold execSysNop
  refine KeepsOut.next ?_
  with_reducible apply State.onCommand_keeps
  · exact h
  · intro k1 k2 k3
    exact State.done_keeps k3

theorem execSysHello_keeps {o : State} {ch : Chan} {s : State} (h : Keeps o s) : KeepsOut o (execSysHello ch s) := by
  unfold execSysHello
  refine KeepsOut.next ?_
  with_reducible apply State.onCommand_keeps
  · exact h
  · intro k1 k2 k3
    split
    · exact State.refuse_keeps k3
    · extract_lets s4 x5 s6
      have hs4 : Keeps o s4 := by
        unfold s4
        exact State.setFlds_keeps k3
      clear_value s4
      have hs6 : Keeps o s6 := by
        unfold s6
        refine Keeps.of_mk ?_ rfl
        exact hs4
      clear_value s6
      exact State.done_keeps hs6

theorem execSysInfo_keeps {o : State} {ch : Chan} {s : State} (h : Keeps o s) : KeepsOut o (execSysInfo ch s) := by
  unfold execSysInfo
  refine KeepsOut.next ?_
  with_reducible apply State.onCommand_keeps
  · exact h
  · intro k1 k2 k3
    extract_lets h4
    exact State.done_keeps k3

theorem execSysSetMode_keeps {o : State} {ch : Chan} {s : State} (h : Keeps o s) :
    KeepsOut o (execSysSetMode ch s) := by
  unfold execSysSetMode
  refine KeepsOut.next ?_
  with_reducible apply State.onCommand_keeps
  · exact h
  · intro k1 k2 k3
    exact State.askMode_keeps k3

theorem execSysGetMode_keeps {o : State} {ch : Chan} {s : State} (h : Keeps o s) :
    KeepsOut o (execSysGetMode ch s) := by
  unfold execSysGetMode
  refine KeepsOut.next ?_
  with_reducible apply State.onCommand_keeps
  · exact h
  · intro k1 k2 k3
    exact State.done_keeps k3

theorem execSysPriority_keeps {o : State} {ch : Chan} {s : State} (h : Keeps o s) :
    KeepsOut o (execSysPriority ch s) := by
  unfold execSysPriority
  refine KeepsOut.next ?_
  with_reducible apply State.onCommand_keeps
  · exact h
  · intro k1 k2 k3
    extract_lets pos4 n5 base6 ports7 marked8 share9 x10 s11
    have hs11 : Keeps o s11 := by
      unfold s11
      refine Keeps.of_mk ?_ rfl
      exact k3
    clear_value s11
    refine Keeps.ite ?_ ?_
    · exact State.refuse_keeps k3
    · refine Keeps.ite ?_ ?_
      · exact State.refuse_keeps k3
      · split
        · exact State.refuse_keeps k3
        · exact State.done_keeps hs11

theorem execSysCompat_keeps {o : State} {ch : Chan} {s : State} (h : Keeps o s) :
    KeepsOut o (execSysCompat ch s) := by
  unfold execSysCompat
  refine KeepsOut.next ?_
  with_reducible apply State.onCommand_keeps
  · exact h
  · intro k1 k2 k3
    extract_lets b4 x5 x6 s7 s8
    have hs7 : Keeps o s7 := by
      unfold s7
      with_reducible apply State.setFld_keeps
      refine Keeps.of_mk ?_ rfl
      exact k3
    clear_value s7
    have hs8 : Keeps o s8 := by
      unfold s8
      exact State.interim_keeps hs7
    clear_value s8
    refine Keeps.ite ?_ ?_
    · exact State.refuse_keeps k3
    · split
      · exact State.refuse_keeps k3
      · exact Keeps.ite (State.refuse_keeps k3) (State.answerCompat_keeps hs8)

theorem State.onPort_keeps {o s : State} {r : Req} {k : State → Nat → State}
    (h : Keeps o s) (hk : ∀ (y0 : State) (y1 : Nat), Keeps o y0 → Keeps o (k y0 y1)) :
    Keeps o (State.onPort s r k) := by
  unfold State.onPort
  extract_lets p1
  refine Keeps.ite ?_ ?_
  · exact State.refuse_keeps h
  · refine Keeps.ite ?_ ?_
    · exact State.refuse_keeps h
    · with_reducible apply hk
      exact h

theorem State.onHead_keeps {o s : State} {r : Req} {k : State → Nat → State}
    (h : Keeps o s) (hk : ∀ (y0 : State) (y1 : Nat), Keeps o y0 → Keeps o (k y0 y1)) :
    Keeps o (State.onHead s r k) := by
  unfold State.onHead
  with_reducible apply State.onPort_keeps
  · exact h
  · intro k1 k2 k3
    refine Keeps.ite ?_ ?_
    · with_reducible apply hk
      exact k3
    · exact State.refuse_keeps k3

theorem execPortStatus_keeps {o : State} {ch : Chan} {s : State} (h : Keeps o s) :
    KeepsOut o (execPortStatus ch s) := by
  unfold execPortStatus
  refine KeepsOut.next ?_
  with_reducible apply State.onCommand_keeps
  · exact h
  · intro k1 k2 k3
    with_reducible apply State.onPort_keeps
    · exact k3
    · intro k4 k5 k6
      exact State.done_keeps k6

theorem execPortRetrain_keeps {o : State} {ch : Chan} {s : State} (h : Keeps o s) :
    KeepsOut o (execPortRetrain ch s) := by
  unfold execPortRetrain
  refine KeepsOut.next ?_
  with_reducible apply State.onCommand_keeps
  · exact h
  · intro k1 k2 k3
    with_reducible apply State.onPort_keeps
    · exact k3
    · intro k4 k5 k6
      with_reducible apply State.done_keeps
      split
      · exact State.lkRetrain_keeps k6
      · exact k6

theorem State.askPctl_keeps {o s : State} {p : Nat} {v : Nat} (h : Keeps o s) : Keeps o (State.askPctl s p v) := by
  unfold State.askPctl
  extract_lets x1
  exact Keeps.ite (State.setPort_keeps h) (State.setPctl_keeps h)

theorem execPortAuth_keeps {o : State} {ch : Chan} {s : State} (h : Keeps o s) : KeepsOut o (execPortAuth ch s) := by
  unfold execPortAuth
  refine KeepsOut.next ?_
  with_reducible apply State.onCommand_keeps
  · exact h
  · intro k1 k2 k3
    with_reducible apply State.onPort_keeps
    · exact k3
    · intro k4 k5 k6
      extract_lets a7 old8
      exact Keeps.ite (State.refuse_keeps k6) (State.done_keeps (State.askPctl_keeps k6))

theorem execPortCounters_keeps {o : State} {ch : Chan} {s : State} (h : Keeps o s) :
    KeepsOut o (execPortCounters ch s) := by
  unfold execPortCounters
  refine KeepsOut.next ?_
  with_reducible apply State.onCommand_keeps
  · exact h
  · intro k1 k2 k3
    with_reducible apply State.onPort_keeps
    · exact k3
    · intro k4 k5 k6
      extract_lets c7 res8 s9
      have hs9 : Keeps o s9 := by
        unfold s9
        split
        · exact Keeps.ite (State.lkClear_keeps k6) k6
        · exact k6
      clear_value s9
      exact Keeps.ite (State.refuse_keeps k6) (State.done_keeps hs9)

theorem execHeadLedger_keeps {o : State} {ch : Chan} {s : State} (h : Keeps o s) :
    KeepsOut o (execHeadLedger ch s) := by
  unfold execHeadLedger
  refine KeepsOut.next ?_
  with_reducible apply State.onCommand_keeps
  · exact h
  · intro k1 k2 k3
    extract_lets first4 n5 entry6 t7
    have ht7 : Keeps o t7.1 := by
      unfold t7
      exact State.toBuffer_keeps k3
    clear_value t7
    exact Keeps.ite (State.refuse_keeps k3) (State.done_keeps ht7)

theorem execHeadLensReset_keeps {o : State} {ch : Chan} {s : State} (h : Keeps o s) :
    KeepsOut o (execHeadLensReset ch s) := by
  unfold execHeadLensReset
  refine KeepsOut.next ?_
  with_reducible apply State.onCommand_keeps
  · exact h
  · intro k1 k2 k3
    with_reducible apply State.onHead_keeps
    · exact k3
    · intro k4 k5 k6
      extract_lets x7 fl8
      exact State.done_keeps (State.setPort_keeps k6)

theorem execHeadReauth_keeps {o : State} {ch : Chan} {s : State} (h : Keeps o s) :
    KeepsOut o (execHeadReauth ch s) := by
  unfold execHeadReauth
  refine KeepsOut.next ?_
  with_reducible apply State.onCommand_keeps
  · exact h
  · intro k1 k2 k3
    with_reducible apply State.onHead_keeps
    · exact k3
    · intro k4 k5 k6
      exact State.challenge_keeps (State.interim_keeps k6)

theorem execHeadPoll_keeps {o : State} {ch : Chan} {s : State} (h : Keeps o s) : KeepsOut o (execHeadPoll ch s) := by
  unfold execHeadPoll
  refine KeepsOut.next ?_
  with_reducible apply State.onCommand_keeps
  · exact h
  · intro k1 k2 k3
    with_reducible apply State.onHead_keeps
    · exact k3
    · intro k4 k5 k6
      exact State.bcQueue_keeps (State.interim_keeps k6)

theorem State.onSlice_keeps {o s : State} {r : Req} {k : State → Nat → State}
    (h : Keeps o s) (hk : ∀ (y0 : State) (y1 : Nat), Keeps o y0 → Keeps o (k y0 y1)) :
    Keeps o (State.onSlice s r k) := by
  unfold State.onSlice
  extract_lets sl1
  refine Keeps.ite ?_ ?_
  · exact State.refuse_keeps h
  · with_reducible apply hk
    exact h

theorem execSliceStatus_keeps {o : State} {ch : Chan} {s : State} (h : Keeps o s) :
    KeepsOut o (execSliceStatus ch s) := by
  unfold execSliceStatus
  refine KeepsOut.next ?_
  with_reducible apply State.onCommand_keeps
  · exact h
  · intro k1 k2 k3
    with_reducible apply State.onSlice_keeps
    · exact k3
    · intro k4 k5 k6
      exact State.done_keeps k6

theorem execSlicePqput_keeps {o : State} {ch : Chan} {s : State} (h : Keeps o s) :
    KeepsOut o (execSlicePqput ch s) := by
  unfold execSlicePqput
  refine KeepsOut.next ?_
  with_reducible apply State.onCommand_keeps
  · exact h
  · intro k1 k2 k3
    extract_lets p4 owner5 t6
    have ht6 : Keeps o t6.2 := by
      unfold t6
      exact State.pqPut_keeps k3
    clear_value t6
    refine Keeps.ite ?_ ?_
    · exact State.refuse_keeps k3
    · split
      · exact State.done_keeps ht6
      · exact State.refuse_keeps ht6
      · exact State.refuse_keeps ht6
      · exact State.refuse_keeps ht6
      · exact State.refuse_keeps ht6
      · exact State.refuse_keeps ht6

theorem execSliceTrace_keeps {o : State} {ch : Chan} {s : State} (h : Keeps o s) :
    KeepsOut o (execSliceTrace ch s) := by
  unfold execSliceTrace
  refine KeepsOut.next ?_
  with_reducible apply State.onCommand_keeps
  · exact h
  · intro k1 k2 k3
    with_reducible apply State.onSlice_keeps
    · exact k3
    · intro k4 k5 k6
      extract_lets t7
      have ht7 : Keeps o t7.1 := by
        unfold t7
        exact State.toBuffer_keeps k6
      clear_value t7
      exact State.done_keeps ht7

theorem execSliceRestart_keeps {o : State} {ch : Chan} {s : State} (h : Keeps o s) :
    KeepsOut o (execSliceRestart ch s) := by
  unfold execSliceRestart
  refine KeepsOut.next ?_
  with_reducible apply State.onCommand_keeps
  · exact h
  · intro k1 k2 k3
    with_reducible apply State.onPort_keeps
    · exact k3
    · intro k4 k5 k6
      split
      · extract_lets x7
        exact State.done_keeps (State.setEng_keeps k6)
      · exact State.refuse_keeps k6

theorem execSliceProving_keeps {o : State} {ch : Chan} {s : State} (h : Keeps o s) :
    KeepsOut o (execSliceProving ch s) := by
  unfold execSliceProving
  refine KeepsOut.next ?_
  with_reducible apply State.onCommand_keeps
  · exact h
  · intro k1 k2 k3
    extract_lets per4 win5 pause6 s7
    have hs7 : Keeps o s7 := by
      unfold s7
      exact Keeps.ite k3 (State.setFld_keeps k3)
    clear_value s7
    refine Keeps.ite ?_ ?_
    · exact State.refuse_keeps k3
    · refine Keeps.ite ?_ ?_
      · exact State.refuse_keeps k3
      · exact Keeps.ite (State.refuse_keeps k3) (State.done_keeps (State.pausedCheck_keeps (State.setFlds_keeps hs7)))

theorem execStreamStatus_keeps {o : State} {ch : Chan} {s : State} (h : Keeps o s) :
    KeepsOut o (execStreamStatus ch s) := by
  unfold execStreamStatus
  refine KeepsOut.next ?_
  with_reducible apply State.onCommand_keeps
  · exact h
  · intro k1 k2 k3
    extract_lets sid4 p5 k6 x7 lat8 c9 set10 f11 pol12 n13
    exact Keeps.ite (State.refuse_keeps k3) (Keeps.ite (State.refuse_keeps k3) (State.done_keeps k3))

theorem execStreamList_keeps {o : State} {ch : Chan} {s : State} (h : Keeps o s) :
    KeepsOut o (execStreamList ch s) := by
  unfold execStreamList
  refine KeepsOut.next ?_
  with_reducible apply State.onCommand_keeps
  · exact h
  · intro k1 k2 k3
    extract_lets byte4 t5
    have ht5 : Keeps o t5.1 := by
      unfold t5
      exact State.toBuffer_keeps k3
    clear_value t5
    exact State.done_keeps ht5

theorem execLatStatus_keeps {o : State} {ch : Chan} {s : State} (h : Keeps o s) :
    KeepsOut o (execLatStatus ch s) := by
  unfold execLatStatus
  refine KeepsOut.next ?_
  with_reducible apply State.onCommand_keeps
  · exact h
  · intro k1 k2 k3
    extract_lets n4 x5 at46
    exact Keeps.ite (State.refuse_keeps k3) (Keeps.ite (State.refuse_keeps k3) (State.done_keeps k3))

theorem execStatRead_keeps {o : State} {ch : Chan} {s : State} (h : Keeps o s) : KeepsOut o (execStatRead ch s) := by
  unfold execStatRead
  refine KeepsOut.next ?_
  with_reducible apply State.onCommand_keeps
  · exact h
  · intro k1 k2 k3
    with_reducible apply State.onPort_keeps
    · exact k3
    · intro k4 k5 k6
      split
      · exact State.refuse_keeps k6
      · extract_lets b7 t8
        have hb7 : Keeps o b7.2 := by
          unfold b7
          exact State.statRead_keeps k6
        clear_value b7
        have ht8 : Keeps o t8.1 := by
          unfold t8
          exact State.toBuffer_keeps hb7
        clear_value t8
        exact Keeps.ite (State.refuse_keeps k6) (State.done_keeps ht8)

theorem execStatLoad_keeps {o : State} {ch : Chan} {s : State} (h : Keeps o s) : KeepsOut o (execStatLoad ch s) := by
  unfold execStatLoad
  refine KeepsOut.next ?_
  with_reducible apply State.onCommand_keeps
  · exact h
  · intro k1 k2 k3
    extract_lets c4
    exact State.done_keeps k3

theorem execPairStatus_keeps {o : State} {ch : Chan} {s : State} (h : Keeps o s) :
    KeepsOut o (execPairStatus ch s) := by
  unfold execPairStatus
  refine KeepsOut.next ?_
  with_reducible apply State.onCommand_keeps
  · exact h
  · intro k1 k2 k3
    exact State.done_keeps k3

theorem execPairRoles_keeps {o : State} {ch : Chan} {s : State} (h : Keeps o s) :
    KeepsOut o (execPairRoles ch s) := by
  unfold execPairRoles
  refine KeepsOut.next ?_
  with_reducible apply State.onCommand_keeps
  · exact h
  · intro k1 k2 k3
    extract_lets change4 toA5 moves6 x7 s8 s9
    have hs8 : Keeps o s8 := by
      unfold s8
      exact State.setPair_keeps (State.interim_keeps k3)
    clear_value s8
    have hs9 : Keeps o s9 := by
      unfold s9
      refine Keeps.foldl ?_ ?_
      · exact hs8
      · intro k10 k11 k12
        exact State.giveCamera_keeps k12
    clear_value s9
    refine Keeps.ite ?_ ?_
    · exact State.refuse_keeps k3
    · exact Keeps.ite (State.refuse_keeps k3) (Keeps.ite (State.refuse_keeps k3) (State.handoversDone_keeps hs9))

theorem execTimeGet_keeps {o : State} {ch : Chan} {s : State} (h : Keeps o s) : KeepsOut o (execTimeGet ch s) := by
  unfold execTimeGet
  refine KeepsOut.next ?_
  with_reducible apply State.onCommand_keeps
  · exact h
  · intro k1 k2 k3
    exact State.done_keeps k3

theorem State.askTime_keeps {o s : State} {r : Req} (h : Keeps o s) : Keeps o (State.askTime s r) := by
  unfold State.askTime
  extract_lets sec1 st2 locked3 due4 d5 pending6 s7 r8 x9
  have hs7 : Keeps o s7 := by
    unfold s7
    exact State.interim_keeps h
  clear_value s7
  refine Keeps.ite ?_ ?_
  · exact State.refuse_keeps h
  · refine Keeps.ite ?_ ?_
    · exact State.refuse_keeps h
    · refine Keeps.ite ?_ ?_
      · exact State.refuse_keeps h
      · refine Keeps.ite ?_ ?_
        · refine Keeps.of_mk ?_ rfl
          exact hs7
        · exact State.applySet_keeps hs7

theorem execTimeSet_keeps {o : State} {ch : Chan} {s : State} (h : Keeps o s) : KeepsOut o (execTimeSet ch s) := by
  unfold execTimeSet
  refine KeepsOut.next ?_
  with_reducible apply State.onCommand_keeps
  · exact h
  · intro k1 k2 k3
    exact State.askTime_keeps k3

theorem execTimeStep_keeps {o : State} {ch : Chan} {s : State} (h : Keeps o s) : KeepsOut o (execTimeStep ch s) := by
  unfold execTimeStep
  refine KeepsOut.next ?_
  with_reducible apply State.onCommand_keeps
  · exact h
  · intro k1 k2 k3
    extract_lets j4 s5 x6
    have hs5 : Keeps o s5 := by
      unfold s5
      exact State.interim_keeps k3
    clear_value s5
    refine Keeps.ite ?_ ?_
    · exact State.refuse_keeps k3
    · refine Keeps.ite ?_ ?_
      · exact State.askTime_keeps k3
      · split
        · exact State.refuse_keeps k3
        · extract_lets s7 s8
          have hs7 : Keeps o s7 := by
            unfold s7
            with_reducible apply State.timeStep_keeps
            refine Keeps.of_mk ?_ rfl
            exact hs5
          clear_value s7
          have hs8 : Keeps o s8 := by
            unfold s8
            exact State.tsuState_keeps (State.setFld_keeps hs7)
          clear_value s8
          exact State.done_keeps hs8

theorem execTimeDiscipline_keeps {o : State} {ch : Chan} {s : State} (h : Keeps o s) :
    KeepsOut o (execTimeDiscipline ch s) := by
  unfold execTimeDiscipline
  refine KeepsOut.next ?_
  with_reducible apply State.onCommand_keeps
  · exact h
  · intro k1 k2 k3
    exact State.done_keeps (State.timePins_keeps (State.setReg_keeps k3))

theorem execTimeClrcnt_keeps {o : State} {ch : Chan} {s : State} (h : Keeps o s) :
    KeepsOut o (execTimeClrcnt ch s) := by
  unfold execTimeClrcnt
  refine KeepsOut.next ?_
  with_reducible apply State.onCommand_keeps
  · exact h
  · intro k1 k2 k3
    extract_lets ovf4 grp5
    exact State.done_keeps (State.setFlds_keeps (State.setReg_keeps k3))

theorem execTimeSync_keeps {o : State} {ch : Chan} {s : State} (h : Keeps o s) : KeepsOut o (execTimeSync ch s) := by
  unfold execTimeSync
  refine KeepsOut.next ?_
  with_reducible apply State.onCommand_keeps
  · exact h
  · intro k1 k2 k3
    extract_lets n4 w5 s6 x7
    have hs6 : Keeps o s6 := by
      unfold s6
      exact State.setReg_keeps (State.setReg_keeps (State.setReg_keeps k3))
    clear_value s6
    refine Keeps.ite ?_ ?_
    · exact State.refuse_keeps k3
    · with_reducible apply State.done_keeps
      with_reducible apply State.syncMode_keeps
      refine Keeps.of_mk ?_ rfl
      exact hs6

theorem State.popCaptures_keeps {o s : State} {pin : Nat} {z2 : Nat} (h : Keeps o s) :
    Keeps o (State.popCaptures s pin z2).2 := by
  revert h
  fun_induction State.popCaptures s pin z2
  · intro k1
    exact k1
  · intro k2
    exact k2
  · intro k3
    rename_i v4 v5
    have hv4 : Keeps o v4.2 := by
      unfold v4
      with_reducible apply v5
      exact State.popCapture_keeps k3
    clear_value v4
    exact hv4

theorem execTimeCapture_keeps {o : State} {ch : Chan} {s : State} (h : Keeps o s) :
    KeepsOut o (execTimeCapture ch s) := by
  unfold execTimeCapture
  refine KeepsOut.next ?_
  with_reducible apply State.onCommand_keeps
  · exact h
  · intro k1 k2 k3
    extract_lets n4 m5 x6
    have hx6 : Keeps o x6.2 := by
      unfold x6
      exact State.popCaptures_keeps k3
    clear_value x6
    exact Keeps.ite (State.refuse_keeps k3) (Keeps.ite (State.refuse_keeps k3) (State.done_keeps hx6))

theorem State.onCan_keeps {o s : State} {r : Req} {k : State → Nat → State}
    (h : Keeps o s) (hk : ∀ (y0 : State) (y1 : Nat), Keeps o y0 → Keeps o (k y0 y1)) :
    Keeps o (State.onCan s r k) := by
  unfold State.onCan
  extract_lets c1
  refine Keeps.ite ?_ ?_
  · exact State.refuse_keeps h
  · with_reducible apply hk
    exact h

theorem execCanStatus_keeps {o : State} {ch : Chan} {s : State} (h : Keeps o s) :
    KeepsOut o (execCanStatus ch s) := by
  unfold execCanStatus
  refine KeepsOut.next ?_
  with_reducible apply State.onCommand_keeps
  · exact h
  · intro k1 k2 k3
    with_reducible apply State.onCan_keeps
    · exact k3
    · intro k4 k5 k6
      exact State.done_keeps k6

theorem execCanConfig_keeps {o : State} {ch : Chan} {s : State} (h : Keeps o s) :
    KeepsOut o (execCanConfig ch s) := by
  unfold execCanConfig
  refine KeepsOut.next ?_
  with_reducible apply State.onCommand_keeps
  · exact h
  · intro k1 k2 k3
    with_reducible apply State.onCan_keeps
    · exact k3
    · intro k4 k5 k6
      extract_lets mode7 x8
      refine Keeps.ite ?_ ?_
      · exact State.refuse_keeps k6
      · split
        · exact State.refuse_keeps k6
        · exact State.done_keeps (State.setCan_keeps k6)

theorem execCanFilter_keeps {o : State} {ch : Chan} {s : State} (h : Keeps o s) :
    KeepsOut o (execCanFilter ch s) := by
  unfold execCanFilter
  refine KeepsOut.next ?_
  with_reducible apply State.onCommand_keeps
  · exact h
  · intro k1 k2 k3
    with_reducible apply State.onCan_keeps
    · exact k3
    · intro k4 k5 k6
      extract_lets i7 a8
      refine Keeps.ite ?_ ?_
      · exact State.refuse_keeps k6
      · exact Keeps.ite (State.refuse_keeps k6) (State.done_keeps (State.setFlds_keeps k6))

theorem execCanWake_keeps {o : State} {ch : Chan} {s : State} (h : Keeps o s) : KeepsOut o (execCanWake ch s) := by
  unfold execCanWake
  refine KeepsOut.next ?_
  with_reducible apply State.onCommand_keeps
  · exact h
  · intro k1 k2 k3
    with_reducible apply State.onCan_keeps
    · exact k3
    · intro k4 k5 k6
      extract_lets k7
      exact Keeps.ite (State.refuse_keeps k6) (State.done_keeps (State.setFlds_keeps k6))

theorem execCanVehicle_keeps {o : State} {ch : Chan} {s : State} (h : Keeps o s) :
    KeepsOut o (execCanVehicle ch s) := by
  unfold execCanVehicle
  refine KeepsOut.next ?_
  with_reducible apply State.onCommand_keeps
  · exact h
  · intro k1 k2 k3
    with_reducible apply State.onCan_keeps
    · exact k3
    · intro k4 k5 k6
      extract_lets sa7
      exact State.done_keeps (State.setFlds_keeps k6)

theorem execFaultRead_keeps {o : State} {ch : Chan} {s : State} (h : Keeps o s) :
    KeepsOut o (execFaultRead ch s) := by
  unfold execFaultRead
  refine KeepsOut.next ?_
  with_reducible apply State.onCommand_keeps
  · exact h
  · intro k1 k2 k3
    extract_lets start4
    refine Keeps.ite ?_ ?_
    · exact State.refuse_keeps k3
    · split
      · exact State.refuse_keeps k3
      · extract_lets s5
        have hs5 : Keeps o s5 := by
          unfold s5
          unfold Option.getD
          rename_i v6 v7 v8
          have hd9 : KeepsOpt o (k1.markRead v7) := by
            exact State.markRead_keeps k3
          generalize (k1.markRead v7) = d9 at hd9 ⊢
          rcases d9 with _ | d10a
          · try dsimp -zeta only
            exact k3
          · have kd10 := KeepsOpt.get hd9 rfl
            try dsimp -zeta only at kd10 ⊢
            exact kd10
        clear_value s5
        exact State.done_keeps hs5

theorem execFaultClear_keeps {o : State} {ch : Chan} {s : State} (h : Keeps o s) :
    KeepsOut o (execFaultClear ch s) := by
  unfold execFaultClear
  refine KeepsOut.next ?_
  with_reducible apply State.onCommand_keeps
  · exact h
  · intro k1 k2 k3
    extract_lets i4 code5 unread6
    have hd7 : KeepsOpt o (k1.clearRecord i4 code5) := by
      exact State.clearRecord_keeps k3
    generalize (k1.clearRecord i4 code5) = d7 at hd7 ⊢
    rcases d7 with _ | d8a
    · try dsimp -zeta only
      exact State.refuse_keeps k3
    · have kd8 := KeepsOpt.get hd7 rfl
      try dsimp -zeta only at kd8 ⊢
      exact State.done_keeps kd8

theorem execFaultCounters_keeps {o : State} {ch : Chan} {s : State} (h : Keeps o s) :
    KeepsOut o (execFaultCounters ch s) := by
  unfold execFaultCounters
  refine KeepsOut.next ?_
  with_reducible apply State.onCommand_keeps
  · exact h
  · intro k1 k2 k3
    extract_lets res4
    exact State.done_keeps (State.clearOnRead_keeps (State.clearOnRead_keeps k3))

theorem execFaultPinmask_keeps {o : State} {ch : Chan} {s : State} (h : Keeps o s) :
    KeepsOut o (execFaultPinmask ch s) := by
  unfold execFaultPinmask
  refine KeepsOut.next ?_
  with_reducible apply State.onCommand_keeps
  · exact h
  · intro k1 k2 k3
    exact State.done_keeps (State.driveFaultN_keeps (State.setFld_keeps k3))

theorem execFaultDump_keeps {o : State} {ch : Chan} {s : State} (h : Keeps o s) :
    KeepsOut o (execFaultDump ch s) := by
  unfold execFaultDump
  refine KeepsOut.next ?_
  with_reducible apply State.onCommand_keeps
  · exact h
  · intro k1 k2 k3
    extract_lets t4
    have ht4 : Keeps o t4.1 := by
      unfold t4
      exact State.toBuffer_keeps k3
    clear_value t4
    exact State.done_keeps ht4

theorem State.noSec_keeps {o s : State} {r : Req} (h : Keeps o s) : Keeps o (State.noSec s r) := by
  unfold State.noSec
  extract_lets code1
  exact State.refuse_keeps (State.report_keeps (State.took_keeps h))

theorem State.notVerified_keeps {o s : State} {r : Req} {step : Nat} (h : Keeps o s) :
    Keeps o (State.notVerified s r step) := by
  unfold State.notVerified
  exact Keeps.ite (State.refuse_keeps h) (State.refuse_keeps h)

theorem State.takeImage_keeps {o s : State} {r : Req} {off : Nat} {k : State → Nat → State}
    (h : Keeps o s) (hk : ∀ (y0 : State) (y1 : Nat), Keeps o y0 → Keeps o (k y0 y1)) :
    Keeps o (State.takeImage s r off k) := by
  unfold State.takeImage
  have hc := State.consume_keeps (r := r) (n := 2) (ilen := r.arg off 4) (off := off) h
  split
  · next heq => rw [heq] at hc; exact hc
  · next heq => rw [heq] at hc; exact hk _ _ hc

theorem execUpdStage_keeps {o : State} {ch : Chan} {s : State} (h : Keeps o s) : KeepsOut o (execUpdStage ch s) := by
  unfold execUpdStage
  refine KeepsOut.next ?_
  with_reducible apply State.onCommand_keeps
  · exact h
  · intro k1 k2 k3
    exact State.stageCmd_keeps k3

theorem execUpdFlash_keeps {o : State} {ch : Chan} {s : State} (h : Keeps o s) : KeepsOut o (execUpdFlash ch s) := by
  unfold execUpdFlash
  refine KeepsOut.next ?_
  with_reducible apply State.onCommand_keeps
  · exact h
  · intro k1 k2 k3
    refine Keeps.ite ?_ ?_
    · exact State.refuse_keeps k3
    · with_reducible apply State.takeImage_keeps
      · exact k3
      · intro k4 k5 k6
        exact State.interimAt_keeps k6

theorem State.flashFinish_keeps {o s : State} {r : Req} {readback : List Byte} (h : Keeps o s) :
    Keeps o (State.flashFinish s r readback) := by
  unfold State.flashFinish
  extract_lets img1 svn2 x3 s4
  have hs4 : Keeps o s4 := by
    unfold s4
    refine Keeps.of_mk ?_ rfl
    exact h
  clear_value s4
  refine Keeps.ite ?_ ?_
  · exact State.noSec_keeps h
  · split
    · exact Keeps.ite (State.done_keeps hs4) (State.refuse_keeps hs4)
    · exact State.notVerified_keeps h

theorem execUpdCpxSwitch_keeps {o : State} {ch : Chan} {s : State} (h : Keeps o s) :
    KeepsOut o (execUpdCpxSwitch ch s) := by
  unfold execUpdCpxSwitch
  refine KeepsOut.next ?_
  with_reducible apply State.onCommand_keeps
  · exact h
  · intro k1 k2 k3
    refine Keeps.ite ?_ ?_
    · exact State.refuse_keeps k3
    · with_reducible apply State.takeImage_keeps
      · exact k3
      · intro k4 k5 k6
        extract_lets img7 shi8 range9 levels10
        exact Keeps.ite (State.refuse_keeps k6) (Keeps.ite (State.refuse_keeps k6) (State.interimAt_keeps k6))

theorem State.switchVerified_keeps {o s : State} {r : Req} (h : Keeps o s) : Keeps o (State.switchVerified s r) := by
  unfold State.switchVerified
  refine Keeps.ite ?_ ?_
  · exact h
  · refine Keeps.ite ?_ ?_
    · exact State.noSec_keeps h
    · split
      · extract_lets x1 s2
        have hs2 : Keeps o s2 := by
          unfold s2
          refine Keeps.of_mk ?_ rfl
          exact h
        clear_value s2
        exact State.abortRuns_keeps hs2
      · exact State.notVerified_keeps h

theorem State.swapPairs_keeps {o s : State} (h : Keeps o s) : Keeps o (State.swapPairs s) := by
  unfold State.swapPairs
  extract_lets x1
  refine Keeps.of_mk ?_ rfl
  exact h

theorem execNewPairReady_keeps {o s : State} (h : Keeps o s) : KeepsOut o (execNewPairReady s) := by
  unfold execNewPairReady
  refine KeepsOut.next ?_
  split
  · exact h
  · extract_lets img1 range2 slot3 s4 x5 x6 s7 s8
    have hs4 : Keeps o s4 := by
      unfold s4
      exact State.swapPairs_keeps h
    clear_value s4
    have hs7 : Keeps o s7 := by
      unfold s7
      refine Keeps.of_mk ?_ rfl
      exact hs4
    clear_value s7
    have hs8 : Keeps o s8 := by
      unfold s8
      exact State.setFlds_keeps hs7
    clear_value s8
    exact Keeps.ite h (State.done_keeps hs8)

theorem State.switchFails_keeps {o s : State} (h : Keeps o s) : Keeps o (State.switchFails s) := by
  unfold State.switchFails
  split
  · exact h
  · extract_lets x1
    with_reducible apply State.refuse_keeps
    refine Keeps.of_mk ?_ rfl
    exact h

theorem execCpxSwitchTimeout_keeps {o s : State} (h : Keeps o s) : KeepsOut o (execCpxSwitchTimeout s) := by
  unfold execCpxSwitchTimeout
  exact KeepsOut.next (Keeps.ite (State.report_keeps (State.switchFails_keeps h)) h)

theorem execUpdProgAdd_keeps {o : State} {ch : Chan} {s : State} (h : Keeps o s) :
    KeepsOut o (execUpdProgAdd ch s) := by
  unfold execUpdProgAdd
  refine KeepsOut.next ?_
  with_reducible apply State.onCommand_keeps
  · exact h
  · intro k1 k2 k3
    with_reducible apply State.takeImage_keeps
    · exact k3
    · intro k4 k5 k6
      exact State.interimAt_keeps k6

theorem State.progFinish_keeps {o s : State} {r : Req} (h : Keeps o s) : Keeps o (State.progFinish s r) := by
  unfold State.progFinish
  extract_lets b1 id2 rest3 keys4 n5 used6
  refine Keeps.ite ?_ ?_
  · exact State.noSec_keeps h
  · refine Keeps.ite ?_ ?_
    · exact State.refuse_keeps h
    · split
      · split
        · exact State.refuse_keeps h
        · extract_lets e7
          refine Keeps.ite ?_ ?_
          · exact State.refuse_keeps h
          · with_reducible apply State.done_keeps
            with_reducible apply State.poke_keeps
            refine Keeps.of_mk ?_ rfl
            exact h
      · exact State.notVerified_keeps h
      · exact State.refuse_keeps h

theorem execUpdProgRemove_keeps {o : State} {ch : Chan} {s : State} (h : Keeps o s) :
    KeepsOut o (execUpdProgRemove ch s) := by
  unfold execUpdProgRemove
  refine KeepsOut.next ?_
  with_reducible apply State.onCommand_keeps
  · exact h
  · intro k1 k2 k3
    extract_lets id4 named5
    refine Keeps.ite ?_ ?_
    · exact State.refuse_keeps k3
    · refine Keeps.ite ?_ ?_
      · exact State.refuse_keeps k3
      · with_reducible apply State.done_keeps
        refine Keeps.of_mk ?_ rfl
        exact k3

theorem execUpdHeadFw_keeps {o : State} {ch : Chan} {s : State} (h : Keeps o s) :
    KeepsOut o (execUpdHeadFw ch s) := by
  unfold execUpdHeadFw
  refine KeepsOut.next ?_
  with_reducible apply State.onCommand_keeps
  · exact h
  · intro k1 k2 k3
    with_reducible apply State.onPort_keeps
    · exact k3
    · intro k4 k5 k6
      extract_lets hm7
      refine Keeps.ite ?_ ?_
      · exact State.refuse_keeps k6
      · refine Keeps.ite ?_ ?_
        · exact State.refuse_keeps k6
        · refine Keeps.ite ?_ ?_
          · exact State.refuse_keeps k6
          · with_reducible apply State.takeImage_keeps
            · exact k6
            · intro k8 k9 k10
              extract_lets s11 r12 img13 mode14 x15
              have hs11 : Keeps o s11 := by
                unfold s11
                exact State.interimAt_keeps k10
              clear_value s11
              refine Keeps.ite ?_ ?_
              · exact State.noSec_keeps hs11
              · split
                · exact State.fwNext_keeps (State.setPort_keeps hs11)
                · exact State.notVerified_keeps hs11

theorem execSvcChallenge_keeps {o : State} {ch : Chan} {s : State} (h : Keeps o s) :
    KeepsOut o (execSvcChallenge ch s) := by
  unfold execSvcChallenge
  refine KeepsOut.next ?_
  with_reducible apply State.onCommand_keeps
  · exact h
  · intro k1 k2 k3
    refine Keeps.ite ?_ ?_
    · exact State.noSec_keeps k3
    · have hd4 : Keeps o (k1.drawNonce).2 := by
        exact State.drawNonce_keeps k3
      generalize (k1.drawNonce) = d4 at hd4 ⊢
      rcases d4 with ⟨d5a, d5b⟩
      dsimp -zeta only at *
      extract_lets x6 s7 sig8 b9 s10
      have hs7 : Keeps o s7 := by
        unfold s7
        refine Keeps.of_mk ?_ rfl
        exact hd4
      clear_value s7
      have hs10 : Keeps o s10 := by
        unfold s10
        exact State.setFlds_keeps hs7
      clear_value s10
      exact State.done_keeps hs10

theorem execSvcAuthR_keeps {o : State} {ch : Chan} {s : State} (h : Keeps o s) : KeepsOut o (execSvcAuthR ch s) := by
  unfold execSvcAuthR
  refine KeepsOut.next ?_
  with_reducible apply State.onCommand_keeps
  · exact h
  · intro k1 k2 k3
    extract_lets x4
    with_reducible apply State.done_keeps
    refine Keeps.of_mk ?_ rfl
    exact k3

theorem execSvcAuthS_keeps {o : State} {ch : Chan} {s : State} (h : Keeps o s) : KeepsOut o (execSvcAuthS ch s) := by
  unfold execSvcAuthS
  refine KeepsOut.next ?_
  with_reducible apply State.onCommand_keeps
  · exact h
  · intro k1 k2 k3
    split
    · exact State.refuse_keeps k3
    · extract_lets key4 good5 x6 s7 e8 x9
      have hs7 : Keeps o s7 := by
        unfold s7
        refine Keeps.of_mk ?_ rfl
        exact k3
      clear_value s7
      refine Keeps.ite ?_ ?_
      · exact State.refuse_keeps k3
      · refine Keeps.ite ?_ ?_
        · exact State.noSec_keeps k3
        · refine Keeps.ite ?_ ?_
          · with_reducible apply State.done_keeps
            with_reducible apply State.setFld_keeps
            refine Keeps.of_mk ?_ rfl
            exact hs7
          · exact State.refuse_keeps hs7

theorem execSvcBist_keeps {o : State} {ch : Chan} {s : State} (h : Keeps o s) : KeepsOut o (execSvcBist ch s) := by
  unfold execSvcBist
  refine KeepsOut.next ?_
  with_reducible apply State.onCommand_keeps
  · exact h
  · intro k1 k2 k3
    exact Keeps.ite (State.refuse_keeps k3) (State.interim_keeps k3)

theorem State.retireFailed_keeps {o s : State} {z1 : List BistResult} (h : Keeps o s) :
    Keeps o (State.retireFailed s z1) := by
  revert h
  fun_induction State.retireFailed s z1
  · intro k1
    exact k1
  · intro k2
    rename_i v3
    with_reducible apply v3
    split
    · exact Keeps.ite (State.retire_keeps k2) k2
    · exact k2

theorem State.bistFinish_keeps {o s : State} {r : Req} {results : List BistResult} (h : Keeps o s) :
    Keeps o (State.bistFinish s r results) := by
  unfold State.bistFinish
  extract_lets scope1 l2 s3 s4 t5
  have hs3 : Keeps o s3 := by
    unfold s3
    exact State.retireFailed_keeps h
  clear_value s3
  have hs4 : Keeps o s4 := by
    unfold s4
    exact Keeps.ite (State.swapPairs_keeps hs3) hs3
  clear_value s4
  have ht5 : Keeps o t5.1 := by
    unfold t5
    exact State.toBuffer_keeps hs4
  clear_value t5
  exact State.done_keeps ht5

theorem execSvcFuse_keeps {o : State} {ch : Chan} {s : State} (h : Keeps o s) : KeepsOut o (execSvcFuse ch s) := by
  unfold execSvcFuse
  refine KeepsOut.next ?_
  with_reducible apply State.onCommand_keeps
  · exact h
  · intro k1 k2 k3
    exact State.interim_keeps k3

theorem State.fuseFinish_keeps {o s : State} {r : Req} (h : Keeps o s) : Keeps o (State.fuseFinish s r) := by
  unfold State.fuseFinish
  extract_lets f ret rep kb
  have hk : kb ≤ 64 := by
    unfold kb
    split
    · exact Nat.min_le_right _ _
    · exact Nat.zero_le _
  have hle : ∀ (svn rev kb : Nat), svn ≤ 64 → kb ≤ 64 →
      Keeps o { s with blown := ⟨f.rootRev ||| rev, max f.fwSvn svn, max f.kbSvn kb, f.retired ++ ret, f.repairs ++ rep⟩ } := by
    intro svn rev kb hs hk
    refine ⟨h.queue, h.memory, Fuses.le_trans h.fuses ⟨?_, Nat.le_max_left _ _, Nat.le_max_left _ _,
      fun x hx => List.mem_append_left _ hx, fun x hx => List.mem_append_left _ hx⟩, fun hf => ?_⟩
    · show f.rootRev &&& (f.rootRev ||| rev) = f.rootRev
      exact Nat.eq_of_testBit_eq fun i => by
        rw [Nat.testBit_and, Nat.testBit_or]; cases f.rootRev.testBit i <;> simp
    · have hg := h.fit hf
      exact ⟨Nat.max_le.mpr ⟨hg.1, hs⟩, Nat.max_le.mpr ⟨hg.2, hk⟩⟩
  clear_value ret rep kb
  split
  next svn rev heq =>
  have hs : svn ≤ 64 := by
    split at heq
    · injection heq with h1 _; rw [← h1]; exact Nat.min_le_right _ _
    · injection heq with h1 _; rw [← h1]; exact Nat.zero_le _
  exact State.done_keeps (hle svn rev kb hs hk)

theorem execFinalResponse_keeps {o : State} {ch : Chan} {opcode : BitVec 16} {tag : BitVec 16} {readback : List Byte} {results : List BistResult} {s : State}
    (h : Keeps o s) :
    KeepsOut o (execFinalResponse ch opcode tag readback results s) := by
  unfold execFinalResponse
  refine KeepsOut.next ?_
  split
  · exact h
  · refine Keeps.ite ?_ ?_
    · exact h
    · split
      · exact State.loadFinish_keeps h
      · exact State.exportFinish_keeps h
      · exact State.flashFinish_keeps h
      · exact State.switchVerified_keeps h
      · exact State.progFinish_keeps h
      · exact State.bistFinish_keeps h
      · exact State.fuseFinish_keeps h
      · exact h

theorem State.memCount_keeps {o s : State} {f : Fld} (h : Keeps o s) : Keeps o (State.memCount s f) := by
  unfold State.memCount
  exact Keeps.ite (State.bump_keeps h) h

theorem State.memCapture_keeps {o s : State} {a : Nat} {src : Nat} (h : Keeps o s) :
    Keeps o (State.memCapture s a src) := by
  unfold State.memCapture
  exact Keeps.ite (State.captureErr_keeps h) h

theorem State.sramError_keeps {o s : State} {a : Nat} {double : Bool} (h : Keeps o s) :
    Keeps o (State.sramError s a double) := by
  unfold State.sramError
  refine Keeps.ite ?_ ?_
  · exact State.report_keeps (State.memCount_keeps (State.memCapture_keeps (State.poisonWord_keeps h)))
  · exact State.report_keeps (State.memCount_keeps h)

theorem State.abandonHead_keeps {o s : State} {sid : Nat} (h : Keeps o s) : Keeps o (State.abandonHead s sid) := by
  unfold State.abandonHead
  split
  · exact h
  · extract_lets s1 l2 x3 n4 swap5 x6
    have hs1 : Keeps o s1 := by
      unfold s1
      exact State.report_keeps (State.bump_keeps h)
    clear_value s1
    refine Keeps.ite ?_ ?_
    · exact State.stopFrame_keeps hs1
    · refine Keeps.ite ?_ ?_
      · exact State.setUpl_keeps hs1
      · exact Keeps.ite (State.setStream_keeps hs1) (State.pushOrLose_keeps (State.stopFrame_keeps hs1))

theorem State.sramConsumer_keeps {o s : State} {a : Nat} {sid : Option Nat} (h : Keeps o s) :
    Keeps o (State.sramConsumer s a sid) := by
  unfold State.sramConsumer
  extract_lets sl1 x2 s3 halt4 x5
  have hs3 : Keeps o s3 := by
    unfold s3
    exact State.setUpl_keeps h
  clear_value s3
  refine Keeps.ite ?_ ?_
  · exact Keeps.ite (State.deferRepair_keeps h) (Keeps.ite (State.engTrap_keeps h) h)
  · refine Keeps.ite ?_ ?_
    · split
      · exact State.abandonHead_keeps hs3
      · exact hs3
    · refine Keeps.ite ?_ ?_
      · refine Keeps.of_mk ?_ rfl
        exact h
      · exact h

theorem execSramEccRead_keeps {o : State} {addr : BitVec 48} {double : Bool} {sid : Option (BitVec 12)} {s : State}
    (h : Keeps o s) :
    KeepsOut o (execSramEccRead addr double sid s) := by
  unfold execSramEccRead
  extract_lets a1 s2
  have hs2 : Keeps o s2 := by
    unfold s2
    exact State.sramError_keeps h
  clear_value s2
  exact KeepsOut.next (Keeps.ite h (Keeps.ite (State.sramConsumer_keeps hs2) hs2))

theorem execSramScrub_keeps {o : State} {addr : BitVec 48} {double : Bool} {s : State} (h : Keeps o s) :
    KeepsOut o (execSramScrub addr double s) := by
  unfold execSramScrub
  extract_lets a1
  exact KeepsOut.next (Keeps.ite h (State.sramError_keeps h))

theorem State.channelFail_keeps {o s : State} {ch : Nat} (h : Keeps o s) : Keeps o (State.channelFail s ch) := by
  unfold State.channelFail
  exact State.raiseF_keeps h

theorem State.lpTransfer_keeps {o s : State} {ch : Nat} (h : Keeps o s) : Keeps o (State.lpTransfer s ch) := by
  unfold State.lpTransfer
  extract_lets now1 e2 x3 s4 x5
  have hs4 : Keeps o s4 := by
    unfold s4
    refine Keeps.of_mk ?_ rfl
    exact h
  clear_value s4
  refine Keeps.ite ?_ ?_
  · with_reducible apply State.channelFail_keeps
    refine Keeps.of_mk ?_ rfl
    exact hs4
  · exact hs4

theorem State.lpUncorrected_keeps {o s : State} {a : Nat} (h : Keeps o s) : Keeps o (State.lpUncorrected s a) := by
  unfold State.lpUncorrected
  exact State.lpTransfer_keeps (State.report_keeps h)

theorem State.lpError_keeps {o s : State} {a : Nat} {err : LpError} (h : Keeps o s) :
    Keeps o (State.lpError s a err) := by
  unfold State.lpError
  extract_lets ch1 bad2
  have hbad2 : ∀ y0 y1, Keeps o y0 → Keeps o (bad2 y0 y1) := by
    unfold bad2
    intro k3 k4 k5
    exact State.lpUncorrected_keeps (State.captureErr_keeps (State.poisonWord_keeps k5))
  clear_value bad2
  split
  · exact State.bump_keeps h
  · exact State.lpTransfer_keeps (State.bump_keeps h)
  · exact State.lpUncorrected_keeps (State.captureErr_keeps (State.bump_keeps h))
  · with_reducible apply hbad2
    exact State.fillBlock_keeps (State.bump_keeps h)
  · exact State.report_keeps (State.bump_keeps h)
  · with_reducible apply hbad2
    exact State.bump_keeps h

theorem State.badRead_keeps {o s : State} {p : Nat} {a : Nat} (h : Keeps o s) : Keeps o (State.badRead s p a) := by
  unfold State.badRead
  extract_lets w1 mark2 g3 s4 c5
  have hs4 : Keeps o s4 := by
    unfold s4
    exact State.setIngest_keeps h
  clear_value s4
  exact State.setCam_keeps hs4

theorem State.lpConsumer_keeps {o s : State} {a : Nat} {z2 : LpUse} (h : Keeps o s) :
    Keeps o (State.lpConsumer s a z2) := by
  unfold State.lpConsumer
  split
  · exact h
  · extract_lets s1
    have hs1 : Keeps o s1 := by
      unfold s1
      exact State.badRead_keeps h
    clear_value s1
    split
    · exact State.report_keeps (State.bump_keeps hs1)
    · exact hs1
  · extract_lets s2 s3
    have hs2 : Keeps o s2 := by
      unfold s2
      exact State.badRead_keeps h
    clear_value s2
    have hs3 : Keeps o s3 := by
      unfold s3
      split
      · exact State.bump_keeps hs2
      · exact hs2
    clear_value s3
    exact State.report_keeps hs3
  · split
    · exact h
    · extract_lets s4
      have hs4 : Keeps o s4 := by
        unfold s4
        exact State.editFrame_keeps h
      clear_value s4
      exact Keeps.ite (State.report_keeps hs4) (State.report_keeps hs4)

theorem execLpddrEccRead_keeps {o : State} {addr : BitVec 48} {err : LpError} {by_ : LpUse} {s : State}
    (h : Keeps o s) :
    KeepsOut o (execLpddrEccRead addr err by_ s) := by
  unfold execLpddrEccRead
  extract_lets a1
  exact KeepsOut.next (Keeps.ite h (Keeps.ite (State.lpError_keeps (State.lpConsumer_keeps h)) (State.lpError_keeps h)))

theorem execLpddrPatrolScrub_keeps {o : State} {addr : BitVec 48} {double : Bool} {s : State} (h : Keeps o s) :
    KeepsOut o (execLpddrPatrolScrub addr double s) := by
  unfold execLpddrPatrolScrub
  extract_lets a1
  exact KeepsOut.next (Keeps.ite h (State.lpError_keeps h))

theorem execLpddrChannelFail_keeps {o : State} {channel : Fin 4} {s : State} (h : Keeps o s) :
    KeepsOut o (execLpddrChannelFail channel s) := by
  unfold execLpddrChannelFail
  exact KeepsOut.next (Keeps.ite (State.channelFail_keeps h) h)

theorem execZeroFillBlock_keeps {o s : State} (h : Keeps o s) : KeepsOut o (execZeroFillBlock s) := by
  unfold execZeroFillBlock
  extract_lets wm1 x2 s3 s4
  have hs3 : Keeps o s3 := by
    unfold s3
    refine Keeps.of_mk ?_ rfl
    exact h
  clear_value s3
  have hs4 : Keeps o s4 := by
    unfold s4
    exact State.setFlds_keeps hs3
  clear_value s4
  exact KeepsOut.next (Keeps.ite h (Keeps.ite (State.setFlds_keeps hs4) hs4))

theorem execFillOnWrite_keeps {o : State} {addr : BitVec 48} {s : State} (h : Keeps o s) :
    KeepsOut o (execFillOnWrite addr s) := by
  unfold execFillOnWrite
  exact KeepsOut.next (Keeps.ite (State.fillBlock_keeps h) h)

theorem execErraddrClear_keeps {o s : State} (h : Keeps o s) : KeepsOut o (execErraddrClear s) := by
  unfold execErraddrClear
  exact KeepsOut.next (Keeps.ite (State.setFld_keeps h) h)

theorem State.clearMemCounters_keeps {o s : State} (h : Keeps o s) : Keeps o (State.clearMemCounters s) := by
  unfold State.clearMemCounters
  refine Keeps.foldl ?_ ?_
  · exact State.setReg_keeps h
  · intro k1 k2 k3
    exact State.setReg_keeps (State.setReg_keeps k3)

theorem execMemcCounterClear_keeps {o s : State} (h : Keeps o s) : KeepsOut o (execMemcCounterClear s) := by
  unfold execMemcCounterClear
  exact KeepsOut.next (Keeps.ite (State.clearMemCounters_keeps h) h)

end Sys2Proof.Machine
end

