-- ==== Sys2Proof/Laws/KeepsExec.lean ====
section
/-!
SUPPORT. What every operation and every command keeps (Keeps): registers, the keeper, DMA, the engines, and the dispatch.
-/
namespace Sys2Proof.Machine

theorem State.readReg_keeps {o s : State} {p : Path} {a : Nat} (h : Keeps o s) : Keeps o (State.readReg s p a).2 := by
  unfold State.readReg
  split
  · exact h
  · extract_lets w1
    refine Keeps.ite_snd ?_ ?_
    · exact Keeps.ite_snd (State.readLog_keeps h) h
    · refine Keeps.ite_snd ?_ ?_
      · exact h
      · refine Keeps.ite_snd ?_ ?_
        · exact State.scapRead_keeps h
        · refine Keeps.ite_snd ?_ ?_
          · exact State.engMdata_keeps h
          · dsimp -zeta only
            exact State.clearOnRead_keeps (State.latch_keeps h)

theorem State.readRegs_keeps {o s : State} {p : Path} {z2 : List Nat} (h : Keeps o s) :
    Keeps o (State.readRegs s p z2).2 := by
  revert h
  fun_induction State.readRegs s p z2
  · intro k1
    exact k1
  · intro k2
    rename_i v3 v4 v5
    have hv3 : Keeps o v3.2 := by
      unfold v3
      exact State.readReg_keeps k2
    clear_value v3
    have hv4 : Keeps o v4.2 := by
      unfold v4
      with_reducible apply v5
      exact hv3
    clear_value v4
    exact hv4

theorem State.localRead_keeps {o s : State} {p : Path} {a : Nat} {n : Nat} (h : Keeps o s) :
    Keeps o (State.localRead s p a n).2 := by
  unfold State.localRead
  extract_lets x1
  have hx1 : Keeps o x1.2 := by
    unfold x1
    exact State.readRegs_keeps h
  clear_value x1
  exact Keeps.ite_snd hx1 h

theorem State.heartbeat_keeps {o s : State} {count : Nat} (h : Keeps o s) : Keeps o (State.heartbeat s count) := by
  unfold State.heartbeat
  extract_lets s1 x2
  have hs1 : Keeps o s1 := by
    unfold s1
    exact State.setFlds_keeps h
  clear_value s1
  refine Keeps.of_mk ?_ rfl
  exact hs1

theorem onBit_keeps {o : State} {v : Word} {k : Nat} {f : State → State} {s : State}
    (h : Keeps o s) (hf : ∀ (y0 : State), Keeps o y0 → Keeps o (f y0)) :
    Keeps o (onBit v k f s) := by
  unfold onBit
  refine Keeps.ite ?_ ?_
  · with_reducible apply hf
    exact h
  · exact h

theorem State.lkCtlWrite_keeps {o s : State} {l : Link} {v : Word} (h : Keeps o s) :
    Keeps o (State.lkCtlWrite s l v) := by
  unfold State.lkCtlWrite
  extract_lets s1 s2
  have hs1 : Keeps o s1 := by
    unfold s1
    exact State.linkEnable_keeps h
  clear_value s1
  have hs2 : Keeps o s2 := by
    unfold s2
    exact Keeps.ite (State.bridgeOff_keeps hs1) hs1
  clear_value s2
  with_reducible apply onBit_keeps
  · with_reducible apply onBit_keeps
    · exact hs2
    · intro k3 k4
      exact State.lkRetrain_keeps k4
  · intro k5 k6
    exact State.quadRetrain_keeps k6

theorem State.zeroRegs_keeps {o s : State} {z1 : List Nat} (h : Keeps o s) : Keeps o (State.zeroRegs s z1) := by
  revert h
  fun_induction State.zeroRegs s z1
  · intro k1
    exact k1
  · intro k2
    rename_i v3
    with_reducible apply v3
    exact State.setReg_keeps k2

theorem State.writeActs_keeps {o s : State} {b : Block} {i : Nat} {r : RegDesc} {k : Nat} {v : Word} (h : Keeps o s) :
    Keeps o (State.writeActs s b i r k v) := by
  unfold State.writeActs
  extract_lets n1 lk2 st3 s4 low5 freed6
  have hlk2 : Keeps o lk2 := by
    unfold lk2
    split
    · refine Keeps.ite ?_ ?_
      · exact State.lkCtlWrite_keeps h
      · refine Keeps.ite ?_ ?_
        · with_reducible apply onBit_keeps
          · exact h
          · intro k7 k8
            exact State.lkClear_keeps k8
        · exact h
    · exact h
  clear_value lk2
  have hs4 : Keeps o s4 := by
    unfold s4
    exact Keeps.ite (Keeps.ite (State.setFld_keeps h) h) (State.setFld_keeps h)
  clear_value s4
  split
  · refine Keeps.ite ?_ ?_
    · with_reducible apply onBit_keeps
      · with_reducible apply onBit_keeps
        · exact h
        · intro k9 k10
          extract_lets x11
          exact State.setUpl_keeps k10
      · intro k12 k13
        extract_lets x14
        exact State.setUpl_keeps k13
    · exact hlk2
  · refine Keeps.ite ?_ ?_
    · with_reducible apply onBit_keeps
      · exact h
      · intro k15 k16
        exact State.tsuSnap_keeps k16
    · exact Keeps.ite (State.timePins_keeps h) h
  · refine Keeps.ite ?_ ?_
    · with_reducible apply onBit_keeps
      · exact h
      · intro k17 k18
        exact State.pwerrClear_keeps k18
    · refine Keeps.ite ?_ ?_
      · with_reducible apply onBit_keeps
        · exact h
        · intro k19 k20
          exact State.brgClear_keeps k20
      · exact h
  · refine Keeps.ite ?_ ?_
    · with_reducible apply onBit_keeps
      · exact h
      · intro k21 k22
        exact State.chReset_keeps k22
    · exact h
  · refine Keeps.ite ?_ ?_
    · with_reducible apply onBit_keeps
      · exact h
      · intro k23 k24
        exact State.dmaClear_keeps k24
    · refine Keeps.ite ?_ ?_
      · exact h
      · refine Keeps.ite ?_ ?_
        · exact State.evSetWrite_keeps h
        · refine Keeps.ite ?_ ?_
          · exact State.evClrWrite_keeps h
          · refine Keeps.ite ?_ ?_
            · with_reducible apply onBit_keeps
              · with_reducible apply onBit_keeps
                · exact h
                · intro k25 k26
                  exact State.dmaGo_keeps k26
              · intro k27 k28
                exact State.dmaAbort_keeps k28
            · exact h
  · refine Keeps.ite ?_ ?_
    · with_reducible apply onBit_keeps
      · exact hs4
      · intro k29 k30
        exact State.canClear_keeps k30
    · exact h
  · refine Keeps.ite ?_ ?_
    · with_reducible apply onBit_keeps
      · exact h
      · intro k31 k32
        exact State.i2caClear_keeps k32
    · exact h
  · refine Keeps.ite ?_ ?_
    · with_reducible apply onBit_keeps
      · with_reducible apply onBit_keeps
        · with_reducible apply onBit_keeps
          · exact h
          · intro k33 k34
            exact State.i2cbGo_keeps (State.took_keeps k34)
        · intro k35 k36
          exact State.clrStuck_keeps (State.took_keeps k36)
      · intro k37 k38
        exact State.i2cbClear_keeps k38
    · exact h
  · refine Keeps.ite ?_ ?_
    · exact State.mapNext_keeps h
    · refine Keeps.ite ?_ ?_
      · with_reducible apply onBit_keeps
        · exact h
        · intro k39 k40
          exact State.zeroRegs_keeps k40
      · exact h
  · exact Keeps.ite (State.askPctl_keeps h) hlk2
  · refine Keeps.ite ?_ ?_
    · with_reducible apply onBit_keeps
      · exact h
      · intro k41 k42
        exact State.zeroRegs_keeps k42
    · refine Keeps.ite ?_ ?_
      · with_reducible apply onBit_keeps
        · exact h
        · intro k43 k44
          exact State.zeroRegs_keeps k44
      · refine Keeps.ite ?_ ?_
        · with_reducible apply onBit_keeps
          · exact h
          · intro k45 k46
            exact State.zeroRegs_keeps k46
        · refine Keeps.ite ?_ ?_
          · with_reducible apply onBit_keeps
            · with_reducible apply onBit_keeps
              · exact h
              · intro k47 k48
                extract_lets x49
                exact State.setEng_keeps k48
            · intro k50 k51
              exact State.zeroRegs_keeps k51
          · exact h
  · refine Keeps.ite ?_ ?_
    · with_reducible apply onBit_keeps
      · exact h
      · intro k52 k53
        exact State.clearMemCounters_keeps k53
    · exact h
  · exact Keeps.ite (State.heartbeat_keeps h) h
  · exact Keeps.ite (State.driveFaultN_keeps h) h
  · exact hlk2
  · exact h

theorem State.writeReg_keeps {o s : State} {a : Nat} {v : Word} {i2c : Bool} (h : Keeps o s) :
    Keeps o (State.writeReg s a v i2c) := by
  unfold State.writeReg
  split
  · exact h
  · refine Keeps.ite ?_ ?_
    · exact h
    · refine Keeps.ite ?_ ?_
      · exact State.doorbell_keeps h
      · refine Keeps.ite ?_ ?_
        · exact State.consumeResponses_keeps h
        · exact Keeps.ite (State.writeActs_keeps h) (State.writeActs_keeps (State.writePlain_keeps h))

theorem State.writeRegs_keeps {o s : State} {i2c : Bool} {z2 : List (Nat × Nat)} (h : Keeps o s) :
    Keeps o (State.writeRegs s i2c z2) := by
  revert h
  fun_induction State.writeRegs s i2c z2
  · intro k1
    exact k1
  · intro k2
    rename_i v3
    with_reducible apply v3
    exact State.writeReg_keeps k2

theorem State.writeCsr_keeps {o s : State} {a : Nat} {data : List Byte} {i2c : Bool} (h : Keeps o s) :
    Keeps o (State.writeCsr s a data i2c) := by
  unfold State.writeCsr
  exact State.writeRegs_keeps h

theorem State.giveReg_keeps {o s : State} {p : Path} {a : Nat} (h : Keeps o s) : Keeps o (State.giveReg s p a) := by
  unfold State.giveReg
  extract_lets x1 x2
  have hx1 : Keeps o x1.2 := by
    unfold x1
    exact State.readReg_keeps h
  clear_value x1
  have hx2 : Keeps o x2 := by
    unfold x2
    exact hx1
  clear_value x2
  refine Keeps.of_mk ?_ rfl
  exact hx2

theorem execSnapshotRead_keeps {o : State} {path : Path} {reg : Word} {s : State} (h : Keeps o s) :
    KeepsOut o (execSnapshotRead path reg s) := by
  unfold execSnapshotRead
  exact KeepsOut.next (Keeps.ite (State.giveReg_keeps h) h)

theorem execRclrRead_keeps {o : State} {path : Path} {reg : Word} {s : State} (h : Keeps o s) :
    KeepsOut o (execRclrRead path reg s) := by
  unfold execRclrRead
  exact KeepsOut.next (Keeps.ite (State.giveReg_keeps h) h)

theorem execRegisterWrite_keeps {o : State} {host : Option (BitVec 12)} {reg : Word} {value : Word} {s : State}
    (h : Keeps o s) :
    KeepsOut o (execRegisterWrite host reg value s) := by
  unfold execRegisterWrite
  extract_lets a1
  refine KeepsOut.next ?_
  split
  · exact Keeps.ite (State.writeReg_keeps h) h
  · split
    · exact State.pwFail_keeps h
    · exact Keeps.ite (State.writeReg_keeps h) h

theorem execHeartbeatWrite_keeps {o : State} {count : Word} {s : State} (h : Keeps o s) :
    KeepsOut o (execHeartbeatWrite count s) := by
  unfold execHeartbeatWrite
  exact KeepsOut.next (Keeps.ite (State.heartbeat_keeps h) h)

theorem State.newRead_keeps {o s : State} {p : Pkt} {a : Nat} {n : Nat} {fast : Bool} {old : Option Drb}
    (h : Keeps o s) :
    Keeps o (State.newRead s p a n fast old) := by
  unfold State.newRead
  extract_lets opc1 s2 form3 x4 d5 x6
  have hs2 : Keeps o s2 := by
    unfold s2
    split
    · exact Keeps.ite (State.bump_keeps (State.dropDrb_keeps h)) h
    · exact h
  clear_value s2
  have hx4 : Keeps o x4.2 := by
    unfold x4
    exact State.localRead_keeps hs2
  clear_value x4
  split
  · exact State.complete_keeps hs2
  · refine Keeps.ite ?_ ?_
    · exact Keeps.ite (State.complete_keeps hs2) (State.headRead_keeps hs2)
    · refine Keeps.ite ?_ ?_
      · exact State.complete_keeps hx4
      · refine Keeps.of_mk ?_ rfl
        exact hs2

theorem execBrgRead_keeps {o : State} {fast : Bool} {s : State} (h : Keeps o s) :
    KeepsOut o (execBrgRead fast s) := by
  unfold execBrgRead
  refine KeepsOut.next ?_
  with_reducible apply State.onPkt_keeps
  · exact h
  · intro k1 k2 k3
    extract_lets c4 a5 n6
    split
    · exact Keeps.ite (State.retryRead_keeps k3) (State.newRead_keeps k3)
    · exact State.newRead_keeps k3

theorem execBrgDelayedReadDone_keeps {o : State} {tag : BitVec 12} {s : State} (h : Keeps o s) :
    KeepsOut o (execBrgDelayedReadDone tag s) := by
  unfold execBrgDelayedReadDone
  refine KeepsOut.next ?_
  split
  · exact h
  · extract_lets x1 s2 k3 x4
    have hx1 : Keeps o x1.2 := by
      unfold x1
      exact State.localRead_keeps h
    clear_value x1
    have hs2 : Keeps o s2 := by
      unfold s2
      exact hx1
    clear_value s2
    refine Keeps.ite ?_ ?_
    · exact State.complete_keeps (State.dropDrb_keeps hs2)
    · refine Keeps.of_mk ?_ rfl
      exact hs2

theorem execBrgWrite_keeps {o s : State} (h : Keeps o s) : KeepsOut o (execBrgWrite s) := by
  unfold execBrgWrite
  refine KeepsOut.next ?_
  with_reducible apply State.onPkt_keeps
  · exact h
  · intro k1 k2 k3
    extract_lets c4 a5 n6 form7 data8 scope9
    split
    · exact State.pwFail_keeps k3
    · refine Keeps.ite ?_ ?_
      · exact State.headWrite_keeps k3
      · refine Keeps.ite ?_ ?_
        · exact State.writeCsr_keeps k3
        · exact Keeps.ite (State.pwFail_keeps (State.store_keeps k3)) (State.store_keeps k3)

theorem State.resetUplink_keeps {o s : State} (h : Keeps o s) : Keeps o (State.resetUplink s) := by
  unfold State.resetUplink
  extract_lets s1 x2 s3
  have hs1 : Keeps o s1 := by
    unfold s1
    exact State.clearBridge_keeps (State.bridgeOff_keeps (State.lkOff_keeps h))
  clear_value s1
  have hx2 : Keeps o x2 := by
    unfold x2
    exact State.clearRegs_keeps hs1
  clear_value x2
  have hs3 : Keeps o s3 := by
    unfold s3
    refine Keeps.of_mk ?_ rfl
    exact hx2
  clear_value s3
  exact Keeps.ite (State.lkOn_keeps (State.allocFifos_keeps hs3)) (State.clearBridge_keeps h)

theorem State.resetPeer_keeps {o s : State} (h : Keeps o s) : Keeps o (State.resetPeer s) := by
  unfold State.resetPeer
  extract_lets s1
  have hs1 : Keeps o s1 := by
    unfold s1
    exact State.clearPeer_keeps (State.lkOff_keeps h)
  clear_value s1
  exact Keeps.ite (State.loadSystem_keeps hs1) h

theorem State.resetBoardBus_keeps {o s : State} (h : Keeps o s) : Keeps o (State.resetBoardBus s) := by
  unfold State.resetBoardBus
  extract_lets x1 x2
  have hx1 : Keeps o x1 := by
    unfold x1
    exact State.clearRegs_keeps h
  clear_value x1
  refine Keeps.of_mk ?_ rfl
  exact hx1

theorem State.resetPixel_keeps {o s : State} (h : Keeps o s) : Keeps o (State.resetPixel s) := by
  unfold State.resetPixel
  refine Keeps.ite ?_ ?_
  · refine Keeps.foldl ?_ ?_
    · exact State.clearPixel_keeps h
    · intro k1 k2 k3
      exact Keeps.ite (State.setSstate_keeps k3) k3
  · exact h

theorem State.resetLpddr_keeps {o s : State} (h : Keeps o s) : Keeps o (State.resetLpddr s) := by
  unfold State.resetLpddr
  exact Keeps.ite (State.setFlds_keeps (State.clearLpddr_keeps h)) h

theorem State.resetPairs_keeps {o s : State} {a : Bool} {b : Bool} (h : Keeps o s) :
    Keeps o (State.resetPairs s a b) := by
  unfold State.resetPairs
  extract_lets y1 run2 a3 b4 up5 pairA6 pairB7
  refine Keeps.ite ?_ ?_
  · exact h
  · refine Keeps.of_mk ?_ rfl
    exact h

theorem State.resetFabric_keeps {o s : State} (h : Keeps o s) : Keeps o (State.resetFabric s) := by
  unfold State.resetFabric
  extract_lets mem1 s2 x3 x4 s5
  have hs2 : Keeps o s2 := by
    unfold s2
    exact State.clearRegs_keeps (State.tsuStop_keeps h)
  clear_value s2
  have hs5 : Keeps o s5 := by
    unfold s5
    refine Keeps.of_mk ?_ rfl
    exact hs2
  clear_value s5
  exact Keeps.ite (State.setFlds_keeps (State.tsuStart_keeps (State.openWindow0_keeps hs5))) h

theorem State.resetDomains_keeps {o s : State} {m : Nat} (h : Keeps o s) : Keeps o (State.resetDomains s m) := by
  unfold State.resetDomains
  extract_lets deep calm t on_ u v
  have ht : Keeps o t := Keeps.ite (State.keeperSafe_keeps h) h
  have hon : ∀ (k : Nat) (f : State → State) (x : State), (∀ y, Keeps o y → Keeps o (f y)) → Keeps o x → Keeps o (on_ k f x) :=
    fun k f x hf hx => Keeps.ite (hf x hx) hx
  have hu : Keeps o u := hon _ _ _ (fun _ => State.resetBoardBus_keeps) (hon _ (fun s => if s.domainOn .can then s.clearCan false else s) _ (fun _ hy => Keeps.ite (State.clearCan_keeps hy) hy)
    (hon _ _ _ (fun _ => State.resetPeer_keeps) (hon _ _ _ (fun _ => State.resetUplink_keeps) ht)))
  have hv : Keeps o v := State.resetPairs_keeps (hon _ _ _ (fun _ => State.resetLpddr_keeps)
    (hon _ _ _ (fun _ => State.resetPixel_keeps) hu))
  exact hon _ _ _ (fun _ => State.resetFabric_keeps) hv

theorem State.kstat_keeps {o s : State} {code : Nat} {err : Bool} (h : Keeps o s) :
    Keeps o (State.kstat s code err) := by
  unfold State.kstat
  exact State.setFlds_keeps h

theorem State.keeperDo_keeps {o s : State} {code : Nat} {karg : Word} {good : Bool} {act : State → Option State}
    (h : Keeps o s) (hact : ∀ (y0 : State), Keeps o y0 → KeepsOpt o (act y0)) :
    Keeps o (State.keeperDo s code karg good act) := by
  unfold State.keeperDo
  extract_lets s1 s2
  have hs1 : Keeps o s1 := by
    unfold s1
    exact State.setReg_keeps h
  clear_value s1
  have hs2 : Keeps o s2 := by
    unfold s2
    exact Keeps.ite (State.report_keeps hs1) hs1
  clear_value s2
  refine Keeps.ite ?_ ?_
  · exact h
  · refine Keeps.ite ?_ ?_
    · exact State.kstat_keeps hs1
    · have hd3 : KeepsOpt o (act s2) := by
        with_reducible apply hact
        exact hs2
      generalize (act s2) = d3 at hd3 ⊢
      rcases d3 with _ | d4a
      · try dsimp -zeta only
        exact State.kstat_keeps hs2
      · have kd4 := KeepsOpt.get hd3 rfl
        try dsimp -zeta only at kd4 ⊢
        exact State.kstat_keeps kd4

theorem State.kMarkRead_keeps {o s : State} {k : Word} (h : Keeps o s) : Keeps o (State.kMarkRead s k) := by
  unfold State.kMarkRead
  with_reducible apply State.keeperDo_keeps
  · exact h
  · intro k1 k2
    exact State.markRead_keeps k2

theorem State.kClear_keeps {o s : State} {k : Word} (h : Keeps o s) : Keeps o (State.kClear s k) := by
  unfold State.kClear
  with_reducible apply State.keeperDo_keeps
  · exact h
  · intro k1 k2
    exact State.clearRecord_keeps k2

theorem State.kIdle_keeps {o s : State} {k : Word} (h : Keeps o s) : Keeps o (State.kIdle s k) := by
  unfold State.kIdle
  with_reducible apply State.keeperDo_keeps
  · exact h
  · intro k1 k2
    exact KeepsOpt.ofSome (State.bridgeOff_keeps (State.lkOff_keeps (State.setFld_keeps k2)))

theorem State.kRelease_keeps {o s : State} {k : Word} (h : Keeps o s) : Keeps o (State.kRelease s k) := by
  unfold State.kRelease
  with_reducible apply State.keeperDo_keeps
  · exact h
  · intro k1 k2
    exact KeepsOpt.ofSome (State.lkOn_keeps (State.setFld_keeps k2))

theorem State.kDomains_keeps {o s : State} {k : Word} (h : Keeps o s) : Keeps o (State.kDomains s k) := by
  unfold State.kDomains
  with_reducible apply State.keeperDo_keeps
  · exact h
  · intro k1 k2
    exact KeepsOpt.ofSome (State.resetDomains_keeps k2)

theorem State.kReset_keeps {o s : State} {k : Word} (h : Keeps o s) : Keeps o (State.kReset s k) := by
  unfold State.kReset
  with_reducible apply State.keeperDo_keeps
  · exact h
  · intro k1 k2
    exact KeepsOpt.ofSome (Keeps.ite (State.enterBoot_keeps k2) k2)

theorem State.kSafe_keeps {o s : State} {k : Word} (h : Keeps o s) : Keeps o (State.kSafe s k) := by
  unfold State.kSafe
  with_reducible apply State.keeperDo_keeps
  · exact h
  · intro k1 k2
    exact KeepsOpt.ofSome (Keeps.ite (State.keeperSafe_keeps k2) k2)

theorem State.kMask_keeps {o s : State} {k : Word} (h : Keeps o s) : Keeps o (State.kMask s k) := by
  unfold State.kMask
  with_reducible apply State.keeperDo_keeps
  · exact h
  · intro k1 k2
    exact KeepsOpt.ofSome (State.driveFaultN_keeps (State.setFld_keeps k2))

theorem State.keeperCmd_keeps {o s : State} {code : Nat} {k : Word} (h : Keeps o s) :
    Keeps o (State.keeperCmd s code k) := by
  unfold State.keeperCmd
  split
  · exact State.kMarkRead_keeps h
  · exact State.kClear_keeps h
  · exact State.kIdle_keeps h
  · exact State.kRelease_keeps h
  · exact State.kDomains_keeps h
  · exact State.kReset_keeps h
  · exact State.kSafe_keeps h
  · exact State.kMask_keeps h
  · with_reducible apply State.keeperDo_keeps
    · exact h
    · intro k1 k2
      exact KeepsOpt.ofNone

theorem execKeeperMarkRead_keeps {o : State} {karg : Word} {s : State} (h : Keeps o s) :
    KeepsOut o (execKeeperMarkRead karg s) := by
  unfold execKeeperMarkRead
  exact KeepsOut.next (State.kMarkRead_keeps h)

theorem execKeeperClearRecord_keeps {o : State} {karg : Word} {s : State} (h : Keeps o s) :
    KeepsOut o (execKeeperClearRecord karg s) := by
  unfold execKeeperClearRecord
  exact KeepsOut.next (State.kClear_keeps h)

theorem execKeeperForceUplinkIdle_keeps {o : State} {karg : Word} {s : State} (h : Keeps o s) :
    KeepsOut o (execKeeperForceUplinkIdle karg s) := by
  unfold execKeeperForceUplinkIdle
  exact KeepsOut.next (State.kIdle_keeps h)

theorem execKeeperReleaseUplink_keeps {o : State} {karg : Word} {s : State} (h : Keeps o s) :
    KeepsOut o (execKeeperReleaseUplink karg s) := by
  unfold execKeeperReleaseUplink
  exact KeepsOut.next (State.kRelease_keeps h)

theorem execKeeperResetDomains_keeps {o : State} {karg : Word} {s : State} (h : Keeps o s) :
    KeepsOut o (execKeeperResetDomains karg s) := by
  unfold execKeeperResetDomains
  exact KeepsOut.next (State.kDomains_keeps h)

theorem execKeeperResetDevice_keeps {o : State} {karg : Word} {s : State} (h : Keeps o s) :
    KeepsOut o (execKeeperResetDevice karg s) := by
  unfold execKeeperResetDevice
  exact KeepsOut.next (State.kReset_keeps h)

theorem execKeeperEnterSafe_keeps {o : State} {karg : Word} {s : State} (h : Keeps o s) :
    KeepsOut o (execKeeperEnterSafe karg s) := by
  unfold execKeeperEnterSafe
  exact KeepsOut.next (State.kSafe_keeps h)

theorem execKeeperSetPinmask_keeps {o : State} {karg : Word} {s : State} (h : Keeps o s) :
    KeepsOut o (execKeeperSetPinmask karg s) := by
  unfold execKeeperSetPinmask
  exact KeepsOut.next (State.kMask_keeps h)

theorem execKeeperCommandRefused_keeps {o : State} {code : Byte} {karg : Word} {s : State} (h : Keeps o s) :
    KeepsOut o (execKeeperCommandRefused code karg s) := by
  unfold execKeeperCommandRefused
  refine KeepsOut.next ?_
  with_reducible apply State.keeperDo_keeps
  · exact h
  · intro k1 k2
    exact KeepsOpt.ofNone

theorem State.holdBoth_keeps {o s : State} (h : Keeps o s) : Keeps o (State.holdBoth s) := by
  unfold State.holdBoth
  extract_lets x1
  with_reducible apply State.setFlds_keeps
  refine Keeps.of_mk ?_ rfl
  exact h

theorem State.heartbeatLost_keeps {o s : State} (h : Keeps o s) : Keeps o (State.heartbeatLost s) := by
  unfold State.heartbeatLost
  extract_lets s1 x2 s3 again4 s5 x6
  have hs1 : Keeps o s1 := by
    unfold s1
    exact State.report_keeps h
  clear_value s1
  have hs3 : Keeps o s3 := by
    unfold s3
    refine Keeps.of_mk ?_ rfl
    exact hs1
  clear_value s3
  have hs5 : Keeps o s5 := by
    unfold s5
    exact State.cpxRestart_keeps (State.enterSafe_keeps hs3)
  clear_value s5
  split
  · exact hs3
  · exact State.enterBoot_keeps hs3
  · refine Keeps.ite ?_ ?_
    · exact State.holdBoth_keeps hs3
    · refine Keeps.of_mk ?_ rfl
      exact hs5

theorem execCpxHeartbeatLost_keeps {o s : State} (h : Keeps o s) : KeepsOut o (execCpxHeartbeatLost s) := by
  unfold execCpxHeartbeatLost
  exact KeepsOut.next (Keeps.ite (State.heartbeatLost_keeps h) h)

theorem State.holdPair_keeps {o s : State} {b : Bool} (h : Keeps o s) : Keeps o (State.holdPair s b) := by
  unfold State.holdPair
  extract_lets x1
  refine Keeps.ite ?_ ?_
  · with_reducible apply State.setFld_keeps
    refine Keeps.of_mk ?_ rfl
    exact h
  · with_reducible apply State.setFld_keeps
    refine Keeps.of_mk ?_ rfl
    exact h

theorem execLockstepMismatch_keeps {o : State} {pairB : Bool} {s : State} (h : Keeps o s) :
    KeepsOut o (execLockstepMismatch pairB s) := by
  unfold execLockstepMismatch
  extract_lets pick1 st2 s3
  have hs3 : Keeps o s3 := by
    unfold s3
    exact State.raiseF_keeps (State.holdPair_keeps h)
  clear_value s3
  refine KeepsOut.next ?_
  refine Keeps.ite ?_ ?_
  · exact h
  · refine Keeps.ite ?_ ?_
    · exact Keeps.ite hs3 (State.resetPairs_keeps hs3)
    · exact Keeps.ite (State.switchFails_keeps (State.report_keeps (State.holdPair_keeps h))) h

theorem State.windowBytes_keeps {o s : State} {p : Path} {z2 : Nat} {z3 : Nat} {z4 : Option Word} (h : Keeps o s) :
    Keeps o (State.windowBytes s p z2 z3 z4).2 := by
  revert h
  fun_induction State.windowBytes s p z2 z3 z4
  · intro k1
    exact k1
  · intro k2
    rename_i v3 v4 v5 v6
    have hv3 : Keeps o v3.2 := by
      unfold v3
      split
      · exact k2
      · split
        · exact State.readReg_keeps k2
        · exact k2
    clear_value v3
    have hv5 : Keeps o v5.2 := by
      unfold v5
      with_reducible apply v6
      exact hv3
    clear_value v5
    exact hv5

theorem State.setKoffset_keeps {o s : State} {p : Path} {z2 : Nat} (h : Keeps o s) :
    Keeps o (State.setKoffset s p z2) := by
  unfold State.setKoffset
  extract_lets x1
  refine Keeps.of_mk ?_ rfl
  exact h

theorem execKeeperOffsetSet_keeps {o : State} {kpr : Bool} {off : BitVec 16} {s : State} (h : Keeps o s) :
    KeepsOut o (execKeeperOffsetSet kpr off s) := by
  unfold execKeeperOffsetSet
  exact KeepsOut.next (Keeps.ite (State.setKoffset_keeps h) h)

theorem execKeeperWrite_keeps {o : State} {kpr : Bool} {off : BitVec 16} {data : List Byte} {s : State}
    (h : Keeps o s) :
    KeepsOut o (execKeeperWrite kpr off data s) := by
  unfold execKeeperWrite
  extract_lets o1 s2 s3
  have hs2 : Keeps o s2 := by
    unfold s2
    exact State.setKoffset_keeps h
  clear_value s2
  have hs3 : Keeps o s3 := by
    unfold s3
    split
    · exact State.setReg_keeps hs2
    · exact hs2
  clear_value s3
  refine KeepsOut.next ?_
  refine Keeps.ite ?_ ?_
  · split
    · exact State.keeperCmd_keeps hs3
    · exact hs3
  · exact h

theorem execKeeperRead_keeps {o : State} {kpr : Bool} {n : Nat} {s : State} (h : Keeps o s) :
    KeepsOut o (execKeeperRead kpr n s) := by
  unfold execKeeperRead
  extract_lets p1 o2 x3 s4
  have hx3 : Keeps o x3.2 := by
    unfold x3
    exact State.windowBytes_keeps h
  clear_value x3
  have hs4 : Keeps o s4 := by
    unfold s4
    exact State.setKoffset_keeps hx3
  clear_value s4
  refine KeepsOut.next ?_
  refine Keeps.ite ?_ ?_
  · refine Keeps.of_mk ?_ rfl
    exact hs4
  · exact h

theorem State.dmaStep_keeps {o s : State} {ch : Nat} {op : Nat} {f : State → Dma → List Byte → State}
    (h : Keeps o s) (hf : ∀ (y0 : State) (y1 : Dma) (y2 : List Byte), Keeps o y0 → Keeps o (f y0 y1 y2)) :
    Keeps o (State.dmaStep s ch op f) := by
  unfold State.dmaStep
  refine Keeps.ite ?_ ?_
  · exact h
  · split
    · exact h
    · extract_lets ins1
      refine Keeps.ite ?_ ?_
      · exact h
      · refine Keeps.ite ?_ ?_
        · exact State.dmaEnd_keeps h
        · refine Keeps.ite ?_ ?_
          · exact State.dmaEnd_keeps h
          · split
            · exact State.dmaEnd_keeps h
            · refine Keeps.ite ?_ ?_
              · with_reducible apply hf
                exact h
              · exact h

theorem execDmaMove_keeps {o : State} {ch : DmaCh} {s : State} (h : Keeps o s) : KeepsOut o (execDmaMove ch s) := by
  unfold execDmaMove
  refine KeepsOut.next ?_
  with_reducible apply State.dmaStep_keeps
  · exact h
  · intro k1 k2 k3 k4
    extract_lets mode5 len6 sfix7 dfix8 x9 d10
    exact Keeps.ite (State.dmaEnd_keeps k4) (Keeps.ite (State.dmaEnd_keeps k4) (State.setDma_keeps k4))

theorem State.burstRead_keeps {o s : State} {m : DmaMove} {n : Nat} (h : Keeps o s) :
    Keeps o (State.burstRead s m n).2 := by
  unfold State.burstRead
  extract_lets x1 r2 r3
  have hx1 : Keeps o x1.2 := by
    unfold x1
    exact State.readRegs_keeps h
  clear_value x1
  exact Keeps.ite_snd hx1 (Keeps.ite_snd h h)

theorem State.storeFixed_keeps {o s : State} {a : Nat} {data : List Byte} {z3 : List Nat} (h : Keeps o s) :
    Keeps o (State.storeFixed s a data z3) := by
  revert h
  fun_induction State.storeFixed s a data z3
  · intro k1
    exact k1
  · intro k2
    rename_i v3
    with_reducible apply v3
    exact State.store_keeps k2

theorem State.burstWrite_keeps {o s : State} {m : DmaMove} {data : List Byte} (h : Keeps o s) :
    Keeps o (State.burstWrite s m data) := by
  unfold State.burstWrite
  extract_lets n1
  exact Keeps.ite (State.writeRegs_keeps h) (Keeps.ite (State.storeFixed_keeps h) (State.store_keeps h))

theorem execDmaBurst_keeps {o : State} {ch : DmaCh} {s : State} (h : Keeps o s) : KeepsOut o (execDmaBurst ch s) := by
  unfold execDmaBurst
  refine KeepsOut.next ?_
  refine Keeps.ite ?_ ?_
  · exact h
  · split
    · exact h
    · split
      · exact h
      · extract_lets n1 x2 blocked3 m4 d5
        have hx2 : Keeps o x2.2 := by
          unfold x2
          exact State.burstRead_keeps h
        clear_value x2
        split
        · exact State.dmaEnd_keeps hx2
        · extract_lets s6
          have hs6 : Keeps o s6 := by
            unfold s6
            exact State.burstWrite_keeps hx2
          clear_value s6
          exact Keeps.ite (State.dmaEnd_keeps hx2) (Keeps.ite (State.dmaNext_keeps hs6) (State.setDma_keeps hs6))

theorem State.dmaEnter_keeps {o s : State} {ch : Nat} {d : Dma} {ins : List Byte} {l : DmaLoop} (h : Keeps o s) :
    Keeps o (State.dmaEnter s ch d ins l) := by
  unfold State.dmaEnter
  extract_lets body1 ks2
  exact Keeps.ite (State.setDma_keeps h) (Keeps.ite (State.dmaEnd_keeps h) (State.setDma_keeps h))

theorem execDmaLoop_keeps {o : State} {ch : DmaCh} {s : State} (h : Keeps o s) : KeepsOut o (execDmaLoop ch s) := by
  unfold execDmaLoop
  refine KeepsOut.next ?_
  with_reducible apply State.dmaStep_keeps
  · exact h
  · intro k1 k2 k3 k4
    exact State.dmaEnter_keeps k4

theorem execDmaNest3_keeps {o : State} {ch : DmaCh} {s : State} (h : Keeps o s) : KeepsOut o (execDmaNest3 ch s) := by
  unfold execDmaNest3
  refine KeepsOut.next ?_
  with_reducible apply State.dmaStep_keeps
  · exact h
  · intro k1 k2 k3 k4
    extract_lets steps5
    exact Keeps.ite (State.dmaEnd_keeps k4) (State.dmaEnter_keeps k4)

theorem execDmaWait_keeps {o : State} {ch : DmaCh} {s : State} (h : Keeps o s) : KeepsOut o (execDmaWait ch s) := by
  unfold execDmaWait
  refine KeepsOut.next ?_
  with_reducible apply State.dmaStep_keeps
  · exact h
  · intro k1 k2 k3 k4
    extract_lets kind5 clr6 arg7 time8 tmo9 w10
    refine Keeps.ite ?_ ?_
    · exact State.dmaNext_keeps (Keeps.ite (State.setEvFlag_keeps k4) k4)
    · exact Keeps.ite (State.dmaNext_keeps k4) (State.setDma_keeps k4)

theorem State.dmaWaitEnd_keeps {o s : State} {ch : Nat} {p : DmaWait → Bool} {f : State → Dma → DmaWait → State}
    (h : Keeps o s) (hf : ∀ (y0 : State) (y1 : Dma) (y2 : DmaWait), Keeps o y0 → Keeps o (f y0 y1 y2)) :
    Keeps o (State.dmaWaitEnd s ch p f) := by
  unfold State.dmaWaitEnd
  refine Keeps.ite ?_ ?_
  · exact h
  · split
    · exact h
    · split
      · exact h
      · refine Keeps.ite ?_ ?_
        · with_reducible apply hf
          exact h
        · exact h

theorem execDmaWaitTime_keeps {o : State} {ch : DmaCh} {s : State} (h : Keeps o s) :
    KeepsOut o (execDmaWaitTime ch s) := by
  unfold execDmaWaitTime
  refine KeepsOut.next ?_
  with_reducible apply State.dmaWaitEnd_keeps
  · exact h
  · intro k1 k2 k3 k4
    exact State.dmaNext_keeps k4

theorem execDmaWaitTimeout_keeps {o : State} {ch : DmaCh} {s : State} (h : Keeps o s) :
    KeepsOut o (execDmaWaitTimeout ch s) := by
  unfold execDmaWaitTimeout
  refine KeepsOut.next ?_
  with_reducible apply State.dmaWaitEnd_keeps
  · exact h
  · intro k1 k2 k3 k4
    exact State.dmaEnd_keeps k4

theorem execDmaSignal_keeps {o : State} {ch : DmaCh} {s : State} (h : Keeps o s) :
    KeepsOut o (execDmaSignal ch s) := by
  unfold execDmaSignal
  refine KeepsOut.next ?_
  with_reducible apply State.dmaStep_keeps
  · exact h
  · intro k1 k2 k3 k4
    extract_lets b5 s6 s7
    have hs6 : Keeps o s6 := by
      unfold s6
      exact Keeps.ite (State.evSet_keeps k4) k4
    clear_value s6
    have hs7 : Keeps o s7 := by
      unfold s7
      exact Keeps.ite (State.intrEvent_keeps hs6) hs6
    clear_value s7
    exact State.dmaNext_keeps hs7

theorem execDmaEnd_keeps {o : State} {ch : DmaCh} {s : State} (h : Keeps o s) : KeepsOut o (execDmaEnd ch s) := by
  unfold execDmaEnd
  refine KeepsOut.next ?_
  with_reducible apply State.dmaStep_keeps
  · exact h
  · intro k1 k2 k3 k4
    exact State.dmaEnd_keeps k4

theorem execEngAdd_keeps {o : State} {sl : Slice} {sd : BitVec 5} {sa : BitVec 5} {sb : BitVec 5} {s : State}
    (h : Keeps o s) :
    KeepsOut o (execEngAdd sl sd sa sb s) := by
  unfold execEngAdd
  exact KeepsOut.next (State.engScalar_keeps h)

theorem execEngSub_keeps {o : State} {sl : Slice} {sd : BitVec 5} {sa : BitVec 5} {sb : BitVec 5} {s : State}
    (h : Keeps o s) :
    KeepsOut o (execEngSub sl sd sa sb s) := by
  unfold execEngSub
  exact KeepsOut.next (State.engScalar_keeps h)

theorem execEngAnd_keeps {o : State} {sl : Slice} {sd : BitVec 5} {sa : BitVec 5} {sb : BitVec 5} {s : State}
    (h : Keeps o s) :
    KeepsOut o (execEngAnd sl sd sa sb s) := by
  unfold execEngAnd
  exact KeepsOut.next (State.engScalar_keeps h)

theorem execEngOr_keeps {o : State} {sl : Slice} {sd : BitVec 5} {sa : BitVec 5} {sb : BitVec 5} {s : State}
    (h : Keeps o s) :
    KeepsOut o (execEngOr sl sd sa sb s) := by
  unfold execEngOr
  exact KeepsOut.next (State.engScalar_keeps h)

theorem execEngXor_keeps {o : State} {sl : Slice} {sd : BitVec 5} {sa : BitVec 5} {sb : BitVec 5} {s : State}
    (h : Keeps o s) :
    KeepsOut o (execEngXor sl sd sa sb s) := by
  unfold execEngXor
  exact KeepsOut.next (State.engScalar_keeps h)

theorem execEngSll_keeps {o : State} {sl : Slice} {sd : BitVec 5} {sa : BitVec 5} {sb : BitVec 5} {s : State}
    (h : Keeps o s) :
    KeepsOut o (execEngSll sl sd sa sb s) := by
  unfold execEngSll
  exact KeepsOut.next (State.engScalar_keeps h)

theorem execEngSrl_keeps {o : State} {sl : Slice} {sd : BitVec 5} {sa : BitVec 5} {sb : BitVec 5} {s : State}
    (h : Keeps o s) :
    KeepsOut o (execEngSrl sl sd sa sb s) := by
  unfold execEngSrl
  exact KeepsOut.next (State.engScalar_keeps h)

theorem execEngSra_keeps {o : State} {sl : Slice} {sd : BitVec 5} {sa : BitVec 5} {sb : BitVec 5} {s : State}
    (h : Keeps o s) :
    KeepsOut o (execEngSra sl sd sa sb s) := by
  unfold execEngSra
  exact KeepsOut.next (State.engScalar_keeps h)

theorem execEngMul_keeps {o : State} {sl : Slice} {sd : BitVec 5} {sa : BitVec 5} {sb : BitVec 5} {s : State}
    (h : Keeps o s) :
    KeepsOut o (execEngMul sl sd sa sb s) := by
  unfold execEngMul
  exact KeepsOut.next (State.engScalar_keeps h)

theorem execEngMulh_keeps {o : State} {sl : Slice} {sd : BitVec 5} {sa : BitVec 5} {sb : BitVec 5} {s : State}
    (h : Keeps o s) :
    KeepsOut o (execEngMulh sl sd sa sb s) := by
  unfold execEngMulh
  exact KeepsOut.next (State.engScalar_keeps h)

theorem execEngMulhu_keeps {o : State} {sl : Slice} {sd : BitVec 5} {sa : BitVec 5} {sb : BitVec 5} {s : State}
    (h : Keeps o s) :
    KeepsOut o (execEngMulhu sl sd sa sb s) := by
  unfold execEngMulhu
  exact KeepsOut.next (State.engScalar_keeps h)

theorem execEngSlt_keeps {o : State} {sl : Slice} {sd : BitVec 5} {sa : BitVec 5} {sb : BitVec 5} {s : State}
    (h : Keeps o s) :
    KeepsOut o (execEngSlt sl sd sa sb s) := by
  unfold execEngSlt
  exact KeepsOut.next (State.engScalar_keeps h)

theorem execEngSltu_keeps {o : State} {sl : Slice} {sd : BitVec 5} {sa : BitVec 5} {sb : BitVec 5} {s : State}
    (h : Keeps o s) :
    KeepsOut o (execEngSltu sl sd sa sb s) := by
  unfold execEngSltu
  exact KeepsOut.next (State.engScalar_keeps h)

theorem execEngMin_keeps {o : State} {sl : Slice} {sd : BitVec 5} {sa : BitVec 5} {sb : BitVec 5} {s : State}
    (h : Keeps o s) :
    KeepsOut o (execEngMin sl sd sa sb s) := by
  unfold execEngMin
  exact KeepsOut.next (State.engScalar_keeps h)

theorem execEngMax_keeps {o : State} {sl : Slice} {sd : BitVec 5} {sa : BitVec 5} {sb : BitVec 5} {s : State}
    (h : Keeps o s) :
    KeepsOut o (execEngMax sl sd sa sb s) := by
  unfold execEngMax
  exact KeepsOut.next (State.engScalar_keeps h)

theorem execEngClz_keeps {o : State} {sl : Slice} {sd : BitVec 5} {sa : BitVec 5} {s : State} (h : Keeps o s) :
    KeepsOut o (execEngClz sl sd sa s) := by
  unfold execEngClz
  exact KeepsOut.next (State.engScalar_keeps h)

theorem execEngAddi_keeps {o : State} {sl : Slice} {sd : BitVec 5} {sa : BitVec 5} {imm : BitVec 14} {s : State}
    (h : Keeps o s) :
    KeepsOut o (execEngAddi sl sd sa imm s) := by
  unfold execEngAddi
  exact KeepsOut.next (State.engScalar_keeps h)

theorem execEngAndi_keeps {o : State} {sl : Slice} {sd : BitVec 5} {sa : BitVec 5} {imm : BitVec 14} {s : State}
    (h : Keeps o s) :
    KeepsOut o (execEngAndi sl sd sa imm s) := by
  unfold execEngAndi
  exact KeepsOut.next (State.engScalar_keeps h)

theorem execEngOri_keeps {o : State} {sl : Slice} {sd : BitVec 5} {sa : BitVec 5} {imm : BitVec 14} {s : State}
    (h : Keeps o s) :
    KeepsOut o (execEngOri sl sd sa imm s) := by
  unfold execEngOri
  exact KeepsOut.next (State.engScalar_keeps h)

theorem execEngXori_keeps {o : State} {sl : Slice} {sd : BitVec 5} {sa : BitVec 5} {imm : BitVec 14} {s : State}
    (h : Keeps o s) :
    KeepsOut o (execEngXori sl sd sa imm s) := by
  unfold execEngXori
  exact KeepsOut.next (State.engScalar_keeps h)

theorem execEngSlli_keeps {o : State} {sl : Slice} {sd : BitVec 5} {sa : BitVec 5} {sh : BitVec 5} {s : State}
    (h : Keeps o s) :
    KeepsOut o (execEngSlli sl sd sa sh s) := by
  unfold execEngSlli
  exact KeepsOut.next (State.engScalar_keeps h)

theorem execEngSrli_keeps {o : State} {sl : Slice} {sd : BitVec 5} {sa : BitVec 5} {sh : BitVec 5} {s : State}
    (h : Keeps o s) :
    KeepsOut o (execEngSrli sl sd sa sh s) := by
  unfold execEngSrli
  exact KeepsOut.next (State.engScalar_keeps h)

theorem execEngSrai_keeps {o : State} {sl : Slice} {sd : BitVec 5} {sa : BitVec 5} {sh : BitVec 5} {s : State}
    (h : Keeps o s) :
    KeepsOut o (execEngSrai sl sd sa sh s) := by
  unfold execEngSrai
  exact KeepsOut.next (State.engScalar_keeps h)

theorem execEngSlti_keeps {o : State} {sl : Slice} {sd : BitVec 5} {sa : BitVec 5} {imm : BitVec 14} {s : State}
    (h : Keeps o s) :
    KeepsOut o (execEngSlti sl sd sa imm s) := by
  unfold execEngSlti
  exact KeepsOut.next (State.engScalar_keeps h)

theorem execEngLui_keeps {o : State} {sl : Slice} {sd : BitVec 5} {imm : BitVec 19} {s : State} (h : Keeps o s) :
    KeepsOut o (execEngLui sl sd imm s) := by
  unfold execEngLui
  exact KeepsOut.next (State.engScalar_keeps h)

theorem State.engBranch_keeps {o s : State} {sl : Slice} {c : Cond} {sa : BitVec 5} {sb : BitVec 5} {off : BitVec 14}
    (h : Keeps o s) :
    Keeps o (State.engBranch s sl c sa sb off) := by
  unfold State.engBranch
  extract_lets taken1
  with_reducible apply State.engIssue_keeps
  · exact h
  · intro k2 k3 k4
    exact k4

theorem execEngBeq_keeps {o : State} {sl : Slice} {sa : BitVec 5} {sb : BitVec 5} {off : BitVec 14} {s : State}
    (h : Keeps o s) :
    KeepsOut o (execEngBeq sl sa sb off s) := by
  unfold execEngBeq
  exact KeepsOut.next (State.engBranch_keeps h)

theorem execEngBne_keeps {o : State} {sl : Slice} {sa : BitVec 5} {sb : BitVec 5} {off : BitVec 14} {s : State}
    (h : Keeps o s) :
    KeepsOut o (execEngBne sl sa sb off s) := by
  unfold execEngBne
  exact KeepsOut.next (State.engBranch_keeps h)

theorem execEngBlt_keeps {o : State} {sl : Slice} {sa : BitVec 5} {sb : BitVec 5} {off : BitVec 14} {s : State}
    (h : Keeps o s) :
    KeepsOut o (execEngBlt sl sa sb off s) := by
  unfold execEngBlt
  exact KeepsOut.next (State.engBranch_keeps h)

theorem execEngBge_keeps {o : State} {sl : Slice} {sa : BitVec 5} {sb : BitVec 5} {off : BitVec 14} {s : State}
    (h : Keeps o s) :
    KeepsOut o (execEngBge sl sa sb off s) := by
  unfold execEngBge
  exact KeepsOut.next (State.engBranch_keeps h)

theorem execEngBltu_keeps {o : State} {sl : Slice} {sa : BitVec 5} {sb : BitVec 5} {off : BitVec 14} {s : State}
    (h : Keeps o s) :
    KeepsOut o (execEngBltu sl sa sb off s) := by
  unfold execEngBltu
  exact KeepsOut.next (State.engBranch_keeps h)

theorem execEngBgeu_keeps {o : State} {sl : Slice} {sa : BitVec 5} {sb : BitVec 5} {off : BitVec 14} {s : State}
    (h : Keeps o s) :
    KeepsOut o (execEngBgeu sl sa sb off s) := by
  unfold execEngBgeu
  exact KeepsOut.next (State.engBranch_keeps h)

theorem execEngJal_keeps {o : State} {sl : Slice} {sa : BitVec 5} {off : BitVec 14} {s : State} (h : Keeps o s) :
    KeepsOut o (execEngJal sl sa off s) := by
  unfold execEngJal
  refine KeepsOut.next ?_
  with_reducible apply State.engIssue_keeps
  · exact h
  · intro k1 k2 k3
    dsimp -zeta only
    exact State.setEng_keeps k3

theorem execEngJr_keeps {o : State} {sl : Slice} {sa : BitVec 5} {sb : BitVec 5} {s : State} (h : Keeps o s) :
    KeepsOut o (execEngJr sl sa sb s) := by
  unfold execEngJr
  refine KeepsOut.next ?_
  with_reducible apply State.engIssue_keeps
  · exact h
  · intro k1 k2 k3
    dsimp -zeta only
    exact State.setEng_keeps k3

theorem execEngLoop_keeps {o : State} {sl : Slice} {sa : BitVec 5} {off : BitVec 14} {s : State} (h : Keeps o s) :
    KeepsOut o (execEngLoop sl sa off s) := by
  unfold execEngLoop
  refine KeepsOut.next ?_
  with_reducible apply State.engIssue_keeps
  · exact h
  · intro k1 k2 k3
    extract_lets pc4 n5 inside6 s7
    have hs7 : Keeps o s7 := by
      unfold s7
      exact State.setEng_keeps k3
    clear_value s7
    refine Keeps.ite_fst ?_ ?_
    · exact k3
    · refine Keeps.ite_fst ?_ ?_
      · exact k3
      · refine Keeps.ite_fst ?_ ?_
        · exact k3
        · dsimp -zeta only
          exact State.setFld_keeps hs7

theorem execEngHalt_keeps {o : State} {sl : Slice} {s : State} (h : Keeps o s) : KeepsOut o (execEngHalt sl s) := by
  unfold execEngHalt
  refine KeepsOut.next ?_
  with_reducible apply State.engIssue_keeps
  · exact h
  · intro k1 k2 k3
    dsimp -zeta only
    exact State.report_keeps (State.engStop_keeps k3)

theorem execEngVadd_keeps {o : State} {sl : Slice} {vd : BitVec 3} {va : BitVec 3} {vb : BitVec 3} {sat : Bool} {sgn : Bool} {s : State}
    (h : Keeps o s) :
    KeepsOut o (execEngVadd sl vd va vb sat sgn s) := by
  unfold execEngVadd
  exact KeepsOut.next (State.engVector_keeps h)

theorem execEngVsub_keeps {o : State} {sl : Slice} {vd : BitVec 3} {va : BitVec 3} {vb : BitVec 3} {sat : Bool} {sgn : Bool} {s : State}
    (h : Keeps o s) :
    KeepsOut o (execEngVsub sl vd va vb sat sgn s) := by
  unfold execEngVsub
  exact KeepsOut.next (State.engVector_keeps h)

theorem execEngVmulq_keeps {o : State} {sl : Slice} {vd : BitVec 3} {va : BitVec 3} {vb : BitVec 3} {sb : BitVec 5} {sat : Bool} {sgn : Bool} {s : State}
    (h : Keeps o s) :
    KeepsOut o (execEngVmulq sl vd va vb sb sat sgn s) := by
  unfold execEngVmulq
  exact KeepsOut.next (State.engVector_keeps h)

theorem execEngVmacq_keeps {o : State} {sl : Slice} {vd : BitVec 3} {va : BitVec 3} {vb : BitVec 3} {sb : BitVec 5} {sat : Bool} {sgn : Bool} {s : State}
    (h : Keeps o s) :
    KeepsOut o (execEngVmacq sl vd va vb sb sat sgn s) := by
  unfold execEngVmacq
  exact KeepsOut.next (State.engVector_keeps h)

theorem execEngVmin_keeps {o : State} {sl : Slice} {vd : BitVec 3} {va : BitVec 3} {vb : BitVec 3} {sgn : Bool} {s : State}
    (h : Keeps o s) :
    KeepsOut o (execEngVmin sl vd va vb sgn s) := by
  unfold execEngVmin
  exact KeepsOut.next (State.engVector_keeps h)

theorem execEngVmax_keeps {o : State} {sl : Slice} {vd : BitVec 3} {va : BitVec 3} {vb : BitVec 3} {sgn : Bool} {s : State}
    (h : Keeps o s) :
    KeepsOut o (execEngVmax sl vd va vb sgn s) := by
  unfold execEngVmax
  exact KeepsOut.next (State.engVector_keeps h)

theorem execEngVabsd_keeps {o : State} {sl : Slice} {vd : BitVec 3} {va : BitVec 3} {vb : BitVec 3} {sgn : Bool} {s : State}
    (h : Keeps o s) :
    KeepsOut o (execEngVabsd sl vd va vb sgn s) := by
  unfold execEngVabsd
  exact KeepsOut.next (State.engVector_keeps h)

theorem execEngVand_keeps {o : State} {sl : Slice} {vd : BitVec 3} {va : BitVec 3} {vb : BitVec 3} {s : State}
    (h : Keeps o s) :
    KeepsOut o (execEngVand sl vd va vb s) := by
  unfold execEngVand
  exact KeepsOut.next (State.engVector_keeps h)

theorem execEngVor_keeps {o : State} {sl : Slice} {vd : BitVec 3} {va : BitVec 3} {vb : BitVec 3} {s : State}
    (h : Keeps o s) :
    KeepsOut o (execEngVor sl vd va vb s) := by
  unfold execEngVor
  exact KeepsOut.next (State.engVector_keeps h)

theorem execEngVxor_keeps {o : State} {sl : Slice} {vd : BitVec 3} {va : BitVec 3} {vb : BitVec 3} {s : State}
    (h : Keeps o s) :
    KeepsOut o (execEngVxor sl vd va vb s) := by
  unfold execEngVxor
  exact KeepsOut.next (State.engVector_keeps h)

theorem execEngVshl_keeps {o : State} {sl : Slice} {vd : BitVec 3} {va : BitVec 3} {sb : BitVec 5} {sat : Bool} {sgn : Bool} {s : State}
    (h : Keeps o s) :
    KeepsOut o (execEngVshl sl vd va sb sat sgn s) := by
  unfold execEngVshl
  exact KeepsOut.next (State.engVector_keeps h)

theorem execEngVshr_keeps {o : State} {sl : Slice} {vd : BitVec 3} {va : BitVec 3} {sb : BitVec 5} {sgn : Bool} {s : State}
    (h : Keeps o s) :
    KeepsOut o (execEngVshr sl vd va sb sgn s) := by
  unfold execEngVshr
  exact KeepsOut.next (State.engVector_keeps h)

theorem execEngVsplat_keeps {o : State} {sl : Slice} {vd : BitVec 3} {sb : BitVec 5} {s : State} (h : Keeps o s) :
    KeepsOut o (execEngVsplat sl vd sb s) := by
  unfold execEngVsplat
  exact KeepsOut.next (State.engVector_keeps h)

theorem execEngVcmplt_keeps {o : State} {sl : Slice} {vd : BitVec 3} {va : BitVec 3} {vb : BitVec 3} {sgn : Bool} {s : State}
    (h : Keeps o s) :
    KeepsOut o (execEngVcmplt sl vd va vb sgn s) := by
  unfold execEngVcmplt
  exact KeepsOut.next (State.engVector_keeps h)

theorem execEngVcmpeq_keeps {o : State} {sl : Slice} {vd : BitVec 3} {va : BitVec 3} {vb : BitVec 3} {s : State}
    (h : Keeps o s) :
    KeepsOut o (execEngVcmpeq sl vd va vb s) := by
  unfold execEngVcmpeq
  exact KeepsOut.next (State.engVector_keeps h)

theorem execEngVsel_keeps {o : State} {sl : Slice} {vd : BitVec 3} {va : BitVec 3} {vb : BitVec 3} {s : State}
    (h : Keeps o s) :
    KeepsOut o (execEngVsel sl vd va vb s) := by
  unfold execEngVsel
  exact KeepsOut.next (State.engVector_keeps h)

theorem execEngVslide_keeps {o : State} {sl : Slice} {vd : BitVec 3} {va : BitVec 3} {vb : BitVec 3} {sb : BitVec 5} {s : State}
    (h : Keeps o s) :
    KeepsOut o (execEngVslide sl vd va vb sb s) := by
  unfold execEngVslide
  exact KeepsOut.next (State.engVector_keeps h)

theorem execEngVrsum_keeps {o : State} {sl : Slice} {va : BitVec 3} {sb : BitVec 5} {sgn : Bool} {s : State}
    (h : Keeps o s) :
    KeepsOut o (execEngVrsum sl va sb sgn s) := by
  unfold execEngVrsum
  exact KeepsOut.next (State.engScalar_keeps h)

theorem State.setMgmtPtr_keeps {o s : State} {p : Nat} (h : Keeps o s) : Keeps o (State.setMgmtPtr s p) := by
  unfold State.setMgmtPtr
  exact State.setFlds_keeps h

theorem execI2caPointerSet_keeps {o : State} {addr : BitVec 7} {bytes : List Byte} {s : State} (h : Keeps o s) :
    KeepsOut o (execI2caPointerSet addr bytes s) := by
  unfold execI2caPointerSet
  exact KeepsOut.next (Keeps.ite (State.setMgmtPtr_keeps h) h)

theorem State.mgmtCode_keeps {o s : State} {code : Nat} {detail : Nat} (h : Keeps o s) :
    Keeps o (State.mgmtCode s code detail) := by
  unfold State.mgmtCode
  exact Keeps.ite (State.setFlds_keeps h) h

theorem State.mgmtFail_keeps {o s : State} {code : Nat} {detail : Nat} {n : Nat} (h : Keeps o s) :
    Keeps o (State.mgmtFail s code detail n) := by
  unfold State.mgmtFail
  exact State.bump_keeps (State.mgmtCode_keeps h)

theorem State.mgmtWrite_keeps {o s : State} {a : Nat} {data : List Byte} (h : Keeps o s) :
    Keeps o (State.mgmtWrite s a data) := by
  unfold State.mgmtWrite
  refine Keeps.ite ?_ ?_
  · exact State.writeCsr_keeps h
  · exact Keeps.ite (State.mgmtFail_keeps (State.store_keeps h)) (State.store_keeps h)

theorem execI2caWrite_keeps {o : State} {addr : BitVec 7} {p : BitVec 48} {data : List Byte} {s : State}
    (h : Keeps o s) :
    KeepsOut o (execI2caWrite addr p data s) := by
  unfold execI2caWrite
  extract_lets a1 d2 s3
  have hs3 : Keeps o s3 := by
    unfold s3
    exact State.setMgmtPtr_keeps h
  clear_value s3
  refine KeepsOut.next ?_
  refine Keeps.ite ?_ ?_
  · exact h
  · refine Keeps.ite ?_ ?_
    · exact hs3
    · split
      · exact State.mgmtFail_keeps hs3
      · exact State.mgmtWrite_keeps hs3

theorem State.mgmtBytes_keeps {o s : State} {page : Nat} {z2 : Nat} {z3 : Nat} {z4 : Option Word} (h : Keeps o s) :
    Keeps o (State.mgmtBytes s page z2 z3 z4).2 := by
  revert h
  fun_induction State.mgmtBytes s page z2 z3 z4
  · intro k1
    exact k1
  · intro k2
    rename_i v3 v4 v5 v6 v7 v8
    have hv7 : Keeps o v7.2 := by
      unfold v7
      with_reducible apply v8
      exact State.mgmtFail_keeps k2
    clear_value v7
    exact hv7
  · intro k9
    rename_i v10 v11 v12 v13 v14 v15
    have hv13 : Keeps o v13.2 := by
      unfold v13
      split
      · exact k9
      · exact State.readReg_keeps k9
    clear_value v13
    have hv14 : Keeps o v14.2 := by
      unfold v14
      with_reducible apply v15
      exact hv13
    clear_value v14
    exact hv14
  · intro k16
    rename_i v17 v18 v19 v20 v21 v22
    have hv21 : Keeps o v21.2 := by
      unfold v21
      with_reducible apply v22
      exact k16
    clear_value v21
    exact hv21

theorem execI2caRead_keeps {o : State} {addr : BitVec 7} {n : Nat} {s : State} (h : Keeps o s) :
    KeepsOut o (execI2caRead addr n s) := by
  unfold execI2caRead
  extract_lets a1 x2 s3
  have hx2 : Keeps o x2.2 := by
    unfold x2
    exact State.mgmtBytes_keeps h
  clear_value x2
  have hs3 : Keeps o s3 := by
    unfold s3
    exact State.setMgmtPtr_keeps hx2
  clear_value s3
  refine KeepsOut.next ?_
  refine Keeps.ite ?_ ?_
  · refine Keeps.of_mk ?_ rfl
    exact hs3
  · exact h

theorem execI2caWakeMatch_keeps {o : State} {addr : BitVec 7} {s : State} (h : Keeps o s) :
    KeepsOut o (execI2caWakeMatch addr s) := by
  unfold execI2caWakeMatch
  extract_lets x1
  refine KeepsOut.next ?_
  refine Keeps.ite ?_ ?_
  · with_reducible apply State.wakeUp_keeps
    refine Keeps.of_mk ?_ rfl
    exact h
  · exact h

theorem execI2caStretchTimeout_keeps {o : State} {addr : BitVec 7} {s : State} (h : Keeps o s) :
    KeepsOut o (execI2caStretchTimeout addr s) := by
  unfold execI2caStretchTimeout
  extract_lets x1
  refine KeepsOut.next ?_
  refine Keeps.ite ?_ ?_
  · with_reducible apply State.report_keeps
    with_reducible apply State.bump_keeps
    refine Keeps.of_mk ?_ rfl
    exact h
  · exact h

theorem exec_keeps {o : State} {i : Instr} {s : State} (h : Keeps o s) : KeepsOut o (exec i s) := by
  cases i
  case pwrgoodRising => exact execPwrgoodRising_keeps h
  case pwrgoodFalling => exact execPwrgoodFalling_keeps h
  case resetNRelease => exact execResetNRelease_keeps h
  case rootPllLock => exact execRootPllLock_keeps h
  case strapSampling => exact execStrapSampling_keeps h
  case bootImageLoaded => exact execBootImageLoaded_keeps h
  case bootEnd => exact execBootEnd_keeps h
  case bootWatchdogExpiry => exact execBootWatchdogExpiry_keeps h
  case modeTransitionComplete => exact execModeTransitionComplete_keeps h
  case wakePendClear => exact execWakePendClear_keeps h
  case kprSafeNRequest => exact execKprSafeNRequest_keeps h
  case laneLos => exact execLaneLos_keeps h
  case laneLosRelease => exact execLaneLosRelease_keeps h
  case laneLol => exact execLaneLol_keeps h
  case laneLock => exact execLaneLock_keeps h
  case alignmentMarker => exact execAlignmentMarker_keeps h
  case lossOfAlignment => exact execLossOfAlignment_keeps h
  case rsnextTimeout => exact execRsnextTimeout_keeps h
  case trainingFrame => exact execTrainingFrame_keeps h
  case stepReq => exact execStepReq_keeps h
  case stepAck => exact execStepAck_keeps h
  case stepNak => exact execStepNak_keeps h
  case goOper => exact execGoOper_keeps h
  case quadJoin => exact execQuadJoin_keeps h
  case dwellPass => exact execDwellPass_keeps h
  case stepTimerExpiry => exact execStepTimerExpiry_keeps h
  case detectRetry => exact execDetectRetry_keeps h
  case linkRetrain => exact execLinkRetrain_keeps h
  case quadRetrain => exact execQuadRetrain_keeps h
  case linkCounterClear => exact execLinkCounterClear_keeps h
  case tapInstructionUpdate => exact execTapInstructionUpdate_keeps h
  case frameStart => exact execFrameStart_keeps h
  case linePacket => exact execLinePacket_keeps h
  case frameEnd => exact execFrameEnd_keeps h
  case headerCrcFailure => exact execHeaderCrcFailure_keeps h
  case lineWatchdogExpiry => exact execLineWatchdogExpiry_keeps h
  case frameWatchdogExpiry => exact execFrameWatchdogExpiry_keeps h
  case headStatus => exact execHeadStatus_keeps h
  case headResponse => exact execHeadResponse_keeps h
  case backchannelCommandSend => exact execBackchannelCommandSend_keeps h
  case backchannelTimeout => exact execBackchannelTimeout_keeps h
  case reauthTimer => exact execReauthTimer_keeps h
  case wearWriteTimer => exact execWearWriteTimer_keeps h
  case lensContrastHourly => exact execLensContrastHourly_keeps h
  case keeperShadowCopy => exact execKeeperShadowCopy_keeps h
  case ppsEdge => exact execPpsEdge_keeps h
  case ppsLoss => exact execPpsLoss_keeps h
  case slewEnd => exact execSlewEnd_keeps h
  case ppsOutPulse => exact execPpsOutPulse_keeps h
  case ppsOutPulseEnd => exact execPpsOutPulseEnd_keeps h
  case tsyncSchedule => exact execTsyncSchedule_keeps h
  case headTimeStale => exact execHeadTimeStale_keeps h
  case triggerDispatch => exact execTriggerDispatch_keeps h
  case syncOutputEdge => exact execSyncOutputEdge_keeps h
  case syncInputEdge => exact execSyncInputEdge_keeps h
  case scapPop => exact execScapPop_keeps h
  case tsuSnap => exact execTsuSnap_keeps h
  case motionDeadline => exact execMotionDeadline_keeps h
  case latticeAssemblyStart => exact execLatticeAssemblyStart_keeps h
  case latticeAssemblyEnd => exact execLatticeAssemblyEnd_keeps h
  case latticeSkip => exact execLatticeSkip_keeps h
  case streamStatusRepeat => exact execStreamStatusRepeat_keeps h
  case statsSetComplete => exact execStatsSetComplete_keeps h
  case pqSensorDispatch => exact execPqSensorDispatch_keeps h
  case pqPipeLatch => exact execPqPipeLatch_keeps h
  case pqDeadlinePass => exact execPqDeadlinePass_keeps h
  case engAdd => exact execEngAdd_keeps h
  case engSub => exact execEngSub_keeps h
  case engAnd => exact execEngAnd_keeps h
  case engOr => exact execEngOr_keeps h
  case engXor => exact execEngXor_keeps h
  case engSll => exact execEngSll_keeps h
  case engSrl => exact execEngSrl_keeps h
  case engSra => exact execEngSra_keeps h
  case engMul => exact execEngMul_keeps h
  case engMulh => exact execEngMulh_keeps h
  case engMulhu => exact execEngMulhu_keeps h
  case engSlt => exact execEngSlt_keeps h
  case engSltu => exact execEngSltu_keeps h
  case engMin => exact execEngMin_keeps h
  case engMax => exact execEngMax_keeps h
  case engClz => exact execEngClz_keeps h
  case engAddi => exact execEngAddi_keeps h
  case engAndi => exact execEngAndi_keeps h
  case engOri => exact execEngOri_keeps h
  case engXori => exact execEngXori_keeps h
  case engSlli => exact execEngSlli_keeps h
  case engSrli => exact execEngSrli_keeps h
  case engSrai => exact execEngSrai_keeps h
  case engSlti => exact execEngSlti_keeps h
  case engLui => exact execEngLui_keeps h
  case engBeq => exact execEngBeq_keeps h
  case engBne => exact execEngBne_keeps h
  case engBlt => exact execEngBlt_keeps h
  case engBge => exact execEngBge_keeps h
  case engBltu => exact execEngBltu_keeps h
  case engBgeu => exact execEngBgeu_keeps h
  case engJal => exact execEngJal_keeps h
  case engJr => exact execEngJr_keeps h
  case engLoop => exact execEngLoop_keeps h
  case engHalt => exact execEngHalt_keeps h
  case engIllegalInstruction => exact execEngIllegalInstruction_keeps h
  case engVadd => exact execEngVadd_keeps h
  case engVsub => exact execEngVsub_keeps h
  case engVmulq => exact execEngVmulq_keeps h
  case engVmacq => exact execEngVmacq_keeps h
  case engVmin => exact execEngVmin_keeps h
  case engVmax => exact execEngVmax_keeps h
  case engVabsd => exact execEngVabsd_keeps h
  case engVand => exact execEngVand_keeps h
  case engVor => exact execEngVor_keeps h
  case engVxor => exact execEngVxor_keeps h
  case engVshl => exact execEngVshl_keeps h
  case engVshr => exact execEngVshr_keeps h
  case engVsplat => exact execEngVsplat_keeps h
  case engVcmplt => exact execEngVcmplt_keeps h
  case engVcmpeq => exact execEngVcmpeq_keeps h
  case engVsel => exact execEngVsel_keeps h
  case engVslide => exact execEngVslide_keeps h
  case engVrsum => exact execEngVrsum_keeps h
  case engLdw => exact execEngLdw_keeps h
  case engStw => exact execEngStw_keeps h
  case engLdh => exact execEngLdh_keeps h
  case engSth => exact execEngSth_keeps h
  case engVld => exact execEngVld_keeps h
  case engVst => exact execEngVst_keeps h
  case engVlut => exact execEngVlut_keeps h
  case engTpop => exact execEngTpop_keeps h
  case engTpush => exact execEngTpush_keeps h
  case engTline => exact execEngTline_keeps h
  case engTstat => exact execEngTstat_keeps h
  case engStlw => exact execEngStlw_keeps h
  case engStlv => exact execEngStlv_keeps h
  case engStcpy => exact execEngStcpy_keeps h
  case engSrd => exact execEngSrd_keeps h
  case engSwr => exact execEngSwr_keeps h
  case engScnt => exact execEngScnt_keeps h
  case engPqput => exact execEngPqput_keeps h
  case engPqfn => exact execEngPqfn_keeps h
  case engPqused => exact execEngPqused_keeps h
  case engEvwait => exact execEngEvwait_keeps h
  case engEvwaitTimeout => exact execEngEvwaitTimeout_keeps h
  case engCommit => exact execEngCommit_keeps h
  case engReport => exact execEngReport_keeps h
  case engEvarg => exact execEngEvarg_keeps h
  case engineTimeNow => exact execEngineTimeNow_keeps h
  case engineTimeHigh => exact execEngineTimeHigh_keeps h
  case engDmard => exact execEngDmard_keeps h
  case engDmawr => exact execEngDmawr_keeps h
  case engDmast => exact execEngDmast_keeps h
  case engineMoverDone => exact execEngineMoverDone_keeps h
  case tapUnderrun => exact execTapUnderrun_keeps h
  case engineWatchdog => exact execEngineWatchdog_keeps h
  case engineLoad => exact execEngineLoad_keeps h
  case engineRestartRequest => exact execEngineRestartRequest_keeps h
  case engineCounterClear => exact execEngineCounterClear_keeps h
  case engmdataRead => exact execEngmdataRead_keeps h
  case nrCounterClear => exact execNrCounterClear_keeps h
  case outputCounterClear => exact execOutputCounterClear_keeps h
  case statsCounterClear => exact execStatsCounterClear_keeps h
  case readlateClear => exact execReadlateClear_keeps h
  case uplCredit => exact execUplCredit_keeps h
  case uplCreditInit => exact execUplCreditInit_keeps h
  case uplCreditNak => exact execUplCreditNak_keeps h
  case uplInitRepeat => exact execUplInitRepeat_keeps h
  case uplInitTimeout => exact execUplInitTimeout_keeps h
  case uplNakResend => exact execUplNakResend_keeps h
  case uplAckTimer => exact execUplAckTimer_keeps h
  case uplReplayTimeout => exact execUplReplayTimeout_keeps h
  case uplAckStallReinit => exact execUplAckStallReinit_keeps h
  case uplinkPacketReceive => exact execUplinkPacketReceive_keeps h
  case uplinkPacketTransmit => exact execUplinkPacketTransmit_keeps h
  case injectTxCrc => exact execInjectTxCrc_keeps h
  case injectRxDrop => exact execInjectRxDrop_keeps h
  case brgRead => exact execBrgRead_keeps h
  case brgFastwinExpiry => exact execBrgFastwinExpiry_keeps h
  case brgDelayedReadDone => exact execBrgDelayedReadDone_keeps h
  case brgDelayedReadDiscard => exact execBrgDelayedReadDiscard_keeps h
  case brgWrite => exact execBrgWrite_keeps h
  case brgLread => exact execBrgLread_keeps h
  case brgLwrite => exact execBrgLwrite_keeps h
  case brgLrelease => exact execBrgLrelease_keeps h
  case brgLockTimeout => exact execBrgLockTimeout_keeps h
  case pwerrClear => exact execPwerrClear_keeps h
  case interruptUnmask => exact execInterruptUnmask_keeps h
  case bridgeCounterClear => exact execBridgeCounterClear_keeps h
  case intmsgSend => exact execIntmsgSend_keeps h
  case canTx => exact execCanTx_keeps h
  case twReq => exact execTwReq_keeps h
  case hmReq => exact execHmReq_keeps h
  case compatSwitch => exact execCompatSwitch_keeps h
  case doorbell => exact execDoorbell_keeps h
  case responseConsume => exact execResponseConsume_keeps h
  case channelReset => exact execChannelReset_keeps h
  case channelResetDone => exact execChannelResetDone_keeps h
  case mailboxEntryAccept => exact execMailboxEntryAccept_keeps h
  case sysNop => exact execSysNop_keeps h
  case sysHello => exact execSysHello_keeps h
  case sysInfo => exact execSysInfo_keeps h
  case sysSetMode => exact execSysSetMode_keeps h
  case sysGetMode => exact execSysGetMode_keeps h
  case sysPriority => exact execSysPriority_keeps h
  case sysCompat => exact execSysCompat_keeps h
  case portStatus => exact execPortStatus_keeps h
  case portRetrain => exact execPortRetrain_keeps h
  case portAuth => exact execPortAuth_keeps h
  case portCounters => exact execPortCounters_keeps h
  case headLedger => exact execHeadLedger_keeps h
  case headLensReset => exact execHeadLensReset_keeps h
  case headReauth => exact execHeadReauth_keeps h
  case headPoll => exact execHeadPoll_keeps h
  case sliceStatus => exact execSliceStatus_keeps h
  case slicePqput => exact execSlicePqput_keeps h
  case sliceTrace => exact execSliceTrace_keeps h
  case sliceRestart => exact execSliceRestart_keeps h
  case sliceProving => exact execSliceProving_keeps h
  case streamStatus => exact execStreamStatus_keeps h
  case streamList => exact execStreamList_keeps h
  case latStatus => exact execLatStatus_keeps h
  case statRead => exact execStatRead_keeps h
  case statLoad => exact execStatLoad_keeps h
  case cfgStage => exact execCfgStage_keeps h
  case cfgLoad => exact execCfgLoad_keeps h
  case cfgEdit => exact execCfgEdit_keeps h
  case cfgCopy => exact execCfgCopy_keeps h
  case cfgCheck => exact execCfgCheck_keeps h
  case cfgFlip => exact execCfgFlip_keeps h
  case cfgCancel => exact execCfgCancel_keeps h
  case cfgExport => exact execCfgExport_keeps h
  case cfgStatus => exact execCfgStatus_keeps h
  case flipEpochReached => exact execFlipEpochReached_keeps h
  case reservationRelease => exact execReservationRelease_keeps h
  case pairStatus => exact execPairStatus_keeps h
  case pairRoles => exact execPairRoles_keeps h
  case timeGet => exact execTimeGet_keeps h
  case timeSet => exact execTimeSet_keeps h
  case timeStep => exact execTimeStep_keeps h
  case timeDiscipline => exact execTimeDiscipline_keeps h
  case timeClrcnt => exact execTimeClrcnt_keeps h
  case timeSync => exact execTimeSync_keeps h
  case timeCapture => exact execTimeCapture_keeps h
  case canStatus => exact execCanStatus_keeps h
  case canConfig => exact execCanConfig_keeps h
  case canFilter => exact execCanFilter_keeps h
  case canWake => exact execCanWake_keeps h
  case canVehicle => exact execCanVehicle_keeps h
  case faultRead => exact execFaultRead_keeps h
  case faultClear => exact execFaultClear_keeps h
  case faultCounters => exact execFaultCounters_keeps h
  case faultPinmask => exact execFaultPinmask_keeps h
  case faultDump => exact execFaultDump_keeps h
  case updStage => exact execUpdStage_keeps h
  case updFlash => exact execUpdFlash_keeps h
  case updCpxSwitch => exact execUpdCpxSwitch_keeps h
  case cpxSwitchTimeout => exact execCpxSwitchTimeout_keeps h
  case updProgAdd => exact execUpdProgAdd_keeps h
  case updProgRemove => exact execUpdProgRemove_keeps h
  case updHeadFw => exact execUpdHeadFw_keeps h
  case svcChallenge => exact execSvcChallenge_keeps h
  case svcAuthR => exact execSvcAuthR_keeps h
  case svcAuthS => exact execSvcAuthS_keeps h
  case svcBist => exact execSvcBist_keeps h
  case svcFuse => exact execSvcFuse_keeps h
  case peerBeat => exact execPeerBeat_keeps h
  case peerBeatSend => exact execPeerBeatSend_keeps h
  case peerBeatMiss => exact execPeerBeatMiss_keeps h
  case peerMirror => exact execPeerMirror_keeps h
  case peerDone => exact execPeerDone_keeps h
  case peerLatmir => exact execPeerLatmir_keeps h
  case peerJoinReq => exact execPeerJoinReq_keeps h
  case peerJoinAck => exact execPeerJoinAck_keeps h
  case peerJoinNak => exact execPeerJoinNak_keeps h
  case peerJoinTimeout => exact execPeerJoinTimeout_keeps h
  case peerLeave => exact execPeerLeave_keeps h
  case peerHandover => exact execPeerHandover_keeps h
  case peerHandoverAck => exact execPeerHandoverAck_keeps h
  case peerFlipPropose => exact execPeerFlipPropose_keeps h
  case peerFlipAnswer => exact execPeerFlipAnswer_keeps h
  case peerFlipAnswerTimeout => exact execPeerFlipAnswerTimeout_keeps h
  case peerFlipEpoch => exact execPeerFlipEpoch_keeps h
  case peerFlipDone => exact execPeerFlipDone_keeps h
  case peerResync => exact execPeerResync_keeps h
  case peerDigest => exact execPeerDigest_keeps h
  case peerPortinfo => exact execPeerPortinfo_keeps h
  case peerUnknown => exact execPeerUnknown_keeps h
  case ringReadFrame => exact execRingReadFrame_keeps h
  case provingWindowStart => exact execProvingWindowStart_keeps h
  case sliceDrained => exact execSliceDrained_keeps h
  case bistSegmentDone => exact execBistSegmentDone_keeps h
  case bistSegmentTimeout => exact execBistSegmentTimeout_keeps h
  case memoryBistDone => exact execMemoryBistDone_keeps h
  case provingWindowAbort => exact execProvingWindowAbort_keeps h
  case sliceResetDone => exact execSliceResetDone_keeps h
  case rotationCoverage => exact execRotationCoverage_keeps h
  case rotationCounterClear => exact execRotationCounterClear_keeps h
  case faultRecordWrite => exact execFaultRecordWrite_keeps h
  case keeperMarkRead => exact execKeeperMarkRead_keeps h
  case keeperClearRecord => exact execKeeperClearRecord_keeps h
  case keeperForceUplinkIdle => exact execKeeperForceUplinkIdle_keeps h
  case keeperReleaseUplink => exact execKeeperReleaseUplink_keeps h
  case keeperResetDomains => exact execKeeperResetDomains_keeps h
  case keeperResetDevice => exact execKeeperResetDevice_keeps h
  case keeperEnterSafe => exact execKeeperEnterSafe_keeps h
  case keeperSetPinmask => exact execKeeperSetPinmask_keeps h
  case keeperCommandRefused => exact execKeeperCommandRefused_keeps h
  case heartbeatWrite => exact execHeartbeatWrite_keeps h
  case cpxHeartbeatLost => exact execCpxHeartbeatLost_keeps h
  case lockstepMismatch => exact execLockstepMismatch_keeps h
  case dmaGo => exact execDmaGo_keeps h
  case dmaAbort => exact execDmaAbort_keeps h
  case dmaMove => exact execDmaMove_keeps h
  case dmaBurst => exact execDmaBurst_keeps h
  case dmaLoop => exact execDmaLoop_keeps h
  case dmaNest3 => exact execDmaNest3_keeps h
  case dmaWait => exact execDmaWait_keeps h
  case dmaWaitTime => exact execDmaWaitTime_keeps h
  case dmaWaitTimeout => exact execDmaWaitTimeout_keeps h
  case dmaSignal => exact execDmaSignal_keeps h
  case dmaEnd => exact execDmaEnd_keeps h
  case dmaEvset => exact execDmaEvset_keeps h
  case dmaEvclr => exact execDmaEvclr_keeps h
  case dmaCounterClear => exact execDmaCounterClear_keeps h
  case canFrameReceive => exact execCanFrameReceive_keeps h
  case canTxDone => exact execCanTxDone_keeps h
  case canTxLifetime => exact execCanTxLifetime_keeps h
  case busOffRecovery => exact execBusOffRecovery_keeps h
  case canConfigApply => exact execCanConfigApply_keeps h
  case canWakeDetect => exact execCanWakeDetect_keeps h
  case canCounterClear => exact execCanCounterClear_keeps h
  case i2caPointerSet => exact execI2caPointerSet_keeps h
  case i2caWrite => exact execI2caWrite_keeps h
  case i2caRead => exact execI2caRead_keeps h
  case i2caWakeMatch => exact execI2caWakeMatch_keeps h
  case i2caStretchTimeout => exact execI2caStretchTimeout_keeps h
  case keeperOffsetSet => exact execKeeperOffsetSet_keeps h
  case keeperWrite => exact execKeeperWrite_keeps h
  case keeperRead => exact execKeeperRead_keeps h
  case i2caCounterClear => exact execI2caCounterClear_keeps h
  case i2cbGo => exact execI2cbGo_keeps h
  case i2cbTransactionDone => exact execI2cbTransactionDone_keeps h
  case i2cbTimeout => exact execI2cbTimeout_keeps h
  case clrstuck => exact execClrstuck_keeps h
  case i2cbCounterClear => exact execI2cbCounterClear_keeps h
  case sramEccRead => exact execSramEccRead_keeps h
  case sramScrub => exact execSramScrub_keeps h
  case lpddrEccRead => exact execLpddrEccRead_keeps h
  case lpddrPatrolScrub => exact execLpddrPatrolScrub_keeps h
  case lpddrChannelFail => exact execLpddrChannelFail_keeps h
  case zeroFillBlock => exact execZeroFillBlock_keeps h
  case fillOnWrite => exact execFillOnWrite_keeps h
  case erraddrClear => exact execErraddrClear_keeps h
  case memcCounterClear => exact execMemcCounterClear_keeps h
  case secSelfTestFail => exact execSecSelfTestFail_keeps h
  case rootPllUnlock => exact execRootPllUnlock_keeps h
  case pllLockRetry => exact execPllLockRetry_keeps h
  case supplyFault => exact execSupplyFault_keeps h
  case thermalConversion => exact execThermalConversion_keeps h
  case throttleStepUp => exact execThrottleStepUp_keeps h
  case throttleStepDown => exact execThrottleStepDown_keeps h
  case criticalTemperature => exact execCriticalTemperature_keeps h
  case snapshotRead => exact execSnapshotRead_keeps h
  case rclrRead => exact execRclrRead_keeps h
  case registerWrite => exact execRegisterWrite_keeps h
  case keeperPowerUp => exact execKeeperPowerUp_keeps h
  case keeperPowerLoss => exact execKeeperPowerLoss_keeps h
  case resetNAssert => exact execResetNAssert_keeps h
  case railBackInWindow => exact execRailBackInWindow_keeps h
  case laneLockTimeout => exact execLaneLockTimeout_keeps h
  case canBusError => exact execCanBusError_keeps h
  case tapLineAvailable => exact execTapLineAvailable_keeps h
  case outputLineReady => exact execOutputLineReady_keeps h
  case newPairReady => exact execNewPairReady_keeps h
  case finalResponse => exact execFinalResponse_keeps h

end Sys2Proof.Machine
end

