-- ==== Sys2Proof/WellFormed.lean ====
section
/-!
DEFINITION. What the operands of a command must satisfy beyond their types: a command that keeps these rules is one that the
manual lets its sender give. exec answers for every command, well formed or not.
-/
namespace Sys2Proof

/-- A packet or frame has at least its header crumb (R77, R369, R484). -/
def someCrumbs (l : List Crumb) : Bool := decide (1 ≤ l.length)

/-- A receive lane that the link has: four of a head port, sixteen of the uplink, eight of the peer link (R15, R94). -/
def laneFitted (l : Link) (k : Fin 16) : Bool :=
  match l with
  | .hp _ => decide (k.val < 4)
  | .upl => true
  | .peer => decide (k.val < 8)

/-- The data bytes of a CAN frame as its DLC codes them: a classical frame carries at most 8 (R419, R573). -/
def canData (id : Word) (dlc : Fin 16) (data : List Byte) : Bool :=
  let fd := id.getLsbD 31
  data.length == (if dlc.val ≤ 8 then dlc.val else if fd then [12, 16, 20, 24, 32, 48, 64].getD (dlc.val - 9) 64 else 8)

/-- An error counter of a CAN controller, at most 256 (R585). -/
def errorCount (n : BitVec 9) : Bool := decide (n.toNat ≤ 256)

/-- The address of a register word in the CSR window (R396, R655). -/
def csrWord (a : Word) : Bool := decide (a.toNat % 4 = 0) && decide (a.toNat < 0x1000000)

/-- An address of on-die SRAM (R396). -/
def sramWord (a : BitVec 48) : Bool := decide (0x10000000 ≤ a.toNat) && decide (a.toNat < 0x16000000)

/-- An address of the LPDDR range (R396). -/
def lpddrWord (a : BitVec 48) : Bool := decide (0x100000000 ≤ a.toNat) && decide (a.toNat < 0x900000000)

/-- At most a number of bytes (R594, R600). -/
def atMost (most n : Nat) : Bool := decide (n ≤ most)

/-- A transfer of at least one byte (R594, R597). -/
def someBytes (n : Nat) : Bool := decide (1 ≤ n)

/-- Whether the operands of a command keep the rules above; for a command with no rule its operand types say everything. -/
def Instr.wellFormed : Instr → Bool
  | .laneLos link lane => laneFitted link lane
  | .laneLosRelease link lane => laneFitted link lane
  | .laneLol link lane => laneFitted link lane
  | .alignmentMarker link lane _ _ _ => laneFitted link lane
  | .lossOfAlignment link lane => laneFitted link lane
  | .trainingFrame link crumbs lane => laneFitted link lane && someCrumbs crumbs
  | .frameStart _ crumbs => someCrumbs crumbs
  | .linePacket _ crumbs _ _ => someCrumbs crumbs
  | .frameEnd _ crumbs => someCrumbs crumbs
  | .headStatus _ crumbs => someCrumbs crumbs
  | .headResponse _ crumbs => someCrumbs crumbs
  | .uplCredit crumbs _ => someCrumbs crumbs
  | .uplCreditInit crumbs _ => someCrumbs crumbs
  | .uplCreditNak crumbs _ => someCrumbs crumbs
  | .uplinkPacketReceive crumbs _ => someCrumbs crumbs
  | .peerBeat crumbs _ => someCrumbs crumbs
  | .peerMirror crumbs => someCrumbs crumbs
  | .peerDone crumbs => someCrumbs crumbs
  | .peerLatmir crumbs => someCrumbs crumbs
  | .peerJoinReq crumbs => someCrumbs crumbs
  | .peerJoinAck crumbs => someCrumbs crumbs
  | .peerJoinNak crumbs => someCrumbs crumbs
  | .peerLeave crumbs => someCrumbs crumbs
  | .peerHandover crumbs => someCrumbs crumbs
  | .peerHandoverAck crumbs => someCrumbs crumbs
  | .peerFlipPropose crumbs => someCrumbs crumbs
  | .peerFlipAnswer crumbs => someCrumbs crumbs
  | .peerFlipEpoch crumbs => someCrumbs crumbs
  | .peerFlipDone crumbs => someCrumbs crumbs
  | .peerResync crumbs => someCrumbs crumbs
  | .peerDigest crumbs => someCrumbs crumbs
  | .peerPortinfo crumbs => someCrumbs crumbs
  | .peerUnknown crumbs => someCrumbs crumbs
  | .canFrameReceive _ _ id dlc _ data => canData id dlc data
  | .canTxDone _ _ _ tec _ => errorCount tec
  | .canWakeDetect _ id dlc data => canData id dlc data
  | .i2caPointerSet _ bytes => atMost 6 bytes.length
  | .i2caWrite _ _ data => someBytes data.length
  | .i2caRead _ n => someBytes n
  | .keeperWrite _ _ data => someBytes data.length
  | .keeperRead _ n => someBytes n
  | .i2cbTransactionDone _ _ data _ => atMost 64 data.length
  | .sramEccRead addr _ _ => sramWord addr
  | .sramScrub addr _ => sramWord addr
  | .lpddrEccRead addr _ _ => lpddrWord addr
  | .lpddrPatrolScrub addr _ => lpddrWord addr
  | .fillOnWrite addr => lpddrWord addr
  | .snapshotRead _ reg => csrWord reg
  | .rclrRead _ reg => csrWord reg
  | .registerWrite _ reg _ => csrWord reg
  | .canBusError _ tec _ => errorCount tec
  | .pwrgoodRising | .pwrgoodFalling | .resetNRelease | .rootPllLock | .strapSampling .. | .bootImageLoaded .. | .bootEnd
  | .bootWatchdogExpiry | .modeTransitionComplete | .wakePendClear | .kprSafeNRequest | .laneLock .. | .rsnextTimeout ..
  | .stepReq .. | .stepAck .. | .stepNak .. | .goOper .. | .quadJoin .. | .dwellPass .. | .stepTimerExpiry .. | .detectRetry ..
  | .linkRetrain .. | .quadRetrain .. | .linkCounterClear .. | .tapInstructionUpdate .. | .headerCrcFailure ..
  | .lineWatchdogExpiry .. | .frameWatchdogExpiry .. | .backchannelCommandSend .. | .backchannelTimeout .. | .reauthTimer ..
  | .wearWriteTimer .. | .lensContrastHourly .. | .keeperShadowCopy | .ppsEdge .. | .ppsLoss | .slewEnd | .ppsOutPulse
  | .ppsOutPulseEnd | .tsyncSchedule .. | .headTimeStale .. | .triggerDispatch .. | .syncOutputEdge .. | .syncInputEdge ..
  | .scapPop .. | .tsuSnap | .motionDeadline .. | .latticeAssemblyStart .. | .latticeAssemblyEnd .. | .latticeSkip ..
  | .streamStatusRepeat .. | .statsSetComplete .. | .pqSensorDispatch .. | .pqPipeLatch .. | .pqDeadlinePass .. | .engAdd ..
  | .engSub .. | .engAnd .. | .engOr .. | .engXor .. | .engSll .. | .engSrl .. | .engSra .. | .engMul .. | .engMulh ..
  | .engMulhu .. | .engSlt .. | .engSltu .. | .engMin .. | .engMax .. | .engClz .. | .engAddi .. | .engAndi .. | .engOri ..
  | .engXori .. | .engSlli .. | .engSrli .. | .engSrai .. | .engSlti .. | .engLui .. | .engBeq .. | .engBne .. | .engBlt ..
  | .engBge .. | .engBltu .. | .engBgeu .. | .engJal .. | .engJr .. | .engLoop .. | .engHalt .. | .engIllegalInstruction ..
  | .engVadd .. | .engVsub .. | .engVmulq .. | .engVmacq .. | .engVmin .. | .engVmax .. | .engVabsd .. | .engVand ..
  | .engVor .. | .engVxor .. | .engVshl .. | .engVshr .. | .engVsplat .. | .engVcmplt .. | .engVcmpeq .. | .engVsel ..
  | .engVslide .. | .engVrsum .. | .engLdw .. | .engStw .. | .engLdh .. | .engSth .. | .engVld .. | .engVst .. | .engVlut ..
  | .engTpop .. | .engTpush .. | .engTline .. | .engTstat .. | .engStlw .. | .engStlv .. | .engStcpy .. | .engSrd ..
  | .engSwr .. | .engScnt .. | .engPqput .. | .engPqfn .. | .engPqused .. | .engEvwait .. | .engEvwaitTimeout ..
  | .engCommit .. | .engReport .. | .engEvarg .. | .engineTimeNow .. | .engineTimeHigh .. | .engDmard .. | .engDmawr ..
  | .engDmast .. | .engineMoverDone .. | .tapUnderrun .. | .engineWatchdog .. | .engineLoad .. | .engineRestartRequest ..
  | .engineCounterClear .. | .engmdataRead .. | .nrCounterClear .. | .outputCounterClear .. | .statsCounterClear ..
  | .readlateClear .. | .uplInitRepeat .. | .uplInitTimeout .. | .uplNakResend .. | .uplAckTimer .. | .uplReplayTimeout ..
  | .uplAckStallReinit .. | .uplinkPacketTransmit | .injectTxCrc | .injectRxDrop | .brgRead .. | .brgFastwinExpiry ..
  | .brgDelayedReadDone .. | .brgDelayedReadDiscard .. | .brgWrite | .brgLread | .brgLwrite | .brgLrelease | .brgLockTimeout ..
  | .pwerrClear | .interruptUnmask .. | .bridgeCounterClear | .intmsgSend | .canTx | .twReq | .hmReq | .compatSwitch
  | .doorbell .. | .responseConsume .. | .channelReset .. | .channelResetDone .. | .mailboxEntryAccept | .sysNop ..
  | .sysHello .. | .sysInfo .. | .sysSetMode .. | .sysGetMode .. | .sysPriority .. | .sysCompat .. | .portStatus ..
  | .portRetrain .. | .portAuth .. | .portCounters .. | .headLedger .. | .headLensReset .. | .headReauth .. | .headPoll ..
  | .sliceStatus .. | .slicePqput .. | .sliceTrace .. | .sliceRestart .. | .sliceProving .. | .streamStatus .. | .streamList ..
  | .latStatus .. | .statRead .. | .statLoad .. | .cfgStage .. | .cfgLoad .. | .cfgEdit .. | .cfgCopy .. | .cfgCheck ..
  | .cfgFlip .. | .cfgCancel .. | .cfgExport .. | .cfgStatus .. | .flipEpochReached | .reservationRelease .. | .pairStatus ..
  | .pairRoles .. | .timeGet .. | .timeSet .. | .timeStep .. | .timeDiscipline .. | .timeClrcnt .. | .timeSync ..
  | .timeCapture .. | .canStatus .. | .canConfig .. | .canFilter .. | .canWake .. | .canVehicle .. | .faultRead ..
  | .faultClear .. | .faultCounters .. | .faultPinmask .. | .faultDump .. | .updStage .. | .updFlash .. | .updCpxSwitch ..
  | .cpxSwitchTimeout | .updProgAdd .. | .updProgRemove .. | .updHeadFw .. | .svcChallenge .. | .svcAuthR .. | .svcAuthS ..
  | .svcBist .. | .svcFuse .. | .peerBeatSend | .peerBeatMiss | .peerJoinTimeout | .peerFlipAnswerTimeout | .ringReadFrame ..
  | .provingWindowStart | .sliceDrained .. | .bistSegmentDone .. | .bistSegmentTimeout .. | .memoryBistDone ..
  | .provingWindowAbort .. | .sliceResetDone .. | .rotationCoverage .. | .rotationCounterClear | .faultRecordWrite
  | .keeperMarkRead .. | .keeperClearRecord .. | .keeperForceUplinkIdle .. | .keeperReleaseUplink .. | .keeperResetDomains ..
  | .keeperResetDevice .. | .keeperEnterSafe .. | .keeperSetPinmask .. | .keeperCommandRefused .. | .heartbeatWrite ..
  | .cpxHeartbeatLost | .lockstepMismatch .. | .dmaGo .. | .dmaAbort .. | .dmaMove .. | .dmaBurst .. | .dmaLoop ..
  | .dmaNest3 .. | .dmaWait .. | .dmaWaitTime .. | .dmaWaitTimeout .. | .dmaSignal .. | .dmaEnd .. | .dmaEvset ..
  | .dmaEvclr .. | .dmaCounterClear | .canTxLifetime .. | .busOffRecovery .. | .canConfigApply .. | .canCounterClear ..
  | .i2caWakeMatch .. | .i2caStretchTimeout .. | .keeperOffsetSet .. | .i2caCounterClear | .i2cbGo .. | .i2cbTimeout ..
  | .clrstuck .. | .i2cbCounterClear | .lpddrChannelFail .. | .zeroFillBlock | .erraddrClear | .memcCounterClear
  | .secSelfTestFail .. | .rootPllUnlock | .pllLockRetry .. | .supplyFault .. | .thermalConversion .. | .throttleStepUp
  | .throttleStepDown | .criticalTemperature .. | .keeperPowerUp | .keeperPowerLoss | .resetNAssert | .railBackInWindow ..
  | .laneLockTimeout .. | .tapLineAvailable .. | .outputLineReady .. | .newPairReady | .finalResponse .. => true

end Sys2Proof
end

