-- ==== Sys2Proof/Tests/Slice0.lean ====
section
/-!
SUPPORT. Tests: the operand rules, single steps whose results the manual states or a reader works out by hand, and for every
statement with hypotheses a state and operands that meet them.
-/
namespace Sys2Proof.Tests
open Sys2Proof Sys2Proof.Machine

set_option Elab.async false

/-! ## Small states -/

/-- A device that runs in a mode: PWRGOOD high, BOOT over, Sirfiqua on pair A, the TSU at a time in ns. -/
def lit (m : Mode) (now : Nat := 0) : State :=
  { State.reset with
    sys := { pwrgood := true, stage := .ended, pairA := .active, pairB := .standby }
    tsu := { now := now * 2 ^ 28, running := true }
    csr := [(GLB.MODE, BitVec.ofNat 32 m.code)] }

/-- A device in BOOT at a stage. -/
def boot (st : BootStage) (a : PairState := .rom) : State :=
  { State.reset with sys := { pwrgood := true, stage := st, pairA := a } }

/-! ## Witnesses: the whole block, power, boot, modes, clocks -/

theorem witness_StepOfQueue :
    (({ lit .run with pending := [.pwrgoodRising, .wakePendClear] } : State).pending = Instr.pwrgoodRising :: [.wakePendClear])
    ∧ ((lit .run).pending = [] ∧ (lit .run).links = [] ∧ (lit .run).tsu.running = true)
    ∧ State.reset.pending = [] ∧ State.reset.links = [] ∧ State.reset.tsu.running = false ∧ State.reset.sys.vio = true := by decide +kernel

theorem witness_StepKeepsInvariant : State.reset.Inv ∧ (∃ t, step State.reset = .next t) :=
  ⟨⟨⟨by decide, by decide, by decide⟩, by decide, by decide⟩, _, rfl⟩

theorem witness_FusesNeverGoBack : State.reset.blown.fit ∧ ∃ t, core.run 1 State.reset = .next t := ⟨⟨by decide, by decide⟩, _, rfl⟩

theorem witness_PowerAndSupply :
    (State.reset.sys.vio = true ∧ State.reset.sys.pwrgood = false)
    ∧ ((lit .run).sys.pwrgood = true ∧ (lit .run).sys.resetLow = false)
    ∧ ({ State.reset with sys := { vio := false } } : State).sys.vio = false := by decide +kernel

theorem witness_BootResults :
    (let s := boot .idle .reset
     s.alive = true ∧ s.mode = .boot ∧ s.sys.stage = .idle ∧ s.sys.resample = true ∧ s.sys.gated = false)
    ∧ (boot .clocks .reset).sys.stage = .clocks
    ∧ (let s := boot .straps
       s.mode = .boot ∧ s.sys.stage = .straps ∧ s.sys.pairA = .rom
       ∧ (s.slotOrder.filter fun x => !s.sys.failed.contains x).head? = some (b2n false) ∧ bit (fieldAt [] 6 2) 0 = false) := by decide +kernel

/-- An image that fails its verification is met by no image at all. -/
theorem witness_BootResults_fails :
    let s := boot .straps
    let u := { s with sys := { s.sys with failed := b2n false :: s.sys.failed } }.report 0x0102 0 (b2n false)
    verifyImage s.fuses.rootRev (some s.fuses.fwSvn) 1 [] ≠ 0 ∧ u.slotOrder.all u.sys.failed.contains = false := by
  decide +kernel

theorem witness_ModeResults :
    (let s := boot .sirfiqua .active
     s.mode = .boot ∧ s.sys.stage = .sirfiqua ∧ s.alive = true ∧ s.sys.stage ≠ .idle ∧ ¬(s.sys.pairA = .held ∧ s.sys.pairB = .held))
    ∧ ((lit .run).sys.pwrgood = true ∧ (lit .run).sys.resetLow = false ∧ (lit .run).domainOn .fabric = true)
    ∧ (let t := fun m => (⟨m, 3, some 0, 0⟩ : Trans)
       let s := fun m x => ({ lit m with sys := { (lit m).sys with trans := some (t x) } } : State)
       (t .boot).target = .boot ∧ (s .prepare .run).mode = .prepare ∧ (s .standby .prepare).mode = .standby
       ∧ (s .run .prepare).mode ≠ .standby ∧ (s .run .prepare).pair.purpose ≠ 3 ∧ (s .run .prepare).delivering = false
       ∧ (s .run .standby).sys.trans = some (t .standby) ∧ (s .run .standby).delivering = false ∧ (s .run .safe).delivering = false
       ∧ ({ s .run .safe with streams := [(5, { stored := [[]] })] } : State).delivering = true
       ∧ (s .safe .service).sys.trans = some (t .service))
    ∧ (let s : State := { lit .run with sys := { (lit .run).sys with tap := .sample } }
       s.sys.tap = .sample ∧ ([true] : List Bool).length ≤ 1364) := by decide +kernel

theorem witness_ClocksAndThermal :
    (let s := (lit .run).setFld CLK.CLKSTAT_ROOTLOCK 1
     s.alive = true ∧ s.fld CLK.CLKSTAT_ROOTLOCK = 1 ∧ s.mode ≠ .safe)
    ∧ (let s := lit .run
       s.domainOn .fabric = true ∧ s.sys.secDead = false ∧ s.sys.pwrgood = true ∧ 7 ∉ s.sys.railEp)
    ∧ (let s : State := { lit .run with sys := { (lit .run).sys with railEp := [0] } }
       s.sys.pwrgood = true ∧ 0 ∈ s.sys.railEp)
    ∧ (let s : State := { lit .run with sys := { (lit .run).sys with convFail := [(29, 2)] } }
       s.sensorRuns 29 = true ∧ s.sys.convFail.get 29 0 = 2) := by decide +kernel

theorem witness_ClocksAndThermal_throttle :
    let at_ := fun (k t : Nat) (h c : Tbl Nat) =>
      let s := (lit .run 2000000000).setFlds [(CLK.THRSTAT_STEP, k), (CLK.TS_TJ 29, t), (CLK.TS_VALID 29, 1)]
      { s with sys := { s.sys with hotAt := h, coolAt := c, critAt := h } }
    let a := at_ 3 456 [(3, 1990000000)] []
    let b := at_ 4 443 [] [(4, 1000000000)]
    let c := at_ 0 480 [(29, 1999000000)] []
    (a.domainOn .fabric = true ∧ a.fld CLK.THRSTAT_STEP = 3 ∧ a.hottest = some (29, 456) ∧ ((420 + 12 * 3 : Nat) : Int) ≤ 456
      ∧ a.sys.hotAt.has 3 = true ∧ a.sys.hotAt.get 3 0 + 10000000 ≤ a.clock)
    ∧ (b.fld CLK.THRSTAT_STEP = 3 + 1 ∧ b.hottest = some (29, 443) ∧ (443 : Int) < ((396 + 12 * (3 + 1) : Nat) : Int)
      ∧ b.sys.coolAt.has (3 + 1) = true ∧ b.sys.coolAt.get (3 + 1) 0 + 1000000000 ≤ b.clock)
    ∧ (c.tempOf 29 = some 480 ∧ c.sys.critAt.has 29 = true ∧ c.sys.critAt.get 29 0 + 1000000 ≤ c.clock) := by decide +kernel

/-! ## Witnesses: links, heads, time -/

/-- Head port 191's link, the last of the head links, the uplink's and the peer's. -/
abbrev hpl : Link := .hp 191

theorem witness_LaneResults :
    (let s := lit .run
     s.domainOn (lkDomain hpl) = true ∧ bit (rxPins hpl) 3 = true ∧ (s.lkSettle hpl).fld (LK.LANEC3_LOSNOW hpl 3) = 0)
    ∧ (let s := (lit .run).setFlds [(LK.ACTRX_ACTRX .upl, 0x8000), (LK.LKSTAT_STATE .upl, lsLock), (LK.LANEC3_LOSNOW .upl 15, 1)]
       let u := s.lkSettle .upl
       s.domainOn (lkDomain .upl) = true ∧ bit (rxPins .upl) 15 = true ∧ u.fld (LK.LANEC3_LOSNOW .upl 15) = 1
       ∧ u.rxMarked .upl 15 = true ∧ lsLock ≤ u.lkState .upl ∧ ((u.link .upl).lanes.get 15 {}).seq = none
       ∧ markerGood 0 = false ∧ markerGood (~~~(0 : Crumb)) = false)
    ∧ (let u := ((lit .run).setFld (LK.LANEC3_ALIGNED .peer 0) 0).dropQuad .peer
       bit (u.fld (LK.ACTRX_ACTRX .peer)) 0 = false ∧ (lit .run).lkState .peer ≠ lsOper ∧ (lit .run).lkState .peer ≠ lsHold
       ∧ (lit .run).lkState .peer ≠ lsGo)
    ∧ (let s := (lit .run).setFlds [(LK.LKSTAT_STATE hpl, lsOper), (LK.ACTRX_ACTRX hpl, 15)]
       let v := (s.setFld (LK.LANEC3_ALIGNED hpl 0) 0).dropQuad hpl
       s.lkState hpl = lsOper ∧ bit (v.fld (LK.ACTRX_ACTRX hpl)) 0 = true ∧ v.mayDegrade hpl = false)
    ∧ (let s := ((lit .run).setFlds [(LK.LKSTAT_STATE hpl, lsOper), (LK.ACTRX_ACTRX hpl, 15), (LK.LKCTL_DEGR_EN hpl, 1)]).setLink hpl
         { cap := some 0x404111 }
       let v := (s.setFld (LK.LANEC3_ALIGNED hpl 0) 0).dropQuad hpl
       s.lkState hpl = lsOper ∧ bit (v.fld (LK.ACTRX_ACTRX hpl)) 0 = true ∧ v.mayDegrade hpl = true ∧ v.rxLeft hpl [0] ≠ 0
       ∧ v.laneNo hpl 0 = 0 ∧ 0 ∉ (v.link hpl).rsreq)
    ∧ (let s := (lit .run).setFlds [(LK.LKSTAT_STATE hpl, lsDwell), (LK.ACTRX_ACTRX hpl, 15)]
       s.lkState hpl = lsDwell ∧ bit (s.fld (LK.ACTRX_ACTRX hpl)) 0 = true) := by decide +kernel

theorem witness_LaneResults_skew :
    let s := ((lit .run).setFlds [(LK.LKSTAT_STATE hpl, lsLock), (LK.ACTRX_ACTRX hpl, 15)]).setLink hpl { gseq := some 7 }
    let u := s.lkSettle hpl
    let c := markerCrumb 3 7 none none
    s.domainOn (lkDomain hpl) = true ∧ bit (rxPins hpl) 3 = true ∧ u.rxMarked hpl 3 = true ∧ lsLock ≤ u.lkState hpl
    ∧ ((u.link hpl).lanes.get 3 {}).seq = none ∧ markerGood c = true ∧ u.fld (LK.LANEC3_ALIGNED hpl 3) = 0
    ∧ (u.link hpl).gseq = some (bitsOf c.toNat 39 32) ∧ 64 < (65 : BitVec 16).toNat := by decide +kernel

/-- A link in a state at a rate index. -/
def linkIn (l : Link) (st rate : Nat) (x : LinkSt) : State :=
  ((lit .run).setFlds [(LK.LKSTAT_STATE l, st), (LK.LKSTAT_RATE l, rate)]).setLink l x

theorem witness_BringUpResults :
    (let s := (linkIn hpl lsLock 0 {}).setFlds [(LK.ACTRX_ACTRX hpl, 3), (LK.LANEC3_ALIGNED hpl 0, 1), (LK.LANEC3_ALIGNED hpl 1, 1)]
     let u := s.lkSettle hpl
     s.domainOn (lkDomain hpl) = true ∧ (u.link hpl).wrong = false ∧ u.lkState hpl = lsLock ∧ u.allAligned hpl = true)
    ∧ (let u := (linkIn hpl lsDwell 0 { bstate := lsLock }).lkSettle hpl
       (u.link hpl).wrong = false ∧ (u.link hpl).bstate = lsLock ∧ lsLock ≤ u.lkState hpl)
    ∧ (let u := (linkIn .upl lsDwell 5 { cap := some 0x7F44, dwelt := true, max := 6 }).lkSettle .upl
       u.leads .upl = true ∧ u.stepDue .upl false = true)
    ∧ (let u := (linkIn hpl lsDwell 0 { cap := some 0x111, dwelt := true, bdwelt := true, bstate := lsDwell, bmax := 1 }).lkSettle hpl
       u.leads hpl = true ∧ u.stepDue hpl true = true)
    ∧ (let u := (linkIn .peer lsDwell 0 { dwelt := true, max := 1 }).setFld KPR.STRAPS_PAIRID_EFF 1
       u.domainOn (lkDomain .peer) = true ∧ u.leads .peer = false ∧ u.lkState .peer = lsDwell ∧ (u.link .peer).dwelt = true
       ∧ u.fld (LK.LKSTAT_RATE .peer) < (u.link .peer).max)
    ∧ (let u := (linkIn .peer lsDwell 0 {}).setFld KPR.STRAPS_PAIRID_EFF 1
       u.leads .peer = false ∧ u.lkState .peer = lsDwell ∧ (u.link .peer).dwelt = false)
    ∧ ((linkIn hpl lsDwell 0 { stepReq := true }).link hpl).stepReq = true
    ∧ ((linkIn hpl lsGo 0 { bstepReq := true }).link hpl).bstepReq = true
    ∧ (let u := linkIn hpl lsDwell 0 { dwelt := true, cap := some 0x111 }
       u.lkState hpl = lsDwell ∧ (u.link hpl).dwelt = true ∧ u.lkTarget hpl ≤ u.fld (LK.LKSTAT_RATE hpl))
    ∧ (let u := linkIn hpl lsGo 0 { bstate := lsDwell, bdwelt := true, bfalling := true }
       (u.link hpl).bstate = lsDwell ∧ (u.link hpl).bdwelt = true ∧ (u.link hpl).bfalling = true) := by decide +kernel

/-- A good training frame: the mark, a capability word, an empty crumb and the CRC-32 over the three. -/
def trainFrame : List Crumb :=
  let l : List Crumb := [0x96E15A3C, 0x111, 0]
  l ++ [BitVec.ofNat 64 (crc32Crumbs l)]

/-- Crumbs as a fresh lane of the far end puts them on the line, behind one crumb that the receiver discards. -/
def onLine (cs : List Crumb) : List Crumb :=
  ((0 :: cs).foldl (fun (a : List Crumb × Nat) c => let b := scramble a.2 (lineBits c); (a.1 ++ [ofLine b.1], b.2)) ([], 0)).1

theorem witness_BringUpResults_frames :
    let s := (linkIn hpl lsLock 0 {}).setFld (LK.ACTRX_ACTRX hpl) 15
    let u := s.lkSettle hpl
    let a := fun cs => ((u.link hpl).lanes.get 3 {}).take cs
    s.domainOn (lkDomain hpl) = true ∧ bit (u.fld (LK.ACTRX_ACTRX hpl)) 3 = true ∧ lsLock ≤ u.lkState hpl ∧ u.lkState hpl ≤ lsStep
    ∧ u.fld (LK.LANEC3_INV hpl 3) = 0 ∧ (a []).1 = [] ∧ trainGood (a (onLine trainFrame)).1 = true
    ∧ (a (onLine [1])).1 ≠ [] ∧ trainGood (a (onLine [1])).1 = false := by decide +kernel

theorem witness_BringUpResults_dwell :
    (let s := linkIn hpl lsDwell 0 { cap := some 0x111, falling := true }
     s.lkState hpl = lsDwell ∧ (s.link hpl).cap ≠ none ∧ (s.link hpl).dwelt = false ∧ (s.link hpl).falling = true)
    ∧ (let s := linkIn hpl lsDwell 0 { cap := some 0x111 }
       let y := s.setLink hpl { s.link hpl with dwelt := true }
       (s.link hpl).cap ≠ none ∧ y.fld (LK.LKSTAT_HOLD hpl) = 0 ∧ (s.link hpl).falling = false
       ∧ y.lkTarget hpl ≤ y.fld (LK.LKSTAT_RATE hpl))
    ∧ (let s := (linkIn hpl lsDwell 1 { cap := some 0x111 }).setFld (LK.LKSTAT_HOLD hpl) 1
       let y := s.setLink hpl { s.link hpl with dwelt := true }
       s.lkState hpl = lsDwell ∧ (s.link hpl).cap ≠ none ∧ (s.link hpl).falling = false ∧ y.fld (LK.LKSTAT_HOLD hpl) = 1)
    ∧ (bitsOf 0x111 3 0 = farKind hpl ∧ bitsOf 0x111 7 4 ≠ 0) ∧ (bitsOf 0x110 3 0 ≠ farKind hpl ∧ ((lit .run).link hpl).wrong = false) := by
  decide +kernel

theorem witness_LinkResults :
    ((linkIn hpl lsStep 0 {}).domainOn (lkDomain hpl) = true ∧ (linkIn hpl lsStep 0 {}).lkState hpl = lsStep
      ∧ ((linkIn hpl lsStep 0 {}).link hpl).falling = false)
    ∧ (let u := linkIn hpl lsLock 1 {}
       u.lkState hpl = lsLock ∧ 0 < u.fld (LK.LKSTAT_RATE hpl) ∧ (u.link hpl).falling = false)
    ∧ (let u := linkIn hpl lsDwell 1 { falling := true }
       u.lkState hpl = lsDwell ∧ (u.link hpl).dwelt = false ∧ (u.link hpl).falling = true)
    ∧ (let u := (linkIn hpl lsDwell 1 { bstate := lsLock }).setFld (LK.LKSTAT_BRATE hpl) 1
       (u.link hpl).bstate = lsLock ∧ 0 < u.fld (LK.LKSTAT_BRATE hpl) ∧ (u.link hpl).bfalling = false)
    ∧ ((linkIn hpl lsDetect 0 {}).lkState hpl = lsDetect ∧ (linkIn hpl lsDetect 0 {}).lkState hpl ≠ lsOff)
    ∧ ((linkIn hpl lsLock 0 {}).lkState hpl = lsLock ∧ (linkIn hpl lsLock 0 {}).fld (LK.LKSTAT_RATE hpl) = 0)
    ∧ (let u := linkIn hpl lsLock 0 { bstate := lsLock }
       (u.link hpl).bstate = lsLock ∧ u.fld (LK.LKSTAT_BRATE hpl) = 0 ∧ lsLock ≤ u.lkState hpl)
    ∧ ((linkIn hpl lsOper 0 { rsreq := [3] }).link hpl).rsreq ≠ []
    ∧ (let s := (linkIn .upl lsOper 6 {}).setFlds [(LK.LKCTL_QSEL .upl, 7), (LK.LKACT_ACTTX .upl, 0xF)]
       let m := 0xF <<< (4 * s.fld (LK.LKCTL_QSEL .upl))
       s.domainOn (lkDomain .upl) = true ∧ s.lkState .upl = lsOper ∧ (s.link .upl).quad = none ∧ m ∈ txUnits .upl
       ∧ meets (s.fld (LK.LKACT_ACTTX .upl)) m = false)
    ∧ (let s := (linkIn .peer lsOper 6 { quad := some 1 }).setFlds ((LK.LKACT_ACTTX .peer, 0xF) ::
         [4, 5, 6, 7].map fun k => (LK.LANEC3_ALIGNED .peer k, 1))
       let m := 0xF <<< (4 * 1)
       s.domainOn (lkDomain .peer) = true ∧ s.lkState .peer = lsOper ∧ (s.link .peer).quad = some 1 ∧ m ∈ txUnits .peer
       ∧ meets (s.fld (LK.LKACT_ACTTX .peer)) m = false
       ∧ (lanesOf (m &&& rxPins .peer)).all fun k => s.fld (LK.LANEC3_ALIGNED .peer k) == 1) := by decide +kernel

/-- Port 191 in a state, its link OPERATING. -/
def portIn (m : Mode) (st : Nat) (x : PortSt) : State := (((lit m 1000000).setFld (LK.LKSTAT_STATE hpl) lsOper).setPstate 191 st).setPort 191 x

/-- A back-channel command with nobody waiting. -/
def plain : BcCmd := ⟨bcPoll, 0, [], 6, .internal⟩

/-- The header of a RESPONSE to TAG 255 with no payload, and its trailer. -/
def response : List Crumb := [sealCrumb (5 + 255 * 2 ^ 8), BitVec.ofNat 64 (crc32Crumbs [])]

theorem witness_HeadResults :
    ((portIn .run psReady {}).hears 191 = true ∧ (1 : Crumb) ≠ 0 ∧ crc8Good 1 = false)
    ∧ (crc8Good (sealCrumb 4) = true ∧ bitsOf (sealCrumb 4).toNat 5 0 = 4)
    ∧ (let s := portIn .run psEnum { out := [⟨255, plain, 0⟩] }
       let h := response.getD 0 0
       let r := response.drop 1
       let n := ceilDiv (bitsOf h.toNat 45 32) 8
       s.hears 191 = true ∧ crc8Good h = true ∧ bitsOf h.toNat 5 0 = 5 ∧ n + 1 ≤ r.length
       ∧ (r.getD n 0).toNat = crc32Crumbs (r.take n)
       ∧ (s.port 191).out.find? (fun o => o.tag == bitsOf h.toNat 15 8) = some ⟨255, plain, 0⟩)
    ∧ (let s := portIn .run psReady { queue := [plain], out := List.replicate 15 ⟨0, plain, 0⟩, nextTag := 255 }
       s.domainOn .pixel = true ∧ (s.port 191).out.length < 16 ∧ s.bcNext 191 = some plain ∧ plain.origin = .internal)
    ∧ (let c : BcCmd := ⟨bcTsync, 0, [], 4, .tsync 0⟩
       (portIn .run psReady { queue := [c] }).bcNext 191 = some c)
    ∧ (let c : BcCmd := ⟨bcTrigger, 63, [], 1, .trigger 63 0 0⟩
       let s := portIn .run psReady { queue := [c] }
       s.bcNext 191 = some c ∧ 0 < s.now + s.trigLat 191) := by decide +kernel

theorem witness_HeadTimerResults :
    (let s := (portIn .run psStreaming { sharp := [5] }).setFlds [(HP.PCTL_REAUTH 191, 1), (HP.PSTAT_MASTER 191, 1), (HP.PSTAT_WEAR 191, 0)]
     s.pstate 191 = psStreaming ∧ s.fld (HP.PCTL_REAUTH 191) ≠ 0 ∧ s.fld (HP.PSTAT_MASTER 191) = 1 ∧ (s.port 191).sharp ≠ []
     ∧ s.fld (HP.PSTAT_WEAR 191) = 0 ∧ (s.port 191).stale = false)
    ∧ (let s := (portIn .run psStreaming { sharp := [5], hours := List.replicate 22 0 }).setFld (HP.PSTAT_WEAR 191) 1
       s.pstate 191 = psStreaming ∧ s.fld (HP.PSTAT_MASTER 191) = 0 ∧ (s.port 191).sharp ≠ [] ∧ s.fld (HP.PSTAT_WEAR 191) ≠ 0
       ∧ (s.port 191).hours.length + 1 < 24)
    ∧ (let s := portIn .run psEnum { enumTsync := 1 }
       s.domainOn .pixel = true ∧ s.pstate 191 = psEnum ∧ 0 < (s.port 191).enumTsync)
    ∧ (portIn .run psReady {}).pstate 191 = psReady := by decide +kernel

/-- A set in which group 63 is defined with a period of 1 ms and port 191 as its member. -/
def groupSet : CfgSet := [(setKey 5 63 0x8000, [1]), (setKey 5 63 0x8001, leBytes 8 1000000), (setKey 5 63 0x8003, leBytes 24 (2 ^ 191))]

theorem witness_HeadTimerResults_trigger :
    let s : State := { portIn .run psReady {} with cfg := { active := groupSet } }
    let set := s.setAt 1000000
    s.domainOn .pixel = true ∧ CfgSet.groupOf set 191 = some 63 ∧ s.isTarget set 63 1000000 = true ∧ s.pstate 191 = psReady
    ∧ (s.trigBegin 191 : Int) ≤ 1000000 - (s.trigLat 191 : Int) - (CfgSet.grpLead set 63 : Int)
    ∧ (s.camOf 191).dropped = false ∧ s.standby 191 = false ∧ (s.port 191).deposed = false := by decide +kernel

theorem witness_TimeResults :
    (let s := (lit .run).setFlds [(TSU.DCTL_PPS_EN, 1), (TSU.DSTAT_STATE, tuLocked), (TSU.DSTAT_SLEWING, 1), (TSU.DCTL_PPSOUT_EN, 1),
       (TSU.DSTAT_TIMEVALID, 1)]
     s.tsu.running = true ∧ s.pinsTaken = false ∧ s.fld TSU.DCTL_PPS_EN = 1 ∧ s.fld TSU.DSTAT_STATE = tuLocked ∧ s.fld TSU.DSTAT_SLEWING = 1
     ∧ s.mode.full = true ∧ s.mode ≠ .service ∧ s.fld TSU.DCTL_PPSOUT_EN = 1 ∧ s.fld TSU.DSTAT_TIMEVALID = 1 ∧ s.sys.vio = true
     ∧ s.domainOn .fabric = true)
    ∧ (let s := (lit .run).setFld TSU.DSTAT_STATE tuHoldover
       s.fld TSU.DSTAT_STATE = tuHoldover ∧ s.tsu.lostRep = false)
    ∧ (let s : State := { (lit .run).setFld TSU.DSTAT_STATE tuHoldover with tsu := { running := true, lostRep := true } }
       s.fld TSU.DSTAT_STATE = tuHoldover ∧ s.tsu.lostRep = true)
    ∧ (let s : State := { lit .run with tsu := { running := true, lastEdge := some 100000000 } }
       s.tsu.lastEdge = some 100000000 ∧ 999999999 < 100000000 + 900000000)
    ∧ (let s : State := { lit .run with tsu := { running := true, lastEdge := some 100000000, change := some (.jump 5) } }
       s.tsu.change = some (.jump 5) ∧ 100000000 + 900000000 ≤ 1000000000)
    ∧ ((lit .run).tsu.lastEdge = none ∧ (lit .run).tsu.change = none ∧ (edgeError 1000001000).natAbs ≤ 1000
       ∧ (edgeError 999999000).natAbs ≤ 1000 ∧ 1000 < (edgeError 1000001001).natAbs ∧ 1000 < (edgeError 999998999).natAbs) := by decide +kernel

theorem witness_TimeResults_sync :
    (let s : State := { (lit .run 1000000).setFlds [(TSU.SYNC_MODE 15, 2), (TSU.SYNC_GROUP 15, 63)] with cfg := { active := groupSet } }
     s.mode.full = true ∧ s.mode ≠ .service ∧ s.tsu.running = true ∧ s.fld (TSU.SYNC_MODE 15) = 2
     ∧ s.syncTarget 15 s.now = some (1000000, groupSet) ∧ s.tsu.syncEnd.get 15 0 ≤ s.now + 1)
    ∧ (let s : State := { (lit .run 1000000).setFld (TSU.SYNC_MODE 0) 1 with tsu := { running := true, syncEnd := [(0, 2)] } }
       s.fld (TSU.SYNC_MODE 0) = 1 ∧ s.now + 1 < s.tsu.syncEnd.get 0 0)
    ∧ (let s : State := { (lit .run).setFld (TSU.SYNC_MODE 0) 5 with
         tsu := { running := true, caps := [(0, List.replicate 15 (0, false))], capLast := [(0, 5)] } }
       s.pinsTaken = false ∧ s.fld (TSU.SYNC_MODE 0) = 5 ∧ s.tsu.capLast.get 0 0 + 20 ≤ 25 ∧ (s.tsu.caps.get 0 []).length < 16)
    ∧ (let s : State := { (lit .run).setFld (TSU.SYNC_MODE 0) 3 with
         tsu := { running := true, caps := [(0, List.replicate 16 (0, false))], capOvf := [(0, true)] } }
       s.fld (TSU.SYNC_MODE 0) = 3 ∧ s.tsu.capLast.has 0 = false ∧ 16 ≤ (s.tsu.caps.get 0 []).length ∧ s.tsu.capOvf.get 0 false = true)
    ∧ (let s : State := { (lit .run).setFld (TSU.SYNC_MODE 0) 4 with
         tsu := { running := true, caps := [(0, List.replicate 16 (0, false))] } }
       s.fld (TSU.SYNC_MODE 0) = 4 ∧ 16 ≤ (s.tsu.caps.get 0 []).length ∧ s.tsu.capOvf.get 0 false = false) := by
  decide +kernel

/-! ## Witnesses: frames, outputs, rotation -/

/-- A frame of 8 × 2 pixels of 8 bits in slice 207. -/
def frame : Frame :=
  { fn := 7, hf := 0xFFFF, skip := 0, flags := 0, gen := 0, width := 8, height := 2, dt := 0x2A, hdr := false, stagger := 0, fillMode := false,
    fillV := 0, arrival := 0, tfirst := 0, linet := 0, expl := 0, exps := 0, nlines := 2, timeEst := false, k12 := 0, slice := some 207 }

/-- A set with port 191 as a camera of 8 × 2 pixels of 8 bits and a frame period of 1 ms; `out` gives it output 0. -/
def camSet (out : Bool := false) : CfgSet :=
  [(setKey 1 191 0x100, leBytes 4 (8 + 2 * 2 ^ 16)), (setKey 1 191 0x101, leBytes 4 0x2A), (setKey 1 191 0x102, leBytes 4 1000),
   (setKey 1 191 0x103, leBytes 4 1000000)] ++ if out then [(setKey 3 1528 0x680, leBytes 4 3)] else []

/-- Port 191 streams in RUN at a time in ns under that set, with an ingest. -/
def streaming (now : Nat) (g : Ingest) : State :=
  { ((lit .run now).setFld (LK.LKSTAT_STATE hpl) lsOper).setPstate 191 psStreaming with cfg := { active := camSet }, ingests := [(191, g)] }

/-- Header crumbs of FRAME_START, LINE (line 1) and FRAME_END with counter 0xFFFF. -/
def startCrumb : Crumb := sealCrumb (1 + 0xFFFF * 2 ^ 8)
def lineCrumb : Crumb := sealCrumb (2 + 0x2A * 2 ^ 8 + 1 * 2 ^ 16 + 8 * 2 ^ 32 + 0x3FF * 2 ^ 46)
def endCrumb (lines : Nat) : Crumb := sealCrumb (3 + 0xFFFF * 2 ^ 8 + lines * 2 ^ 24)

theorem witness_FrameResults :
    (let s := streaming 0 {}
     s.hears 191 = true ∧ crc8Good startCrumb = true ∧ bitsOf startCrumb.toNat 5 0 = 1 ∧ s.opensFrames 191 = true ∧ (s.ingest 191).frame = none)
    ∧ (let s := streaming 0 { frame := some frame }
       s.hears 191 = true ∧ s.opensFrames 191 = true ∧ (s.ingest 191).frame = some frame ∧ frame.hf = bitsOf startCrumb.toNat 23 8)
    ∧ frame.hf ≠ bitsOf (sealCrumb 1).toNat 23 8 := by decide +kernel

/-- The frame with both lines accepted, and its CRC over two trailers. -/
def whole : Frame :=
  { frame with lines := [(0, { l := some (List.replicate 8 0) }), (1, { l := some (List.replicate 8 0) })], lcount := 2, crcs := [1, 2],
               lastL := some 1 }

theorem witness_FrameResults_end :
    (let s := streaming 0 { frame := some whole }
     let h := endCrumb 2
     let r : List Crumb := [BitVec.ofNat 64 whole.fcrc]
     (s.ingest 191).frame = some whole ∧ s.hears 191 = true ∧ crc8Good h = true ∧ bitsOf h.toNat 5 0 = 3 ∧ s.ingestOn 191 = true
     ∧ bitsOf h.toNat 23 8 = whole.hf ∧ bitsOf h.toNat 37 24 = whole.lcount ∧ bitsOf h.toNat 51 38 = whole.scount
     ∧ (r.getD 0 0).toNat % 2 ^ 32 = whole.fcrc ∧ whole.valid = whole.height)
    ∧ (let s := streaming 1063000 { frame := some frame }
       let x : Int := 16 * ((s.ingest 191).boundary + frame.wdShift) + s.frameLimit 191
       s.frameLimit 191 ≠ 0 ∧ 16000 * 1063 = x + (-x) % 16000 ∧ 1000 * 1063 ≤ (s.now : Int) ∧ ((streaming 1062999 {}).now : Int) < 1000 * 1063)
    ∧ (let s := streaming 4000 { frame := some frame, openLine := some (1, 0, 0) }
       let l := CfgSet.fld (s.setFor 191) 1 191 (HP.INGLT_LTIME 0)
       let wd := CfgSet.fld (s.setFor 191) 1 191 (HP.INGFMT_LWDOG 0)
       (s.ingest 191).openLine = some (1, 0, 0) ∧ l ≠ 0 ∧ 16 * 0 + (if wd = 0 then 0x40 else wd) * l ≤ 16000 * 4 ∧ 1000 * 4 ≤ s.now) := by decide +kernel

theorem witness_LineResults :
    (let s := streaming 0 { frame := some frame }
     let w := lineCrumb.toNat
     let body : List Crumb := [0x0807060504030201]
     let r := body ++ [BitVec.ofNat 64 (crc32Crumbs body)]
     s.hears 191 = true ∧ crc8Good lineCrumb = true ∧ bitsOf w 5 0 = 2 ∧ s.ingestOn 191 = true ∧ (s.ingest 191).frame = some frame
     ∧ frame.hf % 1024 = lnFclo w ∧ frame.ovf = false ∧ frame.hdr = false ∧ frame.lastL = none ∧ lnKnown w = true ∧ lnDt w = frame.dt
     ∧ lnWidth w = frame.width ∧ lnExp w = 0 ∧ lnLine w < frame.height ∧ lnCrumbs w + 1 ≤ r.length
     ∧ (r.getD (lnCrumbs w) 0).toNat % 2 ^ 32 = crc32Crumbs (r.take (lnCrumbs w)))
    ∧ (let s := streaming 0 {}
       s.ingestOn 191 = true ∧ (s.ingest 191).frame = none ∧ (s.ingest 191).lastClosed = none)
    ∧ lnFclo (sealCrumb 2).toNat ≠ frame.hf % 1024 := by decide +kernel

/-- A camera with a closed frame in slice 207 that owes lines on output 0. -/
def owing : State :=
  { lit .run with cams := [(191, { frames := [{ whole with closed := true, set := camSet true }] })] }

theorem witness_OutputResults :
    ((lit .run).domainOn .pixel = true ∧ (owing.nextLine 207 0).isSome = true ∧ owing.domainOn .pixel = true)
    ∧ (let f := { whole with closed := true, set := camSet true, planes := 1 }
       let s : State := { lit .run with cams := [(191, { frames := [f] })] }
       (s.nextLine 207 4).isSome = true)
    ∧ (let s : State := { lit .run with streams := [(1528, { opened := true, shown := some 1 })] }
       s.domainOn .uplink = true ∧ (s.stream 1528).opened = true ∧ isImageSid 1528 = true ∧ s.unended 191 0 = [] ∧ (s.stream 1528).due = []
       ∧ (s.stream 1528).shown = some 1)
    ∧ (∃ f, owing.frameOf 191 7 = some f ∧ f.slice = some 207 ∧ f.closed = true ∧ f.statsDone = false ∧ f.skipWhy = 0
       ∧ 0x20 ∈ pipeFields ∧ f.ring = false ∧ f.latched.contains 0x20 = false) :=
  ⟨by decide +kernel, by decide +kernel, by decide +kernel, _, rfl, rfl, rfl, rfl, rfl, by decide, rfl, rfl⟩

/-- A SENSOR entry of frame 5 with a latency of 1, and a head whose write window ends after 65 ms. -/
def sensor : PqEntry := { tfn := 5, kind := 1, lsel := 0x13, len := 1, grp := 0, gend := false, addr := 0x1000, data := 0, seq := 1 }

theorem witness_OutputResults_queue :
    let d : List Byte := List.replicate 0xB6 0 ++ leBytes 2 65535
    let s : State := { portIn .run psStreaming { desc := d } with
      ingests := [(191, { lastFN := 4, boundary := 1000000 })], cams := [(191, { queue := [sensor] })] }
    s.standby 191 = false ∧ (s.camOf 191).queue.filter (s.maySend 191) = [sensor] := by decide +kernel

/-- A lattice frame with no contributors, due at 2 ms and skipped at 3 ms. -/
def latFrame : LatFrame := { lfn := 0, target := 0, dead := 2000000, limit := 3000000, tref := 0, gen := 0, set := [] }

/-- Lattice 7 with that frame waiting. -/
def latWaits (now : Nat) : State := { lit .run now with lats := [(7, { frames := [latFrame] })] }

theorem witness_OutputResults_lattice :
    (let s := latWaits 2999999
     (s.lat 7).frames = latFrame :: [] ∧ s.lats.all (fun e => e.2.busy.isNone) = true
     ∧ s.lats.any (fun e => e.1 != 7 && e.2.frames != []) = false ∧ s.fifo (latSid 7) = [] ∧ s.latOwner latFrame.set 7 = true
     ∧ s.latReady 7 latFrame = true ∧ s.now < latFrame.limit)
    ∧ (let b : LatBusy := { frame := latFrame, slots := [], present := 0, damaged := 0, tko := 0, v := 0, omega := 0, nomotion := true, ntile := 0,
                            mem := [], poison := [], fseq := 0 }
       let s : State := { lit .run with lats := [(7, { busy := some b })] }
       (s.lat 7).busy = some b)
    ∧ (let s := latWaits 3000000
       s.latOwner latFrame.set 7 = true ∧ latFrame.limit ≤ s.now ∧ s.mirrors = false)
    ∧ (let run : RingRun := ⟨false, 0, 0, true⟩
       let s : State := { lit .run with pair := { runs := [(191, run)] } }
       s.pair.runs.has 191 = true ∧ run.ready = true) := by decide +kernel

theorem witness_OutputResults_skip :
    let s := latWaits 3000000
    let f := latFrame
    let rec_ := latRecord f (16 + 8 * b2n f.tkover + 32 * b2n (s.latSplit f.set 7)) f.tref f.tref (slotMask ((CfgSet.latSlots f.set 7).map (·.1)))
      0 0 0 0 0
    let u := (s.latAnnounce 7 f).showLrec 7 f.lfn rec_
    let y := u.stream (latSid 7)
    let v := u.setStream (latSid 7) { y with fseq := (y.fseq + 1) % 2 ^ 32 }
    let w := ((v.latNotice 7 f y.fseq 0 (v.latFlags 7 f.tkover) f.tref f.tref rec_).bump (LT.LCNT_SKIPPED 7) 1).report 0x4003 7 f.lfn
    (s.lat 7).frames = f :: [] ∧ s.latOwner f.set 7 = true ∧ f.limit ≤ s.now ∧ s.mirrors = false ∧ w.mirrors = false := by decide +kernel

theorem witness_CounterClears : (lit .run).domainOn .pixel = true := by decide

/-- Slice 207 in a proving window. -/
def proving (w : Window) (now : Nat := 0) : State := { (lit .run now).setFld (XBAR.RMAP_PORT 207) 0xFF with rot := { windows := [w] } }

theorem witness_RotationResults :
    (let w : Window := { slice := 207, stage := 1 }
     (proving w).proving 207 = some w ∧ (proving w).domainOn .pixel = true ∧ w.stage ≤ 1 ∧ w.after = none
     ∧ (proving w).fld (XBAR.RMAP_PORT 207) = 0xFF ∧ (proving w).slBusy 207 = false)
    ∧ (let w : Window := { slice := 207, stage := 2, seg := 62 }
       (proving w).proving 207 = some w ∧ w.stage = 2 ∧ w.retest = false ∧ w.seg < 63)
    ∧ (let w : Window := { slice := 207, stage := 2, seg := 63 }
       (proving w).proving 207 = some w ∧ w.stage = 2 ∧ w.retest = false ∧ w.seg = 63)
    ∧ (let w : Window := { slice := 207, stage := 2, retest := true }
       (proving w).proving 207 = some w ∧ w.stage = 2 ∧ w.retest = true)
    ∧ (let w : Window := { slice := 207, stage := 3 }
       (proving w).proving 207 = some w ∧ w.stage = 3)
    ∧ (let w : Window := { slice := 207, stage := 4 }
       let s := proving w 100000000
       s.proving 207 = some w ∧ w.stage = 4 ∧ 2 ≤ w.stage ∧ w.retire = false ∧ w.abort = false ∧ w.start + 100000000 ≤ s.now
       ∧ 207 ∉ s.rot.aborted)
    ∧ (let w : Window := { slice := 207, stage := 4, retire := true }
       (proving w).proving 207 = some w ∧ w.stage = 4 ∧ w.retire = true)
    ∧ (let w : Window := { slice := 207, stage := 4, abort := true }
       (proving w).proving 207 = some w ∧ w.stage = 4 ∧ w.retire = false ∧ w.abort = true) := by decide +kernel

theorem witness_RotationResults_start :
    let s := (lit .run 0).setFld XBAR.ROTPER_PERIOD 10
    let u := s.pausedCheck
    u.domainOn .pixel = true ∧ u.pcause = 0 ∧ u.running_ < u.maxWin ∧ 2 ≤ u.freeSpares.length ∧ u.rotOrder.find? u.settledSlice = some 0
    ∧ s.rot.started * s.fld XBAR.ROTPER_PERIOD * 1000000000 ≤ (s.clock - s.rot.cycleAt) * s.sound.length := by decide +kernel

theorem witness_RotationResults_coverage :
    let s := (lit .run 20000000000).setFlds [(XBAR.ROTPER_PERIOD, 10), (SL.PRVCNT_PASSES 207, 1)]
    let v : State := { (lit .run 20000000000).setFld XBAR.ROTPER_PERIOD 10 with rot := { since := some 0 } }
    (s.domainOn .pixel = true ∧ s.lastPass 207 = some 0 ∧ 0 + 2 * s.fld XBAR.ROTPER_PERIOD * 1000000000 ≤ s.now ∧ s.isRetired 207 = false
      ∧ 207 ∉ s.rot.covered)
    ∧ v.lastPass 207 = none ∧ v.rot.since = some 0 ∧ 0 + 2 * v.fld XBAR.ROTPER_PERIOD * 1000000000 ≤ v.clock ∧ v.isRetired 207 = false
    ∧ 207 ∉ v.rot.covered := by decide +kernel

/-! ## Witnesses: slice engines -/

/-- The engine of slice 207 runs the last instruction but one of a program of 8,192 words. -/
def running (e : Eng := {}) (pc : Nat := 8190) : State :=
  ((lit .run 1000).setFlds [(SL.ENGCTL_RUN 207, 1), (SL.ENGSTAT_STATE 207, esRunning), (SL.ENGPC_PC 207, pc)]).setEng 207
    { e with codeLen := 0x8000 }

theorem witness_issues : (running).issues 207 := by unfold State.issues State.fetches; decide +kernel

theorem witness_EngineScalarResults_illegal :
    (running).issues 207
    ∧ (∀ n ∈ [0x04000000, 0x0FC00000, 1, 0x03C00080], let w : Word := BitVec.ofNat 32 n
      getBits w 31 28 = 0
      ∧ (0x10 ≤ getBits w 27 22 ∨ getBits w 6 0 ≠ 0 ∨ getBits w 27 22 = 0x0F ∧ getBits w 11 7 ≠ 0))
    ∧ ∀ n ∈ [0x19000000, 0x1F000000, 0x14002000, 0x16000020], let w : Word := BitVec.ofNat 32 n
      getBits w 31 28 = 1
      ∧ (9 ≤ getBits w 27 24 ∨ 4 ≤ getBits w 27 24 ∧ getBits w 27 24 ≤ 6 ∧ getBits w 13 5 ≠ 0) := by
  unfold State.issues State.fetches; decide +kernel

theorem witness_EngineFlowResults :
    (let s := running {} 8190
     s.fetches 207 ∧ 0 ≤ (s.engPc 207 : Int) + (1 : BitVec 14).toInt ∧ (s.engPc 207 : Int) + (1 : BitVec 14).toInt < 8192
     ∧ (nextIndex (s.engPc 207) (s.eng 207).loop).1 < 8192)
    ∧ (let s := running {} 8191
       s.fetches 207 ∧ 0 ≤ (s.engPc 207 : Int) + (-1 : BitVec 14).toInt ∧ (s.engPc 207 : Int) + (-1 : BitVec 14).toInt < 8192)
    ∧ (let s := running { sreg := [(1, 8191)] } 8191
       s.fetches 207 ∧ ((s.eng 207).sget 1).toNat < 8192)
    ∧ (let s := running { sreg := [(1, 1)] }
       s.fetches 207 ∧ 0 < (1 : BitVec 14).toInt ∧ s.engPc 207 + 1 < 8192 ∧ (s.eng 207).loop = none ∧ (s.eng 207).sget 1 ≠ 0)
    ∧ (let s := running {} 8189
       s.fetches 207 ∧ (s.eng 207).sget 1 = 0 ∧ s.engPc 207 + 1 + (1 : BitVec 14).toNat < 8192)
    ∧ (let s := running { loop := some (2, 8191, 8192) } 8191
       s.fetches 207 ∧ (0 : BitVec 14).toInt ≤ 0 ∧ (s.eng 207).loop = some (2, 8191, 8192) ∧ 8191 ≤ s.engPc 207 ∧ s.engPc 207 < 8192) := by
  unfold State.fetches; decide +kernel

theorem witness_EngineMemoryResults :
    (let s := running { sreg := [(1, 0x7FFC)] }
     let a := ((((s.eng 207).sget 1).toNat : Int) + (0 : BitVec 15).toInt + 2 * (0 : Nat)) % (2 ^ 32 : Nat)
     s.issues 207 ∧ a.toNat % 4 = 0 ∧ a.toNat + 4 ≤ 0x8000 ∧ s.poisoned (engDataBase 207 + a.toNat) 4 = false)
    ∧ (let s := running { sreg := [(1, 0x7FFF)] }
       let a := ((((s.eng 207).sget 1).toNat : Int) + (-1 : BitVec 15).toInt + 2 * (0 : Nat)) % (2 ^ 32 : Nat)
       s.issues 207 ∧ a.toNat % 2 = 0 ∧ a.toNat + 2 ≤ 0x8000 ∧ s.poisoned (engDataBase 207 + a.toNat) 2 = false)
    ∧ (let s := running { sreg := [(1, 0x7FE0)] }
       let a := ((((s.eng 207).sget 1).toNat : Int) + (0 : BitVec 15).toInt + 2 * (0 : Nat)) % (2 ^ 32 : Nat)
       s.issues 207 ∧ a.toNat % 2 = 0 ∧ a.toNat + 32 ≤ 0x8000 ∧ s.poisoned (engDataBase 207 + a.toNat) 32 = false)
    ∧ (let s := running { sreg := [(1, 0x7FFE)] }
       s.issues 207 ∧ ∀ i < 16, let w := (((((s.eng 207).sget 1).toNat : Int) + (0 : BitVec 15).toInt
           + 2 * (lane ((s.eng 207).vget 0) i).toNat) % (2 ^ 32 : Nat)).toNat
         w % 2 = 0 ∧ w + 2 ≤ 0x8000 ∧ s.poisoned (engDataBase 207 + w) 2 = false)
    ∧ (let s := running { sreg := [(1, 0x7000)] }
       let a := ((s.eng 207).sget 1).toNat + (0xFE0 : BitVec 15).toNat
       s.issues 207 ∧ s.bankReused 207 a = false ∧ a % 4 = 0 ∧ a % 32 = 0 ∧ a < 0x8000)
    ∧ (let s := running { sreg := [(1, 0x40), (2, 0)] }
       let n := 64 * (480 : BitVec 15).toNat
       s.issues 207 ∧ s.bankReused 207 0x40 = false ∧ ((s.eng 207).sget 1).toNat = 0x40 ∧ 0x40 % 64 = 0 ∧ 0x40 + n ≤ 0x8000
       ∧ ((s.eng 207).sget 2).toNat + n ≤ 0x8000)
    ∧ (let s : State := { (running { sreg := [(1, 0x4000)] }).setFld (XBAR.RMAP_PORT 207) 191 with
         cams := [(191, { frames := [{ frame with fn := 2 }] })] }
       s.issues 207 ∧ s.bankReused 207 0x4000 = true ∧ 0x4000 % 4 = 0) := by
  unfold State.issues State.fetches; decide +kernel

theorem witness_EngineTraps :
    (let s := running { sreg := [(1, 2)] } 8191
     let a := (((s.eng 207).sget 1).toNat + (0 : BitVec 15).toInt) % (2 ^ 32 : Nat)
     s.fetches 207 ∧ a.toNat % 4 ≠ 0)
    ∧ (let s := running
       let a := (((s.eng 207).sget 0).toNat + (-4 : BitVec 15).toInt) % (2 ^ 32 : Nat)
       s.issues 207 ∧ a.toNat % 4 = 0 ∧ 0x8000 ≤ a.toNat)
    ∧ (let s : State := { running { sreg := [(1, 0x7FFC)] } with memx := { poison := [engDataBase 207 + 0x7FF8] } }
       let a := (((s.eng 207).sget 1).toNat + (0 : BitVec 15).toInt) % (2 ^ 32 : Nat)
       s.issues 207 ∧ a.toNat % 4 = 0 ∧ a.toNat < 0x8000 ∧ s.poisoned (engDataBase 207 + a.toNat) 4 = true)
    ∧ engLegal 0xF0000000 = false
    ∧ (let s := (running).setEng 207 { codeLen := 0x7FF8 }
       s.engReady 207 = true ∧ (s.eng 207).codeLen / 4 ≤ s.engPc 207)
    ∧ (let s : State := { running with memx := { poison := [engCodeBase 207 + 0x7FF8] } }
       s.engReady 207 = true ∧ s.engPc 207 < (s.eng 207).codeLen / 4 ∧ s.poisoned (engCodeBase 207 + 4 * s.engPc 207) 4 = true)
    ∧ (let s := running {} 8191
       s.engReady 207 = true ∧ s.engPc 207 < (s.eng 207).codeLen / 4 ∧ s.poisoned (engCodeBase 207 + 4 * s.engPc 207) 4 = false
       ∧ 8192 ≤ (nextIndex (s.engPc 207) (s.eng 207).loop).1)
    ∧ (running.flag (tapEnFld true 207) = false ∧ bit 0x7F 7 = false ∧ bit 0x7FFF (8 + 7) = false) := by
  unfold State.issues State.fetches; decide +kernel

/-- The engine of slice 207 serves the open frame of port 191, 17 pixels wide, with every plane of tap D enabled. -/
def tapped (t : TapSt) : State :=
  let s := ((running { cam := 191, port := some 191, tapD := t }).setFld (tapEnFld false 207) 1).setReg (tapCfg false 207) 0xFFFF
  { s with ingests := [(191, { frame := some { frame with width := 17 } })] }

theorem witness_EngineTapResults :
    (let s := tapped { ready := [(1, true, 0)] }
     s.issues 207 ∧ ((s.eng 207).tap false).ready = (1, true, 0) :: [])
    ∧ (∃ f, (tapped { line := some 1, fn := 7 }).issues 207 ∧ (tapped { line := some 1, fn := 7 }).tapAllows 207 false 3 0 = true
       ∧ ((tapped { line := some 1, fn := 7 }).eng 207).tapD.line = some 1 ∧ (tapped { line := some 1, fn := 7 }).tapFrame 207 false = some f
       ∧ 16 * (0 + 1) ≤ ((tapped { line := some 1, fn := 7 }).scene 191 f).tapWidth false 3
       ∧ 16 * 1 < ((tapped { line := some 1, fn := 7 }).scene 191 f).tapWidth false 3
       ∧ ((tapped { line := some 1, fn := 7 }).scene 191 f).tapWidth false 3 ≤ 16 * 2)
    ∧ (let s := tapped { line := some 1, fn := 7, bypass := true }
       s.issues 207 ∧ s.tapAllows 207 false 3 8 = true ∧ ((s.eng 207).tap false).line = some 1 ∧ ((s.eng 207).tap false).bypass = true)
    ∧ (∃ f, ((tapped {}).slFrames ((tapped {}).eng 207).cam 207).find? (fun f => f.fn == (7 : Word).toNat) = some f ∧ (1 : BitVec 13).toNat < f.height)
    ∧ ((tapped {}).flag (tapEnFld false 207) = true ∧ ((tapped {}).eng 207).tapD.bypass = false) := by
  unfold State.issues State.fetches
  exact ⟨by decide +kernel, ⟨_, by decide +kernel, by decide +kernel, rfl, rfl, by decide +kernel, by decide +kernel, by decide +kernel⟩,
    by decide +kernel, ⟨_, rfl, by decide +kernel⟩, by decide +kernel⟩

theorem witness_EngineQueueResults :
    (let s := (running { sreg := [(1, 0xFF001000), (2, 0x7FF8)], cam := 191 }).setFld (SL.SCQSTAT_OUTST 207) 3
     s.issues 207 ∧ s.fld (SL.SCQSTAT_OUTST 207) < 4 ∧ ((s.eng 207).sget 2).toNat % 8 = 0 ∧ ((s.eng 207).sget 2).toNat < 0x8000
     ∧ 0x1000 ≤ ((s.eng 207).sget 1).toNat % 2 ^ 24)
    ∧ (let s := running { sreg := [(1, 0xFFF)] }
       s.issues 207 ∧ ((s.eng 207).sget 1).toNat % 2 ^ 24 < 0x1000)
    ∧ (let s := running { sreg := [(1, 0x7FF0)] }
       let a := ((s.eng 207).sget 1).toNat
       s.issues 207 ∧ a % 16 = 0 ∧ a < 0x8000 ∧ s.poisoned (engDataBase 207 + a) 16 = false) := by
  unfold State.issues State.fetches; decide +kernel

theorem witness_EngineEventResults :
    (running.issues 207 ∧ (255 : BitVec 15).toNat < 256 ∧ (running.eng 207).lowest 255 = none ∧ (3 : BitVec 15).toNat < 4)
    ∧ ((running { latch := [(6, [0, 0, 0, 0])] }).issues 207 ∧ ((running { latch := [(6, [0, 0, 0, 0])] }).eng 207).lowest 0x40 = some 6)
    ∧ ((running { port := some 0 }).windowPoisoned 207 = false ∧ ((running { port := some 0 }).eng 207).port.isSome = true
      ∧ ((running).eng 207).port = none)
    ∧ ({ running with memx := { poison := [engDataBase 207 + 0x7FF8] } } : State).windowPoisoned 207 = true
    ∧ (nextIndex (running.engPc 207) (running.eng 207).loop).1 < 8192
    ∧ ((running { wait := some (255, 31, some 1000) }).eng 207).wait = some (255, 31, some 1000) := by
  unfold State.issues State.fetches; decide +kernel

/-- The engine with a transfer descriptor at the end of its data memory: window, offset, data address, length, tag. -/
def moving (win off la len : Nat) : State :=
  (running { sreg := [(1, 0x7FF0)], tabLen := 0x2000, tabAddr := 0x100400000 }).dataPoke 207 0x7FF0
    (leBytes 4 win ++ leBytes 4 off ++ leBytes 2 la ++ leBytes 2 len ++ leBytes 4 0xABCD)

theorem witness_EngineMoverResults :
    (let s := moving 0 0 0x6000 8192
     let d := s.dataBytes 207 0x7FF0 16
     s.issues 207 ∧ (s.eng 207).mover.state ≠ 1 ∧ 0x7FF0 + 16 ≤ 0x8000 ∧ s.poisoned (engDataBase 207 + 0x7FF0) 16 = false
     ∧ fieldAt d 0 1 = 0 ∧ fieldAt d 8 2 % 64 = 0 ∧ fieldAt d 10 2 % 64 = 0 ∧ 64 ≤ fieldAt d 10 2 ∧ fieldAt d 10 2 ≤ 8192
     ∧ fieldAt d 8 2 + fieldAt d 10 2 ≤ 0x8000 ∧ fieldAt d 4 4 + fieldAt d 10 2 ≤ (s.eng 207).tabLen)
    ∧ (let s := moving 1 65472 0x7F80 64
       let d := s.dataBytes 207 0x7FF0 16
       s.issues 207 ∧ fieldAt d 0 1 = 1 ∧ fieldAt d 4 4 + fieldAt d 10 2 ≤ 65536 ∧ fieldAt d 8 2 + fieldAt d 10 2 ≤ 0x8000)
    ∧ ((running { mover := ⟨1, 0, some (true, 0x100400000, 0, 64)⟩ }).eng 207).mover.job = some (true, 0x100400000, 0, 64)
    ∧ (let s := running.setFld (SL.ENGSTAT_STATE 207) 3
       s.domainOn .pixel = true ∧ s.fld (SL.ENGSTAT_STATE 207) = 3) := by
  unfold State.issues State.fetches; decide +kernel

theorem witness_EngineScalarFrame :
    let s := running
    let i := Instr.engMulhu 207 31 31 31
    s.issues 207 ∧ i ∈ [Instr.engMulh 207 31 31 31, .engMulhu 207 31 31 31, .engSlti 207 31 31 0] ∧ ∃ t, exec i s = .next t := by
  exact ⟨by unfold State.issues State.fetches; decide +kernel, by decide, _, rfl⟩

theorem witness_EngineStoreFrame :
    let s := running { sreg := [(1, 0x7FE0)] }
    let a := ((((s.eng 207).sget 1).toNat : Int) + (0 : BitVec 15).toInt) % (2 ^ 32 : Nat)
    s.issues 207 ∧ Memory.wf s.mem = true ∧ a.toNat % 4 = 0 ∧ a.toNat + 32 ≤ 0x8000 ∧ s.poisoned (engDataBase 207 + a.toNat) 32 = false
    ∧ (∃ t, exec (.engStw 207 2 1 0) s = .next t) ∧ (∃ t, exec (.engSth 207 2 1 0) s = .next t) ∧ ∃ t, exec (.engVst 207 2 1 0) s = .next t := by
  refine ⟨by unfold State.issues State.fetches; decide +kernel, by decide, by decide, by decide, by decide +kernel, ⟨_, rfl⟩, ⟨_, rfl⟩, _, rfl⟩

theorem witness_EngineMoverResults_load :
    let c : Cam := { move := some (207, 1) }
    let s : State := { lit .run with cams := [(191, c)], progs := [⟨0, 0x100400000, 0⟩] }
    s.domainOn .pixel = true ∧ s.cams.find? (fun x => x.2.move.map (·.1) == some 207) = some (191, c) ∧ c.move.map (·.2) ≠ some mvProgram
    ∧ ((s.setSstate 207 ssLoading).loadEngine 207 (s.progId 191 (s.setFor 191))).isSome = true := by decide +kernel

/-- Both groups of a line of 17 samples have been taken. -/
theorem witness_EngineTraps_line :
    ∃ f, (tapped { line := some 1, fn := 7, popped := [(3, 2)] }).tapFrame 207 false = some f
      ∧ (tapped { line := some 1, fn := 7, popped := [(3, 2)] }).tapAllows 207 false 3 0 = true
      ∧ ((tapped { line := some 1, fn := 7, popped := [(3, 2)] }).scene 191 f).tapWidth false 3
        ≤ 16 * ((tapped { line := some 1, fn := 7, popped := [(3, 2)] }).eng 207).tapD.popped.get 3 0 :=
  ⟨_, rfl, by decide +kernel, by decide +kernel⟩

/-! ## Witnesses: the fault log, the keeper, registers, the bridge -/

/-- A report of a C-class fault, and a record of it. -/
def creport : FReport := ⟨0x0101, 0, 0, 0, false, 1, 0⟩

theorem witness_FaultResults :
    (let s : State := { State.reset with keeper := { fpend := [creport] } }
     s.sys.vio = true ∧ s.keeper.fpend = creport :: [])
    ∧ (let s : State := { State.reset with keeper := { intake := [creport] } }
       s.sys.vio = true ∧ s.keeper.fpend = [] ∧ s.keeper.intake = creport :: [])
    ∧ (let l := List.replicate 63 creport
       faultClass 0x0104 ≠ 2 ∧ mergeNewest 0x0104 0 0 l = none ∧ l.length < 64) := by decide +kernel

theorem witness_KeeperResults :
    (let s : State := { State.reset with keeper := { log := [(1023, newEntry creport 0)] } }
     s.sys.vio = true ∧ (0x3FF : Word).toNat < 1024 ∧ ((s.setReg KPR.KARG 0x3FF).markRead 0x3FF).isSome = true)
    ∧ (let s : State := { State.reset with keeper := { log := [(0, { newEntry creport 0 with read := true })] } }
       getBits (0x01010000 : Word) 15 10 = 0
       ∧ ((s.setReg KPR.KARG 0x01010000).clearRecord (getBits (0x01010000 : Word) 9 0) (getBits (0x01010000 : Word) 31 16)).isSome = true)
    ∧ ((511 : Word).toNat < 512 ∧ (7 : Word).toNat < 8)
    ∧ (let said := fun (c : Nat) => ((lit .run).setReg KPR.KARG 0).report 0x0203 0 (packArg [(16, c), (32, 0)])
       (said 6).powered = true ∧ (said 7).powered = true)
    ∧ (State.reset.keeperAnswers true = true ∧ (lit .run).keeperAnswers false = true)
    ∧ (let s : State := { lit .run 1000000000 with sys := { (lit .run).sys with pairA := .active } }
       s.alive = true ∧ s.sys.pairA.ran = true ∧ s.mode ≠ .standby ∧ s.keeper.hbLost = false ∧ s.hbLimit < s.hbAge)
    ∧ (let s := lit .run
       let u := ({ s with sys := { s.sys with pairA := .held } }.setFld KPR.DOMST_CPXHOLDA 1).raiseF 0x0601 0 0
       s.sys.pairA.ran = true ∧ u.sys.pairB ≠ .held)
    ∧ ({ (lit .run).sys with pairA := PairState.standby } : Sys).pairA = .standby := by decide +kernel

theorem witness_RegisterAccesses :
    (let s := lit .run
     s.domainOn .fabric = true ∧ pathReaches .bridge TSU.NOWL = true ∧ s.sys.vio = true ∧ s.cpxRuns = true)
    ∧ (0xFFFFFC % 4 = 0 ∧ regAt 0xFFFFFC = none)
    ∧ ((lit .run).bridgeTest GLB.MODE 4 true true = some (0x0B, 0))
    ∧ (BRG.IMASK < 0x1000000 ∧ (lit .run).bridgeTest BRG.IMASK 4 true true = none) := by decide +kernel

/-- A device in RUN with one packet received from the host, and port 191 in READY. -/
def hears (p : Pkt) (b : Bridge := {}) : State := { (lit .run).setPstate 191 psReady with upl := { rxq := [p] }, bridge := b }

/-- An address crumb, and the last address of port 191. -/
def addrCrumb (a n opc : Nat) : Crumb := BitVec.ofNat 64 (a + n % 512 * 2 ^ 48 + opc * 2 ^ 58)
def lastHead : Nat := 0x1000000000 + 191 * 0x1000000 + 0xFFFFC0

/-- The tests of R687 on that address: its row is the head's, so what is left is the port's state and the write test. -/
theorem bridgeTest_lastHead (s : State) (w : Bool) : s.bridgeTest lastHead 64 true w =
    (if !s.accessible 191 0xFFFFC0 then some (7, s.pstate 191)
     else if w then (s.writeTest lastHead 64).map fun d => (0x0B, d) else none) := by
  have hr : rowOf lastHead = some (0x1000000000 + 191 * 0x1000000, 0x1000000000 + 192 * 0x1000000) := by
    unfold rowOf inLpddr lpddrTop
    cases Config.is32G <;> decide +kernel
  have h1 : ¬ (0x1000000000 + 192 * 0x1000000 < lastHead + 64 ∨ lastHead / 4096 ≠ (lastHead + 64 - 1) / 4096
      ∨ (lastHead < 0x1000000 ∧ (lastHead % 4 ≠ 0 ∨ 64 % 4 ≠ 0)) ∨ (scopeOf lastHead < 192 ∧ 64 < 64)) := by decide +kernel
  have h2 : scopeOf lastHead = 191 := by decide +kernel
  have h3 : lastHead % 0x1000000 = 0xFFFFC0 := by decide +kernel
  unfold State.bridgeTest
  rw [hr]
  simp only [Bool.not_true, Bool.false_eq_true, if_false, if_neg h1]
  simp only [h2, h3, true_and, show (191 : Nat) < 192 from by decide]

/-- A read request, a posted write and a locked step. -/
def rdPkt (a n : Nat) : Pkt := { kind := pkRdreq, tc := 2, id := 4095, payload := [addrCrumb a n 0] }
def wrPkt (a n : Nat) : Pkt := { kind := pkPwrite, tc := 1, id := 5, payload := addrCrumb a n 0 :: List.replicate ((n + 7) / 8) 1 }
def lkPkt (opc a n : Nat) : Pkt :=
  { kind := pkLocked, tc := 2, id := 9, payload := addrCrumb a n opc :: List.replicate (if opc = 1 then (n + 7) / 8 else 0) 1 }

/-- A state takes a packet of a kind, and the packet and the state after it meet a test. -/
def takes (s : State) (sel : Pkt → Bool) (t : Pkt → State → Bool) : Bool := (s.popPkt sel).any fun x => t x.1 x.2

theorem witness_BridgeReads :
    (hears (rdPkt 0 4)).domainOn .uplink = true
    ∧ takes (hears (rdPkt 0x2000000 4)) (fun p => p.kind == pkRdreq) (fun p u =>
        acOpc (p.payload.getD 0 0) == 0 && p.payload.length == 1 && u.drbOf p.id == none && u.bridgeTest 0x2000000 4 true false == some (2, 0)) = true
    ∧ takes (hears { rdPkt 0 4 with payload := [] }) (fun p => p.kind == pkRdreq) (fun p u =>
        u.drbOf p.id == none && p.payload.length != 1) = true
    ∧ takes (hears (rdPkt 0x15FFFE00 512)) (fun p => p.kind == pkRdreq) (fun p u =>
        u.drbOf p.id == none && u.bridgeTest 0x15FFFE00 512 true false == none && decide (192 ≤ scopeOf 0x15FFFE00)
        && acCount (p.payload.getD 0 0) == 512) = true
    ∧ takes (hears (rdPkt lastHead 64)) (fun p => p.kind == pkRdreq) (fun p u =>
        u.drbOf p.id == none && u.bridgeTest lastHead 64 true false == none && scopeOf lastHead == 191 && u.lockOn 191 == none
        && decide (u.drBusy < 64)) = true := by
  simp only [bridgeTest_lastHead]; decide +kernel

/-- Delayed reads of 64 bytes at the last head address: in progress, and ended. -/
def drb (fast head : Bool) (r : Option (Nat × Nat × List Byte)) : Drb := { tag := 4095, addr := lastHead, n := 64, fast := fast, head := head, result := r }

theorem witness_BridgeReads_buffers :
    takes (hears (rdPkt lastHead 64) { drbs := [drb false true none] }) (fun p => p.kind == pkRdreq) (fun p u =>
        u.drbOf p.id == some (drb false true none)) = true
    ∧ takes (hears (rdPkt lastHead 64) { drbs := [drb false true (some (0, 0, []))] }) (fun p => p.kind == pkRdreq) (fun p u =>
        u.drbOf p.id == some (drb false true (some (0, 0, []))) && p.id == 4095) = true
    ∧ (let b : State := { lit .run 1000 with bridge := { drbs := [drb true false none] } }
       b.bridge.drbs.find? (fun d => d.tag == (4095 : BitVec 12).toNat && d.fast) = some (drb true false none) ∧ b.drBusy < 64
       ∧ (drb true false none).endAt + b.fastNs ≤ b.clock ∧ (lit .run 999).clock < (drb true false none).endAt + b.fastNs)
    ∧ (let b : State := { lit .run 1000 with bridge := { drbs := drb true false none :: List.replicate 64 (drb false true none) } }
       b.bridge.drbs.find? (fun d => d.tag == (4095 : BitVec 12).toNat && d.fast) = some (drb true false none) ∧ 64 ≤ b.drBusy)
    ∧ (drb false false (some (0, 0, []))).endAt + 990000 ≤ (lit .run 990000).clock
    ∧ ([drb false false none].find? (fun d => d.tag == (4095 : BitVec 12).toNat && !d.head && d.result.isNone) = some (drb false false none))
    ∧ ([drb false false (some (0, 0, []))].find? (fun d => d.tag == (4095 : BitVec 12).toNat && d.result.isSome)
        = some (drb false false (some (0, 0, [])))) := by decide +kernel

/-- Commands of posted writes waiting for a head. -/
def headWrite : BcCmd := cmdWrite 5 0x1000 [0] (.bridgeWrite 0 0)

theorem witness_BridgeWrites :
    takes (hears { wrPkt 0 4 with payload := [] }) (fun p => p.kind == pkPwrite) (fun p _ => p.payload.length != 1 + (512 + 7) / 8) = true
    ∧ takes (hears (wrPkt 0x2000000 4)) (fun p => p.kind == pkPwrite) (fun p u =>
        acOpc (p.payload.getD 0 0) == 0 && p.payload.length == 2 && u.bridgeTest 0x2000000 4 true true == some (2, 0)) = true
    ∧ takes ((hears (wrPkt lastHead 64)).setPort 191 { queue := List.replicate 63 headWrite }) (fun p => p.kind == pkPwrite) (fun p u =>
        p.payload.length == 1 + (64 + 7) / 8 && u.bridgeTest lastHead 64 true true == none && scopeOf lastHead == 191
        && decide (u.headWrites 191 < 64)) = true
    ∧ takes ((hears (wrPkt lastHead 64)).setPort 191 { queue := List.replicate 64 headWrite }) (fun p => p.kind == pkPwrite) (fun _ u =>
        u.bridgeTest lastHead 64 true true == none && decide (64 ≤ u.headWrites 191)) = true
    ∧ takes ((hears (wrPkt 0x15E80000 512)).openWindow0) (fun p => p.kind == pkPwrite) (fun _ u =>
        u.bridgeTest 0x15E80000 512 true true == none && decide (192 ≤ scopeOf 0x15E80000) && !u.partialPoison 0x15E80000 512) = true
    ∧ takes (hears (wrPkt BRG.IMASK 4)) (fun p => p.kind == pkPwrite) (fun _ u =>
        u.bridgeTest BRG.IMASK 4 true true == none && decide (192 ≤ scopeOf BRG.IMASK)) = true := by
  simp only [bridgeTest_lastHead]; decide +kernel

theorem witness_LockedSequences :
    takes (hears (lkPkt 0 lastHead 64) { locks := [⟨1, 191, 1, 0⟩] }) (isLocked 0) (fun p u =>
        acOpc (p.payload.getD 0 0) == 0 && p.payload.length == 1 && scopeOf lastHead == 191 && u.bridgeTest lastHead 64 true false == none
        && u.lockOn 191 != none) = true
    ∧ takes (hears (lkPkt 0 lastHead 64) { locks := (List.range 8).map fun i => ⟨i, i, 1, 0⟩ }) (isLocked 0) (fun _ u =>
        u.lockOn 191 == none && decide (8 ≤ u.bridge.locks.length)) = true
    ∧ takes (hears (lkPkt 0 lastHead 64) { locks := (List.range 7).map fun i => ⟨i, i, 1, 0⟩ }) (isLocked 0) (fun _ u =>
        u.lockOn 191 == none && decide (u.bridge.locks.length < 8) && !u.flag BRG.CTL_COMPATNOW) = true
    ∧ takes (hears (lkPkt 1 lastHead 64) { locks := [⟨9, 191, 1, 0⟩] }) ((hears (lkPkt 1 lastHead 64) { locks := [⟨9, 191, 1, 0⟩] }).stepRuns 1) (fun p u =>
        u.lockOf p.id == some ⟨9, 191, 1, 0⟩ && scopeOf lastHead == 191 && p.payload.length == 1 + (64 + 7) / 8
        && u.bridgeTest lastHead 64 true false == none) = true
    ∧ takes (hears (lkPkt 2 lastHead 64) { locks := [⟨9, 191, 1, 0⟩] }) ((hears (lkPkt 2 lastHead 64) { locks := [⟨9, 191, 1, 0⟩] }).stepRuns 2) (fun p u => u.lockOf p.id == some ⟨9, 191, 1, 0⟩) = true
    ∧ takes (hears (lkPkt 2 lastHead 64)) ((hears (lkPkt 2 lastHead 64)).stepRuns 2) (fun p u => u.lockOf p.id == none && u.bridge.expired.all fun e => e.1 != p.id) = true
    ∧ (let s : State := { lit .run 10000000 with bridge := { locks := [⟨9, 191, 1, 0⟩] } }
       s.lockOn 191 = some ⟨9, 191, 1, 0⟩ ∧ s.upl.rxq = [] ∧ 0 + s.lockNs ≤ s.clock) := by
  simp only [bridgeTest_lastHead]; decide +kernel

/-- A tunnel packet of a SID: TTYPE, port, TTAG 0xFFFF and an item. -/
def tnPkt (sid ttype port : Nat) (i : List Byte) : Pkt :=
  { kind := pkTunnel, tc := 1, id := sid,
    payload := BitVec.ofNat 64 (ttype + port * 2 ^ 16 + 0xFFFF * 2 ^ 32 + i.length * 2 ^ 48) :: packCrumbs i }

/-- A classical CAN frame of 8 bytes to send. -/
def canItem : List Byte := leBytes 8 0 ++ leBytes 4 0x7FF ++ [8, 0, 0, 0] ++ List.replicate 8 1

/-- CAN1 enabled and error-active, with n frames queued. -/
def canOn (p : Pkt) (n : Nat) : State :=
  { (hears p).setFlds [(CAN.CTL_EN 1, 1), (CAN.STAT_STATE 1, 0)] with cans := [(1, { queue := List.replicate n (0, []) })] }

theorem witness_TunnelsAndMessages :
    takes (canOn (tnPkt 0x701 3 0 canItem) 0) (fun p : Pkt => p.kind == pkTunnel && (p.id == 0x700 || p.id == 0x701)) (fun p _ => tnType p != 2) = true
    ∧ takes ((canOn (tnPkt 0x701 2 0 canItem) 0).setFld (CAN.CTL_LISTEN 1) 1)
        (fun p : Pkt => p.kind == pkTunnel && (p.id == 0x700 || p.id == 0x701)) (fun p u =>
        tnForm p && tnType p == 2 && canItemGood (u.flag (CAN.CTL_FDEN 1)) (tnItem p) && u.flag (CAN.CTL_LISTEN 1)) = true
    ∧ takes (canOn (tnPkt 0x701 2 0 canItem) 32) (fun p : Pkt => p.kind == pkTunnel && (p.id == 0x700 || p.id == 0x701)) (fun p u =>
        tnForm p && tnType p == 2 && canItemGood (u.flag (CAN.CTL_FDEN 1)) (tnItem p) && u.flag (CAN.CTL_EN 1) && !u.flag (CAN.CTL_LISTEN 1)
        && u.fld (CAN.STAT_STATE 1) != 2 && decide (32 ≤ (u.can 1).queue.length)) = true
    ∧ takes (canOn (tnPkt 0x701 2 0 canItem) 31) (fun p : Pkt => p.kind == pkTunnel && (p.id == 0x700 || p.id == 0x701)) (fun _ u =>
        decide ((u.can 1).queue.length < 32)) = true
    ∧ takes (hears (tnPkt 0x708 0x10 191 ([127, 2, 0, 64] ++ leBytes 2 0xFFFF ++ [0, 0]))) (fun p => p.kind == pkTunnel && p.id == 0x708) (fun p u =>
        tnForm p && tnType p == 0x10 && tunnelPort p == 191 && twGood (tnItem p) && u.accessible 191 (twOffset (tnItem p))
        && decide (u.headTunnels 191 < 16)) = true
    ∧ takes (hears (tnPkt 0x709 0x20 191 (leBytes 8 bcPoll))) (fun p => p.kind == pkTunnel && p.id == 0x709) (fun p u =>
        tnForm p && tnType p == 0x20 && tunnelPort p == 191 && hmGood (tnItem p) && u.accessible 191 0 && decide (u.headTunnels 191 < 16)) = true := by
  decide +kernel

/-- The uplink OPERATING with its link layer up. -/
def uplIs : State := (lit .run 1000000).setFlds [(LK.LKSTAT_STATE .upl, lsOper), (UPL.UPSTAT_UP, 1)]

theorem witness_TunnelsAndMessages_other :
    (let m : IntMsg := ⟨0x2D7, 1, 1, 0, 0, []⟩
     let s : State := { uplIs.setFld BRG.IMASK_EN 0x400 with intr := [⟨0x200, 1, 1, 0, 0, []⟩, m] }
     s.uplUp = true ∧ s.upl.hello = false ∧ s.intr.find? s.eligible = some m ∧ s.flag BRG.CTL_COMPATNOW = false)
    ∧ (let s := lit .run
       s.domainOn .fabric = true ∧ s.upl.rxq = [] ∧ s.hostBusy = false ∧ s.bridge.drbs = [] ∧ s.bridge.locks = [] ∧ s.mbx.runs = []) := by
  decide +kernel

/-! ## Witnesses: the uplink and the mailboxes -/

/-- The crumbs of a CREDIT: 0 plain, 1 INIT, 2 NAK, and of a tunnel packet with a link sequence number. -/
def creditCs (k : Nat) : List Crumb := ({ kind := 10, tc := 0, id := 0, kspec := k, payload := [1, 2, 3] } : Pkt).crumbs 0xFFFF
def packetCs (lseq : Nat) : List Crumb := (tnPkt 0x700 2 0 canItem).crumbs lseq

/-- The peer link OPERATING, with its link layer. -/
def peerIs (x : PeerLl) (now : Nat := 1000000) : State :=
  { (lit .run now).setFlds [(LK.LKSTAT_STATE .peer, 7), (PEER.PSTAT_STATE, prLinking)] with pl := x }
def peerCs (lseq : Nat) : List Crumb := (peerPkt 0x13 [4]).crumbs lseq

theorem witness_CreditPackets :
    (uplIs.uplOperating = true ∧ uplIs.uplLoops = false ∧ uplIs.upl.injRx = false ∧ uplIs.flag UPL.UPSTAT_UP = true
      ∧ (uplIs.setFld UPL.UPSTAT_UP 0).flag UPL.UPSTAT_UP = false ∧ (uplIs.setFld UPL.UPSTAT_UP 0).uplOperating = true)
    ∧ (∀ k ∈ [0, 1, 2], let cs := creditCs k
      cs = cs.getD 0 0 :: cs.drop 1 ∧ pktCheck cs = 0 ∧ bitsOf (cs.getD 0 0).toNat 5 0 = 10 ∧ bitsOf (cs.getD 0 0).toNat 46 37 = 3
      ∧ bitsOf (cs.getD 0 0).toNat 8 6 = 0 ∧ bit (cs.getD 0 0).toNat 49 = (k == 1) ∧ bit (cs.getD 0 0).toNat 50 = (k == 2))
    ∧ (let cs := ({ kind := 10, tc := 1, id := 0, kspec := 0, payload := [1, 2, 3] } : Pkt).crumbs 0xFFFF
       pktCheck cs = 0 ∧ bitsOf (cs.getD 0 0).toNat 46 37 = 3 ∧ bitsOf (cs.getD 0 0).toNat 8 6 ≠ 0)
    ∧ (∀ up ∈ [true, false], let s := peerIs { initSent := true, up := up }
       s.peerUp = true ∧ s.pl.initSent = true ∧ s.pl.up = up) := by decide +kernel

/-- The uplink with one unacknowledged packet, the last acknowledged one being 65,535. -/
def holding (at_ : Option Nat) : State :=
  { uplIs.setFld UPL.UPSEQ_TXACK 65535 with upl := { replay := [⟨0, mgmt [0], none⟩], replayAt := at_ } }

theorem witness_AcknowledgementAndReplay :
    (let d := fun (seq : Nat) => (seq + 65536 - (holding none).fld UPL.UPSEQ_TXACK) % 65536
     d 65535 = 0 ∧ (holding none).upl.replay.length < d 1 ∧ 0 < d 0 ∧ d 0 ≤ (holding none).upl.replay.length)
    ∧ ((holding none).upl.replay ≠ [] ∧ (holding none).upl.replayAt = none)
    ∧ ((holding (some 995000)).upl.replayAt = some 995000 ∧ (holding (some 995000)).clock < 995000 + 10000)
    ∧ (let s := peerIs { replay := [(0, peerPkt 0x12 [1])], replayAt := some 995000 }
       let e := fun (seq : Nat) => (seq + 65536 - s.pl.txAck) % 65536
       e 65535 = 0 ∧ s.pl.replay.length < e 1 ∧ 0 < e 0 ∧ e 0 ≤ s.pl.replay.length ∧ s.pl.replayAt = some 995000
       ∧ s.clock < 995000 + 10000) := by decide +kernel

theorem witness_UplinkResults :
    (let s : State := { uplIs with upl := { initSent := true } }
     s.uplOperating = true ∧ s.upl.initSent = true ∧ s.upl.initGot = false ∧ s.upl.ackAt + 1000000 ≤ s.clock
     ∧ (s.link .upl).attempts + 1 < 16)
    ∧ (let x := (uplIs.setLink .upl { attempts := 15 }).link .upl
       16 ≤ x.attempts + 1 ∧ x.failRep = false)
    ∧ ((uplIs.setFld UPL.UPSTAT_NAKWAIT 1).uplOperating = true ∧ (uplIs.setFld UPL.UPSTAT_NAKWAIT 1).flag UPL.UPSTAT_NAKWAIT = true)
    ∧ (uplIs.uplUp = true ∧ uplIs.upl.ackAt + uplIs.replayNs ≤ uplIs.clock ∧ uplIs.domainOn .uplink = true)
    ∧ (let s : State := { holding none with tsu := { now := 1000000000 * 2 ^ 28, running := true } }
       s.uplUp = true ∧ s.upl.replay ≠ [] ∧ s.upl.ackAt + s.stallNs .upl ≤ s.clock)
    ∧ (let s : State := { uplIs with upl := { initSent := true } }
       let d := fun lseq => (bitsOf ((packetCs lseq).getD 0 0).toNat 36 21 + 65536 - s.fld UPL.UPRXSEQ_RXNEXT) % 65536
       s.uplLoops = false ∧ s.upl.injRx = false ∧ d 0 = 0 ∧ (0 < d 32767 ∧ d 32767 ≤ 32767) ∧ 32767 < d 32768
       ∧ ∀ lseq ∈ [0, 32767, 32768], pktCheck (packetCs lseq) = 0 ∧ bitsOf ((packetCs lseq).getD 0 0).toNat 5 0 ≠ 10)
    ∧ (crc8Good 1 = false ∧ crc8Good ((packetCs 0).getD 0 0) = true ∧ pktCheck (packetCs 0).dropLast = 2)
    ∧ (let s : State := { uplIs with upl := { initSent := true, injRx := true } }
       s.uplLoops = false ∧ s.upl.initSent = true ∧ s.upl.injRx = true ∧ pktCheck (packetCs 0) = 0)
    ∧ (let s := (lit .service).setFlds [(LK.LKSTAT_STATE .upl, lsOper), (UPL.UPCTL_LPBK, 1)]
       s.uplOperating = true ∧ s.uplLoops = true)
    ∧ (let s : State := { uplIs with upl := { initDue := 1 } }
       s.uplOperating = true ∧ 0 < s.upl.initDue)
    ∧ (let s : State := { uplIs with upl := { nakDue := true } }
       s.upl.initDue = 0 ∧ s.upl.nakDue = true)
    ∧ (let s : State := { uplIs with upl := { ackDue := true } }
       s.upl.nakDue = false ∧ s.upl.ackDue = true)
    ∧ (let s : State := { uplIs with upl := { again := [⟨0, mgmt [0], none⟩] } }
       s.upl.again = ⟨0, mgmt [0], none⟩ :: [] ∧ s.upl.injTx = false ∧ s.upl.initDue = 0 ∧ s.upl.nakDue = false ∧ s.upl.ackDue = false
       ∧ s.flag UPL.UPSTAT_UP = true) := by decide +kernel

theorem witness_UplinkResults_peer :
    (let s := peerIs { initSent := true }
     s.peerUp = true ∧ s.pl.initGot = false ∧ s.pl.initSent = true ∧ s.pl.ackAt + 1000000 ≤ s.clock)
    ∧ (peerIs { nakWait := true }).pl.nakWait = true
    ∧ (let s := peerIs { initSent := true, up := true, replay := [(0, peerPkt 0x12 [1])] } (1000000000 * 2 ^ 28)
       s.peerUp = true ∧ s.pl.up = true ∧ s.pl.ackAt + 100000 ≤ s.clock ∧ s.pl.replay ≠ [] ∧ s.pl.ackAt + s.stallNs .peer ≤ s.clock)
    ∧ (let d := fun lseq => (bitsOf ((peerCs lseq).getD 0 0).toNat 36 21 + 65536 - (peerIs {}).pl.rxNext) % 65536
       d 0 = 0 ∧ (0 < d 32767 ∧ d 32767 ≤ 32767) ∧ 32767 < d 32768 ∧ pktCheck (peerCs 0).dropLast ≠ 0
       ∧ ∀ lseq ∈ [0, 32767, 32768], pktCheck (peerCs lseq) = 0 ∧ bitsOf ((peerCs lseq).getD 0 0).toNat 5 0 ≠ 10
         ∧ bitsOf ((peerCs lseq).getD 0 0).toNat 5 0 ≠ 0x10) := by decide +kernel

theorem witness_UplinkResults_hello :
    let s : State := { uplIs.setFld (UPL.UPTXCL_CL 0) 1 with upl := { hello := true } }
    s.uplOperating = true ∧ s.flag UPL.UPSTAT_UP = true ∧ s.upl.initDue = 0 ∧ s.upl.nakDue = false ∧ s.upl.ackDue = false
    ∧ s.upl.again = [] ∧ s.upl.hello = true ∧ s.mayLow s.helloPkt = true := by decide +kernel

theorem witness_MailboxChannels :
    let s := lit .run
    let at_ := fun (st : Nat) => (lit .run).setFld (MBX.CST_STATE 63) st
    s.domainOn .fabric = true ∧ s.fld (MBX.CST_STATE 63) ≠ 4
    ∧ idxDiff 64 (s.fld (MBX.IDX_CCI 63)) ≤ 64 ∧ 64 < idxDiff 65 (s.fld (MBX.IDX_CCI 63)) ∧ 64 < idxDiff 65535 (s.fld (MBX.IDX_CCI 63))
    ∧ idxDiff (s.fld (MBX.IDX_RPI 63)) 65472 ≤ 64 ∧ 64 < idxDiff (s.fld (MBX.IDX_RPI 63)) 65471
    ∧ (at_ 4).domainOn .fabric = true ∧ (at_ 4).fld (MBX.CST_STATE 63) = 4 ∧ (at_ 3).fld (MBX.CST_STATE 63) = 3 := by decide +kernel

/-- A command of channel 63 with a body. -/
def req (op : Nat) (body : List Byte) : Req :=
  { ch := 63, opcode := op, tag := 0xFFFF, noint := false, level := 0x0300, len := body.length, body := bytesAt body 0 48 }

theorem witness_MailboxResponses : (req 0x0100 []).ch < 64 ∧ (req 0x0100 []).mute = false ∧ Memory.wf (lit .run).mem = true := by decide

/-- A state in which channel 63 has accepted a command. -/
def ask (op : Nat) (body : List Byte) (s : State := lit .run) : State := { s with mbx := { s.mbx with cur := [(63, req op body)] } }

/-- Every command of `ask` is met: what `takes` asks of the state. -/
theorem ask_takes (op : Nat) (body : List Byte) (s : State) : (ask op body s).takes 63 op = some (req op body) := by
  simp [ask, State.takes, req]

/-- An image in the running slot, empty. -/
def bare : Image := ⟨0, 0, 0, some [], [], []⟩

/-- Sirfiqua serves, and entry 65,535 of channel 63 waits, of an opcode, its SHI a level. -/
def waiting (op shi : Nat) : State :=
  ({ lit .run with sys := { (lit .run).sys with image := some bare }, mbx := { order := [(63, 65535, false)] } } : State).poke
    (cmdEntry 63 65535) (leBytes 2 op ++ List.replicate 6 0 ++ leBytes 2 shi)

theorem witness_MailboxAcceptance :
    ∀ x ∈ [(0x0100, 0x0300, none), (0x0100, 0x0400, some (5, 0)), (0x00FF, 0x0300, some (2, 0))],
      let s := waiting x.1 x.2.1
      let e := s.bytes (cmdEntry 63 65535) 64
      s.serving = true ∧ s.mbx.order = (63, 65535, false) :: [] ∧ s.chFree 63 = true ∧ s.chRoom 63 = true
      ∧ s.poisoned (cmdEntry 63 65535) 64 = false
      ∧ s.checkEntry 63 e 0x0300 = x.2.2 := by decide +kernel

/-- The same at a channel of level 2.4, with aliases for two ports. -/
def waitsOld (op port : Nat) : State :=
  (({ lit .run with sys := { (lit .run).sys with image := some bare }
                    mbx := { order := [(63, 65535, false)], ck2100 := [191, 255] } } : State).setFld (MBX.CST_LEVEL 63) 0x0204).poke
    (cmdEntry 63 65535) (leBytes 2 op ++ [0, 0, 0, 0, 2, 0] ++ List.replicate 8 0 ++ [BitVec.ofNat 8 port])

theorem witness_MailboxAcceptance_alias :
    (let s := waitsOld 0x0200 0
     let e := s.bytes (cmdEntry 63 65535) 64
     s.serving = true ∧ s.mbx.order = (63, 65535, false) :: [] ∧ s.chFree 63 = true ∧ s.chRoom 63 = true
     ∧ s.poisoned (cmdEntry 63 65535) 64 = false ∧ s.fld (MBX.CST_LEVEL 63) = 0x0204 ∧ fieldAt e 8 2 = 0
     ∧ s.checkEntry 63 e 0x0204 = none ∧ s.aliasOf 0 = some 191 ∧ s.aliasOf 1 = none)
    ∧ (let s := (waitsOld 0x0100 0).poke (cmdEntry 63 65535 + 6) [0, 0, 0, 0, 0, 0, 0, 0, 0, 0, 0]
       s.checkEntry 63 (s.bytes (cmdEntry 63 65535) 64) 0x0204 = none) := by decide +kernel

theorem witness_SystemCommands :
    (let r := req 0x0101 [0xFF, 3, 0xFF, 3]
     0x0300 ≤ r.arg 2 2 ∧ (req 0x0101 [2, 3, 0xFF, 3]).arg 0 2 ≤ min ((req 0x0101 [2, 3, 0xFF, 3]).arg 2 2) 0x0302)
    ∧ (ask 0x0102 [] { lit .run with sys := { (lit .run).sys with image := some bare } }).sys.image = some bare
    ∧ (8 ≤ (req 0x0103 [8]).arg 0 1 ∧ ((lit .run).setFld GLB.MODE_BUSY 1).flag GLB.MODE_BUSY = true)
    ∧ (let s := ask 0x0103 [3] (lit .safe)
       (req 0x0103 [3]).arg 0 1 < 8 ∧ s.flag GLB.MODE_BUSY = false ∧ Mode.ofCode 3 ≠ s.mode ∧ legalMove s.mode (Mode.ofCode 3) = false)
    ∧ (let s := fun g => ask 0x0103 [7] { lit .safe with sec := { grant := g } }
       Mode.ofCode 7 = .service ∧ Mode.ofCode 7 ≠ (s none).mode ∧ legalMove (s none).mode .service = true
       ∧ (s (some 1)).granted = true ∧ (s none).granted = false)
    ∧ (let s := ask 0x0103 [4]
       (req 0x0103 [4]).arg 0 1 < 8 ∧ s.flag GLB.MODE_BUSY = false ∧ Mode.ofCode 4 ≠ .degraded ∧ Mode.ofCode ((req 0x0103 [4]).arg 0 1) = s.mode)
    ∧ (∀ m ∈ [0, 1, 2], let s := ask 0x0103 [BitVec.ofNat 8 m]
       (req 0x0103 [BitVec.ofNat 8 m]).arg 0 1 = m ∧ s.flag GLB.MODE_BUSY = false ∧ Mode.ofCode m ≠ s.mode ∧ legalMove s.mode (Mode.ofCode m) = true
       ∧ (Mode.ofCode m = .standby ∨ Mode.ofCode m = .boot ∨ Mode.ofCode m = .safe))
    ∧ (let r := req 0x0105 ([0, 0, 40] ++ (List.range 40).map (fun i => BitVec.ofNat 8 (152 + i)) ++ leBytes 5 (2 ^ 39))
       let ports := (List.range (r.arg 2 1)).map fun i => r.arg (3 + i) 1
       r.arg 0 2 = 0 ∧ r.arg 2 1 = 40 ∧ ports.Nodup ∧ (∀ p ∈ ports, p < 192) ∧ 191 ∈ ports)
    ∧ (let r := req 0x0106 ([1, 0, 191] ++ List.replicate 23 255)
       r.arg 0 1 ≤ 1 ∧ (∀ i < 24, r.arg (2 + i) 1 < 192 ∨ r.arg (2 + i) 1 = 255) ∧ ∀ x ∈ (ask 0x0106 []).mbx.runs, x.opcode ≠ 0x0106) := by decide +kernel

theorem witness_SystemCommands_modes :
    (let s := lit .prepare
     Mode.ofCode 4 = .run ∧ s.mode = .prepare ∧ s.checkPixels s.cfg.active = none ∧ s.checkMemory s.cfg.active [] = none
     ∧ s.checkPixels [(setKey 1 191 0x100, leBytes 4 (8192 + 8192 * 2 ^ 16)), (setKey 1 191 0x103, leBytes 4 1)] ≠ none)
    ∧ (let s := (lit .run).setFld KPR.STRAPS_PAIRID_EFF 1
       Mode.ofCode 5 = .paired ∧ ((lit .run).setFld KPR.STRAPS_PAIRID_EFF 2).dev = 0 ∧ s.dev ≠ 0 ∧ s.pairAdmits s.pair.mode = true) := by
  decide +kernel

theorem witness_PortCommands :
    (let s := ask 0x0200 [191]
     let r := req 0x0200 [191]
     r.arg 0 2 = 191 ∧ CfgSet.portEnabled (s.setFor 191) 191 = true ∧ (req 0x0202 [191, 0, 1]).arg 2 1 ≤ 1 ∧ (req 0x0203 [191, 0, 1]).arg 2 1 = 1
     ∧ r.arg 2 1 = 0)
    ∧ (let r := req 0x0300 [0, 0, 0, 1]
       1 ≤ r.arg 2 2 ∧ r.arg 2 2 ≤ 256)
    ∧ (let s := ask 0x0301 [191] ((lit .run).setPstate 191 psStreaming)
       CfgSet.portEnabled (s.setFor 191) 191 = true ∧ s.pstate 191 = psStreaming
       ∧ (ask 0x0303 [191] ((lit .run).setPstate 191 psReady)).pstate 191 = psReady)
    ∧ (let s := ask 0x0200 [191] { lit .run with cfg := { active := [(setKey 1 191 0x8000, [0])] } }
       CfgSet.portEnabled (s.setFor 191) 191 = false)
    ∧ ((ask 0x0303 [191]).pstate 191 ≠ psReady ∧ (ask 0x0303 [191]).pstate 191 ≠ psStreaming) := by decide +kernel

/-! ## Witnesses: commands of slices, streams, lattices, statistics, the pair, configuration, time, CAN, faults -/

theorem witness_SliceStreamPairCommands :
    ((req 0x0400 [207]).arg 0 2 < 208 ∧ (req 0x0402 [207]).arg 0 2 < 208 ∧ (req 0x0403 [191]).arg 0 2 < 192)
    ∧ (let at_ := fun (a : Nat) => pqDecode (bytesAt (req 0x0401 ([191, 0, 0, 0] ++ leBytes 4 16 ++ [1, 0x13, 4, 0] ++ leBytes 4 a)).body 4 16)
       ((lit .run).pqPut 191 true (at_ 0xFFFFFF)).1 = 0 ∧ ((lit .run).pqPut 191 true (at_ 0x7FFFFF)).1 = 1
       ∧ ((lit .run).pqPut 191 false (at_ 0xFFFFFF)).1 = 3)
    ∧ (let s := ask 0x0403 [191] ((lit .run).setFld (XBAR.MAP_CUR 191) 207)
       CfgSet.portEnabled (s.setFor 191) 191 = true ∧ s.sliceOf 191 = some 207)
    ∧ (let r := req 0x0404 (leBytes 4 86400 ++ [4, 1])
       10 ≤ r.arg 0 4 ∧ r.arg 0 4 ≤ 86400 ∧ 1 ≤ r.arg 4 1 ∧ r.arg 4 1 ≤ 4 ∧ r.arg 5 1 ≤ 1)
    ∧ (let s := ask 0x0500 (leBytes 2 1528) { lit .run with cfg := { active := camSet true } }
       let a := (req 0x0500 (leBytes 2 1528)).arg 0 2
       a < 1536 ∧ a % 8 < 4 ∧ CfgSet.portEnabled (s.setFor (a / 8)) (a / 8) = true ∧ CfgSet.streamOn (s.setFor (a / 8)) (a / 8) (a % 8) = true)
    ∧ ((req 0x0600 [7]).arg 0 1 < 8 ∧ CfgSet.latDefined (ask 0x0600 [7]).cfg.active 7 = false
       ∧ CfgSet.latDefined [(setKey 4 7 0x8000, [1])] 7 = true)
    ∧ (let s := (ask 0x0700 [191] ((lit .run).setFld (XBAR.MAP_CUR 191) 207)).poke (statsBase 207) [1]
       s.takes 63 0x0700 = some (req 0x0700 [191]) ∧ s.sliceOf 191 = some 207 ∧ CfgSet.portEnabled (s.setFor 191) 191 = true
       ∧ allZero (s.statRead 207 (0x3C00 * s.fld (SL.STSTAT_BANK 207)) 14912).1 0 64 = false)
    ∧ (let s := ask 0x0901 [] ((lit .run).setPrState prPaired)
       let r := req 0x0901 []
       s.prState = prPaired ∧ s.pair.purpose = 0
       ∧ ((List.range 192).filter fun p => bit (r.arg 0 24) p && s.pairedCam p && s.prima p != bit (r.arg 24 24) p) = [])
    ∧ (ask 0x0901 []).prState ≠ prPaired := by decide +kernel

/-- Staging window n open for channel 63 at an address, with a size and bytes placed in it. -/
def stage (n base size : Nat) (b : List Byte) (s : State) : State :=
  ({ s with mbx := { s.mbx with stages := [(n, (63, base, size))] } } : State).poke base b

/-- A flip that this device waits to reach at 1000 ns, or has reached. -/
def flip (wait : Nat) (reached remote : Bool) (num : Nat := 7) : Flip :=
  { chan := 63, tag := 0xFFFF, epoch := some 1000, pace := none, admitted := 0, reached := reached, todo := [], done := [], moves := [],
    failed := none, remote := remote, wait := wait, tdone := 0, num := num }

/-- A device with a flip. -/
def flips (s : State) (f : Flip) : State := { s with cfg := { s.cfg with flip := some f } }

theorem witness_ConfigurationCommands :
    (let s := ask 0x0800 (leBytes 4 67108864)
     let r := req 0x0800 (leBytes 4 67108864)
     1 ≤ r.arg 0 4 ∧ r.arg 0 4 ≤ 67108864 ∧ (s.mbx.stages.get 1 (r.ch, 0, 0)).1 = r.ch)
    ∧ (let s := stage 1 0x10C000000 128 [] (ask 0x0801 (leBytes 4 128))
       let r := req 0x0801 (leBytes 4 128)
       s.flipPending = false ∧ s.mbx.stages.has 1 = true ∧ s.mbx.stages.get 1 (0, 0, 0) = (r.ch, 0x10C000000, 128) ∧ 1 ≤ r.arg 0 4 ∧ r.arg 0 4 ≤ 128)
    ∧ (let b := [1, 0] ++ leBytes 2 191 ++ leBytes 2 0x100 ++ [4, 0] ++ leBytes 4 (8 + 2 * 2 ^ 16)
       let r := req 0x0802 b
       1 ≤ r.arg 6 1 ∧ r.arg 6 1 ≤ 40
       ∧ (CfgSet.put (lit .run).cfg.shadow (r.arg 0 1) (r.arg 2 2) (r.arg 4 2) (bytesAt r.body 8 (r.arg 6 1))).isSome = true)
    ∧ ((flips (ask 0x0803 []) (flip 0 false false)).flipPending = true ∧ (ask 0x0803 []).flipPending = false)
    ∧ ((lit .run).admission (lit .run).cfg.shadow (lit .run).pairView = none
       ∧ ((lit .run).admission [(setKey 1 191 0x100, leBytes 4 (8 + 2 * 2 ^ 16))] (lit .run).pairView).isSome = true)
    ∧ (let r := req 0x0805 ([0, 1, 0, 0, 0, 0, 0, 0] ++ leBytes 8 60000000000)
       r.arg 0 1 = 0 ∧ r.arg 2 2 = 0 ∧ r.arg 8 8 ≤ (lit .run).now + 60000000000 ∧ r.arg 16 4 = (lit .run).fld GLB.CFGGEN_GEN
       ∧ (lit .run).mirrors = false ∧ (lit .run).flipPending = false ∧ ((ask 0x0805 []).admitFlip (flip 0 false false)).mirrors = false)
    ∧ (let r := req 0x0805 ([1, 0] ++ leBytes 2 191)
       r.arg 0 1 = 1 ∧ r.arg 2 2 < 192 ∧ ((lit .run).setPstate 191 psStreaming).pstate (r.arg 2 2) = psStreaming ∧ r.arg 8 8 = 0
       ∧ bit (r.arg 1 1) 0 = false)
    ∧ (let s := fun reached => flips (ask 0x0806 []) (flip 0 reached false)
       (s true).cfg.flip = some (flip 0 true false) ∧ (flip 0 false false).reached = false ∧ (flip 0 true false).reached = true)
    ∧ ((req 0x0807 [1]).arg 0 1 ≤ 1 ∧ (ask 0x0808 []).cfg.flip = none)
    ∧ (let s := flips (lit .run 1000) (flip 0 false false)
       s.cfg.flip = some (flip 0 false false) ∧ (flip 0 false false).epoch = some 1000 ∧ (flip 0 false false).wait ≠ 1 ∧ 1000 ≤ s.now)
    ∧ (lit .run).oldGone (7 * 65536 + (2047 : BitVec 11).toNat) = true := by decide +kernel

/-- A device in PREPARE whose TSU is in a state. -/
def timed (st : Nat) : State := (lit .prepare).setFld TSU.DSTAT_STATE st

theorem witness_TimeCanFaultCommands :
    (let asked := fun (s : State) (op : Nat) =>
       (req op [255]).arg 0 8 * 1000000000 < 2 ^ 64 ∧ s.tsu.change = none ∧ (req op [255]).opcode = op
     asked (timed tuLocked) 0x0A01 ∧ asked (timed 0) 0x0A02 ∧ (timed tuLocked).mode.streaming = false
     ∧ (timed tuLocked).fld TSU.DSTAT_STATE = tuLocked ∧ (timed tuAcquire).fld TSU.DSTAT_STATE = tuAcquire
     ∧ (timed 0).fld TSU.DSTAT_STATE ≠ tuLocked ∧ (timed 0).fld TSU.DSTAT_STATE ≠ tuAcquire)
    ∧ ((req 0x0A01 [255]).arg 0 8 * 1000000000 < 2 ^ 64 ∧ (lit .run).mode.streaming = true
      ∧ 1000000 < ((255 * 1000000000 : Nat) : Int) - ((lit .run).now : Nat))
    ∧ ((lit .run).flag TSU.DCTL_PPSOUT_EN = false)
    ∧ ((req 0x0B03 [1, 2]).arg 0 1 ≤ 1 ∧ (req 0x0B03 [1, 2]).arg 1 1 = 2 ∧ (lit .run).canFast 1 = false
      ∧ ((lit .run).setFlds [(CAN.NBT_BRP 1, 1), (CAN.NBT_NTQ 1, 80)]).canFast 1 = true ∧ (req 0x0B03 [1, 1]).arg 1 1 ≤ 1)
    ∧ ((req 0x0A02 [1]).arg 8 1 = 0 ∧ (req 0x0A02 [0, 0, 0, 0, 0, 0, 0, 0, 1]).arg 8 1 = 1 ∧ (lit .run).tsu.held = none)
    ∧ ((req 0x0A05 [15]).arg 0 1 < 16 ∧ (req 0x0A06 [15, 5]).arg 0 1 < 16 ∧ (req 0x0A06 [15, 5]).arg 1 1 ≤ 5)
    ∧ (let r := fun n d => req 0x0B01 ([1, 63] ++ leBytes 4 n ++ leBytes 4 d)
       (r 0 0).arg 0 1 ≤ 1 ∧ (r 0 0).arg 1 1 < 64 ∧ (canRates ((r 1000000 5000000).arg 2 4) ((r 1000000 5000000).arg 6 4)).isSome = true
       ∧ canRates ((r 1000001 0).arg 2 4) ((r 1000001 0).arg 6 4) = none)
    ∧ (let r := req 0x0B02 [1, 31, 2]
       r.arg 0 1 ≤ 1 ∧ r.arg 1 1 < 32 ∧ r.arg 2 1 ≤ 2)
    ∧ (let s : State := { State.reset with keeper := { log := [(1023, newEntry creport 0)] } }
       (req 0x0C00 (leBytes 2 1023)).arg 0 2 < 1024 ∧ s.firstRecord 1023 = some 1023 ∧ (lit .run).firstRecord 1023 = none)
    ∧ (let s : State := ask 0x0C01 (leBytes 2 0 ++ leBytes 2 0x0101)
         { lit .run with keeper := { log := [(0, { newEntry creport 0 with read := true })] } }
       let r := req 0x0C01 (leBytes 2 0 ++ leBytes 2 0x0101)
       (s.clearRecord (r.arg 0 2) (r.arg 2 2)).isSome = true) := by decide +kernel

/-! ## Witnesses: updates, service, long commands

What SEC verifies goes through the opaque functions of Config (log entry 2): the witnesses of a verified image, an image of a set
whose digest agrees and a good signature say so in their hypotheses. -/

/-- A certificate of usage 1 under a root whose key identifier is 0. -/
def leaf : List Byte := leBytes 4 0x54434B43 ++ leBytes 2 1 ++ [1] ++ List.replicate 249 0

/-- The CERT field with that certificate, the header before it, and the image: 16 bytes, one section of a type, SHI 3.2, the
greatest SVN. -/
def certField : List Byte := ([1] ++ List.replicate 15 0 ++ leaf) ++ List.replicate 3216 0
def header (want : Nat) : List Byte :=
  [0x43, 0x4B, 0x49, 0x4D, 1, 0, 0, 0, 16, 0, 0, 0, 255, 255, 255, 255, 2, 3, 1, 0] ++ (List.replicate 64 0 ++ ([16, 0, 0, 0, 0, 0, 0, 0]
    ++ (BitVec.ofNat 8 want :: List.replicate 515 0)))
def sealed (want : Nat) : List Byte := (header want ++ certField) ++ List.replicate 16 0

theorem bytesAt_left (a b : List Byte) (n : Nat) (h : a.length = n) : bytesAt (a ++ b) 0 n = a := by
  subst h
  unfold bytesAt
  apply List.ext_getElem
  · simp
  · intro i h1 h2
    simp [List.getElem?_append_left h2, List.getElem?_eq_getElem h2]

theorem bytesAt_right (a b : List Byte) (m n : Nat) (ha : a.length = m) (hb : b.length = n) : bytesAt (a ++ b) m n = b := by
  subst ha hb
  unfold bytesAt
  apply List.ext_getElem
  · simp
  · intro i h1 h2
    simp [List.getElem?_append_right, List.getElem?_eq_getElem h2]

theorem allZero_right (a : List Byte) (off n m : Nat) (h : a.length ≤ off) : allZero (a ++ List.replicate m 0) off n = true := by
  unfold allZero bytesAt
  simp only [List.all_map, List.all_eq_true, List.mem_range, Function.comp]
  intro i _
  rw [List.getD_eq_getElem?_getD, List.getElem?_append_right (by omega), List.getElem?_replicate]
  split <;> rfl

theorem imageCerts_leaf : imageCerts certField = some [leaf] := by
  have h1 : fieldAt certField 0 2 = 1 := by decide +kernel
  have h2 : allZero certField 2 14 = true := by decide +kernel
  have h3 : allZero certField (16 + 256 * 1) (3488 - (16 + 256 * 1)) = true := allZero_right _ _ _ _ (by decide +kernel)
  have h4 : (List.range 1).map (fun i => bytesAt certField (16 + 256 * i) 256) = [leaf] := by decide +kernel
  unfold imageCerts
  simp only [h1]
  rw [if_pos ⟨by decide, h2, h3⟩, h4]

theorem header_facts : ∀ want ∈ [1, 3], let h := header want ++ certField
    h.length = 4096 ∧ (header want).length = 0x260 ∧ certField.length = 3488 ∧ ((sealed want).drop 4096).length = 16 ∧ (sealed want).length = 4112
    ∧ headerGood h want = true ∧ imgRevoke h = 0 ∧ fieldAt h 0x20 48 = 0 ∧ fieldAt h 8 4 = 16 ∧ fieldAt h 0x0C 4 = 0xFFFFFFFF := by
  decide +kernel

theorem witness_verifyImage (hs : Config.sha384 = fun _ => 0) (hv : Config.ecdsaVerify = fun _ _ _ _ => true) :
    verifyImage 0 (some 0) 1 (sealed 1) = 0 ∧ verifyImage 0 none 3 (sealed 3) = 0 := by
  have root : pathRoots 0 [leaf] 4 leaf ≠ [] := by
    have h1 : certWell leaf = true := by decide +kernel
    have h2 : certSigned leaf (Config.romRoot 0) = true := by
      simp only [certSigned, keyId, sha384Bytes, sigGood, hs, hv, Bool.and_true]
      decide +kernel
    have h3 : 0 ∈ romSigners 0 leaf := by
      unfold romSigners
      exact List.mem_filter.2 ⟨by decide, by rw [h2]; decide⟩
    unfold pathRoots
    rw [if_pos h1]
    intro h
    rw [List.append_eq_nil_iff] at h
    rw [h.1] at h3
    cases h3
  have valid : validOf 0 [leaf] 1 = [leaf] := by
    have h : (certUsage leaf == 1) = true := by decide +kernel
    simp only [validOf, List.filter_cons, h, Bool.true_and, bne_iff_ne, ne_eq, root, not_false_eq_true, if_true, List.filter_nil]
  have one : ∀ want ∈ [1, 3], ∀ svn ∈ [some 0, none], verifyImage 0 svn want (sealed want) = 0 := by
    intro want hw svn hn
    obtain ⟨h1, h2, h3, hb, -, hg, hr, hd, hl, hx⟩ := header_facts want hw
    have hh : bytesAt (sealed want) 0 4096 = header want ++ certField := bytesAt_left _ _ _ h1
    have hc : bytesAt (header want ++ certField) 0x260 3488 = certField := bytesAt_right _ _ _ _ h2 h3
    have hq : revokesOwn 0 (header want ++ certField) = false := by simp [revokesOwn, hr, bit]
    have sig : ∀ h : List Byte, sigGood (certKey leaf) (Config.sha384 (bytesAt h 0 0x200)) h 0x200 = true := by
      intro h; simp only [sigGood, hv]
    have dig : ∀ b : List Byte, (Config.sha384 b != 0) = false := by intro b; simp only [hs]; rfl
    unfold verifyImage
    dsimp only
    rw [hh, hg, hq, hc, imageCerts_leaf, hd, hl, hx, hb, dig]
    dsimp only
    rw [valid]
    dsimp only
    rw [sig]
    simp only [List.mem_cons, List.not_mem_nil, or_false] at hn
    rcases hn with rfl | rfl <;> rfl
  exact ⟨one 1 (by simp) _ (by simp), one 3 (by simp) _ (by simp)⟩

/-- The channel runs a command that has answered ACCEPTED, its staging area holding bytes. -/
def runs (op : Nat) (body : List Byte) (b : List Byte := []) (s : State := lit .run) : State :=
  ({ s with mbx := { s.mbx with runs := [{ req op body with base := 0x114000000 }] } } : State).poke 0x114000000 b

theorem witness_UpdateServiceCommands :
    (let r := req 0x0D00 (leBytes 4 16777216)
     1 ≤ r.arg 0 4 ∧ r.arg 0 4 ≤ 16777216 ∧ ((ask 0x0D00 []).mbx.stages.get 2 (r.ch, 0, 0)).1 = r.ch)
    ∧ (let s := stage 2 0x114000000 16777216 [] (ask 0x0D01 ([1, 0, 0, 0] ++ leBytes 4 16777216))
       let r := req 0x0D01 ([1, 0, 0, 0] ++ leBytes 4 16777216)
       r.arg 0 1 ≤ 1 ∧ s.mbx.stages.has 2 = true ∧ s.mbx.stages.get 2 (0, 0, 0) = (r.ch, 0x114000000, 16777216) ∧ 1 ≤ r.arg 4 4 ∧ r.arg 4 4 ≤ 16777216)
    ∧ (let r := req 0x0D02 (leBytes 4 32)
       let s := stage 2 0x14780000 32 (List.replicate 16 0 ++ leBytes 2 0x0300) (ask 0x0D02 (leBytes 4 32))
       s.mbx.runs = [] ∧ s.mode ≠ .paired ∧ fieldAt (s.bytes 0x14780000 (r.arg 0 4)) 0x10 2 / 256 = 3
       ∧ ∀ c < 64, s.fld (MBX.CST_LEVEL c) / 256 = 3 → s.fld (MBX.CST_LEVEL c) ≤ fieldAt (s.bytes 0x14780000 (r.arg 0 4)) 0x10 2)
    ∧ (let s := ask 0x0D04 [9] { lit .run with progs := [⟨9, 0x100400000, 0⟩] }
       (s.binary ((req 0x0D04 [9]).arg 0 4)).isSome = true ∧ ∀ p < 192, CfgSet.progId s.cfg.active p ≠ 9 ∧ CfgSet.progId s.cfg.shadow p ≠ 9)
    ∧ (let r := req 0x0D05 ([191, 0, 1, 0] ++ leBytes 4 4112)
       let s := stage 2 0x114000000 4112 [] (ask 0x0D05 ([191, 0, 1, 0] ++ leBytes 4 4112) ((lit .run).setPstate 191 psReady))
       r.arg 0 2 < 192 ∧ r.arg 2 1 = 1 ∧ CfgSet.portEnabled (s.setFor 191) 191 = true ∧ s.pstate 191 = psReady ∧ s.mbx.runs = []
       ∧ 1 ≤ r.arg 4 4 ∧ r.arg 4 4 ≤ 4112 ∧ s.sys.secDead = false)
    ∧ ((lit .run).flag SEC.SECSTAT_KEYLOCK = false ∧ ((lit .run).setFld SEC.SECSTAT_KEYLOCK 1).flag SEC.SECSTAT_KEYLOCK = true
       ∧ ((lit .run).setFld SEC.SECSTAT_KEYLOCK 1).sys.secDead = false ∧ (lit .run).sys.secDead = false)
    ∧ (let s := ask 0x0E02 [] { lit .run 59999999999 with
         sys := { (lit .run).sys with image := some bare }
         sec := { sigR := some (63, 5), nonce := some (1, 0, 63) } }
       s.sec.sigR = some ((req 0x0E02 []).ch, 5) ∧ s.sys.secDead = false ∧ s.sec.nonce = some (1, 0, 63) ∧ s.sys.image = some bare
       ∧ bare.serviceKey = some [] ∧ s.now < 0 + 60000000000 ∧ ¬(lit .run 60000000000).now < 0 + 60000000000)
    ∧ (req 0x0E03 [15]).arg 0 4 < 16 := by decide +kernel

theorem getList_putList (l : List Byte) (a : Nat) : Memory.getList (Memory.putList [] a l) a l.length = l := by
  unfold Memory.getList
  apply List.ext_getElem
  · simp
  · intro i h1 h2
    simp [Memory.get_putList_same l [] a i h2 rfl, List.getD, List.getElem?_eq_getElem h2]

/-- A verified image in a staging area: what UPD_FLASH, UPD_CPX_SWITCH and UPD_HEAD_FW take, and what the flash gives back. -/
theorem witness_images_placed (hs : Config.sha384 = fun _ => 0) (hv : Config.ecdsaVerify = fun _ _ _ _ => true) :
    let at_ := fun (want : Nat) (s : State) => ({ s with mem := Memory.putList [] 0x114000000 (sealed want) } : State)
    let flash := at_ 1 (runs 0x0D01 ([1, 0, 0, 0] ++ leBytes 4 4112))
    let head := at_ 3 (ask 0x0D05 ([191, 0, 1, 0] ++ leBytes 4 4112) ((lit .run).setPstate 191 psReady))
    (req 0x0D01 ([1, 0, 0, 0] ++ leBytes 4 4112)).arg 4 4 = 4112
    ∧ verifyImage flash.fuses.rootRev (some flash.fuses.fwSvn) 1 (flash.bytes 0x114000000 4112) = 0
    ∧ verifyImage flash.fuses.rootRev (some flash.fuses.fwSvn) 1 (sealed 1) = 0
    ∧ (sealed 1).take (flash.bytes 0x114000000 4112).length = flash.bytes 0x114000000 4112
    ∧ verifyImage head.fuses.rootRev none 3 (head.bytes 0x114000000 4112) = 0 := by
  have h := witness_verifyImage hs hv
  have b : ∀ want ∈ [1, 3], Memory.getList (Memory.putList [] 0x114000000 (sealed want)) 0x114000000 4112 = sealed want := by
    intro want hw
    have := getList_putList (sealed want) 0x114000000
    rwa [(header_facts want hw).2.2.2.2.1] at this
  have b1 := b 1 (by simp)
  have b3 := b 3 (by simp)
  dsimp only [State.bytes]
  rw [b1, b3]
  exact ⟨by decide +kernel, h.1, h.1, List.take_length, h.2⟩

theorem witness_LongCommandEnds :
    (∀ op ∈ [0x0801, 0x0807, 0x0D01, 0x0D02, 0x0D03, 0x0E03, 0x0E04],
      (runs op []).mbx.runs.find? (fun r => r.ch == 63 && r.opcode == op && r.tag == 0xFFFF) = some { req op [] with base := 0x114000000 })
    ∧ ((runs 0x0801 []).cpxRuns = true ∧ (runs 0x0D01 []).sys.secDead = false ∧ (runs 0x0D02 []).mbx.paused = false)
    ∧ (let r := { req 0x0801 (leBytes 4 128) with base := 0x114000000 }
       fieldAt ((runs 0x0801 (leBytes 4 128)).bytes r.base (r.arg 0 4)) 0 4 ≠ 0x46434B43)
    ∧ kernelGood ((runs 0x0D03 (leBytes 4 256)).bytes 0x114000000 256) = false
    ∧ (bit ((req 0x0E03 [13]).arg 0 4) 1 = false ∧ bit ((req 0x0E03 [15]).arg 0 4) 1 = true ∧ (runs 0x0E03 [15]).sys.pairB = .standby)
    ∧ (let s : State := { lit .run with sys := { (lit .run).sys with image := some bare }, mbx := { paused := true, runs := [req 0x0D02 []] } }
       s.switching = some (req 0x0D02 []) ∧ s.cpxRuns = true ∧ s.sys.pairB = .standby ∧ s.sys.image = some bare) := by decide +kernel

/-- The smallest kernel binary: PROGID 9, one word of code, no data and no table. -/
def kernel : List Byte :=
  leBytes 4 0x4E4B4B43 ++ leBytes 2 1 ++ leBytes 2 1 ++ leBytes 4 0 ++ leBytes 4 9 ++ leBytes 4 0 ++ leBytes 4 4 ++ List.replicate 24 0
    ++ leBytes 4 0x2144DF1C ++ List.replicate 268 0

theorem witness_LongCommandEnds_kernel (hs : Config.sha384 = fun _ => 0) (hv : Config.ecdsaVerify = fun _ _ _ _ => true) :
    kernelGood kernel = true ∧ kEnd kernel = 320 ∧ fieldAt kernel 0x0C 4 = 9 ∧ verifyKernel [[]] 0 kernel = 0 ∧ storePlace [] 320 = some 0x100400000
    ∧ storePlace [⟨1, 0x100400000, 16777216⟩] 320 = none ∧ 64 ≤ (List.replicate 64 (⟨1, 0x100400000, 64⟩ : Binary)).length := by
  refine ⟨by decide +kernel, by decide +kernel, by decide +kernel, ?_, by decide +kernel, by decide +kernel, by decide +kernel⟩
  unfold verifyKernel sigGood
  simp only [hs, hv]
  decide +kernel

/-- An image of a configuration set without records. -/
def emptySet : List Byte :=
  let h := leBytes 4 0x46434B43 ++ leBytes 2 1 ++ leBytes 2 0x0300 ++ leBytes 4 128 ++ leBytes 4 0 ++ List.replicate 48 0
  h ++ leBytes 4 (crc32 h) ++ List.replicate 60 0

theorem witness_LongCommandEnds_images (hs : Config.sha384 = fun _ => 0) :
    readImage emptySet 0x0300 = .ok [] ∧ readImage [] 0x0300 = .error 0 := by
  have h : sha384Bytes (emptySet.drop 0x80) = List.replicate 48 0 := by
    simp only [sha384Bytes, hs]; decide +kernel
  refine ⟨?_, by rfl⟩
  unfold readImage
  dsimp only
  rw [h, if_neg (by decide +kernel), if_neg (by decide +kernel), if_neg (by decide +kernel), if_neg (by decide +kernel),
    if_neg (by decide +kernel), if_neg (by decide +kernel), show fieldAt emptySet 12 4 = 0 by decide +kernel]
  unfold applyRecords
  rw [if_pos (by decide +kernel)]

/-! The export of an empty set is shorter than its staging area, however long its digest takes. -/

theorem flatMap_le {α β : Type} (l : List α) (f : α → List β) (b : Nat) (h : ∀ x ∈ l, (f x).length ≤ b) : (l.flatMap f).length ≤ l.length * b := by
  induction l with
  | nil => simp
  | cons x r ih =>
    have h1 := h x (by simp)
    have h2 := ih fun y hy => h y (by simp [hy])
    simp only [List.flatMap_cons, List.length_append, List.length_cons, Nat.add_mul]
    omega

theorem flatMap_sum {α β : Type} (l : List α) (f : α → List β) (g : α → Nat) (h : ∀ x, (f x).length ≤ g x) :
    (l.flatMap f).length ≤ (l.map g).sum := by
  induction l with
  | nil => simp
  | cons x r ih =>
    have h1 := h x
    simp only [List.flatMap_cons, List.length_append, List.map_cons, List.sum_cons]
    omega

theorem flatten_le (l : List (List Byte)) (b : Nat) (h : ∀ x ∈ l, x.length ≤ b) : l.flatten.length ≤ l.length * b := by
  simpa [List.flatMap_id'] using flatMap_le l id b h

theorem leBytes_length (n v : Nat) : (leBytes n v).length = n := by
  induction n generalizing v with
  | zero => rfl
  | succ n ih => simp [leBytes, ih]

/-- A bound on the records of an instance of a KIND. -/
def recBound : Nat → Nat
  | 1 => 14 | 2 => 1158 | 3 => 406 | 4 => 1030 | 7 => 71 | _ => 6

theorem regFields_le (kind inst : Nat) : (regFields kind inst).length + 6 ≤ recBound kind := by
  have h : (regFields kind inst).length ≤ ((windows kind inst).map fun w => (w.2 - w.1) / 4).sum := by
    refine Nat.le_trans (List.length_filter_le _ _) ?_
    rw [List.length_flatMap]
    simp
  have g : ((windows kind inst).map fun w => (w.2 - w.1) / 4).sum + 6 ≤ recBound kind := by
    unfold windows recBound
    split <;> simp
    split
    · have : inst % 8 < 4 := by assumption
      simp
      omega
    · split <;> simp
  omega

theorem records_le (kind inst : Nat) :
    (CfgSet.records [] kind inst).length ≤ recBound kind ∧ ∀ r ∈ CfgSet.records [] kind inst, r.length ≤ 40 := by
  have hd : ∀ e ∈ itemDefaults kind, e.2.length ≤ 24 := by
    unfold itemDefaults
    split <;> simp [leBytes_length]
  have hn : (itemDefaults kind).length ≤ 6 := by
    unfold itemDefaults
    split <;> simp
  have hr := regFields_le kind inst
  have hc : ∀ f (v : List Byte), v.length ≤ 24 → (cfgRecord kind inst f v).length ≤ 40 := by
    intro f v hv
    have hp : padTo 8 v.length ≤ 24 := by unfold padTo ceilDiv; omega
    simp only [cfgRecord, layout, List.length_append, leBytes_length, List.length_nil, bytesAt, List.length_map, List.length_range]
    omega
  have hi : ∀ k d, CfgSet.item [] kind inst k d = d := by intro k d; rfl
  constructor
  · unfold CfgSet.records
    rw [List.length_append, List.length_map]
    refine Nat.le_trans (Nat.add_le_add_left (List.length_filterMap_le _ _) _) ?_
    split
    · simp; omega
    · omega
  · intro r h
    unfold CfgSet.records at h
    rw [List.mem_append, List.mem_map, List.mem_filterMap] at h
    rcases h with ⟨f, _, rfl⟩ | ⟨e, he, h⟩
    · exact hc _ _ (by simp [leBytes_length])
    · rw [hi] at h
      have : e.2.length ≤ 24 := by
        split at he
        · simp at he; simp [he]
        · exact hd e he
      dsimp only at h
      split at h
      · cases h
      · cases h; exact hc _ _ this

theorem witness_LongCommandEnds_export : (CfgSet.image (lit .run).cfg.active).length ≤ 67108864 := by
  have hk : ∀ kind, (((List.range 1536).filter (instOk kind)).flatMap (CfgSet.records [] kind)).length
      ≤ ((List.range 1536).filter (instOk kind)).length * recBound kind :=
    fun kind => flatMap_le _ _ _ fun i _ => (records_le kind i).1
  have hm : ∀ r ∈ (List.range 8).flatMap (fun kind => ((List.range 1536).filter (instOk kind)).flatMap (CfgSet.records [] kind)),
      r.length ≤ 40 := by
    intro r h
    obtain ⟨kind, _, h⟩ := List.mem_flatMap.1 h
    obtain ⟨i, _, h⟩ := List.mem_flatMap.1 h
    exact (records_le kind i).2 r h
  have hs : ((List.range 8).map fun kind => ((List.range 1536).filter (instOk kind)).length * recBound kind).sum = 701437 := by decide +kernel
  have hb : ((List.range 8).flatMap (fun kind => ((List.range 1536).filter (instOk kind)).flatMap (CfgSet.records [] kind))).length ≤ 701437 := by
    rw [← hs]
    exact flatMap_sum _ _ _ hk
  have ht := flatten_le _ _ hm
  unfold CfgSet.image
  simp only [show (lit .run).cfg.active = [] from rfl, withCrc, layout, List.length_append, leBytes_length, sha384Bytes, List.length_replicate,
    List.length_nil]
  omega

/-! ## Witnesses: the pair -/

/-- Device A in RUN or another mode with its partner heard, in a pair state, at 1 ms or later. -/
def pairIn (st : Nat) (m : Mode := .run) (now : Nat := 1000000) : State :=
  (lit m now).setFlds [(LK.LKSTAT_STATE .peer, 7), (PEER.PSTAT_STATE, st)]

/-- A PAIRCTL of a CTYPE and CODE with request number 65,535 and an ARG. -/
def ctl (ctype code arg : Nat) (more : List Crumb) : List Crumb :=
  BitVec.ofNat 64 (ctype + code * 2 ^ 8 + 65535 * 2 ^ 16 + arg * 2 ^ 32) :: more

/-- The partner serves port 191, a paired camera, and this device is armed for it. -/
def stands : State :=
  let s := (pairIn prPaired).setFlds [(HP.PSTAT_DUAL 191, 1), (PEER.PRIMA_PRIMA 5, 0), (PEER.ARMED_ARMED 5, 2 ^ 31)]
  s.setPair { s.pair with info := [(191, ⟨true, true, s.serial 191⟩)] }

theorem witness_PairBeatsAndMirrors :
    (let s := { pairIn prPaired with keeper := { hbTime := 1000000 } }
     s.peerHears = true ∧ s.pair.sentAt + 249000 ≤ s.now ∧ s.hbAge ≤ 10000)
    ∧ (let s := fun m => (pairIn prPaired).setFld PEER.PSTAT_MISSED m
       (s 2).domainOn .peer = true ∧ (s 2).prState ≠ prSolo ∧ (s 2).prState ≠ prLeft ∧ (s 2).prState ≠ prLost
       ∧ (s 2).flag (LK.LKSTAT_HOLD .peer) = false ∧ (s 2).pair.beatAt + 250000 ≤ (s 2).now ∧ (s 2).fld PEER.PSTAT_MISSED < 3
       ∧ (s 3).fld PEER.PSTAT_MISSED = 3 ∧ (s 3).prState = prPaired)
    ∧ ((pairIn prLeft).prState = prLeft ∧ (pairIn prLost).prState = prLost)
    ∧ (bit (crumbAt [0, 0, 0] 0) 10 = false ∧ crumbAt [0, 0, 0] 2 = 0)
    ∧ (stands.peerHears = true ∧ stands.mirrors = true ∧ stands.standby 191 = true ∧ stands.pair.recs.get 191 [] = [])
    ∧ (bitsOf (crumbAt [191 + 5 * 2 ^ 32] 0) 10 8 ≠ 5 ∧ bitsOf (crumbAt [191 + 4 * 2 ^ 8] 0) 10 8 ≠ 6 ∧ stands.pair.dones.has (8 * 191 + 4) = false)
    ∧ (pcType (ctl 0x0B 0 191 []) = 0x0B ∧ pcType (ctl 0x0D 0 191 []) = 0x0D ∧ bitsOf (pcArg (ctl 0x0D 0 190 [])) 7 0 < 192
       ∧ stands.standby 190 = false ∧ pcType (ctl 0 0 0 []) = 0 ∧ 0x0E ≤ pcType (ctl 0xFE 0 0 []) ∧ pcType (ctl 0xFE 0 0 []) ≤ 0xFE) := by
  decide +kernel

/-- The CRC-32 register after zeros, each step taken before the next. -/
def zeroRun : Nat → Nat → Nat
  | 0, reg => reg
  | n + 1, reg => if reg < 2 ^ 33 then zeroRun n (crc32Shift 8 (reg ^^^ 0)) else 0

theorem zeroRun_eq (n reg : Nat) (h : zeroRun n reg ≠ 0) : crc32Run reg (List.replicate n 0) = zeroRun n reg := by
  induction n generalizing reg with
  | zero => rfl
  | succ n ih =>
    unfold zeroRun at h ⊢
    rw [List.replicate_succ]
    split at h
    · rw [if_pos (by assumption)]
      exact ih _ h
    · exact absurd rfl h

theorem crc32_of_zeroRun (n x : Nat) (h : zeroRun n 0xFFFFFFFF = x) (hx : x ≠ 0) : crc32 (List.replicate n 0) = x ^^^ 0xFFFFFFFF := by
  unfold crc32
  rw [zeroRun_eq _ _ (by rw [h]; exact hx), h]

theorem crumbsBytes_zeros (n : Nat) (l : List Crumb) : crumbsBytes (List.replicate n 0 ++ l) = List.replicate (8 * n) 0 ++ crumbsBytes l := by
  induction n with
  | zero => rfl
  | succ n ih =>
    rw [List.replicate_succ, Nat.mul_succ, Nat.add_comm, ← List.replicate_append_replicate, List.append_assoc, ← ih]
    rfl

/-- A whole record of zeros with its CRC, and one without. -/
theorem witness_PairBeatsAndMirrors_record :
    let good := mirrorRecord (BitVec.ofNat 64 (191 + 2 ^ 8) :: (List.replicate 511 0 ++ [BitVec.ofNat 64 (0x603B0489 * 2 ^ 32)])) []
    let bad := mirrorRecord (BitVec.ofNat 64 (191 + 2 ^ 8) :: (List.replicate 511 0 ++ [0])) []
    crc32 (good.take 4092) = fieldAt good 0xFFC 4 ∧ crc32 (bad.take 4092) ≠ fieldAt bad 0xFFC 4 := by
  have h : ∀ (c0 : Crumb) (n : Nat) (v : List Byte) (c : Crumb), bit (crumbAt [c0] 0) 8 = true → (List.replicate (8 * n + 4) 0 ++ v).length = 4096 →
      crumbBytes c = List.replicate 4 0 ++ v →
      mirrorRecord (c0 :: (List.replicate n 0 ++ [c])) [] = List.replicate (8 * n + 4) 0 ++ v := by
    intro c0 n v c h0 hv hc
    have h0' : bit (crumbAt (c0 :: (List.replicate n 0 ++ [c])) 0) 8 = true := h0
    unfold mirrorRecord
    rw [if_pos h0', List.drop_one, List.tail_cons, crumbsBytes_zeros]
    have : crumbsBytes [c] = List.replicate 4 0 ++ v := by simpa [crumbsBytes] using hc
    rw [this, ← List.append_assoc, List.replicate_append_replicate]
    have := bytesAt_left (List.replicate (8 * n + 4) 0 ++ v) [] 4096 hv
    rwa [List.append_nil] at this
  have hf : ∀ (n : Nat) (v : List Byte), v.length = 4 → fieldAt (List.replicate n 0 ++ v) n 4 = leNat v := by
    intro n v hv
    unfold fieldAt
    rw [bytesAt_right _ _ _ _ (by simp only [List.length_replicate]) hv]
  have ht : ∀ (n : Nat) (v : List Byte), (List.replicate n (0 : Byte) ++ v).take n = List.replicate n 0 :=
    fun n v => List.take_left' (by simp only [List.length_replicate])
  have hc : crc32 (List.replicate 4092 0) = 0x9FC4FB76 ^^^ 0xFFFFFFFF := crc32_of_zeroRun _ _ (by decide +kernel) (by decide)
  have g1 := h (BitVec.ofNat 64 (191 + 2 ^ 8)) 511 [0x89, 0x04, 0x3B, 0x60] (BitVec.ofNat 64 (0x603B0489 * 2 ^ 32)) (by decide +kernel)
    (by simp only [List.length_append, List.length_replicate, List.length_cons, List.length_nil]) (by decide +kernel)
  have g2 := h (BitVec.ofNat 64 (191 + 2 ^ 8)) 511 [0, 0, 0, 0] 0 (by decide +kernel)
    (by simp only [List.length_append, List.length_replicate, List.length_cons, List.length_nil]) (by decide +kernel)
  dsimp only
  rw [g1, g2]
  have e : 8 * 511 + 4 = 4092 := rfl
  rw [e, ht, ht, hf 4092 _ rfl, hf 4092 _ rfl, hc]
  decide +kernel

/-- The device while it answers a JOIN_REQ. -/
def joinGoes (s : State) (cs : List Crumb) : State :=
  ((s.setFlds [(PEER.PPEER_PMIN, bitsOf (pcArg cs) 15 0), (PEER.PPEER_PMAX, bitsOf (pcArg cs) 31 16)]).setPrState prLinking).setPrState prJoining

theorem witness_PairJoining :
    (let cs := ctl 1 0 (0x0100 + 0x0102 * 2 ^ 16) [0]
     pcType cs = 1 ∧ (pairIn prLinking).prState = prLinking ∧ (pairIn prLost).prState = prLost ∧ (pairIn prLinking).peerHears = true
     ∧ (joinGoes ((pairIn prLinking).setFld KPR.STRAPS_PAIRID_EFF 3) cs).joinNak cs = some 1)
    ∧ (let s : State := { pairIn prPaired with cfg := { active := [(setKey 7 0 0x8000, [1])] } }
       s.prState ≠ prLinking ∧ s.prState ≠ prLost ∧ s.mode = .run ∧ CfgSet.pairEn s.cfg.active = true
       ∧ s.pl.closed = [] ∧ CfgSet.pairEn (pairIn prPaired).cfg.active = false)
    ∧ (let s := (pairIn prJoining .prepare).setPair { join := some ⟨65535, 63, 1, 0⟩ }
       let s := { s with sys := { s.sys with trans := some ⟨.paired, 3, some 63, 1⟩ } }
       pcType (ctl 2 0 0x0102 []) = 2 ∧ s.joinIs (ctl 2 0 0x0102 []) = true
       ∧ ((s.setFld PEER.PPEER_PMAX (max (bitsOf (pcArg (ctl 2 0 0x0102 [])) 15 0) (s.fld PEER.PPEER_PMAX))).enterPair s.pair.mode
          (bitsOf (pcArg (ctl 2 0 0x0102 [])) 15 0)).sys.trans = some ⟨.paired, 3, some 63, 1⟩
       ∧ pcType (ctl 3 6 0 []) = 3 ∧ s.joinIs (ctl 3 6 0 []) = true ∧ pcCode (ctl 3 0 0 []) = 0 ∧ pcCode (ctl 3 6 0 []) ≠ 0)
    ∧ (let s := (pairIn prJoining .prepare 10000000).setPair { join := some ⟨65535, 63, 1, 0⟩ }
       s.pair.join = some ⟨65535, 63, 1, 0⟩ ∧ 0 + 10000000 ≤ s.now)
    ∧ (pcType (ctl 4 0 0 []) = 4 ∧ (pairIn prPaired).mirrors = true ∧ (∀ p < 192, (pairIn prPaired).pairedCam p = true → (pairIn prPaired).primaryHere p = true)
       ∧ stands.pairedCam 191 = true ∧ stands.primaryHere 191 = false)
    ∧ (let s := stands.setFld (SL.PRVSTAT_RSV 207) 1
       pcType (ctl 5 0 0 [191]) = 5 ∧ s.standby 191 = true ∧ s.armed 191 = true ∧ (s.claimTakeover 191).isSome = true ∧ s.standby 190 = false)
    ∧ (let h : Handover := { giver := true, h := 5, req := 65535 }
       let s := stands.setPair { handovers := [(191, h)] }
       pcType (ctl 6 0 0 [191]) = 6 ∧ s.peerHears = true ∧ s.pair.handovers.get 191 ⟨false, 0, 0, false, 0⟩ = h ∧ h.giver = true ∧ h.req = pcNum (ctl 6 1 0 [191])
       ∧ pcCode (ctl 6 1 0 [191]) ≠ 0 ∧ pcCode (ctl 6 0 0 [191]) = 0) := by decide +kernel

theorem witness_PairFlips :
    (pcType (ctl 7 0 0 [0, 0]) = 7 ∧ (pairIn prPaired).mirrors = true ∧ (pairIn prPaired).cfg.flip = none)
    ∧ (let s := (pairIn prPaired).setPair { proposed := some (65535, 0, 0, 0, 0, 0) }
       pcType (ctl 0x0C 0 0 []) = 0x0C ∧ s.peerHears = true
       ∧ s.pair.proposed = some (pcNum (ctl 0x0C 0 0 []), 0, 0, 0, 0, 0) ∧ s.cfg.flip = none
       ∧ ({ s with cfg := { s.cfg with shadow := [(setKey 1 191 0x100, leBytes 4 (8 + 2 * 2 ^ 16))] } } : State).pairView = some []
       ∧ (s.admission [(setKey 1 191 0x100, leBytes 4 (8 + 2 * 2 ^ 16))] (some [])).isSome = true)
    ∧ (let s := flips (pairIn prPaired) (flip 1 false false 65535)
       pcType (ctl 8 0 0 []) = 8 ∧ s.flipAsked = some (flip 1 false false 65535) ∧ (flip 1 false false 65535).num = pcNum (ctl 8 0 0 [])
       ∧ pcCode (ctl 8 1 0 []) ≠ 0 ∧ (flip 1 false false 65535).admitted + 1000000 ≤ s.now)
    ∧ (pcType (ctl 9 0 0 []) = 9 ∧ (flip 2 false true).remote = true ∧ (flip 2 false true).reached = false)
    ∧ (let f := flip 3 false false
       pcType (ctl 0x0A 0 0 []) = 0x0A ∧ f.remote = false ∧ f.wait = 3 ∧ f.tdone = 0 ∧ ({ f with tdone := 5 } : Flip).tdone ≠ 0) := by decide +kernel

theorem witness_PairFlips_admitted :
    let s : State := { pairIn prPaired with cfg := { shadow := [(setKey 7 0 0x8000, [1])] } }
    (s.admission s.cfg.shadow s.pairView).isNone = true
    ∧ (((s.admitFlip (flip 0 false true)).pairCtl 8 0 65535 0 []).cfg.flip).isSome = true := by decide +kernel

/-- The digest of any set where the hash is all zero (log entry 2). -/
theorem bytesAt_mid (a b c : List Byte) (m n : Nat) (ha : a.length = m) (hb : b.length = n) : bytesAt (a ++ (b ++ c)) m n = b := by
  subst ha hb
  unfold bytesAt
  apply List.ext_getElem
  · simp
  · intro i h1 h2
    simp [List.getElem?_append_right, List.getElem?_append_left h2, List.getElem?_eq_getElem h2]

theorem digest_zero (hs : Config.sha384 = fun _ => 0) (c : CfgSet) : CfgSet.digest c = List.replicate 48 0 := by
  have h : ∀ b, sha384Bytes b = List.replicate 48 0 := by intro b; unfold sha384Bytes; rw [hs]; dsimp only; decide +kernel
  unfold CfgSet.digest CfgSet.image withCrc
  dsimp only
  rw [h, List.append_assoc, List.append_assoc, List.append_assoc]
  exact bytesAt_mid _ _ _ _ _ (by simp only [layout, List.length_append, leBytes_length, List.length_nil]) (by simp only [List.length_replicate])

theorem witness_PairFlips_same (hs : Config.sha384 = fun _ => 0) (c : CfgSet) :
    crumbsBytes (((ctl 0x0C 0 0 [0, 0, 0, 0, 0, 0]).drop 1).take 6) = CfgSet.digest c
    ∧ crumbsBytes (((ctl 0x0C 0 0 [1, 0, 0, 0, 0, 0]).drop 1).take 6) ≠ CfgSet.digest c := by
  rw [digest_zero hs]
  decide +kernel

theorem witness_PairJoining_accepts (hs : Config.sha384 = fun _ => 0) :
    let s := (pairIn prLinking .prepare).setPair { dev := 2 }
    let s := { s with cfg := { s.cfg with active := [(setKey 7 0 0x8000, [1])] } }
    let cs := ctl 1 0 (0x0100 + 0x0102 * 2 ^ 16) [0, 0, 0, 0, 0, 0, 0]
    s.prState = prLinking ∧ (joinGoes s cs).joinNak cs = none := by
  dsimp only
  unfold State.joinNak
  rw [digest_zero hs]
  decide +kernel

/-! ## Witnesses: DMA, CAN, two-wire interfaces, memory -/

/-- The last two instructions that fit behind a descriptor at the end of SRAM. -/
def dmaMem (header : List Byte) (i0 : List Byte) (i1 : List Byte := []) (m : Mode := .prepare) : State :=
  (((lit m 1000).setFlds [(DMA.CHDESCL_ADDR 31, 0x15FFFF80)]).poke 0x15FFFF80 header |>.poke 0x15FFFFC0 i0).poke 0x15FFFFE0 i1

/-- A running channel at the descriptor, at an instruction. -/
def dmaAt (pc : Nat) : Dma := { desc := 0x15FFFF80, irq := true, nins := 2, next := 0, tag := 5, pc := pc }
def dmaRun (s : State) (d : Dma) : State := { s with dma := [(31, d)] }

theorem witness_DmaChannels :
    (let s := dmaMem ([3, 0, 0, 0] ++ leBytes 2 2) []
     let h := s.bytes 0x15FFFF80 64
     s.dmaOn = true ∧ s.fld (DMA.CHDESCL_ADDR 31) + 2 ^ 32 * s.fld (DMA.CHDESCH_ADDR 31) = 0x15FFFF80 ∧ s.dmaRuns 31 = false
     ∧ 0x15FFFF80 % 64 = 0 ∧ inSram 0x15FFFF80 = true ∧ s.poisoned 0x15FFFF80 64 = false ∧ fieldAt h 0 1 % 2 = 1 ∧ dmaHeaderGood 0x15FFFF80 h = true)
    ∧ (let w : DmaWait := { kind := 2, clr := false, arg := 0, ends := 1000, tmo := none }
       let s := dmaRun (lit .run 1000) { dmaAt 0 with wait := some w }
       s.dmaRuns 31 = true ∧ s.dmaOf 31 = some { dmaAt 0 with wait := some w } ∧ 2 ≤ w.kind ∧ w.ends ≤ s.clock)
    ∧ (let w : DmaWait := { kind := 0, clr := false, arg := 63, ends := 0, tmo := some 1000 }
       let s := dmaRun (lit .run 1000) { dmaAt 0 with wait := some w }
       s.dmaOf 31 = some { dmaAt 0 with wait := some w } ∧ w.tmo = some 1000 ∧ 1000 ≤ s.clock) := by
  decide +kernel

/-- MOVE of a length from an address to another, and the instructions that follow in R555's order. -/
def insMove (a b len : Nat) : List Byte := [1, 0, 0, 0] ++ leBytes 4 len ++ leBytes 6 a ++ [0, 0] ++ leBytes 6 b

theorem witness_DmaInstructions :
    (∀ ins ∈ [insMove 0x10000000 0x15FFFFFC 4, insMove 0xC0000 0x10000000 4, insMove 0x10000000 0x15FFFFFD 4, [2, 1, 0, 0, 5], [6, 1, 2, 0, 2, 0, 2, 0],
        [3, 0, 1, 0, 63], [3, 0, 0, 0, 63], [3, 2, 0, 0, 0, 0, 0, 0] ++ leBytes 8 1000, [3, 2, 0, 0, 0, 0, 0, 0] ++ leBytes 8 1001, [4, 3, 0, 0, 63], [5]],
      let s := dmaRun (dmaMem [] [] ins) (dmaAt 1)
      let b := s.bytes ((dmaAt 1).insAddr 1) 32
      s.dmaOn = true ∧ s.dmaOf 31 = some (dmaAt 1) ∧ (dmaAt 1).move = none ∧ (dmaAt 1).wait = none ∧ (dmaAt 1).loop = none ∧ (dmaAt 1).pc < (dmaAt 1).nins
      ∧ s.poisoned ((dmaAt 1).insAddr 1) 32 = false ∧ badIns (dmaAt 1) b = none ∧ fieldAt b 0 1 = (ins.getD 0 0).toNat)
    ∧ (badIns (dmaAt 1) ((dmaMem [] [] [7]).bytes 0x15FFFFE0 32) = some 0)
    ∧ (sideGood false 0x10000000 4 = true ∧ sideGood false 0x15FFFFFC 4 = true ∧ sideGood false 0xC0000 4 = false ∧ sideGood false 0x15FFFFFD 4 = false)
    ∧ ((dmaMem [] []).nestAllowed 31 = true ∧ (lit .run 1000).nestAllowed 31 = false)
    ∧ (bit ((dmaMem [] []).fld (DMA.EVFLAG_FLAG (63 / 32))) (63 % 32) = false
       ∧ bit (((lit .run).setFld (DMA.EVFLAG_FLAG 1) (2 ^ 31)).fld (DMA.EVFLAG_FLAG (63 / 32))) (63 % 32) = true)
    ∧ (let m : DmaMove := ⟨0x10000000, 0x10000100, 257, false, false⟩
       let x := (lit .run).burstRead m m.burst
       m.burst = 256 ∧ x.1.isSome = true ∧ x.2.partialPoison m.dst 256 = false ∧ 256 < m.left
       ∧ (⟨0x10000000, 0x10000100, 256, false, false⟩ : DmaMove).burst = 256) := by decide +kernel

/-- CAN1 enabled in a state with one frame queued. -/
def canIn (st : Nat) : State :=
  { (lit .run).setFlds [(CAN.CTL_EN 1, 1), (CAN.STAT_STATE 1, st), (CAN.CTL_AUTOREC 1, 1)] with
    cans := [(1, { queue := [(0xFFFF, canItem)], config := some (63, 0xFFFFFFFF, 0) })] }

theorem witness_CanResults :
    (let s := canIn 0
     s.domainOn .can = true ∧ s.flag (CAN.CTL_EN 1) = true ∧ s.fld (CAN.STAT_STATE 1) = 0 ∧ canFdf 0x7FF = false ∧ s.flag (CAN.CTL_LISTEN 1) = false
     ∧ (s.can 1).queue = (0xFFFF, canItem) :: [] ∧ s.flag (CAN.CTL_ONESHOT 1) = false ∧ (s.setFld (CAN.CTL_ONESHOT 1) 1).flag (CAN.CTL_ONESHOT 1) = true
     ∧ (s.setFld (CAN.TXLIFE_MS 1) 5).fld (CAN.TXLIFE_MS 1) ≠ 0 ∧ (s.can 1).headAt + 1000000 * 5 ≤ (lit .run 5000000).clock
     ∧ canFdf 0x80000000 = true ∧ (s.setFld (CAN.CTL_FDEN 1) 1).flag (CAN.CTL_FDEN 1) = true ∧ (s.can 1).config = some (63, 0xFFFFFFFF, 0))
    ∧ ((((canIn 0).vehicle 1 0 0x7FF 8 []).canAction 1 0x7FF ≠ 1)
       ∧ ((canIn 0).setFlds [(CAN.FACT_ACTION 1 31, 1), (CAN.FID_ID 1 31, 0x7FF), (CAN.FMASK_MASK 1 31, 0x7FF)]).canAction 1 0x7FF = 1)
    ∧ ((canIn 1).fld (CAN.STAT_STATE 1) = 1 ∧ (canIn 2).fld (CAN.STAT_STATE 1) = 2 ∧ (canIn 2).flag (CAN.CTL_AUTOREC 1) = true)
    ∧ (let s := (lit .standby).setFld (CAN.WCTL_WKIND 1) 1
       s.alive = true ∧ s.sys.trans = none ∧ s.mode = .standby ∧ s.canWakes 1 0 0 [] = true) := by decide +kernel

theorem witness_TwoWireResults :
    ((lit .run).mgmtAnswers 0x50 = true)
    ∧ (let u := (lit .run).setMgmtPtr 0x1000000
       u.mgmtTest 0x1000000 1 = some (2, 0) ∧ u.mgmtTest BRG.IMASK 4 = none ∧ BRG.IMASK < 0x1000000)
    ∧ (let u := (lit .run).openWindow0
       u.mgmtTest 0x15E80000 4 = none ∧ 0x1000000 ≤ 0x15E80000 ∧ u.partialPoison 0x15E80000 4 = false)
    ∧ (let s := lit .standby
       s.alive = true ∧ s.pinsTaken = false ∧ s.mgmtSlot 0x50 = true ∧ s.mode = .standby ∧ s.sys.trans = none)
    ∧ (let t : Trans := ⟨.standby, 3, some 63, 1⟩
       let s : State := { lit .run with sys := { (lit .run).sys with trans := some t } }
       s.sys.trans = some t ∧ t.target = .standby ∧ s.sys.wake = none ∧ s.mgmtSlot 0x50 = true)
    ∧ ((lit .run).mgmtReady = true ∧ (lit .run).mgmtSlot 0x50 = true ∧ (lit .run).domainOn .fabric = true ∧ (lit .run).domainOn .boardBus = true)
    ∧ (let s : State := { (lit .run).setFlds [(I2CB.CTL_EN, 1), (I2CB.TXN_WLEN, 64), (I2CB.TXN_RLEN, 64)] with i2c := { fresh := false } }
       s.fld I2CB.STAT_STATE = 0 ∧ s.flag I2CB.CTL_EN = true ∧ s.fld I2CB.TXN_WLEN ≤ 64 ∧ s.fld I2CB.TXN_RLEN ≤ 64 ∧ s.i2c.fresh = false
       ∧ 64 < (s.setFld I2CB.TXN_WLEN 65).fld I2CB.TXN_WLEN)
    ∧ (((lit .run).setFld I2CB.STAT_STATE 1).fld I2CB.STAT_STATE = 1 ∧ ((lit .run).setFld I2CB.STAT_STATE 3).fld I2CB.STAT_STATE = 3) := by decide +kernel

theorem witness_MemoryErrors :
    (let s := (lit .run).setFlds [(MEMC.SCRUB_SR_EN, 1), (MEMC.SCRUB_LP_EN, 1)]
     s.domainOn .lpddr = true ∧ (∀ a ∈ [0x10000000, 0x1477FFFF, 0x14780000, 0x15FFFFF8], inSram a = true ∧ s.sramPowered a = true ∧ s.unchecked a = false)
     ∧ s.flag MEMC.SCRUB_SR_EN = true ∧ s.flag MEMC.SCRUB_LP_EN = true)
    ∧ (let s : State := { lit .run with memx := { filled := [0x4FFFF] } }
       s.blockFilled 0x4FFFFFFF8 = true ∧ s.blockFilled 0x4FFFEFFF8 = false ∧ s.domainOn .lpddr = true)
    ∧ ((lit .run).setFld MEMC.INITSTAT_RUNNING 1).flag MEMC.INITSTAT_RUNNING = true := by decide +kernel

theorem witness_MemoryErrors_lpddr :
    inLpddr 0x4FFFFFFF8 = true ∧ inLpddr 0x100000000 = true
    ∧ ((lit .run).setFlds [(MEMC.INITWML_WM, 0x80000000), (MEMC.INITWMH_WM, 1)]).watermark + 0x10000 < lpddrTop := by
  unfold inLpddr lpddrTop
  cases Config.is32G <;> decide +kernel

/-! ## The operand rules: an ill-formed command for each check -/

theorem test_wellFormed_refuses :
    ∀ i ∈ [Instr.laneLos (.hp 191) 4, .laneLol .peer 8, .headStatus 0 [], .canFrameReceive 0 0 0x7FF 8 0 [], .canWakeDetect 0 0 15 (List.replicate 64 0),
        .canTxDone 0 true 0 257 0, .canBusError 0 511 0, .i2caPointerSet 0x50 (List.replicate 7 0), .i2caWrite 0x50 0 [], .i2caRead 0x50 0,
        .i2cbTransactionDone 0 0 (List.replicate 65 0) true, .sramScrub 0x16000000 false, .sramScrub 0xFFFFFFF false, .lpddrPatrolScrub 0xFFFFFFFF false,
        .lpddrPatrolScrub 0x900000000 true, .registerWrite none 2 0, .registerWrite none 0x1000000 0],
      i.wellFormed = false := by decide

theorem test_wellFormed_admits :
    ∀ i ∈ [Instr.laneLos (.hp 191) 3, .laneLol .peer 7, .headStatus 0 [0], .canFrameReceive 0 0 0x7FF 15 0 (List.replicate 8 0),
        .canWakeDetect 0 0x80000000 9 (List.replicate 12 0), .canTxDone 0 true 0 256 0, .i2caPointerSet 0x50 (List.replicate 6 0), .i2caWrite 0x50 0 [0],
        .sramScrub 0x15FFFFFF false, .lpddrPatrolScrub 0x8FFFFFFFF true, .registerWrite none 0xFFFFFC 0, .pwrgoodRising],
      i.wellFormed = true := by decide

/-- The table gives no row of this block any bits. -/
theorem test_decodeTableWord : ∀ n w, decodeTableWord n w = none := fun _ _ => rfl

/-! ## Results the manual works out -/

/-- What a part of the next state is. -/
def part {α : Type} (o : Out) (f : State → α) : Option α :=
  match o with
  | .next t => some (f t)
  | _ => none

/-- The Y gain of 1.125 of spec/12_slice_engines.md: 40,000 gives 45,000, and 60,000 saturates at 65,535. -/
theorem test_vmulq_gain :
    part (exec (.engVmulq 207 1 1 2 5 true false) (running { sreg := [(5, 12)], vreg := [(1, [40000, 60000, 1]), (2, List.replicate 16 4608)] }))
      (fun t => (((t.eng 207).vget 1).take 3)) = some [45000, 65535, 1] := by decide +kernel

/-- Arithmetic wraps and keeps signs: 0 - 1, the high word of the largest product, an arithmetic shift. -/
theorem test_scalar_wraps :
    part (exec (.engSub 207 3 0 1) (running { sreg := [(1, 1)] })) (fun t => (t.eng 207).sget 3) = some 0xFFFFFFFF
    ∧ part (exec (.engMulhu 207 1 1 1) (running { sreg := [(1, 0xFFFFFFFF)] })) (fun t => (t.eng 207).sget 1) = some 0xFFFFFFFE
    ∧ part (exec (.engSra 207 3 1 2) (running { sreg := [(1, 0x80000000), (2, 31)] })) (fun t => (t.eng 207).sget 3) = some 0xFFFFFFFF
    ∧ part (exec (.engSub 207 0 0 1) (running { sreg := [(1, 1)] })) (fun t => (t.eng 207).sget 0) = some 0 := by decide +kernel

/-- The identity tone table at 1,200 of 4,095 DN (spec/08_colour.md, example of R239). -/
theorem test_tone_identity : toneLookup toneDefault 4095 (16 * 1200) = 19205 := by decide +kernel

/-- Speed and yaw of the example of spec/21_can.md. -/
theorem test_can_speed_yaw :
    speedOf [5, 0x0D, 0, 0, 0, 0, 0, 0xFD] = some 218431 ∧ yawOf false [0, 0, 0, 0x0A, 0x7F, 0, 0, 0] = some 3275 := by decide +kernel

/-- The register address of spec/26_registers.md's example, and the check value of the CRC-32 of IEEE 802.3. -/
theorem test_addresses_and_crc :
    HP.INGFN 130 = 0x40841C ∧ crc32 [0x31, 0x32, 0x33, 0x34, 0x35, 0x36, 0x37, 0x38, 0x39] = 0xCBF43926 := by decide +kernel

end Sys2Proof.Tests
end

section
/-!
PROOF. Register accesses on the paths: what a read of a live register gives and sets off, and the two reads with an effect that
the spec names, of TSU.NOWL and of FCU.OVFC (spec/05_time.md R161, spec/19_faults.md R550, spec/23_memory.md R622, R624).
-/
namespace Sys2Proof.Machine

/-! ## What the parts of a read leave alone -/

@[simp] theorem State.latch_csr (s : State) (p : Path) (l : List Nat) : (s.latch p l).csr = s.csr := by
  induction l generalizing s with
  | nil => rfl
  | cons a r ih => simp only [State.latch, ih]

@[simp] theorem State.latch_mem (s : State) (p : Path) (l : List Nat) : (s.latch p l).mem = s.mem := by
  induction l generalizing s with
  | nil => rfl
  | cons a r ih => simp only [State.latch, ih]

/-- FAULT_N recomputed writes no register but PINSTAT (R543). -/
theorem State.driveFaultN_reg_other (s : State) (a : Nat) (h : a ≠ FCU.PINSTAT) : s.driveFaultN.reg a = s.reg a := by
  have hset : ∀ (u : State) (v w : Nat), ((u.setFld FCU.PINSTAT_OVFHOLD v).setFld FCU.PINSTAT_ASSERTED w).reg a = u.reg a := by
    intro u v w
    rw [State.reg_setFld_other _ _ _ _ h, State.reg_setFld_other _ _ _ _ h]
  simp only [State.driveFaultN]
  split
  · exact hset ..
  · rw [State.reg, State.intrEvent_csr]
    exact hset ..

theorem State.driveFaultN_fld_other (s : State) (f : Fld) (h : f.addr ≠ FCU.PINSTAT) : s.driveFaultN.fld f = s.fld f := by
  rw [State.fld, State.driveFaultN_reg_other s _ h, State.fld]

/-! ## Bytes of a number -/

/-- Bytes above the n-th leave n bytes as they are. -/
theorem leBytes_mod (n v : Nat) : leBytes n (v % 2 ^ (8 * n)) = leBytes n v := by
  induction n generalizing v with
  | zero => rfl
  | succ n ih =>
    have hpow : 2 ^ (8 * (n + 1)) = 256 * 2 ^ (8 * n) := (Nat.pow_add 2 (8 * n) 8).trans (Nat.mul_comm _ _)
    have hdiv : v % 2 ^ (8 * (n + 1)) / 256 = v / 256 % 2 ^ (8 * n) := by
      rw [hpow, Nat.mod_mul_right_div_self]
    have hlow : BitVec.ofNat 8 (v % 2 ^ (8 * (n + 1))) = BitVec.ofNat 8 v := by
      apply BitVec.eq_of_toNat_eq
      rw [BitVec.toNat_ofNat, BitVec.toNat_ofNat]
      exact Nat.mod_mod_of_dvd _ (Nat.pow_dvd_pow 2 (by omega))
    rw [leBytes, leBytes, hdiv, hlow, ih]

theorem leBytes_ofNat (v : Nat) : leBytes 4 (BitVec.ofNat 32 v).toNat = leBytes 4 v := by
  rw [BitVec.toNat_ofNat]
  exact leBytes_mod 4 v

/-! ## A read of a live register -/

/-- Outside the slices, a register of a domain that is on whose every bit is readable reads as the view of it, else as its word
(R10, R656). -/
theorem State.peek_of_live {s : State} {a : Nat} {b : Block} {i : Nat} {r : RegDesc} {k : Nat}
    (hr : regAt a = some (b, i, r, k)) (hon : s.domainOn b.domain = true) (hsl : b ≠ .sl)
    (hshown : maskWhere (fun f => f.access != .wo) r.fields = BitVec.allOnes 32) :
    s.peek a = (s.view b r k).getD (s.reg a) := by
  cases hl : locate a with
  | none => simp [regAt, hl] at hr
  | some x => simp only [State.peek, hl, hr, State.gate, hon, hsl, hshown, BitVec.and_allOnes, if_true, false_and, if_false]

/-- A register that no later chapter has a view of gives its value as it reads with no side effect. -/
theorem State.value_eq_peek {s : State} {a : Nat} {b : Block} {i : Nat} {r : RegDesc} {k : Nat}
    (hr : regAt a = some (b, i, r, k)) (hview : s.viewMore b i r k = none) : s.value a = s.peek a := by
  cases hl : locate a with
  | none => simp [regAt, hl] at hr
  | some x => simp only [State.value, hl, hr, hview]

/-! ## TSU.NOWL (R161, R622) -/

theorem regAt_nowl : regAt TSU.NOWL = some (.tsu, 0, ⟨"NOWL", 0, 4, 1, [⟨"NOWL", 31, 0, .ro, .f, 0⟩]⟩, 0) := by
  decide +kernel

theorem regAt_nowh : regAt TSU.NOWH = some (.tsu, 0, ⟨"NOWH", 4, 4, 1, [⟨"NOWH", 31, 0, .ro, .f, 0⟩]⟩, 0) := by
  decide +kernel

theorem State.peek_nowl {s : State} (hon : s.domainOn .fabric = true) : s.peek TSU.NOWL = wordOf s.now 0 := by
  rw [State.peek_of_live regAt_nowl hon (by decide) (by decide)]
  rfl

theorem State.peek_nowh {s : State} (hon : s.domainOn .fabric = true) : s.peek TSU.NOWH = wordOf s.now 1 := by
  rw [State.peek_of_live regAt_nowh hon (by decide) (by decide)]
  rfl

/-- A read of NOWL latches NOWH and NOWF on its path and clears nothing. -/
theorem State.readReg_nowl {s : State} {p : Path} (hon : s.domainOn .fabric = true) :
    s.readReg p TSU.NOWL = (wordOf s.now 0, s.latch p [TSU.NOWH, TSU.NOWF]) := by
  have hsnap : snapshotsOf TSU.NOWL = [TSU.NOWH, TSU.NOWF] := by decide +kernel
  have hlatched : latchedBy TSU.NOWL = false := by decide +kernel
  have hclear : ∀ u : State, u.clearOnRead TSU.NOWL = u := by
    intro u
    simp only [State.clearOnRead, regAt_nowl]
    rfl
  have hval : s.value TSU.NOWL = wordOf s.now 0 := by
    rw [State.value_eq_peek regAt_nowl rfl, State.peek_nowl hon]
  simp [State.readReg, regAt_nowl, Block.domain, hon, hlatched, hsnap, hclear, hval]

theorem State.latch_nowh {s : State} {p : Path} (hon : s.domainOn .fabric = true) :
    (s.latch p [TSU.NOWH, TSU.NOWF]).snaps.get (snapKey p TSU.NOWH) 0 = wordOf s.now 1 := by
  have hne : snapKey p TSU.NOWH ≠ snapKey p TSU.NOWF := by simp [snapKey, TSU.NOWH, TSU.NOWF]
  simp only [State.latch]
  rw [Tbl.get_set_other _ _ _ _ _ hne, Tbl.get_set_same, State.peek_nowh hon]

theorem execSnapshotRead_nowl {s : State} {p : Path} {reg : Word} (ha : reg.toNat = TSU.NOWL)
    (hp : pathReaches p reg.toNat = true) : execSnapshotRead p reg s = .next (s.giveReg p TSU.NOWL) := by
  have halign : TSU.NOWL % 4 = 0 := by decide
  have hsnap : isSnapshot TSU.NOWL = true := by decide +kernel
  rw [ha] at hp
  simp only [execSnapshotRead, ha, hp, halign, hsnap, and_self, if_true]

/-! ## FCU.OVFC (R550, R624) -/

theorem regAt_ovfc : regAt FCU.OVFC = some (.fcu, 0, ⟨"OVFC", 0x10, 4, 1, [⟨"LOST", 31, 0, .rclr, .k, 0⟩]⟩, 0) := by
  decide +kernel

theorem State.peek_ovfc {s : State} (hon : s.sys.vio = true) : s.peek FCU.OVFC = s.reg FCU.OVFC := by
  rw [State.peek_of_live regAt_ovfc hon (by decide) (by decide)]
  rfl

/-- The counter and its first lost code go to 0, and FAULT_N follows (R543, R550). -/
theorem State.clearOnRead_ovfc (s : State) :
    s.clearOnRead FCU.OVFC = ((s.setReg FCU.OVFC 0).setFld FCU.FIRSTLOST_CCODE 0).driveFaultN := by
  have hmask : maskWhere (fun f => decide (f.access = .rclr)) [⟨"LOST", 31, 0, .rclr, .k, 0⟩] = BitVec.allOnes 32 := by decide
  simp [State.clearOnRead, regAt_ovfc, hmask]

theorem State.readReg_ovfc {s : State} {p : Path} (hon : s.sys.vio = true) :
    s.readReg p FCU.OVFC = (s.reg FCU.OVFC, s.clearOnRead FCU.OVFC) := by
  have hsnap : snapshotsOf FCU.OVFC = [] := by decide +kernel
  have hlatched : latchedBy FCU.OVFC = false := by decide +kernel
  have hval : s.value FCU.OVFC = s.reg FCU.OVFC := by
    rw [State.value_eq_peek regAt_ovfc rfl, State.peek_ovfc hon]
  simp [State.readReg, regAt_ovfc, Block.domain, State.domainOn, hon, hlatched, hsnap, hval, State.latch]

/-- Every path reaches the FCU (R545). -/
theorem execRclrRead_ovfc {s : State} {p : Path} {reg : Word} (ha : reg.toNat = FCU.OVFC) :
    execRclrRead p reg s = .next (s.giveReg p FCU.OVFC) := by
  have halign : FCU.OVFC % 4 = 0 := by decide
  have hreach : pathReaches p FCU.OVFC = true := by cases p <;> decide
  have hrclr : isRclr FCU.OVFC = true := by decide +kernel
  simp only [execRclrRead, ha, hreach, halign, hrclr, and_self, if_true]

theorem State.fld_ovfc (s : State) : s.fld FCU.OVFC_LOST = (s.reg FCU.OVFC).toNat :=
  Nat.mod_eq_of_lt (s.reg FCU.OVFC).isLt

theorem State.clearOnRead_ovfc_lost (s : State) : (s.clearOnRead FCU.OVFC).fld FCU.OVFC_LOST = 0 := by
  rw [State.clearOnRead_ovfc, State.driveFaultN_fld_other _ _ (by decide), State.fld_setFld_other _ _ _ _ (by decide), State.fld_ovfc]
  simp

theorem State.clearOnRead_ovfc_ccode (s : State) : (s.clearOnRead FCU.OVFC).fld FCU.FIRSTLOST_CCODE = 0 := by
  rw [State.clearOnRead_ovfc, State.driveFaultN_fld_other _ _ (by decide), State.fld_setFld_same _ _ _ (by decide), Nat.zero_mod]

theorem State.clearOnRead_ovfc_ucode (s : State) :
    (s.clearOnRead FCU.OVFC).fld FCU.FIRSTLOST_UCODE = s.fld FCU.FIRSTLOST_UCODE := by
  rw [State.clearOnRead_ovfc, State.driveFaultN_fld_other _ _ (by decide), State.fld_setFld_other _ _ _ _ (by decide),
    State.fld, State.reg_setReg_other _ _ _ _ (by decide), State.fld]

/-! ## Writes (R10, R12, R656, R658) -/

/-- A hole discards a write (R658). -/
theorem State.writeReg_hole {s : State} {a : Nat} {v : Word} {i2c : Bool} (h : regAt a = none) : s.writeReg a v i2c = s := by
  simp only [State.writeReg, h]

theorem execRegisterWrite_own {s : State} {reg v : Word} (h : reg.toNat % 4 = 0) :
    execRegisterWrite none reg v s = .next (s.writeReg reg.toNat v false) := by
  simp only [execRegisterWrite, h, if_true]

theorem execRegisterWrite_refused {s : State} {tag : BitVec 12} {reg v : Word} {st d : Nat}
    (h : s.bridgeTest reg.toNat 4 true true = some (st, d)) :
    execRegisterWrite (some tag) reg v s = .next (s.pwFail tag.toNat reg.toNat st d 0xFFFF) := by
  simp only [execRegisterWrite, h]

theorem execRegisterWrite_passed {s : State} {tag : BitVec 12} {reg v : Word} (hcsr : reg.toNat < 0x1000000)
    (h : s.bridgeTest reg.toNat 4 true true = none) :
    execRegisterWrite (some tag) reg v s = .next (s.writeReg reg.toNat v false) := by
  simp only [execRegisterWrite, h, hcsr, if_true]

@[simp] theorem State.setFlds_clock (s : State) (l : List (Fld × Nat)) : (s.setFlds l).clock = s.clock := by
  simp [State.clock, State.now]

/-- A write of Sirfiqua's to KPR.HB takes the count and the time, and ends a loss of the heartbeat (R548). -/
theorem execHeartbeatWrite_runs {s : State} {v : Word} (h : s.cpxRuns = true) : execHeartbeatWrite v s =
    .next { s.setFlds [(KPR.HB_COUNT, v.toNat), (KPR.HBLAST_TIME, s.clock)] with
      keeper := { s.keeper with hbTime := s.clock, hbLost := false } } := by
  simp only [execHeartbeatWrite, h, if_true, State.heartbeat, State.setFlds_keeper, State.setFlds_clock]

/-! ## The statement -/

theorem snapshotRead_nowl (s : State) (p : Path) (reg : Word) (hon : s.domainOn .fabric = true) (ha : reg.toNat = TSU.NOWL)
    (hp : pathReaches p reg.toNat = true) :
    ∃ t, exec (.snapshotRead p reg) s = .next t
      ∧ t.readOut.get p.num [] = leBytes 4 s.now ∧ t.snaps.get (snapKey p TSU.NOWH) 0 = BitVec.ofNat 32 (s.now / 2 ^ 32)
      ∧ t.mem = s.mem ∧ ∀ x, t.reg x = s.reg x := by
  refine ⟨_, execSnapshotRead_nowl ha hp, ?_⟩
  simp only [State.giveReg, State.readReg_nowl hon]
  refine ⟨?_, ?_, State.latch_mem .., fun x => ?_⟩
  · rw [Tbl.get_set_same]
    exact leBytes_ofNat s.now
  · rw [State.latch_nowh hon, wordOf, Nat.shiftRight_eq_div_pow]
  · simp only [State.reg, State.latch_csr]

theorem rclrRead_ovfc (s : State) (p : Path) (reg : Word) (hon : s.sys.vio = true) (ha : reg.toNat = FCU.OVFC) :
    ∃ t, exec (.rclrRead p reg) s = .next t
      ∧ t.readOut.get p.num [] = leBytes 4 (s.fld FCU.OVFC_LOST) ∧ t.fld FCU.OVFC_LOST = 0 ∧ t.fld FCU.FIRSTLOST_CCODE = 0
      ∧ t.fld FCU.FIRSTLOST_UCODE = s.fld FCU.FIRSTLOST_UCODE ∧ t.mem = s.mem := by
  refine ⟨_, execRclrRead_ovfc ha, ?_⟩
  simp only [State.giveReg, State.readReg_ovfc hon]
  refine ⟨?_, s.clearOnRead_ovfc_lost, s.clearOnRead_ovfc_ccode, s.clearOnRead_ovfc_ucode, ?_⟩
  · rw [Tbl.get_set_same, State.fld_ovfc]
  · simp [State.clearOnRead_ovfc]

/-- Settles O35: the two reads by what their register gives, latches and clears, the writes by the case of the writer and the
bridge's tests. -/
theorem registerAccesses : Obligations.RegisterAccesses := by
  unfold Obligations.RegisterAccesses
  intro s p reg v tag a
  refine ⟨snapshotRead_nowl s p reg, rclrRead_ovfc s p reg, fun halign hhole => ?_, execRegisterWrite_own,
    fun _ _ => execRegisterWrite_refused, execRegisterWrite_passed, execHeartbeatWrite_runs⟩
  calc exec (.registerWrite none reg v) s
    _ = .next (s.writeReg a v false) := execRegisterWrite_own halign
    _ = .next s := by rw [State.writeReg_hole hhole]

end Sys2Proof.Machine
end

section
/-!
PROOF. Joining, leaving and handing over in a pair: what each message of the partner comes to where it is heard
(spec/02_modes.md R42, R43, spec/17_pairing.md R476 to R483, R501, R504).
-/
namespace Sys2Proof.Machine

theorem State.peerUp_of_peerHears {s : State} (h : s.peerHears = true) : s.peerUp = true := by
  rw [State.peerHears, Bool.and_eq_true] at h
  exact h.1

theorem State.onPairCtl_of_hears {s : State} {n : Nat} {cs : List Crumb} {k : State → State} (hears : s.peerHears = true)
    (ht : pcType cs = n) : s.onPairCtl n cs k = .next (k s) := by
  simp only [State.onPairCtl, hears, ht, beq_self_eq_true, Bool.and_self, if_true]

/-! ## JOIN_REQ (R481) -/

/-- The device while it judges a JOIN_REQ: the partner's levels shown, JOINING by way of LINKING. -/
def State.joinTries (s : State) (cs : List Crumb) : State :=
  ((s.setFlds [(PEER.PPEER_PMIN, bitsOf (pcArg cs) 15 0), (PEER.PPEER_PMAX, bitsOf (pcArg cs) 31 16)]).setPrState prLinking).setPrState
    prJoining

/-- The pair entered for a JOIN_REQ: JOIN_ACK with the highest level that both know, then PAIRED. -/
def State.joinGrants (s : State) (cs : List Crumb) : State :=
  let common := min (s.fld PEER.PLEVEL_PMAX) (bitsOf (pcArg cs) 31 16)
  ((s.pairCtl 2 0 (pcNum cs) common []).enterPair (bitsOf (crumbAt cs 1) 35 32) common).setMode .paired 3 true

/-- The states in which R481 lets a JOIN_REQ be judged. -/
def State.joinable (s : State) : Prop := s.prState = prLinking ∨ s.prState = prLost

theorem execPeerJoinReq_of_joinable {s : State} {cs : List Crumb} (hup : s.peerUp = true) (ht : pcType cs = 1) (hst : s.joinable) :
    execPeerJoinReq cs s = .next (((s.joinTries cs).joinNak cs).elim ((s.joinTries cs).joinGrants cs) fun c =>
      ((s.joinTries cs).pairCtl 3 c (pcNum cs) 0 []).setPrState prLinking) := by
  have htaken : ¬(!s.peerUp || pcType cs != 1) = true := by simp [hup, ht]
  have hhere : ¬(s.prState ≠ prLinking ∧ s.prState ≠ prLost) := fun h => hst.elim h.1 h.2
  unfold execPeerJoinReq
  rw [if_neg htaken, if_neg hhere, State.joinTries]
  dsimp only
  generalize State.setPrState _ prJoining = u
  cases u.joinNak cs with
  | none => rfl
  | some c => rfl

theorem execPeerJoinReq_refused {s : State} {cs : List Crumb} {c : Nat} (hup : s.peerUp = true) (ht : pcType cs = 1) (hst : s.joinable)
    (hnak : (s.joinTries cs).joinNak cs = some c) :
    execPeerJoinReq cs s = .next (((s.joinTries cs).pairCtl 3 c (pcNum cs) 0 []).setPrState prLinking) := by
  rw [execPeerJoinReq_of_joinable hup ht hst, hnak, Option.elim_some]

theorem execPeerJoinReq_granted {s : State} {cs : List Crumb} (hup : s.peerUp = true) (ht : pcType cs = 1) (hst : s.joinable)
    (hnak : (s.joinTries cs).joinNak cs = none) : execPeerJoinReq cs s = .next ((s.joinTries cs).joinGrants cs) := by
  rw [execPeerJoinReq_of_joinable hup ht hst, hnak, Option.elim_none]

theorem execPeerJoinReq_elsewhere {s : State} {cs : List Crumb} (hup : s.peerUp = true) (ht : pcType cs = 1) (hst : ¬s.joinable) :
    execPeerJoinReq cs s = .next (
      if (s.mode = .prepare ∨ s.mode = .run) ∧ CfgSet.pairEn s.cfg.active = true ∧ s.pl.closed = [] then s
      else s.pairCtl 3 6 (pcNum cs) 0 []) := by
  have htaken : ¬(!s.peerUp || pcType cs != 1) = true := by simp [hup, ht]
  have hnot : ((s.mode != .prepare && s.mode != .run) || !CfgSet.pairEn s.cfg.active || s.pl.closed != []) = true
      ↔ ¬((s.mode = .prepare ∨ s.mode = .run) ∧ CfgSet.pairEn s.cfg.active = true ∧ s.pl.closed = []) := by
    simp only [Bool.or_eq_true, Bool.and_eq_true, bne_iff_ne, Bool.not_eq_true']
    grind
  unfold execPeerJoinReq
  rw [if_neg htaken, if_pos (not_or.mp hst)]
  simp only [hnot, ite_not]

/-! ## The answers to a JOIN_REQ and its timeout (R42, R481) -/

/-- The pair is entered, and the transition that the JOIN_REQ began ends. -/
theorem execPeerJoinAck_trans {s : State} {cs : List Crumb} (hears : s.peerHears = true) (ht : pcType cs = 2)
    (hj : s.joinIs cs = true) :
    let u := (s.setFld PEER.PPEER_PMAX (max (bitsOf (pcArg cs) 15 0) (s.fld PEER.PPEER_PMAX))).enterPair s.pair.mode (bitsOf (pcArg cs) 15 0)
    ∀ t, u.sys.trans = some t → execPeerJoinAck cs s = .next (u.endTrans t) := by
  intro u t hu
  rw [execPeerJoinAck, State.onPairCtl_of_hears hears ht, hj]
  simp only [State.setFld_pair, Bool.not_true, Bool.false_eq_true, if_false, u] at hu ⊢
  rw [hu]

/-- A JOIN_NAK of code 0 is for a limit of R479, any other names its code. -/
theorem execPeerJoinNak_asked {s : State} {cs : List Crumb} (hears : s.peerHears = true) (ht : pcType cs = 3)
    (hj : s.joinIs cs = true) :
    execPeerJoinNak cs s = .next (if pcCode cs = 0 then s.joinFails 0x0103 0 else s.joinFails 0x0104 (pcCode cs)) := by
  rw [execPeerJoinNak, State.onPairCtl_of_hears hears ht, hj]
  rfl

theorem execPeerJoinTimeout_due {s : State} {j : JoinReq} (hj : s.pair.join = some j) (hlate : j.sent + 10000000 ≤ s.now) :
    execPeerJoinTimeout s = .next (s.joinFails 0x0104 2) := by
  simp only [execPeerJoinTimeout, hj, if_pos hlate]

/-! ## LEAVE (R482, R488) -/

/-- A camera of the pair that the partner still serves. -/
def State.partnerServes (s : State) (p : Nat) : Bool := s.pairedCam p && !s.primaryHere p

theorem execPeerLeave_served {s : State} {cs : List Crumb} {p : Nat} (hears : s.peerHears = true) (ht : pcType cs = 4)
    (hm : s.mirrors = true) (hp : p < 192) (hs : s.partnerServes p = true) : execPeerLeave cs s = .next s.declareTakeover := by
  have hany : (List.range 192).any s.partnerServes = true := List.any_eq_true.mpr ⟨p, List.mem_range.mpr hp, hs⟩
  rw [execPeerLeave, State.onPairCtl_of_hears hears ht, hm]
  exact congrArg Host.Outcome.next (if_pos hany)

theorem execPeerLeave_done {s : State} {cs : List Crumb} (hears : s.peerHears = true) (ht : pcType cs = 4)
    (hm : s.mirrors = true) (hs : ∀ p < 192, s.partnerServes p = false) :
    execPeerLeave cs s = .next (s.endHandovers.setPrState prLeft).flipAlone := by
  have hany : ¬(List.range 192).any s.partnerServes = true := by
    rw [List.any_eq_true]
    rintro ⟨p, hp, hserved⟩
    exact absurd hserved (by simp [hs p (List.mem_range.mp hp)])
  rw [execPeerLeave, State.onPairCtl_of_hears hears ht, hm]
  exact congrArg Host.Outcome.next (if_neg hany)

/-! ## Handovers (R501) -/

theorem execPeerHandover_accepted {s : State} {cs : List Crumb} (hears : s.peerHears = true) (ht : pcType cs = 5) :
    let p := bitsOf (crumbAt cs 1) 7 0
    let u := s.pairCtl 6 0 (pcNum cs) (pcArg cs) [p]
    s.standby p = true → s.armed p = true → (s.claimTakeover p).isSome = true → execPeerHandover cs s =
      .next (u.setPair { u.pair with handovers := u.pair.handovers.set p { giver := false, h := pcArg cs, accepted := true } }) := by
  intro p u hst harm hcl
  have hclaim : (s.claimTakeover p).isNone = false := by simpa using hcl
  rw [execPeerHandover, State.onPairCtl_of_hears hears ht]
  simp [hst, harm, hclaim, p, u]

theorem execPeerHandover_refused {s : State} {cs : List Crumb} (hears : s.peerHears = true) (ht : pcType cs = 5)
    (hst : s.standby (bitsOf (crumbAt cs 1) 7 0) = false) :
    execPeerHandover cs s = .next (s.pairCtl 6 1 (pcNum cs) (pcArg cs) [bitsOf (crumbAt cs 1) 7 0]) := by
  rw [execPeerHandover, State.onPairCtl_of_hears hears ht]
  simp [hst]

/-- The answer to a handover that this device gave under the request number. -/
theorem execPeerHandoverAck_given {s : State} {cs : List Crumb} {h : Handover} (hears : s.peerHears = true) (ht : pcType cs = 6) :
    let p := bitsOf (crumbAt cs 1) 7 0
    (∀ d, s.pair.handovers.get p d = h) → h.giver = true → h.req = pcNum cs → execPeerHandoverAck cs s = .next (
      if pcCode cs = 0 then s.setPair { s.pair with handovers := s.pair.handovers.set p { h with accepted := true } }
      else s.handoverFail p) := by
  intro p hget hgiver hreq
  rw [execPeerHandoverAck, State.onPairCtl_of_hears hears ht]
  simp [hget, hgiver, hreq, p]

/-! ## The statement -/

/-- Settles O54: each message by the lemma about its command, the conditions of R481 and R501 as the case they name. -/
theorem pairJoining : Obligations.PairJoining := by
  unfold Obligations.PairJoining
  intro s cs hears
  dsimp only
  have hup := State.peerUp_of_peerHears hears
  refine ⟨fun ht hst => ?_, fun ht hl hlost => ?_, fun ht hj => execPeerJoinAck_trans hears ht hj, fun ht hj => ?_,
    fun j hj hlate => execPeerJoinTimeout_due hj hlate, fun ht hm => ⟨fun hall => ?_, fun q hq hcam hprim => ?_⟩,
    fun ht => ⟨execPeerHandover_accepted hears ht, execPeerHandover_refused hears ht⟩, fun h ht hget hgiver hreq => ?_⟩
  · exact ⟨fun c => execPeerJoinReq_refused hup ht hst, execPeerJoinReq_granted hup ht hst⟩
  · have helse : exec (.peerJoinReq cs) s = _ := execPeerJoinReq_elsewhere hup ht (not_or.mpr ⟨hl, hlost⟩)
    exact ⟨fun hno => helse.trans (congrArg _ (if_neg hno)), fun hfits => helse.trans (congrArg _ (if_pos hfits))⟩
  · have hnak : exec (.peerJoinNak cs) s = _ := execPeerJoinNak_asked hears ht hj
    exact ⟨fun hc => hnak.trans (congrArg _ (if_pos hc)), fun hc => hnak.trans (congrArg _ (if_neg hc))⟩
  · refine execPeerLeave_done hears ht hm fun q hq => ?_
    cases hcam : s.pairedCam q with
    | false => simp [State.partnerServes, hcam]
    | true => simp [State.partnerServes, hall q hq hcam]
  · exact execPeerLeave_served hears ht hm hq (by simp [State.partnerServes, hcam, hprim])
  · have hack : exec (.peerHandoverAck cs) s = _ := execPeerHandoverAck_given hears ht hget hgiver hreq
    exact ⟨fun hc => hack.trans (congrArg _ (if_pos hc)), fun hc => hack.trans (congrArg _ (if_neg hc))⟩

end Sys2Proof.Machine
end

section
/-!
PROOF. BOOT: the clocks that start, the straps, and what becomes of an image that the ROM has loaded (spec/02_modes.md R51 to R63,
spec/05_time.md R145, spec/24_security.md R630, R633).
-/
namespace Sys2Proof.Machine

/-! ## The root PLL and the clocks (R62, R145, R640, R641) -/

theorem State.awaitsLock_iff (s : State) : s.awaitsLock = true ↔ s.alive = true ∧ s.mode = .boot ∧ s.sys.stage = .idle := by
  simp only [State.awaitsLock, Bool.and_eq_true, beq_iff_eq, and_assoc]

theorem execRootPllLock_awaited {s : State} (h : s.awaitsLock = true) : execRootPllLock s = .next s.clocksStart := by
  rw [execRootPllLock, if_pos h]

theorem execPllLockRetry_awaited {s : State} (h : s.awaitsLock = true) (hg : s.sys.gated = false) :
    execPllLockRetry true s = .next s.clocksStart := by
  simp only [execPllLockRetry, hg, h, Bool.false_and, Bool.false_eq_true, if_false, if_true]

@[simp] theorem State.tsuStart_sys (s : State) : s.tsuStart.sys = s.sys := by
  simp only [State.tsuStart, State.setFlds_sys]

@[simp] theorem State.tsuStart_running (s : State) : s.tsuStart.tsu.running = true := by
  simp only [State.tsuStart, State.setFlds_tsu]

theorem State.tsuStart_state (s : State) : s.tsuStart.fld TSU.DSTAT_STATE = tuUnset := by
  rw [State.tsuStart, State.setFlds, State.fld_setFlds_other _ _ _ (by decide), State.fld_setFld_same _ _ _ (by decide)]
  rfl

theorem State.tsuStart_timevalid (s : State) : s.tsuStart.fld TSU.DSTAT_TIMEVALID = 0 := by
  rw [State.tsuStart, State.setFlds, State.setFlds, State.setFlds, State.fld_setFld_same _ _ _ (by decide)]
  rfl

/-- The TSU that starts writes its own status alone. -/
theorem State.tsuStart_fld_other (s : State) (f : Fld) (h : f.addr ≠ TSU.DSTAT) : s.tsuStart.fld f = s.fld f := by
  rw [State.tsuStart, State.fld, State.reg_setFlds_other _ _ _ (by simpa [TSU.DSTAT_STATE, TSU.DSTAT_TIMEVALID] using h)]
  rfl

/-- The clocks of step 3: the root PLL in lock and the reference good, then the TSU. -/
def State.clocksRun (s : State) : State :=
  ({ s with sys := { s.sys with stage := .clocks } }.setFlds [(CLK.CLKSTAT_ROOTLOCK, 1), (CLK.CLKSTAT_REFOK, 1)]).tsuStart

theorem State.clocksStart_resample {s : State} (h : s.sys.resample = true) : s.clocksStart = s.clocksRun := by
  have hr : s.clocksRun.sys.resample = true := by simp only [State.clocksRun, State.tsuStart_sys, State.setFlds_sys, h]
  exact if_pos hr

theorem State.clocksRun_stage (s : State) : s.clocksRun.sys.stage = .clocks := by
  simp only [State.clocksRun, State.tsuStart_sys, State.setFlds_sys]

theorem State.clocksRun_rootlock (s : State) : s.clocksRun.fld CLK.CLKSTAT_ROOTLOCK = 1 := by
  rw [State.clocksRun, State.tsuStart_fld_other _ _ (by decide), State.setFlds, State.fld_setFlds_other _ _ _ (by decide),
    State.fld_setFld_same _ _ _ (by decide)]
  rfl

/-! ## The straps (R51, R52, R54) -/

theorem strapEff_eq (up dn dflt : Nat) : strapEff up dn dflt = (if up = dn then up else dflt, !decide (up = dn)) := by
  by_cases h : up = dn <;> simp [strapEff, h]

theorem b2n_inj {a b : Bool} : b2n a = b2n b ↔ a = b := by
  cases a <;> cases b <;> decide

theorem b2n_not_decide (p : Prop) [Decidable p] : b2n (!decide p) = if p then 0 else 1 := by
  by_cases h : p <;> simp [b2n, h]

/-- The word of the straps: of each its two samples, its effective value and whether it is indeterminate. -/
def strapWord (bu bd tu td : BitVec 2) (pu pd : Bool) : Nat :=
  packArg [(2, bu.toNat), (2, bd.toNat), (2, if bu = bd then bu.toNat else 0), (1, b2n pu), (1, b2n pd),
    (2, if pu = pd then b2n pu else 2), (2, tu.toNat), (2, td.toNat), (2, if tu = td then tu.toNat else 0),
    (1, if bu = bd then 0 else 1), (1, if pu = pd then 0 else 1), (1, if tu = td then 0 else 1)]

/-- The fault of a strap whose samples differ. -/
def State.strapFault (s : State) (w : Nat) (agree : Prop) [Decidable agree] : State := if agree then s else s.report 0x0101 0 w

theorem execStrapSampling_clocks {s : State} {bu bd tu td : BitVec 2} {pu pd : Bool} (h : s.sys.stage = .clocks) :
    let w := strapWord bu bd tu td pu pd
    execStrapSampling bu bd pu pd tu td s = .next (((((s.setReg KPR.STRAPS (BitVec.ofNat 32 w)).railsShown.strapFault w (bu = bd)).strapFault w
      (pu = pd)).strapFault w (tu = td)).romStart) := by
  have hstage : ¬(s.sys.stage != .clocks) = true := by simp [h]
  unfold execStrapSampling
  rw [if_neg hstage]
  simp only [strapEff_eq, strapWord, State.strapFault, BitVec.toNat_inj, b2n_inj, b2n_not_decide, Bool.not_eq_true',
    decide_eq_false_iff_not, ite_not]

/-! ## An image that the ROM has loaded (R56 to R63, R630, R633) -/

/-- The ROM waits for the image of this slot: the first one in the order of BOOTSEL that has not failed. -/
structure State.SlotDue (s : State) (slot : Nat) : Prop where
  mode : s.mode = .boot
  stage : s.sys.stage = .straps
  first : (s.slotOrder.filter fun x => !s.sys.failed.contains x).head? = some slot
  rom : s.sys.pairA = .rom ∨ s.sys.pairB = .rom

/-- The image staged, or of one whose header fails the header, with the longer watchdog of a slow read (R56 to R58, R60). -/
def State.imageStaged (s : State) (slot : Nat) (octal : Bool) (image : List Byte) : State :=
  let header := headerGood (bytesAt image 0 4096) 1 && !revokesOwn s.fuses.rootRev (bytesAt image 0 4096)
  let u := s.pokeLong 0x14780000 (if header then image else image.take 4096)
  if header && bit (fieldAt image 6 2) 0 && !octal then { u with sys := { u.sys with bootWdog := 8000 } }.report 0x0103 0 slot else u

theorem State.imageStaged_eq (s : State) (slot : Nat) (octal : Bool) (image : List Byte) :
    let good := headerGood (bytesAt image 0 4096) 1 = true ∧ revokesOwn s.fuses.rootRev (bytesAt image 0 4096) = false
    let u := s.pokeLong 0x14780000 (if good then image else image.take 4096)
    (if good ∧ bit (fieldAt image 6 2) 0 = true ∧ octal = false then
      { u with sys := { u.sys with bootWdog := 8000 } }.report 0x0103 0 slot else u) = s.imageStaged slot octal image := by
  simp only [State.imageStaged, Bool.and_eq_true, Bool.not_eq_true', and_assoc]

/-- The slot recorded as failed. -/
def State.slotFails (s : State) (slot : Nat) : State :=
  { s with sys := { s.sys with failed := slot :: s.sys.failed } }.report 0x0102 0 slot

/-- GLB.MODE of an image that runs: its slot, a fallback, a slow flash. -/
def State.imageShown (s : State) (slot : Nat) (octal : Bool) (image : List Byte) : State :=
  s.setFlds [(GLB.MODE_BOOTSLOT, slot + 1), (GLB.MODE_FALLBACK, b2n (s.sys.failed != [])),
    (GLB.MODE_SLOWFLASH, b2n !(bit (fieldAt image 6 2) 0 && octal))]

theorem State.imageShown_eq (s : State) (slot : Nat) (octal : Bool) (image : List Byte) :
    s.setFlds [(GLB.MODE_BOOTSLOT, slot + 1), (GLB.MODE_FALLBACK, b2n (s.sys.failed != [])),
      (GLB.MODE_SLOWFLASH, if bit (fieldAt image 6 2) 0 = true ∧ octal = true then 0 else 1)] = s.imageShown slot octal image := by
  have hslow : b2n (!(bit (fieldAt image 6 2) 0 && octal)) = if bit (fieldAt image 6 2) 0 = true ∧ octal = true then 0 else 1 := by
    rw [← b2n_not_decide, Bool.decide_and, Bool.decide_eq_true, Bool.decide_eq_true]
  rw [State.imageShown, hslow]

section
variable {s : State} {slotB octal ok freed : Bool} {image : List Byte} {test : Fin 4}

/-- The ROM takes the image of the slot that is due. -/
theorem State.SlotDue.gate {slot : Nat} (h : s.SlotDue slot) :
    ¬(s.mode != .boot || s.sys.stage != .straps || (s.slotOrder.filter fun x => !s.sys.failed.contains x).head? != some slot
      || !(s.sys.pairA == .rom || s.sys.pairB == .rom)) = true := by
  have hrom : (s.sys.pairA == .rom || s.sys.pairB == .rom) = true := by
    rw [Bool.or_eq_true, beq_iff_eq, beq_iff_eq]
    exact h.rom
  simp only [h.mode, h.stage, h.first, hrom, bne_self_eq_false, Bool.or_false, Bool.not_true, Bool.false_eq_true, not_false_eq_true]

/-- A failed self-test of SEC comes before everything about the image. -/
theorem execBootImageLoaded_selfTest (hdue : s.SlotDue (b2n slotB)) (htest : test ≠ 0) :
    execBootImageLoaded slotB octal image test ok s freed =
      .next ({ s with sys := { s.sys with secDead := true } }.raiseF 0x6001 0 test.val) := by
  have hval : test.val ≠ 0 := fun h => htest (Fin.ext h)
  rw [execBootImageLoaded, if_neg hdue.gate, if_pos hval]

/-- With SEC good the image is staged and judged: it goes to the lockstep check, or its slot fails. -/
theorem execBootImageLoaded_judged (hdue : s.SlotDue (b2n slotB)) :
    let v := s.imageStaged (b2n slotB) octal image
    execBootImageLoaded slotB octal image 0 ok s freed = .next (
      if verifyImage v.fuses.rootRev (some v.fuses.fwSvn) 1 image ≠ 0 then
        if (v.slotFails (b2n slotB)).slotOrder.all (v.slotFails (b2n slotB)).sys.failed.contains then
          (v.slotFails (b2n slotB)).enterSafe 4
        else v.slotFails (b2n slotB)
      else v.lockstepCheck ok fun u pair => (u.imageShown (b2n slotB) octal image).sirfiqua (b2n slotB) image pair freed) := by
  rw [execBootImageLoaded, if_neg hdue.gate, if_neg (by decide)]
  extract_lets v h header asks slow u uSys w wSys failed
  -- what follows speaks of the staged state as a whole
  have hv : v = w := rfl
  clear_value v w
  subst hv
  rfl

theorem execBootImageLoaded_verified (hdue : s.SlotDue (b2n slotB)) :
    let v := s.imageStaged (b2n slotB) octal image
    verifyImage v.fuses.rootRev (some v.fuses.fwSvn) 1 image = 0 → execBootImageLoaded slotB octal image 0 ok s freed =
      .next (v.lockstepCheck ok fun u pair => (u.imageShown (b2n slotB) octal image).sirfiqua (b2n slotB) image pair freed) := by
  intro v hgood
  rw [execBootImageLoaded_judged hdue, if_neg (Classical.not_not.mpr hgood)]

theorem execBootImageLoaded_rejected (hdue : s.SlotDue (b2n slotB)) :
    let v := s.imageStaged (b2n slotB) octal image
    let failed := v.slotFails (b2n slotB)
    verifyImage v.fuses.rootRev (some v.fuses.fwSvn) 1 image ≠ 0 → execBootImageLoaded slotB octal image 0 ok s freed =
      .next (if failed.slotOrder.all failed.sys.failed.contains then failed.enterSafe 4 else failed) := by
  intro v failed hbad
  rw [execBootImageLoaded_judged hdue, if_pos hbad]

end

/-! ## The lockstep check (R63) -/

theorem State.lockstepCheck_pairA {s : State} {go : State → Nat → State} (h : s.sys.pairA = .rom) :
    s.lockstepCheck true go = go s 0 := by
  simp only [State.lockstepCheck, h, beq_self_eq_true, if_true]

theorem State.lockstepCheck_pairB {s : State} {go : State → Nat → State} (h : s.sys.pairA ≠ .rom) :
    s.lockstepCheck true go = go s 1 := by
  simp only [State.lockstepCheck, beq_eq_false_iff_ne.mpr h, Bool.false_eq_true, if_false, if_true]

/-- Pair A is held, and pair B starts the ROM with every slot before it again. -/
theorem State.lockstepCheck_failsA {s : State} {go : State → Nat → State} (h : s.sys.pairA = .rom) :
    let y := (s.setFld KPR.DOMST_CPXHOLDA 1).report 0x0602 0 0
    s.lockstepCheck false go = { y with sys := { y.sys with pairA := .held, pairB := .rom, failed := [] } } := by
  simp only [State.lockstepCheck, h, beq_self_eq_true, Bool.false_eq_true, if_false, if_true]

theorem State.lockstepCheck_failsB {s : State} {go : State → Nat → State} (h : s.sys.pairA ≠ .rom) :
    let y := (s.setFld KPR.DOMST_CPXHOLDB 1).report 0x0601 1 0
    s.lockstepCheck false go = { y with sys := { y.sys with pairB := .held } } := by
  simp only [State.lockstepCheck, beq_eq_false_iff_ne.mpr h, Bool.false_eq_true, if_false]

/-! ## The statement -/

theorem rootPllLock_resamples {s : State} (hlock : s.awaitsLock = true) (hre : s.sys.resample = true) :
    ∃ t, exec .rootPllLock s = .next t
      ∧ t.sys.stage = .clocks ∧ t.tsu.running = true ∧ t.fld CLK.CLKSTAT_ROOTLOCK = 1 ∧ t.fld TSU.DSTAT_STATE = tuUnset
      ∧ t.fld TSU.DSTAT_TIMEVALID = 0 := by
  refine ⟨s.clocksRun, ?_, s.clocksRun_stage, State.tsuStart_running _, s.clocksRun_rootlock, State.tsuStart_state _,
    State.tsuStart_timevalid _⟩
  calc exec .rootPllLock s
    _ = .next s.clocksStart := execRootPllLock_awaited hlock
    _ = .next s.clocksRun := by rw [State.clocksStart_resample hre]

/-- Settles O7: the clocks and the straps by their lemmas; an image by the self-test of SEC, its verdict, and the lockstep check on
the pair that boots. -/
theorem bootResults : Obligations.BootResults := by
  unfold Obligations.BootResults
  refine ⟨fun s bu bd tu td pu pd => ⟨fun ha hm hst hre => ?_, fun ha hm hst _ => ?_, fun ha hm hst hg => ?_, execStrapSampling_clocks⟩,
    fun s slotB octal ok freed image test => ?_⟩
  · exact rootPllLock_resamples (s.awaitsLock_iff.mpr ⟨ha, hm, hst⟩) hre
  · exact execRootPllLock_awaited (s.awaitsLock_iff.mpr ⟨ha, hm, hst⟩)
  · exact execPllLockRetry_awaited (s.awaitsLock_iff.mpr ⟨ha, hm, hst⟩) hg
  · intro slot h good asks u v failed runs hmode hstage hfirst hrom
    have hdue : s.SlotDue slot := ⟨hmode, hstage, hfirst, hrom⟩
    have hruns : runs = v.imageShown slot octal image := State.imageShown_eq ..
    have hv : v = s.imageStaged slot octal image := State.imageStaged_eq ..
    have hfailed : failed = v.slotFails slot := rfl
    have hslot : slot = b2n slotB := rfl
    -- the states stay folded under their names: unfolded, they are too deep to compare
    clear_value failed runs v u asks good h slot
    rw [hruns, hfailed, hv]
    subst hslot
    refine ⟨execBootImageLoaded_selfTest hdue, fun hgood => ?_, fun hbad => ?_⟩
    · have hchecked : execBootImageLoaded slotB octal image 0 ok s freed = _ := execBootImageLoaded_verified hdue hgood
      refine ⟨fun hok ha => ?_, fun hok ha => ?_, fun hok ha => ?_, fun hok ha => ?_⟩ <;> subst hok
      · exact hchecked.trans (congrArg _ (State.lockstepCheck_pairA ha))
      · exact hchecked.trans (congrArg _ (State.lockstepCheck_pairB ha))
      · exact hchecked.trans (congrArg _ (State.lockstepCheck_failsA ha))
      · exact hchecked.trans (congrArg _ (State.lockstepCheck_failsB ha))
    · exact execBootImageLoaded_rejected hdue hbad

end Sys2Proof.Machine
end

section
/-!
PROOF. Lanes: what a command of a link comes to, what a lane that fails does to its link, and the events and markers that fail one
(spec/03_lanes.md R79 to R81, R90, R94, R95, R98, R103).
-/
namespace Sys2Proof.Machine

/-! ## Flags, and a command of a link whose lanes are on (R90, R103) -/

theorem State.flag_iff (s : State) (f : Fld) : s.flag f = true ↔ s.fld f ≠ 0 := bne_iff_ne

theorem State.flag_eq_false_iff (s : State) (f : Fld) : s.flag f = false ↔ s.fld f = 0 := bne_eq_false_iff_eq

@[simp] theorem State.setFld_link (s : State) (f : Fld) (v : Nat) (l : Link) : (s.setFld f v).link l = s.link l := rfl

theorem State.onLink_of_on {s : State} {l : Link} {f : State → State} (hon : s.domainOn (lkDomain l) = true) :
    s.onLink l f = .next (f (s.lkSettle l)) := by
  rw [State.onLink, if_pos hon]

theorem State.onLane_of_on {s : State} {l : Link} {k : Nat} {f : State → State} (hon : s.domainOn (lkDomain l) = true)
    (hk : bit (rxPins l) k = true) : s.onLane l k f = .next (f (s.lkSettle l)) := by
  rw [State.onLane, State.onLink_of_on hon, if_pos hk]

theorem execLaneLos_new {s : State} {l : Link} {k : Fin 16} (hon : s.domainOn (lkDomain l) = true) (hk : bit (rxPins l) k = true) :
    let u := s.lkSettle l
    u.fld (LK.LANEC3_LOSNOW l k) = 0 →
      execLaneLos l k s = .next (((u.bump (LK.LANEC0_LOS l k) 1).setFld (LK.LANEC3_LOSNOW l k) 1).laneFail l k) := by
  intro u hnow
  have hflag : ¬u.flag (LK.LANEC3_LOSNOW l k) = true := fun h => (u.flag_iff _).mp h hnow
  rw [execLaneLos, State.onLane_of_on hon hk, if_neg hflag]

theorem execLaneLos_shown {s : State} {l : Link} {k : Fin 16} (hon : s.domainOn (lkDomain l) = true) (hk : bit (rxPins l) k = true)
    (hnow : (s.lkSettle l).fld (LK.LANEC3_LOSNOW l k) = 1) : execLaneLos l k s = .next (s.lkSettle l) := by
  have hflag : (s.lkSettle l).flag (LK.LANEC3_LOSNOW l k) = true := (State.flag_iff _ _).mpr (by rw [hnow]; decide)
  rw [execLaneLos, State.onLane_of_on hon hk, if_pos hflag]

/-! ## Markers (R79 to R81) -/

theorem execAlignmentMarker_taken {s : State} {l : Link} {k : Fin 16} {c : Crumb} {skew stuffs : BitVec 16}
    (hon : s.domainOn (lkDomain l) = true) (hm : (s.lkSettle l).rxMarked l k = true) (hst : lsLock ≤ (s.lkSettle l).lkState l) :
    execAlignmentMarker l k c skew stuffs s = .next ((s.lkSettle l).marker l k c skew.toNat stuffs.toNat) := by
  rw [execAlignmentMarker, State.onLink_of_on hon, if_pos ⟨hm, hst⟩]

/-- A crumb that is a marker in neither polarity, on a lane that has had none, is of no account. -/
theorem State.marker_stray {s : State} {l : Link} {k : Nat} {c : Crumb} {skew : Nat} (hseq : ((s.link l).lanes.get k {}).seq = none)
    (hc : markerGood c = false) (hn : markerGood (~~~c) = false) : s.marker l k c skew 0 = s := by
  have hpol : ∀ inv : Bool, markerGood (if inv then ~~~c else c) = false := by
    intro inv
    cases inv with
    | true => exact hn
    | false => exact hc
  simp only [State.marker, hpol, hseq, Option.map_none, Option.isSome_none, Bool.false_and, Bool.not_false, Bool.and_false,
    Bool.false_eq_true, if_false, if_true]

/-- A marker of the SEQ that the group's markers carry now, on a lane that is not aligned: no boundary, and its polarity is plain. -/
theorem State.marker_first {s : State} {l : Link} {k : Nat} {c : Crumb} {skew : Nat} (hseq : ((s.link l).lanes.get k {}).seq = none)
    (hc : markerGood c = true) (hal : s.fld (LK.LANEC3_ALIGNED l k) = 0) (hg : (s.link l).gseq = some (bitsOf c.toNat 39 32)) :
    s.marker l k c skew 0 = s.markerTaken l k c.toNat false false skew := by
  have hflag : s.flag (LK.LANEC3_ALIGNED l k) = false := (s.flag_eq_false_iff _).mpr hal
  simp only [State.marker, hseq, hc, hflag, hg, Option.map_none, Option.isSome_none, Option.isSome_some, bne_self_eq_false,
    Bool.not_true, Bool.not_false, Bool.false_and, Bool.and_false, Bool.and_self, Bool.or_self, Bool.false_eq_true, if_false, if_true]

theorem State.markerTaken_skewed {s : State} {l : Link} {k w skew : Nat} {inv bad : Bool} (hal : s.fld (LK.LANEC3_ALIGNED l k) = 0)
    (hsk : 64 < skew) : s.markerTaken l k w inv bad skew =
      (((s.setFld (LK.LANEC3_INV l k) (b2n inv)).bump (LK.LANEC3_DSKW l k) 1).laneDwellError l k).laneFail l k := by
  have hflag : s.flag (LK.LANEC3_ALIGNED l k) = false := (s.flag_eq_false_iff _).mpr hal
  simp only [State.markerTaken, hflag, hsk, decide_true, Bool.or_true, Bool.false_eq_true, if_false, if_true]

/-! ## A lane that fails (R94, R95, R98) -/

/-- The lane has lost alignment: the first thing that its failure does. -/
def State.unaligned (s : State) (l : Link) (k : Nat) : State :=
  (s.setLink l { s.link l with lanes := (s.link l).lanes.set k { (s.link l).lanes.get k {} with seq := none, misses := 0 } }).setFld
    (LK.LANEC3_ALIGNED l k) 0

section
variable {s : State} {l : Link} {k : Nat}

theorem State.laneFail_carrying (hst : s.lkState l = lsOper ∨ s.lkState l = lsHold ∨ s.lkState l = lsGo) :
    s.laneFail l k = ((s.unaligned l k).dropQuad l).operLaneFail l k := by
  rw [State.laneFail]
  exact if_pos hst

theorem State.laneFail_training (hst : ¬(s.lkState l = lsOper ∨ s.lkState l = lsHold ∨ s.lkState l = lsGo)) :
    let u := s.unaligned l k
    s.laneFail l k =
      if bit (u.fld (LK.ACTRX_ACTRX l)) k = true then
        if s.lkState l = lsDwell then u.dwellError l
        else if (s.lkState l = lsLock ∨ s.lkState l = lsStep) ∧ u.rxLive l = 0 then u.lkDetect l else u
      else u := by
  intro u
  rw [State.laneFail]
  refine (if_neg hst).trans ?_
  simp only [Bool.not_eq_true', ← Bool.not_eq_true, ite_not]
  rfl

/-- Without degradation, or with no whole unit left, the link goes back to DETECT. -/
theorem State.operLaneFail_detects (hact : bit (s.fld (LK.ACTRX_ACTRX l)) k = true)
    (hno : s.mayDegrade l = false ∨ s.rxLeft l (s.laneNo l k :: (s.link l).rsreq) = 0) : s.operLaneFail l k = s.lkDetect l := by
  have hgate : ¬(s.mayDegrade l && s.rxLeft l (s.laneNo l k :: (s.link l).rsreq) != 0) = true := by
    rw [Bool.and_eq_true, bne_iff_ne]
    exact fun ⟨hmay, hleft⟩ => hno.elim (fun h => ne_true_of_eq_false h hmay) hleft
  simp only [State.operLaneFail, hact, Bool.not_true, Bool.false_eq_true, if_false, if_neg hgate]

/-- Where the link may run on fewer lanes, the lane is marked and joins those that RSREQ asks to drop. -/
theorem State.operLaneFail_asks (hact : bit (s.fld (LK.ACTRX_ACTRX l)) k = true) (hmay : s.mayDegrade l = true)
    (hleft : s.rxLeft l (s.laneNo l k :: (s.link l).rsreq) ≠ 0) (hnew : s.laneNo l k ∉ (s.link l).rsreq) :
    s.operLaneFail l k = s.setLink l { s.link l with
      lanes := (s.link l).lanes.set k { (s.link l).lanes.get k {} with failed := true }
      rsreq := (s.link l).rsreq ++ [s.laneNo l k] } := by
  simp only [State.operLaneFail, hact, hmay, hleft, hnew, Bool.not_true, Bool.true_and, Bool.false_eq_true, bne_iff_ne, ne_eq,
    not_false_eq_true, List.contains_eq_mem, decide_false, if_false, if_true]

end

/-! ## The statement -/

/-- Settles O10: the events by their commands, a marker by what the lane has had before it, the failure of a lane by the state of its
link. -/
theorem laneResults : Obligations.LaneResults := by
  unfold Obligations.LaneResults
  refine ⟨fun s l k hon hk => ?_, fun s l k => ?_⟩
  · intro u y
    have hrelease : execLaneLosRelease l k s = _ := State.onLane_of_on hon hk
    have hlol : execLaneLol l k s = _ := State.onLane_of_on hon hk
    have hloss : execLossOfAlignment l k s = _ := State.onLane_of_on hon hk
    refine ⟨execLaneLos_new hon hk, execLaneLos_shown hon hk, hrelease, hlol, hloss, fun hm hst => ?_⟩
    have htaken (c skew stuffs) : exec (.alignmentMarker l k c skew stuffs) s = _ := execAlignmentMarker_taken hon hm hst
    refine ⟨htaken, fun c skew hseq hc hn => ?_, fun c skew hseq hc hal hg hsk => ?_⟩
    · exact (htaken c skew 0).trans (congrArg _ (State.marker_stray hseq hc hn))
    · calc exec (.alignmentMarker l k c skew 0) s
        _ = .next (u.marker l k.val c skew.toNat 0) := htaken c skew 0
        _ = .next (u.markerTaken l k.val c.toNat false false skew.toNat) := by rw [State.marker_first hseq hc hal hg]
        _ = _ := congrArg _ (State.markerTaken_skewed hal hsk)
  · intro x y u v z n active
    refine ⟨fun hact hoper hhold hgo => ?_, fun hst hact => ⟨fun hno => ?_, fun hmay hleft hnew => ?_⟩, fun hst hact => ?_,
      fun hst hact => ?_⟩
    · exact (State.laneFail_training (by simp only [hoper, hhold, hgo, or_self, not_false_eq_true])).trans (if_neg hact)
    · exact (State.laneFail_carrying (.inl hst)).trans (State.operLaneFail_detects hact hno)
    · exact (State.laneFail_carrying (.inl hst)).trans (State.operLaneFail_asks hact hmay hleft hnew)
    · exact (State.laneFail_training (by rw [hst]; decide)).trans ((if_pos hact).trans (if_pos hst))
    · have hdwell : ¬s.lkState l = lsDwell := by rw [hst]; decide
      refine (State.laneFail_training (by rw [hst]; decide)).trans ((if_pos hact).trans ((if_neg hdwell).trans ?_))
      simp only [hst, true_or, true_and]
      rfl

end Sys2Proof.Machine
end

section
/-!
PROOF. The bring-up of a link: lock and dwell, the step commands and GO_OPER, training frames and the capability word
(spec/03_lanes.md R83 to R91).
-/
namespace Sys2Proof.Machine

section
variable {s : State} {l : Link}

/-! ## Lock and dwell (R86, R87, R90, R91) -/

theorem execLaneLock_dwells (hon : s.domainOn (lkDomain l) = true) :
    let u := s.lkSettle l
    (u.link l).wrong = false → u.lkState l = lsLock → u.allAligned l = true →
      execLaneLock l false s = .next ((u.setLink l { u.link l with dwelt := false }).setLk l lsDwell) := by
  intro u hw hst hal
  rw [execLaneLock, State.onLink_of_on hon]
  simp only [u, hw, hst, hal, and_self, Bool.false_eq_true, if_false, if_true]

theorem execLaneLock_back (hon : s.domainOn (lkDomain l) = true) :
    let u := s.lkSettle l
    (u.link l).wrong = false → (u.link l).bstate = lsLock → lsLock ≤ u.lkState l →
      execLaneLock l true s = .next (u.setLink l { u.link l with bstate := lsDwell, bdwelt := false }) := by
  intro u hw hb hst
  rw [execLaneLock, State.onLink_of_on hon]
  simp only [u, hw, hb, hst, and_self, Bool.false_eq_true, if_false, if_true]

/-- What the dwell of a group that dwells comes to: a group that fell back goes on at its rate, a hold ends, GO_OPER is offered at the
target. -/
theorem execDwellPass_dwelt (hon : s.domainOn (lkDomain l) = true) :
    let u := s.lkSettle l
    let y := u.setLink l { u.link l with dwelt := true }
    u.lkState l = lsDwell → (u.link l).cap ≠ none → (u.link l).dwelt = false → execDwellPass l false s = .next (
      if (u.link l).falling = true then y.fellBack l (y.fld (LK.LKSTAT_RATE l))
      else if y.flag (LK.LKSTAT_HOLD l) = true then y.setFlds [(LK.LKSTAT_STATE l, lsOper), (LK.LKSTAT_HOLD l, 0)]
      else if y.lkTarget l ≤ y.fld (LK.LKSTAT_RATE l) then y.tell l tkGoOper 0 else y) := by
  intro u y hst hcap hdw
  rw [execDwellPass, State.onLink_of_on hon, if_neg hcap]
  simp only [u, y, hst, hdw, ne_eq, not_true_eq_false, or_self, Bool.false_eq_true, if_false]

/-! ## Steps (R85, R88, R89) -/

theorem State.askStep_forward (hdue : s.stepDue l false = true) :
    s.askStep l false = (s.setLink l { s.link l with stepReq := true }).tell l tkStepReq (s.fld (LK.LKSTAT_RATE l) + 1) := by
  simp only [State.askStep, hdue, Bool.not_true, Bool.false_eq_true, if_false]

theorem State.askStep_back (hdue : s.stepDue l true = true) :
    s.askStep l true = (s.setLink l { s.link l with bstepReq := true }).tell l tkStepReq (s.fld (LK.LKSTAT_BRATE l) + 1) := by
  simp only [State.askStep, hdue, Bool.not_true, Bool.false_eq_true, if_false, if_true]

theorem State.stepAsked_granted (hst : s.lkState l = lsDwell) (hdw : (s.link l).dwelt = true)
    (hmax : s.fld (LK.LKSTAT_RATE l) < (s.link l).max) :
    let r := s.fld (LK.LKSTAT_RATE l) + 1
    s.stepAsked l r = ((s.setLink l { s.link l with dwelt := false }).tell l tkStepAck r).setLk l lsStep := by
  simp only [State.stepAsked, hst, hdw, hmax, ne_eq, not_true_eq_false, and_self, if_false, if_true]

theorem State.stepAsked_refused {req : Nat} (hst : s.lkState l = lsDwell)
    (hno : (s.link l).dwelt = false ∨ (s.link l).max ≤ s.fld (LK.LKSTAT_RATE l)) :
    s.stepAsked l req = s.tell l tkStepNak (s.fld (LK.LKSTAT_RATE l)) := by
  have hgate : ¬((s.link l).dwelt = true ∧ req = s.fld (LK.LKSTAT_RATE l) + 1 ∧ s.fld (LK.LKSTAT_RATE l) < (s.link l).max) := by
    rintro ⟨hdw, -, hmax⟩
    exact hno.elim (fun h => ne_true_of_eq_false h hdw) (fun h => Nat.not_lt.mpr h hmax)
  rw [State.stepAsked, if_neg (fun hne => hne hst)]
  exact if_neg hgate

theorem execStepReq_leader {back : Bool} (hon : s.domainOn (lkDomain l) = true) (hl : (s.lkSettle l).leads l = true) :
    execStepReq l back s = .next ((s.lkSettle l).askStep l back) := by
  rw [execStepReq, State.onLink_of_on hon, if_pos hl]

theorem execStepReq_follower {back : Bool} (hon : s.domainOn (lkDomain l) = true) (hl : (s.lkSettle l).leads l = false) :
    execStepReq l back s = .next ((s.lkSettle l).stepAsked l ((s.lkSettle l).fld (LK.LKSTAT_RATE l) + 1)) := by
  rw [execStepReq, State.onLink_of_on hon, if_neg (ne_true_of_eq_false hl)]

theorem State.stepAcked_forward (h : (s.link l).stepReq = true) :
    s.stepAcked l false = (s.setLink l { s.link l with stepReq := false, dwelt := false }).setLk l lsStep := by
  simp only [State.stepAcked, h, Bool.false_eq_true, if_false, if_true]

theorem State.stepAcked_back (h : (s.link l).bstepReq = true) :
    s.stepAcked l true =
      (s.setLink l { s.link l with bstepReq := false, bdwelt := false, bstate := lsLock }).setFld (LK.LKSTAT_BRATE l) 1 := by
  simp only [State.stepAcked, h, if_true]

theorem State.stepNaked_forward (h : (s.link l).stepReq = true) :
    s.stepNaked l false = (s.setLink l { s.link l with stepReq := false, stop := true }).tell l tkGoOper 0 := by
  simp only [State.stepNaked, h, Bool.false_eq_true, if_false, if_true]

theorem State.stepNaked_back (h : (s.link l).bstepReq = true) :
    s.stepNaked l true = (s.setLink l { s.link l with bstepReq := false, bstop := true }).tell l tkGoOper 0 := by
  simp only [State.stepNaked, h, if_true]

/-! ## GO_OPER (R85, R90, R91) -/

theorem State.goOper_forward (hst : s.lkState l = lsDwell) (hdw : (s.link l).dwelt = true)
    (hend : s.leads l = false ∨ s.lkTarget l ≤ s.fld (LK.LKSTAT_RATE l) ∨ (s.link l).falling = true ∨ (s.link l).stop = true) :
    s.goOper l false = (s.setLk l lsGo).lkGo l :=
  if_pos ⟨hst, hdw, hend⟩

theorem State.goOper_back (hst : (s.link l).bstate = lsDwell) (hdw : (s.link l).bdwelt = true)
    (hend : s.bTarget l ≤ s.fld (LK.LKSTAT_BRATE l) ∨ (s.link l).bfalling = true ∨ (s.link l).bstop = true) :
    s.goOper l true = (s.setLink l { s.link l with bstate := lsGo }).lkGo l :=
  if_pos ⟨hdw, hend, hst⟩

/-! ## Training frames (R74, R75, R80, R83, R87) -/

theorem State.rxMarked_of_active {k : Nat} (h : bit (s.fld (LK.ACTRX_ACTRX l)) k = true) : s.rxMarked l k = true := by
  rw [State.rxMarked, h, Bool.true_or]

theorem State.flag_inv_iff (k : Nat) : s.flag (LK.LANEC3_INV l k) = true ↔ s.fld (LK.LANEC3_INV l k) = 1 := by
  have hlt : s.fld (LK.LANEC3_INV l k) < 2 := s.fld_lt (LK.LANEC3_INV l k)
  rw [State.flag_iff]
  omega

/-- Crumbs of an active lane that trains: they pass its receive path, and a frame that comes out is judged by its CRC. -/
theorem execTrainingFrame_active {k : Fin 16} {cs : List Crumb} (hon : s.domainOn (lkDomain l) = true) :
    let u := s.lkSettle l
    let x := u.link l
    let a := (x.lanes.get k.val {}).take (if u.fld (LK.LANEC3_INV l k.val) = 1 then cs.map (~~~ ·) else cs)
    let v := u.setLink l { x with lanes := x.lanes.set k.val a.2 }
    bit (u.fld (LK.ACTRX_ACTRX l)) k.val = true → lsLock ≤ u.lkState l → u.lkState l ≤ lsStep →
      execTrainingFrame l cs s k = .next (
        if a.1 = [] then v else if trainGood a.1 = true then v.takeTrain l a.1 else v.laneDwellError l k) := by
  intro u x a v hact hlo hhi
  have hgate : ¬((!u.rxMarked l k.val) = true
      ∨ bit (u.fld (LK.ACTRX_ACTRX l)) k.val = true ∧ (u.lkState l < lsLock ∨ lsStep < u.lkState l)) := by
    rintro (hm | ⟨-, h | h⟩)
    · rw [State.rxMarked_of_active hact] at hm
      contradiction
    · exact Nat.not_lt.mpr hlo h
    · exact Nat.not_lt.mpr hhi h
  rw [execTrainingFrame, State.onLink_of_on hon]
  refine congrArg _ ((if_neg hgate).trans ?_)
  simp only [u] at hact
  simp only [State.flag_inv_iff, hact, if_true, Bool.not_eq_true', ← Bool.not_eq_true, ite_not]
  rfl

theorem trainGood_nil : trainGood [] = false := rfl

/-! ## The capability word (R84, R92) -/

@[simp] theorem State.setFlds_link (fs : List (Fld × Nat)) : (s.setFlds fs).link l = s.link l := by
  simp only [State.link, State.setFlds_links]

@[simp] theorem State.setLk_link (st : Nat) : (s.setLk l st).link l = s.link l := rfl

@[simp] theorem State.lkReport_link (n arg : Nat) : (s.lkReport l n arg).link l = s.link l := by
  simp only [State.link, State.lkReport, State.report_links]

@[simp] theorem State.setLanes_link (rx tx : Nat) : (s.setLanes l rx tx).link l = s.link l := by
  simp only [State.setLanes]
  split <;> simp only [State.setFlds_link]

theorem State.lkState_setLk {st : Nat} (h : st < 16) : (s.setLk l st).lkState l = st := by
  rw [State.lkState, State.setLk, State.fld_setFld_same _ _ _ (by decide : 3 < 32)]
  exact Nat.mod_eq_of_lt h

/-- A word of the KIND that pairs and of a level is the capability word of the link. -/
theorem State.takeCap_pairs {w : Nat} (hk : bitsOf w 3 0 = farKind l) (hlv : bitsOf w 7 4 ≠ 0) :
    (s.takeCap l w).link l = { s.link l with cap := some w, wrong := false } := by
  have hgate : ¬(bitsOf w 3 0 ≠ farKind l ∨ bitsOf w 7 4 = 0) := fun h => h.elim (fun hne => hne hk) hlv
  rw [State.takeCap, if_neg hgate, State.setLanes_link]
  cases l <;> simp only [State.setFld_link, State.setLink_link]

/-- Any other word, the first time, leaves the link in LOCK and counts one attempt. -/
theorem State.takeCap_wrong {w : Nat} (hbad : bitsOf w 3 0 ≠ farKind l ∨ bitsOf w 7 4 = 0) (hw : (s.link l).wrong = false) :
    (s.takeCap l w).lkState l = lsLock ∧ ((s.takeCap l w).link l).attempts = (s.link l).attempts + 1 := by
  rw [State.takeCap, if_pos hbad, if_neg (ne_true_of_eq_false hw)]
  refine ⟨State.lkState_setLk (by decide), ?_⟩
  dsimp only
  split <;> simp only [State.setLk_link, State.lkReport_link, State.setLink_link]

end

/-! ## The statement -/

/-- Settles O11: each command by the shared operation that it calls on the settled link, under the conditions the rule names. -/
theorem bringUpResults : Obligations.BringUpResults := by
  unfold Obligations.BringUpResults
  refine ⟨fun s l hon => ?_, fun s l k cs hon => ?_, fun s l w => ⟨fun hk hlv => ?_, State.takeCap_wrong⟩⟩
  · intro u x st rate
    have hack (back : Bool) : execStepAck l back s = .next (u.stepAcked l back) := State.onLink_of_on hon
    have hnak (back : Bool) : execStepNak l back s = .next (u.stepNaked l back) := State.onLink_of_on hon
    have hgo (back : Bool) : execGoOper l back s = .next (u.goOper l back) := State.onLink_of_on hon
    refine ⟨execLaneLock_dwells hon, execLaneLock_back hon, fun hl hdue => ?_, fun hl hdue => ?_, fun hl hst hdw hmax => ?_,
      fun hl hst hno => ?_, fun hreq => ⟨?_, ?_⟩, fun hreq => ⟨?_, ?_⟩, fun hst hdw hend => ?_, fun hst hdw hend => ?_⟩
    · exact (execStepReq_leader hon hl).trans (congrArg _ (State.askStep_forward hdue))
    · exact (execStepReq_leader hon hl).trans (congrArg _ (State.askStep_back hdue))
    · exact (execStepReq_follower hon hl).trans (congrArg _ (State.stepAsked_granted hst hdw hmax))
    · exact (execStepReq_follower hon hl).trans (congrArg _ (State.stepAsked_refused hst hno))
    · exact (hack false).trans (congrArg _ (State.stepAcked_forward hreq))
    · exact (hnak false).trans (congrArg _ (State.stepNaked_forward hreq))
    · exact (hack true).trans (congrArg _ (State.stepAcked_back hreq))
    · exact (hnak true).trans (congrArg _ (State.stepNaked_back hreq))
    · exact (hgo false).trans (congrArg _ (State.goOper_forward hst hdw hend))
    · exact (hgo true).trans (congrArg _ (State.goOper_back hst hdw hend))
  · intro u x st line a v y
    refine ⟨fun hact hlo hhi => ?_, fun hst hcap hdw => ?_⟩
    · have htrain : exec (.trainingFrame l cs k) s = _ := execTrainingFrame_active hon hact hlo hhi
      refine ⟨fun hnone => ?_, fun hgood => ?_, fun hsome hbad => ?_⟩
      · exact htrain.trans (congrArg _ (if_pos hnone))
      · have hsome : a.1 ≠ [] := fun h => by rw [h, trainGood_nil] at hgood; contradiction
        exact htrain.trans (congrArg _ ((if_neg hsome).trans (if_pos hgood)))
      · exact htrain.trans (congrArg _ ((if_neg hsome).trans (if_neg (ne_true_of_eq_false hbad))))
    · have hpass : exec (.dwellPass l false) s = _ := execDwellPass_dwelt hon hst hcap hdw
      refine ⟨fun hfall => ?_, fun hup hhold => ?_, fun hup hhold htarget => ?_⟩
      · exact hpass.trans (congrArg _ (if_pos hfall))
      · have hflag : y.flag (LK.LKSTAT_HOLD l) = true := (y.flag_iff _).mpr (by rw [hhold]; decide)
        exact hpass.trans (congrArg _ ((if_neg (ne_true_of_eq_false hup)).trans (if_pos hflag)))
      · have hflag : ¬y.flag (LK.LKSTAT_HOLD l) = true := fun h => (y.flag_iff _).mp h hhold
        exact hpass.trans (congrArg _ ((if_neg (ne_true_of_eq_false hup)).trans ((if_neg hflag).trans (if_pos htarget))))
  · rw [State.takeCap_pairs hk hlv]
    exact ⟨rfl, rfl⟩

end Sys2Proof.Machine
end

section
/-!
PROOF. Back-channel commands of a head, and its STATUS and RESPONSE packets (spec/04_heads.md R106, R109, R113, R115, R117, R118,
spec/05_time.md R153, R158).
-/
namespace Sys2Proof.Machine

section
variable {s : State} {p : Nat} {port : Port} {h : Crumb} {r : List Crumb}

/-! ## Forward packets (R106, R109, R113, R118) -/

/-- A packet that is heard, with a good header crumb of its type, reaches its meaning. -/
theorem State.onPacket_of_good {ptype : Nat} {k : State → Crumb → List Crumb → State} (hears : s.hears p = true)
    (hcrc : crc8Good h = true) (ht : bitsOf h.toNat 5 0 = ptype) : s.onPacket p ptype (h :: r) k = k s h r := by
  simp only [State.onPacket, hears, hcrc, ht, and_self, Bool.not_true, Bool.false_eq_true, if_false, if_true]

theorem State.headerLost_badCrc (hbad : crc8Good h = false) : s.headerLost p h =
    { s.bump (HP.PCNT0_HCRCERR p) 1 with ingests := s.ingests.set p { s.ingests.get p {} with orphans := true } } := by
  simp only [State.headerLost, hbad, Bool.false_eq_true, if_false, State.bump_ingests]

theorem execHeaderCrcFailure_badCrc (hears : s.hears port.val = true) (hne : h ≠ 0) (hbad : crc8Good h = false) :
    execHeaderCrcFailure port h s = .next (s.headerLost port.val h) := by
  have hgate : (h != 0) = true := bne_iff_ne.mpr hne
  simp only [execHeaderCrcFailure, hears, hgate, hbad, Bool.not_false, Bool.true_or, Bool.and_self, if_true]

/-- The command of an outstanding TAG ends with an answer, and its TAG is free again (R118). -/
def State.bcAnswered (s : State) (p : Nat) (o : BcOut) (a : Answer) : State :=
  let u := s.bcEnd p o.cmd a
  u.setPort p { u.port p with out := (u.port p).out.erase o }

/-- A RESPONSE with its payload whole and its trailer good answers the command of its TAG. -/
theorem State.headResponse_of_tag {o : BcOut} (hlen : ceilDiv (bitsOf h.toNat 45 32) 8 + 1 ≤ r.length) :
    let len := bitsOf h.toNat 45 32
    let body := r.take (ceilDiv len 8)
    bitsOf (r.getD (ceilDiv len 8) 0).toNat 31 0 = crc32Crumbs body →
      (s.port p).out.find? (fun o => o.tag == bitsOf h.toNat 15 8) = some o →
      s.headResponse p h r = s.bcAnswered p o (.rsp (bitsOf h.toNat 23 16) h body (bytesAt (crumbsBytes body) 0 len) s.now) := by
  intro len body hcrc hfind
  have hgood : ¬(r.length < ceilDiv len 8 + 1 ∨ bitsOf (r.getD (ceilDiv len 8) 0).toNat 31 0 ≠ crc32Crumbs body) := by
    rw [not_or, Nat.not_lt, Classical.not_not]
    exact ⟨hlen, hcrc⟩
  rw [State.headResponse, if_neg hgood]
  simp only [hfind, State.bcAnswered, len, body]

/-! ## Commands that leave (R115, R117, R153, R158) -/

@[simp] theorem State.toLanes_port (l : Link) (cs : List Crumb) : (s.toLanes l cs).port p = s.port p := by
  obtain ⟨_, _, h⟩ := s.toLanes_lanesOnly l cs
  rw [h, State.port, State.port]

/-- A command that leaves is outstanding under the next TAG. -/
theorem State.bcLeave_port (c : BcCmd) : (s.bcLeave p c).port p =
    { s.port p with out := (s.port p).out ++ [⟨(s.port p).nextTag, c, s.clock⟩], nextTag := ((s.port p).nextTag + 1) % 256 } := by
  calc (s.bcLeave p c).port p
    _ = (State.toLanes _ (headLink p) (c.crumbs (s.port p).nextTag)).port p := rfl
    _ = _ := by rw [State.toLanes_port, State.setPort_port]

theorem State.bcLeave_sent (c : BcCmd) : (s.bcLeave p c).sent.getLast? = some (.back p (c.crumbs (s.port p).nextTag)) :=
  List.getLast?_concat

/-- The port with the command taken off its queue. -/
def State.bcTaken (s : State) (p : Nat) (c : BcCmd) : State := s.setPort p { s.port p with queue := (s.port p).queue.erase c }

/-- What a command comes to that is off its queue, by where it comes from. -/
def State.bcGo (s : State) (p : Nat) (c : BcCmd) : State :=
  match c.origin with
  | .trigger g t _ => s.leaveTrigger p c g t
  | .queue seq => s.leaveSensor p c seq
  | .tsync _ => s.bcLeave p { c with origin := .tsync s.now }
  | _ => s.bcLeave p c

/-- With fewer than 16 outstanding the next command of the port is taken off its queue and goes. -/
theorem execBackchannelCommandSend_next {c : BcCmd} (hon : s.domainOn .pixel = true) (hroom : (s.port port.val).out.length < 16)
    (hnext : s.bcNext port.val = some c) : execBackchannelCommandSend port s = .next ((s.bcTaken port.val c).bcGo port.val c) := by
  simp only [execBackchannelCommandSend, hon, hnext, Nat.not_le.mpr hroom, Bool.not_true, Bool.false_or, decide_false, Bool.false_eq_true,
    if_false]
  rfl

/-- A command that is no TRIGGER, no sensor write of the queue and no TSYNC leaves as it is. -/
theorem State.bcGo_plain {c : BcCmd} (htrig : ∀ g t fn, c.origin ≠ .trigger g t fn) (hqueue : ∀ seq, c.origin ≠ .queue seq)
    (htsync : ∀ k, c.origin ≠ .tsync k) : s.bcGo p c = s.bcLeave p c := by
  unfold State.bcGo
  split
  · next ho => exact absurd ho (htrig _ _ _)
  · next ho => exact absurd ho (hqueue _)
  · next ho => exact absurd ho (htsync _)
  · rfl

/-- A TSYNC takes its T1 as it leaves (R153). -/
theorem State.bcGo_tsync {c : BcCmd} {k : Nat} (ho : c.origin = .tsync k) : s.bcGo p c = s.bcLeave p { c with origin := .tsync s.now } := by
  simp only [State.bcGo, ho]

/-- A TRIGGER whose target is too near is missed (R158). -/
theorem State.bcGo_trigger_late {c : BcCmd} {g t fn : Nat} (ho : c.origin = .trigger g t fn) (hlate : t < s.now + s.trigLat p) :
    s.bcGo p c = s.missTrigger p g := by
  simp only [State.bcGo, ho, State.leaveTrigger, if_pos hlate]

/-- Taking a command off the queue leaves the descriptor, and TRIGLAT with it. -/
theorem State.bcTaken_trigLat (c : BcCmd) : (s.bcTaken p c).trigLat p = s.trigLat p := by
  rw [State.trigLat, State.bcTaken, State.setPort_port, State.trigLat]

/-- A TAG not answered in time ends its command and is counted (R118). -/
theorem execBackchannelTimeout_of_tag {tag : Byte} {o : BcOut}
    (hfind : (s.port port.val).out.find? (fun o => o.tag == tag.toNat) = some o) :
    let u := (s.bcEnd port.val o.cmd .timeout).bump (HP.PCNT1_BCTIMEOUT port.val) 1
    execBackchannelTimeout port tag s = .next (u.setPort port.val { u.port port.val with out := (u.port port.val).out.erase o }) := by
  simp only [execBackchannelTimeout, hfind]

end

/-! ## The statement -/

/-- Settles O13: each packet by the meaning that its header gives it, each command that leaves by where it comes from. -/
theorem headResults : Obligations.HeadResults := by
  unfold Obligations.HeadResults
  refine ⟨fun s port h r => ?_, fun s port tag => ⟨fun c hon hroom hnext => ?_, fun o => execBackchannelTimeout_of_tag⟩⟩
  · intro p w g hears
    refine ⟨fun hne hbad => ?_, fun hcrc ht => ?_, fun o hcrc ht hlen htrailer hfind => ?_⟩
    · exact (execHeaderCrcFailure_badCrc hears hne hbad).trans (congrArg _ (State.headerLost_badCrc hbad))
    · exact congrArg _ (State.onPacket_of_good hears hcrc ht)
    · exact congrArg _ ((State.onPacket_of_good hears hcrc ht).trans (State.headResponse_of_tag hlen htrailer hfind))
  · intro u
    have hsend : exec (.backchannelCommandSend port) s = .next (u.bcGo port.val c) := execBackchannelCommandSend_next hon hroom hnext
    have hport : u.port port.val = { s.port port.val with queue := (s.port port.val).queue.erase c } := State.setPort_port ..
    refine ⟨fun htrig hqueue htsync => ?_, fun k ho => ?_, fun g t fn ho hlate => ?_⟩
    · refine ⟨u.bcLeave port.val c, hsend.trans (congrArg _ (State.bcGo_plain htrig hqueue htsync)), ?_, ?_⟩
      · rw [State.bcLeave_port, hport]
        rfl
      · rw [State.bcLeave_sent, hport]
    · exact hsend.trans (congrArg _ (State.bcGo_tsync ho))
    · refine hsend.trans (congrArg _ (State.bcGo_trigger_late ho (Nat.lt_of_lt_of_eq hlate ?_)))
      exact congrArg _ (State.bcTaken_trigLat c).symm

end Sys2Proof.Machine
end

section
/-!
PROOF. The timers of a streaming head, TSYNC exchanges and TRIGGERs (spec/04_heads.md R128, R130, R134, spec/05_time.md R154, R156, R157).
-/
namespace Sys2Proof.Machine

section
variable {s : State} {port : Port}

/-! ## Timers of a streaming head (R128, R130, R134) -/

theorem execReauthTimer_streaming (hst : s.pstate port = psStreaming) (hon : s.fld (HP.PCTL_REAUTH port) ≠ 0) :
    execReauthTimer port s = .next (s.challenge port true) := by
  rw [execReauthTimer, if_pos ⟨hst, hon⟩]

/-- Ten more minutes of streaming. -/
def State.streamedOn (s : State) (p : Nat) : State := s.setPort p { s.port p with minutes := (s.port p).minutes + 10 }

theorem execWearWriteTimer_streaming (hst : s.pstate port.val = psStreaming) : execWearWriteTimer port s =
    .next (if s.fld (HP.PSTAT_MASTER port.val) = 0 then s.streamedOn port.val else (s.streamedOn port.val).writeWear port.val) := by
  rw [execWearWriteTimer]
  dsimp only
  rw [if_pos hst]
  by_cases hm : s.fld (HP.PSTAT_MASTER port.val) = 0
  · have hflag : ¬s.flag (HP.PSTAT_MASTER port.val) = true := fun h => (s.flag_iff _).mp h hm
    exact congrArg _ ((if_neg hflag).trans (if_pos hm).symm)
  · exact congrArg _ ((if_pos ((s.flag_iff _).mpr hm)).trans (if_neg hm).symm)

theorem execLensContrastHourly_new (hst : s.pstate port.val = psStreaming) (hsharp : (s.port port.val).sharp ≠ [])
    (hnew : s.fld (HP.PSTAT_WEAR port.val) = 0) :
    execLensContrastHourly port s = .next (s.setPort port.val { s.port port.val with sharp := [], hours := [] }) := by
  simp only [execLensContrastHourly, hst, hsharp, hnew, ne_eq, not_true_eq_false, or_self, if_false, if_true]

/-- A median joins those of the hours before it while they are fewer than 24. -/
theorem execLensContrastHourly_fewer (hst : s.pstate port.val = psStreaming) (hsharp : (s.port port.val).sharp ≠ [])
    (hused : s.fld (HP.PSTAT_WEAR port.val) ≠ 0) (hfew : (s.port port.val).hours.length + 1 < 24) :
    let x := s.port port.val
    execLensContrastHourly port s = .next (s.setPort port.val { x with sharp := [], hours := median x.sharp :: x.hours }) := by
  intro x
  have htake : (median x.sharp :: x.hours).take 24 = median x.sharp :: x.hours := List.take_of_length_le (Nat.le_of_lt hfew)
  have hlt : (median x.sharp :: x.hours).length < 24 := hfew
  simp only [execLensContrastHourly, hst, hsharp, hused, ne_eq, not_true_eq_false, or_self, if_false]
  exact congrArg _ ((if_pos (by rw [htake]; exact hlt)).trans (by rw [htake]))

/-! ## Head time (R154) -/

theorem execTsyncSchedule_enum (hon : s.domainOn .pixel = true) (hst : s.pstate port.val = psEnum)
    (hleft : 0 < (s.port port.val).enumTsync) :
    execTsyncSchedule port s = .next ((s.setPort port.val { s.port port.val with enumTsync := (s.port port.val).enumTsync - 1 }).bcQueue
      port.val ⟨bcTsync, 0, [], 4, .tsync 0⟩) := by
  simp only [execTsyncSchedule, hon, hst, hleft, and_self, Bool.not_true, Bool.false_eq_true, if_false, if_true]

theorem execTsyncSchedule_ready (hon : s.domainOn .pixel = true) (hst : s.pstate port.val = psReady ∨ s.pstate port.val = psStreaming) :
    execTsyncSchedule port s = .next (s.bcQueue port.val ⟨bcTsync, 0, [], 4, .tsync 0⟩) := by
  have henum : ¬s.pstate port.val = psEnum := by
    rintro he
    rw [he] at hst
    revert hst
    decide
  simp only [execTsyncSchedule, hon, henum, hst, false_and, Bool.not_true, Bool.false_eq_true, if_false, if_true]

theorem execHeadTimeStale_first (hst : s.pstate port.val = psStreaming) (hfresh : (s.port port.val).stale = false) :
    execHeadTimeStale port s = .next ((s.setPort port.val { s.port port.val with stale := true }).report 0x2019 port.val 0) := by
  simp only [execHeadTimeStale, hst, hfresh, Bool.not_false, and_self, if_true]

/-! ## TRIGGERs (R156, R157, R268) -/

/-- Numbering a target in the lattices changes nothing but the lattices. -/
theorem State.latNumber_latsOnly (c : CfgSet) (g t n : Nat) : ∃ l, s.latNumber c g t n = { s with lats := l } := by
  unfold State.latNumber
  extract_lets x per rdiv k
  split
  · exact ⟨s.lats, rfl⟩
  · exact ⟨_, rfl⟩

theorem State.latNumbers_latsOnly (c : CfgSet) (g t : Nat) (ns : List Nat) :
    ∃ l, ns.foldl (fun s n => s.latNumber c g t n) s = { s with lats := l } := by
  induction ns generalizing s with
  | nil => exact ⟨s.lats, rfl⟩
  | cons n ns ih =>
    obtain ⟨l, hl⟩ := s.latNumber_latsOnly c g t n
    obtain ⟨m, hm⟩ := ih (s := s.latNumber c g t n)
    exact ⟨m, by rw [List.foldl_cons, hm, hl]⟩

/-- A TRIGGER may leave a port for a target of its group: its triggering has begun, and no rule keeps it from its camera. -/
structure State.TrigDue (s : State) (p g t : Nat) : Prop where
  on : s.domainOn .pixel = true
  target : s.isTarget (s.setAt t) g t = true
  state : s.pstate p = psReady ∨ s.pstate p = psStreaming
  begun : (s.trigBegin p : Int) ≤ (t : Int) - (s.trigLat p : Int) - (CfgSet.grpLead (s.setAt t) g : Int)
  kept : (s.camOf p).dropped = false
  served : s.standby p = false
  master : (s.port p).deposed = false

theorem execTriggerDispatch_due {target : BitVec 64} {g : Nat} (hg : CfgSet.groupOf (s.setAt target.toNat) port.val = some g)
    (hdue : s.TrigDue port.val g target.toNat) : execTriggerDispatch port target s =
      .next (((List.range 8).foldl (fun u n => u.latNumber (s.setAt target.toNat) g target.toNat n) s).bcQueue port.val
        ⟨bcTrigger, g, [], 1, .trigger g target.toNat 0⟩) := by
  obtain ⟨l, hl⟩ := s.latNumbers_latsOnly (s.setAt target.toNat) g target.toNat (List.range 8)
  -- the lattices are not among what the conditions speak of
  have hgate : (State.domainOn { s with lats := l } .pixel && (s.pstate port.val == psReady || s.pstate port.val == psStreaming)
      && State.isTarget { s with lats := l } (s.setAt target.toNat) g target.toNat
      && decide ((State.trigBegin { s with lats := l } port.val : Int) ≤
        (target.toNat : Int) - (s.trigLat port.val : Int) - (CfgSet.grpLead (s.setAt target.toNat) g : Int))
      && !(State.camOf { s with lats := l } port.val).dropped && !State.standby { s with lats := l } port.val
      && !(s.port port.val).deposed) = true := by
    simp only [Bool.and_eq_true, Bool.or_eq_true, beq_iff_eq, decide_eq_true_eq, Bool.not_eq_true']
    exact ⟨⟨⟨⟨⟨⟨hdue.on, hdue.state⟩, hdue.target⟩, hdue.begun⟩, hdue.kept⟩, hdue.served⟩, hdue.master⟩
  simp only [execTriggerDispatch, hg, hdue.on, hdue.target, Bool.and_self, if_true, hl]
  exact congrArg _ (if_pos hgate)

end

/-! ## The statement -/

/-- Settles O14: each timer by its command, a TRIGGER by what it needs to leave. -/
theorem headTimerResults : Obligations.HeadTimerResults := by
  unfold Obligations.HeadTimerResults
  refine ⟨fun s port hst => ?_, fun s port target => ?_⟩
  · intro p x
    refine ⟨execReauthTimer_streaming hst, fun hm => ?_, fun hm => ?_, fun hsharp => execLensContrastHourly_new hst hsharp,
      fun hsharp => execLensContrastHourly_fewer hst hsharp⟩
    · exact (execWearWriteTimer_streaming hst).trans (congrArg _ (if_pos hm))
    · exact (execWearWriteTimer_streaming hst).trans (congrArg _ (if_neg (by rw [hm]; decide)))
  · intro p x set hon
    refine ⟨execTsyncSchedule_enum hon, execTsyncSchedule_ready hon, execHeadTimeStale_first, ?_⟩
    intro g hg ht hst hbegin hdrop hserved hdep
    exact execTriggerDispatch_due hg ⟨hon, ht, hst, hbegin, hdrop, hserved, hdep⟩

end Sys2Proof.Machine
end

section
/-!
PROOF. LINE packets at an ingest: one of the open frame, and one that is an orphan (spec/04_heads.md R110, spec/06_ingest.md R165, R169,
R175, R179).
-/
namespace Sys2Proof.Machine

section
variable {s : State} {p : Nat} {h : Crumb} {r : List Crumb} {f : Frame} {full parity : Bool}

/-! ## A packet of the open frame (R165) -/

@[simp] theorem Frame.countPacket_ovf (f : Frame) (w : Nat) (c : Option Nat) : (f.countPacket w c).ovf = f.ovf := rfl

/-- A packet of known length whose trailer has come, of the open frame, with room in the FIFO: it is counted, then checked. -/
theorem State.linePacket_whole (hin : s.ingestOn p = true) (hframe : (s.ingest p).frame = some f) (hfclo : f.hf % 1024 = lnFclo h.toNat)
    (hovf : f.ovf = false) (hknown : lnKnown h.toNat = true) (hwhole : lnCrumbs h.toNat + 1 ≤ r.length) :
    let w := h.toNat
    let body := r.take (lnCrumbs w)
    let crc := (r.getD (lnCrumbs w) 0).toNat % 2 ^ 32
    let g := f.countPacket w (some crc)
    s.linePacket p h r false parity = (s.setFrame p g).checkLine p g w body (crc == crc32Crumbs body) true parity := by
  simp only [State.linePacket, hin, hframe, hfclo, hknown, hwhole, hovf, Frame.countPacket_ovf, ne_eq, not_true_eq_false, decide_true,
    Bool.not_true, Bool.and_self, Bool.or_self, Bool.or_false, Bool.false_eq_true, if_false, if_true]

/-- The header of an L line of a frame without HDR, in its place: rows 3 to 5 of R165 let it pass. -/
structure Frame.TakesLine (f : Frame) (w : Nat) : Prop where
  known : lnKnown w = true
  dt : lnDt w = f.dt
  width : lnWidth w = f.width
  exposure : lnExp w = 0
  noHdr : f.hdr = false
  inside : lnLine w < f.height
  first : f.lastL = none

theorem Frame.TakesLine.countPacket {w : Nat} (hf : f.TakesLine w) (c : Option Nat) : (f.countPacket w c).TakesLine w :=
  ⟨hf.known, hf.dt, hf.width, hf.exposure, hf.noHdr, hf.inside, hf.first⟩

/-- Row 6 of R165 and R179 for such a line: a bad trailer, then bad parity, fill it; else its pixels are its burst. -/
theorem State.checkLine_taken {w : Nat} {body : List Crumb} {crcGood : Bool} (hf : f.TakesLine w) :
    let n := lnLine w
    let u := s.setFrame p ((f.accept false n (unpackPixels (dtBits f.dt) f.width (crumbsBytes body))).unpair false n)
    s.checkLine p f w body crcGood true parity =
      if crcGood = false then (s.bump (HP.ICNT0_LCRCERR p) 1).setFrame p (f.failBurst false n 1)
      else if parity = true then s.setFrame p ({ f with lastL := some n }.failBurst false n 1)
      else u.setFld (HP.INGSTAT_LASTLINE p) (max n (u.fld (HP.INGSTAT_LASTLINE p))) := by
  intro n u
  obtain ⟨hknown, hdt, hwidth, hexp, hhdr, hinside, hfirst⟩ := hf
  have hsecond : lnSecond w = false := by rw [lnSecond, hexp]; rfl
  have hmalformed : (decide (lnExp w = 3) || !lnKnown w || lnDt w != f.dt || lnWidth w != f.width
      || (if f.hdr = true then lnExp w == 0 else lnExp w != 0)) = false := by
    simp only [hknown, hdt, hwidth, hexp, hhdr, bne_self_eq_false, Bool.false_eq_true, if_false, Bool.not_true, Bool.or_false]
    decide
  unfold State.checkLine
  simp only [hmalformed, hsecond, hfirst, Nat.not_le.mpr hinside, Option.any_none, Bool.not_true, Bool.not_eq_true', Bool.false_eq_true,
    if_false]
  rfl

/-! ## Orphans (R165, R169) -/

theorem State.linePacket_noFrame (hin : s.ingestOn p = true) (hframe : (s.ingest p).frame = none)
    (hclosed : (s.ingest p).lastClosed = none) : s.linePacket p h r full parity =
      (s.setIngest p { s.ingest p with orphans := true }).bump (HP.ICNT1_ORPHAN p) 1 := by
  simp only [State.linePacket, hin, hframe, State.noFrame, hclosed, Option.any_none, Bool.not_true, Bool.false_eq_true, if_false]

theorem State.linePacket_otherFrame (hin : s.ingestOn p = true) (hframe : (s.ingest p).frame = some f)
    (hfclo : lnFclo h.toNat ≠ f.hf % 1024) : s.linePacket p h r full parity =
      (s.setIngest p { s.ingest p with orphans := true }).bump (HP.ICNT1_ORPHAN p) 1 := by
  simp only [State.linePacket, hin, hframe, hfclo, ne_eq, not_false_eq_true, Bool.not_true, Bool.false_eq_true, if_false, if_true]

end

theorem execLinePacket_heard {s : State} {port : Port} {h : Crumb} {r : List Crumb} {full parity : Bool} (hears : s.hears port.val = true)
    (hcrc : crc8Good h = true) (ht : bitsOf h.toNat 5 0 = 2) :
    execLinePacket port (h :: r) full s parity = .next (s.linePacket port.val h r full parity) :=
  congrArg _ (State.onPacket_of_good hears hcrc ht)

/-! ## The statement -/

/-- Settles O17: a line of the open frame by its trailer and its parity, an orphan by the frame that is not open. -/
theorem lineResults : Obligations.LineResults := by
  unfold Obligations.LineResults
  refine ⟨fun s port h r f => ?_, fun s port h r full parity => ?_⟩
  · intro p w n body crc hears hcrc ht hin hframe hfclo hovf hhdr hfirst hknown hdt hwidth hexp hinside hwhole g v u
    have hg : g.TakesLine w := Frame.TakesLine.countPacket ⟨hknown, hdt, hwidth, hexp, hhdr, hinside, hfirst⟩ _
    have hchecked (parity : Bool) : exec (.linePacket port (h :: r) false parity) s = .next (
        if (crc == crc32Crumbs body) = false then (v.bump (HP.ICNT0_LCRCERR p) 1).setFrame p (g.failBurst false n 1)
        else if parity = true then v.setFrame p ({ g with lastL := some n }.failBurst false n 1)
        else u.setFld (HP.INGSTAT_LASTLINE p) (max n (u.fld (HP.INGSTAT_LASTLINE p)))) :=
      calc exec (.linePacket port (h :: r) false parity) s
        _ = .next (s.linePacket p h r false parity) := execLinePacket_heard hears hcrc ht
        _ = .next (v.checkLine p g w body (crc == crc32Crumbs body) true parity) :=
          congrArg _ (State.linePacket_whole hin hframe hfclo hovf hknown hwhole)
        _ = _ := congrArg _ (State.checkLine_taken hg)
    refine ⟨fun hgood => ?_, fun hgood => ?_, fun hbad parity => ?_⟩
    · exact (hchecked false).trans (congrArg _ ((if_neg (by simp [hgood])).trans (if_neg Bool.false_ne_true)))
    · exact (hchecked true).trans (congrArg _ ((if_neg (by simp [hgood])).trans (if_pos rfl)))
    · exact (hchecked parity).trans (congrArg _ (if_pos (beq_eq_false_iff_ne.mpr hbad)))
  · intro p g hears hcrc ht hin
    refine ⟨fun hframe hclosed => ?_, fun f hframe hfclo => ?_⟩
    · exact (execLinePacket_heard hears hcrc ht).trans (congrArg _ (State.linePacket_noFrame hin hframe hclosed))
    · exact (execLinePacket_heard hears hcrc ht).trans (congrArg _ (State.linePacket_otherFrame hin hframe hfclo))

end Sys2Proof.Machine
end

section
/-!
PROOF. The UPD and SVC commands that their checks admit (spec/04_heads.md R136, spec/15_mailbox.md R440, R455, spec/16_config_sets.md R473,
spec/18_rotation_bist.md R525, spec/24_security.md R630 to R634).
-/
namespace Sys2Proof.Machine

/-- Missing bytes read 0, and an empty list has none. -/
theorem fieldAt_nil (off n : Nat) : fieldAt [] off n = 0 := by
  have hzero (l : List Nat) : leNat (l.map fun _ => (0 : Byte)) = 0 := by
    induction l with
    | nil => rfl
    | cons _ l ih => rw [List.map_cons, leNat, ih]; rfl
  exact hzero (List.range n)

section
variable {s : State} {ch : Chan} {r : Req}

/-! ## The update staging area (R440) -/

/-- The update staging area is open for the channel of a command, and holds an image of the length that the command names. -/
structure State.UpdateStaged (s : State) (r : Req) (off base size : Nat) : Prop where
  opened : s.mbx.stages.has 2 = true
  window : s.mbx.stages.get 2 (0, 0, 0) = (r.ch, base, size)
  nonempty : 1 ≤ r.arg off 4
  fits : r.arg off 4 ≤ size

theorem State.takeImage_staged {off base size : Nat} (h : s.UpdateStaged r off base size) (k : State → Nat → State) :
    s.takeImage r off k = k (s.closeStage 2) base := by
  have hlen : ¬(size < r.arg off 4 ∨ r.arg off 4 = 0) := by
    have := h.nonempty
    have := h.fits
    omega
  simp only [State.takeImage, State.consume, h.opened, h.window, hlen, ne_eq, not_true_eq_false, if_false, if_true]

/-- Closing a window writes its size alone. -/
theorem State.closeStage_fld_other {n : Nat} {f : Fld} (h : (BRG.HWINS_SIZE n).apart f = true) : (s.closeStage n).fld f = s.fld f :=
  State.fld_setFld_other _ _ _ _ h

theorem State.closeStage_mode (n : Nat) : (s.closeStage n).mode = s.mode := by
  have hne : BRG.HWINS n ≠ GLB.MODE := by
    unfold BRG.HWINS GLB.MODE
    omega
  rw [State.mode, State.closeStage_fld_other, State.mode]
  simp [Fld.apart, BRG.HWINS_SIZE, GLB.MODE_CUR, hne]

theorem State.closeStage_level (c : Nat) : (s.closeStage 2).fld (MBX.CST_LEVEL c) = s.fld (MBX.CST_LEVEL c) := by
  have hne : BRG.HWINS 2 ≠ MBX.CST c := by
    unfold BRG.HWINS MBX.CST
    omega
  exact State.closeStage_fld_other (by simp [Fld.apart, BRG.HWINS_SIZE, MBX.CST_LEVEL, hne])

theorem execUpdStage_opens (ht : s.takes ch 0x0D00 = some r) (hlo : 1 ≤ r.arg 0 4) (hhi : r.arg 0 4 ≤ 16777216)
    (hown : (s.mbx.stages.get 2 (r.ch, 0, 0)).1 = r.ch) :
    execUpdStage ch s = .next ((s.openStage 2 r.ch (s.stageBase 2) (r.arg 0 4)).done r
      (leBytes 8 (s.stageBase 2) ++ leBytes 4 (r.arg 0 4))) := by
  have hsize : ¬16 * 2 ^ 20 < r.arg 0 4 := by omega
  have hzero : ¬r.arg 0 4 = 0 := by omega
  rcases hget : s.mbx.stages.get 2 (r.ch, 0, 0) with ⟨owner, base, size⟩
  have howner : owner = r.ch := by rw [hget] at hown; exact hown
  rw [execUpdStage, State.onCommand_eq ht]
  simp only [State.stageCmd, hget, howner, hsize, hzero, ne_eq, not_true_eq_false, if_false, layout, List.append_nil]

/-! ## UPD (R455, R473, R630, R631) -/

theorem execUpdFlash_staged {base size : Nat} (ht : s.takes ch 0x0D01 = some r) (hslot : r.arg 0 1 ≤ 1)
    (h : s.UpdateStaged r 4 base size) : execUpdFlash ch s = .next ((s.closeStage 2).interimAt r base []) := by
  rw [execUpdFlash, State.onCommand_eq ht, if_neg (Nat.not_lt.mpr hslot), State.takeImage_staged h]

theorem execUpdCpxSwitch_staged {base size : Nat} (ht : s.takes ch 0x0D02 = some r) (hruns : s.mbx.runs = [])
    (h : s.UpdateStaged r 0 base size) (hmode : s.mode ≠ .paired) :
    let shi := fieldAt (s.bytes base (r.arg 0 4)) 0x10 2
    shi / 256 = 3 → (∀ c < 64, s.fld (MBX.CST_LEVEL c) / 256 = 3 → s.fld (MBX.CST_LEVEL c) ≤ shi) →
      execUpdCpxSwitch ch s = .next ((s.closeStage 2).interimAt r base []) := by
  intro shi hmajor hlevels
  have hany : (((List.range 64).map fun c => (s.closeStage 2).fld (MBX.CST_LEVEL c)).any
      fun l => l / 256 == 3 && decide (shi < l)) = false := by
    rw [List.any_eq_false]
    intro l hl
    obtain ⟨c, hc, rfl⟩ := List.mem_map.mp hl
    rw [State.closeStage_level, Bool.and_eq_true, beq_iff_eq, decide_eq_true_eq]
    exact fun ⟨h3, hlt⟩ => Nat.not_lt.mpr (hlevels c (List.mem_range.mp hc) h3) hlt
  have hbytes : (s.closeStage 2).bytes base (r.arg 0 4) = s.bytes base (r.arg 0 4) := rfl
  rw [execUpdCpxSwitch, State.onCommand_eq ht]
  simp only [hruns, List.isEmpty_nil, Bool.not_true, Bool.false_eq_true, if_false, State.takeImage_staged h, hbytes]
  simp only [shi] at hmajor hany
  simp only [hmajor, hany, State.closeStage_mode, hmode, ne_eq, not_true_eq_false, Bool.false_eq_true, or_self, false_and, if_false]

theorem execUpdProgAdd_staged {base size : Nat} (ht : s.takes ch 0x0D03 = some r) (h : s.UpdateStaged r 0 base size) :
    execUpdProgAdd ch s = .next ((s.closeStage 2).interimAt r base []) := by
  rw [execUpdProgAdd, State.onCommand_eq ht, State.takeImage_staged h]

/-- The test of UPD_PROG_REMOVE on a set in which no camera names the PROGID. -/
theorem any_progId_eq_false {c : CfgSet} {id : Nat} (h : ∀ p < 192, CfgSet.progId c p ≠ id) :
    ((List.range 192).any fun p => CfgSet.progId c p == id) = false := by
  rw [List.any_eq_false]
  exact fun p hp => by simpa using h p (List.mem_range.mp hp)

theorem execUpdProgRemove_unnamed (ht : s.takes ch 0x0D04 = some r) (hsome : (s.binary (r.arg 0 4)).isSome = true)
    (hactive : ∀ p < 192, CfgSet.progId s.cfg.active p ≠ r.arg 0 4)
    (hshadow : ∀ p < 192, CfgSet.progId s.cfg.shadow p ≠ r.arg 0 4) :
    execUpdProgRemove ch s = .next ({ s with progs := s.progs.filter fun x => x.progid != r.arg 0 4 }.done r []) := by
  obtain ⟨b, hb⟩ := Option.isSome_iff_exists.mp hsome
  rw [execUpdProgRemove, State.onCommand_eq ht]
  simp only [hb, Option.isNone_some, any_progId_eq_false hactive, any_progId_eq_false hshadow, Bool.false_eq_true, or_self, if_false]

theorem State.onPort_enabled (hp : r.arg 0 2 < 192) (hen : CfgSet.portEnabled (s.setFor (r.arg 0 2)) (r.arg 0 2) = true)
    (k : State → Nat → State) : s.onPort r k = k s (r.arg 0 2) := by
  have hle : ¬191 < r.arg 0 2 := by omega
  simp only [State.onPort, hle, hen, Bool.not_true, Bool.false_eq_true, if_false]

@[simp] theorem State.interimAt_sys (base : Nat) (result : List Byte) : (s.interimAt r base result).sys = s.sys := by
  rw [State.interimAt, State.interim_sys]

/-- UPD_HEAD_FW whose image is verified: the transfer begins, MODE by HMODE and by what the head can do. -/
theorem execUpdHeadFw_verified {base size : Nat} (ht : s.takes ch 0x0D05 = some r) (hp : r.arg 0 2 < 192)
    (hen : CfgSet.portEnabled (s.setFor (r.arg 0 2)) (r.arg 0 2) = true) (hhm : r.arg 2 1 ≤ 1)
    (hst : s.pstate (r.arg 0 2) = psReady ∨ s.pstate (r.arg 0 2) = psStreaming)
    (hruns : ∀ x ∈ s.mbx.runs, ¬(x.opcode = 0x0D05 ∧ x.arg 0 2 = r.arg 0 2)) (h : s.UpdateStaged r 4 base size)
    (hsec : s.sys.secDead = false) :
    let p := r.arg 0 2
    let x := (s.closeStage 2).interimAt r base []
    let img := x.bytes base (r.arg 4 4)
    let mode := if r.arg 2 1 = 1 then 1 else if x.flag (HP.PSTAT_HITLESS p) then 0 else 2
    verifyImage x.fuses.rootRev none 3 img = 0 →
      execUpdHeadFw ch s = .next ((x.setPort p { x.port p with fw := some (img, 0, mode) }).fwNext p) := by
  intro p x img mode hgood
  have hstate : ¬(s.pstate p ≠ psReady ∧ s.pstate p ≠ psStreaming) := fun hn => hst.elim hn.1 hn.2
  have hidle : ¬(s.mbx.runs.any fun y => y.opcode == 0x0D05 && y.arg 0 2 == p) = true := by
    rw [List.any_eq_true]
    rintro ⟨y, hy, hsame⟩
    rw [Bool.and_eq_true, beq_iff_eq, beq_iff_eq] at hsame
    exact hruns y hy hsame
  have halive : ¬x.sys.secDead = true := by
    rw [State.interimAt_sys]
    exact ne_true_of_eq_false hsec
  rw [execUpdHeadFw, State.onCommand_eq ht, State.onPort_enabled hp hen]
  dsimp only
  rw [if_neg (Nat.not_lt.mpr hhm), if_neg hstate, if_neg hidle, State.takeImage_staged h]
  refine congrArg _ ((if_neg halive).trans ?_)
  split
  · rfl
  · next hbad => exact absurd hgood hbad

/-! ## SVC (R455, R525, R634) -/

/-- SEC keeps a challenge for a channel: its nonce, its time. -/
def State.challenged (s : State) (c : Nat) : State :=
  { s with fresh := s.fresh + 6, sec := { s.sec with nonce := some (s.drawNonce.1, s.now, c) } }

/-- ATTSIG: the bytes shown. -/
def attSig (b : List Byte) : List (Fld × Nat) := (List.range 24).map fun k => (SEC.ATTSIG_SIG k, fieldAt b (4 * k) 4)

theorem execSvcChallenge_alive (ht : s.takes ch 0x0E00 = some r) (hsec : s.sys.secDead = false) :
    let n := s.drawNonce.1
    let sig := Config.identitySign (Config.sha384 (leBytes 48 n ++ leBytes 16 devId))
    execSvcChallenge ch s = .next (((s.challenged r.ch).setFlds (attSig (if s.flag SEC.SECSTAT_KEYLOCK = true then []
      else leBytes 48 sig.1 ++ leBytes 48 sig.2))).done r (leBytes 48 n)) := by
  intro n sig
  rw [execSvcChallenge, State.onCommand_eq ht]
  exact congrArg _ (if_neg (ne_true_of_eq_false hsec))

theorem attSig_nil : attSig [] = (List.range 24).map fun k => (SEC.ATTSIG_SIG k, 0) := by
  simp only [attSig, fieldAt_nil]

theorem execSvcAuthR_takes (ht : s.takes ch 0x0E01 = some r) :
    execSvcAuthR ch s = .next ({ s with sec := { s.sec with sigR := some (r.ch, r.arg 0 48) } }.done r []) := by
  rw [execSvcAuthR, State.onCommand_eq ht]

/-- The second half of a signature is judged on the nonce that SEC keeps, by the service key of the running image; both are spent. -/
theorem execSvcAuthS_judged {sr n t nch : Nat} {i : Image} {k : List Byte} (ht : s.takes ch 0x0E02 = some r)
    (hr : s.sec.sigR = some (r.ch, sr)) (hsec : s.sys.secDead = false) (hn : s.sec.nonce = some (n, t, nch)) (hi : s.sys.image = some i)
    (hk : i.serviceKey = some k) :
    let digest := Config.sha384 (leBytes 48 n ++ leBytes 16 devId ++ leBytes 4 (s.reg GLB.IDCODE).toNat)
    let good := Config.ecdsaVerify k digest sr (r.arg 0 48)
    let e := s.now + 10000000000
    let spent := { s with sec := { s.sec with nonce := none, sigR := none } }
    execSvcAuthS ch s = .next (if s.now < t + 60000000000 ∧ good = true then
      ({ spent with sec := { spent.sec with grant := some e } }.setFld SEC.SECSTAT_GRANT 1).done r (leBytes 8 e)
      else spent.refuse r 0x0E01 0) := by
  intro digest good e spent
  rw [execSvcAuthS, State.onCommand_eq ht]
  simp only [hr, hsec, hn, hi, hk, ne_eq, not_true_eq_false, Bool.false_eq_true, if_false, Bool.and_eq_true, decide_eq_true_eq]
  rfl

theorem execSvcBist_admitted (ht : s.takes ch 0x0E03 = some r) (hscope : r.arg 0 4 < 16) :
    execSvcBist ch s = .next (s.interim r []) := by
  rw [execSvcBist, State.onCommand_eq ht, if_neg (Nat.not_le.mpr hscope)]

theorem execSvcFuse_takes (ht : s.takes ch 0x0E04 = some r) : execSvcFuse ch s = .next (s.interim r []) := by
  rw [execSvcFuse, State.onCommand_eq ht]

end

/-! ## The statement -/

/-- Settles O51: each command by the lemma of what its checks let pass. -/
theorem updateServiceCommands : Obligations.UpdateServiceCommands := by
  unfold Obligations.UpdateServiceCommands
  intro s ch r is staged u
  have hstaged {off base size : Nat} (h : staged off base size) : s.UpdateStaged r off base size :=
    have ⟨hopen, hwindow, hlo, hhi⟩ := h
    ⟨hopen, hwindow, hlo, hhi⟩
  refine ⟨execUpdStage_opens, fun base size ht hslot h => execUpdFlash_staged ht hslot (hstaged h),
    fun base size ht hruns h hmode => execUpdCpxSwitch_staged ht hruns (hstaged h) hmode,
    fun base size ht h => execUpdProgAdd_staged ht (hstaged h),
    fun ht hsome hnamed => execUpdProgRemove_unnamed ht hsome (fun p hp => (hnamed p hp).1) (fun p hp => (hnamed p hp).2),
    fun base size ht hp hen hhm hst hruns h hsec => execUpdHeadFw_verified ht hp hen hhm hst hruns (hstaged h) hsec,
    fun ht hsec => ?_, execSvcAuthR_takes, fun sr n t nch i k ht hr hsec hn hi hk => ?_, execSvcBist_admitted, execSvcFuse_takes⟩
  · have hasked : exec (.svcChallenge ch) s = _ := execSvcChallenge_alive ht hsec
    refine ⟨s.drawNonce.1, s.fresh + 6, s.challenged r.ch, rfl, fun hlock => ?_, fun hlock => ?_⟩
    · rw [hasked, if_pos hlock, attSig_nil]
    · rw [hasked, if_neg (ne_true_of_eq_false hlock), attSig]
  · intro good e spent fresh
    have hjudged : exec (.svcAuthS ch) s = _ := execSvcAuthS_judged ht hr hsec hn hi hk
    refine ⟨fun hfresh hgood => hjudged.trans (congrArg _ (if_pos ⟨hfresh, hgood⟩)),
      fun hbad => hjudged.trans (congrArg _ (if_neg ?_))⟩
    rintro ⟨hfresh, hgood⟩
    exact hbad.elim (fun h => h hfresh) (fun h => ne_true_of_eq_false h hgood)

end Sys2Proof.Machine
end

section
/-!
PROOF. A step: the command at the front of the queue, and what time does on an empty queue (spec/05_time.md R145, R146).
-/
namespace Sys2Proof.Machine

section
variable {s : State}

theorem step_of_cons {c : Instr} {rest : List Instr} (h : s.pending = c :: rest) : step s = exec c { s with pending := rest } := by
  simp only [step, h]

theorem step_of_nil (h : s.pending = []) : step s = .next s.idle := by
  simp only [step, h]

/-- With no link known, an empty queue only lets the time go on. -/
theorem State.idle_of_noLinks (h : s.links = []) : s.idle = s.tick := by
  rw [State.idle, h, List.foldl_nil]

theorem State.tick_of_running (h : s.tsu.running = true) :
    let u := { s with tsu := { s.tsu with now := (s.tsu.now + s.fld TSU.INC_INC) % 2 ^ 92 } }
    s.tick = u.holdDue u.now := by
  simp only [State.tick, h, if_true]

theorem State.tick_of_stopped (h : s.tsu.running = false) (hvio : s.sys.vio = true) :
    s.tick = { s with keeper := { s.keeper with shadow := (s.keeper.shadow + 40) % 2 ^ 64 } } := by
  simp only [State.tick, h, hvio, Bool.false_eq_true, if_false, if_true]

end

/-! ## The statement -/

/-- Settles O1: a step by the queue, the time on an empty one by the TSU. -/
theorem stepOfQueue : Obligations.StepOfQueue := by
  unfold Obligations.StepOfQueue
  refine ⟨fun _ _ _ => step_of_cons, fun _ => step_of_nil, fun s hempty hlinks hrun => ?_, fun s hempty hlinks hstop hvio => ?_⟩
  · exact (step_of_nil hempty).trans (congrArg _ ((State.idle_of_noLinks hlinks).trans (State.tick_of_running hrun)))
  · exact (step_of_nil hempty).trans (congrArg _ ((State.idle_of_noLinks hlinks).trans (State.tick_of_stopped hstop hvio)))

end Sys2Proof.Machine
end

section
/-!
PROOF. The TSU: PPS edges and their loss, PPS_OUT, the snapshot and the keeper's shadow, and the SYNC pins (spec/05_time.md R145, R147 to
R152, R159 to R161).
-/
namespace Sys2Proof.Machine

section
variable {s : State}

/-! ## PPS edges (R147 to R149) -/

@[simp] theorem State.tsuState_change (s : State) (st : Nat) : (s.tsuState st).tsu.change = s.tsu.change := by
  unfold State.tsuState
  extract_lets u _ v
  have hv : v.tsu.change = s.tsu.change := by
    simp only [v]
    split <;> rfl
  split
  · exact hv
  · rw [State.intrEvent_tsu, hv]

@[simp] theorem State.setInc_change (s : State) (adj : Int) : (s.setInc adj).tsu.change = s.tsu.change := rfl

@[simp] theorem State.holdover_change (s : State) : s.holdover.tsu.change = s.tsu.change := by
  unfold State.holdover
  split
  · rfl
  · rw [State.setInc_change, State.tsuState_change, State.setFld_tsu]

@[simp] theorem State.holdDue_change (s : State) (t : Nat) : (s.holdDue t).tsu.change = s.tsu.change := by
  unfold State.holdDue
  extract_lets st
  split
  · exact s.holdover_change
  · rfl

/-- The TSU as a valid edge finds it: HOLDOVER begun where it was due, the edge kept and its error in PHERR (R146, R147). -/
def State.edgeSeen (s : State) (cap : Nat) : State :=
  let v := s.holdDue cap
  { v with tsu := { v.tsu with lastEdge := some cap } }.setFld TSU.PHERR_E (unsigned 32 (edgeError cap))

theorem State.edgeSeen_change (s : State) (cap : Nat) : (s.edgeSeen cap).tsu.change = s.tsu.change := s.holdDue_change cap

theorem State.ppsEdge_narrow (cap : Nat) : s.ppsEdge cap false = s.bump TSU.PCNT_PPSBAD 1 := by
  rw [State.ppsEdge, Bool.not_false, Bool.true_or, if_pos rfl]

theorem State.ppsEdge_early {cap l : Nat} (hl : s.tsu.lastEdge = some l) (h : cap < l + 900000000) :
    s.ppsEdge cap true = s.bump TSU.PCNT_PPSBAD 1 := by
  simp only [State.ppsEdge, hl, Nat.not_le.mpr h, decide_false, Bool.not_true, Bool.not_false, Bool.false_or, if_true]

/-- A wide edge that comes 900 ms after the last or later: the change that waits for it is applied, else its error judges it. -/
theorem State.ppsEdge_valid {cap : Nat} (h : ∀ l, s.tsu.lastEdge = some l → l + 900000000 ≤ cap) :
    s.ppsEdge cap true = s.tsu.change.elim
      (if (edgeError cap).natAbs ≤ 1000 then (s.edgeSeen cap).goodEdge (edgeError cap) cap
        else (s.edgeSeen cap).outlier (edgeError cap) cap)
      fun c => (s.edgeSeen cap).changeEdge c (edgeError cap) cap := by
  have hnear : (-1000 ≤ edgeError cap ∧ edgeError cap ≤ 1000) ↔ (edgeError cap).natAbs ≤ 1000 := by omega
  rw [← State.edgeSeen_change s cap]
  unfold State.ppsEdge
  extract_lets late e v _ u
  have hlate : late = true := by
    cases hl : s.tsu.lastEdge with
    | none => simp only [late, hl]
    | some l => simp only [late, hl, h l hl, decide_true]
  have hu : u = s.edgeSeen cap := rfl
  rw [hlate, if_neg (by decide), hu]
  split
  · next c hc => rw [hc, Option.elim_some]
  · next hc =>
    rw [hc, Option.elim_none]
    exact ite_congr (propext hnear) (fun _ => rfl) fun _ => rfl

/-! ## PPS lost (R150) -/

/-- HOLDOVER with pps-lost raised. -/
def State.ppsLost (s : State) : State := { s.holdover with tsu := { s.holdover.tsu with lostRep := true } }.report 0x0402 0 0

theorem execPpsLoss_running (hrun : s.tsu.running = true) : execPpsLoss s = .next (
    if s.fld TSU.DSTAT_STATE = tuAcquire ∨ s.fld TSU.DSTAT_STATE = tuLocked ∨ s.fld TSU.DSTAT_STATE = tuHoldover ∧ s.tsu.lostRep = false
    then s.ppsLost else s) := by
  simp only [execPpsLoss, hrun, Bool.true_and, Bool.or_eq_true, Bool.and_eq_true, beq_iff_eq, Bool.not_eq_true', or_assoc, State.ppsLost]

/-- Once it is raised, pps-lost stays until HOLDOVER is left. -/
theorem execPpsLoss_again (hrun : s.tsu.running = true) (hst : s.fld TSU.DSTAT_STATE = tuHoldover) (hrep : s.tsu.lostRep = true) :
    execPpsLoss s = .next s := by
  rw [execPpsLoss_running hrun, if_neg]
  rw [hst, hrep]
  decide

/-! ## PPS_OUT, the snapshot, the shadow (R145, R152, R161) -/

theorem State.flag_of_one {f : Fld} (h : s.fld f = 1) : s.flag f = true := (s.flag_iff f).mpr (by rw [h]; decide)

theorem execPpsEdge_enabled {captured : BitVec 64} {wide : Bool} (hrun : s.tsu.running = true) (hpins : s.pinsTaken = false)
    (hen : s.fld TSU.DCTL_PPS_EN = 1) : execPpsEdge captured wide s = .next (s.ppsEdge captured.toNat wide) := by
  simp only [execPpsEdge, hrun, hpins, State.flag_of_one hen, Bool.not_false, Bool.and_self, if_true]

theorem execSlewEnd_slewing (h : s.fld TSU.DSTAT_SLEWING = 1) : execSlewEnd s = .next s.stopSlew := by
  rw [execSlewEnd, h, if_neg Nat.one_ne_zero]

theorem execPpsOutPulse_driven (hrun : s.tsu.running = true) (hfull : s.mode.full = true) (hmode : s.mode ≠ .service)
    (hen : s.fld TSU.DCTL_PPSOUT_EN = 1) (hvalid : s.fld TSU.DSTAT_TIMEVALID = 1) :
    execPpsOutPulse s = .next (s.drivePps true) := by
  simp only [execPpsOutPulse, hfull, bne_iff_ne.mpr hmode, hrun, State.flag_of_one hen, State.flag_of_one hvalid, Bool.and_self, if_true]

theorem execKeeperShadowCopy_running (hrun : s.tsu.running = true) (hvio : s.sys.vio = true) :
    execKeeperShadowCopy s = .next { s with keeper := { s.keeper with shadow := s.now } } := by
  simp only [execKeeperShadowCopy, hvio, hrun, Bool.and_self, if_true]

theorem wordOf_toNat (v n : Nat) : (wordOf v n).toNat = v / 2 ^ (32 * n) % 2 ^ 32 := by
  rw [wordOf, BitVec.toNat_ofNat, Nat.shiftRight_eq_div_pow]

theorem execTsuSnap_on (hon : s.domainOn .fabric = true) : ∃ t, execTsuSnap s = .next t ∧ (t.reg TSU.SNAPL).toNat = s.now % 2 ^ 32
    ∧ (t.reg TSU.SNAPH).toNat = s.now / 2 ^ 32 % 2 ^ 32 ∧ ∀ a, a ≠ TSU.SNAPL → a ≠ TSU.SNAPH → t.reg a = s.reg a := by
  refine ⟨s.tsuSnap, by rw [execTsuSnap, if_pos hon], ?_, ?_, fun a hl hh => ?_⟩
  · rw [State.tsuSnap, State.reg_setReg_other _ _ _ _ (by decide), State.reg_setReg_same, wordOf_toNat, Nat.mul_zero, Nat.pow_zero, Nat.div_one]
  · rw [State.tsuSnap, State.reg_setReg_same, wordOf_toNat, Nat.mul_one]
  · rw [State.tsuSnap, State.reg_setReg_other _ _ _ _ hh, State.reg_setReg_other _ _ _ _ hl]

/-! ## SYNC outputs (R159) -/

/-- A SYNC pin in PULSE or WINDOW mode that drives its pulses: the modes and the clock of R68. -/
structure State.SyncDriven (s : State) (n : Nat) : Prop where
  full : s.mode.full = true
  noService : s.mode ≠ .service
  running : s.tsu.running = true
  mode : s.fld (TSU.SYNC_MODE n) = 1 ∨ s.fld (TSU.SYNC_MODE n) = 2

theorem State.SyncDriven.test {n : Nat} (h : s.SyncDriven n) :
    (s.mode.full && s.mode != .service && s.tsu.running && (s.fld (TSU.SYNC_MODE n) == 1 || s.fld (TSU.SYNC_MODE n) == 2)) = true := by
  simp only [h.full, bne_iff_ne.mpr h.noService, h.running, Bool.true_and, Bool.or_eq_true, beq_iff_eq]
  exact h.mode

theorem State.syncStop_pulse {n t : Nat} {c : CfgSet} (h : s.fld (TSU.SYNC_MODE n) = 1) :
    s.syncStop n t c = (t : Int) + s.sfld (TSU.SYNCOFS_OFFSET n) + s.fld (TSU.SYNCW_WIDTH n) := by
  rw [State.syncStop, if_pos h]

theorem execSyncOutputEdge_begins {pin : SyncPin} {t stop : Nat} {c : CfgSet} (h : s.SyncDriven pin.val)
    (ht : s.syncTarget pin.val s.now = some (t, c)) (hstop : stop = (s.syncStop pin.val t c).toNat) :
    let n := pin.val
    let stop := if s.sys.syncOut.get n false = true then max stop (s.tsu.syncEnd.get n 0) else stop
    execSyncOutputEdge pin true s = .next { s.setSync n true with tsu := { s.tsu with syncEnd := s.tsu.syncEnd.set n stop } } := by
  simp only [execSyncOutputEdge, h.test, ht, hstop, if_true]

theorem execSyncOutputEdge_ends {pin : SyncPin} (h : s.SyncDriven pin.val) : execSyncOutputEdge pin false s =
    .next (if s.tsu.syncEnd.get pin.val 0 ≤ s.now + 1 then s.setSync pin.val false else s) := by
  simp only [execSyncOutputEdge, h.test, if_true, Bool.false_eq_true, if_false]

/-! ## SYNC inputs (R160) -/

/-- A SYNC pin takes an edge: its MODE captures this one, and the last one is at least 20 ns back. -/
structure State.SyncTakes (s : State) (n : Nat) (falling : Bool) (t : Nat) : Prop where
  running : s.tsu.running = true
  pins : s.pinsTaken = false
  mode : (s.fld (TSU.SYNC_MODE n) = 3 ∧ falling = false) ∨ (s.fld (TSU.SYNC_MODE n) = 4 ∧ falling = true) ∨ s.fld (TSU.SYNC_MODE n) = 5
  fresh : s.tsu.capLast.has n = false ∨ s.tsu.capLast.get n 0 + 20 ≤ t

/-- The edge counted as lost, for the FIFO is full. -/
def State.captureLost (s : State) (n t : Nat) : State :=
  { s with tsu := { s.tsu with capLast := s.tsu.capLast.set n t, capOvf := s.tsu.capOvf.set n true } }.bump (TSU.SYNCST_OVF n) 1

/-- An edge taken joins the FIFO while it has room; else it is counted, and the first of a run reported. -/
theorem execSyncInputEdge_taken {pin : SyncPin} {falling : Bool} {time : BitVec 64} (h : s.SyncTakes pin.val falling time.toNat) :
    let n := pin.val
    let q := s.tsu.caps.get n []
    execSyncInputEdge pin falling time s = .next (
      if q.length < 16 then { s with tsu := { s.tsu with
        capLast := s.tsu.capLast.set n time.toNat, caps := s.tsu.caps.set n (q ++ [(time.toNat, falling)]), capOvf := s.tsu.capOvf.set n false } }
      else if s.tsu.capOvf.get n false = true then s.captureLost n time.toNat
      else (s.captureLost n time.toNat).report 0x0405 n 0) := by
  intro n q
  unfold execSyncInputEdge
  extract_lets _ takes _ same _ _ first
  have htakes : takes = true := by
    simp only [takes, Bool.or_eq_true, Bool.and_eq_true, beq_iff_eq, Bool.not_eq_true', or_assoc]
    exact h.mode
  have hsame : same = false := by
    cases hhas : s.tsu.capLast.has n with
    | false => simp only [same, hhas, n]
    | true =>
      have hlate := h.fresh.resolve_left (by rw [hhas]; decide)
      simp only [same, hhas, n]
      exact decide_eq_false (Nat.not_lt.mpr hlate)
  have hfirst : first = !s.tsu.capOvf.get n false := rfl
  rw [h.running, h.pins, htakes, hsame, if_neg (by decide), hfirst]
  cases s.tsu.capOvf.get n false <;> rfl

theorem execScapPop_on {path : Path} {pin : SyncPin} (hon : s.domainOn .fabric = true) :
    let u := (s.latch path [TSU.SCAPH pin.val]).popCapture pin.val
    execScapPop path pin s = .next { u with readOut := u.readOut.set path.num (leBytes 4 (s.peek (TSU.SCAPL pin.val)).toNat) } := by
  rw [execScapPop, if_pos hon]
  rfl

end

/-! ## The statement -/

/-- Settles O15: each command by what its state lets it do, an edge by when it comes and by its error. -/
theorem timeResults : Obligations.TimeResults := by
  unfold Obligations.TimeResults
  refine ⟨fun s captured wide hrun => ?_, fun s cap => ?_, fun s pin falling time path => ?_⟩
  · intro st lost
    have hloss : exec .ppsLoss s = _ := execPpsLoss_running hrun
    refine ⟨execPpsEdge_enabled hrun, fun hst => hloss.trans (congrArg _ (if_pos ?_)),
      fun hst hrep => hloss.trans (congrArg _ (if_pos (.inr (.inr ⟨hst, hrep⟩)))), execPpsLoss_again hrun, execSlewEnd_slewing,
      execPpsOutPulse_driven hrun, rfl, execKeeperShadowCopy_running hrun, execTsuSnap_on⟩
    exact hst.imp_right .inl
  · intro v u
    refine ⟨State.ppsEdge_narrow cap, fun l => State.ppsEdge_early, fun c hlate hc => ?_, fun hlate hc hnear => ?_,
      fun hlate hc hfar => ?_⟩
    · rw [State.ppsEdge_valid hlate, hc, Option.elim_some]
      rfl
    · rw [State.ppsEdge_valid hlate, hc, Option.elim_none, if_pos hnear]
      rfl
    · rw [State.ppsEdge_valid hlate, hc, Option.elim_none, if_neg (Nat.not_le.mpr hfar)]
      rfl
  · intro n m q fresh takes full
    refine ⟨fun hfull hmode hrun hm => ?_, fun hrun hpins htakes hfresh => ?_, execScapPop_on⟩
    · have hdriven : s.SyncDriven n := ⟨hfull, hmode, hrun, hm⟩
      have hends : exec (.syncOutputEdge pin false) s = _ := execSyncOutputEdge_ends hdriven
      refine ⟨fun t c ht => ?_, fun hdue => hends.trans (congrArg _ (if_pos hdue)),
        fun hlater => hends.trans (congrArg _ (if_neg (Nat.not_le.mpr hlater)))⟩
      refine execSyncOutputEdge_begins hdriven ht ?_
      split
      · next hpulse => rw [State.syncStop_pulse hpulse]
      · rfl
    · have htaken : exec (.syncInputEdge pin falling time) s = _ := execSyncInputEdge_taken ⟨hrun, hpins, htakes, hfresh⟩
      refine ⟨fun hroom => htaken.trans (congrArg _ (if_pos hroom)), fun hlen hovf => ?_, fun hlen hovf => ?_⟩
      · exact htaken.trans (congrArg _ ((if_neg (Nat.not_lt.mpr hlen)).trans (if_pos hovf)))
      · exact htaken.trans (congrArg _ ((if_neg (Nat.not_lt.mpr hlen)).trans (if_neg (ne_true_of_eq_false hovf))))

end Sys2Proof.Machine
end

section
/-!
PROOF. The TIME, CAN and FAULT commands: what each does once its channel's entry is taken and its checks let it pass (spec/05_time.md R149,
R151, R159 to R161, spec/15_mailbox.md R453 to R455, spec/19_faults.md R541, R543, R550, spec/21_can.md R574, R575, R581, R583, R588).
-/
namespace Sys2Proof.Machine

section
variable {s : State} {ch : Chan} {r : Req}

theorem State.takes_opcode {c op : Nat} (h : s.takes c op = some r) : r.opcode = op := by
  unfold State.takes at h
  split at h
  · next e hfind =>
    have hmatch := List.find?_some hfind
    rw [Bool.and_eq_true, beq_iff_eq, beq_iff_eq] at hmatch
    rw [← Option.some.inj h]
    exact hmatch.2
  · cases h

/-! ## A time asked for (R151, R454) -/

/-- What a time of whole seconds would change, taken where the change would be made: at the next whole second while the TSU follows the
PPS, else at once. -/
def State.timeDelta (s : State) (sec : Nat) : Int :=
  let st := s.fld TSU.DSTAT_STATE
  ((sec * 1000000000 : Nat) : Int)
    - if st = tuLocked ∨ st = tuAcquire then ((s.now / 1000000000 + 1) * 1000000000 : Nat) else (s.now : Nat)

/-- A delta that a TIME_SET may have in a streaming mode: 1 ms either way. -/
def nearDelta (d : Int) : Prop := -1000000 ≤ d ∧ d ≤ 1000000

theorem not_nearDelta_iff {d : Int} : ¬nearDelta d ↔ d < -1000000 ∨ 1000000 < d := by
  unfold nearDelta
  omega

/-- A time that fits, with none waiting, that is no TIME_SET too far off in a streaming mode: it waits for the next valid edge while the
TSU follows the PPS, else it is set at once. -/
theorem State.askTime_admitted (hfits : r.arg 0 8 * 1000000000 < 2 ^ 64) (hfree : ∀ a b c d, s.tsu.change ≠ some (.set a b c d))
    (hnear : r.opcode = 0x0A01 → s.mode.streaming = true → nearDelta (s.timeDelta (r.arg 0 8))) :
    s.askTime r = if s.fld TSU.DSTAT_STATE = tuLocked ∨ s.fld TSU.DSTAT_STATE = tuAcquire then { s.interim r [] with
        tsu := { (s.interim r []).tsu with change := some (.set (r.arg 0 8) r.ch r.opcode r.tag) } }
      else (s.interim r []).applySet { r with interim := true } (r.arg 0 8) 0 := by
  unfold State.askTime
  extract_lets sec st locked due d pending
  have hd : d = s.timeDelta sec := rfl
  have hfar : ¬(r.opcode = 0x0A01 ∧ s.mode.streaming = true ∧ (d < -1000000 ∨ 1000000 < d)) := by
    rw [← not_nearDelta_iff, hd]
    exact fun ⟨hop, hstream, hno⟩ => hno (hnear hop hstream)
  have hpending : pending = false := by
    cases hchange : s.tsu.change with
    | none => simp only [pending, hchange]
    | some c =>
      cases c with
      | jump e => simp only [pending, hchange]
      | set sec chan opcode tag => exact absurd hchange (hfree sec chan opcode tag)
  rw [if_neg (Nat.not_le.mpr hfits), if_neg hfar, hpending, if_neg Bool.false_ne_true]

theorem State.askTime_far (hop : r.opcode = 0x0A01) (hfits : r.arg 0 8 * 1000000000 < 2 ^ 64) (hstream : s.mode.streaming = true)
    (hfar : ¬nearDelta (s.timeDelta (r.arg 0 8))) : s.askTime r = s.refuse r 0x0A01 0 := by
  unfold State.askTime
  extract_lets sec st locked due d
  have hd : d = s.timeDelta sec := rfl
  rw [if_neg (Nat.not_le.mpr hfits), if_pos ⟨hop, hstream, not_nearDelta_iff.mp (hd ▸ hfar)⟩]

/-! ## TIME (R149, R151, R453, R454) -/

theorem execTimeGet_takes (ht : s.takes ch 0x0A00 = some r) :
    execTimeGet ch s = .next (s.done r (leBytes 8 s.now ++ s.words4 [TSU.DSTAT, TSU.PHERR, TSU.INC, TSU.PCNT])) := by
  rw [execTimeGet, State.onCommand_eq ht]

theorem execTimeSet_takes (ht : s.takes ch 0x0A01 = some r) : execTimeSet ch s = .next (s.askTime r) := by
  rw [execTimeSet, State.onCommand_eq ht]

theorem execTimeStep_seconds (ht : s.takes ch 0x0A02 = some r) (hj : r.arg 8 1 = 0) : execTimeStep ch s = .next (s.askTime r) := by
  rw [execTimeStep, State.onCommand_eq ht]
  simp only [hj, Nat.not_lt_zero, if_false, if_true]

/-- TIME_STEP of a held jump where none is held (R149). -/
theorem execTimeStep_noneHeld (ht : s.takes ch 0x0A02 = some r) (hj : r.arg 8 1 = 1) (hheld : s.tsu.held = none) :
    execTimeStep ch s = .next (s.refuse r 0x0A02 0) := by
  rw [execTimeStep, State.onCommand_eq ht]
  simp only [hj, hheld, Nat.lt_irrefl, Nat.one_ne_zero, if_false]

theorem execTimeDiscipline_takes (ht : s.takes ch 0x0A03 = some r) :
    execTimeDiscipline ch s = .next (((s.setReg TSU.DCTL (BitVec.ofNat 32 (r.arg 0 4))).timePins).done r []) := by
  rw [execTimeDiscipline, State.onCommand_eq ht]

theorem execTimeClrcnt_takes (ht : s.takes ch 0x0A04 = some r) :
    let zeros := ((List.range 16).map fun n => (TSU.SYNCST_OVF n, 0))
      ++ (List.range 64).flatMap fun g => [(TSU.TGSENT_SENT g, 0), (TSU.TGMISS_MISSED g, 0), (TSU.TGMISS_RESENT g, 0)]
    execTimeClrcnt ch s = .next (((s.setReg TSU.PCNT 0).setFlds zeros).done r []) := by
  rw [execTimeClrcnt, State.onCommand_eq ht]

/-! ## The pins of the TSU (R152, R159) -/

theorem State.syncMode_ppsOut (s : State) (n : Nat) : (s.syncMode n).sys.ppsOut = s.sys.ppsOut := by
  unfold State.syncMode
  extract_lets m
  split
  · rfl
  · split <;> rfl

theorem State.foldl_syncMode_ppsOut (s : State) (ns : List Nat) :
    (ns.foldl (fun u n => u.syncMode n) s).sys.ppsOut = s.sys.ppsOut := by
  induction ns generalizing s with
  | nil => rfl
  | cons n ns ih => rw [List.foldl_cons, ih, State.syncMode_ppsOut]

theorem State.timePins_ppsOut_low (h : s.flag TSU.DCTL_PPSOUT_EN = false ∨ s.flag TSU.DSTAT_TIMEVALID = false) :
    s.timePins.sys.ppsOut = false := by
  have hoff : ¬(s.flag TSU.DCTL_PPSOUT_EN && s.flag TSU.DSTAT_TIMEVALID) = true := by
    rw [Bool.not_eq_true, Bool.and_eq_false_iff]
    exact h
  unfold State.timePins
  rw [if_neg hoff, State.foldl_syncMode_ppsOut]
  rfl

theorem Tbl.drop_drop {α : Type} (t : Tbl α) (k : Nat) : (t.drop k).drop k = t.drop k := by
  simp only [Tbl.drop, List.filter_filter, Bool.and_self]

/-- A pin without an output is driven again by its MODE where that copies PPS_OUT. -/
theorem State.syncMode_dropped {n : Nat} (h : s.sys.syncOut = s.sys.syncOut.drop n) :
    s.syncMode n = { s with sys := { s.sys with
      syncOut := if s.fld (TSU.SYNC_MODE n) = 6 then s.sys.syncOut.set n s.sys.ppsOut else s.sys.syncOut } } := by
  unfold State.syncMode
  extract_lets m
  by_cases hcopy : m = 6
  · rw [if_pos hcopy, if_pos hcopy, State.setSync]
  · rw [if_neg hcopy, if_neg hcopy, ← h]
    exact ite_self s

theorem execTimeSync_takes (ht : s.takes ch 0x0A05 = some r) (hc : r.arg 0 1 < 16) :
    let c := r.arg 0 1
    let w := fun o => BitVec.ofNat 32 (r.arg o 4)
    let u := ((s.setReg (TSU.SYNC c) (w 4)).setReg (TSU.SYNCOFS c) (w 8)).setReg (TSU.SYNCW c) (w 12)
    let off := s.sys.syncOut.drop c
    let o := if u.fld (TSU.SYNC_MODE c) = 6 then off.set c s.sys.ppsOut else off
    execTimeSync ch s = .next ({ u with sys := { s.sys with syncOut := o } }.done r []) := by
  intro c w u off o
  have hpin : State.syncMode { u with sys := { u.sys with syncOut := off } } c = { u with sys := { s.sys with syncOut := o } } :=
    State.syncMode_dropped (s := { u with sys := { u.sys with syncOut := off } }) (Tbl.drop_drop _ _).symm
  rw [execTimeSync, State.onCommand_eq ht, if_neg (Nat.not_lt.mpr (Nat.le_of_lt_succ hc)), ← hpin]
  rfl

theorem execTimeCapture_takes (ht : s.takes ch 0x0A06 = some r) (hc : r.arg 0 1 < 16) (hlo : 1 ≤ r.arg 1 1) (hhi : r.arg 1 1 ≤ 5) :
    let x := s.popCaptures (r.arg 0 1) (r.arg 1 1)
    execTimeCapture ch s = .next (x.2.done r (leBytes 1 (x.1.length / 8) ++ leBytes 7 0 ++ x.1)) := by
  have hpin : ¬15 < r.arg 0 1 := by omega
  have hcount : ¬(r.arg 1 1 = 0 ∨ 5 < r.arg 1 1) := by omega
  rw [execTimeCapture, State.onCommand_eq ht]
  simp only [hpin, hcount, if_false, layout, List.append_nil]

/-! ## CAN (R453, R574, R575, R581, R583, R588) -/

theorem State.onCan_eq (hc : r.arg 0 1 ≤ 1) (k : State → Nat → State) : s.onCan r k = k s (r.arg 0 1) :=
  if_neg (Nat.not_lt.mpr hc)

theorem execCanStatus_takes (ht : s.takes ch 0x0B00 = some r) (hc : r.arg 0 1 ≤ 1) :
    let c := r.arg 0 1
    execCanStatus ch s = .next (s.done r (leBytes 4 (s.canStat c).toNat ++ s.word4 (CAN.ERRC c) ++ leBytes 1 (s.can c).queue.length)) := by
  rw [execCanStatus, State.onCommand_eq ht, State.onCan_eq hc]

theorem execCanConfig_takes (ht : s.takes ch 0x0B01 = some r) (hc : r.arg 0 1 ≤ 1) (hmode : r.arg 1 1 < 64) :
    let c := r.arg 0 1
    execCanConfig ch s = .next ((canRates (r.arg 2 4) (r.arg 6 4)).elim (s.refuse r 0x0B01 0)
      fun x => (s.setCan c { s.can c with config := some (r.arg 1 1, x.1, x.2) }).done r []) := by
  rw [execCanConfig, State.onCommand_eq ht, State.onCan_eq hc, if_neg (Nat.not_le.mpr hmode)]
  cases canRates (r.arg 2 4) (r.arg 6 4) <;> rfl

theorem execCanFilter_takes (ht : s.takes ch 0x0B02 = some r) (hc : r.arg 0 1 ≤ 1) (hi : r.arg 1 1 < 32) (ha : r.arg 2 1 ≤ 2) :
    let c := r.arg 0 1
    let i := r.arg 1 1
    execCanFilter ch s =
      .next ((s.setFlds [(CAN.FID_ID c i, r.arg 4 4), (CAN.FMASK_MASK c i, r.arg 8 4), (CAN.FACT_ACTION c i, r.arg 2 1)]).done r []) := by
  rw [execCanFilter, State.onCommand_eq ht, State.onCan_eq hc, if_neg (Nat.not_lt.mpr (Nat.le_of_lt_succ hi)), if_neg (Nat.not_lt.mpr ha)]

/-- Wake by a frame needs a nominal rate of at most 500 kbit/s. -/
theorem execCanWake_fast (ht : s.takes ch 0x0B03 = some r) (hc : r.arg 0 1 ≤ 1) (hk : r.arg 1 1 = 2) (hfast : s.canFast (r.arg 0 1) = true) :
    execCanWake ch s = .next (s.refuse r 4 1) := by
  rw [execCanWake, State.onCommand_eq ht, State.onCan_eq hc, if_pos (.inr ⟨hk, hfast⟩), mbArg]

theorem execCanWake_takes (ht : s.takes ch 0x0B03 = some r) (hc : r.arg 0 1 ≤ 1)
    (hk : r.arg 1 1 ≤ 1 ∨ r.arg 1 1 = 2 ∧ s.canFast (r.arg 0 1) = false) :
    let c := r.arg 0 1
    execCanWake ch s =
      .next ((s.setFlds [(CAN.WCTL_WKIND c, r.arg 1 1), (CAN.WID_ID c, r.arg 4 4), (CAN.WMASK_MASK c, r.arg 8 4), (CAN.WDATAL_DATA c, r.arg 12 4),
        (CAN.WDATAH_DATA c, r.arg 16 4), (CAN.WDMASKL_DMASK c, r.arg 20 4), (CAN.WDMASKH_DMASK c, r.arg 24 4)]).done r []) := by
  have hkind : ¬(2 < r.arg 1 1 ∨ r.arg 1 1 = 2 ∧ s.canFast (r.arg 0 1) = true) := by
    rcases hk with hlow | ⟨htwo, hslow⟩
    · omega
    · rw [hslow, htwo]
      decide
  rw [execCanWake, State.onCommand_eq ht, State.onCan_eq hc, if_neg hkind]

theorem execCanVehicle_takes (ht : s.takes ch 0x0B04 = some r) (hc : r.arg 0 1 ≤ 1) :
    let c := r.arg 0 1
    execCanVehicle ch s = .next ((s.setFlds [(CAN.VEHSA_SA c, r.arg 1 1),
      (CAN.STAT_SOURCE c, if r.arg 1 1 = 0xFE then 0 else 1), (CAN.STAT_SOURCE (1 - c), 0)]).done r []) := by
  have hsource : b2n (r.arg 1 1 != 0xFE) = if r.arg 1 1 = 0xFE then 0 else 1 := b2n_not_decide _
  rw [execCanVehicle, State.onCommand_eq ht, State.onCan_eq hc]
  simp only [hsource]

/-! ## FAULT (R455, R541, R543, R550) -/

theorem execFaultRead_takes (ht : s.takes ch 0x0C00 = some r) (hfrom : r.arg 0 2 < 1024) :
    execFaultRead ch s = .next ((s.firstRecord (r.arg 0 2)).elim (s.refuse r 0x0C02 0) fun i =>
      let u := (s.markRead i).getD s
      u.done r (leBytes 2 i ++ leBytes 2 0 ++ (u.logWords i).flatMap fun w => leBytes 4 w.toNat)) := by
  rw [execFaultRead, State.onCommand_eq ht, if_neg (Nat.not_lt.mpr (Nat.le_of_lt_succ hfrom))]
  cases s.firstRecord (r.arg 0 2) with
  | none => rfl
  | some i => simp only [layout, List.append_nil, Option.elim_some]

theorem execFaultClear_read {u : State} (ht : s.takes ch 0x0C01 = some r) (hu : s.clearRecord (r.arg 0 2) (r.arg 2 2) = some u) :
    execFaultClear ch s = .next (u.done r []) := by
  rw [execFaultClear, State.onCommand_eq ht]
  simp only [hu]

theorem execFaultCounters_takes (ht : s.takes ch 0x0C02 = some r) :
    execFaultCounters ch s = .next (((s.clearOnRead FCU.OVFC).clearOnRead FCU.OVFU).done r
      (s.words4 [FCU.OVFC, FCU.OVFU, FCU.OVFF] ++ s.word4 FCU.FIRSTLOST ++ leBytes 2 0)) := by
  rw [execFaultCounters, State.onCommand_eq ht]

theorem execFaultPinmask_takes (ht : s.takes ch 0x0C03 = some r) :
    execFaultPinmask ch s = .next (((s.setFld FCU.PINMASK_MASK (r.arg 0 1)).driveFaultN).done r []) := by
  rw [execFaultPinmask, State.onCommand_eq ht]

theorem execFaultDump_takes (ht : s.takes ch 0x0C04 = some r) :
    let b := (List.range 1024).flatMap fun i => (s.logWords i).flatMap fun w => leBytes 4 w.toNat
    execFaultDump ch s = .next ((s.poke (resultBuf r.ch) b).done r (leBytes 8 (resultBuf r.ch) ++ leBytes 4 b.length)) := by
  rw [execFaultDump, State.onCommand_eq ht]
  simp only [State.toBuffer, layout, List.append_nil]

end

/-! ## The statement -/

/-- Settles O50: each command by the lemma of what it does once its checks pass; a time asked for by where the TSU makes the change. -/
theorem timeCanFaultCommands : Obligations.TimeCanFaultCommands := by
  unfold Obligations.TimeCanFaultCommands
  intro s ch r is st sec c d near asked places
  have hplaces {op : Nat} (hasked : asked op) (hnear : op = 0x0A01 → s.mode.streaming = true → near) : places := by
    obtain ⟨hfits, hfree, hop⟩ := hasked
    have hask := State.askTime_admitted hfits hfree fun h => hnear (hop.symm.trans h)
    exact ⟨fun hwaits => hask.trans (if_pos hwaits), fun hnow => hask.trans (if_neg hnow)⟩
  refine ⟨execTimeGet_takes, fun ht hasked hok => ⟨execTimeSet_takes ht, hplaces hasked fun _ hstream => ?_⟩,
    fun ht hfits hstream hfar => ?_, fun ht hasked hj => ⟨execTimeStep_seconds ht hj, hplaces hasked fun h => ?_⟩,
    execTimeStep_noneHeld, execTimeDiscipline_takes, State.timePins_ppsOut_low, execTimeClrcnt_takes, execTimeSync_takes,
    execTimeCapture_takes, execCanStatus_takes, fun ht hc hmode => ⟨fun n d hrates => ?_, fun hrates => ?_⟩, execCanFilter_takes,
    execCanWake_fast, execCanWake_takes, execCanVehicle_takes, fun i ht hfrom hfirst => ?_, fun ht hfrom hnone => ?_,
    fun u => execFaultClear_read, execFaultCounters_takes, execFaultPinmask_takes, execFaultDump_takes⟩
  · exact hok.resolve_left (ne_false_of_eq_true hstream)
  · exact (execTimeSet_takes ht).trans (congrArg _ (State.askTime_far (State.takes_opcode ht) hfits hstream hfar))
  · exact absurd h (by decide)
  · exact (execCanConfig_takes ht hc hmode).trans (by rw [hrates, Option.elim_some])
  · exact (execCanConfig_takes ht hc hmode).trans (by rw [hrates, Option.elim_none])
  · exact (execFaultRead_takes ht hfrom).trans (by rw [hfirst, Option.elim_some])
  · exact (execFaultRead_takes ht hfrom).trans (by rw [hnone, Option.elim_none])

end Sys2Proof.Machine
end

section
/-!
PROOF. Counter clears: noise reduction, outputs, parameter queue, late reads, rotation (spec/07_noise.md R213, spec/10_outputs.md R305,
spec/11_stats_params.md R334, spec/18_rotation_bist.md R531).
-/
namespace Sys2Proof.Machine

section
variable {s : State}

/-! ## Registers zeroed, and fields set in order -/

theorem State.reg_zeroRegs {l : List Nat} {a : Nat} : (s.zeroRegs l).reg a = if a ∈ l then 0 else s.reg a := by
  induction l generalizing s with
  | nil => simp only [State.zeroRegs, List.not_mem_nil, if_false]
  | cons b r ih =>
    rw [State.zeroRegs, ih, State.reg_setReg]
    by_cases har : a ∈ r
    · rw [if_pos har, if_pos (List.mem_cons_of_mem b har)]
    · simp only [List.mem_cons, har, or_false, if_false]

/-- A field reads what it was set to where the fields set after it share no bit with it. -/
theorem State.fld_setFlds_cons {l : List (Fld × Nat)} {f : Fld} {v : Nat} (hf : f.hi < 32) (hl : ∀ x ∈ l, x.1.apart f = true) :
    (s.setFlds ((f, v) :: l)).fld f = v % 2 ^ fieldWidth f.hi f.lo :=
  (State.fld_setFlds_other (s.setFld f v) l f hl).trans (State.fld_setFld_same s f v hf)

/-! ## The clears while the pixel domain is on (R213, R305, R334, R531) -/

variable {sl : Slice} (hon : s.domainOn .pixel = true)
include hon

theorem execNrCounterClear_on : execNrCounterClear sl s = .next (s.zeroRegs [SL.NRCNT0 sl, SL.NRCNT1 sl]) :=
  congrArg _ (if_pos hon)

theorem execOutputCounterClear_on {k : Fin 4} : execOutputCounterClear sl k s = .next (s.zeroRegs [SL.OCNT sl k, SL.OCNT2 sl k]) :=
  congrArg _ (if_pos hon)

theorem execStatsCounterClear_on :
    execStatsCounterClear sl s = .next (s.zeroRegs [SL.PQCNT0 sl, SL.PQCNT1 sl, SL.PQCNT2 sl]) :=
  congrArg _ (if_pos hon)

theorem execReadlateClear_on : execReadlateClear sl s = .next (s.setFld (SL.STSTAT_READLATE sl) 0) :=
  congrArg _ (if_pos hon)

theorem execRotationCounterClear_on : execRotationCounterClear s = .next (s.setFlds [(XBAR.ROTCNT0_WINDOWS, 0),
    (XBAR.ROTCNT0_TRANSIENT, 0), (XBAR.ROTCNT1_REPAIRS, 0), (XBAR.ROTCNT1_DEFERRED, 0)]) :=
  congrArg _ (if_pos hon)

end

/-! ## The statement -/

/-- Settles O19: the first three clears zero whole registers, the last two set fields of the registers that the statement excepts. -/
theorem counterClears : Obligations.CounterClears := by
  unfold Obligations.CounterClears
  intro s sl k hon
  refine ⟨⟨_, execNrCounterClear_on hon, ?_⟩, ⟨_, execOutputCounterClear_on hon, ?_⟩, ⟨_, execStatsCounterClear_on hon, ?_⟩,
    ⟨_, execReadlateClear_on hon, ?_, fun a => State.reg_setFld_other s _ 0 a⟩,
    ⟨_, execRotationCounterClear_on hon, ?_, ?_, ?_, ?_, fun a h0 h1 => ?_⟩⟩
  · simp +contextual [State.reg_zeroRegs]
  · simp +contextual [State.reg_zeroRegs]
  · simp +contextual [State.reg_zeroRegs]
  · exact State.fld_setFld_same s _ 0 (by decide : 1 < 32)
  · exact State.fld_setFlds_cons (by decide) (by decide)
  · exact State.fld_setFlds_cons (s := s.setFld _ 0) (by decide) (by decide)
  · exact State.fld_setFlds_cons (s := (s.setFld _ 0).setFld _ 0) (by decide) (by decide)
  · exact State.fld_setFlds_cons (s := ((s.setFld _ 0).setFld _ 0).setFld _ 0) (by decide) (by decide)
  · refine State.reg_setFlds_other s _ a fun x hx => ?_
    simp only [List.mem_cons, List.not_mem_nil, or_false] at hx
    rcases hx with rfl | rfl | rfl | rfl
    · exact h0
    · exact h0
    · exact h1
    · exact h1

end Sys2Proof.Machine
end

section
/-!
PROOF. Beats, mirrors, delivery reports and lattice records between the devices of a pair, and the messages RESYNC, PORTINFO and UNKNOWN
(spec/09_geometry_lattice.md R275, spec/17_pairing.md R477, R485 to R493).
-/
namespace Sys2Proof.Machine

section
variable {s : State} {cs : List Crumb}

/-! ## Beats (R486 to R488) -/

theorem execPeerBeatSend_due (hears : s.peerHears = true) (hdue : s.pair.sentAt + 249000 ≤ s.now) (hage : s.hbAge ≤ 10000) :
    execPeerBeatSend s = .next (s.sendBeat false) := by
  simp only [execPeerBeatSend, hears, hdue, hage, decide_true, Bool.or_true, Bool.and_self, if_true]

/-- A device that has left, or whose partner is lost, ignores beats (R488). -/
def State.ignoresBeats (s : State) : Prop := s.prState = prLeft ∨ s.prState = prLost

/-- The state after a beat missed where beats count, before what the count brings. -/
def State.missCounted (s : State) (n : Nat) : State :=
  ((s.setPair { s.pair with beatAt := s.now }).setFld PEER.PSTAT_MISSED n).bump PEER.PCNT1_BEATMISS 1

theorem State.beatMissed_counted (hst : ¬s.ignoresBeats) :
    let n := min 4 (s.fld PEER.PSTAT_MISSED + 1)
    s.beatMissed = if n = 4 then (s.missCounted n).declareTakeover else s.missCounted n :=
  if_neg hst

theorem execPeerBeatMiss_due (hon : s.domainOn .peer = true) (hsolo : s.prState ≠ prSolo) (hhold : s.flag (LK.LKSTAT_HOLD .peer) = false)
    (hdue : s.pair.beatAt + 250000 ≤ s.now) : execPeerBeatMiss s = .next s.beatMissed := by
  simp only [execPeerBeatMiss, hon, bne_iff_ne.mpr hsolo, hhold, hdue, decide_true, Bool.not_false, Bool.and_self, if_true]

theorem execPeerBeat_ignored (hst : s.ignoresBeats) (good : Bool) : execPeerBeat cs good s = .next s := by
  refine congrArg _ (if_pos ?_)
  rw [Bool.or_assoc, Bool.or_eq_true, Bool.or_eq_true, beq_iff_eq, beq_iff_eq]
  exact .inr hst

/-- A beat that is heard and not ignored goes to the checks of R487 and R488. -/
theorem State.beat_taken (hears : s.peerHears = true) (hst : ¬s.ignoresBeats) :
    ¬(!s.peerHears || s.prState == prLeft || s.prState == prLost) = true := by
  obtain ⟨hleft, hlost⟩ := not_or.mp hst
  simp only [hears, beq_false_of_ne hleft, beq_false_of_ne hlost, Bool.not_true, Bool.or_self, Bool.false_eq_true, not_false_eq_true]

/-- A beat whose trailer CRC fails counts as missed. -/
theorem execPeerBeat_bad (hears : s.peerHears = true) (hst : ¬s.ignoresBeats) : execPeerBeat cs false s = .next s.beatMissed :=
  congrArg _ (if_neg (State.beat_taken hears hst))

/-- A good beat recorded (R487). -/
def State.beatRecorded (s : State) (cs : List Crumb) : State :=
  let c := crumbAt cs 0
  (s.setPair { s.pair with last := some (crumbAt cs 1, s.now), beatAt := s.now, dev := bitsOf c 9 8, mode := bitsOf c 15 12 }).setFlds
    [(PEER.PSTAT_MISSED, 0), (PEER.PLASTB_TBEAT, s.now)]

theorem execPeerBeat_good (hears : s.peerHears = true) (hst : ¬s.ignoresBeats) (hstays : bit (crumbAt cs 0) 10 = false) :
    execPeerBeat cs true s = .next ((s.beatRecorded cs).beatSkew cs) :=
  congrArg _ ((if_neg (State.beat_taken hears hst)).trans (if_neg (ne_true_of_eq_false hstays)))

/-- A beat that echoes none gives no offset (log entry 50). -/
theorem State.beatSkew_noEcho (h : crumbAt cs 2 = 0) : s.beatSkew cs = s := if_pos h

/-! ## Mirrors and delivery (R275, R491 to R493) -/

/-- The first record of a camera stood by for is judged by its CRC alone. -/
theorem execPeerMirror_first (hears : s.peerHears = true) (hm : s.mirrors = true) :
    let p := bitsOf (crumbAt cs 0) 7 0
    let r := mirrorRecord cs ((s.pair.recs.get p []).headD [])
    s.standby p = true → s.pair.recs.get p [] = [] → execPeerMirror cs s = .next (
      if crc32 (r.take 4092) = fieldAt r 0xFFC 4 then s.takeRecord p (bitsOf (crumbAt cs 0) 63 32) r else s.pairReq 0x0B 0 p []) := by
  intro p r hst hnone
  simp only [execPeerMirror, p, r] at hst hnone ⊢
  simp only [hears, hm, hst, hnone, List.headD_nil, bne_self_eq_false, Bool.not_true, Bool.or_self, Bool.false_and, Bool.false_eq_true, if_false]

/-- A report of a stream or of the port, of no other kind, is kept unless it lies behind the one kept. -/
theorem execPeerDone_reported (hears : s.peerHears = true) (h5 : bitsOf (crumbAt cs 0) 10 8 ≠ 5) (h6 : bitsOf (crumbAt cs 0) 10 8 ≠ 6) :
    let key := 8 * bitsOf (crumbAt cs 0) 7 0 + bitsOf (crumbAt cs 0) 10 8
    let fn := bitsOf (crumbAt cs 0) 63 32
    execPeerDone cs s = .next (if s.pair.dones.has key = true ∧ fnAhead fn (s.pair.dones.get key 0) ≤ 0 then s
      else s.setPair { s.pair with dones := s.pair.dones.set key fn }) := by
  intro key fn
  simp only [execPeerDone, hears, h5, h6, key, fn, decide_false, Bool.not_true, Bool.or_self, Bool.false_eq_true, if_false, Bool.and_eq_true,
    decide_eq_true_eq]

theorem execPeerLatmir_heard (hears : s.peerHears = true) (hm : s.mirrors = true) :
    let n := bitsOf (crumbAt cs 0) 2 0
    let lfn := bitsOf (crumbAt cs 0) 63 32
    let y := s.lat n
    execPeerLatmir cs s = .next (s.setLat n { y with
      mirrored := some lfn, frames := y.frames.filter (fun f => decide (0 < fnAhead f.lfn lfn)),
      next := if 0 < fnAhead ((lfn + 1) % 2 ^ 32) y.next then (lfn + 1) % 2 ^ 32 else y.next }) := by
  intro n lfn y
  simp only [execPeerLatmir, hears, hm, Bool.not_true, Bool.or_self, Bool.false_eq_true, if_false, n, lfn, y]

/-! ## PAIRCTL messages (R477, R485, R491) -/

theorem execPeerResync_heard (hears : s.peerHears = true) (ht : pcType cs = 0x0B) :
    execPeerResync cs s = .next (s.setPair { s.pair with sentRec := s.pair.sentRec.drop (pcArg cs) }) :=
  State.onPairCtl_of_hears hears ht

/-- PORTINFO of a camera that is not stood by for: what the partner sees is kept, and compared. -/
theorem execPeerPortinfo_served (hears : s.peerHears = true) (ht : pcType cs = 0x0D) :
    let p := bitsOf (pcArg cs) 7 0
    let i : PeerPort := { present := bit (pcArg cs) 9, dual := bit (pcArg cs) 8, serial := bytesAt (crumbsBytes (cs.drop 1)) 0 16 }
    p < 192 → s.standby p = false →
      execPeerPortinfo cs s = .next ((s.setPair { s.pair with info := s.pair.info.set p i }).pairMismatch p) := by
  intro p i hp hst
  have hport : ¬191 < p := Nat.not_lt.mpr (Nat.le_of_lt_succ hp)
  rw [execPeerPortinfo, State.onPairCtl_of_hears hears ht]
  refine congrArg _ ((if_neg hport).trans (if_neg ?_))
  rw [hst, Bool.false_and]
  exact Bool.false_ne_true

theorem execPeerUnknown_reserved (hears : s.peerHears = true) (ht : pcType cs = 0 ∨ 0x0E ≤ pcType cs ∧ pcType cs ≤ 0xFE) :
    execPeerUnknown cs s = .next (s.pairCtl 0xFF 1 (pcNum cs) 0 []) := by
  refine congrArg _ (if_pos ?_)
  rw [hears, Bool.true_and, Bool.or_eq_true, beq_iff_eq, decide_eq_true_eq]
  exact ht

end

/-! ## The statement -/

/-- Settles O53: each message by the lemma about its command where it is heard, a beat missed by the count that it brings. -/
theorem pairBeatsAndMirrors : Obligations.PairBeatsAndMirrors := by
  unfold Obligations.PairBeatsAndMirrors
  intro s cs c x missed waited
  refine ⟨execPeerBeatSend_due, fun hon hsolo hleft hlost hhold hdue => ?_, fun hst good => execPeerBeat_ignored hst good,
    fun hears hleft hlost => execPeerBeat_bad hears (not_or.mpr ⟨hleft, hlost⟩), fun hears hleft hlost hstays => ?_, ?_, ?_,
    execPeerLatmir_heard, execPeerResync_heard, fun hears ht => execPeerPortinfo_served hears ht, execPeerUnknown_reserved⟩
  · have hmiss : exec .peerBeatMiss s = .next s.beatMissed := execPeerBeatMiss_due hon hsolo hhold hdue
    rw [hmiss, State.beatMissed_counted (not_or.mpr ⟨hleft, hlost⟩)]
    refine ⟨fun hfew => ?_, fun hthree => ?_⟩
    · have hn : min 4 (missed + 1) = missed + 1 := Nat.min_eq_right (Nat.le_succ_of_le hfew)
      exact congrArg _ ((if_neg (by omega)).trans (congrArg s.missCounted hn))
    · have hn : min 4 (missed + 1) = 4 := by rw [hthree]; rfl
      exact congrArg _ ((if_pos hn).trans (congrArg (fun n => (s.missCounted n).declareTakeover) hn))
  · exact ⟨execPeerBeat_good hears (not_or.mpr ⟨hleft, hlost⟩) hstays, State.beatSkew_noEcho⟩
  · intro p fn r hears hm hst hnone
    have hjudged : exec (.peerMirror cs) s = _ := execPeerMirror_first hears hm hst hnone
    exact ⟨fun hgood => hjudged.trans (congrArg _ (if_pos hgood)), fun hbad => hjudged.trans (congrArg _ (if_neg hbad))⟩
  · intro key fn hears h5 h6
    have hdone : exec (.peerDone cs) s = _ := execPeerDone_reported hears h5 h6
    refine ⟨fun hnew => hdone.trans (congrArg _ (if_neg ?_)), fun hhas hold => hdone.trans (congrArg _ (if_pos ⟨hhas, hold⟩))⟩
    rintro ⟨hhas, hold⟩
    exact hnew.elim (fun hno => ne_true_of_eq_false hno hhas) (Int.not_lt.mpr hold)

end Sys2Proof.Machine
end

section
/-!
PROOF. The SLICE, STREAM, LAT, STAT and PAIR commands: what each does once its channel's entry is taken and its checks let it pass
(spec/09_geometry_lattice.md R273, spec/10_outputs.md R279, spec/11_stats_params.md R314, spec/12_slice_engines.md R359,
spec/15_mailbox.md R449, R450, R453, spec/18_rotation_bist.md R515).
-/
namespace Sys2Proof.Machine

/-- Fields of one width laid out one after the other. -/
theorem layout_map (n : Nat) (l : List Nat) : layout (l.map fun v => (n, v)) = l.flatMap (leBytes n) := by
  induction l with
  | nil => rfl
  | cons v r ih => rw [List.map_cons, layout, ih, List.flatMap_cons]

section
variable {s : State} {ch : Chan} {r : Req}

/-- A command answered from its result buffer: the address and the length of what lies there, then the rest of the result (R439). -/
theorem State.toBuffer_done (b more : List Byte) :
    (s.toBuffer r.ch b).1.done r ((s.toBuffer r.ch b).2 ++ more) =
      (s.poke (resultBuf r.ch) b).done r (leBytes 8 (resultBuf r.ch) ++ leBytes 4 b.length ++ more) := by
  simp only [State.toBuffer, layout, List.append_nil]

theorem State.onSlice_eq (h : r.arg 0 2 < 208) (k : State → Nat → State) : s.onSlice r k = k s (r.arg 0 2) :=
  if_neg (Nat.not_lt.mpr (Nat.le_of_lt_succ h))

/-! ## SLICE (R359, R449, R450, R515) -/

theorem execSliceStatus_takes (ht : s.takes ch 0x0400 = some r) (ha : r.arg 0 2 < 208) :
    let a := r.arg 0 2
    execSliceStatus ch s = .next (s.done r ((leBytes 1 (s.sstate a) ++ leBytes 1 0 ++ leBytes 2 ((s.portOf a).getD 0xFFFF))
      ++ s.words4 [SL.ENGSTAT a, SL.ENGPROG a, SL.ENGCNT0 a, SL.TAPSTAT a])) := by
  rw [execSliceStatus, State.onCommand_eq ht, State.onSlice_eq ha]
  simp only [layout, List.append_nil, List.append_assoc]

/-- What the queue of a camera answers to the entry that SLICE_PQPUT carries, and the state then (R450). -/
def State.pqAsked (s : State) (r : Req) : Nat × State :=
  let a := r.arg 0 2
  s.pqPut a (s.pstate a == psStreaming && !(s.mode == .paired && s.standby a)) (pqDecode (bytesAt r.body 4 16))

theorem execSlicePqput_queued (ht : s.takes ch 0x0401 = some r) (ha : r.arg 0 2 < 192) (hq : (s.pqAsked r).1 = 0) :
    execSlicePqput ch s = .next ((s.pqAsked r).2.done r (leBytes 4 (s.fnOpen (r.arg 0 2)) ++ leBytes 8 s.now)) := by
  rw [State.pqAsked] at hq ⊢
  rw [execSlicePqput, State.onCommand_eq ht, if_neg (Nat.not_lt.mpr (Nat.le_of_lt_succ ha))]
  simp only [hq, layout, List.append_nil]

/-- The code of a refusal by the queue is the last byte of the status. -/
theorem execSlicePqput_refused (ht : s.takes ch 0x0401 = some r) (ha : r.arg 0 2 < 192) (hlo : 1 ≤ (s.pqAsked r).1)
    (hhi : (s.pqAsked r).1 ≤ 5) : execSlicePqput ch s = .next ((s.pqAsked r).2.refuse r (0x0400 + (s.pqAsked r).1) 0) := by
  rw [execSlicePqput, State.onCommand_eq ht, if_neg (Nat.not_lt.mpr (Nat.le_of_lt_succ ha))]
  unfold State.pqAsked at hlo hhi ⊢
  dsimp only at hlo hhi ⊢
  generalize State.pqPut _ _ _ _ = t at hlo hhi ⊢
  obtain ⟨n, u⟩ := t
  dsimp only at hlo hhi
  have hcode : n = 1 ∨ n = 2 ∨ n = 3 ∨ n = 4 ∨ n = 5 := by omega
  rcases hcode with rfl | rfl | rfl | rfl | rfl
  all_goals rfl

theorem execSliceTrace_takes (ht : s.takes ch 0x0402 = some r) (ha : r.arg 0 2 < 208) :
    let b := s.bytes (traceBase (r.arg 0 2)) 65536
    execSliceTrace ch s =
      .next ((s.poke (resultBuf r.ch) b).done r (leBytes 8 (resultBuf r.ch) ++ leBytes 4 b.length ++ [])) := by
  intro b
  rw [execSliceTrace, State.onCommand_eq ht, State.onSlice_eq ha, ← State.toBuffer_done, List.append_nil]

theorem execSliceRestart_served {sl : Nat} (ht : s.takes ch 0x0403 = some r) (ha : r.arg 0 2 < 192)
    (hen : CfgSet.portEnabled (s.setFor (r.arg 0 2)) (r.arg 0 2) = true) (hsl : s.sliceOf (r.arg 0 2) = some sl) :
    execSliceRestart ch s = .next ((s.setEng sl { s.eng sl with restart := true }).done r []) := by
  rw [execSliceRestart, State.onCommand_eq ht, State.onPort_enabled ha hen]
  simp only [hsl]

theorem execSliceProving_takes (ht : s.takes ch 0x0404 = some r) (hplo : 10 ≤ r.arg 0 4) (hphi : r.arg 0 4 ≤ 86400)
    (hwlo : 1 ≤ r.arg 4 1) (hwhi : r.arg 4 1 ≤ 4) (hpause : r.arg 5 1 ≤ 1) : execSliceProving ch s =
      .next ((((s.setFld XBAR.ROTPER_PERIOD (r.arg 0 4)).setFlds
        [(XBAR.ROTCTL_MAXWIN, r.arg 4 1), (XBAR.ROTCTL_PAUSE, r.arg 5 1)]).pausedCheck).done r []) := by
  have hperiod : ¬(r.arg 0 4 ≠ 0 ∧ (r.arg 0 4 < 10 ∨ 86400 < r.arg 0 4)) := by omega
  have hwindows : ¬(r.arg 4 1 < 1 ∨ 4 < r.arg 4 1) := by omega
  have hset : ¬r.arg 0 4 = 0 := by omega
  rw [execSliceProving, State.onCommand_eq ht]
  dsimp only
  rw [if_neg hperiod, if_neg hwindows, if_neg (Nat.not_lt.mpr hpause), if_neg hset]

/-! ## STREAM (R279, R305, R449) -/

/-- STREAM_STATUS of an image stream that the set in force opens: its format, its state and its counters (log entry 82). -/
theorem execStreamStatus_image (ht : s.takes ch 0x0500 = some r) :
    let a := r.arg 0 2
    let c := s.setFor (a / 8)
    let x := s.stream a
    let f := CfgSet.formatOf c a
    let pol := CfgSet.fld c 3 a (SL.OCTL_POLICY 0 (a % 8))
    a < 1536 → a % 8 < 4 → CfgSet.portEnabled c (a / 8) = true → CfgSet.streamOn c (a / 8) (a % 8) = true →
      execStreamStatus ch s = .next (s.done r (leBytes 1 (f.getD 0 0) ++ leBytes 1 pol ++ leBytes 1 (b2n (pol == 1)) ++ leBytes 1 (b2n x.opened)
        ++ leBytes 4 (if x.fseq = 0 then 0 else x.fseq - 1) ++ leBytes 4 x.lastFn ++ (s.streamCounts a).flatMap (leBytes 2)
        ++ leBytes 2 (f.getD 1 0) ++ leBytes 2 (f.getD 2 0))) := by
  intro a c x f pol ha hk hen hstream
  have hlat : isLatSid a = false := by simp only [isLatSid, Bool.and_eq_false_iff, decide_eq_false_iff_not]; omega
  have hsid : ¬4095 < a := by omega
  have himage : ¬4 ≤ a % 8 := Nat.not_le.mpr hk
  rw [execStreamStatus, State.onCommand_eq ht]
  simp only [a, c] at hlat hsid himage ha hk hen hstream
  simp only [a, c, x, f, pol, hlat, hsid, himage, ha, hk, hen, hstream, decide_true, decide_false, Bool.not_true, Bool.not_false,
    Bool.and_self, Bool.and_false, Bool.false_and, Bool.false_eq_true, if_false, if_true, layout_map]
  simp only [layout, List.append_nil, List.append_assoc]

theorem execStreamList_takes (ht : s.takes ch 0x0501 = some r) :
    let b := (List.range 256).map fun j =>
      BitVec.ofNat 8 ((List.range 8).foldl (fun a i => a + if (s.stream (8 * j + i)).opened then 2 ^ i else 0) 0)
    execStreamList ch s =
      .next ((s.poke (resultBuf r.ch) b).done r (leBytes 8 (resultBuf r.ch) ++ leBytes 4 b.length ++ [])) := by
  intro b
  rw [execStreamList, State.onCommand_eq ht, ← State.toBuffer_done, List.append_nil]

/-! ## LAT (R273) -/

theorem execLatStatus_undefined (ht : s.takes ch 0x0600 = some r) (hn : r.arg 0 1 < 8)
    (hdef : CfgSet.latDefined s.cfg.active (r.arg 0 1) = false) : execLatStatus ch s = .next (s.refuse r 0x000C 0) := by
  rw [execLatStatus, State.onCommand_eq ht, if_neg (Nat.not_lt.mpr (Nat.le_of_lt_succ hn)), hdef]
  rfl

theorem execLatStatus_defined (ht : s.takes ch 0x0600 = some r) :
    let n := r.arg 0 1
    let record := s.words4 ((List.range 16).map (LT.LREC n))
    n < 8 → CfgSet.latDefined s.cfg.active n = true → execLatStatus ch s =
      .next (s.done r (s.word4 (LT.LLFN n) ++ bytesAt record 4 4 ++ bytesAt record 0x24 4 ++ bytesAt record 0x28 4 ++ bytesAt record 0x2C 4
        ++ bytesAt record 0x30 4 ++ bytesAt record 0x34 4 ++ (leBytes 2 (s.fld (LT.LCNT_INCOMPLETE n)) ++ leBytes 2 (s.fld (LT.LCNT_SKIPPED n))
        ++ leBytes 1 (1 + 2 * b2n (s.latOwner s.cfg.active n) + 4 * b2n (bit (s.fld LAT.LATSTAT_BUSY) n))))) := by
  intro n record hn hdef
  rw [execLatStatus, State.onCommand_eq ht]
  dsimp only
  rw [if_neg (Nat.not_lt.mpr (Nat.le_of_lt_succ hn)), hdef, if_neg (by decide)]
  simp only [layout, List.append_nil, List.append_assoc, n, record]

/-! ## STAT (R314, R316) -/

theorem execStatRead_served {sl : Nat} (ht : s.takes ch 0x0700 = some r) (ha : r.arg 0 2 < 192)
    (hen : CfgSet.portEnabled (s.setFor (r.arg 0 2)) (r.arg 0 2) = true) (hsl : s.sliceOf (r.arg 0 2) = some sl) :
    let b := s.statRead sl (0x3C00 * s.fld (SL.STSTAT_BANK sl)) 14912
    allZero b.1 0 64 = false → execStatRead ch s =
      .next ((b.2.poke (resultBuf r.ch) b.1).done r (leBytes 8 (resultBuf r.ch) ++ leBytes 4 b.1.length ++ bytesAt b.1 4 4)) := by
  intro b hset
  rw [execStatRead, State.onCommand_eq ht, State.onPort_enabled ha hen]
  simp only [hsl]
  exact congrArg _ ((if_neg (ne_true_of_eq_false hset)).trans (State.toBuffer_done ..))

theorem execStatLoad_takes (ht : s.takes ch 0x0701 = some r) : execStatLoad ch s =
    .next (s.done r ((leBytes 4 (ceilQ (s.pixelLoad s.cfg.active)) ++ leBytes 4 (s.pixelBudget s.cfg.active) ++ leBytes 4 s.bwRes
      ++ leBytes 1 s.freeSpares.length ++ leBytes 1 (s.fld CLK.THRSTAT_STEP) ++ leBytes 2 0) ++ s.words4 [UPL.UPLOAD, UPL.UPCAP])) := by
  rw [execStatLoad, State.onCommand_eq ht]
  simp only [layout, List.append_nil, List.append_assoc]

/-! ## PAIR (R453) -/

theorem execPairStatus_takes (ht : s.takes ch 0x0900 = some r) : execPairStatus ch s =
    .next (s.done r ((leBytes 1 s.prState ++ leBytes 1 0 ++ leBytes 2 (s.fld PEER.PLEVEL_PMAX) ++ leBytes 2 (s.fld PEER.PPEER_PMAX)
      ++ leBytes 2 s.prLevel) ++ portMap s.prima)) := by
  rw [execPairStatus, State.onCommand_eq ht]
  simp only [layout, List.append_nil, List.append_assoc]

theorem execPairRoles_notPaired (ht : s.takes ch 0x0901 = some r) (hst : s.prState ≠ prPaired) :
    execPairRoles ch s = .next (s.refuse r 0x0901 0) := by
  rw [execPairRoles, State.onCommand_eq ht]
  exact congrArg _ (if_pos hst)

/-- The paired cameras whose primary PAIR_ROLES changes. -/
def State.rolesMoved (s : State) (r : Req) : List Nat :=
  (List.range 192).filter fun p => bit (r.arg 0 24) p && s.pairedCam p && s.prima p != bit (r.arg 24 24) p

/-- The pair asked for new roles by a command. -/
def State.rolesAsked (s : State) (r : Req) : State :=
  (s.interim r []).setPair { s.pair with purpose := 1, roles := some (r.ch, r.tag, false) }

/-- Cameras served here are handed over, those with a slice by a handover (log entry 83). -/
theorem execPairRoles_given (ht : s.takes ch 0x0901 = some r) (hst : s.prState = prPaired) (hfree : s.pair.purpose = 0)
    (hhere : ∀ p ∈ s.rolesMoved r, s.primaryHere p = true) :
    let u := s.rolesAsked r
    execPairRoles ch s =
      .next ((((s.rolesMoved r).filter fun p => (u.sliceOf p).isSome).foldl (fun (s : State) p => s.giveCamera p) u).handoversDone) := by
  have hasked : ¬((s.rolesMoved r).any fun p => !s.primaryHere p) = true := by
    rw [List.any_eq_true]
    rintro ⟨p, hp, hpartner⟩
    rw [hhere p hp] at hpartner
    exact Bool.false_ne_true hpartner
  rw [execPairRoles, State.onCommand_eq ht]
  exact congrArg _ ((if_neg (not_not_intro hst)).trans ((if_neg (not_not_intro hfree)).trans (if_neg hasked)))

end

/-! ## The statement -/

/-- Settles O48: each command by the lemma of what it does once its checks pass. -/
theorem sliceStreamPairCommands : Obligations.SliceStreamPairCommands := by
  unfold Obligations.SliceStreamPairCommands
  intro s ch r is a buffer
  exact ⟨execSliceStatus_takes, fun ht ha => ⟨execSlicePqput_queued ht ha, execSlicePqput_refused ht ha⟩, execSliceTrace_takes,
    fun sl => execSliceRestart_served, execSliceProving_takes, execStreamStatus_image, execStreamList_takes, execLatStatus_undefined,
    execLatStatus_defined, fun sl => execStatRead_served, execStatLoad_takes, execPairStatus_takes,
    fun ht hst hfree hhere => execPairRoles_given ht hst hfree hhere, execPairRoles_notPaired⟩

end Sys2Proof.Machine
end

section
/-!
PROOF. Lines of outputs, repeated STATUS items, statistics, the parameter queue, lattice frames and ring starts: what each command does where
it has something to do (spec/07_noise.md R202, spec/09_geometry_lattice.md R248, R267, R269, R270, R275, spec/10_outputs.md R297, R299,
R300, spec/11_stats_params.md R316, R320, R324, R325, R328, spec/17_pairing.md R497).
-/
namespace Sys2Proof.Machine

section
variable {s : State} {p : Nat} {f : Frame}

/-! ## Outputs (R248, R297, R299) -/

theorem execOutputLineReady_next {sl : Slice} {k : Fin 5} (hon : s.domainOn .pixel = true) (hnext : s.nextLine sl.val k.val = some (p, f)) :
    let u := s.latchAll p f.fn
    let g := (u.frameOf p f.fn).getD f
    execOutputLineReady sl k s = .next ((if k.val = 4 then u.warpLineOut p g else u.imageLine p sl.val k.val g).sweep p) := by
  simp only [execOutputLineReady, hon, hnext, Bool.not_true, Bool.false_eq_true, if_false]

theorem execStreamStatusRepeat_shown {sid : BitVec 12} {r : Nat} (hon : s.domainOn .uplink = true) :
    let n := sid.toNat
    (s.stream n).opened = true → isImageSid n = true → s.unended (n / 8) (n % 8) = [] → (s.stream n).due = [] → (s.stream n).shown = some r →
      execStreamStatusRepeat sid s = .next (s.statusNow (n / 8) n r) := by
  intro n hopen himage hnone hdue hshown
  simp only [n] at hopen himage hnone hdue hshown ⊢
  simp only [execStreamStatusRepeat, hon, hopen, himage, hnone, hdue, hshown, bne_self_eq_false, Bool.not_true, Bool.or_self, Bool.false_eq_true,
    if_false]

/-! ## Statistics and the parameter queue (R202, R316, R320, R324, R325, R328) -/

variable {port : Port} {fn : Word}

theorem execStatsSetComplete_closed {sl : Nat} (hon : s.domainOn .pixel = true) (hf : s.frameOf port.val fn.toNat = some f)
    (hsl : f.slice = some sl) (hclosed : f.closed = true) (hopen : f.statsDone = false) (hserved : f.skipWhy = 0) :
    execStatsSetComplete port fn s = .next (s.statsComplete port.val f sl) := by
  simp only [execStatsSetComplete, hf, hsl, hon, hclosed, hopen, hserved, bne_self_eq_false, Bool.not_true, Bool.or_self, Bool.false_eq_true,
    if_false]

theorem execMotionDeadline_on (hon : s.domainOn .pixel = true) :
    execMotionDeadline port fn s = .next (s.latchField port.val 1 fn.toNat) :=
  congrArg _ (if_pos hon)

/-- A PIPE field latches for the oldest frame of the port that has not latched it. -/
theorem execPqPipeLatch_oldest {id : BitVec 16} (hon : s.domainOn .pixel = true) (hid : id.toNat ∈ pipeFields)
    (hf : ((s.camOf port.val).frames.reverse ++ (s.openFrame port.val).toList).find?
      (fun f => !f.ring && !f.latched.contains id.toNat) = some f) :
    execPqPipeLatch port id s = .next (s.latchField port.val id.toNat f.fn) := by
  simp only [execPqPipeLatch, hon, List.contains_iff_mem.mpr hid, hf, Bool.not_true, Bool.or_self, Bool.false_eq_true, if_false]

theorem execPqSensorDispatch_one {e : PqEntry} (hon : s.domainOn .pixel = true) (hst : s.standby port.val = false)
    (he : (s.camOf port.val).queue.filter (s.maySend port.val) = [e]) : execPqSensorDispatch port s =
      .next (s.bcQueue port.val (cmdWrite 3 e.addr (leBytes e.len e.data) (.queue e.seq))) := by
  simp only [execPqSensorDispatch, hon, hst, he, List.foldl_cons, List.foldl_nil, Bool.not_true, Bool.or_self, Bool.false_eq_true, if_false]

theorem execPqDeadlinePass_on (hon : s.domainOn .pixel = true) :
    execPqDeadlinePass port s = .next (s.pqDeadlines port.val (s.camOf port.val).queue) :=
  congrArg _ (if_pos hon)

theorem execRingReadFrame_ready {run : RingRun} (hon : s.domainOn .pixel = true) (hhas : s.pair.runs.has port.val = true)
    (hget : ∀ d, s.pair.runs.get port.val d = run) (hready : run.ready = true) :
    execRingReadFrame port s = .next (s.ringRead port.val) := by
  simp only [execRingReadFrame, hon, hhas, hget, hready, Bool.and_self, if_true]

end

/-! ## Lattice frames (R267, R269, R270, R275, R300) -/

section
variable {s : State} {lat : Lattice} {f : LatFrame} {r : List LatFrame}

/-- The front frame of another lattice may start before a deadline: this device assembles it, and it is ready. -/
def State.latRival (s : State) (dead : Nat) (e : Nat × LatSt) : Bool :=
  match e.2.frames with
  | g :: _ => s.latOwner g.set e.1 && s.latReady e.1 g && decide (g.dead < dead)
  | [] => false

/-- A lattice frame may start (R269, R275): the LAT is idle, no ready frame of another lattice has an earlier deadline, and its canvas has
been read. -/
structure State.LatDue (s : State) (n : Nat) (f : LatFrame) : Prop where
  on : s.domainOn .pixel = true
  idle : ∀ e ∈ s.lats, e.2.busy = none
  first : ∀ e ∈ s.lats, e.1 ≠ n → s.latRival f.dead e = false
  read : ∀ u ∈ s.fifo (latSid n), u.fn ≠ (f.lfn + 2 ^ 32 - 2) % 2 ^ 32
  owned : s.latOwner f.set n = true
  ready : s.latReady n f = true
  inTime : s.now < f.limit

theorem execLatticeAssemblyStart_due (hfront : (s.lat lat.val).frames = f :: r) (hdue : s.LatDue lat.val f) :
    execLatticeAssemblyStart lat s = .next (s.latStart lat.val f) := by
  have hidle : (s.lats.all fun (e : Nat × LatSt) => e.2.busy.isNone) = true := by
    rw [List.all_eq_true]
    exact fun e he => Option.isNone_iff_eq_none.mpr (hdue.idle e he)
  have hrival : (s.lats.any fun (e : Nat × LatSt) => e.1 != lat.val && s.latRival f.dead e) = false := by
    rw [List.any_eq_false]
    intro e he hboth
    obtain ⟨hother, hearlier⟩ := Bool.and_eq_true_iff.mp hboth
    exact ne_true_of_eq_false (hdue.first e he (bne_iff_ne.mp hother)) hearlier
  have hread : ((s.fifo (latSid lat.val)).any fun u => u.fn == (f.lfn + 2 ^ 32 - 2) % 2 ^ 32) = false := by
    rw [List.any_eq_false]
    exact fun u hu hsame => hdue.read u hu (beq_iff_eq.mp hsame)
  have hgate : (s.domainOn .pixel && (s.lats.all fun (e : Nat × LatSt) => e.2.busy.isNone)
      && !(s.lats.any fun (e : Nat × LatSt) => e.1 != lat.val && s.latRival f.dead e)
      && !((s.fifo (latSid lat.val)).any fun u => u.fn == (f.lfn + 2 ^ 32 - 2) % 2 ^ 32)
      && s.latOwner f.set lat.val && s.latReady lat.val f && decide (s.now < f.limit)) = true := by
    simp only [hdue.on, hidle, hrival, hread, hdue.owned, hdue.ready, hdue.inTime, decide_true, Bool.not_false, Bool.and_self]
  simp only [execLatticeAssemblyStart, hfront]
  exact congrArg _ (if_pos hgate)

theorem execLatticeAssemblyEnd_busy {b : LatBusy} (hon : s.domainOn .pixel = true) (hb : (s.lat lat.val).busy = some b) :
    execLatticeAssemblyEnd lat s = .next (s.latEnd lat.val b) := by
  simp only [execLatticeAssemblyEnd, hb, hon, if_true]

/-- The record of a lattice frame that is skipped. -/
def State.latSkipRecord (s : State) (n : Nat) (f : LatFrame) : List Byte :=
  latRecord f (16 + 8 * b2n f.tkover + 32 * b2n (s.latSplit f.set n)) f.tref f.tref (slotMask ((CfgSet.latSlots f.set n).map (·.1))) 0 0 0 0 0

/-- A lattice frame skipped (R270): its record shown and sent in a NOTICE under the stream's next FSEQ, counted and reported. -/
def State.latSkipped (s : State) (n : Nat) (f : LatFrame) : State :=
  let record := s.latSkipRecord n f
  let u := (s.latAnnounce n f).showLrec n f.lfn record
  let y := u.stream (latSid n)
  let v := u.setStream (latSid n) { y with fseq := (y.fseq + 1) % 2 ^ 32 }
  ((v.latNotice n f y.fseq 0 (v.latFlags n f.tkover) f.tref f.tref record).bump (LT.LCNT_SKIPPED n) 1).report 0x4003 n f.lfn

/-- A frame past its limit is skipped, and without a partner no LATMIR tells of it. -/
theorem execLatticeSkip_past (hon : s.domainOn .pixel = true) (hfront : (s.lat lat.val).frames = f :: r)
    (hown : s.latOwner f.set lat.val = true) (hpast : f.limit ≤ s.now) (halone : (s.latSkipped lat.val f).mirrors = false) :
    let w := s.latSkipped lat.val f
    execLatticeSkip lat s = .next ((w.setLat lat.val { w.lat lat.val with frames := r }).latSettle lat.val) := by
  have hlate : ¬(!s.domainOn .pixel || !s.latOwner f.set lat.val || decide (s.now < f.limit)) = true := by
    simp only [hon, hown, Nat.not_lt.mpr hpast, decide_false, Bool.not_true, Bool.or_self, Bool.false_eq_true, not_false_eq_true]
  have hquiet : ∀ a : State, (if (s.latSkipped lat.val f).mirrors = true then a else s.latSkipped lat.val f) = s.latSkipped lat.val f :=
    fun a => if_neg (ne_true_of_eq_false halone)
  intro w
  simp only [execLatticeSkip, hfront]
  refine congrArg _ ((if_neg hlate).trans ?_)
  exact congrArg (fun x : State => (x.setLat lat.val { x.lat lat.val with frames := r }).latSettle lat.val) (hquiet _)

end

/-! ## The statement -/

/-- Settles O18: each command by the lemma of the case in which it has something to do, a start of a lattice frame by what it needs. -/
theorem outputResults : Obligations.OutputResults := by
  unfold Obligations.OutputResults
  refine ⟨fun s sl k p f hon hnext => ?_, fun s sid r hon => execStreamStatusRepeat_shown hon, fun s port fn hon => ?_,
    fun s lat hon => ?_, fun s port run hon => execRingReadFrame_ready hon⟩
  · have hline : exec (.outputLineReady sl k) s = _ := execOutputLineReady_next hon hnext
    exact ⟨fun hwarp => hline.trans (by rw [if_pos hwarp]), fun himage => hline.trans (by rw [if_neg himage])⟩
  · exact ⟨fun f sl => execStatsSetComplete_closed hon, execMotionDeadline_on hon, fun id f => execPqPipeLatch_oldest hon,
      fun e => execPqSensorDispatch_one hon, execPqDeadlinePass_on hon⟩
  · intro n x
    refine ⟨fun f r hfront hidle hfirst hread hown hready htime => ?_, fun b => execLatticeAssemblyEnd_busy hon,
      fun f r hfront hown hpast _ => execLatticeSkip_past hon hfront hown hpast⟩
    refine execLatticeAssemblyStart_due hfront ⟨hon, hidle, fun e he hother => ?_, hread, hown, hready, htime⟩
    cases hfr : e.2.frames with
    | nil => simp only [State.latRival, hfr]
    | cons g q =>
      simp only [State.latRival, hfr, Bool.and_eq_false_iff, decide_eq_false_iff_not, or_assoc]
      by_cases hg : s.latOwner g.set e.1 = true ∧ s.latReady e.1 g = true
      · exact .inr (.inr (Nat.not_lt.mpr (hfirst e he hother g q hfr hg.1 hg.2)))
      · rcases Classical.not_and_iff_not_or_not.mp hg with hno | hno
        · exact .inl (eq_false_of_ne_true hno)
        · exact .inr (.inl (eq_false_of_ne_true hno))

end Sys2Proof.Machine
end

section
/-!
PROOF. Scalar instructions of the slice engine: what the registers and the immediates give as numbers, and what such an instruction leaves
alone (spec/12_slice_engines.md R336, R340 to R343).
-/
namespace Sys2Proof.Machine

/-! ## Issue of one instruction (R341, R344, R358) -/

/-- The engine of a slice and its program counter are in one state as in another. -/
structure State.SameEngine (sl : Nat) (s u : State) : Prop where
  eng : u.eng sl = s.eng sl
  pc : u.engPc sl = s.engPc sl

section
variable {s u : State} {sl : Slice} {c : Nat} {body : State → Eng → State × Flow} {e : Eng}

theorem State.engIssue_flow {f : Flow} (h : s.fetches sl) (hb : body s (s.eng sl) = (u, f)) : s.engIssue sl c body = u.engFlow sl c f := by
  rw [State.engIssue_eq h, hb]

/-- The body ends in a trap: the engine stops with its cause. -/
theorem State.engIssue_trap {cause : Nat} (h : s.fetches sl) (hb : body s (s.eng sl) = (u, .trap cause)) :
    s.engIssue sl c body = u.engTrap sl cause :=
  State.engIssue_flow h hb

/-- The body has moved the program counter itself, or waits. -/
theorem State.engIssue_stop (h : s.fetches sl) (hb : body s (s.eng sl) = (u, .stop)) : s.engIssue sl c body = u :=
  State.engIssue_flow h hb

theorem State.engIssue_again (h : s.fetches sl) (hb : body s (s.eng sl) = (u, .again)) : s.engIssue sl c body = u :=
  State.engIssue_flow h hb

/-- The body changes the engine last and leaves its program counter and its loop to the flow. -/
theorem State.engIssue_setEng (h : s.issues sl) (hb : body s (s.eng sl) = (u.setEng sl e, .seq)) (hpc : u.engPc sl = s.engPc sl)
    (hloop : e.loop = (s.eng sl).loop) : s.engIssue sl c body = u.wentOn sl c e := by
  rw [State.engIssue_flow h.1 hb, State.engFlow_wentOn (by rw [hpc, hloop]; exact h.2)]

/-- The body leaves the engine alone. -/
theorem State.engIssue_seq (h : s.issues sl) (hb : body s (s.eng sl) = (u, .seq)) (hu : State.SameEngine sl s u) :
    s.engIssue sl c body = u.wentOn sl c (s.eng sl) := by
  rw [State.engIssue_flow h.1 hb, State.engFlow_seq (by rw [hu.pc, hu.eng]; exact h.2), hu.eng]

theorem State.engScalar_next {sd : BitVec 5} {v : Eng → BitVec 32} {w : BitVec 32} (h : s.issues sl) (hv : v (s.eng sl) = w) :
    (.next (s.engScalar sl sd v) : Out) = .next (s.wentOn sl 1 ((s.eng sl).sset sd w)) := by
  rw [State.engScalar_eq h, hv]

theorem execEngIllegalInstruction_reserved {word : Word} (h : s.fetches sl) (hw : engLegal word = false) :
    execEngIllegalInstruction sl word s = .next (s.engTrap sl 1) := by
  simp only [execEngIllegalInstruction, hw, Bool.false_eq_true, if_false]
  exact congrArg _ (State.engIssue_trap h rfl)

end

/-! ## Words as numbers -/

theorem sub_eq_ofInt (a b : BitVec 32) : a - b = BitVec.ofInt 32 ((a.toNat : Int) - b.toNat) := by
  rw [Int.sub_eq_add_neg, BitVec.ofInt_add, BitVec.ofInt_neg, BitVec.ofInt_natCast, BitVec.ofInt_natCast, BitVec.ofNat_toNat,
    BitVec.ofNat_toNat, BitVec.setWidth_eq, BitVec.setWidth_eq, BitVec.sub_eq_add_neg]

theorem shiftLeft_eq_ofNat (a : BitVec 32) (n : Nat) : a <<< n = BitVec.ofNat 32 (a.toNat * 2 ^ n) := by
  apply BitVec.eq_of_toNat_eq
  rw [BitVec.toNat_shiftLeft, BitVec.toNat_ofNat, Nat.shiftLeft_eq]

theorem ushiftRight_eq_ofNat (a : BitVec 32) (n : Nat) : a >>> n = BitVec.ofNat 32 (a.toNat / 2 ^ n) := by
  rw [← Nat.shiftRight_eq_div_pow, ← BitVec.toNat_ushiftRight, BitVec.ofNat_toNat, BitVec.setWidth_eq]

theorem sshiftRight_eq_ofInt (a : BitVec 32) (n : Nat) : a.sshiftRight n = BitVec.ofInt 32 (a.toInt / (2 ^ n : Nat)) := by
  rw [← Int.shiftRight_eq_div_pow, ← BitVec.toInt_sshiftRight, BitVec.ofInt_toInt]

theorem ite_le_eq_ofInt_min (a b : BitVec 32) :
    (if a.toInt ≤ b.toInt then a else b) = BitVec.ofInt 32 (min a.toInt b.toInt) := by
  have hmin : min a.toInt b.toInt = if a.toInt ≤ b.toInt then a.toInt else b.toInt := Int.min_def ..
  rw [hmin, apply_ite (BitVec.ofInt 32), BitVec.ofInt_toInt, BitVec.ofInt_toInt]

theorem ite_le_eq_ofInt_max (a b : BitVec 32) :
    (if a.toInt ≤ b.toInt then b else a) = BitVec.ofInt 32 (max a.toInt b.toInt) := by
  have hmax : max a.toInt b.toInt = if a.toInt ≤ b.toInt then b.toInt else a.toInt := Int.max_def ..
  rw [hmax, apply_ite (BitVec.ofInt 32), BitVec.ofInt_toInt, BitVec.ofInt_toInt]

/-- The sign-extended immediate adds as the integer it reads as (R343). -/
theorem add_signExtend_eq_ofInt (a : BitVec 32) (imm : BitVec 14) : a + imm.signExtend 32 = BitVec.ofInt 32 (a.toInt + imm.toInt) := by
  rw [BitVec.ofInt_add, BitVec.ofInt_toInt, BitVec.signExtend]

theorem zeroExtend_eq_ofNat (imm : BitVec 14) : imm.zeroExtend 32 = BitVec.ofNat 32 imm.toNat := (BitVec.ofNat_toNat ..).symm

theorem bit_of_lt {w n : Nat} (h : w < 2 ^ (n + 1)) : bit w n = decide (2 ^ n ≤ w) := by
  rw [Nat.pow_succ] at h
  have hpos := Nat.two_pow_pos n
  rw [bit, Nat.shiftRight_eq_div_pow]
  by_cases hw : 2 ^ n ≤ w
  · have hone : w / 2 ^ n = 1 := Nat.div_eq_of_lt_le (by omega) (by omega)
    simp [hone, hw]
  · simp [Nat.div_eq_of_lt (Nat.not_le.mp hw), hw]

/-- The leading zeros of a number by its highest bit. -/
theorem leadingZeros_eq {w n : Nat} (h : w < 2 ^ n) : leadingZeros w n = if w = 0 then n else n - 1 - w.log2 := by
  induction n with
  | zero =>
    rw [show w = 0 from Nat.lt_one_iff.mp h]
    rfl
  | succ n ih =>
    rw [leadingZeros, bit_of_lt h]
    by_cases hw : 2 ^ n ≤ w
    · have hne : w ≠ 0 := Nat.ne_of_gt (Nat.lt_of_lt_of_le (Nat.two_pow_pos n) hw)
      have hlog : w.log2 = n := (Nat.log2_eq_iff hne).mpr ⟨hw, h⟩
      simp [hw, hne, hlog]
    · rw [ih (Nat.not_le.mp hw)]
      by_cases hz : w = 0
      · simp [hz, Nat.add_comm]
      · have hlog : w.log2 < n := (Nat.log2_lt hz).mpr (Nat.not_le.mp hw)
        simp only [hw, hz, decide_false, Bool.false_eq_true, if_false]
        omega

theorem leadingZeros_word (a : BitVec 32) :
    BitVec.ofNat 32 (leadingZeros a.toNat 32) = if a = 0 then 32 else BitVec.ofNat 32 (31 - a.toNat.log2) := by
  have hz : a.toNat = 0 ↔ a = 0 := BitVec.toNat_inj (y := 0)
  rw [leadingZeros_eq a.isLt, apply_ite (BitVec.ofNat 32)]
  simp only [hz]
  rfl

/-! ## Reserved words of the scalar classes (R340, R342, R343) -/

theorem engLegal_scalar_reserved {w : Word} (hc : getBits w 31 28 = 0)
    (hw : 0x10 ≤ getBits w 27 22 ∨ getBits w 6 0 ≠ 0 ∨ getBits w 27 22 = 0x0F ∧ getBits w 11 7 ≠ 0) : engLegal w = false := by
  simp only [engLegal, hc, Bool.and_eq_false_iff, decide_eq_false_iff_not, beq_eq_false_iff_ne, Bool.or_eq_false_iff,
    bne_eq_false_iff_eq]
  rcases hw with h | h | h
  · exact .inl (.inl (by omega))
  · exact .inl (.inr h)
  · exact .inr h

theorem engLegal_immediate_reserved {w : Word} (hc : getBits w 31 28 = 1)
    (hw : 9 ≤ getBits w 27 24 ∨ 4 ≤ getBits w 27 24 ∧ getBits w 27 24 ≤ 6 ∧ getBits w 13 5 ≠ 0) : engLegal w = false := by
  simp only [engLegal, hc, Bool.and_eq_false_iff, decide_eq_false_iff_not, beq_eq_false_iff_ne, Bool.or_eq_false_iff,
    Bool.not_eq_false', Bool.and_eq_true, decide_eq_true_eq]
  rcases hw with h | ⟨h4, h6, h⟩
  · exact .inl (by omega)
  · exact .inr ⟨⟨h4, h6⟩, h⟩

/-! ## What a scalar instruction leaves alone (R336) -/

@[simp] theorem Eng.vget_sset (e : Eng) (r : BitVec 5) (v : BitVec 32) (q : BitVec 3) : (e.sset r v).vget q = e.vget q := by
  unfold Eng.sset; split <;> rfl

theorem State.sget_wentOn (s : State) (sl : Slice) (cycles : Nat) (e : Eng) (r : BitVec 5) :
    ((s.wentOn sl cycles e).eng sl).sget r = e.sget r := by
  rw [State.wentOn, State.eng_setFld, State.eng_setEng]
  rfl

theorem State.vget_wentOn (s : State) (sl : Slice) (cycles : Nat) (e : Eng) (r : BitVec 3) :
    ((s.wentOn sl cycles e).eng sl).vget r = e.vget r := by
  rw [State.wentOn, State.eng_setFld, State.eng_setEng]
  rfl

theorem State.eng_wentOn_other (s : State) (sl : Slice) (cycles : Nat) (e : Eng) {k : Nat} (h : k ≠ sl.val) :
    (s.wentOn sl cycles e).eng k = s.eng k := by
  rw [State.wentOn, State.eng_setFld, State.eng_setEng_other _ _ _ _ h]

theorem State.reg_wentOn_other (s : State) (sl : Slice) (cycles : Nat) (e : Eng) {a : Nat} (h : a ≠ (SL.ENGPC_PC sl).addr) :
    (s.wentOn sl cycles e).reg a = s.reg a := by
  rw [State.wentOn, State.reg_setFld_other _ _ _ _ h, State.setEng_reg]

theorem Eng.sget_zero (e : Eng) : e.sget 0 = 0 := if_pos rfl

theorem Eng.sget_sset_other (e : Eng) {r q : BitVec 5} (v : BitVec 32) (h : q ≠ r) : (e.sset r v).sget q = e.sget q := by
  rw [Eng.sget_sset, if_neg h]
  split
  · next hq => rw [hq, Eng.sget_zero]
  · rfl

/-- Each scalar instruction that writes a register writes one value into it and goes on. -/
theorem exec_scalar_writes {s : State} {sl : Slice} (h : s.issues sl) (sd sa sb : BitVec 5) (imm : BitVec 14) :
    ∀ i ∈ [Instr.engAdd sl sd sa sb, .engSub sl sd sa sb, .engAnd sl sd sa sb, .engOr sl sd sa sb, .engXor sl sd sa sb, .engSll sl sd sa sb,
      .engSrl sl sd sa sb, .engSra sl sd sa sb, .engMul sl sd sa sb, .engMulh sl sd sa sb, .engMulhu sl sd sa sb, .engSlt sl sd sa sb,
      .engSltu sl sd sa sb, .engMin sl sd sa sb, .engMax sl sd sa sb, .engClz sl sd sa, .engAddi sl sd sa imm, .engAndi sl sd sa imm,
      .engOri sl sd sa imm, .engXori sl sd sa imm, .engSlti sl sd sa imm],
    ∃ v, exec i s = .next (s.wentOn sl 1 ((s.eng sl).sset sd v)) := by
  simp only [List.forall_mem_cons, List.not_mem_nil, false_implies, implies_true, and_true]
  and_intros
  all_goals exact ⟨_, State.engScalar_next h rfl⟩

/-! ## The statements -/

/-- Settles O21: each operation as the number its bits stand for. -/
theorem engineScalarResults : Obligations.EngineScalarResults := by
  unfold Obligations.EngineScalarResults
  intro s sl sd sa sb h e a b n write
  refine ⟨State.engScalar_next h (BitVec.add_def ..), State.engScalar_next h (sub_eq_ofInt ..), State.engScalar_next h rfl,
    State.engScalar_next h rfl, State.engScalar_next h rfl, State.engScalar_next h (shiftLeft_eq_ofNat ..),
    State.engScalar_next h (ushiftRight_eq_ofNat ..), State.engScalar_next h (sshiftRight_eq_ofInt ..),
    State.engScalar_next h (BitVec.mul_def ..), State.engScalar_next h rfl, State.engScalar_next h rfl, State.engScalar_next h rfl,
    State.engScalar_next h rfl, State.engScalar_next h (ite_le_eq_ofInt_min ..), State.engScalar_next h (ite_le_eq_ofInt_max ..),
    State.engScalar_next h (leadingZeros_word _), fun word hc hw => ?_⟩
  exact execEngIllegalInstruction_reserved h.1 (engLegal_scalar_reserved hc hw)

/-- Settles O22: each operation as the number its bits stand for. -/
theorem engineImmediateResults : Obligations.EngineImmediateResults := by
  unfold Obligations.EngineImmediateResults
  intro s sl sd sa sh imm high h e a write
  have himm := zeroExtend_eq_ofNat imm
  refine ⟨State.engScalar_next h (add_signExtend_eq_ofInt ..), State.engScalar_next h (congrArg (a &&& ·) himm),
    State.engScalar_next h (congrArg (a ||| ·) himm), State.engScalar_next h (congrArg (a ^^^ ·) himm),
    State.engScalar_next h (shiftLeft_eq_ofNat ..), State.engScalar_next h (ushiftRight_eq_ofNat ..),
    State.engScalar_next h (sshiftRight_eq_ofInt ..), State.engScalar_next h rfl, State.engScalar_next h ?_, fun word hc hw => ?_⟩
  · have hfits : high.toNat % 2 ^ 32 = high.toNat := Nat.mod_eq_of_lt (Nat.lt_trans high.isLt (by decide))
    rw [shiftLeft_eq_ofNat, BitVec.toNat_setWidth, hfits]
  · exact execEngIllegalInstruction_reserved h.1 (engLegal_immediate_reserved hc hw)

/-- Settles O31: only the destination and the program counter move. -/
theorem engineScalarFrame : Obligations.EngineScalarFrame := by
  unfold Obligations.EngineScalarFrame
  intro s t sl sd sa sb imm i h hi hstep
  obtain ⟨v, hv⟩ := exec_scalar_writes h sd sa sb imm i hi
  obtain rfl : s.wentOn sl 1 ((s.eng sl).sset sd v) = t := Host.Outcome.next.inj (hv.symm.trans hstep)
  refine ⟨?_, fun r hr => ?_, fun q => ?_, fun k hk => State.eng_wentOn_other _ _ _ _ hk, fun a ha => State.reg_wentOn_other _ _ _ _ ha,
    State.wentOn_mem .., State.wentOn_pending ..⟩
  · rw [State.sget_wentOn, Eng.sget_zero]
  · rw [State.sget_wentOn, Eng.sget_sset_other _ _ hr]
  · rw [State.vget_wentOn, Eng.vget_sset]

end Sys2Proof.Machine
end

section
/-!
PROOF. Vector instructions of the slice engine, each lane on its own, and the sum of the lanes (spec/12_slice_engines.md R345).
-/
namespace Sys2Proof.Machine

theorem State.engVector_next {s : State} {sl : Slice} {vd : BitVec 3} {v : Eng → List (BitVec 16)} {w : List (BitVec 16)} (h : s.issues sl)
    (hv : v (s.eng sl) = w) : (.next (s.engVector sl vd v) : Out) = .next (s.wentOn sl 1 ((s.eng sl).vset vd w)) := by
  rw [State.engVector_eq h, hv]

/-! ## Lanes as numbers -/

theorem lanes_congr {f g : Nat → BitVec 16} (h : ∀ i < 16, f i = g i) : lanes f = lanes g :=
  List.map_congr_left fun i hi => h i (List.mem_range.mp hi)

theorem lanes_const (x : BitVec 16) : lanes (fun _ => x) = List.replicate 16 x := List.map_const' ..

theorem ofInt_laneInt (sgn : Bool) (a : BitVec 16) : BitVec.ofInt 16 (laneInt sgn a) = a := by
  cases sgn with
  | false => exact (BitVec.ofInt_natCast ..).trans (by rw [BitVec.ofNat_toNat, BitVec.setWidth_eq])
  | true => exact BitVec.ofInt_toInt

theorem ite_le_eq_ofInt_min_laneInt (sgn : Bool) (a b : BitVec 16) :
    (if laneInt sgn a ≤ laneInt sgn b then a else b) = BitVec.ofInt 16 (min (laneInt sgn a) (laneInt sgn b)) := by
  have hmin : min (laneInt sgn a) (laneInt sgn b) = if laneInt sgn a ≤ laneInt sgn b then laneInt sgn a else laneInt sgn b := Int.min_def ..
  rw [hmin, apply_ite (BitVec.ofInt 16), ofInt_laneInt, ofInt_laneInt]

theorem ite_le_eq_ofInt_max_laneInt (sgn : Bool) (a b : BitVec 16) :
    (if laneInt sgn a ≤ laneInt sgn b then b else a) = BitVec.ofInt 16 (max (laneInt sgn a) (laneInt sgn b)) := by
  have hmax : max (laneInt sgn a) (laneInt sgn b) = if laneInt sgn a ≤ laneInt sgn b then laneInt sgn b else laneInt sgn a := Int.max_def ..
  rw [hmax, apply_ite (BitVec.ofInt 16), ofInt_laneInt, ofInt_laneInt]

theorem laneFlag_decide (P : Prop) [Decidable P] : laneFlag (decide P) = if P then 0xFFFF else 0 := by
  simp only [laneFlag, decide_eq_true_eq]

theorem laneFlag_beq (a b : BitVec 16) : laneFlag (a == b) = if a = b then 0xFFFF else 0 := by
  simp only [laneFlag, beq_iff_eq]

/-- A shift by 0 adds no half. -/
theorem mulqShift_eq (p : Int) (sh : Nat) :
    mulqShift p sh = (p + if 0 < sh then ((2 ^ (sh - 1) : Nat) : Int) else 0) / ((2 ^ sh : Nat) : Int) := by
  by_cases h : sh = 0
  · simp [mulqShift, h]
  · simp only [mulqShift, if_neg h, if_pos (Nat.pos_of_ne_zero h)]

theorem sumInts_eq_sum (l : List Int) : sumInts l = l.sum := List.sum_eq_foldl.symm

/-! ## The statement -/

/-- Settles O24: each operation lane by lane. -/
theorem engineVectorResults : Obligations.EngineVectorResults := by
  unfold Obligations.EngineVectorResults
  refine ⟨fun s sl vd va vb sb sat sgn h => ?_, fun s sl vd va vb sb sat sgn h => ?_⟩
  · intro e x y sh product write
    refine ⟨State.engVector_next h rfl, State.engVector_next h rfl, State.engVector_next h (lanes_congr fun i _ => ?_),
      State.engVector_next h (lanes_congr fun i _ => ite_le_eq_ofInt_min_laneInt ..),
      State.engVector_next h (lanes_congr fun i _ => ite_le_eq_ofInt_max_laneInt ..), State.engVector_next h rfl,
      State.engVector_next h rfl, State.engVector_next h rfl⟩
    exact congrArg (laneFit sat sgn) (mulqShift_eq ..)
  · intro e n a b d write
    exact ⟨State.engVector_next h rfl, State.engVector_next h rfl, State.engVector_next h rfl, State.engVector_next h rfl,
      State.engVector_next h (lanes_const _).symm, State.engVector_next h (lanes_congr fun i _ => laneFlag_decide _),
      State.engVector_next h (lanes_congr fun i _ => laneFlag_beq ..), State.engVector_next h rfl, State.engVector_next h rfl,
      State.engScalar_next h (congrArg _ (sumInts_eq_sum _))⟩

end Sys2Proof.Machine
end

section
/-!
PROOF. Branches, jumps and loops of the slice engine (spec/12_slice_engines.md R341, R344).
-/
namespace Sys2Proof.Machine

section
variable {s : State} {sl : Slice} {sa sb : BitVec 5} {off : BitVec 14}

/-! ## Jumps -/

/-- A jump to an index that a program counter holds. -/
theorem State.engFlow_jump (s : State) {sl c : Nat} {t : Int} (h0 : 0 ≤ t) (h1 : t < 8192) : s.engFlow sl c (.jump t) =
    (s.setEng sl { s.eng sl with loop := afterJump t.toNat (s.eng sl).loop, busy := (s.eng sl).busy + c }).setFld (SL.ENGPC_PC sl) t.toNat := by
  have hin : ¬(t < 0 ∨ 8192 ≤ t) := by omega
  simp only [State.engFlow, if_neg hin]

theorem State.engIssue_jump {body : State → Eng → State × Flow} {e : Eng} {t : Int} (h : s.fetches sl)
    (hb : body s (s.eng sl) = (s.setEng sl e, .jump t)) (h0 : 0 ≤ t) (h1 : t < 8192) : s.engIssue sl 2 body = s.jumped sl e t.toNat := by
  rw [State.engIssue_flow h hb, State.engFlow_jump _ h0 h1]
  simp only [State.eng_setEng, State.setEng_setEng, State.jumped]

/-! ## Branches -/

theorem State.engBranch_taken {c : Cond} (h : s.fetches sl) (hc : c.holds ((s.eng sl).sget sa) ((s.eng sl).sget sb) = true)
    (h0 : 0 ≤ (s.engPc sl : Int) + off.toInt) (h1 : (s.engPc sl : Int) + off.toInt < 8192) :
    s.engBranch sl c sa sb off = s.jumped sl (s.eng sl) ((s.engPc sl : Int) + off.toInt).toNat := by
  rw [State.engBranch, State.engIssue_eq h]
  simp only [hc, if_true]
  exact State.engFlow_jump s h0 h1

theorem State.engBranch_passed {c : Cond} (h : s.fetches sl) (hc : c.holds ((s.eng sl).sget sa) ((s.eng sl).sget sb) = false)
    (hn : (nextIndex (s.engPc sl) (s.eng sl).loop).1 < 8192) : s.engBranch sl c sa sb off = s.wentOn sl 1 (s.eng sl) := by
  rw [State.engBranch, State.engIssue_eq h]
  simp only [hc, Bool.false_eq_true, if_false]
  exact State.engFlow_seq hn 1

/-- A branch on a condition: taken where it holds, else the next instruction. -/
theorem State.engBranch_of_holds {c : Cond} {P : Prop} (h : s.fetches sl) (off : BitVec 14)
    (hP : c.holds ((s.eng sl).sget sa) ((s.eng sl).sget sb) = true ↔ P) :
    let t := (s.engPc sl : Int) + off.toInt
    (P → 0 ≤ t → t < 8192 → (.next (s.engBranch sl c sa sb off) : Out) = .next (s.jumped sl (s.eng sl) t.toNat))
    ∧ (¬P → (nextIndex (s.engPc sl) (s.eng sl).loop).1 < 8192 →
        (.next (s.engBranch sl c sa sb off) : Out) = .next (s.wentOn sl 1 (s.eng sl))) := by
  intro t
  refine ⟨fun hp h0 h1 => congrArg _ (State.engBranch_taken h (hP.mpr hp) h0 h1), fun hp hn => congrArg _ ?_⟩
  exact State.engBranch_passed h (eq_false_of_ne_true fun hc => hp (hP.mp hc)) hn

/-! ## LOOP -/

/-- An index lies in the body of the loop that runs. -/
def Eng.inLoop (e : Eng) (pc : Nat) : Bool :=
  match e.loop with
  | some (_, b, x) => decide (b ≤ pc ∧ pc < x)
  | none => false

theorem Eng.inLoop_iff (e : Eng) (pc : Nat) : e.inLoop pc = true ↔ ∃ n b x, e.loop = some (n, b, x) ∧ b ≤ pc ∧ pc < x := by
  unfold Eng.inLoop
  cases e.loop with
  | none => simp
  | some l => simp [Prod.ext_iff, and_assoc]

theorem execEngLoop_illegal (h : s.fetches sl) (hbad : off.toInt ≤ 0 ∨ (s.eng sl).inLoop (s.engPc sl) = true) :
    execEngLoop sl sa off s = .next (s.engTrap sl 1) := by
  have hstops : (decide (off.toInt ≤ 0) || (s.eng sl).inLoop (s.engPc sl)) = true := by
    rwa [Bool.or_eq_true, decide_eq_true_iff]
  exact congrArg _ (State.engIssue_trap h (if_pos hstops))

/-- The tests that LOOP passes outside a loop body with an offset above 0. -/
theorem loop_passes (hpos : 0 < off.toInt) (hout : ¬(s.eng sl).inLoop (s.engPc sl) = true) :
    ¬(decide (off.toInt ≤ 0) || (s.eng sl).inLoop (s.engPc sl)) = true := by
  rw [Bool.or_eq_true, decide_eq_true_iff]
  exact not_or.mpr ⟨Int.not_le.mpr hpos, hout⟩

theorem execEngLoop_repeats (h : s.fetches sl) (hpos : 0 < off.toInt) (hout : ¬(s.eng sl).inLoop (s.engPc sl) = true)
    (hpc : s.engPc sl + 1 < 8192) (hn : (s.eng sl).sget sa ≠ 0) :
    let pc := s.engPc sl
    let e := s.eng sl
    execEngLoop sl sa off s = .next ((s.setEng sl { e with loop := some ((e.sget sa).toNat, pc + 1, pc + 1 + off.toNat)
                                                           busy := e.busy + 1 }).setFld (SL.ENGPC_PC sl) (pc + 1)) := by
  have hcount : ¬((s.eng sl).sget sa).toNat = 0 := fun hz => hn (BitVec.eq_of_toNat_eq hz)
  exact congrArg _ (State.engIssue_stop h
    ((if_neg (loop_passes hpos hout)).trans ((if_neg (Nat.not_le.mpr hpc)).trans (if_neg hcount))))

theorem toInt_eq_toNat_of_pos (h : 0 < off.toInt) : off.toInt = off.toNat := by
  rw [BitVec.toInt_eq_toNat_cond] at h ⊢
  have := off.isLt
  split
  · rfl
  · omega

theorem execEngLoop_skips (h : s.fetches sl) (hpos : 0 < off.toInt) (hout : ¬(s.eng sl).inLoop (s.engPc sl) = true)
    (hn : (s.eng sl).sget sa = 0) (hend : s.engPc sl + 1 + off.toNat < 8192) :
    let t := s.engPc sl + 1 + off.toNat
    execEngLoop sl sa off s = .next ((s.setEng sl { s.eng sl with loop := afterJump t (s.eng sl).loop
                                                                  busy := (s.eng sl).busy + 1 }).setFld (SL.ENGPC_PC sl) t) := by
  intro t
  have hcount : ((s.eng sl).sget sa).toNat = 0 := by rw [hn]; rfl
  have hpc : s.engPc sl + 1 < 8192 := by omega
  have ht : (s.engPc sl : Int) + 1 + off.toInt = (t : Int) := by rw [toInt_eq_toNat_of_pos hpos]; rfl
  have hbody : execEngLoop sl sa off s = .next (s.engFlow sl 1 (.jump ((s.engPc sl : Int) + 1 + off.toInt))) :=
    congrArg _ (State.engIssue_flow h
      ((if_neg (loop_passes hpos hout)).trans ((if_neg (Nat.not_le.mpr hpc)).trans (if_pos hcount))))
  rw [hbody, ht, State.engFlow_jump s (by omega) (by omega), Int.toNat_natCast]

end

/-! ## The statement -/

/-- Settles O23: each branch by its comparison, LOOP by where it stands and its count. -/
theorem engineFlowResults : Obligations.EngineFlowResults := by
  unfold Obligations.EngineFlowResults
  refine ⟨fun s sl sa sb off h => ?_, fun s sl sa off h => ?_⟩
  · intro e a b t branch back
    refine ⟨State.engBranch_of_holds h off beq_iff_eq, State.engBranch_of_holds h off bne_iff_ne,
      State.engBranch_of_holds h off decide_eq_true_iff, State.engBranch_of_holds h off decide_eq_true_iff,
      State.engBranch_of_holds h off decide_eq_true_iff, State.engBranch_of_holds h off decide_eq_true_iff,
      fun h0 h1 => congrArg _ (State.engIssue_jump h rfl h0 h1), fun hlt => ?_⟩
    exact congrArg _ (State.engIssue_jump h rfl (Int.natCast_nonneg _) (Int.ofNat_lt.mpr hlt))
  · intro e pc inside
    have hin : e.inLoop pc = true ↔ inside := Eng.inLoop_iff e pc
    exact ⟨fun hpos hout hpc hn => execEngLoop_repeats h hpos (mt hin.mp hout) hpc hn,
      fun hpos hout hn hend => execEngLoop_skips h hpos (mt hin.mp hout) hn hend, fun hbad => execEngLoop_illegal h (hbad.imp_right hin.mpr)⟩

end Sys2Proof.Machine
end

section
/-!
PROOF. What leaves an engine and its program counter alone: the shared operations, a report, memory, frames and the parameter queue. One
register holds the program counter, so that every write to another offset of a block leaves it (spec/12_slice_engines.md R367).
-/
namespace Sys2Proof.Machine

/-! ## The register of the program counter -/

/-- An address at another offset of the 0x8000 bytes of a slice's block is not the program counter of any slice. -/
theorem ne_engPc_of_mod {a : Nat} (sl : Nat) (h : a % 0x8000 ≠ 0x808) : a ≠ SL.ENGPC sl := by
  unfold SL.ENGPC
  omega

theorem slReg_mod (i : Nat) {off : Nat} (h : off % 0x8000 ≠ 0x808) : (0x800000 + 0x8000 * i + off) % 0x8000 ≠ 0x808 := by omega

namespace State.SameEngine

variable {sl : Nat} {o s t : State}

theorem refl : State.SameEngine sl s s := ⟨rfl, rfl⟩

theorem ite {c : Prop} [Decidable c] {a b : State} (ha : State.SameEngine sl o a) (hb : State.SameEngine sl o b) :
    State.SameEngine sl o (if c then a else b) := by
  split
  · exact ha
  · exact hb

/-- An update of what is neither a register nor an engine. -/
theorem of_eq (h : State.SameEngine sl o s) (hcsr : t.csr = s.csr) (hengs : t.engs = s.engs) : State.SameEngine sl o t := by
  refine ⟨Eq.trans ?_ h.eng, Eq.trans ?_ h.pc⟩
  · rw [State.eng, hengs, State.eng]
  · rw [State.engPc, State.engPc, State.fld, State.fld, State.reg, State.reg, hcsr]

theorem setFld (h : State.SameEngine sl o s) {f : Fld} (v : Nat) (hf : f.addr % 0x8000 ≠ 0x808) :
    State.SameEngine sl o (s.setFld f v) := by
  have hreg : (s.setFld f v).reg (SL.ENGPC sl) = s.reg (SL.ENGPC sl) := State.reg_setFld_other _ _ _ _ (ne_engPc_of_mod sl hf).symm
  exact ⟨h.eng, Eq.trans (congrArg (getBits · 12 0) hreg) h.pc⟩

theorem bump (h : State.SameEngine sl o s) {f : Fld} (n : Nat) (hf : f.addr % 0x8000 ≠ 0x808) : State.SameEngine sl o (s.bump f n) :=
  h.setFld _ hf

theorem setFlds (h : State.SameEngine sl o s) {l : List (Fld × Nat)} (hl : ∀ x ∈ l, x.1.addr % 0x8000 ≠ 0x808) :
    State.SameEngine sl o (s.setFlds l) := by
  induction l generalizing s with
  | nil => exact h
  | cons x r ih =>
    obtain ⟨hx, hr⟩ := List.forall_mem_cons.mp hl
    exact ih (h.setFld _ hx) hr

theorem setCam (h : State.SameEngine sl o s) (p : Nat) (x : Cam) : State.SameEngine sl o (s.setCam p x) := h.of_eq rfl rfl

theorem intrEvent (h : State.SameEngine sl o s) (src cause arg : Nat) : State.SameEngine sl o (s.intrEvent src cause arg) :=
  h.of_eq rfl rfl

/-! ## A report (R538 to R540) -/

theorem loseFault (h : State.SameEngine sl o s) (code : Nat) : State.SameEngine sl o (s.loseFault code) := by
  unfold State.loseFault
  exact ite (((ite (h.setFld _ (by decide)) h).bump _ (by decide)).intrEvent ..)
    (((ite (h.setFld _ (by decide)) h).bump _ (by decide)).intrEvent ..)

theorem driveFaultN (h : State.SameEngine sl o s) : State.SameEngine sl o s.driveFaultN := by
  unfold State.driveFaultN
  have hset := (h.setFld (f := FCU.PINSTAT_OVFHOLD) · (by decide))
  exact ite ((hset _).setFld _ (by decide)) (((hset _).setFld _ (by decide)).intrEvent ..)

theorem report (h : State.SameEngine sl o s) (code inst arg : Nat) : State.SameEngine sl o (s.report code inst arg) := by
  have hkeeper : ∀ k : Keeper, State.SameEngine sl o { s with keeper := k } := fun _ => h.of_eq rfl rfl
  unfold State.report
  refine ite ?_ ?_
  · split <;> exact hkeeper _
  · split
    · exact hkeeper _
    · exact ite (ite ((hkeeper _).setFld _ (by decide)) (hkeeper _)) (h.loseFault code).driveFaultN

/-! ## Memory (R614, R616) -/

theorem fillBlock (h : State.SameEngine sl o s) (a : Nat) : State.SameEngine sl o (s.fillBlock a) := by
  have hfill : ∀ x : MemX, State.SameEngine sl o { s with memx := x } := fun _ => h.of_eq rfl rfl
  unfold State.fillBlock
  exact ite ((hfill _).bump _ (by decide)) h

theorem poke (h : State.SameEngine sl o s) (a : Nat) (l : List Byte) : State.SameEngine sl o (s.poke a l) := by
  have hmem : ∀ (m : List Host.Cell) (x : MemX), State.SameEngine sl o { s with mem := m, memx := x } := fun _ _ => h.of_eq rfl rfl
  unfold State.poke
  exact ite (ite (hmem ..) ((hmem ..).fillBlock _)) ((ite (hmem ..) ((hmem ..).fillBlock _)).fillBlock _)

theorem dataPoke (h : State.SameEngine sl o s) (n a : Nat) (l : List Byte) : State.SameEngine sl o (s.dataPoke n a l) := h.poke _ _

/-! ## Back-channel, frames and the parameter queue (R117, R322 to R329) -/

theorem bcQueue (h : State.SameEngine sl o s) (p : Nat) (c : BcCmd) : State.SameEngine sl o (s.bcQueue p c) := h.of_eq rfl rfl

theorem onFrame (h : State.SameEngine sl o s) (p fn : Nat) (k : Frame → Frame) : State.SameEngine sl o (s.onFrame p fn k) := by
  unfold State.onFrame
  refine setCam ?_ _ _
  split
  · exact ite (h.of_eq rfl rfl) h
  · exact h

theorem pqShow (h : State.SameEngine sl o s) (p : Nat) : State.SameEngine sl o (s.pqShow p) := by
  unfold State.pqShow
  split
  · exact h
  · next i _ =>
    refine h.setFlds ?_
    simp only [List.forall_mem_cons, List.not_mem_nil, false_implies, implies_true, and_true]
    exact ⟨slReg_mod i (by decide), slReg_mod i (by decide), slReg_mod i (by decide)⟩

theorem pqBump (h : State.SameEngine sl o s) (p : Nat) {f : Nat → Fld} (n : Nat) (hf : ∀ i, (f i).addr % 0x8000 ≠ 0x808) :
    State.SameEngine sl o (s.pqBump p f n) := by
  unfold State.pqBump
  split
  · exact h.bump n (hf _)
  · exact h

theorem pqSupersede (h : State.SameEngine sl o s) (p : Nat) : State.SameEngine sl o (s.pqSupersede p) := by
  unfold State.pqSupersede
  exact ite (h.pqShow p) (((h.setCam ..).pqBump p _ fun i => slReg_mod i (by decide)).pqShow p)

theorem pqLate (h : State.SameEngine sl o s) (p fn n : Nat) : State.SameEngine sl o (s.pqLate p fn n) := by
  unfold State.pqLate
  exact (h.setCam ..).pqBump p _ fun i => slReg_mod i (by decide)

theorem pqMove (h : State.SameEngine sl o s) (p : Nat) (sel : PqEntry → Bool) (target k : Nat) :
    State.SameEngine sl o (s.pqMove p sel target k) := by
  unfold State.pqMove
  exact ite h ((((h.setCam ..).pqLate ..).report ..).pqSupersede p)

theorem pqSettleGroup (h : State.SameEngine sl o s) (p grp t : Nat) : State.SameEngine sl o (s.pqSettleGroup p grp t) := by
  unfold State.pqSettleGroup
  exact ite h ((h.setCam ..).pqMove ..)

theorem pqPut (h : State.SameEngine sl o s) (p : Nat) (owner : Bool) (e : PqEntry) : State.SameEngine sl o (s.pqPut p owner e).2 := by
  unfold State.pqPut
  extract_lets c moved target x c' queued late settled
  have hlate : State.SameEngine sl o late := ite ((h.setCam ..).pqLate ..) (h.setCam ..)
  have hsettled : State.SameEngine sl o settled := ite (hlate.pqSettleGroup ..) (hlate.pqMove ..)
  split
  · exact h
  · split
    · split
      · exact h
      · split
        · exact h.pqBump p _ fun i => slReg_mod i (by decide)
        · exact hsettled.pqSupersede p
    · exact h

end State.SameEngine

end Sys2Proof.Machine
end

section
/-!
PROOF. Data memory and statistics memory of the slice engine: where an access may proceed, what a load and a store come to, and what a
store leaves of memory (spec/12_slice_engines.md R337, R346, R348, spec/11_stats_params.md R316, R317, R320).
-/
namespace Sys2Proof.Machine

section
variable {s : State} {sl : Slice} {sd sa : BitVec 5} {vd : BitVec 3} {off : BitVec 15} {a n align cycles : Nat} {wr : Bool}

/-! ## Accesses (R337, R346, R609, R616) -/

/-- An access to data memory that is aligned, ends within it and meets no poison. -/
structure State.MayAccess (s : State) (sl a n align : Nat) : Prop where
  aligned : a % align = 0
  inRange : a + n ≤ 0x8000
  clean : s.poisoned (engDataBase sl + a) n = false

/-- The address that a load or store computes (R346). -/
def Eng.dataAddr (e : Eng) (sa : BitVec 5) (off : BitVec 15) : Nat := (e.addr sa off % (2 ^ 32 : Nat)).toNat

/-- A write to words without poison replaces no poisoned word in part. -/
theorem State.partialPoison_of_clean {b : Nat} (h : s.poisoned b n = false) : s.partialPoison b n = false := by
  rw [State.poisoned, List.any_eq_false] at h
  rw [State.partialPoison, List.any_eq_false]
  intro w hw
  simp only [eq_false_of_ne_true (h w hw), Bool.false_and, Bool.false_eq_true, not_false_eq_true]

theorem State.accessTrap_none {v : Int} (h : s.MayAccess sl (v % (2 ^ 32 : Nat)).toNat n align) : s.accessTrap sl v n align wr = none := by
  have hpart := State.partialPoison_of_clean h.clean
  simp only [State.accessTrap, h.aligned, Nat.not_lt.mpr h.inRange, h.clean, hpart, ne_eq, not_true_eq_false, ite_self, Bool.false_eq_true,
    if_false]

/-- A load: the engine takes what the access reads. -/
theorem State.engAccess_load {k : State → Eng → Nat → State} {e : Eng} (h : s.issues sl)
    (ha : s.MayAccess sl ((s.eng sl).dataAddr sa off) n align)
    (hk : k s (s.eng sl) ((s.eng sl).dataAddr sa off) = s.setEng sl e) (hloop : e.loop = (s.eng sl).loop) :
    s.engAccess sl sa off n align cycles k wr = s.wentOn sl cycles e := by
  refine State.engIssue_setEng h ?_ rfl hloop
  simp only [State.accessTrap_none ha]
  exact congrArg (·, Flow.seq) hk

/-- A store: bytes go to the address of the access. -/
theorem State.engAccess_store {l : List Byte} {k : State → Eng → Nat → State} (h : s.issues sl)
    (ha : s.MayAccess sl ((s.eng sl).dataAddr sa off) n align)
    (hk : k s (s.eng sl) ((s.eng sl).dataAddr sa off) = s.dataPoke sl ((s.eng sl).dataAddr sa off) l) :
    s.engAccess sl sa off n align cycles k wr = (s.dataPoke sl ((s.eng sl).dataAddr sa off) l).wentOn sl cycles (s.eng sl) := by
  refine State.engIssue_seq h ?_ (State.SameEngine.refl.dataPoke ..)
  simp only [State.accessTrap_none ha]
  exact congrArg (·, Flow.seq) hk

/-! ## Bytes and lanes -/

theorem Memory.getD_getList (m : List Host.Cell) (b : Nat) {i n : Nat} (h : i < n) :
    (Memory.getList m b n).getD i 0 = Memory.get m (b + i) := by
  simp [Memory.getList, h]

/-- A field of bytes read from memory is read from memory. -/
theorem State.fieldAt_dataBytes {i w : Nat} (s : State) (sl a : Nat) (h : i + w ≤ n) :
    fieldAt (s.dataBytes sl a n) i w = leNat (s.dataBytes sl (a + i) w) := by
  refine congrArg leNat (List.map_congr_left fun j hj => ?_)
  have hlt : i + j < n := by have := List.mem_range.mp hj; omega
  rw [State.dataBytes, State.bytes, Memory.getD_getList _ _ hlt]
  congr 1
  omega

theorem State.vecOf_dataBytes (s : State) (sl a : Nat) :
    vecOf (s.dataBytes sl a 32) = lanes fun i => BitVec.ofNat 16 (leNat (s.dataBytes sl (a + 2 * i) 2)) :=
  lanes_congr fun i hi => by rw [State.fieldAt_dataBytes s sl a (by omega)]

/-! ## Loads and stores (R346) -/

theorem execEngLdw_reads (h : s.issues sl) (ha : s.MayAccess sl ((s.eng sl).dataAddr sa off) 4 4) : execEngLdw sl sd sa off s =
    .next (s.wentOn sl 1 ((s.eng sl).sset sd (BitVec.ofNat 32 (leNat (s.dataBytes sl ((s.eng sl).dataAddr sa off) 4))))) :=
  congrArg _ (State.engAccess_load h ha rfl (Eng.loop_sset ..))

theorem execEngLdh_reads (h : s.issues sl) (ha : s.MayAccess sl ((s.eng sl).dataAddr sa off) 2 2) : execEngLdh sl sd sa off s =
    .next (s.wentOn sl 1 ((s.eng sl).sset sd (BitVec.ofNat 32 (leNat (s.dataBytes sl ((s.eng sl).dataAddr sa off) 2))))) :=
  congrArg _ (State.engAccess_load h ha rfl (Eng.loop_sset ..))

theorem execEngVld_reads (h : s.issues sl) (ha : s.MayAccess sl ((s.eng sl).dataAddr sa off) 32 2) : execEngVld sl vd sa off s =
    .next (s.wentOn sl 1 ((s.eng sl).vset vd
      (lanes fun i => BitVec.ofNat 16 (leNat (s.dataBytes sl ((s.eng sl).dataAddr sa off + 2 * i) 2))))) := by
  rw [← State.vecOf_dataBytes]
  exact congrArg _ (State.engAccess_load h ha rfl (Eng.loop_vset ..))

theorem execEngStw_stores (h : s.issues sl) (ha : s.MayAccess sl ((s.eng sl).dataAddr sa off) 4 4) : execEngStw sl sd sa off s =
    .next ((s.dataPoke sl ((s.eng sl).dataAddr sa off) (leBytes 4 ((s.eng sl).sget sd).toNat)).wentOn sl 1 (s.eng sl)) :=
  congrArg _ (State.engAccess_store h ha rfl)

theorem execEngSth_stores (h : s.issues sl) (ha : s.MayAccess sl ((s.eng sl).dataAddr sa off) 2 2) : execEngSth sl sd sa off s =
    .next ((s.dataPoke sl ((s.eng sl).dataAddr sa off) (leBytes 2 ((s.eng sl).sget sd).toNat)).wentOn sl 1 (s.eng sl)) :=
  congrArg _ (State.engAccess_store h ha rfl)

theorem execEngVst_stores (h : s.issues sl) (ha : s.MayAccess sl ((s.eng sl).dataAddr sa off) 32 2) : execEngVst sl vd sa off s =
    .next ((s.dataPoke sl ((s.eng sl).dataAddr sa off) (bytesOfVec ((s.eng sl).vget vd))).wentOn sl 1 (s.eng sl)) :=
  congrArg _ (State.engAccess_store h ha rfl)

theorem execEngVlut_reads (h : s.issues sl)
    (hr : ∀ i < 16, s.MayAccess sl (((s.eng sl).addr sa off + 2 * ((lane ((s.eng sl).vget vd) i).toNat : Int)) % (2 ^ 32 : Nat)).toNat 2 2) :
    execEngVlut sl vd sa off s = .next (s.wentOn sl 4 ((s.eng sl).vset vd (lanes fun i => BitVec.ofNat 16 (leNat (s.dataBytes sl
      (((s.eng sl).addr sa off + 2 * ((lane ((s.eng sl).vget vd) i).toNat : Int)) % (2 ^ 32 : Nat)).toNat 2))))) := by
  have hnone : (List.range 16).findSome? (fun i => s.accessTrap sl ((s.eng sl).addr sa off
      + 2 * ((lane ((s.eng sl).vget vd) i).toNat : Int)) 2 2) = none :=
    List.findSome?_eq_none_iff.mpr fun i hi => State.accessTrap_none (hr i (List.mem_range.mp hi))
  refine congrArg _ (State.engIssue_setEng (u := s) h ?_ rfl (Eng.loop_vset ..))
  simp only [hnone]

/-! ## Statistics memory (R316, R317, R320, R348) -/

theorem State.statRead_kept (hb : s.bankReused sl a = false) : s.statRead sl a n = (s.cleanBytes (statsBase sl + a) n, s) := by
  rw [State.statRead, hb]
  rfl

theorem State.statRead_reused (hb : s.bankReused sl a = true) :
    (s.statRead sl a n).2 = State.setFld { s with fresh := s.fresh + ceilDiv n 8 } (SL.STSTAT_READLATE sl) 1 := by
  rw [State.statRead, hb]
  rfl

theorem statTrap_none (ha : a % align = 0) (hr : a + n ≤ 0x8000) : statTrap a n align = none := by
  rw [statTrap, if_neg (not_not_intro ha), if_neg (Nat.not_lt.mpr hr)]

theorem State.engPc_statRead (s : State) (sl : Slice) (a n : Nat) : (s.statRead sl a n).2.engPc sl = s.engPc sl := by
  cases hb : s.bankReused sl a with
  | false => rw [State.statRead_kept hb]
  | true =>
    rw [State.statRead_reused hb]
    exact ((State.SameEngine.refl.of_eq rfl rfl).setFld 1 (slReg_mod sl (by decide))).pc

variable {u : BitVec 15}

theorem execEngStlw_inRange (h : s.issues sl) (halign : (((s.eng sl).sget sa).toNat + u.toNat) % 4 = 0)
    (hin : ((s.eng sl).sget sa).toNat + u.toNat < 0x8000) :
    let r := s.statRead sl (((s.eng sl).sget sa).toNat + u.toNat) 4
    execEngStlw sl sd sa u s = .next (r.2.wentOn sl 1 ((s.eng sl).sset sd (BitVec.ofNat 32 (leNat r.1)))) := by
  refine congrArg _ (State.engIssue_setEng h ?_ (State.engPc_statRead ..) (Eng.loop_sset ..))
  simp only [statTrap_none halign (show _ + 4 ≤ 0x8000 by omega)]

theorem execEngStlv_inRange (h : s.issues sl) (halign : (((s.eng sl).sget sa).toNat + u.toNat) % 32 = 0)
    (hin : ((s.eng sl).sget sa).toNat + u.toNat < 0x8000) :
    let r := s.statRead sl (((s.eng sl).sget sa).toNat + u.toNat) 32
    execEngStlv sl vd sa u s = .next (r.2.wentOn sl 1 ((s.eng sl).vset vd (vecOf r.1))) := by
  refine congrArg _ (State.engIssue_setEng h ?_ (State.engPc_statRead ..) (Eng.loop_vset ..))
  simp only [statTrap_none halign (show _ + 32 ≤ 0x8000 by omega)]

theorem execEngStcpy_inRange (h : s.issues sl) (hb : s.bankReused sl ((s.eng sl).sget sa).toNat = false) (h1 : 1 ≤ u.toNat)
    (h480 : u.toNat ≤ 480) :
    let src := ((s.eng sl).sget sa).toNat
    let d := ((s.eng sl).sget sd).toNat
    let n := 64 * u.toNat
    src % 64 = 0 → d % 64 = 0 → src + n ≤ 0x8000 → d + n ≤ 0x8000 → execEngStcpy sl sd sa u s =
      .next ((s.dataPoke sl d (s.cleanBytes (statsBase sl + src) n)).wentOn sl (2 * u.toNat) (s.eng sl)) := by
  intro src d n hsa hda hsn hdn
  have hcount : ¬(u.toNat = 0 ∨ 480 < u.toNat) := by omega
  have halign : ¬(src % 64 ≠ 0 ∨ d % 64 ≠ 0) := by omega
  have hin : ¬(0x8000 < src + n ∨ 0x8000 < d + n) := by omega
  refine congrArg _ (State.engIssue_seq h ?_ (State.SameEngine.refl.dataPoke ..))
  refine (if_neg hcount).trans ((if_neg halign).trans ((if_neg hin).trans ?_))
  dsimp only
  rw [State.statRead_kept hb]

end

/-! ## What a store leaves of memory (R336, R346) -/

@[simp] theorem State.poke_mem (s : State) (a : Nat) (l : List Byte) : (s.poke a l).mem = Memory.putList s.mem a l := by
  simp only [State.poke]
  split
  · rfl
  · rw [State.fillBlock_mem, State.fillBlock_mem]

/-- What is stored, and what of memory, of the engine's registers and of the other engines stays. -/
structure State.StoredAt (s t : State) (sl a : Nat) (l : List Byte) : Prop where
  bytes : ∀ i < l.length, Memory.get t.mem (engDataBase sl + a + i) = l.getD i 0
  others : ∀ x, (x < engDataBase sl + a ∨ engDataBase sl + a + l.length ≤ x) → Memory.get t.mem x = Memory.get s.mem x
  sregs : ∀ r, (t.eng sl).sget r = (s.eng sl).sget r
  vregs : ∀ v, (t.eng sl).vget v = (s.eng sl).vget v
  engines : ∀ k, k ≠ sl → t.eng k = s.eng k

theorem State.storedAt_wentOn {s : State} {sl : Slice} {a cycles : Nat} {l : List Byte} (hwf : Memory.wf s.mem = true) :
    State.StoredAt s ((s.dataPoke sl a l).wentOn sl cycles (s.eng sl)) sl a l := by
  have hmem : ((s.dataPoke sl a l).wentOn sl cycles (s.eng sl)).mem = Memory.putList s.mem (engDataBase sl + a) l := State.poke_mem ..
  refine ⟨fun i hi => ?_, fun x hx => ?_, fun r => State.sget_wentOn .., fun v => State.vget_wentOn .., fun k hk => ?_⟩
  · rw [hmem, Memory.get_putList_same _ _ _ _ hi hwf]
  · rw [hmem, Memory.get_putList_other _ _ _ _ hx]
  · rw [State.eng_wentOn_other _ _ _ _ hk]
    exact (State.SameEngine.refl.dataPoke ..).eng

/-! ## The statements -/

/-- Settles O25: each access by its address, a read of the statistics memory by the bank it meets. -/
theorem engineMemoryResults : Obligations.EngineMemoryResults := by
  unfold Obligations.EngineMemoryResults
  refine ⟨fun s sl sd sa vd off h => ?_, fun s sl sd sa vd u h => ?_⟩
  · intro e at_ a reads word store
    have hzero : e.addr sa off + 2 * ((0 : Nat) : Int) = e.addr sa off := Int.add_zero _
    have haddr : a = e.dataAddr sa off := congrArg (fun v : Int => (v % (2 ^ 32 : Nat)).toNat) hzero
    clear_value a
    subst haddr
    have hmay : ∀ {n align}, reads n align → s.MayAccess sl (e.dataAddr sa off) n align := by
      rintro n align ⟨haligned, hin, hclean⟩
      exact ⟨haligned, hin, hclean⟩
    exact ⟨fun hr => ⟨execEngLdw_reads h (hmay hr), execEngStw_stores h (hmay hr)⟩,
      fun hr => ⟨execEngLdh_reads h (hmay hr), execEngSth_stores h (hmay hr)⟩,
      fun hr => ⟨execEngVld_reads h (hmay hr), execEngVst_stores h (hmay hr)⟩,
      fun hr => execEngVlut_reads h fun i hi => ⟨(hr i hi).1, (hr i hi).2.1, (hr i hi).2.2⟩⟩
  · intro e a src d n
    refine ⟨fun hb ha hin => ?_, fun hb ha hin => ?_, fun hb h1 h480 => execEngStcpy_inRange h hb h1 h480, fun hb ha hin => ?_⟩
    · exact (execEngStlw_inRange h ha hin).trans (by rw [State.statRead_kept hb])
    · exact (execEngStlv_inRange h ha hin).trans (by rw [State.statRead_kept hb])
    · exact ⟨_, _, (execEngStlw_inRange h ha hin).trans (by rw [State.statRead_reused hb])⟩

/-- Settles O32: the store as bytes put at its address, the rest by what a write to memory leaves. -/
theorem engineStoreFrame : Obligations.EngineStoreFrame := by
  unfold Obligations.EngineStoreFrame
  intro s t sl sd sa vd off h hwf e a base fits stored
  have hmay : ∀ {n align}, fits n align → s.MayAccess sl (e.dataAddr sa off) n align := by
    rintro n align ⟨haligned, hin, hclean⟩
    exact ⟨haligned, hin, hclean⟩
  have hstored : ∀ {i : Instr} {l : List Byte}, exec i s = .next ((s.dataPoke sl a l).wentOn sl 1 e) → exec i s = .next t → stored l := by
    intro i l hi hstep
    obtain rfl := Host.Outcome.next.inj (hi.symm.trans hstep)
    obtain ⟨hbytes, hothers, hsregs, hvregs, hengines⟩ := State.storedAt_wentOn (sl := sl) (a := a) (l := l) (cycles := 1) hwf
    exact ⟨hbytes, hothers, hsregs, hvregs, hengines⟩
  exact ⟨fun hf => hstored (execEngStw_stores h (hmay hf)), fun hf => hstored (execEngSth_stores h (hmay hf)),
    fun hf => hstored (execEngVst_stores h (hmay hf))⟩

end Sys2Proof.Machine
end

section
/-!
PROOF. Where the slice engine traps: its data accesses, the fetch of an instruction, the end of code memory and the taps
(spec/12_slice_engines.md R337, R340, R344, R346, R347, R358, spec/23_memory.md R609).
-/
namespace Sys2Proof.Machine

section
variable {s : State} {sl : Slice} {n align : Nat} {wr : Bool}

/-! ## Data accesses (R337, R346, R609) -/

section
variable {v : Int}

theorem State.accessTrap_misaligned (h : (v % (2 ^ 32 : Nat)).toNat % align ≠ 0) : s.accessTrap sl v n align wr = some 2 := by
  simp only [State.accessTrap, if_pos h]

theorem State.accessTrap_beyond (ha : (v % (2 ^ 32 : Nat)).toNat % align = 0) (hr : 0x8000 < (v % (2 ^ 32 : Nat)).toNat + n) :
    s.accessTrap sl v n align wr = some 3 := by
  simp only [State.accessTrap, if_neg (not_not_intro ha), if_pos hr]

/-- Fewer than eight bytes replace no 64-bit word whole. -/
theorem State.partialPoison_of_short {b : Nat} (hn : n < 8) (h : s.poisoned b n = true) : s.partialPoison b n = true := by
  rw [State.poisoned, List.any_eq_true] at h
  obtain ⟨w, hw, hp⟩ := h
  refine List.any_eq_true.mpr ⟨w, hw, ?_⟩
  have hpart : ¬(b ≤ w ∧ w + 8 ≤ b + n) := by omega
  rw [hp, Bool.true_and, ← Bool.decide_and, decide_eq_false hpart, Bool.not_false]

theorem State.accessTrap_poisoned (ha : (v % (2 ^ 32 : Nat)).toNat % align = 0) (hr : (v % (2 ^ 32 : Nat)).toNat + n ≤ 0x8000)
    (hn : n < 8) (hp : s.poisoned (engDataBase sl + (v % (2 ^ 32 : Nat)).toNat) n = true) : s.accessTrap sl v n align wr = some 5 := by
  have hpart := State.partialPoison_of_short hn hp
  simp only [State.accessTrap, if_neg (not_not_intro ha), if_neg (Nat.not_lt.mpr hr), hp, hpart, ite_self, if_true]

end

theorem State.engAccess_trap {sa : BitVec 5} {off : BitVec 15} {cycles cause : Nat} {k : State → Eng → Nat → State} (h : s.fetches sl)
    (ht : s.accessTrap sl ((s.eng sl).addr sa off) n align wr = some cause) :
    s.engAccess sl sa off n align cycles k wr = s.engTrap sl cause := by
  refine State.engIssue_trap h ?_
  simp only [ht]

/-- LDW and STW trap alike. -/
theorem execEngLdw_execEngStw_trap {sd sa : BitVec 5} {off : BitVec 15} {cause : Nat} (h : s.fetches sl)
    (ht : ∀ wr, s.accessTrap sl ((s.eng sl).addr sa off) 4 4 wr = some cause) :
    execEngLdw sl sd sa off s = .next (s.engTrap sl cause) ∧ execEngStw sl sd sa off s = .next (s.engTrap sl cause) :=
  ⟨congrArg _ (State.engAccess_trap h (ht _)), congrArg _ (State.engAccess_trap h (ht _))⟩

/-! ## Fetch, and the end of code memory (R344, R358, R609) -/

section
variable {c : Nat} {body : State → Eng → State × Flow}

theorem State.engIssue_beyond (h : s.engReady sl = true) (hpc : (s.eng sl).codeLen / 4 ≤ s.engPc sl) :
    s.engIssue sl c body = s.engTrap sl 4 := by
  simp only [State.engIssue, h, Bool.not_true, Bool.false_eq_true, if_false, if_pos hpc]

theorem State.engIssue_poisoned (h : s.engReady sl = true) (hpc : s.engPc sl < (s.eng sl).codeLen / 4)
    (hp : s.poisoned (engCodeBase sl + 4 * s.engPc sl) 4 = true) : s.engIssue sl c body = s.engTrap sl 5 := by
  simp only [State.engIssue, h, Bool.not_true, Bool.false_eq_true, if_false, if_neg (Nat.not_le.mpr hpc), if_pos hp]

/-- The next index is one that no program counter holds. -/
theorem State.engScalar_last {sd : BitVec 5} {v : Eng → BitVec 32} (h : s.fetches sl)
    (hlast : 8192 ≤ (nextIndex (s.engPc sl) (s.eng sl).loop).1) :
    s.engScalar sl sd v = (s.setEng sl ((s.eng sl).sset sd (v (s.eng sl)))).engTrap sl 4 := by
  have hnext : 8192 ≤ (nextIndex (s.engPc sl) ((s.eng sl).sset sd (v (s.eng sl))).loop).1 := by rwa [Eng.loop_sset]
  rw [State.engScalar, State.engIssue_flow h rfl]
  simp only [State.engFlow, State.eng_setEng, State.engPc_setEng, if_pos hnext]

end

/-! ## Taps (R347) -/

section
variable {scaler : Bool} {vd : BitVec 3} {plane : Fin 8}

/-- What keeps a tap access from being allowed. -/
theorem State.tapAllows_eq_false {p lo : Nat} (h : s.flag (tapEnFld scaler sl) = false
    ∨ bit (getBits (s.reg (tapCfg scaler sl)) 15 0) (lo + p) = false ∨ (scaler = false ∧ 4 ≤ p)) : s.tapAllows sl scaler p lo = false := by
  simp only [State.tapAllows, Bool.and_eq_false_iff, Bool.or_eq_false_iff, decide_eq_false_iff_not, Nat.not_lt, or_assoc]
  exact h

theorem execEngTpop_refused (h : s.fetches sl) (ha : s.tapAllows sl scaler plane.val 0 = false) :
    execEngTpop sl scaler vd plane s = .next (s.engTrap sl 6) := by
  refine congrArg _ (State.engIssue_trap h (if_pos ?_))
  rw [ha, Bool.not_false]

theorem execEngTpush_refused (h : s.fetches sl) (ha : s.tapAllows sl scaler plane.val 8 = false) :
    execEngTpush sl scaler vd plane s = .next (s.engTrap sl 6) := by
  refine congrArg _ (State.engIssue_trap h (if_pos ?_))
  rw [ha, Bool.not_false]

theorem ceilDiv_le_iff (w g : Nat) : ceilDiv w 16 ≤ g ↔ w ≤ 16 * g := by
  unfold ceilDiv
  omega

theorem execEngTpop_ended {f : Frame} {y : Nat} (h : s.fetches sl) (ha : s.tapAllows sl scaler plane.val 0 = true)
    (hline : ((s.eng sl).tap scaler).line = some y) (hf : s.tapFrame sl scaler = some f)
    (hend : (s.scene (s.eng sl).cam f).tapWidth scaler plane.val ≤ 16 * ((s.eng sl).tap scaler).popped.get plane.val 0) :
    execEngTpop sl scaler vd plane s = .next (s.engTrap sl 6) := by
  refine congrArg _ (State.engIssue_trap (u := s) h ?_)
  simp only [ha, Bool.not_true, Bool.false_eq_true, if_false, hline, hf, if_pos ((ceilDiv_le_iff _ _).mpr hend)]

end

end

/-! ## The statement -/

/-- Settles O26: an access by what its address meets, an instruction by where it is fetched, a tap access by what it names. -/
theorem engineTraps : Obligations.EngineTraps := by
  unfold Obligations.EngineTraps
  refine ⟨fun s sl sd sa off word h => ?_, fun s sl sd sa sb h => ?_, fun s sl vd scaler plane h => ?_⟩
  · intro a
    refine ⟨fun ha => ?_, fun ha hr => ?_, fun ha hr hp => ?_, fun hw => execEngIllegalInstruction_reserved h hw⟩
    · exact execEngLdw_execEngStw_trap h fun _ => State.accessTrap_misaligned ha
    · have hbeyond : 0x8000 < a + 4 := by omega
      exact execEngLdw_execEngStw_trap h fun _ => State.accessTrap_beyond ha hbeyond
    · have hin : a + 4 ≤ 0x8000 := by omega
      exact execEngLdw_execEngStw_trap h fun _ => State.accessTrap_poisoned ha hin (by decide) hp
  · intro e bad
    refine ⟨fun hpc => ⟨congrArg _ (State.engIssue_beyond h hpc), congrArg _ (State.engIssue_beyond h hpc)⟩,
      fun hpc hp => ⟨congrArg _ (State.engIssue_poisoned h hpc hp), congrArg _ (State.engIssue_poisoned h hpc hp)⟩,
      fun hpc hp hlast => ?_⟩
    exact congrArg _ (State.engScalar_last ⟨h, hpc, hp⟩ hlast)
  · intro t mask off
    refine ⟨fun hno => execEngTpop_refused h (State.tapAllows_eq_false ?_), fun hno => execEngTpush_refused h (State.tapAllows_eq_false hno),
      fun f y ha hline hf hend => execEngTpop_ended h ha hline hf hend⟩
    rwa [Nat.zero_add]

end Sys2Proof.Machine
end

section
/-!
PROOF. Taps of the slice engine: TLINE, TPOP, TPUSH and TSTAT, the arrival of a line and an underrun (spec/12_slice_engines.md R347, R353,
R355, R357).
-/
namespace Sys2Proof.Machine

section
variable {s : State} {sl : Slice} {scaler : Bool} {sd : BitVec 5} {vd : BitVec 3} {plane : Fin 8}

@[simp] theorem Eng.loop_setTap (e : Eng) (scaler : Bool) (t : TapSt) : (e.setTap scaler t).loop = e.loop := by
  unfold Eng.setTap; split <;> rfl

/-! ## TLINE and TSTAT -/

theorem packArg_tline (y st : Nat) (last : Bool) :
    packArg [(14, y), (1, b2n last), (1, 0), (8, st)] = y % 2 ^ 14 + 2 ^ 14 * b2n last + 2 ^ 16 * (st % 2 ^ 8) := by
  cases last <;> simp only [packArg, b2n, Bool.false_eq_true, if_false, if_true] <;> omega

theorem packArg_tstat (n : Nat) (bypass : Bool) : packArg [(10, n), (6, 0), (1, b2n bypass)] = n % 2 ^ 10 + 2 ^ 16 * b2n bypass := by
  cases bypass <;> simp only [packArg, b2n, Bool.false_eq_true, if_false, if_true] <;> omega

theorem execEngTline_next {y st : Nat} {last : Bool} {r : List (Nat × Bool × Nat)} (h : s.issues sl)
    (hready : ((s.eng sl).tap scaler).ready = (y, last, st) :: r) :
    let e := ((s.eng sl).setTap scaler { (s.eng sl).tap scaler with ready := r, line := some y, popped := [] }).sset sd
      (BitVec.ofNat 32 (y % 2 ^ 14 + 2 ^ 14 * b2n last + 2 ^ 16 * (st % 2 ^ 8)))
    execEngTline sl scaler sd s =
      .next (s.wentOn sl 1 { e with latch := e.latch.drop (if scaler then evTlines else evTlined), fed := s.now }) := by
  intro e
  refine congrArg _ (State.engIssue_setEng (u := s) h ?_ rfl ?_)
  · simp only [hready, packArg_tline, e]
  · exact (Eng.loop_sset ..).trans (Eng.loop_setTap ..)

theorem execEngTstat_next {f : Frame} (h : s.issues sl) (hf : s.tapFrame sl scaler = some f) :
    execEngTstat sl scaler sd s = .next (s.wentOn sl 1 ((s.eng sl).sset sd (BitVec.ofNat 32
      (ceilDiv ((s.scene (s.eng sl).cam f).tapWidth scaler 0) 16 % 2 ^ 10 + 2 ^ 16 * b2n ((s.eng sl).tap scaler).bypass)))) := by
  refine congrArg _ (State.engIssue_setEng (u := s) h ?_ rfl (Eng.loop_sset ..))
  simp only [hf, packArg_tstat]

/-! ## TPOP -/

/-- The value of a lane past the end of the line (log entry 1). -/
def State.freeLane (s : State) (i : Nat) : BitVec 16 := BitVec.ofNat 16 ((Config.freeValue (s.fresh + i / 4)).toNat >>> (16 * (i % 4)))

/-- A group that ends past the line takes four free values. -/
def State.groupTaken (s : State) (w g : Nat) : State := if 16 * g + 16 ≤ w then s else { s with fresh := s.fresh + 4 }

theorem State.engPc_groupTaken (s : State) (w g a : Nat) : (s.groupTaken w g).engPc a = s.engPc a := by
  unfold State.groupTaken; split <;> rfl

theorem State.groupTaken_eq (s : State) (w g : Nat) : ∃ n, s.groupTaken w g = { s with fresh := n } := by
  unfold State.groupTaken
  split
  · exact ⟨s.fresh, rfl⟩
  · exact ⟨_, rfl⟩

theorem execEngTpop_next {f : Frame} {y : Nat} (h : s.issues sl) (ha : s.tapAllows sl scaler plane.val 0 = true)
    (hline : ((s.eng sl).tap scaler).line = some y) (hf : s.tapFrame sl scaler = some f) :
    let t := (s.eng sl).tap scaler
    let p := plane.val
    let c := s.scene (s.eng sl).cam f
    let w := c.tapWidth scaler p
    let g := t.popped.get p 0
    16 * g < w → execEngTpop sl scaler vd plane s = .next ((s.groupTaken w g).wentOn sl 1
      (((s.eng sl).setTap scaler { t with popped := t.popped.set p (g + 1) }).vset vd
        (lanes fun i => if 16 * g + i < w then BitVec.ofNat 16 (c.popped scaler p (16 * g + i) y) else s.freeLane i))) := by
  intro t p c w g hg
  have hmore : ¬ceilDiv w 16 ≤ g := fun hno => absurd ((ceilDiv_le_iff w g).mp hno) (Nat.not_le.mpr hg)
  refine congrArg _ (State.engIssue_setEng h ?_ (State.engPc_groupTaken s w g sl) ((Eng.loop_vset ..).trans (Eng.loop_setTap ..)))
  simp only [ha, hline, hf, t, Bool.not_true, Bool.false_eq_true, if_false]
  exact if_neg hmore

/-! ## TPUSH -/

/-- A frame with a group pushed to a plane at a line: an index clamped, the rest as pushed (R355). -/
def Frame.pushTap (scaler : Bool) (p y : Nat) (l : List (BitVec 16)) (f : Frame) : Frame :=
  let v := l.map fun x => if scaler ∧ p = 7 then unsigned 16 (clamp (-128) 127 x.toInt) else x.toNat
  let key := tapKey (b2n scaler) p y
  { f with taps := f.taps.set key (f.taps.get key [] ++ v) }

section
variable {y : Nat} (h : s.issues sl) (ha : s.tapAllows sl scaler plane.val 8 = true) (hline : ((s.eng sl).tap scaler).line = some y)
include h ha hline

theorem execEngTpush_pushed (hb : ((s.eng sl).tap scaler).bypass = false) : execEngTpush sl scaler vd plane s =
    .next ((s.onFrame (s.eng sl).cam ((s.eng sl).tap scaler).fn (Frame.pushTap scaler plane.val y ((s.eng sl).vget vd))).wentOn sl 1
      (s.eng sl)) := by
  refine congrArg _ (State.engIssue_seq h ?_ (State.SameEngine.refl.onFrame ..))
  simp only [ha, hline, hb, Bool.not_true, Bool.false_eq_true, if_false]
  rfl

theorem execEngTpush_discarded (hb : ((s.eng sl).tap scaler).bypass = true) :
    execEngTpush sl scaler vd plane s = .next (s.wentOn sl 1 (s.eng sl)) := by
  refine congrArg _ (State.engIssue_seq h ?_ State.SameEngine.refl)
  simp only [ha, hline, hb, Bool.not_true, Bool.false_eq_true, if_false, if_true]

end

/-! ## A line arrives, a group is late (R353, R357) -/

theorem execTapLineAvailable_arrives {fn : Word} {line : BitVec 13} {f : Frame} {y : Nat} (hy : line.toNat = y)
    (hf : (s.slFrames (s.eng sl).cam sl).find? (fun f => f.fn == fn.toNat) = some f) :
    let e := s.eng sl
    let t := e.tap scaler
    let h := if scaler then (s.scene e.cam f).inH else f.height
    let st := f.lstate (min y (f.height - 1))
    y < h → execTapLineAvailable sl scaler fn line s =
      .next ((s.setEng sl (e.setTap scaler { t with fn := f.fn, ready := t.ready ++ [(y, decide (y + 1 = h), st)] })).post sl
        (if scaler then evTlines else evTlined) [y, st]) := by
  intro e t h st hlt
  subst hy
  simp only [execTapLineAvailable, hf]
  exact congrArg _ (if_neg (Nat.not_le.mpr hlt))

theorem execTapUnderrun_bypasses (hen : s.flag (tapEnFld scaler sl) = true) (hb : ((s.eng sl).tap scaler).bypass = false) :
    let e := s.eng sl
    let t := e.tap scaler
    let u := (s.setEng sl (e.setTap scaler { t with bypass := true })).setFld (tapBypFld scaler sl) 1
    execTapUnderrun sl scaler s =
      .next (((u.onFrame e.cam t.fn fun f => f.sflag 7).bump (SL.ENGCNT0_UNDERRUN sl) 1).report 0x3055 sl (b2n scaler)) := by
  intro e t u
  have hgate : ¬(!s.flag (tapEnFld scaler sl) || ((s.eng sl).tap scaler).bypass) = true := by
    rw [hen, hb]
    decide
  exact congrArg _ (if_neg hgate)

end

/-! ## The statement -/

/-- Settles O27: each instruction by what stands at its tap, a group by whether the line holds all of it. -/
theorem engineTapResults : Obligations.EngineTapResults := by
  unfold Obligations.EngineTapResults
  refine ⟨fun s sl sd vd scaler plane h => ?_, fun s sl scaler fn line => ?_⟩
  · intro e t p
    refine ⟨fun y last st r hready => execEngTline_next h hready, fun f y ha hline hf => ?_, fun y ha hline => ?_,
      fun f hf => execEngTstat_next h hf⟩
    · intro c w g e1
      have hpop := execEngTpop_next (vd := vd) h ha hline hf
      refine ⟨fun hfull => ?_, fun hsome => ?_⟩
      · have htaken : s.groupTaken w g = s := if_pos (by omega)
        refine (hpop (show 16 * g < w by omega)).trans ?_
        rw [htaken]
        refine congrArg (fun l => Host.Outcome.next (s.wentOn sl 1 (e1.vset vd l))) (lanes_congr fun i hi => if_pos ?_)
        show 16 * g + i < w
        omega
      · obtain ⟨n, hn⟩ := s.groupTaken_eq w g
        refine ⟨s.freeLane, n, (hpop hsome).trans ?_⟩
        rw [hn]
    · exact ⟨execEngTpush_pushed h ha hline, execEngTpush_discarded h ha hline⟩
  · intro e t y
    exact ⟨fun f hf => execTapLineAvailable_arrives rfl hf, fun hen hb => execTapUnderrun_bypasses hen hb⟩

end Sys2Proof.Machine
end

section
/-!
PROOF. Sensor commands and the parameter queue of the slice engine (spec/12_slice_engines.md R349, R350).
-/
namespace Sys2Proof.Machine

section
variable {s : State} {sl : Slice} {sd sa sb : BitVec 5} {len : Fin 4}

/-! ## SRD and SWR (R349) -/

theorem State.SameEngine.sensorIssue {o : State} {n : Nat} (h : State.SameEngine n o s) (c : BcCmd) :
    State.SameEngine n o (s.sensorIssue n c) :=
  (h.bcQueue ..).bump _ (slReg_mod n (by decide))

section
variable (h : s.issues sl) (hfew : s.fld (SL.SCQSTAT_OUTST sl) < 4) (halign : ((s.eng sl).sget sb).toNat % 8 = 0)
  (hin : ((s.eng sl).sget sb).toNat < 0x8000)
include h hfew

theorem execEngSwr_queued (hoff : 0x1000 ≤ ((s.eng sl).sget sa).toNat % 2 ^ 24) : execEngSwr sl sa sb len s =
    .next ((s.sensorIssue sl (cmdWrite 5 (((s.eng sl).sget sa).toNat % 2 ^ 24) (leBytes (len.val + 1) ((s.eng sl).sget sb).toNat)
      (.engine sl 0 false))).wentOn sl 1 (s.eng sl)) :=
  congrArg _ (State.engIssue_seq h ((if_neg (Nat.not_le.mpr hfew)).trans (if_neg (Nat.not_lt.mpr hoff)))
    (State.SameEngine.refl.sensorIssue _))

theorem execEngSwr_refused (hoff : ((s.eng sl).sget sa).toNat % 2 ^ 24 < 0x1000) :
    execEngSwr sl sa sb len s = .next ((s.bump (SL.SCQSTAT_SCQERR sl) 1).wentOn sl 1 (s.eng sl)) :=
  congrArg _ (State.engIssue_seq h ((if_neg (Nat.not_le.mpr hfew)).trans (if_pos hoff))
    (State.SameEngine.refl.bump _ (slReg_mod sl (by decide))))

include halign hin

theorem execEngSrd_queued (hoff : 0x1000 ≤ ((s.eng sl).sget sa).toNat % 2 ^ 24) :
    let a := ((s.eng sl).sget sb).toNat
    let n := len.val + 1
    execEngSrd sl sa sb len s = .next (((s.dataPoke sl a [0xFF, BitVec.ofNat 8 n, 0, 0, 0, 0, 0, 0]).sensorIssue sl
      (cmdRead 5 (((s.eng sl).sget sa).toNat % 2 ^ 24) n (.engine sl a true))).wentOn sl 1 (s.eng sl)) := by
  intro a n
  have hend : ¬0x8000 < a + 8 := by omega
  exact congrArg _ (State.engIssue_seq h ((if_neg (not_not_intro halign)).trans ((if_neg hend).trans
    ((if_neg (Nat.not_le.mpr hfew)).trans (if_neg (Nat.not_lt.mpr hoff))))) ((State.SameEngine.refl.dataPoke ..).sensorIssue _))

theorem execEngSrd_refused (hoff : ((s.eng sl).sget sa).toNat % 2 ^ 24 < 0x1000) :
    let a := ((s.eng sl).sget sb).toNat
    execEngSrd sl sa sb len s = .next (((s.dataPoke sl a [0xF1, BitVec.ofNat 8 (len.val + 1), 0, 0, 0, 0, 0, 0]).bump
      (SL.SCQSTAT_SCQERR sl) 1).wentOn sl 1 (s.eng sl)) := by
  intro a
  have hend : ¬0x8000 < a + 8 := by omega
  exact congrArg _ (State.engIssue_seq h ((if_neg (not_not_intro halign)).trans ((if_neg hend).trans
    ((if_neg (Nat.not_le.mpr hfew)).trans (if_pos hoff)))) ((State.SameEngine.refl.dataPoke ..).bump _ (slReg_mod sl (by decide))))

end

/-! ## PQPUT (R341, R350) -/

theorem State.accessTrap_none_of_nat {a n align : Nat} {wr : Bool} (h : s.MayAccess sl a n align) :
    s.accessTrap sl (a : Int) n align wr = none := by
  have hin := h.inRange
  have ha : ((a : Int) % (2 ^ 32 : Nat)).toNat = a := by omega
  exact State.accessTrap_none (by rwa [ha])

theorem State.MayAccess.took {a n align : Nat} (h : s.MayAccess sl a n align) : s.took.MayAccess sl a n align :=
  ⟨h.aligned, h.inRange, h.clean⟩

theorem execEngPqput_submits (h : s.issues sl) (ha : s.MayAccess sl ((s.eng sl).sget sa).toNat 16 16) :
    let r := s.took.pqPut (s.eng sl).cam (s.eng sl).port.isSome (pqDecode (s.dataBytes sl ((s.eng sl).sget sa).toNat 16))
    execEngPqput sl sd sa s =
      .next (r.2.wentOn sl (1 + s.free.toNat % 64) ((r.2.eng sl).sset sd (BitVec.ofNat 32 r.1))) := by
  intro r
  have hsame : State.SameEngine sl s r.2 := (State.SameEngine.refl.of_eq (s := s) (t := s.took) rfl rfl).pqPut ..
  refine congrArg _ (State.engIssue_setEng h ?_ hsame.pc ((Eng.loop_sset ..).trans (congrArg Eng.loop hsame.eng)))
  simp only [State.accessTrap_none_of_nat ha.took]
  rfl

end

/-! ## The statement -/

/-- Settles O28: SRD and SWR by the offset they name, PQPUT by what the queue answers, the rest as a register read. -/
theorem engineQueueResults : Obligations.EngineQueueResults := by
  unfold Obligations.EngineQueueResults
  refine ⟨fun s sl sd sa sb len h => ?_, fun s sl sd sa h => ?_⟩
  · intro e port off a n record
    refine ⟨congrArg _ (State.engIssue_setEng (u := s) h rfl rfl (Eng.loop_sset ..)),
      fun hfew halign hin => ⟨fun hoff => ?_, execEngSrd_refused h hfew halign hin⟩,
      fun hfew => ⟨execEngSwr_queued h hfew, execEngSwr_refused h hfew⟩⟩
    have hcam : ((record 0xFF).eng sl).cam = port := congrArg Eng.cam (State.SameEngine.refl.dataPoke ..).eng
    rw [← hcam]
    exact execEngSrd_queued h hfew halign hin hoff
  · intro e a write
    refine ⟨fun ha hin hclean => ?_, congrArg _ (State.engIssue_setEng (u := s) h rfl rfl (Eng.loop_sset ..)),
      congrArg _ (State.engIssue_setEng (u := s) h rfl rfl (Eng.loop_sset ..))⟩
    have hcycles : 1 + s.free.toNat % 64 ≤ 64 := by omega
    have hend : a + 16 ≤ 0x8000 := by omega
    exact ⟨_, Nat.le_add_right .., hcycles, execEngPqput_submits h ⟨ha, hend, hclean⟩⟩

end Sys2Proof.Machine
end

section
/-!
PROOF. Events of the slice engine: EVWAIT and what ends it, EVARG, the time, REPORT and COMMIT (spec/12_slice_engines.md R338, R351, R354).
-/
namespace Sys2Proof.Machine

section
variable {s : State} {sl : Slice} {sd sa : BitVec 5} {imm : BitVec 15}

/-! ## EVWAIT (R351, R354) -/

theorem State.pollWait_quiet {n m d : Nat} {limit : Option Nat} (hw : (s.eng n).wait = some (m, d, limit))
    (hl : (s.eng n).lowest m = none) : s.pollWait n = s := by
  simp only [State.pollWait, hw, hl]

theorem State.pollWait_ends {n m d c : Nat} {limit : Option Nat} (hw : (s.eng n).wait = some (m, d, limit))
    (hl : (s.eng n).lowest m = some c) : s.pollWait n = s.endWait n d c := by
  simp only [State.pollWait, hw, hl]

/-- The engine waits for an event of a mask, with its time limit (R351). -/
def State.evWaits (s : State) (sl : Slice) (sd sa : BitVec 5) (m : Nat) : State :=
  let us := ((s.eng sl).sget sa).toNat
  (s.setEng sl { s.eng sl with wait := some (m, sd.toNat, if us = 0 then none else some (s.now + 1000 * us)) }).setFld
    (SL.ENGSTAT_STATE sl) esWaiting

theorem State.eng_evWaits (s : State) (sl : Slice) (sd sa : BitVec 5) (m : Nat) : (s.evWaits sl sd sa m).eng sl = { s.eng sl with
    wait := some (m, sd.toNat, if ((s.eng sl).sget sa).toNat = 0 then none else some (s.now + 1000 * ((s.eng sl).sget sa).toNat)) } := by
  rw [State.evWaits, State.eng_setFld, State.eng_setEng]

theorem execEngEvwait_eq (h : s.fetches sl) (hm : imm.toNat < 256) :
    execEngEvwait sl sd sa imm s = .next ((s.evWaits sl sd sa imm.toNat).pollWait sl) :=
  congrArg _ (State.engIssue_again h (if_neg (Nat.not_le.mpr hm)))

theorem execEngEvwait_waits (h : s.fetches sl) (hm : imm.toNat < 256) (hl : (s.eng sl).lowest imm.toNat = none) :
    execEngEvwait sl sd sa imm s = .next (s.evWaits sl sd sa imm.toNat) := by
  have heng := s.eng_evWaits sl sd sa imm.toNat
  rw [execEngEvwait_eq h hm, State.pollWait_quiet (congrArg Eng.wait heng)]
  rw [heng]
  exact hl

theorem execEngEvwait_ends {c : Nat} (h : s.fetches sl) (hm : imm.toNat < 256) (hl : (s.eng sl).lowest imm.toNat = some c) :
    execEngEvwait sl sd sa imm s = .next ((s.evWaits sl sd sa imm.toNat).endWait sl sd.toNat c) := by
  have heng := s.eng_evWaits sl sd sa imm.toNat
  rw [execEngEvwait_eq h hm, State.pollWait_ends (congrArg Eng.wait heng)]
  rw [heng]
  exact hl

theorem State.endWait_wentOn {d code : Nat} (hn : (nextIndex (s.engPc sl) (s.eng sl).loop).1 < 8192) :
    let e := (s.eng sl).sset (BitVec.ofNat 5 d) (BitVec.ofNat 32 code)
    s.endWait sl d code = (s.setFld (SL.ENGSTAT_STATE sl) esRunning).wentOn sl 1
      { e with last := e.latch.get code [0, 0, 0, 0], latch := e.latch.drop code, wait := none, fed := s.now } := by
  intro e
  have hpc : (s.setFld (SL.ENGSTAT_STATE sl) esRunning).engPc sl = s.engPc sl :=
    (State.SameEngine.refl.setFld _ (slReg_mod sl (by decide))).pc
  refine State.engFlow_wentOn (s := s.setFld (SL.ENGSTAT_STATE sl) esRunning) ?_ 1
  have hloop : e.loop = (s.eng sl).loop := Eng.loop_sset ..
  rw [hpc]
  exact hloop ▸ hn

theorem execEngEvwaitTimeout_ends {m d t : Nat} (hw : (s.eng sl).wait = some (m, d, some t)) :
    execEngEvwaitTimeout sl s = .next (s.endWait sl d 7) := by
  simp only [execEngEvwaitTimeout, hw]
  rfl

/-! ## The time (R351) -/

theorem Eng.sset_timeHi (e : Eng) (r : BitVec 5) (v : BitVec 32) (n : Nat) :
    { e.sset r v with timeHi := n } = { e with timeHi := n }.sset r v := by
  unfold Eng.sset; split <;> rfl

theorem execEngineTimeNow_next (h : s.issues sl) :
    execEngineTimeNow sl sd s = .next (s.wentOn sl 1 ({ s.eng sl with timeHi := s.now / 2 ^ 32 }.sset sd (BitVec.ofNat 32 s.now))) := by
  rw [← Eng.sset_timeHi]
  refine congrArg _ (State.engIssue_setEng (u := s) h rfl rfl ?_)
  exact Eng.loop_sset ..

theorem execEngEvarg_next (h : s.issues sl) (hn : imm.toNat < 4) : execEngEvarg sl sd imm s =
    .next (s.wentOn sl 1 ((s.eng sl).sset sd (BitVec.ofNat 32 ((s.eng sl).last.getD imm.toNat 0)))) :=
  congrArg _ (State.engIssue_setEng (u := s) h (if_neg (Nat.not_le.mpr hn)) rfl (Eng.loop_sset ..))

theorem execEngReport_next (h : s.issues sl) :
    execEngReport sl sa s = .next ((s.report 0x3054 sl ((s.eng sl).sget sa).toNat).wentOn sl 1 (s.eng sl)) :=
  congrArg _ (State.engIssue_seq h rfl (State.SameEngine.refl.report ..))

/-! ## COMMIT (R338, R358, R365) -/

theorem execEngCommit_copies (h : s.issues sl) (hclean : s.windowPoisoned sl = false) (hport : (s.eng sl).port.isSome = true) :
    execEngCommit sl s = .next (s.wentOn sl 64 { s.eng sl with shadow := some (s.dataBytes sl 0x7C00 1024) }) := by
  refine congrArg _ (State.engIssue_setEng (u := s) h ?_ rfl ?_)
  · simp only [State.commitWindow, hclean, hport, Bool.false_eq_true, if_false, if_true]
  · rfl

theorem execEngCommit_lost (h : s.issues sl) (hclean : s.windowPoisoned sl = false) (hport : (s.eng sl).port = none) :
    execEngCommit sl s = .next ((s.bump (SL.ENGCNT1_LOSTCOMMIT sl) 1).wentOn sl 64 (s.eng sl)) := by
  refine congrArg _ (State.engIssue_seq h ?_ (State.SameEngine.refl.bump _ (slReg_mod sl (by decide))))
  simp only [State.commitWindow, hclean, hport, Option.isSome_none, Bool.false_eq_true, if_false]

theorem execEngCommit_poisoned (h : s.fetches sl) (hbad : s.windowPoisoned sl = true) :
    execEngCommit sl s = .next (s.engTrap sl 5) := by
  refine congrArg _ (State.engIssue_trap h ?_)
  simp only [State.commitWindow, hbad, if_true]

end

/-! ## The statement -/

/-- Settles O29: EVWAIT by what is latched, COMMIT by its window and the service, the rest as registers. -/
theorem engineEventResults : Obligations.EngineEventResults := by
  unfold Obligations.EngineEventResults
  refine ⟨fun s sl sd sa imm h => ?_, fun s sl mask d t code => ?_⟩
  · intro e us limit waits write
    exact ⟨execEngEvwait_waits h.1, fun c => execEngEvwait_ends h.1, execEngEvarg_next h, execEngineTimeNow_next h,
      congrArg _ (State.engIssue_setEng (u := s) h rfl rfl (Eng.loop_sset ..)), execEngReport_next h,
      fun hclean => ⟨execEngCommit_copies h hclean, execEngCommit_lost h hclean⟩, execEngCommit_poisoned h.1⟩
  · exact ⟨State.endWait_wentOn, execEngEvwaitTimeout_ends⟩

end Sys2Proof.Machine
end

section
/-!
PROOF. The mover of the slice engine, HALT, and what happens to an engine from outside (spec/12_slice_engines.md R344, R352, R358, R359,
R367).
-/
namespace Sys2Proof.Machine

section
variable {s : State} {sl : Slice} {sd sa : BitVec 5} {e : Eng} {read : Bool}

/-! ## A transfer starts (R352) -/

/-- The data address and the length of a transfer that R352 admits. -/
structure MoverFits (la len : Nat) : Prop where
  addrAligned : la % 64 = 0
  lenAligned : len % 64 = 0
  least : 64 ≤ len
  most : len ≤ 8192
  inRange : la + len ≤ 0x8000

/-- A descriptor that may be read leads to a transfer, or to its error, by the tests of R352. -/
theorem State.moverStart_eq (hidle : e.mover.state ≠ 1) (ha : s.MayAccess sl (e.sget sa).toNat 16 1) :
    let d := s.dataBytes sl (e.sget sa).toNat 16
    let win := fieldAt d 0 1
    let off := fieldAt d 4 4
    let la := fieldAt d 8 2
    let len := fieldAt d 10 2
    let tag := fieldAt d 12 4
    s.moverStart sl e sa read = (s.setEng sl { e with mover :=
      if (decide (1 < win) || (!read && win == 0) || la % 64 != 0 || len % 64 != 0 || decide (len < 64 ∨ 8192 < len)
        || decide ((if win = 0 then e.tabLen else 65536) < off + len) || decide (0x8000 < la + len)) = true then ⟨2, tag, none⟩
      else ⟨1, tag, some (read, (if win = 0 then e.tabAddr else traceBase sl) + off, la, len)⟩ }, .seq) := by
  simp only [State.moverStart, if_neg hidle, State.accessTrap_none_of_nat ha]
  rfl

theorem State.moverStart_runs (hidle : e.mover.state ≠ 1) (ha : s.MayAccess sl (e.sget sa).toNat 16 1) :
    let d := s.dataBytes sl (e.sget sa).toNat 16
    let win := fieldAt d 0 1
    let off := fieldAt d 4 4
    let la := fieldAt d 8 2
    let len := fieldAt d 10 2
    win ≤ 1 → (read = true ∨ win ≠ 0) → MoverFits la len → off + len ≤ (if win = 0 then e.tabLen else 65536) →
    s.moverStart sl e sa read = (s.setEng sl { e with mover :=
      ⟨1, fieldAt d 12 4, some (read, (if win = 0 then e.tabAddr else traceBase sl) + off, la, len)⟩ }, .seq) := by
  intro d win off la len hwin hread hfits hsize
  obtain ⟨hla, hlen, hleast, hmost, hrange⟩ := hfits
  have hway : (!read && win == 0) = false := by
    rcases hread with hr | hw
    · rw [hr, Bool.not_true, Bool.false_and]
    · rw [beq_eq_false_iff_ne.mpr hw, Bool.and_false]
  rw [State.moverStart_eq hidle ha, if_neg]
  simp only [Bool.or_eq_true, decide_eq_true_eq, bne_iff_ne, not_or]
  exact ⟨⟨⟨⟨⟨⟨Nat.not_lt.mpr hwin, ne_true_of_eq_false hway⟩, not_not_intro hla⟩, not_not_intro hlen⟩,
    Nat.not_lt.mpr hleast, Nat.not_lt.mpr hmost⟩, Nat.not_lt.mpr hsize⟩, Nat.not_lt.mpr hrange⟩

/-- The table window takes no writes (R352). -/
theorem State.moverStart_refused (hidle : e.mover.state ≠ 1) (ha : s.MayAccess sl (e.sget sa).toNat 16 1) :
    let d := s.dataBytes sl (e.sget sa).toNat 16
    fieldAt d 0 1 = 0 → s.moverStart sl e sa false = (s.setEng sl { e with mover := ⟨2, fieldAt d 12 4, none⟩ }, .seq) := by
  intro d hwin
  rw [State.moverStart_eq hidle ha, if_pos]
  simp only [Bool.or_eq_true, Bool.not_false, Bool.true_and, beq_iff_eq]
  exact .inl (.inl (.inl (.inl (.inl (.inr hwin)))))

theorem execEngDmard_moves {m : Mover} (h : s.issues sl)
    (hm : s.moverStart sl (s.eng sl) sa true = (s.setEng sl { s.eng sl with mover := m }, .seq)) :
    execEngDmard sl sa s = .next (s.wentOn sl 1 { s.eng sl with mover := m }) := by
  refine congrArg _ (State.engIssue_setEng h hm rfl ?_)
  rfl

theorem execEngDmawr_moves {m : Mover} (h : s.issues sl)
    (hm : s.moverStart sl (s.eng sl) sa false = (s.setEng sl { s.eng sl with mover := m }, .seq)) :
    execEngDmawr sl sa s = .next (s.wentOn sl 1 { s.eng sl with mover := m }) := by
  refine congrArg _ (State.engIssue_setEng h hm rfl ?_)
  rfl

/-! ## A transfer ends (R352, R616) -/

theorem packArg_dmast (state tag : Nat) : packArg [(2, state), (14, 0), (16, tag)] = state % 4 + 2 ^ 16 * (tag % 2 ^ 16) := by
  simp only [packArg]
  omega

theorem execEngDmast_next (h : s.issues sl) : execEngDmast sl sd s = .next (s.wentOn sl 1
    ((s.eng sl).sset sd (BitVec.ofNat 32 ((s.eng sl).mover.state % 4 + 2 ^ 16 * ((s.eng sl).mover.tag % 2 ^ 16))))) := by
  rw [← packArg_dmast]
  exact congrArg _ (State.engIssue_setEng (u := s) h rfl rfl (Eng.loop_sset ..))

theorem execEngineMoverDone_ends {w l n : Nat} (hjob : (s.eng sl).mover.job = some (read, w, l, n)) :
    let r := s.copyClean (if read then w else engDataBase sl + l) (if read then engDataBase sl + l else w) n
    execEngineMoverDone sl s =
      .next (r.1.setEng sl { s.eng sl with mover := ⟨if r.2 then 2 else 0, (s.eng sl).mover.tag, none⟩ }) := by
  simp only [execEngineMoverDone, hjob]
  cases read <;> rfl

/-! ## From outside (R358, R359, R364, R367) -/

theorem execEngineWatchdog_stops (hon : s.domainOn .pixel = true)
    (hst : s.fld (SL.ENGSTAT_STATE sl) = 2 ∨ s.fld (SL.ENGSTAT_STATE sl) = 3) : execEngineWatchdog sl s = .next (s.engTrap sl 7) := by
  refine congrArg _ (if_pos ?_)
  rw [hon, Bool.true_and, Bool.or_eq_true, beq_iff_eq, beq_iff_eq]
  exact hst

theorem execEngmdataRead_shows {path : Path} (hon : s.domainOn .pixel = true) :
    let a := 4 * (s.fld (SL.ENGMADDR_ADDR sl) / 4)
    let base := if s.flag (SL.ENGMADDR_SPACE sl) then engDataBase sl else engCodeBase sl
    execEngmdataRead path sl s = .next { s.setFld (SL.ENGMADDR_ADDR sl) ((a + 4) % 0x8000) with
      readOut := s.readOut.set path.num (leBytes 4 (s.num (base + a) 4 % 2 ^ 32)) } := by
  intro a base
  rw [← BitVec.toNat_ofNat]
  exact congrArg _ (if_pos hon)

theorem execEngineLoad_loads {p : Nat} {c : Cam} {u : State} (hon : s.domainOn .pixel = true)
    (hcam : s.cams.find? (fun x => x.2.move.map (·.1) == some sl.val) = some (p, c)) (hmove : c.move.map (·.2) ≠ some mvProgram)
    (hload : (s.setSstate sl ssLoading).loadEngine sl (s.progId p (s.setFor p)) = some u) :
    execEngineLoad sl s = .next (u.setCam p { c with moveTry := 0, moveReady := true }) := by
  have hkind : (c.move.map (·.2) == some mvProgram) = false := beq_eq_false_iff_ne.mpr hmove
  simp only [execEngineLoad, hon, hcam, hkind, hload, Bool.not_true, Bool.false_eq_true, if_false]

end

/-! ## The statement -/

/-- Settles O30: a descriptor by its window, a transfer that ends by its direction, the rest by the lemma of its command. -/
theorem engineMoverResults : Obligations.EngineMoverResults := by
  unfold Obligations.EngineMoverResults
  refine ⟨fun s sl sd sa => ?_, fun s sl path => ?_⟩
  · intro e a d win off la len tag fits starts
    refine ⟨fun h hidle hend hclean => ?_, execEngDmast_next, fun read w l n hjob => execEngineMoverDone_ends hjob⟩
    have ha : s.MayAccess sl a 16 1 := ⟨Nat.mod_one a, hend, hclean⟩
    have hfit : fits → MoverFits la len := fun ⟨hla, hlen, hleast, hmost, hrange⟩ => ⟨hla, hlen, hleast, hmost, hrange⟩
    have htrace : win = 1 → fits → off + len ≤ 65536 → ∀ read, s.moverStart sl e sa read =
        (s.setEng sl { e with mover := ⟨1, tag, some (read, traceBase sl + off, la, len)⟩ }, .seq) := by
      intro hwin hf hsize read
      have hne : win ≠ 0 := by omega
      have hrun := State.moverStart_runs (read := read) hidle ha (Nat.le_of_eq hwin) (.inr hne) (hfit hf)
        (Nat.le_trans hsize (Nat.le_of_eq (if_neg hne).symm))
      rwa [if_neg hne] at hrun
    refine ⟨fun hwin hf hsize => ?_, fun hwin hf hsize => ⟨execEngDmard_moves h (htrace hwin hf hsize true),
      execEngDmawr_moves h (htrace hwin hf hsize false)⟩, fun hwin => execEngDmawr_moves h (State.moverStart_refused hidle ha hwin)⟩
    have hrun := State.moverStart_runs (read := true) hidle ha (Nat.le_trans (Nat.le_of_eq hwin) (Nat.zero_le 1)) (.inl rfl) (hfit hf)
      (Nat.le_trans hsize (Nat.le_of_eq (if_pos hwin).symm))
    rw [if_pos hwin] at hrun
    exact execEngDmard_moves h hrun
  · intro e
    exact ⟨fun h => congrArg _ (State.engIssue_stop h rfl), execEngineWatchdog_stops, fun hon => congrArg _ (if_pos hon),
      fun hon => congrArg _ (if_pos hon), execEngmdataRead_shows, fun p c u => execEngineLoad_loads⟩

end Sys2Proof.Machine
end

section
/-!
PROOF. Acknowledgement and replay on the uplink and on the peer link (spec/13_uplink.md R374, R376, R377, R391, spec/17_pairing.md R483).
-/
namespace Sys2Proof.Machine

/-! ## What a packet to the partner leaves alone (R73, R374, R493) -/

@[simp] theorem State.toLanes_pl (s : State) (l : Link) (cs : List Crumb) : (s.toLanes l cs).pl = s.pl := by
  obtain ⟨_, _, h⟩ := s.toLanes_lanesOnly l cs
  rw [h]

@[simp] theorem State.peerPut_pl (s : State) (p : Pkt) (lseq : Nat) : (s.peerPut p lseq).pl = s.pl := s.toLanes_pl .peer _

@[simp] theorem State.peerNew_mem (s : State) (p : Pkt) : (s.peerNew p).mem = s.mem := by
  obtain ⟨_, _, _, h⟩ := s.peerNew_peerOnly p
  rw [h]

/-- A state that differs from another at most in the peer link, its link layer, the pair and what has been sent. -/
def State.PairOnly (s t : State) : Prop := ∃ ls out x y, t = { s with links := ls, sent := out, pl := x, pair := y }

theorem State.PairOnly.refl (s : State) : s.PairOnly s := ⟨s.links, s.sent, s.pl, s.pair, rfl⟩

theorem State.PairOnly.trans {a b c : State} (h : a.PairOnly b) (k : b.PairOnly c) : a.PairOnly c := by
  obtain ⟨_, _, _, _, rfl⟩ := h
  obtain ⟨ls, out, x, y, rfl⟩ := k
  exact ⟨ls, out, x, y, rfl⟩

theorem State.PeerOnly.pairOnly {s t : State} (h : s.PeerOnly t) : s.PairOnly t := by
  obtain ⟨ls, out, x, rfl⟩ := h
  exact ⟨ls, out, x, s.pair, rfl⟩

theorem State.setPair_pairOnly (s : State) (y : Pair) : s.PairOnly (s.setPair y) := ⟨s.links, s.sent, s.pl, y, rfl⟩

theorem State.sendDone_pairOnly (s : State) (p k fn : Nat) : s.PairOnly (s.sendDone p k fn) := (s.peerSend_peerOnly _ _).pairOnly

theorem State.delivered_pairOnly (s : State) (sid fn : Nat) : s.PairOnly (s.delivered sid fn) := by
  unfold State.delivered
  extract_lets p a x u all
  have hu : s.PairOnly u := s.setPair_pairOnly _
  split
  · exact .refl s
  · split
    · exact s.sendDone_pairOnly _ _ _
    · split
      · exact hu.trans (u.sendDone_pairOnly _ _ _)
      · exact hu

theorem State.deliveredAll_pairOnly (s : State) (l : List Held) : s.PairOnly (s.deliveredAll l) := by
  induction l generalizing s with
  | nil => exact .refl s
  | cons h r ih =>
    unfold State.deliveredAll
    split
    · refine State.PairOnly.trans ?_ (ih _)
      split
      · exact s.delivered_pairOnly _ _
      · exact .refl s
    · exact ih s

@[simp] theorem State.deliveredAll_mem (s : State) (l : List Held) : (s.deliveredAll l).mem = s.mem := by
  obtain ⟨_, _, _, _, h⟩ := s.deliveredAll_pairOnly l
  rw [h]

@[simp] theorem State.deliveredAll_upl (s : State) (l : List Held) : (s.deliveredAll l).upl = s.upl := by
  obtain ⟨_, _, _, _, h⟩ := s.deliveredAll_pairOnly l
  rw [h]

@[simp] theorem State.deliveredAll_fld (s : State) (l : List Held) (f : Fld) : (s.deliveredAll l).fld f = s.fld f := by
  obtain ⟨_, _, _, _, h⟩ := s.deliveredAll_pairOnly l
  rw [h]
  rfl

section
variable {s : State} {seq : Nat}

/-! ## Acknowledgements (R376) -/

theorem State.acked_outside :
    let d := (seq + 65536 - s.fld UPL.UPSEQ_TXACK) % 65536
    d = 0 ∨ s.upl.replay.length < d → s.acked seq = s := fun h => if_pos h

/-- The state once the d oldest packets are acknowledged, before the partner is told of them. -/
def State.ackTaken (s : State) (seq d : Nat) : State :=
  let left := s.upl.replay.drop d
  let u := { s with streams := settleLive s.streams (s.upl.replay.take d) }
  (u.setUpl { s.upl with replay := left, again := s.upl.again.filter fun h => left.contains h, ackAt := s.clock }).setFlds
    [(UPL.UPSEQ_TXACK, seq), (UPL.UPRPL_RPLBYTES, heldBytes left)]

theorem State.acked_inWindow :
    let d := (seq + 65536 - s.fld UPL.UPSEQ_TXACK) % 65536
    0 < d → d ≤ s.upl.replay.length → s.acked seq = (s.ackTaken seq d).deliveredAll (s.upl.replay.take d) :=
  fun hpos hle => if_neg (not_or.mpr ⟨Nat.ne_of_gt hpos, Nat.not_lt.mpr hle⟩)

@[simp] theorem State.ackTaken_replay (d : Nat) : (s.ackTaken seq d).upl.replay = s.upl.replay.drop d := by
  rw [State.ackTaken, State.setFlds_upl]
  rfl

@[simp] theorem State.ackTaken_mem (d : Nat) : (s.ackTaken seq d).mem = s.mem := State.setFlds_mem _ _

theorem State.ackTaken_txack (d : Nat) (hseq : seq < 65536) : (s.ackTaken seq d).fld UPL.UPSEQ_TXACK = seq := by
  have hapart : UPL.UPRPL_RPLBYTES.apart UPL.UPSEQ_TXACK = true := by decide
  exact (State.fld_setFlds_cons (by decide) (List.forall_mem_singleton.mpr hapart)).trans (Nat.mod_eq_of_lt hseq)

theorem State.plAcked_outside :
    let d := (seq + 65536 - s.pl.txAck) % 65536
    d = 0 ∨ s.pl.replay.length < d → s.plAcked seq = s := fun h => if_pos h

theorem State.plAcked_inWindow :
    let d := (seq + 65536 - s.pl.txAck) % 65536
    0 < d → d ≤ s.pl.replay.length →
      s.plAcked seq = s.setPl { s.pl with replay := s.pl.replay.drop d, txAck := seq, ackAt := s.clock } :=
  fun hpos hle => if_neg (not_or.mpr ⟨Nat.ne_of_gt hpos, Nat.not_lt.mpr hle⟩)

/-! ## Replays (R377) -/

theorem State.replayAll_of_held (hheld : s.upl.replay ≠ []) : s.replayAll =
    (s.setUpl { s.upl with again := s.upl.replay, replayAt := some s.clock }).bump UPL.UPCNT1_REPLAYS 1 := if_neg hheld

theorem State.startReplay_soon {timeout : Bool} {t : Nat} (ht : s.upl.replayAt = some t) (hsoon : s.clock < t + 10000) :
    s.startReplay timeout = s := by
  simp only [State.startReplay, ht, hsoon, decide_true, or_true, if_true]

theorem State.startReplay_due {timeout : Bool} (hheld : s.upl.replay ≠ []) (hdue : ∀ t, s.upl.replayAt = some t → t + 10000 ≤ s.clock) :
    s.startReplay timeout = if timeout then s.replayAll.bump UPL.UPCNT1_RPLTIMEOUT 1 else s.replayAll := by
  cases hat : s.upl.replayAt with
  | none => simp only [State.startReplay, hat, hheld, Bool.false_eq_true, or_self, if_false]
  | some t =>
    have hlate : ¬s.clock < t + 10000 := Nat.not_lt.mpr (hdue t hat)
    simp only [State.startReplay, hat, hheld, hlate, decide_false, Bool.false_eq_true, or_self, if_false]

theorem State.plReplaySoon_soon {t : Nat} (ht : s.pl.replayAt = some t) (hsoon : s.clock < t + 10000) : s.plReplaySoon = s := by
  simp only [State.plReplaySoon, ht, hsoon, decide_true, if_true]

/-! ## New packets and re-initialisation on the peer link (R374, R391, R483) -/

theorem State.peerNew_pl (p : Pkt) : (s.peerNew p).pl = { s.pl with
    txNext := (s.pl.txNext + 1) % 65536, txcc := s.pl.txcc.set p.tc ((s.pl.txcc.get p.tc 0 + p.blocks) % 2 ^ 32),
    replay := s.pl.replay ++ [(s.pl.txNext, p)], ackAt := if s.pl.replay = [] then s.clock else s.pl.ackAt } := State.peerPut_pl _ _ _

theorem State.pairReinit_pl (cause : Nat) : (s.pairReinit cause).pl = { wait := s.pl.replay.map (·.2) ++ s.pl.wait } := by
  simp only [State.pairReinit, State.setPair_pl, State.bump_pl, State.report_pl]
  rfl

end

/-! ## The statement -/

/-- Settles O41: an acknowledgement by where it lies to the window, a replay by when the last one began, the peer link by its link layer
after the command. -/
theorem acknowledgementAndReplay : Obligations.AcknowledgementAndReplay := by
  unfold Obligations.AcknowledgementAndReplay
  intro s seq timeout hseq d held
  refine ⟨State.acked_outside, fun hpos hle => ?_, fun hheld hdue => ?_, fun t => State.startReplay_soon, State.plAcked_outside,
    fun hpos hle => ?_, fun t => State.plReplaySoon_soon, fun p => ?_, fun cause => ?_⟩
  · rw [State.acked_inWindow hpos hle, State.deliveredAll_upl, State.deliveredAll_fld, State.deliveredAll_mem]
    exact ⟨State.ackTaken_replay d, State.ackTaken_txack d hseq, State.ackTaken_mem d⟩
  · rw [State.startReplay_due hheld hdue, State.replayAll_of_held hheld]
    cases timeout with
    | false => exact ⟨rfl, rfl, rfl⟩
    | true => exact ⟨rfl, rfl, rfl⟩
  · rw [State.plAcked_inWindow hpos hle]
    exact ⟨rfl, rfl, rfl⟩
  · rw [State.peerNew_pl]
    exact ⟨rfl, rfl, State.peerNew_mem s p⟩
  · rw [State.pairReinit_pl]
    exact ⟨rfl, rfl⟩

end Sys2Proof.Machine
end

section
/-!
PROOF. CREDIT packets of the uplink and of the peer link, and the checks that every packet passes first (spec/13_uplink.md R370, R375 to
R379, R382, spec/17_pairing.md R483).
-/
namespace Sys2Proof.Machine

/-! ## The checks of a packet (R368, R375) -/

section
variable {s : State} {h : Crumb} {r : List Crumb}

theorem pktCheck_cons_of_crc8 (hcrc : crc8Good h = true) :
    let plen := bitsOf h.toNat 46 37
    pktCheck (h :: r) = if r.length = plen + 1 ∧ (r.getD plen 0).toNat = crc32Crumbs (h :: r.take plen) then 0 else 2 := by
  simp only [pktCheck, hcrc, Bool.not_true, Bool.false_eq_true, if_false]

theorem pktCheck_cons_of_badCrc8 (hcrc : crc8Good h = false) : pktCheck (h :: r) = 1 := by
  simp only [pktCheck, hcrc, Bool.not_false, if_true]

theorem length_of_pktCheck (hc : pktCheck (h :: r) = 0) : r.length = bitsOf h.toNat 46 37 + 1 := by
  cases hcrc : crc8Good h with
  | false =>
    rw [pktCheck_cons_of_badCrc8 hcrc] at hc
    contradiction
  | true =>
    rw [pktCheck_cons_of_crc8 hcrc] at hc
    split at hc
    · next hgood => exact hgood.1
    · contradiction

/-- A packet that passes its checks holds the payload that its header announces. -/
theorem length_payload_of_pktCheck (hc : pktCheck (h :: r) = 0) : (r.take (bitsOf h.toNat 46 37)).length = bitsOf h.toNat 46 37 := by
  rw [List.length_take, length_of_pktCheck hc]
  exact Nat.min_eq_left (Nat.le_succ _)

variable {k : State → Crumb → List Crumb → State}

theorem State.checked_passes (hc : pktCheck (h :: r) = 0) (hinj : s.upl.injRx = false) :
    s.checked (h :: r) k = k s h (r.take (bitsOf h.toNat 46 37)) := by
  simp only [State.checked, hc, hinj, Bool.false_eq_true, if_false]

theorem State.checked_injected (hc : pktCheck (h :: r) = 0) (hinj : s.upl.injRx = true) :
    s.checked (h :: r) k = ((s.setUpl { s.upl with injRx := false }).bump UPL.UPCNT2_TCRCERR 1).nakState := by
  simp only [State.checked, hc, hinj, if_true]

theorem State.checked_badTrailer (hc : pktCheck (h :: r) = 2) : s.checked (h :: r) k = (s.bump UPL.UPCNT2_TCRCERR 1).nakState := by
  simp only [State.checked, hc]

theorem State.checked_badHeader (hcrc : crc8Good h = false) : s.checked (h :: r) k = (s.bump UPL.UPCNT2_HCRCERR 1).nakState := by
  simp only [State.checked, pktCheck_cons_of_badCrc8 hcrc]

theorem State.plChecked_passes (hup : s.peerUp = true) (hsent : s.pl.initSent = true) (hc : pktCheck (h :: r) = 0) :
    s.plChecked (h :: r) k = k s h (r.take (bitsOf h.toNat 46 37)) := by
  simp only [State.plChecked, hup, hsent, hc, Bool.not_true, Bool.or_self, Bool.false_eq_true, if_false]

theorem State.plChecked_fails (hup : s.peerUp = true) (hsent : s.pl.initSent = true) (hc : pktCheck (h :: r) ≠ 0) :
    s.plChecked (h :: r) k = s.plNak := by
  simp only [State.plChecked, hup, hsent, Bool.not_true, Bool.or_self, Bool.false_eq_true, if_false]
  split
  · next hgood _ => exact absurd hgood hc
  · rfl

end

/-! ## The limits of a CREDIT (R378, R379) -/

theorem creditLimit_eq_bitsOf (l : List Crumb) (c : Nat) :
    creditLimit l c = bitsOf (l.getD (c / 2) 0).toNat (if c % 2 = 0 then 31 else 63) (if c % 2 = 0 then 0 else 32) := by
  unfold creditLimit
  split <;> rfl

theorem creditLimit_lt (l : List Crumb) (c : Nat) : creditLimit l c < 2 ^ 32 := by
  unfold creditLimit
  split
  · exact bitsOf_lt _ 31 0
  · exact bitsOf_lt _ 63 32

theorem Tbl.get_map_of_mem {α : Type} {l : List Nat} {f : Nat → α} {c : Nat} {d : α} (hc : c ∈ l) :
    Tbl.get (l.map fun n => (n, f n)) c d = f c := by
  induction l with
  | nil => cases hc
  | cons n l ih =>
    rw [List.map_cons, Tbl.get]
    split
    · next he => rw [he]
    · next hne => exact ih ((List.mem_cons.mp hc).resolve_left hne)

theorem creditLimits_get (l : List Crumb) {c : Nat} (hc : c < 5) : (creditLimits l).get c 0 = creditLimit l c :=
  Tbl.get_map_of_mem (List.mem_range.mpr hc)

theorem uptxcl_apart {c n : Nat} (h : c ≠ n) : (UPL.UPTXCL_CL c).apart (UPL.UPTXCL_CL n) = true := by
  simp only [Fld.apart, UPL.UPTXCL_CL, UPL.UPTXCL, Bool.or_eq_true, bne_iff_ne]
  omega

/-- Several limits set at once: each register holds the one of its class. -/
theorem State.fld_setFlds_uptxcl {cs : List Nat} (v : Nat → Nat) {c : Nat} (hnd : cs.Nodup) (hc : c ∈ cs) (s : State) :
    (s.setFlds (cs.map fun n => (UPL.UPTXCL_CL n, v n))).fld (UPL.UPTXCL_CL c) = v c % 2 ^ 32 := by
  induction cs generalizing s with
  | nil => cases hc
  | cons n cs ih =>
    obtain ⟨hn, hcs⟩ := List.nodup_cons.mp hnd
    rcases List.mem_cons.mp hc with rfl | hc
    · refine State.fld_setFlds_cons (by decide : 31 < 32) fun x hx => ?_
      obtain ⟨m, hm, rfl⟩ := List.mem_map.mp hx
      exact uptxcl_apart fun he => hn (he ▸ hm)
    · exact ih hcs hc _

theorem State.limits_uptxcl (s : State) (l : List Crumb) {c : Nat} (hc : c < 5) :
    (s.limits l).fld (UPL.UPTXCL_CL c) = creditLimit l c :=
  (State.fld_setFlds_uptxcl _ List.nodup_range (List.mem_range.mpr hc) s).trans (Nat.mod_eq_of_lt (creditLimit_lt l c))

@[simp] theorem State.limits_upl (s : State) (l : List Crumb) : (s.limits l).upl = s.upl := State.setFlds_upl _ _

/-! ## A CREDIT of a form (R370, R375, R378) -/

/-- A packet that passes its checks and is a CREDIT of a form and of the length of R378: INIT, or NAK as said where it is none. -/
structure CreditPacket (h : Crumb) (r : List Crumb) (init nak : Bool) : Prop where
  passes : pktCheck (h :: r) = 0
  isCredit : bitsOf h.toNat 5 0 = pkCredit
  plen : bitsOf h.toNat 46 37 = 3
  isInit : creditInit h = init
  isNak : init = false → creditNak h = nak

namespace CreditPacket
variable {h : Crumb} {r : List Crumb} {init nak : Bool}

theorem ofForm (hg : CreditPacket h r init nak) :
    ¬(bitsOf h.toNat 5 0 ≠ pkCredit ∨ creditInit h ≠ init ∨ (!init) = true ∧ creditNak h ≠ nak) := by
  rintro (hk | hi | ⟨hplain, hn⟩)
  · exact hk hg.isCredit
  · exact hi hg.isInit
  · exact hn (hg.isNak ((Bool.not_eq_true' init).mp hplain))

theorem length_payload (hg : CreditPacket h r init nak) : (r.take 3).length = 3 := by
  have hlen := length_payload_of_pktCheck hg.passes
  rwa [hg.plen] at hlen

end CreditPacket

section
variable {s : State} {h : Crumb} {r : List Crumb} {init nak : Bool} {k : State → List Crumb → Nat → State}

theorem State.onCredit_of_class0 (hup : s.uplOperating = true) (hinj : s.upl.injRx = false) (hg : CreditPacket h r init nak)
    (htc : bitsOf h.toNat 8 6 = 0) : s.onCredit (h :: r) init nak k = k s (r.take 3) (bitsOf h.toNat 36 21) := by
  have hgood : ¬((r.take 3).length ≠ 3 ∨ bitsOf h.toNat 8 6 ≠ 0) := not_or.mpr ⟨not_not_intro hg.length_payload, not_not_intro htc⟩
  rw [State.onCredit, hup, Bool.not_true, if_neg Bool.false_ne_true, State.checked_passes hg.passes hinj, hg.plen, if_neg hg.ofForm,
    if_neg hgood]

theorem State.onCredit_of_otherClass (hup : s.uplOperating = true) (hinj : s.upl.injRx = false) (hg : CreditPacket h r init nak)
    (htc : bitsOf h.toNat 8 6 ≠ 0) : s.onCredit (h :: r) init nak k = s.bump UPL.UPCNT3_BADKIND 1 := by
  rw [State.onCredit, hup, Bool.not_true, if_neg Bool.false_ne_true, State.checked_passes hg.passes hinj, if_neg hg.ofForm,
    if_pos (.inr htc)]

theorem State.plOnCredit_of_class0 (hup : s.peerUp = true) (hsent : s.pl.initSent = true) (hg : CreditPacket h r init nak)
    (htc : bitsOf h.toNat 8 6 = 0) : s.plOnCredit (h :: r) init nak k = k s (r.take 3) (bitsOf h.toNat 36 21) := by
  rw [State.plOnCredit, State.plChecked_passes hup hsent hg.passes, hg.plen, if_neg]
  rintro (hk | hi | hn | hl | ht)
  · exact hg.ofForm (.inl hk)
  · exact hg.ofForm (.inr (.inl hi))
  · exact hg.ofForm (.inr (.inr hn))
  · exact hl hg.length_payload
  · exact ht htc

/-! ## The commands on the uplink (R376, R377, R382) -/

/-- The far end's INIT taken with its limits: one more INIT CREDIT is due, and the link layer may come up (R380, R382). -/
def State.initTaken (s : State) (l : List Crumb) : State :=
  (((s.limits l).setUpl { s.upl with initGot := true, initDue := s.upl.initDue + 1 }).closeClasses [0, 1, 2, 3, 4]).comeUp

theorem execUplCredit_up (hup : s.uplOperating = true) (hloop : s.uplLoops = false) (hinj : s.upl.injRx = false)
    (hg : CreditPacket h r false false) (htc : bitsOf h.toNat 8 6 = 0) (hll : s.flag UPL.UPSTAT_UP = true) :
    execUplCredit (h :: r) s false = .next ((s.limits (r.take 3)).acked (bitsOf h.toNat 36 21)) := by
  rw [execUplCredit, hloop, State.takeCredit, State.onCredit_of_class0 hup hinj hg htc, hll]
  rfl

theorem execUplCredit_otherClass (hup : s.uplOperating = true) (hloop : s.uplLoops = false) (hinj : s.upl.injRx = false)
    (hg : CreditPacket h r false false) (htc : bitsOf h.toNat 8 6 ≠ 0) :
    execUplCredit (h :: r) s false = .next (s.bump UPL.UPCNT3_BADKIND 1) := by
  rw [execUplCredit, hloop, State.takeCredit, State.onCredit_of_otherClass hup hinj hg htc]
  rfl

theorem execUplCreditNak_up (hup : s.uplOperating = true) (hloop : s.uplLoops = false) (hinj : s.upl.injRx = false)
    (hg : CreditPacket h r false true) (htc : bitsOf h.toNat 8 6 = 0) (hll : s.flag UPL.UPSTAT_UP = true) :
    execUplCreditNak (h :: r) s false = .next
      ((((s.limits (r.take 3)).acked (bitsOf h.toNat 36 21)).bump UPL.UPCNT0_NAKRX 1).startReplay false) := by
  rw [execUplCreditNak, hloop, State.takeNak, State.onCredit_of_class0 hup hinj hg htc, hll]
  rfl

theorem execUplCreditInit_class0 (hup : s.uplOperating = true) (hloop : s.uplLoops = false) (hinj : s.upl.injRx = false)
    (hg : CreditPacket h r true false) (htc : bitsOf h.toNat 8 6 = 0) : execUplCreditInit (h :: r) s false =
      .next ((if s.flag UPL.UPSTAT_UP then s.uplRestart 3 else s).initTaken (r.take 3)) := by
  simp only [execUplCreditInit, hloop, State.takeInit, State.onCredit_of_class0 hup hinj hg htc, State.initTaken, Bool.false_eq_true,
    if_false]

/-! ## The commands on the peer link (R483) -/

/-- Classes whose limit lies below the least that the partner must advertise. -/
def shutClasses (l : List Crumb) : List Nat := (if creditLimit l 0 < 1 then [0] else []) ++ if creditLimit l 1 < 17 then [1] else []

/-- The partner's INIT taken with its limits: one more INIT CREDIT leaves, and the link layer may come up. -/
def State.plInitTaken (s : State) (l : List Crumb) : State :=
  ((s.setPl { s.pl with txcl := creditLimits l, initGot := true, closed := shutClasses l }).plSendCredit true false).plUp

theorem execUplCredit_peerUp (hup : s.peerUp = true) (hsent : s.pl.initSent = true) (hg : CreditPacket h r false false)
    (htc : bitsOf h.toNat 8 6 = 0) (hll : s.pl.up = true) : execUplCredit (h :: r) s true =
      .next ((s.setPl { s.pl with txcl := creditLimits (r.take 3) }).plAcked (bitsOf h.toNat 36 21)).plPumped := by
  rw [execUplCredit, if_pos rfl, State.plCredit, State.plOnCredit_of_class0 hup hsent hg htc, if_pos hll]

theorem execUplCreditNak_peerUp (hup : s.peerUp = true) (hsent : s.pl.initSent = true) (hg : CreditPacket h r false true)
    (htc : bitsOf h.toNat 8 6 = 0) (hll : s.pl.up = true) : execUplCreditNak (h :: r) s true =
      .next ((s.setPl { s.pl with txcl := creditLimits (r.take 3) }).plAcked (bitsOf h.toNat 36 21)).plReplaySoon.plPumped := by
  rw [execUplCreditNak, if_pos rfl, State.plNakCredit, State.plOnCredit_of_class0 hup hsent hg htc, if_pos hll]

theorem execUplCreditInit_peer (hup : s.peerUp = true) (hsent : s.pl.initSent = true) (hg : CreditPacket h r true false)
    (htc : bitsOf h.toNat 8 6 = 0) :
    execUplCreditInit (h :: r) s true = .next ((if s.pl.up then s.plRestart 3 else s).plInitTaken (r.take 3)) := by
  rw [execUplCreditInit, if_pos rfl, State.plInit, State.plOnCredit_of_class0 hup hsent hg htc]
  rfl

end

/-! ## The statement -/

/-- Settles O40: the limits by their registers, each CREDIT by its form and its class, an INIT by whether the link layer was up. -/
theorem creditPackets : Obligations.CreditPackets := by
  unfold Obligations.CreditPackets
  refine ⟨?_, ?_⟩
  · intro s h r hup hloop hinj hc hkind hlen cs l good seq u starts
    refine ⟨fun c hlt => (s.limits_uptxcl l hlt).trans (creditLimit_eq_bitsOf l c), fun hgood hll hinit hnak => ?_,
      fun hgood hll hinit hnak => ?_, fun hbad hinit hnak => ?_, fun hgood hinit => ?_⟩
    · exact execUplCredit_up hup hloop hinj ⟨hc, hkind, hlen, hinit, fun _ => hnak⟩ hgood hll
    · exact execUplCreditNak_up hup hloop hinj ⟨hc, hkind, hlen, hinit, fun _ => hnak⟩ hgood hll
    · exact execUplCredit_otherClass hup hloop hinj ⟨hc, hkind, hlen, hinit, fun _ => hnak⟩ hbad
    · have htaken : exec (.uplCreditInit cs false) s = _ :=
        execUplCreditInit_class0 hup hloop hinj ⟨hc, hkind, hlen, hinit, nofun⟩ hgood
      have hstarts : ∀ x, starts x = x.initTaken l := fun x => by simp only [starts, State.initTaken, State.limits_upl]
      rw [htaken, hstarts, hstarts]
      exact ⟨fun hdown => by rw [if_neg (ne_true_of_eq_false hdown)], fun hll => by rw [if_pos hll]⟩
  · intro s h r hup hsent hc hkind htc hlen cs l seq u shut starts
    have hshut : shut = shutClasses l := by
      simp only [shut, shutClasses, u, State.setPl, creditLimits_get l (by decide : 0 < 5), creditLimits_get l (by decide : 1 < 5)]
    refine ⟨fun c hlt => (creditLimits_get l hlt).trans (creditLimit_eq_bitsOf l c), fun hll hinit => ⟨fun hnak => ?_, fun hnak => ?_⟩,
      fun hinit => ?_⟩
    · exact execUplCredit_peerUp hup hsent ⟨hc, hkind, hlen, hinit, fun _ => hnak⟩ htc hll
    · exact execUplCreditNak_peerUp hup hsent ⟨hc, hkind, hlen, hinit, fun _ => hnak⟩ htc hll
    · have htaken : exec (.uplCreditInit cs true) s = _ := execUplCreditInit_peer hup hsent ⟨hc, hkind, hlen, hinit, nofun⟩ htc
      have hstarts : ∀ x, starts x = x.plInitTaken l := fun x => by simp only [starts, hshut, State.plInitTaken]
      rw [htaken, hstarts, hstarts]
      exact ⟨fun hdown => by rw [if_neg (ne_true_of_eq_false hdown)], fun hll => by rw [if_pos hll]⟩

end Sys2Proof.Machine
end

section
/-!
PROOF. The timers, the reception and the transmitter of the uplink, and the timers and the reception of the peer link (spec/13_uplink.md
R370, R375 to R379, R382, R383, R388, R395, spec/17_pairing.md R483).
-/
namespace Sys2Proof.Machine

section
variable {s : State} {h : Crumb} {r : List Crumb}

/-! ## Timers and fault injections of the uplink (R375 to R377, R382, R395) -/

theorem execUplInitRepeat_waiting (hup : s.uplOperating = true) (hsent : s.upl.initSent = true) (hgot : s.upl.initGot = false) :
    execUplInitRepeat s false = .next (s.setUpl { s.upl with initDue := max 1 s.upl.initDue }) := by
  simp only [execUplInitRepeat, hup, hsent, hgot, Bool.not_false, Bool.and_self, Bool.false_eq_true, if_false, if_true]

theorem execUplInitTimeout_late (hup : s.uplOperating = true) (hgot : s.upl.initGot = false) (hlate : s.upl.ackAt + 1000000 ≤ s.clock) :
    execUplInitTimeout s false = .next (s.initTimeout .upl) := by
  simp only [execUplInitTimeout, State.ackIdle, hup, hgot, hlate, decide_true, Bool.not_false, Bool.and_self, Bool.false_eq_true, if_false,
    if_true]

theorem State.initTimeout_again {l : Link} (hfew : (s.link l).attempts + 1 < 16) :
    s.initTimeout l = (s.setLink l { s.link l with attempts := (s.link l).attempts + 1 }).lkRetrain l := by
  have hn : ¬16 ≤ (s.link l).attempts + 1 := Nat.not_le.mpr hfew
  simp only [State.initTimeout, hn, decide_false, Bool.or_false, false_and, if_false]

theorem State.initTimeout_fails {l : Link} (hmany : 16 ≤ (s.link l).attempts + 1) (hrep : (s.link l).failRep = false) :
    s.initTimeout l =
      ((s.setLink l { s.link l with attempts := (s.link l).attempts + 1, failRep := true }).lkReport l 2 16).lkRetrain l := by
  simp only [State.initTimeout, hmany, hrep, decide_true, Bool.or_true, Bool.not_false, and_self, if_true]

theorem execUplNakResend_waiting (hup : s.uplOperating = true) (hnak : s.flag UPL.UPSTAT_NAKWAIT = true) :
    execUplNakResend s false = .next (s.setUpl { s.upl with nakDue := true }) := by
  simp only [execUplNakResend, hup, hnak, Bool.and_self, Bool.false_eq_true, if_false, if_true]

theorem execUplAckTimer_up (hup : s.uplUp = true) : execUplAckTimer s false = .next (s.setUpl { s.upl with ackDue := true }) := by
  simp only [execUplAckTimer, hup, Bool.false_eq_true, if_false, if_true]

theorem execUplReplayTimeout_late (hup : s.uplUp = true) (hlate : s.upl.ackAt + s.replayNs ≤ s.clock) :
    execUplReplayTimeout s false = .next (s.startReplay true) := by
  simp only [execUplReplayTimeout, State.ackIdle, hup, hlate, decide_true, Bool.and_self, Bool.false_eq_true, if_false, if_true]

theorem execUplAckStallReinit_late (hup : s.uplUp = true) (hheld : s.upl.replay ≠ [])
    (hlate : s.upl.ackAt + s.stallNs .upl ≤ s.clock) : execUplAckStallReinit s false = .next (s.uplRestart 1) := by
  have hidle : s.ackIdle (s.stallNs .upl) = true := decide_eq_true hlate
  rw [execUplAckStallReinit, if_neg Bool.false_ne_true, if_pos ⟨hup, hheld, hidle⟩]

/-! ## Timers of the peer link (R483) -/

theorem execUplInitRepeat_peer (hup : s.peerUp = true) (hsent : s.pl.initSent = true) (hgot : s.pl.initGot = false) :
    execUplInitRepeat s true = .next (s.plSendCredit true false) := by
  simp only [execUplInitRepeat, hup, hsent, hgot, Bool.not_false, Bool.and_self, if_true]

theorem execUplInitTimeout_peer (hup : s.peerUp = true) (hgot : s.pl.initGot = false) (hlate : s.pl.ackAt + 1000000 ≤ s.clock) :
    execUplInitTimeout s true = .next (s.initTimeout .peer) := by
  simp only [execUplInitTimeout, State.plIdle, hup, hgot, hlate, decide_true, Bool.not_false, Bool.and_self, if_true]

theorem execUplNakResend_peer (hup : s.peerUp = true) (hnak : s.pl.nakWait = true) :
    execUplNakResend s true = .next (s.plSendCredit false true) := by
  simp only [execUplNakResend, hup, hnak, Bool.and_self, if_true]

theorem State.plRuns_of_up (hup : s.peerUp = true) (hll : s.pl.up = true) : s.plRuns = true := by
  rw [State.plRuns, hup, hll, Bool.and_self]

theorem execUplAckTimer_peer (hruns : s.plRuns = true) : execUplAckTimer s true = .next (s.plSendCredit false false) := by
  simp only [execUplAckTimer, hruns, if_true]

theorem execUplReplayTimeout_peer (hruns : s.plRuns = true) (hlate : s.pl.ackAt + 100000 ≤ s.clock) :
    execUplReplayTimeout s true = .next s.plReplaySoon := by
  simp only [execUplReplayTimeout, State.plIdle, hruns, hlate, decide_true, Bool.and_self, if_true]

theorem execUplAckStallReinit_peer (hruns : s.plRuns = true) (hheld : s.pl.replay ≠ [])
    (hlate : s.pl.ackAt + s.stallNs .peer ≤ s.clock) : execUplAckStallReinit s true = .next (s.plRestart 1) := by
  have hidle : s.plIdle (s.stallNs .peer) = true := decide_eq_true hlate
  rw [execUplAckStallReinit, if_pos rfl, if_pos ⟨hruns, hheld, hidle⟩]

/-! ## Reception (R370, R375, R383, R395, R483) -/

/-- An outcome chosen by how far an LSEQ lies ahead of the one due: at it, ahead of it, behind it. -/
theorem next_bySeq {d : Nat} {o : Out} {due ahead behind : State}
    (ho : o = .next (if d = 0 then due else if d ≤ 32767 then ahead else behind)) :
    (d = 0 → o = .next due) ∧ (0 < d → d ≤ 32767 → o = .next ahead) ∧ (32767 < d → o = .next behind) := by
  subst ho
  refine ⟨fun hdue => by rw [if_pos hdue], fun hpos hnear => ?_, fun hfar => ?_⟩
  · rw [if_neg (Nat.ne_of_gt hpos), if_pos hnear]
  · rw [if_neg (Nat.ne_of_gt (Nat.zero_lt_of_lt hfar)), if_neg (Nat.not_le.mpr hfar)]

/-- A sequenced packet of the partner that passes its checks is judged by how far its LSEQ lies ahead of the one due. -/
theorem execUplinkPacketReceive_peer (hup : s.peerUp = true) (hsent : s.pl.initSent = true) (hc : pktCheck (h :: r) = 0)
    (hcredit : bitsOf h.toNat 5 0 ≠ pkCredit) (hbeat : bitsOf h.toNat 5 0 ≠ 0x10) :
    let d := (bitsOf h.toNat 36 21 + 65536 - s.pl.rxNext) % 65536
    execUplinkPacketReceive (h :: r) s true = .next (if d = 0 then s.plAccept h (r.take (bitsOf h.toNat 46 37))
      else if d ≤ 32767 then s.plNak else s.plSendCredit false false) := by
  rw [execUplinkPacketReceive, if_pos rfl, State.plTake, State.plChecked_passes hup hsent hc, if_neg (not_or.mpr ⟨hcredit, hbeat⟩)]

theorem execUplinkPacketReceive_peer_fails (hup : s.peerUp = true) (hsent : s.pl.initSent = true) (hc : pktCheck (h :: r) ≠ 0) :
    execUplinkPacketReceive (h :: r) s true = .next s.plNak := by
  rw [execUplinkPacketReceive, if_pos rfl, State.plTake, State.plChecked_fails hup hsent hc]

theorem execUplinkPacketReceive_unlooped (hloop : ¬s.uplLoops = true) (cs : List Crumb) :
    execUplinkPacketReceive cs s false = .next (s.takePacket cs) := by
  simp only [execUplinkPacketReceive, hloop, Bool.false_eq_true, if_false]

theorem execUplinkPacketReceive_looped (hloop : s.uplLoops = true) (cs : List Crumb) : execUplinkPacketReceive cs s false = .next s := by
  simp only [execUplinkPacketReceive, hloop, Bool.false_eq_true, if_false, if_true]

/-- A sequenced packet that passes its checks is judged by how far its LSEQ lies ahead of the one due. -/
theorem State.takePacket_bySeq (hup : s.uplOperating = true) (hsent : s.upl.initSent = true) (hinj : s.upl.injRx = false)
    (hc : pktCheck (h :: r) = 0) (hcredit : bitsOf h.toNat 5 0 ≠ pkCredit) :
    let d := (bitsOf h.toNat 36 21 + 65536 - s.fld UPL.UPRXSEQ_RXNEXT) % 65536
    s.takePacket (h :: r) = if d = 0 then s.accept h (r.take (bitsOf h.toNat 46 37)) else if d ≤ 32767 then s.nakState
      else s.setUpl { s.upl with ackDue := true } := by
  simp only [State.takePacket, hup, hsent, State.checked_passes hc hinj, hcredit, Bool.not_true, Bool.or_self, Bool.false_eq_true, if_false]

/-- A packet that does not get past the checks is left as they leave it. -/
theorem State.takePacket_fails {cs : List Crumb} {t : State} (hup : s.uplOperating = true) (hsent : s.upl.initSent = true)
    (hfail : ∀ k, s.checked cs k = t) : s.takePacket cs = t := by
  simp only [State.takePacket, hup, hsent, hfail, Bool.not_true, Bool.or_self, Bool.false_eq_true, if_false]

/-! ## The transmitter (R378, R379, R383, R388) -/

theorem execUplinkPacketTransmit_operating (hup : s.uplOperating = true) : execUplinkPacketTransmit s = .next s.sendNext :=
  congrArg _ (if_pos hup)

theorem State.sendNext_init (hdue : 0 < s.upl.initDue) : s.sendNext =
    ((s.setUpl { s.upl with initDue := s.upl.initDue - 1, initSent := true }).sendCredit true false).comeUp := if_pos hdue

theorem State.sendNext_nak (hinit : s.upl.initDue = 0) (hdue : s.upl.nakDue = true) : s.sendNext =
    ((s.setUpl { s.upl with nakDue := false, ackDue := false }).sendCredit false true).bump UPL.UPCNT0_NAKTX 1 := by
  simp only [State.sendNext, hinit, hdue, Nat.lt_irrefl, if_false, if_true]

theorem State.sendNext_ack (hinit : s.upl.initDue = 0) (hnak : s.upl.nakDue = false) (hdue : s.upl.ackDue = true) : s.sendNext =
    (s.setUpl { s.upl with ackDue := false }).sendCredit false false := by
  simp only [State.sendNext, hinit, hnak, hdue, Nat.lt_irrefl, Bool.false_eq_true, if_false, if_true]

/-- The link layer is up, and its transmitter owes no CREDIT. -/
structure State.NoCreditDue (s : State) : Prop where
  init : s.upl.initDue = 0
  nak : s.upl.nakDue = false
  ack : s.upl.ackDue = false
  up : s.flag UPL.UPSTAT_UP = true

theorem State.sendNext_replay (hfree : s.NoCreditDue) {x : Held} {l : List Held} (hagain : s.upl.again = x :: l)
    (hinj : s.upl.injTx = false) :
    s.sendNext = (s.setUpl { s.upl with again := l, injTx := false }).uplSend (x.pkt.crumbs x.lseq) := by
  simp only [State.sendNext, hfree.init, hfree.nak, hfree.ack, hfree.up, hagain, hinj, Nat.lt_irrefl, Bool.not_true, Bool.false_eq_true,
    if_false]

theorem State.sendNext_hello (hfree : s.NoCreditDue) (hagain : s.upl.again = []) (hhello : s.upl.hello = true)
    (hmay : s.mayLow s.helloPkt = true) : s.sendNext = (s.setUpl { s.upl with hello := false }).sendNew s.helloPkt none := by
  have hclass0 : s.sendClass0 = some ((s.setUpl { s.upl with hello := false }).sendNew s.helloPkt none) := by
    simp only [State.sendClass0, hhello, hmay, if_true]
  simp only [State.sendNext, hfree.init, hfree.nak, hfree.ack, hfree.up, hagain, hclass0, Nat.lt_irrefl, Bool.not_true, Bool.false_eq_true,
    if_false]

end

/-! ## The statement -/

/-- Settles O42: each timer by its command, a packet by its checks and its LSEQ, the transmitter by what is due first. -/
theorem uplinkResults : Obligations.UplinkResults := by
  unfold Obligations.UplinkResults
  refine ⟨fun s => ?_, fun s => ?_, fun s h r hup => ?_⟩
  · intro u
    refine ⟨execUplInitRepeat_waiting, fun hup hgot hlate => ?_, execUplNakResend_waiting, execUplAckTimer_up, execUplReplayTimeout_late,
      execUplAckStallReinit_late, fun hon => ⟨congrArg _ (if_pos hon), congrArg _ (if_pos hon)⟩⟩
    have htimeout : exec (.uplInitTimeout false) s = _ := execUplInitTimeout_late hup hgot hlate
    exact ⟨fun hfew => htimeout.trans (congrArg _ (State.initTimeout_again hfew)),
      fun hmany hrep => htimeout.trans (congrArg _ (State.initTimeout_fails hmany hrep))⟩
  · intro x
    refine ⟨fun hup hgot => ⟨fun hsent => execUplInitRepeat_peer hup hsent hgot, execUplInitTimeout_peer hup hgot⟩, execUplNakResend_peer,
      fun hup hll => ?_, fun h r hup hsent => ?_⟩
    · have hruns := State.plRuns_of_up hup hll
      exact ⟨execUplAckTimer_peer hruns, execUplReplayTimeout_peer hruns, execUplAckStallReinit_peer hruns⟩
    · intro d
      refine ⟨execUplinkPacketReceive_peer_fails hup hsent, fun hc hcredit hbeat => ?_⟩
      exact next_bySeq (execUplinkPacketReceive_peer hup hsent hc hcredit hbeat)
  · intro loops u cs plen d
    have hsend : exec .uplinkPacketTransmit s = .next s.sendNext := execUplinkPacketTransmit_operating hup
    refine ⟨fun x => rfl, fun hloop hsent hinj hc hcredit => ?_, fun hloop hsent => ?_, fun hloop => execUplinkPacketReceive_looped hloop cs,
      fun hdue => hsend.trans (congrArg _ (State.sendNext_init hdue)),
      fun hinit hdue => hsend.trans (congrArg _ (State.sendNext_nak hinit hdue)),
      fun hinit hnak hdue => hsend.trans (congrArg _ (State.sendNext_ack hinit hnak hdue)), fun hinit hnak hack hll => ?_⟩
    · have htake := execUplinkPacketReceive_unlooped hloop cs
      rw [State.takePacket_bySeq hup hsent hinj hc hcredit] at htake
      exact next_bySeq htake
    · have hfails : ∀ t, (∀ k, s.checked cs k = t) → exec (.uplinkPacketReceive cs false) s = .next t := fun t hfail =>
        (execUplinkPacketReceive_unlooped hloop cs).trans (congrArg _ (State.takePacket_fails hup hsent hfail))
      exact ⟨fun hcrc => hfails _ fun _ => State.checked_badHeader hcrc, fun _ hc => hfails _ fun _ => State.checked_badTrailer hc,
        fun hinj hc => hfails _ fun _ => State.checked_injected hc hinj⟩
    · have hfree : s.NoCreditDue := ⟨hinit, hnak, hack, hll⟩
      exact ⟨fun x l hagain hinj => hsend.trans (congrArg _ (State.sendNext_replay hfree hagain hinj)),
        fun hagain hhello hmay => hsend.trans (congrArg _ (State.sendNext_hello hfree hagain hhello hmay))⟩

end Sys2Proof.Machine
end

section
/-!
PROOF. Reads of the host over the bridge: the fast window, delayed-read buffers, head reads, retries and discards (spec/14_bridge.md R401,
R406, R407, R687).
-/
namespace Sys2Proof.Machine

/-- A packet of a form that R397 does not know fails the first test of R687. -/
theorem State.bridgeTest_badForm (s : State) (a n : Nat) (write : Bool) : s.bridgeTest a n false write = some (3, 0) := rfl

section
variable {s u : State} {p : Pkt} {a n st det : Nat} {fast : Bool} {data : List Byte} {d : Drb}

/-! ## A read that no buffer answers (R401, R406, R687) -/

/-- The form of a read of n bytes (R397): one address crumb with OPC 0. -/
def readForm (p : Pkt) (n : Nat) : Bool := acOpc (p.payload.getD 0 0) == 0 && decide (n ≤ 512) && p.payload.length == 1

theorem readForm_iff : readForm p n = true ↔ acOpc (p.payload.getD 0 0) = 0 ∧ n ≤ 512 ∧ p.payload.length = 1 := by
  simp only [readForm, Bool.and_eq_true, beq_iff_eq, decide_eq_true_eq, and_assoc]

theorem State.newRead_fails (htest : s.bridgeTest a n (readForm p n) false = some (st, det)) :
    s.newRead p a n fast none = s.complete p.id a n st det [] := by
  rw [readForm] at htest
  simp only [State.newRead, htest]

theorem State.newRead_badForm (hform : ¬readForm p n = true) : s.newRead p a n fast none = s.complete p.id a n 3 0 [] :=
  State.newRead_fails (by rw [Bool.eq_false_of_not_eq_true hform, State.bridgeTest_badForm])

theorem State.newRead_fastLocal (htest : s.bridgeTest a n (readForm p n) false = none) (hlocal : 192 ≤ scopeOf a) :
    s.newRead p a n true none = (s.localRead .bridge a n).2.complete p.id a n (s.localRead .bridge a n).1.1
      (s.localRead .bridge a n).1.2.1 (s.localRead .bridge a n).1.2.2 := by
  rw [readForm] at htest
  simp only [State.newRead, htest, Nat.not_lt.mpr hlocal, if_false, if_true]

/-- A delayed-read entry added. -/
def State.addDrb (s : State) (d : Drb) : State := { s with bridge := { s.bridge with drbs := s.bridge.drbs ++ [d] } }

theorem State.newRead_slowLocal (htest : s.bridgeTest a n (readForm p n) false = none) (hlocal : 192 ≤ scopeOf a) :
    s.newRead p a n false none = s.addDrb { tag := p.id, addr := a, n := n, fast := true, head := false, endAt := s.clock } := by
  rw [readForm] at htest
  simp only [State.newRead, htest, Nat.not_lt.mpr hlocal, if_false, Bool.false_eq_true, State.addDrb]

theorem State.headRead_buffered {tag : Nat} (hfree : s.drBusy < 64) : s.headRead tag a n =
    ((s.addDrb { tag := tag, addr := a, n := n, fast := false, head := true }).bcQueue (scopeOf a)
      (cmdRead 5 (a % 0x1000000) n (.bridgeRead tag a n))).complete tag a n 1 0 [] :=
  if_neg (Nat.not_le.mpr hfree)

theorem State.newRead_head (htest : s.bridgeTest a n (readForm p n) false = none) (hhead : scopeOf a < 192)
    (hlock : s.lockOn (scopeOf a) = none) : s.newRead p a n fast none = s.headRead p.id a n := by
  rw [readForm] at htest
  simp only [State.newRead, htest, hhead, hlock, Option.isSome_none, Bool.false_eq_true, if_true, if_false]

/-! ## The command (R406, R407) -/

theorem execBrgRead_new (hon : s.domainOn .uplink = true) (hpop : s.popPkt (fun p => p.kind == pkRdreq) = some (p, u))
    (hnone : u.drbOf p.id = none) : execBrgRead fast s =
      .next (u.newRead p (acAddr (p.payload.getD 0 0)) (acCount (p.payload.getD 0 0)) fast none) := by
  simp only [execBrgRead, State.onPkt_eq hon hpop, hnone]

theorem execBrgRead_retry (hon : s.domainOn .uplink = true) (hpop : s.popPkt (fun p => p.kind == pkRdreq) = some (p, u))
    (hopc : acOpc (p.payload.getD 0 0) = 0) (hheld : u.drbOf p.id = some d) (haddr : d.addr = acAddr (p.payload.getD 0 0))
    (hn : d.n = acCount (p.payload.getD 0 0)) : execBrgRead fast s = .next (u.retryRead d) := by
  simp only [execBrgRead, State.onPkt_eq hon hpop, hheld, haddr, hn, hopc, and_self, if_true]

theorem State.drbOf_tag {tag : Nat} (hheld : s.drbOf tag = some d) : d.tag = tag := by
  simpa only [beq_iff_eq] using List.find?_some hheld

theorem State.retryRead_fetching (hres : d.result = none) : s.retryRead d = s.complete d.tag d.addr d.n 1 0 [] := by
  simp only [State.retryRead, hres]

theorem State.retryRead_ended (hres : d.result = some (st, det, data)) :
    s.retryRead d = (s.dropDrb d).complete d.tag d.addr d.n st det data := by
  simp only [State.retryRead, hres]

/-! ## The fast window, the end of a fetch, a result unclaimed (R406, R407) -/

/-- A delayed-read entry changed. -/
def State.mapDrb (s : State) (d : Drb) (f : Drb → Drb) : State :=
  { s with bridge := { s.bridge with drbs := s.bridge.drbs.map fun x => if x = d then f x else x } }

section
variable {tag : BitVec 12} (hfind : s.bridge.drbs.find? (fun d => d.tag == tag.toNat && d.fast) = some d)
include hfind

theorem execBrgFastwinExpiry_early (hearly : s.clock < d.endAt + s.fastNs) : execBrgFastwinExpiry tag s = .next s := by
  simp only [execBrgFastwinExpiry, hfind, hearly, if_true]

theorem execBrgFastwinExpiry_buffered (hlate : d.endAt + s.fastNs ≤ s.clock) (hfree : s.drBusy < 64) :
    execBrgFastwinExpiry tag s =
      .next ((s.mapDrb d fun x => { x with fast := false }).complete d.tag d.addr d.n 1 0 []) := by
  simp only [execBrgFastwinExpiry, hfind, Nat.not_lt.mpr hlate, Nat.not_le.mpr hfree, if_false, State.mapDrb]

theorem execBrgFastwinExpiry_noBuffer (hlate : d.endAt + s.fastNs ≤ s.clock) (hfull : 64 ≤ s.drBusy) :
    execBrgFastwinExpiry tag s = .next ((s.dropDrb d).noBuffer d.tag d.addr d.n) := by
  simp only [execBrgFastwinExpiry, hfind, Nat.not_lt.mpr hlate, hfull, if_false, if_true]

end

section
variable {tag : BitVec 12} (hfind : s.bridge.drbs.find? (fun d => d.tag == tag.toNat && !d.head && d.result.isNone) = some d)
include hfind

theorem execBrgDelayedReadDone_fast (hfast : d.fast = true) : execBrgDelayedReadDone tag s =
    let x := s.localRead .bridge d.addr d.n
    .next ((x.2.dropDrb d).complete d.tag d.addr d.n x.1.1 x.1.2.1 x.1.2.2) := by
  simp only [execBrgDelayedReadDone, hfind, hfast, if_true]

theorem execBrgDelayedReadDone_buffered (hfast : d.fast = false) : execBrgDelayedReadDone tag s =
    let x := s.localRead .bridge d.addr d.n
    .next (x.2.mapDrb d fun y => { y with result := some x.1, endAt := x.2.clock }) := by
  simp only [execBrgDelayedReadDone, hfind, hfast, Bool.false_eq_true, if_false, State.mapDrb]

end

theorem execBrgDelayedReadDiscard_late {tag : BitVec 12}
    (hfind : s.bridge.drbs.find? (fun d => d.tag == tag.toNat && d.result.isSome) = some d) (hlate : d.endAt + 990000 ≤ s.clock) :
    execBrgDelayedReadDiscard tag s = .next ((s.dropDrb d).bump BRG.CNT1_DRDISCARD 1) := by
  simp only [execBrgDelayedReadDiscard, hfind, Nat.not_lt.mpr hlate, if_false]

end

/-! ## The statement -/

/-- Settles O36: a read by its form, its tests and its scope, a retry by what its buffer holds, the timers by the time and the buffers
free. -/
theorem bridgeReads : Obligations.BridgeReads := by
  unfold Obligations.BridgeReads
  refine ⟨fun s u p hon hpop => ?_, fun s tag d => ?_⟩
  · intro c a n good hold
    have hnew (hnone : u.drbOf p.id = none) (fast : Bool) : exec (.brgRead fast) s = .next (u.newRead p a n fast none) :=
      execBrgRead_new hon hpop hnone
    have htests {r : Option (Nat × Nat)} (hgood : good) (htest : u.bridgeTest a n true false = r) :
        u.bridgeTest a n (readForm p n) false = r := by rw [readForm_iff.mpr hgood, htest]
    refine ⟨fun st det fast hgood hnone htest => ?_, fun fast hbad hnone => ?_, fun hgood hnone htest hlocal => ⟨?_, ?_⟩,
      fun fast hgood hnone htest hhead hlock hfree => ?_, fun d fast hopc hheld haddr hn => ?_⟩
    · rw [hnew hnone, State.newRead_fails (htests hgood htest)]
    · rw [hnew hnone, State.newRead_badForm (hbad ∘ readForm_iff.mp)]
    · rw [hnew hnone, State.newRead_fastLocal (htests hgood htest) hlocal]
    · rw [hnew hnone, State.newRead_slowLocal (htests hgood htest) hlocal]
      rfl
    · rw [hnew hnone, State.newRead_head (htests hgood htest) hhead hlock, State.headRead_buffered hfree]
      rfl
    · have hretry : exec (.brgRead fast) s = .next (u.retryRead d) := execBrgRead_retry hon hpop hopc hheld haddr hn
      rw [hretry, ← State.drbOf_tag hheld, ← haddr, ← hn]
      exact ⟨fun hres => by rw [State.retryRead_fetching hres], fun st det data hres _ => by rw [State.retryRead_ended hres]⟩
  · intro map
    refine ⟨fun hfind => ⟨execBrgFastwinExpiry_buffered hfind, execBrgFastwinExpiry_early hfind, execBrgFastwinExpiry_noBuffer hfind⟩,
      fun hfind => ?_, execBrgDelayedReadDiscard_late⟩
    exact ⟨execBrgDelayedReadDone_fast hfind, execBrgDelayedReadDone_buffered hfind⟩

end Sys2Proof.Machine
end

section
/-!
PROOF. Posted writes of the host over the bridge (spec/14_bridge.md R397, R402 to R404, R616, R687).
-/
namespace Sys2Proof.Machine

section
variable {s u : State} {p : Pkt} {a n tag st det : Nat} {data : List Byte}

/-! ## A posted write to a head (R402, R403) -/

theorem State.headWrite_queued (hroom : s.headWrites (scopeOf a) < 64) : s.headWrite tag a data =
    s.bcQueue (scopeOf a) (cmdWrite 5 (a % 0x1000000) data (.bridgeWrite tag a)) :=
  if_neg (Nat.not_le.mpr hroom)

theorem State.headWrite_full (hfull : 64 ≤ s.headWrites (scopeOf a)) : s.headWrite tag a data =
    (s.pwFail tag a 0x0C 0 (scopeOf a)).bump BRG.CNT2_QFULL 1 := if_pos hfull

/-! ## The command (R397, R402, R404) -/

/-- The form of a write of n bytes (R397): an address crumb with OPC 0, and the crumbs that n bytes fill. -/
def writeForm (p : Pkt) (n : Nat) : Bool := acOpc (p.payload.getD 0 0) == 0 && decide (n ≤ 512) && p.payload.length == dataPlen n

theorem writeForm_iff : writeForm p n = true ↔ acOpc (p.payload.getD 0 0) = 0 ∧ n ≤ 512 ∧ p.payload.length = 1 + (n + 7) / 8 := by
  simp only [writeForm, dataPlen, ceilDiv, Bool.and_eq_true, beq_iff_eq, decide_eq_true_eq, and_assoc,
    Nat.add_one_sub_one]

/-- The scope that a report of a failed write to an address names: the port, or 0xFFFF of the local scope (R404). -/
def writeScope (a : Nat) : Nat := if scopeOf a < 192 then scopeOf a else 0xFFFF

/-- A posted write that passes its tests, by its target. -/
def State.perform (s : State) (tag a n : Nat) (data : List Byte) : State :=
  if scopeOf a < 192 then s.headWrite tag a data
  else if a < 0x1000000 then s.writeCsr a data false
  else if s.partialPoison a n then (s.store a data).pwFail tag a 4 0 (writeScope a)
  else s.store a data

section
variable (hon : s.domainOn .uplink = true) (hpop : s.popPkt (fun p => p.kind == pkPwrite) = some (p, u))
  (ha : acAddr (p.payload.getD 0 0) = a) (hn : acCount (p.payload.getD 0 0) = n)
include hon hpop ha hn

theorem execBrgWrite_fails (htest : u.bridgeTest a n (writeForm p n) true = some (st, det)) :
    execBrgWrite s = .next (u.pwFail p.id a st det (writeScope a)) := by
  subst ha hn
  rw [writeForm] at htest
  simp only [execBrgWrite, State.onPkt_eq hon hpop, htest, writeScope]

theorem execBrgWrite_passes (htest : u.bridgeTest a n (writeForm p n) true = none) :
    execBrgWrite s = .next (u.perform p.id a n (bytesAt (crumbsBytes (p.payload.drop 1)) 0 n)) := by
  subst ha hn
  rw [writeForm] at htest
  simp only [execBrgWrite, State.onPkt_eq hon hpop, htest, State.perform, writeScope]

end

theorem State.perform_head (hhead : scopeOf a < 192) : s.perform tag a n data = s.headWrite tag a data := if_pos hhead

theorem State.perform_registers (hlocal : 192 ≤ scopeOf a) (hcsr : a < 0x1000000) :
    s.perform tag a n data = s.writeCsr a data false := by
  rw [State.perform, if_neg (Nat.not_lt.mpr hlocal), if_pos hcsr]

theorem State.perform_memory (hlocal : 192 ≤ scopeOf a) (hmem : 0x1000000 ≤ a) (hclean : s.partialPoison a n = false) :
    s.perform tag a n data = s.store a data := by
  rw [State.perform, if_neg (Nat.not_lt.mpr hlocal), if_neg (Nat.not_lt.mpr hmem), hclean, if_neg Bool.false_ne_true]

theorem State.perform_poisoned (hlocal : 192 ≤ scopeOf a) (hmem : 0x1000000 ≤ a) (hpoison : s.partialPoison a n = true) :
    s.perform tag a n data = (s.store a data).pwFail tag a 4 0 0xFFFF := by
  rw [State.perform, if_neg (Nat.not_lt.mpr hlocal), if_neg (Nat.not_lt.mpr hmem), if_pos hpoison, writeScope,
    if_neg (Nat.not_lt.mpr hlocal)]

end

/-! ## The statement -/

/-- Settles O37: a write by its form and its tests, then by its target. -/
theorem bridgeWrites : Obligations.BridgeWrites := by
  unfold Obligations.BridgeWrites
  intro s u p hon hpop c a n data port fails good
  have htests {r : Option (Nat × Nat)} (hgood : good) (htest : u.bridgeTest a n true true = r) :
      u.bridgeTest a n (writeForm p n) true = r := by rw [writeForm_iff.mpr hgood, htest]
  refine ⟨fun hbad => ?_, fun st det hgood htest => execBrgWrite_fails hon hpop rfl rfl (htests hgood htest), fun hgood htest => ?_⟩
  · refine execBrgWrite_fails hon hpop rfl rfl ?_
    rw [Bool.eq_false_of_not_eq_true (hbad ∘ writeForm_iff.mp), State.bridgeTest_badForm]
  · have hperform : exec .brgWrite s = .next (u.perform p.id a n data) := execBrgWrite_passes hon hpop rfl rfl (htests hgood htest)
    rw [hperform]
    refine ⟨fun hhead hroom => ?_, fun hhead hfull => ?_, fun hlocal hmem hclean => ?_, fun hlocal hmem hpoison => ?_,
      fun hlocal hcsr => ?_⟩
    · rw [State.perform_head hhead, State.headWrite_queued hroom]
    · rw [State.perform_head hhead, State.headWrite_full hfull]
    · rw [State.perform_memory hlocal hmem hclean]
    · rw [State.perform_poisoned hlocal hmem hpoison]
    · rw [State.perform_registers hlocal hcsr]

end Sys2Proof.Machine
end

section
/-!
PROOF. Locked sequences of the host on a head: LREAD, LWRITE, LRELEASE and the lock timeout (spec/14_bridge.md R410 to R412, R687).
-/
namespace Sys2Proof.Machine

section
variable {s u : State} {p : Pkt} {c : Crumb} {l : Lock}

/-! ## LREAD (R410, R411) -/

/-- What becomes of an LREAD of n bytes at `a` that passes its tests: LOCK_BUSY for the port's lock or for the number of locks, else a
lock and its read. -/
def State.lread (s : State) (tag a n : Nat) : State :=
  if (s.lockOn (scopeOf a)).isSome then s.complete tag a n 9 0 []
  else if (if s.flag BRG.CTL_COMPATNOW then 1 else 8) ≤ s.bridge.locks.length then s.complete tag a n 9 1 []
  else State.bcQueue { s with bridge := { s.bridge with
      locks := ⟨tag, scopeOf a, 0, 0⟩ :: s.bridge.locks, expired := s.bridge.expired.filter fun e => e.1 != tag } }
    (scopeOf a) (cmdRead 5 (a % 0x1000000) n (.locked 0 tag a n))

section
variable {tag a n : Nat}

theorem State.lread_portBusy (hheld : s.lockOn (scopeOf a) ≠ none) : s.lread tag a n = s.complete tag a n 9 0 [] :=
  if_pos (Option.isSome_iff_ne_none.mpr hheld)

theorem State.lread_allBusy (hfree : s.lockOn (scopeOf a) = none) (hmany : 8 ≤ s.bridge.locks.length) :
    s.lread tag a n = s.complete tag a n 9 1 [] := by
  have hlimit : (if s.flag BRG.CTL_COMPATNOW then 1 else 8) ≤ s.bridge.locks.length := by split <;> omega
  simp only [State.lread, hfree, Option.isSome_none, Bool.false_eq_true, if_false, hlimit, if_true]

theorem State.lread_issued (hfree : s.lockOn (scopeOf a) = none) (hfew : s.bridge.locks.length < 8)
    (hnative : s.flag BRG.CTL_COMPATNOW = false) : s.lread tag a n =
      State.bcQueue { s with bridge := { s.bridge with
          locks := ⟨tag, scopeOf a, 0, 0⟩ :: s.bridge.locks, expired := s.bridge.expired.filter fun e => e.1 != tag } }
        (scopeOf a) (cmdRead 5 (a % 0x1000000) n (.locked 0 tag a n)) := by
  simp only [State.lread, hfree, hnative, Option.isSome_none, Bool.false_eq_true, if_false, Nat.not_le.mpr hfew]

end

theorem execBrgLread_passes (hon : s.domainOn .uplink = true) (hpop : s.popPkt (isLocked 0) = some (p, u))
    (hc : p.payload.getD 0 0 = c) (hopc : acOpc c = 0) (hn : acCount c ≤ 512) (hlen : p.payload.length = 1)
    (hhead : scopeOf (acAddr c) < 192) (htest : u.bridgeTest (acAddr c) (acCount c) true false = none) :
    execBrgLread s = .next (u.lread p.id (acAddr c) (acCount c)) := by
  simp only [execBrgLread, State.onPkt_eq hon hpop, hc, hopc, hn, hlen, hhead, beq_self_eq_true, decide_true, Bool.or_true,
    Bool.and_self, htest, State.lread]

/-! ## LWRITE and LRELEASE (R410, R412) -/

/-- The LWRITE of a lock on its way. -/
def State.lockWrites (s : State) (l : Lock) : State :=
  { s with bridge := { s.bridge with locks := s.bridge.locks.map fun x => if x = l then { x with stage := 2 } else x } }

theorem execBrgLwrite_issued (hon : s.domainOn .uplink = true) (hpop : s.popPkt (s.stepRuns 1) = some (p, u))
    (hc : p.payload.getD 0 0 = c) (hlock : u.lockOf p.id = some l) (hport : l.port = scopeOf (acAddr c)) (hn : acCount c ≤ 512)
    (hlen : p.payload.length = dataPlen (acCount c)) (htest : u.bridgeTest (acAddr c) (acCount c) true false = none) :
    execBrgLwrite s = .next ((u.lockWrites l).bcQueue l.port (cmdWrite 5 (acAddr c % 0x1000000)
      (bytesAt (crumbsBytes (p.payload.drop 1)) 0 (acCount c)) (.locked 1 p.id (acAddr c) (acCount c)))) := by
  simp only [execBrgLwrite, State.onPkt_eq hon hpop, hc, hlock, hport, hn, hlen, beq_self_eq_true, decide_true, Bool.or_true,
    Bool.and_self, htest, State.lockWrites]

theorem execBrgLrelease_held (hon : s.domainOn .uplink = true) (hpop : s.popPkt (s.stepRuns 2) = some (p, u))
    (hc : p.payload.getD 0 0 = c) (hlock : u.lockOf p.id = some l) :
    execBrgLrelease s = .next ((u.closeLock l).complete p.id (acAddr c) (acCount c) 0 0 []) := by
  simp only [execBrgLrelease, State.onPkt_eq hon hpop, hc, hlock]

theorem execBrgLrelease_unheld (hon : s.domainOn .uplink = true) (hpop : s.popPkt (s.stepRuns 2) = some (p, u))
    (hc : p.payload.getD 0 0 = c) (hlock : u.lockOf p.id = none) :
    execBrgLrelease s = .next (u.noLock p.id (acAddr c) (acCount c)) := by
  simp only [execBrgLrelease, State.onPkt_eq hon hpop, hc, hlock]

/-- A tag with no expired lock is answered NOT_LOCKED. -/
theorem State.noLock_unexpired {tag a n : Nat} (hnone : ∀ e ∈ s.bridge.expired, e.1 ≠ tag) :
    s.noLock tag a n = s.complete tag a n 0x0A 0 [] := by
  have hfind : s.bridge.expired.find? (fun e => e.1 == tag) = none :=
    List.find?_eq_none.mpr fun e he => by simpa only [beq_iff_eq] using hnone e he
  simp only [State.noLock, hfind]

/-! ## The lock timeout (R412) -/

theorem execBrgLockTimeout_expires {port : Port} (hlock : s.lockOn port = some l) (hopen : l.stage = 1)
    (hsteps : ∀ q ∈ s.upl.rxq, ¬(q.id = l.tag ∧ (isLocked 1 q = true ∨ isLocked 2 q = true)))
    (hlate : l.at_ + s.lockNs ≤ s.clock) : execBrgLockTimeout port s = .next (s.expireLock l 0) := by
  have hnone : (s.upl.rxq.any fun q => q.id == l.tag && (isLocked 1 q || isLocked 2 q)) = false :=
    List.any_eq_false.mpr fun q hq => by
      simpa only [Bool.and_eq_true, Bool.or_eq_true, beq_iff_eq] using hsteps q hq
  simp only [execBrgLockTimeout, hlock, hopen, hnone, hlate, Bool.not_false, and_self, if_true]

end

/-! ## The statement -/

/-- Settles O38: an LREAD by the locks held, the later steps by whether their tag holds one, the timeout by its time. -/
theorem lockedSequences : Obligations.LockedSequences := by
  unfold Obligations.LockedSequences
  intro s u p port hon c a n b
  refine ⟨fun hpop hopc hn hlen hhead htest => ?_, fun hpop l hlock hport hn hlen htest => ?_,
    fun hpop => ⟨fun l => execBrgLrelease_held hon hpop rfl, fun hlock hnone => ?_⟩, fun l => execBrgLockTimeout_expires⟩
  · have hread : exec .brgLread s = .next (u.lread p.id a n) := execBrgLread_passes hon hpop rfl hopc hn hlen hhead htest
    rw [hread]
    exact ⟨fun hheld => by rw [State.lread_portBusy hheld], fun hfree hmany => by rw [State.lread_allBusy hfree hmany],
      fun hfree hfew hnative => by rw [State.lread_issued hfree hfew hnative]⟩
  · exact execBrgLwrite_issued hon hpop rfl hlock hport (by omega) hlen htest
  · have hrelease : exec .brgLrelease s = _ := execBrgLrelease_unheld hon hpop rfl hlock
    rw [hrelease, State.noLock_unexpired hnone]

end Sys2Proof.Machine
end

section
/-!
PROOF. Tunnels of the host, interrupt messages, and the registers and order mode of the bridge (spec/14_bridge.md R405, R413 to R420,
R423, R427, spec/21_can.md R577, R579).
-/
namespace Sys2Proof.Machine

section
variable {s u : State} {p : Pkt}

/-! ## CAN_TX (R577, R579) -/

/-- A packet of a CAN tunnel. -/
def isCanTunnel (p : Pkt) : Bool := p.kind == pkTunnel && (p.id == 0x700 || p.id == 0x701)

/-- A CAN_TX whose packet and item are well formed. -/
def State.canTxForm (s : State) (p : Pkt) : Bool :=
  tnForm p && tnType p == 2 && canItemGood (s.flag (CAN.CTL_FDEN (p.id % 2))) (tnItem p)

theorem State.canTxForm_iff : s.canTxForm p = true ↔
    tnForm p = true ∧ tnType p = 2 ∧ canItemGood (s.flag (CAN.CTL_FDEN (p.id % 2))) (tnItem p) = true := by
  simp only [State.canTxForm, Bool.and_eq_true, beq_iff_eq, and_assoc]

/-- A controller that does not send: not enabled, listening only, or bus-off. -/
def State.canSilent (s : State) (c : Nat) : Bool :=
  !s.flag (CAN.CTL_EN c) || s.flag (CAN.CTL_LISTEN c) || s.fld (CAN.STAT_STATE c) == canBusOff

theorem State.canSilent_eq_false_iff {c : Nat} : s.canSilent c = false ↔
    s.flag (CAN.CTL_EN c) = true ∧ s.flag (CAN.CTL_LISTEN c) = false ∧ s.fld (CAN.STAT_STATE c) ≠ 2 := by
  simp only [State.canSilent, canBusOff, Bool.or_eq_false_iff, Bool.not_eq_false', beq_eq_false_iff_ne, ne_eq, and_assoc]

/-- A frame of the tunnel that enters the queue of a controller, or is answered at once. -/
def State.takeCanTx (s : State) (p : Pkt) : State :=
  let c := p.id % 2
  let x := s.can c
  if !s.canTxForm p then s.txDone c 3 (tnTag p) 0 (tnItem p)
  else if s.canSilent c then s.txDone c 2 (tnTag p) 0 (tnItem p)
  else if 32 ≤ x.queue.length then s.txDone c 1 (tnTag p) 0 (tnItem p)
  else s.setCan c { x with queue := x.queue ++ [(tnTag p, tnItem p)], headAt := if x.queue = [] then s.clock else x.headAt }

theorem execCanTx_takes (hon : s.domainOn .uplink = true) (hpop : s.popPkt isCanTunnel = some (p, u)) :
    execCanTx s = .next (u.takeCanTx p) := congrArg _ (State.onPkt_eq hon hpop _)

theorem State.takeCanTx_badItem (hbad : ¬s.canTxForm p = true) :
    s.takeCanTx p = s.txDone (p.id % 2) 3 (tnTag p) 0 (tnItem p) := by
  simp only [State.takeCanTx, hbad, Bool.not_false, if_true]

section
variable (hgood : s.canTxForm p = true)
include hgood

theorem State.takeCanTx_abort (hsilent : s.canSilent (p.id % 2) = true) :
    s.takeCanTx p = s.txDone (p.id % 2) 2 (tnTag p) 0 (tnItem p) := by
  simp only [State.takeCanTx, hgood, hsilent, Bool.not_true, Bool.false_eq_true, if_false, if_true]

theorem State.takeCanTx_full (hsends : s.canSilent (p.id % 2) = false) (hfull : 32 ≤ (s.can (p.id % 2)).queue.length) :
    s.takeCanTx p = s.txDone (p.id % 2) 1 (tnTag p) 0 (tnItem p) := by
  simp only [State.takeCanTx, hgood, hsends, hfull, Bool.not_true, Bool.false_eq_true, if_false, if_true]

theorem State.takeCanTx_queued (hsends : s.canSilent (p.id % 2) = false) (hroom : (s.can (p.id % 2)).queue.length < 32) :
    let x := s.can (p.id % 2)
    s.takeCanTx p = s.setCan (p.id % 2) { x with
      queue := x.queue ++ [(tnTag p, tnItem p)], headAt := if x.queue = [] then s.clock else x.headAt } := by
  simp only [State.takeCanTx, hgood, hsends, Nat.not_le.mpr hroom, Bool.not_true, Bool.false_eq_true, if_false]

end

/-! ## Head tunnels (R419, R420) -/

/-- A good request to an accessible head with room waits on its port. -/
theorem State.headTunnel_queued {ttype off : Nat} {cmd : Origin → BcCmd} (hacc : s.accessible (tunnelPort p) off = true)
    (hroom : s.headTunnels (tunnelPort p) < 16) : s.headTunnel p ttype true off cmd =
      s.bcQueue (tunnelPort p) (cmd (.tunnel p.id ttype (tnTag p) ((tnItem p).take 8))) := by
  simp only [State.headTunnel, hacc, Nat.not_le.mpr hroom, Bool.not_true, Bool.false_eq_true, if_false]

theorem execTwReq_queued (hon : s.domainOn .uplink = true)
    (hpop : s.popPkt (fun p => p.kind == pkTunnel && p.id == 0x708) = some (p, u)) (hform : tnForm p = true)
    (htype : tnType p = 0x10) (hport : tunnelPort p < 192) (hgood : twGood (tnItem p) = true)
    (hacc : u.accessible (tunnelPort p) (twOffset (tnItem p)) = true) (hroom : u.headTunnels (tunnelPort p) < 16) :
    let o := Origin.tunnel p.id 0x11 (tnTag p) ((tnItem p).take 8)
    execTwReq s = .next (u.bcQueue (tunnelPort p) (if fieldAt (tnItem p) 2 1 = 0
      then cmdRead 5 (twOffset (tnItem p)) (fieldAt (tnItem p) 3 1) o
      else cmdWrite 5 (twOffset (tnItem p)) ((tnItem p).drop 8) o)) := by
  rw [execTwReq, State.onPkt_eq hon hpop]
  simp only [hform, htype, hport, hgood, beq_self_eq_true, decide_true, Bool.and_self, State.headTunnel_queued hacc hroom]

/-- The head offset that the permission of a head message is tested at: 0 of a POLL. -/
def hmOffset (h : Nat) : Nat := if h % 64 = bcPoll then 0 else bitsOf h 39 16

theorem execHmReq_queued {h : Nat} (hon : s.domainOn .uplink = true)
    (hpop : s.popPkt (fun p => p.kind == pkTunnel && p.id == 0x709) = some (p, u)) (hh : fieldAt (tnItem p) 0 8 = h)
    (hform : tnForm p = true) (htype : tnType p = 0x20) (hport : tunnelPort p < 192) (hgood : hmGood (tnItem p) = true)
    (hacc : u.accessible (tunnelPort p) (hmOffset h) = true) (hroom : u.headTunnels (tunnelPort p) < 16) :
    execHmReq s = .next (u.bcQueue (tunnelPort p)
      ⟨h % 64, bitsOf h 55 16, (tnItem p).drop 8, 5, .tunnel p.id 0x21 (tnTag p) ((tnItem p).take 8)⟩) := by
  rw [hmOffset] at hacc
  rw [execHmReq, State.onPkt_eq hon hpop]
  simp only [hh, hform, htype, hport, hgood, beq_self_eq_true, decide_true, Bool.and_self, State.headTunnel_queued hacc hroom]

/-! ## Interrupt messages (R413, R415) -/

/-- A message handed to the uplink in the native mode, with the count of its source. -/
def State.handOver (s : State) (m : IntMsg) : State :=
  { s with intr := s.intr.filter (fun x => x != m), iseq := s.iseq.set m.src ((s.iseq.get m.src 0 + 1) % 65536)
           upl := { s.upl with q0 := s.upl.q0 ++ [m.pkt (s.iseq.get m.src 0)] } }

theorem execIntmsgSend_native {m : IntMsg} (hup : s.uplUp = true) (hhello : s.upl.hello = false)
    (hfirst : s.intr.find? s.eligible = some m) (hnative : s.flag BRG.CTL_COMPATNOW = false) :
    execIntmsgSend s = .next (s.handOver m) := by
  have hnative' (i : List IntMsg) (q : Tbl Nat) : { s with intr := i, iseq := q }.flag BRG.CTL_COMPATNOW = false := hnative
  simp only [execIntmsgSend, hup, hhello, hfirst, hnative', Bool.not_true, Bool.or_self, Bool.false_eq_true, if_false, State.setUpl,
    State.handOver]

/-! ## Registers and the mode of the bridge (R405, R415, R423, R427) -/

theorem execInterruptUnmask_on {mask : BitVec 11} (hon : s.domainOn .fabric = true) :
    execInterruptUnmask mask s = .next (s.setFld BRG.IMASK_EN mask.toNat) := congrArg _ (if_pos hon)

theorem execPwerrClear_on (hon : s.domainOn .fabric = true) : execPwerrClear s = .next s.pwerrClear := congrArg _ (if_pos hon)

theorem execBridgeCounterClear_on (hon : s.domainOn .fabric = true) : execBridgeCounterClear s = .next s.brgClear :=
  congrArg _ (if_pos hon)

/-- The counters that a clear of the bridge zeroes. -/
def bridgeCounters : List Fld :=
  [BRG.CNT0_RETRYTX, BRG.CNT0_NOBUF, BRG.CNT1_DRDISCARD, BRG.CNT1_REFUSED, BRG.CNT2_QFULL, BRG.CNT2_LOCKTO, BRG.CNT3_TUNERR]

/-- Fields all set to 0, each apart from every other, read 0. -/
theorem State.fld_setFlds_zero {l : List Fld} (hhi : ∀ f ∈ l, f.hi < 32) (hapart : l.Pairwise fun f g => g.apart f = true) :
    ∀ f ∈ l, (s.setFlds (l.map fun f => (f, 0))).fld f = 0 := by
  induction l generalizing s with
  | nil => exact fun f hf => absurd hf List.not_mem_nil
  | cons g r ih =>
    obtain ⟨hg, hr⟩ := List.pairwise_cons.mp hapart
    rintro f (_ | ⟨_, hf⟩)
    · rw [List.map_cons, State.fld_setFlds_cons (hhi g List.mem_cons_self), Nat.zero_mod]
      intro x hx
      obtain ⟨f, hf, rfl⟩ := List.mem_map.mp hx
      exact hg f hf
    · exact ih (s := s.setFld g 0) (fun f hf => hhi f (List.mem_cons_of_mem g hf)) hr f hf

theorem State.brgClear_counter {f : Fld} (hf : f ∈ bridgeCounters) : s.brgClear.fld f = 0 :=
  State.fld_setFlds_zero (l := bridgeCounters) (by decide) (by decide) f hf

/-- The asked mode is taken once nothing is outstanding; with no command waiting for it, no answer follows. -/
theorem execCompatSwitch_quiet (hon : s.domainOn .fabric = true) (hrx : s.upl.rxq = []) (hidle : s.hostBusy = false)
    (hdrbs : s.bridge.drbs = []) (hlocks : s.bridge.locks = []) (hruns : s.mbx.runs = []) :
    execCompatSwitch s = .next (s.setFld BRG.CTL_COMPATNOW (s.fld BRG.CTL_COMPAT)) := by
  simp only [execCompatSwitch, hon, hrx, hidle, hdrbs, hlocks, hruns, List.isEmpty_nil, Bool.not_false, Bool.and_self, if_true,
    State.setFld_mbx, State.answerCompat]

end

/-! ## The statement -/

/-- Settles O39: a CAN_TX by its form, its controller and the room in the queue, the head requests by their tunnel, the rest by the state
of the bridge. -/
theorem tunnelsAndMessages : Obligations.TunnelsAndMessages := by
  unfold Obligations.TunnelsAndMessages
  refine ⟨fun s u p hon => ?_, fun s mask => ?_⟩
  · intro i can port
    refine ⟨fun hpop => ?_, execTwReq_queued hon, fun hpop => execHmReq_queued hon hpop rfl⟩
    intro c x good sends
    have htake : exec .canTx s = .next (u.takeCanTx p) := execCanTx_takes hon hpop
    have hform : u.canTxForm p = true ↔ good := State.canTxForm_iff
    have hsends : u.canSilent c = false ↔ sends := State.canSilent_eq_false_iff
    rw [htake]
    refine ⟨fun hbad => ?_, fun hgood hstop => ?_, fun hgood hsend hfull => ?_, fun hgood hsend hroom => ?_⟩
    · rw [State.takeCanTx_badItem (hbad ∘ hform.mp)]
    · rw [State.takeCanTx_abort (hform.mpr hgood) (Bool.eq_true_of_not_eq_false (hstop ∘ hsends.mp))]
    · rw [State.takeCanTx_full (hform.mpr hgood) (hsends.mpr hsend) hfull]
    · rw [State.takeCanTx_queued (hform.mpr hgood) (hsends.mpr hsend) hroom]
  · have hzero {f : Fld} : f ∈ bridgeCounters → s.brgClear.fld f = 0 := State.brgClear_counter
    refine ⟨fun m => execIntmsgSend_native, execInterruptUnmask_on, execPwerrClear_on,
      fun hon => ⟨s.brgClear, execBridgeCounterClear_on hon, ?_⟩, execCompatSwitch_quiet⟩
    exact ⟨hzero (by decide), hzero (by decide), hzero (by decide), hzero (by decide), hzero (by decide), hzero (by decide),
      hzero (by decide), State.setFlds_mem _ _, State.setFlds_upl _ _⟩

end Sys2Proof.Machine
end

section
/-!
PROOF. The channels of the mailboxes: the response written, doorbells, the consumption of responses and the reset of a channel
(spec/15_mailbox.md R428, R430, R431, R433 to R436, R457).
-/
namespace Sys2Proof.Machine

/-! ## Fields -/

theorem Fld.apart_of_addr {f g : Fld} (h : f.addr ≠ g.addr) : f.apart g = true := by
  simp only [Fld.apart, bne_iff_ne.mpr h, Bool.true_or]

/-- Fields set in order, each apart from every other, read what they were set to. -/
theorem State.fld_setFlds_of_mem {l : List (Fld × Nat)} (hhi : ∀ x ∈ l, x.1.hi < 32)
    (hapart : l.Pairwise fun x y => y.1.apart x.1 = true) (s : State) :
    ∀ x ∈ l, (s.setFlds l).fld x.1 = x.2 % 2 ^ fieldWidth x.1.hi x.1.lo := by
  induction l generalizing s with
  | nil => exact fun x hx => absurd hx List.not_mem_nil
  | cons y r ih =>
    obtain ⟨hy, hr⟩ := List.pairwise_cons.mp hapart
    rintro x (_ | ⟨_, hx⟩)
    · exact State.fld_setFlds_cons (hhi y List.mem_cons_self) hy
    · exact ih (fun x hx => hhi x (List.mem_cons_of_mem y hx)) hr (s.setFld y.1 y.2) x hx

/-- A first write of a block counts in INITSTAT and changes no other register (R614). -/
theorem State.fillBlock_fld_other {f : Fld} (h : MEMC.INITSTAT_FOWBLK.apart f = true) (s : State) (a : Nat) :
    (s.fillBlock a).fld f = s.fld f := by
  unfold State.fillBlock
  split
  · exact State.fld_bump_other _ _ _ _ h
  · rfl

theorem State.poke_fld_other {f : Fld} (h : MEMC.INITSTAT_FOWBLK.apart f = true) (s : State) (a : Nat) (l : List Byte) :
    (s.poke a l).fld f = s.fld f := by
  simp only [State.poke]
  split
  · rfl
  · rw [State.fillBlock_fld_other h, State.fillBlock_fld_other h]
    rfl

section
variable {s : State} {ch : Nat}

/-! ## The registers of a channel (R457) -/

theorem cst_apart {f : Fld} (h : MBX.CST ch ≠ f.addr) : (MBX.CST_STATE ch).apart f = true := Fld.apart_of_addr h

theorem idx_ne_cst (ch : Nat) : MBX.CST ch ≠ MBX.IDX ch := by
  unfold MBX.CST MBX.IDX
  omega

theorem db_ne_cst (ch : Nat) : MBX.CST ch ≠ MBX.DB ch := by
  unfold MBX.CST MBX.DB
  omega

/-- CHERR lies below the registers of the channels. -/
theorem chErrFld_apart_db (ch : Nat) : (chErrFld ch).apart (MBX.DB_CPI ch) = true := by
  refine Fld.apart_of_addr ?_
  unfold chErrFld MBX.DB_CPI MBX.DB MBX.CHERR0 MBX.CHERR1
  split
  all_goals
    dsimp only
    omega

/-- The state of a channel, recomputed, is all that is written (R435, R457). -/
theorem State.chState_fld_other {f : Fld} (hf : (MBX.CST_STATE ch).apart f = true) : (s.chState ch).fld f = s.fld f := by
  unfold State.chState
  extract_lets st
  split
  · rfl
  · exact State.fld_setFld_other _ _ _ _ hf

/-! ## Responses (R428, R433, R434, R436) -/

/-- The 64 bytes of a response entry (R433). -/
def responseEntry (r : Req) (final : Bool) (status detail : Nat) (result : List Byte) : List Byte :=
  leBytes 2 r.opcode ++ leBytes 2 (b2n final) ++ leBytes 2 r.tag ++ leBytes 2 result.length ++ leBytes 2 status ++ leBytes 2 r.level
    ++ leBytes 4 detail ++ bytesAt result 0 48

theorem length_responseEntry (r : Req) (final : Bool) (status detail : Nat) (result : List Byte) :
    (responseEntry r final status detail result).length = 64 := by
  simp [responseEntry, leBytes, bytesAt]

section
variable {r : Req} {final : Bool} {status detail : Nat} {result : List Byte} (hmute : r.mute = false)
include hmute

theorem State.putResponse_mem : (s.putResponse r final status detail result).mem =
    Memory.putList s.mem (rspEntry r.ch (s.fld (MBX.IDX_RPI r.ch))) (responseEntry r final status detail result) := by
  have hentry : layout [(2, r.opcode), (2, b2n final), (2, r.tag), (2, result.length), (2, status), (2, r.level), (4, detail)]
      ++ bytesAt result 0 48 = responseEntry r final status detail result := by
    simp only [layout, responseEntry, List.append_nil, List.append_assoc]
  simp only [State.putResponse, hmute, Bool.false_eq_true, if_false, hentry]
  split
  · rw [State.setFld_mem, State.poke_mem]
  · rw [State.mbxIntr, State.intrEvent_mem, State.setFld_mem, State.poke_mem]

theorem State.putResponse_rpi :
    (s.putResponse r final status detail result).fld (MBX.IDX_RPI r.ch) = (s.fld (MBX.IDX_RPI r.ch) + 1) % 65536 := by
  have hset (u : State) (v : Nat) : (u.setFld (MBX.IDX_RPI r.ch) (v % 65536)).fld (MBX.IDX_RPI r.ch) = v % 65536 :=
    (State.fld_setFld_same _ _ _ (Nat.lt_succ_self 31)).trans (Nat.mod_mod ..)
  simp only [State.putResponse, hmute, Bool.false_eq_true, if_false]
  split
  · exact hset ..
  · exact hset ..

theorem State.final_mem : (s.final r status detail result).mem =
    Memory.putList s.mem (rspEntry r.ch (s.fld (MBX.IDX_RPI r.ch))) (responseEntry r true status detail result) := by
  rw [State.final, State.chState_mem, State.putResponse_mem hmute]
  rfl

theorem State.final_rpi : (s.final r status detail result).fld (MBX.IDX_RPI r.ch) = (s.fld (MBX.IDX_RPI r.ch) + 1) % 65536 := by
  rw [State.final, State.chState_fld_other (cst_apart (idx_ne_cst r.ch)), State.putResponse_rpi hmute]
  rfl

end

/-! ## Doorbells and responses consumed (R430) -/

/-- Nothing more of a channel is accepted, and the responses of its commands are discarded. -/
def State.silenced (s : State) (ch : Nat) : State :=
  let mute := fun r : Req => if r.ch = ch then { r with mute := true } else r
  let m := s.mbx
  { s with mbx := { m with order := m.order.filter fun e => e.1 != ch, cur := m.cur.map fun (e : Nat × Req) => (e.1, mute e.2),
                           runs := m.runs.map mute } }

theorem State.silenced_order : ∀ e ∈ (s.silenced ch).mbx.order, e.1 ≠ ch :=
  fun _ he => bne_iff_ne.mp (List.mem_filter.mp he).2

theorem State.silenced_runs : ∀ r ∈ (s.silenced ch).mbx.runs, r.ch = ch → r.mute = true := by
  intro r hr hch
  obtain ⟨x, -, rfl⟩ := List.mem_map.mp hr
  by_cases hx : x.ch = ch
  · rw [if_pos hx]
  · rw [if_neg hx] at hch
    exact absurd hch hx

theorem State.chError_eq (v : Nat) :
    s.chError ch v = (((s.silenced ch).setFld (chErrFld ch) 1).setFld (MBX.CST_STATE ch) csError).mbxIntr ch 3 v := rfl

theorem State.mbxIntr_fld (u : State) (c n v : Nat) (f : Fld) : (u.mbxIntr c n v).fld f = u.fld f := rfl

theorem State.chError_state (v : Nat) : (s.chError ch v).fld (MBX.CST_STATE ch) = 3 := by
  rw [State.chError_eq, State.mbxIntr_fld, State.fld_setFld_same _ _ _ (by decide : 2 < 32)]
  rfl

theorem State.chError_cpi (v : Nat) : (s.chError ch v).fld (MBX.DB_CPI ch) = s.fld (MBX.DB_CPI ch) := by
  rw [State.chError_eq, State.mbxIntr_fld, State.fld_setFld_other _ _ _ _ (cst_apart (db_ne_cst ch)),
    State.fld_setFld_other _ _ _ _ (chErrFld_apart_db ch)]
  rfl

section
variable {v : Nat} (hst : s.fld (MBX.CST_STATE ch) ≠ 4)
include hst

theorem State.doorbell_inRange {i2c : Bool} (hv : idxDiff v (s.fld (MBX.IDX_CCI ch)) ≤ 64) :
    let cci := s.fld (MBX.IDX_CCI ch)
    let cpi := s.fld (MBX.DB_CPI ch)
    let st := s.fld (MBX.CST_STATE ch)
    s.doorbell ch v i2c = { s.setFld (MBX.DB_CPI ch) v with
      mbx := { s.mbx with order := (s.mbx.order.filter fun e => e.1 != ch || decide (idxDiff e.2.1 cci < idxDiff v cci)) ++
        if st = 3 then []
        else (List.range (idxDiff v cci - idxDiff cpi cci)).map fun i => (ch, (cpi + i) % 65536, i2c) } } :=
  (if_neg hst).trans (if_neg (Nat.not_lt.mpr hv))

theorem State.doorbell_beyond {i2c : Bool} (hv : 64 < idxDiff v (s.fld (MBX.IDX_CCI ch))) : s.doorbell ch v i2c = s.chError ch v :=
  (if_neg hst).trans (if_pos hv)

theorem State.consumeResponses_inRange (hv : idxDiff (s.fld (MBX.IDX_RPI ch)) v ≤ 64) :
    s.consumeResponses ch v = (s.setFld (MBX.RCI_RCI ch) v).chState ch :=
  (if_neg hst).trans (if_neg (Nat.not_lt.mpr hv))

theorem State.consumeResponses_beyond (hv : 64 < idxDiff (s.fld (MBX.IDX_RPI ch)) v) : s.consumeResponses ch v = s.chError ch v :=
  (if_neg hst).trans (if_pos hv)

end

/-! ## The reset of a channel (R431) -/

/-- The staging windows that a channel holds, closed. -/
def State.windowsClosed (s : State) (ch : Nat) : State :=
  (s.mbx.stages.filter fun e => e.2.1 == ch).foldl (fun (s : State) e => s.closeStage e.1) s

theorem State.foldl_closeStage (l : List (Nat × Nat × Nat × Nat)) (s : State) :
    let t := l.foldl (fun (s : State) e => s.closeStage e.1) s
    t.mem = s.mem ∧ t.mbx.order = s.mbx.order ∧ t.mbx.runs = s.mbx.runs := by
  induction l generalizing s with
  | nil => exact ⟨rfl, rfl, rfl⟩
  | cons e l ih => exact ih (s.closeStage e.1)

theorem State.chReset_begins (hst : s.fld (MBX.CST_STATE ch) ≠ 4) :
    s.chReset ch = (((s.silenced ch).windowsClosed ch).setFld (chErrFld ch) 0).setFld (MBX.CST_STATE ch) csResetting :=
  if_neg hst

/-- The fields of a channel as its reset leaves them. -/
def channelFields (ch : Nat) : List (Fld × Nat) :=
  [(MBX.DB_CPI ch, 0), (MBX.RCI_RCI ch, 0), (MBX.IDX_CCI ch, 0), (MBX.IDX_RPI ch, 0), (MBX.CST_LEVEL ch, 0x0300), (MBX.CST_COMPAT ch, 0),
    (MBX.CST_STATE ch, csIdle)]

theorem channelFields_hi : ∀ x ∈ channelFields ch, x.1.hi < 32 := by
  simp [channelFields, MBX.DB_CPI, MBX.RCI_RCI, MBX.IDX_CCI, MBX.IDX_RPI, MBX.CST_LEVEL, MBX.CST_COMPAT, MBX.CST_STATE]

/-- The registers of the channels lie below those of the memory controllers. -/
theorem channelFields_initstat (hch : ch < 64) : ∀ x ∈ channelFields ch, MEMC.INITSTAT_FOWBLK.apart x.1 = true := by
  intro x hx
  have hbelow : x.1.addr < MEMC.INITSTAT := by
    revert x
    simp only [channelFields, List.forall_mem_cons, MBX.DB_CPI, MBX.RCI_RCI, MBX.IDX_CCI, MBX.IDX_RPI, MBX.CST_LEVEL, MBX.CST_COMPAT,
      MBX.CST_STATE, MBX.DB, MBX.RCI, MBX.IDX, MBX.CST, MEMC.INITSTAT]
    refine ⟨?_, ?_, ?_, ?_, ?_, ?_, ?_, fun x hx => absurd hx List.not_mem_nil⟩
    all_goals omega
  exact Fld.apart_of_addr (Nat.ne_of_gt hbelow)

theorem channelFields_apart : (channelFields ch).Pairwise fun x y => y.1.apart x.1 = true := by
  simp [channelFields, Fld.apart, MBX.DB_CPI, MBX.RCI_RCI, MBX.IDX_CCI, MBX.IDX_RPI, MBX.CST_LEVEL, MBX.CST_COMPAT, MBX.CST_STATE, MBX.DB,
    MBX.RCI, MBX.IDX, MBX.CST]

/-- The result buffer of a channel overwritten with free bytes in the modes that power LPDDR. -/
def State.resultFreed (s : State) (ch : Nat) : State :=
  let x := s.freeBytes 65536
  if x.2.mode.full then x.2.poke (resultBuf ch) x.1 else x.2

theorem State.resultFreed_fld {f : Fld} (h : MEMC.INITSTAT_FOWBLK.apart f = true) : (s.resultFreed ch).fld f = s.fld f := by
  unfold State.resultFreed
  extract_lets x
  split
  · exact State.poke_fld_other h x.2 _ _
  · rfl

theorem State.resultFreed_mem {a : Nat} (ha : a < resultBuf ch ∨ resultBuf ch + 65536 ≤ a) :
    Memory.get (s.resultFreed ch).mem a = Memory.get s.mem a := by
  unfold State.resultFreed
  extract_lets x
  have hlen : x.1.length = 65536 := by simp only [x, State.freeBytes, List.length_map, List.length_range]
  split
  · rw [State.poke_mem, Memory.get_putList_other _ _ _ _ (by rw [hlen]; exact ha)]
    rfl
  · rfl

/-- The reset of a channel complete: its fields set, its result buffer overwritten, its agent forgotten. -/
def State.resetEnded (s : State) (ch : Nat) : State :=
  let u := (s.setFlds (channelFields ch)).resultFreed ch
  { u with mbx := { u.mbx with agents := u.mbx.agents.drop ch } }.mbxIntr ch 4 0

theorem State.chResetDone_ends (hst : s.fld (MBX.CST_STATE ch) = csResetting) : s.chResetDone ch = s.resetEnded ch := by
  unfold State.chResetDone State.resetEnded State.resultFreed channelFields
  rw [if_neg (not_not.mpr hst)]

theorem State.resetEnded_fld (hch : ch < 64) : ∀ x ∈ channelFields ch, (s.resetEnded ch).fld x.1 = x.2 % 2 ^ fieldWidth x.1.hi x.1.lo := by
  intro x hx
  calc (s.resetEnded ch).fld x.1
    _ = ((s.setFlds (channelFields ch)).resultFreed ch).fld x.1 := rfl
    _ = (s.setFlds (channelFields ch)).fld x.1 := State.resultFreed_fld (channelFields_initstat hch x hx)
    _ = x.2 % 2 ^ fieldWidth x.1.hi x.1.lo := State.fld_setFlds_of_mem channelFields_hi channelFields_apart s x hx

theorem State.resetEnded_mem {a : Nat} (ha : a < resultBuf ch ∨ resultBuf ch + 65536 ≤ a) :
    Memory.get (s.resetEnded ch).mem a = Memory.get s.mem a := by
  have hfreed : Memory.get ((s.setFlds (channelFields ch)).resultFreed ch).mem a = Memory.get s.mem a := by
    rw [State.resultFreed_mem ha, State.setFlds_mem]
  exact hfreed

end

/-! ## The statements -/

/-- Settles O44: the response is written at the entry of RPI, whole, and RPI is raised after it; the state of the channel is the only
other thing that a final response writes. -/
theorem mailboxResponses : Obligations.MailboxResponses := by
  unfold Obligations.MailboxResponses
  intro s r status detail result _ hmute hwf rpi base entry t
  have hmem : t.mem = Memory.putList s.mem base (responseEntry r true status detail result) := State.final_mem hmute
  have hlen : (responseEntry r true status detail result).length = 64 := length_responseEntry ..
  refine ⟨State.final_rpi hmute, fun i hi => ?_, fun a ha => ?_⟩
  · rw [hmem, Memory.get_putList_same _ _ _ _ (by omega) hwf]
    rfl
  · rw [hmem, Memory.get_putList_other _ _ _ _ (by omega)]

/-- Settles O43: a doorbell and a consumption by where the index lies, a reset by the state that the channel is in. -/
theorem mailboxChannels : Obligations.MailboxChannels := by
  unfold Obligations.MailboxChannels
  intro s ch v i2c hon n st cci cpi
  have hbell : exec (.doorbell ch v i2c) s = .next (s.doorbell ch n i2c) := congrArg _ (if_pos hon)
  have hconsume : exec (.responseConsume ch v) s = .next (s.consumeResponses ch n) := congrArg _ (if_pos hon)
  have hreset : exec (.channelReset ch) s = .next (s.chReset ch) := congrArg _ (if_pos hon)
  have hdone : exec (.channelResetDone ch) s = .next (s.chResetDone ch) := congrArg _ (if_pos hon)
  rw [hbell, hconsume, hreset, hdone]
  refine ⟨fun hst hv => ?_, fun hst hv => ⟨_, rfl, ?_⟩, fun hst hv => ?_, fun hst hv => ?_, fun hst => ⟨?_, ?_, ?_⟩,
    fun hst => ⟨_, rfl, ?_⟩, fun hst => ⟨_, rfl, ?_⟩⟩
  · rw [State.doorbell_inRange hst hv]
  · rw [State.doorbell_beyond hst hv]
    exact ⟨rfl, State.chError_state n, State.chError_cpi n, rfl⟩
  · rw [State.consumeResponses_inRange hst hv]
  · rw [State.consumeResponses_beyond hst hv]
  · exact congrArg _ (if_pos hst)
  · exact congrArg _ (if_pos hst)
  · exact congrArg _ (if_pos hst)
  · obtain ⟨hmem, horder, hruns⟩ := State.foldl_closeStage ((s.silenced ch).mbx.stages.filter fun e => e.2.1 == ch) (s.silenced ch)
    rw [State.chReset_begins hst]
    refine ⟨State.fld_setFld_same _ _ _ (by decide : 2 < 32), fun e he => ?_, fun r hr => ?_, hmem⟩
    · exact State.silenced_order e (horder ▸ he)
    · exact State.silenced_runs r (hruns ▸ hr)
  · rw [State.chResetDone_ends hst]
    have hfld := State.resetEnded_fld (s := s) ch.isLt
    simp only [channelFields, List.forall_mem_cons] at hfld
    obtain ⟨hcpi, hrci, hcci, hrpi, hlevel, hcompat, hstate, -⟩ := hfld
    exact ⟨hcpi, hrci, hcci, hrpi, hlevel, hcompat, hstate, fun a ha => State.resetEnded_mem (by unfold resultBuf; omega)⟩

end Sys2Proof.Machine
end

section
/-!
PROOF. The acceptance of mailbox entries: the entry taken, and what its checks make of it (spec/15_mailbox.md R432, R434, R435, R441
to R443).
-/
namespace Sys2Proof.Machine

/-- A key that a table does not list is found where it is set, by any test that its value passes. -/
theorem Tbl.find?_set_of_has_eq_false {α : Type} {t : Tbl α} {k : Nat} {v : α} {p : α → Bool} (hk : t.has k = false) (hv : p v = true) :
    (t.set k v).find? (fun e => e.1 == k && p e.2) = some (k, v) := by
  have hfound : ((k, v).1 == k && p (k, v).2) = true := by rw [beq_self_eq_true, Bool.true_and, hv]
  induction t with
  | nil => exact List.find?_cons_of_pos hfound
  | cons e t ih =>
    obtain ⟨k', v'⟩ := e
    obtain ⟨hne, ht⟩ : (k' == k) = false ∧ Tbl.has t k = false := by simpa only [Tbl.has, List.any_cons, Bool.or_eq_false_iff] using hk
    have hkk : k ≠ k' := fun h => beq_eq_false_iff_ne.mp hne h.symm
    simp only [Tbl.set, if_neg hkk]
    split
    · exact List.find?_cons_of_pos hfound
    · rw [List.find?_cons_of_neg (by simp only [hne, Bool.false_and, Bool.false_eq_true, not_false_eq_true])]
      exact ih ht

section
variable {s : State} {ch i : Nat} {i2c : Bool} {e : List Byte} {r : Req}

/-! ## The entry taken (R435) -/

/-- The entry whose doorbell came first is the next one where its channel may have one accepted and has room. -/
theorem State.nextEntry_first {rest : List (Nat × Nat × Bool)} (hfree : s.chFree ch = true) (hroom : s.chRoom ch = true) :
    s.nextEntry ((ch, i, i2c) :: rest) [] = (some (ch, i, i2c), s) := by
  simp only [State.nextEntry, hfree, hroom, List.contains_nil, Bool.not_true, Bool.or_self, Bool.false_eq_true, if_false, if_true]

/-- The level at which an entry runs: its SHI field where the channel serves it, else the channel's (R441, R442). -/
def State.entryLevel (s : State) (ch : Nat) (e : List Byte) : Nat :=
  let chl := s.fld (MBX.CST_LEVEL ch)
  if fieldAt e 8 2 = 0 ∨ fieldAt e 0 2 = 0x0101 ∨ !shiServed chl (fieldAt e 8 2) then chl else fieldAt e 8 2

/-- The command that an entry gives (R432). -/
def State.entryReq (s : State) (ch : Nat) (i2c : Bool) (e : List Byte) : Req :=
  let len := fieldAt e 6 2
  { ch := ch, opcode := fieldAt e 0 2, tag := fieldAt e 4 2, noint := bit (fieldAt e 2 2) 0 || i2c, level := s.entryLevel ch e,
    len := len, body := bytesAt (bytesAt e 16 (min len 48)) 0 48 }

/-- A command held as its channel's, with its entry out of the order and CCI past it. -/
def State.held (s : State) (ch i : Nat) (i2c : Bool) (r : Req) : State :=
  let x := { s with mbx := { s.mbx with order := s.mbx.order.filter fun y => y != (ch, i, i2c) } }.setFld (MBX.IDX_CCI ch) ((i + 1) % 65536)
  { x with mbx := { x.mbx with cur := x.mbx.cur.set ch r } }.chState ch

theorem State.held_takes (hfree : s.chFree ch = true) : (s.held ch i i2c r).takes ch r.opcode = some r := by
  have hno : s.mbx.cur.has ch = false := by
    simp only [State.chFree, Bool.and_eq_true, Bool.not_eq_true'] at hfree
    obtain ⟨⟨-, hno⟩, -⟩ := hfree
    exact hno
  have hcur : (s.held ch i i2c r).mbx.cur = s.mbx.cur.set ch r := by
    rw [State.held, State.chState_mbx]
    rfl
  simp only [State.takes, hcur, Tbl.find?_set_of_has_eq_false (p := fun x => x.opcode == r.opcode) hno (beq_self_eq_true _)]

/-! ## What the checks make of it (R434, R443) -/

/-- The held command, its entry checked: answered with the error of the first check that fails, else kept, with its port in CK9200
numbers where the level calls for it. -/
def State.judged (s : State) (ch : Nat) (e : List Byte) (r : Req) : State :=
  match s.checkEntry ch e r.level with
  | some (st, d) => s.refuse r st d
  | none =>
    if r.level = 0x0204 ∧ (r.opcode = 0x0200 ∨ r.opcode = 0x0201) then
      match s.aliasOf (r.arg 0 2) with
      | none => s.refuse r mbArg 0
      | some p => { s with mbx := { s.mbx with cur := s.mbx.cur.set ch { r with body := leBytes 2 p ++ r.body.drop 2 } } }
    else s

theorem State.acceptEntry_clean (hclean : s.poisoned (cmdEntry ch i) 64 = false) :
    let e := s.bytes (cmdEntry ch i) 64
    let r := s.entryReq ch i2c e
    s.acceptEntry (ch, i, i2c) = (s.held ch i i2c r).judged ch e r := by
  intro e r
  have hlevel (u : State) (v : Nat) : (u.setFld (MBX.IDX_CCI ch) v).fld (MBX.CST_LEVEL ch) = u.fld (MBX.CST_LEVEL ch) :=
    State.fld_setFld_other _ _ _ _ (Fld.apart_of_addr (idx_ne_cst ch).symm)
  have hheld : ¬(s.held ch i i2c r).poisoned (cmdEntry ch i) 64 = true := by
    rw [State.poisoned, State.held, State.chState_memx]
    exact ne_true_of_eq_false hclean
  -- Each part is made opaque once it is recognised, so that no comparison reads the bytes of the entry.
  unfold State.acceptEntry
  extract_lets ch' a e' m s1 shi chl op level len r' m1 s2
  have hchl : chl = s.fld (MBX.CST_LEVEL ch) := hlevel ..
  clear_value chl
  subst hchl
  have hlev : level = s.entryLevel ch e := rfl
  clear_value level
  subst hlev
  have hreq : r' = r := rfl
  clear_value r'
  subst hreq
  have hs2 : s2 = s.held ch i i2c r := rfl
  clear_value s2
  subst hs2
  have hl : s.entryLevel ch e = r.level := rfl
  have ho : op = r.opcode := rfl
  clear_value op r
  rw [if_neg hheld, hl, ho]
  rfl

theorem execMailboxEntryAccept_first {rest : List (Nat × Nat × Bool)} (hserve : s.serving = true)
    (horder : s.mbx.order = (ch, i, i2c) :: rest) (hfree : s.chFree ch = true) (hroom : s.chRoom ch = true)
    (hclean : s.poisoned (cmdEntry ch i) 64 = false) :
    let e := s.bytes (cmdEntry ch i) 64
    let r := s.entryReq ch i2c e
    execMailboxEntryAccept s = .next ((s.held ch i i2c r).judged ch e r) := by
  intro e r
  rw [execMailboxEntryAccept, if_pos hserve, horder, State.nextEntry_first hfree hroom]
  exact congrArg _ (State.acceptEntry_clean hclean)

theorem State.judged_error {st d : Nat} (hcheck : s.checkEntry ch e r.level = some (st, d)) : s.judged ch e r = s.refuse r st d := by
  simp only [State.judged, hcheck]

section
variable (hcheck : s.checkEntry ch e r.level = none)
include hcheck

theorem State.judged_kept (hport24 : ¬(r.level = 0x0204 ∧ (r.opcode = 0x0200 ∨ r.opcode = 0x0201))) : s.judged ch e r = s := by
  simp only [State.judged, hcheck, if_neg hport24]

theorem State.judged_noPort (hport24 : r.level = 0x0204 ∧ (r.opcode = 0x0200 ∨ r.opcode = 0x0201)) (hport : s.aliasOf (r.arg 0 2) = none) :
    s.judged ch e r = s.refuse r 4 0 := by
  simp only [State.judged, hcheck, if_pos hport24, hport, mbArg]

theorem State.judged_renumbered {p : Nat} (hport24 : r.level = 0x0204 ∧ (r.opcode = 0x0200 ∨ r.opcode = 0x0201))
    (hport : s.aliasOf (r.arg 0 2) = some p) :
    s.judged ch e r = { s with mbx := { s.mbx with cur := s.mbx.cur.set ch { r with body := leBytes 2 p ++ r.body.drop 2 } } } := by
  simp only [State.judged, hcheck, if_pos hport24, hport]

end
end

/-! ## The statement -/

/-- Settles O45: the first entry is taken as its channel's command, and its outcome is read off its checks. -/
theorem mailboxAcceptance : Obligations.MailboxAcceptance := by
  unfold Obligations.MailboxAcceptance
  intro s ch i i2c rest hserve horder hfree hroom e op shi chl level len r x u hclean
  have hlevel : level = s.entryLevel ch e := by
    simp only [State.entryLevel, Bool.not_eq_true']
    rfl
  clear_value level
  have hr : r = s.entryReq ch i2c e := by
    rw [State.entryReq, ← hlevel]
  have haccept : exec .mailboxEntryAccept s = .next (u.judged ch e r) := by
    have hu : u = s.held ch i i2c r := rfl
    clear_value u
    rw [hu, hr]
    exact execMailboxEntryAccept_first hserve horder hfree hroom hclean
  have hl : r.level = level := rfl
  have ho : r.opcode = op := rfl
  have htakes : u.takes ch r.opcode = some r := State.held_takes hfree
  clear_value u r op e
  subst hl ho
  rw [haccept]
  refine ⟨fun hcheck hnative => ⟨?_, htakes⟩, fun hcheck _ h0 h1 => ?_, fun hcheck hold hport => ⟨fun hnone => ?_, fun p hsome => ?_⟩,
    fun st d herror => ?_⟩
  · rw [State.judged_kept hcheck fun h => hnative h.1]
  · rw [State.judged_kept hcheck fun h => h.2.elim h0 h1]
  · rw [State.judged_noPort hcheck ⟨hold, hport⟩ hnone]
  · rw [State.judged_renumbered hcheck ⟨hold, hport⟩ hsome]
  · rw [State.judged_error herror]

end Sys2Proof.Machine
end

section
/-!
PROOF. The SYS commands: what each does once its channel's entry is taken and its checks let it pass (spec/02_modes.md R39 to R43,
spec/15_mailbox.md R441, R445, R446).
-/
namespace Sys2Proof.Machine

section
variable {s : State} {ch : Chan} {r : Req}

/-! ## Commands without a check (R445) -/

theorem execSysNop_takes (ht : s.takes ch 0x0100 = some r) : execSysNop ch s = .next (s.done r []) := by
  rw [execSysNop, State.onCommand_eq ht]

theorem execSysInfo_running {i : Image} (ht : s.takes ch 0x0102 = some r) (hi : s.sys.image = some i) :
    execSysInfo ch s = .next (s.done r (s.words4 [GLB.IDCODE, GLB.MODE]
      ++ (leBytes 4 (fieldAt i.body 0x0C 4) ++ leBytes 2 (fieldAt i.body 0x10 2) ++ leBytes 1 (s.fld GLB.MODE_BOOTSLOT) ++ leBytes 1 0)
      ++ s.words4 [GLB.BUILD, KPR.STRAPS])) := by
  rw [execSysInfo, State.onCommand_eq ht]
  simp only [hi, layout, List.append_nil, List.append_assoc]

theorem execSysGetMode_takes (ht : s.takes ch 0x0104 = some r) :
    execSysGetMode ch s = .next (s.done r (s.words4 [GLB.MODE, GLB.WAKE])) := by
  rw [execSysGetMode, State.onCommand_eq ht]

/-! ## SYS_HELLO (R441) -/

/-- The level of a host that speaks SHI 3: its highest, capped at 3.2. -/
theorem helloLevel_native {hmin hmax : Nat} (hmax3 : 0x0300 ≤ hmax) (hfits : hmin ≤ min hmax 0x0302) :
    helloLevel hmin hmax = some (min hmax 0x0302) := by
  simp only [helloLevel, if_pos hmax3, Option.filter_some, decide_eq_true hfits, if_true]

/-- A channel at the level that SYS_HELLO chooses, with its agent. -/
def State.greeted (s : State) (r : Req) (l compat : Nat) : State :=
  let u := s.setFlds [(MBX.CST_LEVEL r.ch, l), (MBX.CST_COMPAT r.ch, compat)]
  { u with mbx := { u.mbx with agents := u.mbx.agents.set r.ch (r.arg 4 4) } }

/-- What SYS_HELLO answers at a level. -/
def State.helloResult (s : State) (l : Nat) : List Byte :=
  leBytes 2 l ++ leBytes 2 0x0302 ++ leBytes 2 0x0204 ++ leBytes 1 s.dev ++ leBytes 1 0 ++ s.words4 [GLB.IDCODE, GLB.MODE]
    ++ leBytes 4 (s.fld GLB.CFGGEN_GEN)

theorem State.helloResult_layout (l : Nat) :
    layout [(2, l), (2, 0x0302), (2, 0x0204), (1, s.dev), (1, 0)] ++ s.words4 [GLB.IDCODE, GLB.MODE] ++ leBytes 4 (s.fld GLB.CFGGEN_GEN) =
      s.helloResult l := by
  simp only [State.helloResult, layout, List.append_nil, List.append_assoc]

theorem execSysHello_level {l : Nat} (ht : s.takes ch 0x0101 = some r) (hl : helloLevel (r.arg 0 2) (r.arg 2 2) = some l) :
    let u := s.greeted r l (b2n (l == 0x0204))
    execSysHello ch s = .next (u.done r (u.helloResult l)) := by
  intro u
  rw [execSysHello, State.onCommand_eq ht, hl, ← State.helloResult_layout]
  rfl

theorem execSysHello_native (ht : s.takes ch 0x0101 = some r) (hmax3 : 0x0300 ≤ r.arg 2 2) (hfits : r.arg 0 2 ≤ min (r.arg 2 2) 0x0302) :
    let l := min (r.arg 2 2) 0x0302
    let u := s.greeted r l 0
    execSysHello ch s = .next (u.done r (u.helloResult l)) := by
  intro l u
  have hne : l ≠ 0x0204 := by omega
  have hnative : s.greeted r l (b2n (l == 0x0204)) = u := by
    rw [beq_false_of_ne hne]
    rfl
  rw [execSysHello_level ht (helloLevel_native hmax3 hfits), hnative]

/-! ## SYS_SET_MODE (R39 to R43, R446) -/

theorem execSysSetMode_takes (ht : s.takes ch 0x0103 = some r) : execSysSetMode ch s = .next (s.askMode r) := by
  rw [execSysSetMode, State.onCommand_eq ht]

theorem legalMove_paired {m : Mode} (h : m = .prepare ∨ m = .run) : Mode.paired ≠ m ∧ legalMove m .paired = true := by
  rcases h with rfl | rfl
  all_goals decide

theorem State.askMode_busy (hbusy : s.flag GLB.MODE_BUSY = true) : s.askMode r = s.refuse r 0x0102 0 :=
  if_pos hbusy

section
variable (hidle : ¬s.flag GLB.MODE_BUSY = true)
include hidle

theorem State.askMode_noMode (hcode : 8 ≤ r.arg 0 1) : s.askMode r = s.refuse r 4 0 :=
  (if_neg hidle).trans (if_pos hcode)

variable (hcode : r.arg 0 1 < 8)
include hcode

theorem State.askMode_illegal (h : Mode.ofCode (r.arg 0 1) = .degraded ∨
    (Mode.ofCode (r.arg 0 1) ≠ s.mode ∧ legalMove s.mode (Mode.ofCode (r.arg 0 1)) = false)) : s.askMode r = s.refuse r 0x0101 0 := by
  unfold State.askMode
  extract_lets code target
  rw [if_neg hidle, if_neg (Nat.not_le.mpr hcode)]
  rcases h with hdeg | ⟨hmove, hlegal⟩
  · rw [if_pos hdeg]
  · rw [if_neg hmove, hlegal, Bool.not_false, if_pos rfl, ite_self]

theorem State.askMode_same (hdeg : Mode.ofCode (r.arg 0 1) ≠ .degraded) (hsame : Mode.ofCode (r.arg 0 1) = s.mode) :
    s.askMode r = s.done r (leBytes 4 (s.reg GLB.MODE).toNat) := by
  unfold State.askMode
  extract_lets code target
  rw [if_neg hidle, if_neg (Nat.not_le.mpr hcode), if_neg hdeg, if_pos hsame]

theorem State.askMode_granted (hm : Mode.ofCode (r.arg 0 1) = .service) (hmove : Mode.service ≠ s.mode)
    (hlegal : legalMove s.mode .service = true) (hg : s.granted = true) : s.askMode r =
      ({ s with sec := { s.sec with grant := none } }.setFld SEC.SECSTAT_GRANT 0).beginTrans r .service := by
  simp only [State.askMode, hidle, Nat.not_le.mpr hcode, hm, hmove, hlegal, hg, reduceCtorEq, Bool.not_true, Bool.false_eq_true,
    if_false, if_true]

theorem State.askMode_notGranted (hm : Mode.ofCode (r.arg 0 1) = .service) (hmove : Mode.service ≠ s.mode)
    (hlegal : legalMove s.mode .service = true) (hg : s.granted = false) : s.askMode r = s.refuse r 0x000A 0 := by
  simp only [State.askMode, hidle, Nat.not_le.mpr hcode, hm, hmove, hlegal, hg, reduceCtorEq, Bool.not_true, Bool.false_eq_true,
    if_false, mbDenied]

/-- RUN from PREPARE, judged by the pixel load and the memory of the active set (log entry 94). -/
theorem State.askMode_run (hm : Mode.ofCode (r.arg 0 1) = .run) (hmode : s.mode = .prepare) : s.askMode r =
    if s.checkPixels s.cfg.active = none ∧ s.checkMemory s.cfg.active [] = none then s.beginTrans r .run else s.refuse r 0x0103 0 := by
  have hfails : ((s.checkPixels s.cfg.active).isSome = true ∨ (s.checkMemory s.cfg.active []).isSome = true) ↔
      ¬(s.checkPixels s.cfg.active = none ∧ s.checkMemory s.cfg.active [] = none) := by
    rw [Option.isSome_iff_ne_none, Option.isSome_iff_ne_none, not_and_or]
  have hlegal : legalMove .prepare .run = true := rfl
  simp only [State.askMode, hidle, Nat.not_le.mpr hcode, hm, hmode, hlegal, hfails, ite_not, reduceCtorEq, Bool.not_true,
    Bool.false_eq_true, if_false, if_true]

section
variable (hm : Mode.ofCode (r.arg 0 1) = .paired) (hmode : s.mode = .prepare ∨ s.mode = .run)
include hm hmode

theorem State.askMode_noPair (hdev : s.dev = 0) : s.askMode r = s.refuse r 0x0104 1 := by
  obtain ⟨hmove, hlegal⟩ := legalMove_paired hmode
  simp only [State.askMode, hidle, Nat.not_le.mpr hcode, hm, hmove, hlegal, hdev, reduceCtorEq, Bool.not_true, Bool.false_eq_true,
    if_false, if_true]

theorem State.askMode_joins (hdev : s.dev ≠ 0) (hadmit : s.pairAdmits s.pair.mode = true) :
    s.askMode r = (s.interim r []).startJoin r.ch r.tag := by
  obtain ⟨hmove, hlegal⟩ := legalMove_paired hmode
  simp only [State.askMode, hidle, Nat.not_le.mpr hcode, hm, hmove, hlegal, hdev, hadmit, reduceCtorEq, Bool.not_true,
    Bool.false_eq_true, if_false]

end

/-- The transitions that only begin. -/
theorem State.askMode_begins {m : Mode} (hm : Mode.ofCode (r.arg 0 1) = m) (hmove : m ≠ s.mode) (hlegal : legalMove s.mode m = true)
    (hplain : m = .standby ∨ m = .boot ∨ m = .safe) : s.askMode r = s.beginTrans r m := by
  rcases hplain with rfl | rfl | rfl
  all_goals simp only [State.askMode, hidle, Nat.not_le.mpr hcode, hm, hmove, hlegal, reduceCtorEq, Bool.not_true, Bool.false_eq_true,
    if_false]

end

/-! ## SYS_PRIORITY and SYS_COMPAT (R445) -/

/-- Distinct ports, none named before, are all good. -/
theorem badPort_none {ports : List Nat} (hdistinct : ports.Nodup) (hports : ∀ p ∈ ports, p < 192) {seen : List Nat} {i : Nat}
    (hnew : ∀ p ∈ ports, p ∉ seen) : badPort seen ports i = none := by
  induction ports generalizing seen i with
  | nil => rfl
  | cons p ports ih =>
    obtain ⟨hp, hrest⟩ := List.nodup_cons.mp hdistinct
    have hgood : ¬(seen.contains p || decide (191 < p)) = true := by
      rw [Bool.or_eq_true, List.contains_iff_mem, decide_eq_true_eq, not_or]
      exact ⟨hnew p List.mem_cons_self, Nat.not_lt.mpr (Nat.le_of_lt_succ (hports p List.mem_cons_self))⟩
    rw [badPort, if_neg hgood]
    refine ih hrest (fun q hq => hports q (List.mem_cons_of_mem p hq)) fun q hq hmem => ?_
    rcases List.mem_cons.mp hmem with rfl | hold
    · exact hp hq
    · exact hnew q (List.mem_cons_of_mem p hq) hold

/-- The list begun anew: position 0. -/
theorem execSysPriority_first (ht : s.takes ch 0x0105 = some r) (hpos : r.arg 0 2 = 0) (hlo : 1 ≤ r.arg 2 1) (hhi : r.arg 2 1 ≤ 40)
    (hdistinct : ((List.range (r.arg 2 1)).map fun i => r.arg (3 + i) 1).Nodup)
    (hports : ∀ p ∈ (List.range (r.arg 2 1)).map fun i => r.arg (3 + i) 1, p < 192) :
    let ports := (List.range (r.arg 2 1)).map fun i => r.arg (3 + i) 1
    let share := ((List.range (r.arg 2 1)).filter fun i => bit (r.arg 43 5) i).map fun i => r.arg (3 + i) 1
    execSysPriority ch s =
      .next ({ s with mbx := { s.mbx with priority := ports, share := share } }.done r (leBytes 2 (r.arg 2 1))) := by
  have hcount : ¬(r.arg 2 1 = 0 ∨ 40 < r.arg 2 1) := by omega
  have hgood := badPort_none hdistinct hports (seen := []) (i := 0) fun _ _ => List.not_mem_nil
  rw [execSysPriority, State.onCommand_eq ht]
  simp only [hpos, hcount, hgood, List.length_nil, List.nil_append, Nat.zero_add, ne_eq, not_true_eq_false, if_false, if_true]

/-- With good aliases and no SYS_COMPAT in progress, the mode is asked for and those that ask for the mode in force are answered. -/
theorem execSysCompat_asked (ht : s.takes ch 0x0106 = some r) (hmode : r.arg 0 1 ≤ 1)
    (hports : ∀ i < 24, r.arg (2 + i) 1 < 192 ∨ r.arg (2 + i) 1 = 255) (hfree : ∀ x ∈ s.mbx.runs, x.opcode ≠ 0x0106) :
    let u := ({ s with mbx := { s.mbx with ck2100 := bytesAt r.body 2 24 } }.setFld BRG.CTL_COMPAT (r.arg 0 1)).interim r []
    execSysCompat ch s = .next (u.answerCompat u.mbx.runs) := by
  have hfind : ((List.range 24).find? fun i => decide (191 < r.arg (2 + i) 1) && r.arg (2 + i) 1 != 255) = none := by
    rw [List.find?_eq_none]
    intro i hi
    have := hports i (List.mem_range.mp hi)
    rw [Bool.and_eq_true, decide_eq_true_eq, bne_iff_ne]
    omega
  have hany : (s.mbx.runs.any fun x => x.opcode == 0x0106) = false := by
    rw [List.any_eq_false]
    exact fun x hx hop => hfree x hx (beq_iff_eq.mp hop)
  rw [execSysCompat, State.onCommand_eq ht]
  simp only [Nat.not_lt.mpr hmode, hfind, hany, Bool.false_eq_true, if_false]

end

/-! ## The statement -/

/-- Settles O46: each command by the lemma of what it does once its checks pass, SYS_SET_MODE by the mode it asks for. -/
theorem systemCommands : Obligations.SystemCommands := by
  unfold Obligations.SystemCommands
  intro s ch r is
  refine ⟨execSysNop_takes, execSysHello_native, fun i => execSysInfo_running, fun ht => ?_, execSysGetMode_takes, execSysPriority_first,
    execSysCompat_asked⟩
  intro target busy
  have hask : exec (.sysSetMode ch) s = .next (s.askMode r) := execSysSetMode_takes ht
  rw [hask]
  refine ⟨fun hbusy => ?_, fun hidle hcode => ?_, fun hidle hcode h => ?_, fun hidle hcode hm hmove hlegal => ⟨fun hg => ?_, fun hg => ?_⟩,
    fun hidle hcode hm hmode => ⟨fun hfits => ?_, fun hfails => ?_⟩, fun hidle hcode hm hmode => ⟨fun hdev => ?_, fun hdev hadmit => ?_⟩,
    fun hcode hidle hdeg hsame => ?_, fun hcode hidle hmove hlegal hplain => ?_⟩
  · rw [State.askMode_busy hbusy]
  · rw [State.askMode_noMode hidle hcode]
  · rw [State.askMode_illegal hidle hcode h]
  · rw [State.askMode_granted hidle hcode hm (hm ▸ hmove) (hm ▸ hlegal) hg]
  · rw [State.askMode_notGranted hidle hcode hm (hm ▸ hmove) (hm ▸ hlegal) hg]
  · rw [State.askMode_run hidle hcode hm hmode, if_pos hfits]
  · rw [State.askMode_run hidle hcode hm hmode, if_neg hfails]
  · rw [State.askMode_noPair hidle hcode hm hmode hdev]
  · rw [State.askMode_joins hidle hcode hm hmode hdev hadmit]
  · rw [State.askMode_same (ne_true_of_eq_false hidle) hcode hdeg hsame]
  · rw [State.askMode_begins (ne_true_of_eq_false hidle) hcode rfl hmove hlegal hplain]

end Sys2Proof.Machine
end

section
/-!
PROOF. The PORT and HEAD commands: what each does at an enabled port, with a head that answers where it needs one (spec/04_heads.md
R126, R134, R141, spec/15_mailbox.md R434, R447, R448).
-/
namespace Sys2Proof.Machine

section
variable {s : State} {ch : Chan} {r : Req} {port : Port}

/-! ## The port of a command (R434, R447) -/

theorem State.onPort_notEnabled (hp : r.arg 0 2 = port.val) (hen : CfgSet.portEnabled (s.setFor port.val) port.val = false)
    (k : State → Nat → State) : s.onPort r k = s.refuse r 0x000C 0 := by
  have hin : ¬191 < port.val := by omega
  simp only [State.onPort, hp, hin, hen, Bool.not_false, if_false, if_true, mbNotFound]

section
variable (hen : r.arg 0 2 = port.val ∧ CfgSet.portEnabled (s.setFor port.val) port.val = true)
include hen

theorem State.onPort_here (k : State → Nat → State) : s.onPort r k = k s port.val := by
  obtain ⟨hp, hen⟩ := hen
  rw [State.onPort_enabled (by omega) (by rw [hp, hen]), hp]

theorem State.onHead_answers (hst : s.pstate port.val = psReady ∨ s.pstate port.val = psStreaming) (k : State → Nat → State) :
    s.onHead r k = k s port.val := by
  rw [State.onHead, State.onPort_here hen, if_pos hst]

theorem State.onHead_silent (hready : s.pstate port.val ≠ psReady) (hstream : s.pstate port.val ≠ psStreaming)
    (k : State → Nat → State) : s.onHead r k = s.refuse r 0x0301 (s.pstate port.val) := by
  rw [State.onHead, State.onPort_here hen, if_neg (not_or.mpr ⟨hready, hstream⟩)]

/-! ## PORT (R141, R447) -/

theorem execPortStatus_here (ht : s.takes ch 0x0200 = some r) :
    let p := port.val
    execPortStatus ch s = .next (s.done r
      (s.words4 [HP.PSTAT p, HP.PCTL p, linkBase (.hp port) + 0x104, HP.INGSTAT p, HP.INGFN p] ++ s.serial p)) := by
  have hport : Fin.ofNat 192 port.val = port := Fin.ofNat_val_eq_self port
  rw [execPortStatus, State.onCommand_eq ht, State.onPort_here hen, hport]

theorem execPortRetrain_here (ht : s.takes ch 0x0201 = some r) :
    execPortRetrain ch s = .next ((s.lkRetrain (.hp port)).done r []) := by
  rw [execPortRetrain, State.onCommand_eq ht, State.onPort_here hen, dif_pos port.isLt]

theorem execPortAuth_here (ht : s.takes ch 0x0202 = some r) (hauth : r.arg 2 1 ≤ 1) :
    let old := (s.port port.val).pctlNext.getD (s.reg (HP.PCTL port.val)).toNat
    execPortAuth ch s = .next ((s.askPctl port.val (old / 256 % 256 * 256 + r.arg 2 1 + 65536 * r.arg 3 1)).done r []) := by
  rw [execPortAuth, State.onCommand_eq ht, State.onPort_here hen, if_neg (Nat.not_lt.mpr hauth)]

/-- The counters as they read before CLR zeroes them. -/
theorem execPortCounters_here (ht : s.takes ch 0x0203 = some r) (hclr : r.arg 2 1 ≤ 1) :
    let p := port.val
    execPortCounters ch s = .next ((if r.arg 2 1 = 1 then s.lkClear (.hp port) else s).done r
      (s.words4 [HP.ICNT0 p, HP.ICNT1 p, HP.ICNT2 p, HP.ICNT3 p, HP.ICNT4 p, HP.PCNT0 p, HP.PCNT1 p])) := by
  rw [execPortCounters, State.onCommand_eq ht, State.onPort_here hen, if_neg (Nat.not_lt.mpr hclr), dif_pos port.isLt]

/-! ## HEAD (R126, R134, R447, R448) -/

section
variable (hst : s.pstate port.val = psReady ∨ s.pstate port.val = psStreaming)
include hst

theorem execHeadLensReset_answers (ht : s.takes ch 0x0301 = some r) :
    let x := s.port port.val
    execHeadLensReset ch s = .next ((s.setPort port.val { x with
      sharp := [], hours := [], wearPend := x.wearPend ++ [(0x0F, 1, withBit (fieldAt x.wearNow 0x0F 1) 1 false)] }).done r []) := by
  rw [execHeadLensReset, State.onCommand_eq ht, State.onHead_answers hen hst]

theorem execHeadReauth_answers (ht : s.takes ch 0x0302 = some r) :
    execHeadReauth ch s = .next ((s.interim r []).challenge port.val true) := by
  rw [execHeadReauth, State.onCommand_eq ht, State.onHead_answers hen hst]

theorem execHeadPoll_answers (ht : s.takes ch 0x0303 = some r) :
    execHeadPoll ch s = .next ((s.interim r []).bcQueue port.val ⟨bcPoll, 0, [], 6, .poll r.ch r.tag⟩) := by
  rw [execHeadPoll, State.onCommand_eq ht, State.onHead_answers hen hst]

end

theorem execHeadPoll_silent (ht : s.takes ch 0x0303 = some r) (hready : s.pstate port.val ≠ psReady)
    (hstream : s.pstate port.val ≠ psStreaming) : execHeadPoll ch s = .next (s.refuse r 0x0301 (s.pstate port.val)) := by
  rw [execHeadPoll, State.onCommand_eq ht, State.onHead_silent hen hready hstream]

end

theorem execPortStatus_notEnabled (ht : s.takes ch 0x0200 = some r) (hp : r.arg 0 2 = port.val)
    (hen : CfgSet.portEnabled (s.setFor port.val) port.val = false) : execPortStatus ch s = .next (s.refuse r 0x000C 0) := by
  rw [execPortStatus, State.onCommand_eq ht, State.onPort_notEnabled hp hen]

/-- An entry of the ledger as HEAD_LEDGER gives it: zeros where there is none. -/
def State.ledgerBytes (s : State) (i : Nat) : List Byte :=
  match s.ledger[i]? with
  | some e => e.bytes
  | none => List.replicate 256 0

theorem execHeadLedger_takes (ht : s.takes ch 0x0300 = some r) (hlo : 1 ≤ r.arg 2 2) (hhi : r.arg 2 2 ≤ 256) :
    let b := (List.range (r.arg 2 2)).flatMap fun i => s.ledgerBytes (r.arg 0 2 + i)
    execHeadLedger ch s =
      .next ((s.poke (resultBuf r.ch) b).done r (leBytes 8 (resultBuf r.ch) ++ leBytes 4 b.length ++ leBytes 2 s.ledger.length)) := by
  intro b
  have hcount : ¬(r.arg 2 2 = 0 ∨ 256 < r.arg 2 2) := by omega
  rw [execHeadLedger, State.onCommand_eq ht, ← State.toBuffer_done, if_neg hcount]
  rfl

end

/-! ## The statement -/

/-- Settles O47: each command by the lemma of what it does at the port that its entry names. -/
theorem portCommands : Obligations.PortCommands := by
  unfold Obligations.PortCommands
  intro s ch r port is p x here head
  refine ⟨fun ht hen => execPortStatus_here hen ht, fun ht hen => execPortRetrain_here hen ht,
    fun ht hen hauth => execPortAuth_here hen ht hauth, fun ht hen => ⟨fun hclr => ?_, fun hclr => ?_⟩, execHeadLedger_takes,
    fun ht ⟨hen, hst⟩ => execHeadLensReset_answers hen hst ht, fun ht ⟨hen, hst⟩ => execHeadReauth_answers hen hst ht,
    fun ht ⟨hen, hst⟩ => execHeadPoll_answers hen hst ht, execPortStatus_notEnabled,
    fun ht hen hready hstream => execHeadPoll_silent hen ht hready hstream⟩
  · exact (execPortCounters_here hen ht (by omega)).trans (by rw [if_neg (by omega)])
  · exact (execPortCounters_here hen ht (by omega)).trans (by rw [if_pos hclr])

end Sys2Proof.Machine
end

section
/-!
PROOF. The block as a whole: every command goes on and leaves the queue alone, every step keeps the invariant, and no run takes a
fuse back (spec/23_memory.md R607, R614, R616, spec/18_rotation_bist.md R524, spec/24_security.md R626, R631).
-/
namespace Sys2Proof.Machine

/-- What a step leaves: it goes on, and neither the invariant nor a fuse is lost. -/
theorem step_goes (s : State) :
    ∃ t, step s = .next t ∧ (s.memoryGood → t.memoryGood) ∧ s.blown.le t.blown ∧ (s.blown.fit → t.blown.fit) := by
  unfold step
  split
  · have hk := State.idle_keeps (Keeps.refl s)
    exact ⟨_, rfl, hk.memory, hk.fuses, hk.fit⟩
  · next c rest _ =>
    -- The queue is no part of memory or of the fuses.
    obtain ⟨t, ht, hk⟩ := exec_keeps (i := c) (Keeps.refl { s with pending := rest })
    exact ⟨t, ht, hk.memory, hk.fuses, hk.fit⟩

/-- A run is a step, which takes no fuse back, and the rest of the run. -/
theorem run_succ {n : Nat} {s t : State} (h : core.run (n + 1) s = .next t) :
    ∃ u, core.run n u = .next t ∧ s.blown.le u.blown ∧ (s.blown.fit → u.blown.fit) := by
  obtain ⟨u, hu, -, hle, hfit⟩ := step_goes s
  have hrun : core.run (n + 1) s = core.run n u := by
    simp only [Host.Core.run, show core.step s = .next u from hu]
  exact ⟨u, hrun.symm.trans h, hle, hfit⟩

/-! ## The statements -/

/-- Settles O3: the invariant is among what every command and an idle clock keep. -/
theorem stepKeepsInvariant : Obligations.StepKeepsInvariant := by
  unfold Obligations.StepKeepsInvariant
  intro s t ⟨hmem, hfit⟩ h
  obtain ⟨u, hu, hmem', -, hfit'⟩ := step_goes s
  obtain rfl := Host.Outcome.next.inj (hu.symm.trans h)
  exact ⟨hmem' hmem, hfit' hfit⟩

/-- Settles O4: the dispatch of every command by what it keeps. -/
theorem everyCommandCompletes : Obligations.EveryCommandCompletes := by
  unfold Obligations.EveryCommandCompletes
  intro c s
  obtain ⟨t, ht, hk⟩ := exec_keeps (i := c) (Keeps.refl s)
  exact ⟨t, ht, hk.queue⟩

/-- Settles O5, by induction on the length of the run. -/
theorem fusesNeverGoBack : Obligations.FusesNeverGoBack := by
  unfold Obligations.FusesNeverGoBack
  intro n
  induction n with
  | zero =>
    intro s t hs h
    obtain rfl : s = t := Host.Outcome.next.inj h
    exact ⟨Fuses.le_refl _, hs⟩
  | succ n ih =>
    intro s t hs h
    obtain ⟨u, hrun, hle, hfit⟩ := run_succ h
    obtain ⟨hle', hfit'⟩ := ih u t (hfit hs) hrun
    exact ⟨Fuses.le_trans hle hle', hfit'⟩

end Sys2Proof.Machine
end

section
/-!
PROOF. DMA channels: GO, ABORT, event flags and the ends of a WAIT, and what each instruction does where a channel reaches it
(spec/20_dma.md R552 to R572).
-/
namespace Sys2Proof.Machine

section
variable {s : State} {ch : DmaCh} {d : Dma}

/-! ## Channels (R552, R554, R563, R564, R570) -/

/-- The program of a descriptor as it starts (R553). -/
def dmaOfHeader (desc : Nat) (h : List Byte) : Dma :=
  { desc := desc, irq := bit (fieldAt h 0 1) 1, nins := fieldAt h 4 2, next := fieldAt h 8 8, tag := fieldAt h 0x10 4 }

/-- A descriptor that keeps steps 1 to 3 of R554 starts its program at instruction 0. -/
theorem State.dmaStart_good {c desc : Nat} {last : Option Nat} {h : List Byte} (hh : h = s.bytes desc 64) (halign : desc % 64 = 0)
    (hin : inSram desc = true) (hclean : s.poisoned desc 64 = false) (hown : fieldAt h 0 1 % 2 = 1) (hgood : dmaHeaderGood desc h = true) :
    s.dmaStart c desc last = (s.setFlds [(DMA.CHCUR_ADDRL c, desc), (DMA.CHMOVED_MOVED c, 0)]).setDma c (dmaOfHeader desc h) := by
  have hout : ¬(desc % 64 ≠ 0 ∨ inSram desc = false) := by simp [halign, hin]
  have hbytes (l : List (Fld × Nat)) : (s.setFlds l).bytes desc 64 = h := by simp only [State.bytes, State.setFlds_mem, hh]
  have hpoison (l : List (Fld × Nat)) : (s.setFlds l).poisoned desc 64 = false := by
    rw [← hclean]
    simp only [State.poisoned, State.setFlds_memx]
  have hown' : ¬fieldAt h 0 1 % 2 = 0 := by omega
  simp only [State.dmaStart, if_neg hout, hbytes, hpoison, if_neg hown', hgood, Bool.not_true, Bool.false_eq_true, if_false, dmaOfHeader]

section
variable {w : DmaWait} (hon : s.dmaOn = true) (hd : s.dmaOf ch = some d) (hw : d.wait = some w)
include hon hd hw

theorem State.dmaWaitEnd_waits {p : DmaWait → Bool} {f : State → Dma → DmaWait → State} :
    s.dmaWaitEnd ch p f = if p w then f s d w else s := by
  simp only [State.dmaWaitEnd, hon, hd, hw, Bool.not_true, Bool.false_eq_true, if_false]

theorem execDmaWaitTime_waits : execDmaWaitTime ch s = .next (if 2 ≤ w.kind ∧ w.ends ≤ s.clock then s.dmaNext ch d else s) := by
  simp only [execDmaWaitTime, State.dmaWaitEnd_waits hon hd hw, decide_eq_true_eq]

theorem execDmaWaitTimeout_late {t : Nat} (ht : w.tmo = some t) (hlate : t ≤ s.clock) :
    execDmaWaitTimeout ch s = .next (s.dmaEnd ch d 7 w.kind) := by
  simp only [execDmaWaitTimeout, State.dmaWaitEnd_waits hon hd hw, ht, Option.any_some, decide_eq_true hlate, if_true]

end

/-- A write of EVCLR leaves the flags outside its mask. -/
theorem State.evFlag_evClrWrite {n : Fin 2} {mask : Word} :
    (s.evClrWrite n mask.toNat).fld (DMA.EVFLAG_FLAG n) = (BitVec.ofNat 32 (s.fld (DMA.EVFLAG_FLAG n)) &&& ~~~mask).toNat := by
  rw [State.evClrWrite, State.fld_setFld_same _ _ _ (show 31 < 32 by decide), BitVec.ofNat_toNat, BitVec.setWidth_eq]
  exact Nat.mod_eq_of_lt (BitVec.isLt _)

/-! ## The instruction that a channel reaches (R555, R556) -/

/-- The instruction at the PC of a program (R553). -/
def State.dmaIns (s : State) (d : Dma) : List Byte := s.bytes (d.insAddr d.pc) 32

/-- A program reaches an instruction: outside a loop, with none in progress, and with the instruction's bytes sound. -/
def State.dmaReaches (s : State) (d : Dma) : Prop :=
  (d.move = none ∧ d.wait = none) ∧ d.loop = none ∧ d.pc < d.nins ∧ s.poisoned (d.insAddr d.pc) 32 = false

/-- It reaches one that R556 accepts, with this OP. -/
def State.dmaReachesOp (s : State) (d : Dma) (op : Nat) : Prop :=
  s.dmaReaches d ∧ badIns d (s.dmaIns d) = none ∧ fieldAt (s.dmaIns d) 0 1 = op

section
variable (hon : s.dmaOn = true) (hd : s.dmaOf ch = some d)
include hon hd

theorem State.dmaStep_reaches {op : Nat} {f : State → Dma → List Byte → State} (hr : s.dmaReaches d) :
    s.dmaStep ch op f = match badIns d (s.dmaIns d) with
      | some k => s.dmaEnd ch d 4 k
      | none => if fieldAt (s.dmaIns d) 0 1 = op then f s d (s.dmaIns d) else s := by
  obtain ⟨⟨hmove, hwait⟩, hloop, hpc, hclean⟩ := hr
  simp only [State.dmaStep, hon, hd, hmove, hwait, hloop, hclean, Nat.not_le.mpr hpc, Option.isSome_none, Option.isNone_none, Bool.not_true,
    Bool.and_false, Bool.or_self, Bool.false_eq_true, if_false]
  rfl

theorem State.dmaStep_rejects {op k : Nat} {f : State → Dma → List Byte → State} (hr : s.dmaReaches d)
    (hbad : badIns d (s.dmaIns d) = some k) : s.dmaStep ch op f = s.dmaEnd ch d 4 k := by
  rw [State.dmaStep_reaches hon hd hr, hbad]

theorem State.dmaStep_runs {op : Nat} {f : State → Dma → List Byte → State} (hr : s.dmaReachesOp d op) :
    s.dmaStep ch op f = f s d (s.dmaIns d) := by
  obtain ⟨hr, hgood, hop⟩ := hr
  rw [State.dmaStep_reaches hon hd hr, hgood]
  exact if_pos hop

/-! ## MOVE (R557 to R559, R616) -/

/-- A program with the MOVE of an instruction in progress. -/
def Dma.moving (d : Dma) (ins : List Byte) : Dma :=
  { d with move := some { src := fieldAt ins 8 6, dst := fieldAt ins 16 6, left := fieldAt ins 4 4, sfix := bit (fieldAt ins 1 1) 0,
                          dfix := bit (fieldAt ins 1 1) 1 } }

theorem execDmaMove_reached (hr : s.dmaReachesOp d 1) :
    execDmaMove ch s = .next (
      let ins := s.dmaIns d
      if sideGood (bit (fieldAt ins 1 1) 0) (fieldAt ins 8 6) (fieldAt ins 4 4) = false then s.dmaEnd ch (d.moving ins) 5 1
      else if sideGood (bit (fieldAt ins 1 1) 1) (fieldAt ins 16 6) (fieldAt ins 4 4) = false then s.dmaEnd ch (d.moving ins) 5 2
      else s.setDma ch (d.moving ins)) := by
  have hok (fixed : Bool) (a len : Nat) : sideOk fixed a len = sideGood fixed a len := by
    simp only [sideOk, Int.natCast_nonneg, decide_true, Bool.true_and, Int.toNat_natCast]
  rw [execDmaMove, State.dmaStep_runs hon hd hr]
  obtain ⟨⟨-, hloop, -⟩, -⟩ := hr
  generalize s.dmaIns d = ins
  simp only [Dma.sides, Dma.moving, hloop, hok, Int.toNat_natCast, Bool.not_eq_true']

/-- A burst that reads no poison and writes over no half of it. -/
theorem execDmaBurst_moves {m : DmaMove} {data : List Byte} (hm : d.move = some m) :
    let n := m.burst
    let x := s.burstRead m n
    x.1 = some data → (decide (0x1000000 ≤ m.dst) && x.2.partialPoison m.dst (if m.dfix then 4 else n)) = false →
    let e := { d with move := some (m.after n), moved := d.moved + n }
    let u := x.2.burstWrite m data
    execDmaBurst ch s = .next (if (m.after n).left = 0 then u.dmaNext ch (e.keepSides (m.after n)) else u.setDma ch e) := by
  intro n x hdata hfree e u
  simp only [execDmaBurst, hon, hd, hm, hdata, hfree, Bool.not_true, Bool.false_eq_true, if_false, n, x, e, u]

/-! ## Loops, waits, signals, the end (R560 to R566) -/

theorem execDmaWait_reached (hr : s.dmaReachesOp d 3) :
    let ins := s.dmaIns d
    let kind := fieldAt ins 1 1
    let arg := fieldAt ins 4 4
    let time := fieldAt ins 8 8
    let waits := { d with wait := some { kind := kind, clr := bit (fieldAt ins 2 1) 0, arg := arg
                                         ends := if kind = 3 then s.clock + time else time
                                         tmo := if kind < 2 ∧ fieldAt ins 16 8 ≠ 0 then some (s.clock + fieldAt ins 16 8) else none } }
    execDmaWait ch s = .next (
      if kind = 0 ∧ s.evFlag arg = true then (if bit (fieldAt ins 2 1) 0 then s.setEvFlag arg false else s).setDma ch d.advance
      else if (kind = 2 ∧ time ≤ s.now) ∨ (kind = 3 ∧ time = 0) then s.setDma ch d.advance
      else s.setDma ch waits) := by
  rw [execDmaWait, State.dmaStep_runs hon hd hr]
  generalize s.dmaIns d = ins
  rfl

theorem execDmaNest3_reached (hr : s.dmaReachesOp d 6) :
    let ins := s.dmaIns d
    execDmaNest3 ch s = .next (
      if s.nestAllowed ch = false then s.dmaEnd ch d 8 s.mode.code
      else s.dmaEnter ch d ins { nest := true, pc := d.pc, body := [], c0 := fieldAt ins 2 2, c1 := fieldAt ins 4 2, c2 := fieldAt ins 6 2,
                                 steps := (List.range 6).map fun k => signed 32 (fieldAt ins (8 + 4 * k) 4) }) := by
  simp only [execDmaNest3, State.dmaStep_runs hon hd hr, Bool.not_eq_true']

/-- An END writes back, stops the channel with code OK, and goes on along the chain. -/
theorem execDmaEnd_reached (hr : s.dmaReachesOp d 5) :
    let u := (s.dmaWriteBack d 0 0).dmaStop ch d.desc d.pc d.tag 0 0 d.irq
    execDmaEnd ch s = .next (if d.next ≠ 0 then u.dmaStart ch d.next (some d.tag) else u) := by
  simp only [execDmaEnd, State.dmaStep_runs hon hd hr, State.dmaEnd, true_and]

end
end

/-! ## The statements -/

/-- Settles O56: each command by what the channel is doing. -/
theorem dmaChannels : Obligations.DmaChannels := by
  unfold Obligations.DmaChannels
  intro s ch n mask hon desc h
  have hgo : exec (.dmaGo ch) s = .next (s.dmaGo ch) := congrArg _ (if_pos hon)
  refine ⟨fun hrun => ?_, fun hidle halign hin hclean hown hgood => ?_, fun d hd => ?_, congrArg _ (if_pos hon),
    ⟨s.evClrWrite n mask.toNat, congrArg _ (if_pos hon), State.evFlag_evClrWrite, rfl⟩,
    fun d w hd hw => ⟨fun hk hend => ?_, fun t ht hlate => ?_, fun hno => ?_⟩,
    fun hfab => congrArg _ (if_pos hfab)⟩
  · rw [hgo, State.dmaGo, if_pos hrun]
  · have hh : h = s.bytes desc 64 := rfl
    clear_value h
    rw [hgo, State.dmaGo, if_neg (by simp [hidle]), State.dmaStart_good hh halign hin hclean hown hgood]
    exact ⟨dmaOfHeader desc h, rfl, rfl, rfl, rfl, rfl, rfl, rfl, rfl, rfl, rfl⟩
  · have habort : exec (.dmaAbort ch) s = .next (s.dmaAbort ch 0) := congrArg _ (if_pos hon)
    rw [habort, State.dmaAbort, hd]
  · exact (execDmaWaitTime_waits hon hd hw).trans (congrArg _ (if_pos ⟨hk, hend⟩))
  · exact execDmaWaitTimeout_late hon hd hw ht hlate
  · exact (execDmaWaitTime_waits hon hd hw).trans (congrArg _ (if_neg (by omega)))

/-- Settles O57: each instruction by the lemma of what it does where it is reached. -/
theorem dmaInstructions : Obligations.DmaInstructions := by
  unfold Obligations.DmaInstructions
  intro s ch d hon hd ins f idle fetched at_
  refine ⟨fun k hr hbad => congrArg _ (State.dmaStep_rejects hon hd hr hbad), fun hr => ?_, fun m data hm => ?_, fun hr => ?_,
    fun hr => ?_, fun hr => ?_, fun hr => congrArg _ (State.dmaStep_runs hon hd hr), fun hr => ?_⟩
  · have hmove : exec (.dmaMove ch) s = _ := execDmaMove_reached hon hd hr
    refine ⟨fun hsrc hdst => hmove.trans (congrArg _ ?_), fun hsrc => hmove.trans (congrArg _ (if_pos hsrc)),
      fun hsrc hdst => hmove.trans (congrArg _ ?_)⟩
    · exact (if_neg (ne_false_of_eq_true hsrc)).trans (if_neg (ne_false_of_eq_true hdst))
    · exact (if_neg (ne_false_of_eq_true hsrc)).trans (if_pos hdst)
  · intro n x hdata hfree e u
    have hburst : exec (.dmaBurst ch) s = _ := execDmaBurst_moves hon hd hm hdata hfree
    exact ⟨fun hmore => hburst.trans (congrArg _ (if_neg (Nat.sub_ne_zero_of_lt hmore))),
      fun hlast => hburst.trans (congrArg _ (if_pos (Nat.sub_eq_zero_of_le hlast)))⟩
  · exact congrArg _ (State.dmaStep_runs hon hd hr)
  · have hnest : exec (.dmaNest3 ch) s = _ := execDmaNest3_reached hon hd hr
    exact ⟨fun hmay => hnest.trans (congrArg _ (if_neg (ne_false_of_eq_true hmay))), fun hnot => hnest.trans (congrArg _ (if_pos hnot))⟩
  · intro flag waits
    have hwait : exec (.dmaWait ch) s = _ := execDmaWait_reached hon hd hr
    refine ⟨fun hk hflag hclr => hwait.trans (congrArg _ ?_), fun hk hflag hclr => hwait.trans (congrArg _ ?_),
      fun hk htime => hwait.trans (congrArg _ ?_), fun hopen => hwait.trans (congrArg _ ?_)⟩
    · exact (if_pos ⟨hk, hflag⟩).trans (congrArg (State.setDma · ch d.advance) (if_neg (ne_true_of_eq_false hclr)))
    · exact (if_pos ⟨hk, hflag⟩).trans (congrArg (State.setDma · ch d.advance) (if_pos hclr))
    · have hkind (h : f 1 1 = 0 ∧ flag = true) : False := by omega
      exact (if_neg hkind).trans (if_pos (.inl ⟨hk, htime⟩))
    · have hset : ¬(f 1 1 = 0 ∧ flag = true) := by
        rintro ⟨hk, hflag⟩
        rcases hopen with ⟨-, hno⟩ | hopen
        · exact absurd hno (ne_false_of_eq_true hflag)
        · omega
      have htime : ¬(f 1 1 = 2 ∧ f 8 8 ≤ s.now ∨ f 1 1 = 3 ∧ f 8 8 = 0) := by
        rcases hopen with ⟨hk, -⟩ | hopen <;> omega
      exact (if_neg hset).trans (if_neg htime)
  · intro u
    have hend : exec (.dmaEnd ch) s = _ := execDmaEnd_reached hon hd hr
    exact ⟨fun hlast => hend.trans (congrArg _ (if_neg (not_not.mpr hlast))), fun hnext => hend.trans (congrArg _ (if_pos hnext))⟩

end Sys2Proof.Machine
end

section
/-!
PROOF. A root PLL that unlocks, the self-test of SEC, the rails, the temperature sensors and the throttle (spec/24_security.md R633,
spec/25_clocks_power.md R641, R647 to R653).
-/
namespace Sys2Proof.Machine

/-! ## What a reset of the registers keeps (R11, R655, R657) -/

/-- A register reset keeps the keeper's bits of its word, listed or not. -/
theorem resetRegs_get {p : Nat → Bool} {a : Nat} (ha : p a = true) (t : Tbl Word) :
    Tbl.get (resetRegs p t) a (resetWord a) = (Tbl.get t a (resetWord a) &&& keeperMask a) ||| (resetWord a &&& ~~~keeperMask a) := by
  induction t with
  | nil =>
    simp only [resetRegs, Tbl.get]
    rw [← BitVec.and_or_distrib_left, BitVec.or_not_self, BitVec.and_allOnes]
  | cons e t ih =>
    obtain ⟨b, w⟩ := e
    simp only [resetRegs]
    by_cases hb : a = b
    · subst hb
      rw [if_pos ha]
      by_cases hm : keeperMask a = 0
      · rw [if_pos hm, ih, hm]
        simp only [BitVec.and_zero, BitVec.ofNat_eq_ofNat]
      · simp only [if_neg hm, Tbl.get, if_true]
    · have hskip (v : Word) (r : Tbl Word) : Tbl.get ((b, v) :: r) a (resetWord a) = Tbl.get r a (resetWord a) := if_neg hb
      rw [hskip]
      split
      · split
        · exact ih
        · exact (hskip ..).trans ih
      · exact (hskip ..).trans ih

/-- Bits that a mask covers do not change where the others are replaced. -/
theorem getBits_masked {w r m : Word} {hi lo : Nat} (hcov : fieldMask hi lo &&& m = fieldMask hi lo) (hhi : hi < 32) :
    getBits ((w &&& m) ||| (r &&& ~~~m)) hi lo = getBits w hi lo := by
  apply Nat.eq_of_testBit_eq
  intro i
  rw [getBits, getBits, testBit_bitsOf, testBit_bitsOf]
  by_cases hi' : i < fieldWidth hi lo
  · have h32 : lo + i < 32 := by unfold fieldWidth at hi'; omega
    have hbit : m.getLsbD (lo + i) = true := by
      have hget := congrArg (BitVec.getLsbD · (lo + i)) hcov
      simpa [getLsbD_fieldMask, h32, hi'] using hget
    simp only [BitVec.testBit_toNat, BitVec.getLsbD_or, BitVec.getLsbD_and, BitVec.getLsbD_not, hbit, Bool.and_true, Bool.not_true, Bool.and_false,
      Bool.or_false]
  · simp [hi']

/-- A field whose bits the keeper keeps survives a reset of every domain but the keeper's. -/
theorem State.resetAll_fld {f : Fld} (hcov : fieldMask f.hi f.lo &&& keeperMask f.addr = fieldMask f.hi f.lo) (hhi : f.hi < 32) (s : State)
    (keep : Nat → Bool) : (s.resetAll keep).fld f = s.fld f := by
  have hcsr : s.tsuStop.csr = s.csr := by
    unfold State.tsuStop
    split <;> rfl
  have hreg : (s.resetAll keep).reg f.addr = Tbl.get (resetRegs (fun _ => true) s.tsuStop.csr) f.addr (resetWord f.addr) := rfl
  rw [State.fld, hreg, hcsr, resetRegs_get rfl, getBits_masked hcov hhi]
  rfl

theorem State.resetAll_mode (s : State) (keep : Nat → Bool) : (s.resetAll keep).mode = s.mode :=
  congrArg Mode.ofCode (State.resetAll_fld (by decide) (by decide) s keep)

theorem State.resetAll_mem (s : State) (keep : Nat → Bool) : (s.resetAll keep).mem = s.mem.filter fun c => keep c.1 := by
  have hmem : s.tsuStop.mem = s.mem := by
    unfold State.tsuStop
    split <;> rfl
  rw [← hmem]
  rfl

theorem Memory.get_filter (m : List Host.Cell) (p : Nat → Bool) (a : Nat) :
    Memory.get (m.filter fun c => p c.1) a = if p a then Memory.get m a else 0 := by
  induction m with
  | nil => simp [Memory.get]
  | cons e r ih =>
    obtain ⟨x, b⟩ := e
    by_cases ha : a = x
    · subst ha
      by_cases hp : p a <;> simp [Memory.get, hp, ih]
    · by_cases hp : p x <;> simp [Memory.get, hp, ih, ha]

/-! ## What a report leaves alone (R538 to R540, R654) -/

/-- A report writes registers of the FCU alone. -/
theorem State.report_reg_other {a : Nat} (ha : a < 0x20000 ∨ 0x30000 ≤ a) (s : State) (code inst arg : Nat) :
    (s.report code inst arg).reg a = s.reg a := by
  have hfld (u : State) {f : Fld} (v : Nat) (hf : 0x20000 ≤ f.addr ∧ f.addr < 0x30000) : (u.setFld f v).reg a = u.reg a :=
    State.reg_setFld_other _ _ _ _ (by omega)
  have hlose (u : State) : (u.loseFault code).reg a = u.reg a := by
    have hfirst (c : Prop) [Decidable c] {f : Fld} (v : Nat) (hf : 0x20000 ≤ f.addr ∧ f.addr < 0x30000) :
        (if c then u.setFld f v else u).reg a = u.reg a := by
      split
      · exact hfld u v hf
      · rfl
    unfold State.loseFault
    split <;> exact (hfld _ _ (by decide)).trans (hfirst _ _ (by decide))
  have hdrive (u : State) : u.driveFaultN.reg a = u.reg a := by
    unfold State.driveFaultN
    dsimp only
    split <;> exact (hfld _ _ (by decide)).trans (hfld _ _ (by decide))
  unfold State.report
  dsimp only
  split
  · split <;> rfl
  · split
    · rfl
    · split
      · split
        · exact hfld _ _ (by decide)
        · rfl
      · exact (hdrive _).trans (hlose s)

theorem State.report_fld_other {f : Fld} (hf : f.addr < 0x20000 ∨ 0x30000 ≤ f.addr) (s : State) (code inst arg : Nat) :
    (s.report code inst arg).fld f = s.fld f :=
  congrArg (getBits · f.hi f.lo) (State.report_reg_other hf s code inst arg)

theorem State.report_mode (s : State) (code inst arg : Nat) : (s.report code inst arg).mode = s.mode :=
  congrArg Mode.ofCode (State.report_fld_other (by decide) s code inst arg)

/-! ## A mode entered (R35, R36) -/

/-- What GLB.MODE and GRANT are set to where a mode is entered. -/
def modeFields (prev m cause busy inpair : Nat) : List (Fld × Nat) :=
  [(GLB.MODE_PREV, prev), (GLB.MODE_CUR, m), (GLB.MODE_CAUSE, cause), (GLB.MODE_BUSY, busy), (GLB.MODE_INPAIR, inpair), (DMA.GRANT_MASK, 0)]

section
variable (s : State) (m : Mode) (cause : Nat) (inpair : Bool)

/-- A mode entered sets its fields on a state with the registers and the memory of before, its clocks gated as before. -/
theorem State.setMode_sets : ∃ (u : State) (busy arg : Nat), u.csr = s.csr ∧ u.mem = s.mem ∧ u.sys.gated = s.sys.gated ∧
    s.setMode m cause inpair = (u.setFlds (modeFields s.mode.code m.code cause busy (b2n inpair))).intrEvent 0x200 1 arg := by
  refine ⟨_, _, _, ?_, ?_, ?_, rfl⟩
  · rfl
  · rfl
  · dsimp only
    split <;> rfl

theorem modeFields_apart (f : Fld) (hmode : f.addr ≠ GLB.MODE) (hgrant : f.addr ≠ DMA.GRANT) (a b c d e : Nat) :
    ∀ x ∈ modeFields a b c d e, x.1.apart f = true := by
  simp only [modeFields, List.forall_mem_cons, List.not_mem_nil, false_implies, implies_true, and_true]
  exact ⟨Fld.apart_of_addr hmode.symm, Fld.apart_of_addr hmode.symm, Fld.apart_of_addr hmode.symm, Fld.apart_of_addr hmode.symm,
    Fld.apart_of_addr hmode.symm, Fld.apart_of_addr hgrant.symm⟩

theorem State.intrEvent_fld (src k arg : Nat) (f : Fld) : (s.intrEvent src k arg).fld f = s.fld f := rfl

theorem State.setMode_mode : (s.setMode m cause inpair).mode = m := by
  obtain ⟨u, busy, arg, -, -, -, hset⟩ := s.setMode_sets m cause inpair
  rw [State.mode, hset, State.intrEvent_fld, modeFields, State.setFlds, State.fld_setFlds_cons (by decide)]
  · cases m <;> rfl
  · simp only [List.forall_mem_cons, List.not_mem_nil, false_implies, implies_true, and_true]
    decide

theorem State.setMode_cause {cause : Nat} (h : cause < 256) : (s.setMode m cause inpair).fld GLB.MODE_CAUSE = cause := by
  obtain ⟨u, busy, arg, -, -, -, hset⟩ := s.setMode_sets m cause inpair
  rw [hset, State.intrEvent_fld, modeFields, State.setFlds, State.setFlds, State.fld_setFlds_cons (by decide)]
  · exact Nat.mod_eq_of_lt (show cause < 2 ^ 8 from h)
  · simp only [List.forall_mem_cons, List.not_mem_nil, false_implies, implies_true, and_true]
    decide

/-- It writes GLB.MODE and DMA.GRANT alone. -/
theorem State.setMode_fld_other {f : Fld} (hmode : f.addr ≠ GLB.MODE) (hgrant : f.addr ≠ DMA.GRANT) :
    (s.setMode m cause inpair).fld f = s.fld f := by
  obtain ⟨u, busy, arg, hcsr, -, -, hset⟩ := s.setMode_sets m cause inpair
  rw [hset, State.intrEvent_fld, State.fld_setFlds_other _ _ _ (modeFields_apart f hmode hgrant _ _ _ _ _), State.fld, State.fld, State.reg,
    State.reg,
    hcsr]

theorem State.setMode_mem : (s.setMode m cause inpair).mem = s.mem := by
  obtain ⟨u, busy, arg, -, hmem, -, hset⟩ := s.setMode_sets m cause inpair
  rw [hset, State.intrEvent_mem, State.setFlds_mem, hmem]

theorem State.setMode_gated : (s.setMode m cause inpair).sys.gated = s.sys.gated := by
  obtain ⟨u, busy, arg, -, -, hgated, hset⟩ := s.setMode_sets m cause inpair
  rw [hset, State.intrEvent_sys, State.setFlds_sys, hgated]

end

/-! ## PLL loss and SEC (R633, R641) -/

/-- Memory outside LPDDR. -/
def onDie (a : Nat) : Bool := decide (a < 0x100000000)

/-- Every domain but the keeper's reset, and the clocks gated: LPDDR is lost, the image and the CPX pairs stay. -/
def State.gatedReset (s : State) : State :=
  let u := s.resetAll onDie
  { u with sys := { u.sys with gated := true, image := s.sys.image, pairA := s.sys.pairA, pairB := s.sys.pairB, stage := .ended } }

theorem State.gatedReset_mode (s : State) : s.gatedReset.mode = s.mode := s.resetAll_mode onDie

theorem State.gatedReset_mem (s : State) : s.gatedReset.mem = s.mem.filter fun c => onDie c.1 := s.resetAll_mem onDie

/-- The device once the root PLL is out of lock. -/
def State.unlocked (s : State) : State :=
  ((s.report 0x0202 0 0).gatedReset.setFld CLK.CLKSTAT_ROOTLOCK 0).bump CLK.CLKSTAT_UNLOCKS 1

theorem execRootPllUnlock_locked {s : State} (hon : s.alive = true) (hlock : s.fld CLK.CLKSTAT_ROOTLOCK = 1) :
    execRootPllUnlock s = .next (if s.mode = .safe ∨ s.mode = .service then s.unlocked
      else (s.unlocked.setMode .safe 6 false).report 0x0104 0 6) := by
  have hdie : onDie = fun a => decide (a < 0x100000000) := rfl
  simp only [execRootPllUnlock, State.flag, hon, hlock, Bool.true_and, State.unlocked, State.gatedReset, hdie, State.report_sys,
    bne_iff_ne, ne_eq, one_ne_zero, not_false_eq_true, if_true]

theorem State.unlocked_mode (s : State) : s.unlocked.mode = s.mode := by
  have hfld : s.unlocked.fld GLB.MODE_CUR = (s.report 0x0202 0 0).gatedReset.fld GLB.MODE_CUR := by
    rw [State.unlocked, State.fld_bump_other _ _ _ _ (by decide), State.fld_setFld_other _ _ _ _ (by decide)]
  rw [State.mode, hfld, ← State.mode, State.gatedReset_mode, State.report_mode]

theorem State.unlocked_rootlock (s : State) : s.unlocked.fld CLK.CLKSTAT_ROOTLOCK = 0 := by
  rw [State.unlocked, State.fld_bump_other _ _ _ _ (by decide), State.fld_setFld_same _ _ _ (by decide)]
  rfl

theorem State.unlocked_gated (s : State) : s.unlocked.sys.gated = true := rfl

theorem State.unlocked_get (s : State) (a : Nat) :
    Memory.get s.unlocked.mem a = if a < 0x100000000 then Memory.get s.mem a else Memory.get [] a := by
  have hmem : s.unlocked.mem = s.mem.filter fun c => onDie c.1 := by
    rw [State.unlocked, State.bump_mem, State.setFld_mem, State.gatedReset_mem, State.report_mem]
  rw [hmem, Memory.get_filter, onDie]
  simp only [decide_eq_true_eq, Memory.get]

/-! ## Rails (R647) -/

section
variable {s : State} {rail : Fin 8} {mv : BitVec 16}

theorem execSupplyFault_begins (hon : s.sys.pwrgood = true) (hnew : rail.val ∉ s.sys.railEp) :
    let u := { s with sys := { s.sys with railEp := rail.val :: s.sys.railEp } }
    execSupplyFault rail mv s = .next ((u.setFlds [(CLK.RAILMV_MV rail, mv.toNat),
      (CLK.RAILSTAT_INWIN, withBit (s.fld CLK.RAILSTAT_INWIN) rail false),
      (CLK.RAILSTAT_FAULTED, withBit (s.fld CLK.RAILSTAT_FAULTED) rail true)]).raiseF 0x0503 rail mv.toNat) := by
  have hskip : ¬(!s.sys.pwrgood || s.sys.railEp.contains rail.val) = true := by simp [hon, hnew]
  rw [execSupplyFault, if_neg hskip]
  rfl

theorem execRailBackInWindow_ends (hon : s.sys.pwrgood = true) (hin : rail.val ∈ s.sys.railEp) :
    let u := { s with sys := { s.sys with railEp := s.sys.railEp.filter (· != rail.val) } }
    execRailBackInWindow rail mv s = .next (u.setFlds [(CLK.RAILMV_MV rail, mv.toNat),
      (CLK.RAILSTAT_INWIN, withBit (s.fld CLK.RAILSTAT_INWIN) rail true)]) := by
  have htaken : (s.sys.pwrgood && s.sys.railEp.contains rail.val) = true := by simp [hon, hin]
  rw [execRailBackInWindow, if_pos htaken]
  rfl

end

/-! ## Sensors and the throttle (R648 to R653) -/

section
variable {s : State} {n : Fin 30}

theorem execThermalConversion_reads (hrun : s.sensorRuns n = true) (v : BitVec 12) :
    let hot := since s.sys.critAt n s.clock (decide (480 ≤ signed 12 v.toNat))
    execThermalConversion n (some v) s = .next (({ s with sys := { s.sys with convFail := s.sys.convFail.drop n, critAt := hot } }.setFlds
      [(CLK.TS_TJ n, v.toNat), (CLK.TS_VALID n, 1)]).showTmax) := by
  simp only [execThermalConversion, hrun, Bool.not_true, Bool.false_eq_true, if_false]

/-- A failed conversion counts to 3, and the third makes the sensor invalid. -/
theorem execThermalConversion_fails (hrun : s.sensorRuns n = true) :
    let k := min (s.sys.convFail.get n 0 + 1) 3
    let u := { s with sys := { s.sys with convFail := s.sys.convFail.set n k } }
    execThermalConversion n none s = .next ((if k = 3 then u.setFld (CLK.TS_VALID n) 0 else u).showTmax) := by
  simp only [execThermalConversion, hrun, Bool.not_true, Bool.false_eq_true, if_false]

theorem heldFor_iff {t : Tbl Nat} {k now ns : Nat} : heldFor t k now ns = true ↔ t.has k = true ∧ t.get k 0 + ns ≤ now := by
  rw [heldFor, Bool.and_eq_true, decide_eq_true_eq]

theorem execThrottleStepUp_due {x : Nat × Int} (hon : s.domainOn .fabric = true) (hk : s.fld CLK.THRSTAT_STEP < 4) (hx : s.hottest = some x)
    (hhot : enterAt (s.fld CLK.THRSTAT_STEP) ≤ x.2) (hheld : heldFor s.sys.hotAt (s.fld CLK.THRSTAT_STEP) s.clock 10000000 = true) :
    execThrottleStepUp s = .next ((s.bump CLK.THRCNT_STEPUPS 1).throttleStep (s.fld CLK.THRSTAT_STEP + 1)) := by
  simp only [execThrottleStepUp, hon, hx, hheld, decide_eq_true hk, Option.any_some, decide_eq_true hhot, Bool.and_self, if_true]

theorem execThrottleStepDown_due {x : Nat × Int} (hon : s.domainOn .fabric = true) (hk : 0 < s.fld CLK.THRSTAT_STEP) (hx : s.hottest = some x)
    (hcool : x.2 < leaveAt (s.fld CLK.THRSTAT_STEP)) (hheld : heldFor s.sys.coolAt (s.fld CLK.THRSTAT_STEP) s.clock 1000000000 = true) :
    execThrottleStepDown s = .next (s.throttleStep (s.fld CLK.THRSTAT_STEP - 1)) := by
  simp only [execThrottleStepDown, hon, hx, hheld, decide_eq_true hk, Option.all_some, decide_eq_true hcool, Bool.and_self, if_true]

theorem execCriticalTemperature_held {w : Int} (hw : s.tempOf n = some w) (hhot : 480 ≤ w)
    (hheld : heldFor s.sys.critAt n s.clock 1000000 = true) :
    execCriticalTemperature n s = .next ((s.report 0x0502 n (unsigned 64 (w / 4))).enterSafe 0x0F) := by
  simp only [execCriticalTemperature, hw, if_pos (And.intro hhot hheld)]

end

/-! ## The statement -/

/-- Settles O9: each command by its lemma, a PLL that unlocks by the mode it finds, a failed conversion by how many failed before. -/
theorem clocksAndThermal : Obligations.ClocksAndThermal := by
  unfold Obligations.ClocksAndThermal
  refine ⟨fun s test rail mv => ⟨fun hon hlock => ?_, fun hon hlive => congrArg _ (if_pos (by simp [hon, hlive])),
    fun hon hnew => execSupplyFault_begins hon hnew, fun hon hin => execRailBackInWindow_ends hon hin⟩,
    fun s n v => ⟨fun hrun => ⟨execThermalConversion_reads hrun v, fun hthird => ?_, fun hfew => ?_⟩,
    fun x k hon hk hlt hx hhot hhas hheld => ?_, fun x k hon hk hx hcool hhas hheld => ?_, fun w hw hhot hhas hheld => ?_⟩⟩
  · have hunlock : exec .rootPllUnlock s = _ := execRootPllUnlock_locked hon hlock
    by_cases hkept : s.mode = .safe ∨ s.mode = .service
    · rw [if_pos hkept] at hunlock
      exact ⟨_, hunlock, fun hsafe hservice => absurd hkept (not_or.mpr ⟨hsafe, hservice⟩), fun _ => s.unlocked_mode, s.unlocked_gated,
        s.unlocked_rootlock, s.unlocked_get⟩
    · rw [if_neg hkept] at hunlock
      refine ⟨_, hunlock, fun _ _ => ⟨?_, ?_⟩, fun h => absurd h hkept, ?_, ?_, fun a => ?_⟩
      · rw [State.report_mode, State.setMode_mode]
      · rw [State.report_fld_other (by decide), State.setMode_cause _ _ _ (by decide)]
      · rw [State.report_sys, State.setMode_gated, State.unlocked_gated]
      · rw [State.report_fld_other (by decide), State.setMode_fld_other _ _ _ _ (by decide) (by decide), State.unlocked_rootlock]
      · rw [State.report_mem, State.setMode_mem, State.unlocked_get]
  · refine (execThermalConversion_fails hrun).trans ?_
    simp only [hthird, Nat.reduceAdd, Nat.min_self, if_true]
  · have hk : min (s.sys.convFail.get n 0 + 1) 3 = s.sys.convFail.get n 0 + 1 := by omega
    refine (execThermalConversion_fails hrun).trans ?_
    simp only [hk, if_neg (show ¬s.sys.convFail.get n 0 + 1 = 3 by omega)]
  · subst hk
    exact execThrottleStepUp_due hon hlt hx hhot (heldFor_iff.mpr ⟨hhas, hheld⟩)
  · rw [← hk] at hcool hhas hheld
    have hdown := execThrottleStepDown_due hon (by omega) hx hcool (heldFor_iff.mpr ⟨hhas, hheld⟩)
    rwa [hk, Nat.add_sub_cancel] at hdown
  · exact execCriticalTemperature_held hw hhot (heldFor_iff.mpr ⟨hhas, hheld⟩)

end Sys2Proof.Machine
end

section
/-!
PROOF. The CAN controllers: frames received, sent, failed and timed out, error states, the configuration and the wake (spec/21_can.md
R575 to R590).
-/
namespace Sys2Proof.Machine

section
variable {s : State} {c : CanId}

/-! ## Frames received (R580 to R583) -/

/-- The data that a frame carries (R580). -/
def canData (id : Word) (dlc : Fin 16) (data : List Byte) : List Byte := bytesAt data 0 (canLen (canFdf id.toNat) dlc)

theorem canLen_eq (fd : Bool) (dlc : Nat) :
    canLen fd dlc = if fd = true ∧ 8 < dlc then [12, 16, 20, 24, 32, 48, 64].getD (dlc - 9) 64 else min dlc 8 := by
  unfold canLen
  by_cases h8 : dlc ≤ 8
  · rw [if_pos h8, if_neg (by omega), Nat.min_eq_left h8]
  · cases fd
    · simp only [if_neg h8, Bool.false_eq_true, false_and, if_false]
      omega
    · simp only [if_neg h8, if_true, true_and, if_pos (Nat.not_le.mp h8)]

/-- A frame that the controller hears is counted, read as vehicle data, and tunnelled where a filter says so. -/
theorem execCanFrameReceive_heard {time : BitVec 64} {id : Word} {dlc : Fin 16} {flags : BitVec 2} {data : List Byte} (hon : s.domainOn .can = true)
    (hen : s.flag (CAN.CTL_EN c) = true) (hbus : s.fld (CAN.STAT_STATE c) ≠ 2) (hfd : canFdf id.toNat = false ∨ s.flag (CAN.CTL_FDEN c) = true) :
    let d := canData id dlc data
    let t := time.toNat / 10 * 10
    let u := (s.bump (CAN.CNT0_RXFRAMES c) 1).vehicle c t id.toNat dlc d
    execCanFrameReceive c time id dlc flags data s = .next (if u.canAction c id.toNat = 1 then
      u.canTunnel c (leBytes 8 t ++ leBytes 4 id.toNat ++ leBytes 1 dlc ++ leBytes 1 flags.toNat ++ leBytes 2 0 ++ d) else u) := by
  have hheard : ¬(!s.domainOn .can || !s.flag (CAN.CTL_EN c) || s.fld (CAN.STAT_STATE c) == canBusOff
      || (canFdf id.toNat && !s.flag (CAN.CTL_FDEN c))) = true := by
    rcases hfd with hfd | hfd <;> simp [hon, hen, hfd, canBusOff, hbus]
  rw [execCanFrameReceive, if_neg hheard]
  rfl

/-! ## Frames sent (R576 to R579) -/

theorem State.canPop_eq {e : Nat × List Byte} {rest : List (Nat × List Byte)} (hq : (s.can c).queue = e :: rest) :
    s.canPop c = s.setCan c { s.can c with queue := rest, headAt := s.clock } := by
  rw [State.canPop, hq]
  rfl

/-- An attempt of the frame at the head ends. -/
theorem execCanTxDone_head {ok : Bool} {time : BitVec 64} {tec : BitVec 9} {rec_ : Byte} {ttag : Nat} {item : List Byte}
    {rest : List (Nat × List Byte)} (hon : s.domainOn .can = true) (hen : s.flag (CAN.CTL_EN c) = true)
    (hlisten : s.flag (CAN.CTL_LISTEN c) = false) (hq : (s.can c).queue = (ttag, item) :: rest) :
    let u := s.setCan c { s.can c with queue := rest, headAt := s.clock }
    execCanTxDone c ok time tec rec_ s = .next ((if ok then (u.bump (CAN.CNT0_TXFRAMES c) 1).txDone c 0 ttag time.toNat item
      else if s.flag (CAN.CTL_ONESHOT c) then u.txDone c 2 ttag 0 item else s).canErr c tec.toNat rec_.toNat) := by
  simp only [execCanTxDone, hon, hen, hlisten, hq, Bool.not_true, Bool.or_self, Bool.false_eq_true, if_false, State.canPop_eq hq]

theorem execCanTxLifetime_late {ttag : Nat} {item : List Byte} {rest : List (Nat × List Byte)} (hon : s.domainOn .can = true)
    (hq : (s.can c).queue = (ttag, item) :: rest) (hlife : s.fld (CAN.TXLIFE_MS c) ≠ 0)
    (hlate : (s.can c).headAt + 1000000 * s.fld (CAN.TXLIFE_MS c) ≤ s.clock) :
    execCanTxLifetime c s = .next ((s.setCan c { s.can c with queue := rest, headAt := s.clock }).txDone c 2 ttag 0 item) := by
  have hdue : ¬(!s.domainOn .can || s.fld (CAN.TXLIFE_MS c) == 0 || decide (s.clock < (s.can c).headAt + s.txLifeNs c)) = true := by
    simp only [hon, Bool.not_true, Bool.false_or, Bool.or_eq_true, beq_iff_eq, decide_eq_true_eq]
    unfold State.txLifeNs
    omega
  rw [execCanTxLifetime, if_neg hdue, hq]
  exact congrArg (fun u : State => Host.Outcome.next (u.txDone c 2 ttag 0 item)) (State.canPop_eq hq)

end

/-! ## The queue aborted (R575, R578) -/

section
variable {c : Nat} {f : Fld}

/-- Answers of the tunnel write their two counters alone. -/
theorem State.txDone_fld_other (hcnt : f.addr ≠ CAN.CNT1 c) (hbrg : f.addr ≠ BRG.CNT3) (s : State) (tstat ttag time : Nat) (item : List Byte) :
    (s.txDone c tstat ttag time item).fld f = s.fld f := by
  have hbump (u : State) {g : Fld} (b : Prop) [Decidable b] (hg : f.addr ≠ g.addr) : (if b then u.bump g 1 else u).fld f = u.fld f := by
    split
    · exact State.fld_bump_other _ _ _ _ (Fld.apart_of_addr hg.symm)
    · rfl
  have htunnel (u : State) (sid key ttype inst : Nat) (l : List Byte) : (u.tunnel sid key ttype tstat inst ttag l).fld f = u.fld f := by
    have hcsr : (u.tunnel sid key ttype tstat inst ttag l).csr = (if tstat = 0 then u else u.bump BRG.CNT3_TUNERR 1).csr := by
      unfold State.tunnel
      dsimp only
      generalize (if tstat = 0 then u else u.bump BRG.CNT3_TUNERR 1) = v
      split <;> rfl
    rw [State.fld, State.reg, hcsr, ← State.reg, ← State.fld]
    split
    · rfl
    · exact State.fld_bump_other _ _ _ _ (Fld.apart_of_addr hbrg.symm)
  exact (htunnel ..).trans (hbump s (tstat = 2) hcnt)

theorem State.txDone_cans (s : State) (tstat ttag time : Nat) (item : List Byte) : (s.txDone c tstat ttag time item).cans = s.cans := by
  rw [State.txDone, State.tunnel_cans]
  split <;> rfl

theorem State.abortTx_fld_other (hcnt : f.addr ≠ CAN.CNT1 c) (hbrg : f.addr ≠ BRG.CNT3) (q : List (Nat × List Byte)) (s : State) :
    (s.abortTx c q).fld f = s.fld f := by
  induction q generalizing s with
  | nil => rfl
  | cons e q ih => exact (ih _).trans (State.txDone_fld_other hcnt hbrg ..)

theorem State.abortTx_cans (q : List (Nat × List Byte)) (s : State) : (s.abortTx c q).cans = s.cans := by
  induction q generalizing s with
  | nil => rfl
  | cons e q ih => exact (ih _).trans (State.txDone_cans ..)

theorem State.abortQueue_can (s : State) : (s.abortQueue c).can c = { s.can c with queue := [] } := by
  rw [State.abortQueue, State.can, State.abortTx_cans]
  exact Tbl.get_set_same ..

theorem State.abortQueue_fld_other (hcnt : f.addr ≠ CAN.CNT1 c) (hbrg : f.addr ≠ BRG.CNT3) (s : State) : (s.abortQueue c).fld f = s.fld f :=
  State.abortTx_fld_other hcnt hbrg ..

/-! ## Error states (R585) -/

theorem State.canMsg_csr (s : State) (c k : Nat) : (s.canMsg c k).csr = s.csr := rfl

theorem State.canMsg_cans (s : State) (c k : Nat) : (s.canMsg c k).cans = s.cans := rfl

theorem State.canMsg_fld (s : State) (k : Nat) : (s.canMsg c k).fld f = s.fld f := rfl

/-- The state of a controller that its error counters give. -/
def canStateOf (tec rec : Nat) : Nat := if 256 ≤ tec then 2 else if 128 ≤ tec ∨ 128 ≤ rec then 1 else 0

/-- ERRC and STAT.STATE of a controller. -/
def canShows (c tec rec st : Nat) : List (Fld × Nat) := [(CAN.ERRC_TEC c, tec), (CAN.ERRC_REC c, rec), (CAN.STAT_STATE c, st)]

theorem State.canShows_fields {tec rec st : Nat} (htec : tec < 256) (hrec : rec < 256) (hst : st < 4) (s : State) :
    let u := s.setFlds (canShows c tec rec st)
    u.fld (CAN.ERRC_TEC c) = tec ∧ u.fld (CAN.ERRC_REC c) = rec ∧ u.fld (CAN.STAT_STATE c) = st := by
  have haddr : CAN.STAT c ≠ CAN.ERRC c := by
    unfold CAN.STAT CAN.ERRC
    omega
  have hapart : (canShows c tec rec st).Pairwise fun x y => y.1.apart x.1 = true := by
    simp only [canShows, List.pairwise_cons, List.forall_mem_cons, List.not_mem_nil, false_implies, implies_true, and_true, List.Pairwise.nil]
    exact ⟨⟨by simp [Fld.apart, CAN.ERRC_TEC, CAN.ERRC_REC], Fld.apart_of_addr haddr⟩, Fld.apart_of_addr haddr⟩
  have hhi : ∀ x ∈ canShows c tec rec st, x.1.hi < 32 := by
    simp [canShows, CAN.ERRC_TEC, CAN.ERRC_REC, CAN.STAT_STATE]
  have hfld := State.fld_setFlds_of_mem hhi hapart s
  simp only [canShows, List.forall_mem_cons] at hfld
  obtain ⟨h1, h2, h3, -⟩ := hfld
  exact ⟨h1.trans (Nat.mod_eq_of_lt htec), h2.trans (Nat.mod_eq_of_lt hrec), h3.trans (Nat.mod_eq_of_lt hst)⟩

/-- What enters an error state shows the counters and changes neither register after that. -/
theorem State.canErr_fld {s : State} {tec rec : Nat} (hst : s.fld (CAN.STAT_STATE c) = 0 ∨ s.fld (CAN.STAT_STATE c) = 1)
    (hf : f.addr = CAN.ERRC c ∨ f.addr = CAN.STAT c) : 
    (s.canErr c tec rec).fld f = (s.setFlds (canShows c (min tec 255) (min rec 255) (canStateOf tec rec))).fld f := by
  have hlive : ¬(s.fld (CAN.STAT_STATE c) = canBusOff ∨ s.fld (CAN.STAT_STATE c) = canOff) := by
    unfold canBusOff canOff
    omega
  have hcan : 0xD0000 ≤ f.addr ∧ f.addr ≠ CAN.CNT1 c ∧ f.addr ≠ CAN.CNT2 c := by
    unfold CAN.ERRC CAN.STAT at hf
    unfold CAN.CNT1 CAN.CNT2
    omega
  obtain ⟨hlo, hcnt1, hcnt2⟩ := hcan
  have hreport (u : State) (code arg : Nat) : (u.report code c arg).fld f = u.fld f := State.report_fld_other (.inr (by omega)) ..
  unfold State.canErr
  have hof : (if 256 ≤ tec then canBusOff else if 128 ≤ tec ∨ 128 ≤ rec then canPassive else canActive) = canStateOf tec rec := rfl
  rw [if_neg hlive, hof, canShows]
  generalize canStateOf tec rec = st
  dsimp only
  split
  · rfl
  · split
    · rw [State.canMsg_fld, State.abortQueue_fld_other hcnt1 (by unfold BRG.CNT3; omega),
        State.fld_bump_other _ _ _ _ (Fld.apart_of_addr hcnt2.symm), hreport]
    · split
      · rw [State.canMsg_fld, hreport]
      · rw [State.canMsg_fld]

theorem canStateOf_lt (tec rec : Nat) : canStateOf tec rec < 4 := by
  unfold canStateOf
  split_ifs <;> decide

theorem State.canErr_fields {s : State} {tec rec : Nat} (hst : s.fld (CAN.STAT_STATE c) = 0 ∨ s.fld (CAN.STAT_STATE c) = 1) :
    let u := s.canErr c tec rec
    u.fld (CAN.ERRC_TEC c) = min tec 255 ∧ u.fld (CAN.ERRC_REC c) = min rec 255 ∧ u.fld (CAN.STAT_STATE c) = canStateOf tec rec := by
  intro u
  rw [State.canErr_fld hst (.inl rfl), State.canErr_fld hst (.inl rfl), State.canErr_fld hst (.inr rfl)]
  exact State.canShows_fields (by omega) (by omega) (canStateOf_lt tec rec) s

theorem State.canErr_queue {s : State} {tec rec : Nat} (hst : s.fld (CAN.STAT_STATE c) = 0 ∨ s.fld (CAN.STAT_STATE c) = 1) (htec : 256 ≤ tec) :
    ((s.canErr c tec rec).can c).queue = [] := by
  have hlive : ¬(s.fld (CAN.STAT_STATE c) = canBusOff ∨ s.fld (CAN.STAT_STATE c) = canOff) := by
    unfold canBusOff canOff
    omega
  have hnew : ¬canBusOff = s.fld (CAN.STAT_STATE c) := fun h => hlive (.inl h.symm)
  unfold State.canErr
  simp only [if_neg hlive, if_pos htec, if_neg hnew, if_true]
  exact congrArg CanSt.queue (State.abortQueue_can _)

end

/-! ## A wake from STANDBY (R588, R642) -/

theorem State.wakeUp_standby {s : State} (hon : s.alive = true) (htrans : s.sys.trans = none) (hmode : s.mode = .standby) (cause : Nat) :
    s.wakeUp cause = s.startWake cause := by
  simp only [State.wakeUp, hon, htrans, hmode, Bool.not_true, Bool.false_eq_true, if_false, if_true]

/-! ## Recovery, configuration, wake, counters (R575, R585, R588, R590) -/

section
variable {s : State} {c : CanId}

theorem execCanBusError_enabled {tec : BitVec 9} {rec_ : Byte} (hon : s.domainOn .can = true) (hen : s.flag (CAN.CTL_EN c) = true) :
    execCanBusError c tec rec_ s = .next (s.canErr c tec.toNat rec_.toNat) := by
  rw [execCanBusError, hon, hen]
  rfl

theorem execBusOffRecovery_off (hon : s.domainOn .can = true) (hst : s.fld (CAN.STAT_STATE c) = 2) (hrec : s.flag (CAN.CTL_AUTOREC c) = true) :
    execBusOffRecovery c s = .next ((s.setFlds (canShows c 0 0 0)).canMsg c 1) := by
  have htaken : (s.domainOn .can && s.fld (CAN.STAT_STATE c) == canBusOff && s.flag (CAN.CTL_AUTOREC c)) = true := by
    simp [hon, hst, hrec, canBusOff]
  rw [execBusOffRecovery, if_pos htaken]
  rfl

/-- A configuration as it takes effect: the queue aborted, the bit timing and the mode set, the error counters zeroed. -/
def State.canConfigured (s : State) (c mode nbt dbt : Nat) : State :=
  let u := (s.setCan c { s.can c with config := none }).abortQueue c
  ((u.setReg (CAN.NBT c) (BitVec.ofNat 32 nbt)).setReg (CAN.DBT c) (BitVec.ofNat 32 dbt)).setFlds
    ((⟨CAN.CTL c, 5, 0⟩, mode) :: canShows c 0 0 (if bit mode 0 then canActive else canOff))

/-- A message that may follow changes no register and no controller. -/
theorem execCanConfigApply_waiting {mode nbt dbt : Nat} (hon : s.domainOn .can = true) (hconf : (s.can c).config = some (mode, nbt, dbt)) :
    let u := s.canConfigured c mode nbt dbt
    ∃ t, execCanConfigApply c s = .next t ∧ t.csr = u.csr ∧ t.cans = u.cans := by
  simp only [execCanConfigApply, hon, hconf, Bool.not_true, Bool.false_eq_true, if_false, State.canConfigured, canShows]
  generalize (if bit mode 0 = true then canActive else canOff) = st
  split
  · exact ⟨_, rfl, rfl, rfl⟩
  · exact ⟨_, rfl, State.canMsg_csr .., State.canMsg_cans ..⟩

theorem State.canConfigured_fields {mode nbt dbt : Nat} (hmode : mode < 64) :
    let u := s.canConfigured c mode nbt dbt
    getBits (u.reg (CAN.CTL c)) 5 0 = mode ∧ u.reg (CAN.NBT c) = BitVec.ofNat 32 nbt ∧ u.reg (CAN.DBT c) = BitVec.ofNat 32 dbt
      ∧ u.fld (CAN.ERRC_TEC c) = 0 ∧ u.fld (CAN.ERRC_REC c) = 0 ∧ u.fld (CAN.STAT_STATE c) = (if bit mode 0 then 0 else 3)
      ∧ (u.can c).queue = [] ∧ (u.can c).config = none := by
  have haddr : CAN.CTL c ≠ CAN.NBT c ∧ CAN.CTL c ≠ CAN.DBT c ∧ CAN.NBT c ≠ CAN.DBT c
      ∧ CAN.ERRC c ≠ CAN.CTL c ∧ CAN.ERRC c ≠ CAN.NBT c
      ∧ CAN.ERRC c ≠ CAN.DBT c ∧ CAN.STAT c ≠ CAN.CTL c ∧ CAN.STAT c ≠ CAN.NBT c ∧ CAN.STAT c ≠ CAN.DBT c := by
    unfold CAN.CTL CAN.NBT CAN.DBT CAN.ERRC CAN.STAT
    omega
  obtain ⟨hctlNbt, hctlDbt, hnbtDbt, herrcCtl, herrcNbt, herrcDbt, hstatCtl, hstatNbt, hstatDbt⟩ := haddr
  have hshows {a st : Nat} (herrc : CAN.ERRC c ≠ a) (hstat : CAN.STAT c ≠ a) (v : State) : (v.setFlds (canShows c 0 0 st)).reg a = v.reg a := by
    refine State.reg_setFlds_other _ _ _ ?_
    simp only [canShows, List.forall_mem_cons, List.not_mem_nil, false_implies, implies_true, and_true]
    exact ⟨herrc.symm, herrc.symm, hstat.symm⟩
  have hcan : (s.canConfigured c mode nbt dbt).can c = { s.can c with config := none, queue := [] } := by
    have hset : (s.setCan c { s.can c with config := none }).can c = { s.can c with config := none } := Tbl.get_set_same ..
    rw [State.canConfigured, State.can, State.setFlds_cans]
    exact (State.abortQueue_can _).trans (by rw [hset])
  have hst : (if bit mode 0 = true then 0 else 3) < 4 := by split <;> decide
  intro u
  obtain ⟨htec, hrec, hstate⟩ := State.canShows_fields (c := c) (tec := 0) (rec := 0) (by decide) (by decide) hst
    ((((s.setCan c { s.can c with config := none }).abortQueue c).setReg (CAN.NBT c) (BitVec.ofNat 32 nbt)).setReg (CAN.DBT c)
      (BitVec.ofNat 32 dbt) |>.setFld ⟨CAN.CTL c, 5, 0⟩ mode)
  refine ⟨?_, ?_, ?_, htec, hrec, hstate, congrArg CanSt.queue hcan, congrArg CanSt.config hcan⟩
  · have hmod : mode % 2 ^ fieldWidth 5 0 = mode := Nat.mod_eq_of_lt hmode
    refine Eq.trans ?_ hmod
    refine (congrArg (getBits · 5 0) (hshows herrcCtl hstatCtl _)).trans ?_
    exact State.fld_setFld_same _ ⟨CAN.CTL c, 5, 0⟩ mode (show 5 < 32 by decide)
  · refine (hshows herrcNbt hstatNbt _).trans ?_
    rw [State.reg_setFld_other _ _ _ _ hctlNbt.symm, State.reg_setReg_other _ _ _ _ hnbtDbt,
      State.reg_setReg_same]
  · refine (hshows herrcDbt hstatDbt _).trans ?_
    rw [State.reg_setFld_other _ _ _ _ hctlDbt.symm, State.reg_setReg_same]

end

/-! ## The statement -/

/-- Settles O58: each event by the lemma of its command, an error state by the counters that it comes with. -/
theorem canResults : Obligations.CanResults := by
  unfold Obligations.CanResults
  intro s c time tec rec_ x n
  refine ⟨fun id dlc flags data hon hen hbus hfd => ?_, fun ttag item rest hon hen hlisten hq => ?_, fun hon hen hst => ?_,
    fun hon hst hrec => execBusOffRecovery_off hon hst hrec, fun mode nbt dbt hon hconf hmode => ?_, fun id dlc data hon htrans hmode hwake => ?_,
    fun hon => congrArg _ (if_pos hon)⟩
  · have hrx := execCanFrameReceive_heard (dlc := dlc) (time := time) (flags := flags) (data := data) hon hen hbus hfd
    rw [canData, canLen_eq] at hrx
    exact ⟨fun hno => hrx.trans (congrArg _ (if_neg hno)), fun hyes => hrx.trans (congrArg _ (if_pos hyes))⟩
  · have htx (ok : Bool) := execCanTxDone_head (ok := ok) (time := time) (tec := tec) (rec_ := rec_) hon hen hlisten hq
    refine ⟨htx true, fun hone => ?_, fun hretry => ?_, fun hlife hlate => execCanTxLifetime_late hon hq hlife hlate⟩
    · exact (htx false).trans (congrArg (fun u : State => Host.Outcome.next (u.canErr c tec.toNat rec_.toNat)) (if_pos hone))
    · exact (htx false).trans (congrArg (fun u : State => Host.Outcome.next (u.canErr c tec.toNat rec_.toNat)) (if_neg (ne_true_of_eq_false hretry)))
  · have herr : exec (.canBusError c tec rec_) s = _ := execCanBusError_enabled hon hen
    refine ⟨_, herr, fun htec => ?_, fun htec => ?_⟩
    · have hof : canStateOf tec.toNat rec_.toNat = if 128 ≤ tec.toNat ∨ 128 ≤ rec_.toNat then 1 else 0 := if_neg (by omega)
      have hfields := State.canErr_fields (tec := tec.toNat) (rec := rec_.toNat) hst
      rwa [hof, Nat.min_eq_left (by omega), Nat.min_eq_left (by omega)] at hfields
    · have hof : canStateOf tec.toNat rec_.toNat = 2 := if_pos htec
      obtain ⟨-, -, hstate⟩ := State.canErr_fields (tec := tec.toNat) (rec := rec_.toNat) hst
      exact ⟨hstate.trans hof, State.canErr_queue hst htec⟩
  · have hfields := State.canConfigured_fields (s := s) (c := c) (nbt := nbt) (dbt := dbt) hmode
    obtain ⟨t, happly, hcsr, hcans⟩ := execCanConfigApply_waiting hon hconf
    refine ⟨t, happly, ?_⟩
    simp only [State.fld, State.reg, State.can, hcsr, hcans] at hfields ⊢
    exact hfields
  · have hwakes : exec (.canWakeDetect c id dlc data) s = _ := congrArg Host.Outcome.next (if_pos hwake)
    rw [hwakes, State.wakeUp_standby hon htrans hmode]

end Sys2Proof.Machine
end

section
/-!
PROOF. The management address and the board bus: P, writes and reads at it, the wake, and the transactions of I2CB (spec/22_i2c.md R591
to R604, spec/14_bridge.md R687).
-/
namespace Sys2Proof.Machine

section
variable {s : State} {addr : BitVec 7}

/-! ## The management address (R594 to R596, R687) -/

section
variable (hans : s.mgmtAnswers addr = true)
include hans

theorem execI2caPointerSet_answers (data : List Byte) :
    execI2caPointerSet addr data s = .next (if 6 ≤ data.length then s.setMgmtPtr (bigNat (data.take 6)) else s) := by
  simp only [execI2caPointerSet, hans, Bool.true_and, decide_eq_true_eq]

/-- A write goes on from P by the bytes that lie in P's page, and is performed where no test fails. -/
theorem execI2caWrite_answers {p : BitVec 48} {data : List Byte} :
    let d := data.take (4096 - p.toNat % 4096)
    let u := s.setMgmtPtr (p.toNat + d.length)
    d ≠ [] → execI2caWrite addr p data s = .next ((u.mgmtTest p.toNat d.length).elim (u.mgmtWrite p.toNat d) fun x => u.mgmtFail x.1 x.2 1) := by
  intro d u hd
  have hd' : ¬d = [] := hd
  rw [execI2caWrite, hans]
  simp only [Bool.not_true, Bool.false_eq_true, if_false]
  rw [if_neg hd']
  cases u.mgmtTest p.toNat d.length with
  | none => rfl
  | some x => rfl

end

theorem State.mgmtWrite_register {a : Nat} (ha : a < 0x1000000) (d : List Byte) : s.mgmtWrite a d = s.writeCsr a d true := if_pos ha

theorem State.mgmtWrite_memory {a : Nat} {d : List Byte} (ha : 0x1000000 ≤ a) :
    s.mgmtWrite a d = if s.partialPoison a d.length then (s.store a d).mgmtFail 4 0 1 else s.store a d := if_neg (Nat.not_lt.mpr ha)

/-! ## The wake and the timeout (R598, R599) -/

theorem execI2caWakeMatch_matches (hon : s.alive = true) (hpins : s.pinsTaken = false) (hslot : s.mgmtSlot addr = true)
    (hstandby : s.mode = .standby ∨ ∃ t, s.sys.trans = some t ∧ t.target = .standby) :
    execI2caWakeMatch addr s = .next ({ s with i2c := { s.i2c with held := true } }.wakeUp 8) := by
  have htaken : (s.alive && !s.pinsTaken && s.mgmtSlot addr && (s.mode == .standby || s.sys.trans.any fun t => t.target == .standby)) = true := by
    rcases hstandby with hmode | ⟨t, htrans, htarget⟩
    · simp [hon, hpins, hslot, hmode]
    · simp [hon, hpins, hslot, htrans, htarget]
  rw [execI2caWakeMatch, if_pos htaken]

/-- A wake on the way into STANDBY is kept until STANDBY is reached. -/
theorem State.wakeUp_entering {t : Trans} (hon : s.alive = true) (htrans : s.sys.trans = some t) (htarget : t.target = .standby)
    (hwake : s.sys.wake = none) (cause : Nat) : s.wakeUp cause = { s with sys := { s.sys with wake := some cause } } := by
  simp only [State.wakeUp, hon, htrans, htarget, hwake, Option.isNone_none, and_self, Bool.not_true, Bool.false_eq_true, if_false, if_true]

theorem execI2caStretchTimeout_held (hready : s.mgmtReady = true) (hslot : s.mgmtSlot addr = true) :
    execI2caStretchTimeout addr s =
      .next (({ s with i2c := { s.i2c with held := false } }.bump I2CA.ICNT_STRETCHTO 1).report 0x0E01 0 addr.toNat) := by
  rw [execI2caStretchTimeout, hready, hslot]
  rfl

end

/-! ## The board bus (R600 to R602, R604) -/

section
variable {s : State}

/-- A transaction that ends with another code than OK is counted. -/
theorem State.i2cbEnd_error {code : Nat} (hcode : code ≠ 0) (n : Nat) :
    s.i2cbEnd code n = (s.setFlds [(I2CB.STAT_CODE, code), (I2CB.STAT_NDONE, n)]).bump I2CB.CNT_ERRORS 1 := if_neg hcode

/-- A transaction on the pins: what is sent, and BUSY. -/
def State.i2cbGoes (s : State) : State :=
  let buf := (List.range 16).flatMap fun k => leBytes 4 (s.reg (I2CB.DATA k)).toNat
  { s with sent := s.sent ++ [Sent.i2cb (s.fld I2CB.TXN_ADDR) (buf.take (s.fld I2CB.TXN_WLEN)) (s.fld I2CB.TXN_RLEN)] }.setFld I2CB.STAT_STATE 1

/-- A transaction starts unless the bus is stuck. -/
def State.i2cbStarts (s : State) : State := if s.fld I2CB.STAT_STATE = 3 then s.i2cbEnd 6 0 else s.i2cbGoes

theorem State.i2cbStarts_idle (h : s.fld I2CB.STAT_STATE = 0) : s.i2cbStarts = s.i2cbGoes := if_neg (by omega)

theorem State.i2cbStarts_stuck (h : s.fld I2CB.STAT_STATE = 3) :
    s.i2cbStarts = (s.setFlds [(I2CB.STAT_CODE, 6), (I2CB.STAT_NDONE, 0)]).bump I2CB.CNT_ERRORS 1 :=
  (if_pos h).trans (State.i2cbEnd_error (by decide) 0)

theorem State.busClear_freed : (s.busClear true).fld I2CB.STAT_STATE = 0 := State.fld_setFld_same _ I2CB.STAT_STATE 0 (by decide)

theorem State.busClear_stuck : (s.busClear false).fld I2CB.STAT_STATE = 3 := by
  rw [State.busClear, if_neg Bool.false_ne_true, State.report_fld_other (by decide), State.fld_setFld_same _ _ _ (by decide)]
  rfl

section
variable (hidle : s.fld I2CB.STAT_STATE = 0) (hen : s.flag I2CB.CTL_EN = true)
include hidle hen

/-- A good transaction starts after the bus clear that it may need, unless the bus stays stuck. -/
theorem State.i2cbGo_good (hw : s.fld I2CB.TXN_WLEN ≤ 64) (hr : s.fld I2CB.TXN_RLEN ≤ 64) (low freed : Bool) :
    s.i2cbGo low freed = (if s.i2c.fresh || low then s.busClear freed else s).i2cbStarts := by
  have hlen : ¬(64 < s.fld I2CB.TXN_WLEN ∨ 64 < s.fld I2CB.TXN_RLEN) := by omega
  simp only [State.i2cbGo, hidle, hen, if_neg hlen, ibIdle, ibStateStuck, Bool.true_eq_false, if_false, OfNat.zero_ne_ofNat, ne_eq,
    not_true_eq_false]
  rfl

theorem State.i2cbGo_long (hw : 64 < s.fld I2CB.TXN_WLEN) (low freed : Bool) : s.i2cbGo low freed = s.i2cbEnd 5 0 := by
  have hlen : 64 < s.fld I2CB.TXN_WLEN ∨ 64 < s.fld I2CB.TXN_RLEN := .inl hw
  simp only [State.i2cbGo, hidle, hen, if_pos hlen, ibIdle, ibStateStuck, Bool.true_eq_false, if_false, OfNat.zero_ne_ofNat, ne_eq,
    not_true_eq_false, ibBadTxn]

end

section
variable (hon : s.domainOn .boardBus = true) (hbusy : s.fld I2CB.STAT_STATE = 1)
include hon hbusy

theorem execI2cbTransactionDone_busy {code : Fin 4} {nd : BitVec 7} {data : List Byte} {freed : Bool} :
    let u := s.setFld I2CB.STAT_STATE 0
    execI2cbTransactionDone code nd data freed s = .next (
      if code.val = 0 then (u.i2cbFill (bytesAt data 0 (u.fld I2CB.TXN_RLEN))).i2cbEnd 0 (u.fld I2CB.TXN_WLEN + u.fld I2CB.TXN_RLEN)
      else if code.val = 3 then (u.i2cbEnd 3 nd.toNat).busClear freed else u.i2cbEnd code nd.toNat) := by
  have htaken : ¬(!s.domainOn .boardBus || s.fld I2CB.STAT_STATE != ibBusy) = true := by simp [hon, hbusy, ibBusy]
  rw [execI2cbTransactionDone, if_neg htaken]
  rfl

theorem execI2cbTimeout_busy {freed : Bool} :
    let k := s.free.toNat % (s.fld I2CB.TXN_WLEN + s.fld I2CB.TXN_RLEN + 1)
    execI2cbTimeout freed s = .next (((s.took.setFld I2CB.STAT_STATE 0).i2cbEnd 4 k).busClear freed) := by
  have htaken : ¬(!s.domainOn .boardBus || s.fld I2CB.STAT_STATE != ibBusy) = true := by simp [hon, hbusy, ibBusy]
  rw [execI2cbTimeout, if_neg htaken]
  rfl

end
end

/-! ## The statement -/

/-- Settles O59: the management address by what it is sent, the board bus by the state it is in. -/
theorem twoWireResults : Obligations.TwoWireResults := by
  unfold Obligations.TwoWireResults
  intro s addr p data n
  dsimp only
  refine ⟨fun hans => ⟨fun hlen => ?_, fun hlen => ?_, fun hd => ?_, congrArg _ (if_pos hans)⟩,
    fun hon hpins hslot => ⟨fun hmode htrans => ?_, fun t htrans htarget hwake => ?_⟩,
    fun hready hslot => execI2caStretchTimeout_held hready hslot, fun hon => congrArg _ (if_pos hon), fun hon => ?_⟩
  · exact (execI2caPointerSet_answers hans data).trans (congrArg _ (if_pos hlen))
  · exact (execI2caPointerSet_answers hans data).trans (congrArg _ (if_neg (Nat.not_le.mpr hlen)))
  · have hwrite : exec (.i2caWrite addr p data) s = _ := execI2caWrite_answers hans hd
    refine ⟨fun c e hfail => ?_, fun hgood ha => ?_, fun hgood ha hfree => ?_, fun hgood ha hpart => ?_⟩
    · rw [hwrite, hfail, Option.elim_some]
    · rw [hwrite, hgood, Option.elim_none, State.mgmtWrite_register ha]
    · rw [hwrite, hgood, Option.elim_none, State.mgmtWrite_memory ha, if_neg (ne_true_of_eq_false hfree)]
    · rw [hwrite, hgood, Option.elim_none, State.mgmtWrite_memory ha, if_pos hpart]
  · have hwake : exec (.i2caWakeMatch addr) s = _ := execI2caWakeMatch_matches hon hpins hslot (.inl hmode)
    exact hwake.trans (congrArg _ (State.wakeUp_standby (s := { s with i2c := { s.i2c with held := true } }) hon htrans hmode 8))
  · have hmatch : exec (.i2caWakeMatch addr) s = _ := execI2caWakeMatch_matches hon hpins hslot (.inr ⟨t, htrans, htarget⟩)
    exact hmatch.trans (congrArg _ (State.wakeUp_entering (s := { s with i2c := { s.i2c with held := true } }) hon htrans htarget hwake 8))
  · have hgo (low freed : Bool) : exec (.i2cbGo low freed) s = .next (s.i2cbGo low freed) := congrArg _ (if_pos hon)
    refine ⟨fun low freed hidle hen hw hr => ?_, fun low freed hidle hen hw => ?_, fun nd freed hbusy => ?_, fun freed hstuck => ?_,
      congrArg _ (if_pos hon)⟩
    · have hgood : exec (.i2cbGo low freed) s = _ := (hgo low freed).trans (congrArg _ (State.i2cbGo_good hidle hen hw hr low freed))
      have hiff : (s.i2c.fresh || low) = true ↔ s.i2c.fresh = true ∨ low = true := by rw [Bool.or_eq_true]
      refine ⟨fun hno => ?_, fun hclear hfreed => ?_, fun hclear hfreed => ?_⟩
      · rw [hgood, if_neg (mt hiff.mp hno), State.i2cbStarts_idle hidle]
        rfl
      · rw [hgood, if_pos (hiff.mpr hclear), hfreed, State.i2cbStarts_idle State.busClear_freed]
        rfl
      · rw [hgood, if_pos (hiff.mpr hclear), hfreed, State.i2cbStarts_stuck State.busClear_stuck]
    · rw [hgo, State.i2cbGo_long hidle hen hw, State.i2cbEnd_error (by decide)]
    · have hdone (code : Fin 4) := execI2cbTransactionDone_busy (code := code) (nd := nd) (data := data) (freed := freed) hon hbusy
      refine ⟨hdone 0, (hdone 1).trans ?_, (hdone 2).trans ?_, (hdone 3).trans ?_, s.free.toNat % (s.fld I2CB.TXN_WLEN + s.fld I2CB.TXN_RLEN + 1),
        s.fresh + 1, Nat.le_of_lt_succ (Nat.mod_lt _ (Nat.succ_pos _)), (execI2cbTimeout_busy hon hbusy).trans ?_⟩
      · exact congrArg _ (State.i2cbEnd_error (code := 1) (by decide) nd.toNat)
      · exact congrArg _ (State.i2cbEnd_error (code := 2) (by decide) nd.toNat)
      · exact congrArg (fun u : State => Host.Outcome.next (u.busClear freed)) (State.i2cbEnd_error (by decide) nd.toNat)
      · exact congrArg (fun u : State => Host.Outcome.next (u.busClear freed)) (State.i2cbEnd_error (by decide) _)
    · have hclr : exec (.clrstuck freed) s = .next (s.clrStuck freed) := congrArg _ (if_pos hon)
      exact hclr.trans (congrArg _ (if_pos hstuck))

end Sys2Proof.Machine
end

section
/-!
PROOF. Memory errors and zero fill: what ECC does with a word of SRAM or LPDDR, the pass and the first writes, the registers of MEMC
(spec/23_memory.md R606 to R609, R613 to R616, R625).
-/
namespace Sys2Proof.Machine

section
variable {s : State}

/-! ## What a poisoned word and a captured address leave alone (R616, R655) -/

/-- The domains follow from the power and the mode. -/
theorem State.domainOn_congr {t : State} (hsys : t.sys = s.sys) (hmode : t.mode = s.mode) (d : Domain) : t.domainOn d = s.domainOn d := by
  cases d <;> simp only [State.domainOn, State.alive, hsys, hmode]

theorem State.poisonWord_domainOn (w : Nat) (d : Domain) : (s.poisonWord w).domainOn d = s.domainOn d := by
  refine State.domainOn_congr (State.poisonWord_sys ..) ?_ d
  unfold State.poisonWord
  dsimp only
  split <;> rfl

theorem State.captureErr_domainOn (a src : Nat) (d : Domain) : (s.captureErr a src).domainOn d = s.domainOn d := by
  refine State.domainOn_congr (State.captureErr_sys ..) (congrArg Mode.ofCode ?_) d
  unfold State.captureErr
  split
  · rfl
  · refine State.fld_setFlds_other _ _ _ ?_
    simp only [List.forall_mem_cons, List.not_mem_nil, false_implies, implies_true, and_true]
    decide

section
variable (hon : s.domainOn .lpddr = true)
include hon

/-! ## SRAM (R606 to R608) -/

theorem State.sramError_single (a : Nat) : s.sramError a false = (s.bump MEMC.SRCNT_CE 1).report 0x5001 (sramRegion a) a := by
  simp only [State.sramError, State.memCount, hon, Bool.false_eq_true, if_false, if_true]

theorem State.sramError_double (a : Nat) :
    s.sramError a true = (((s.poisonWord a).captureErr (8 * (a / 8)) 0).bump MEMC.SRCNT_UE 1).report 0x5002 (sramRegion a) a := by
  simp only [State.sramError, State.memCount, State.memCapture, State.poisonWord_domainOn, State.captureErr_domainOn, hon, if_true]

omit hon in
theorem execSramEccRead_checked {addr : BitVec 48} {double : Bool} {sid : Option (BitVec 12)} (hin : inSram addr.toNat = true)
    (hpow : s.sramPowered addr.toNat = true) (hchk : s.unchecked addr.toNat = false) :
    execSramEccRead addr double sid s = .next (if double then (s.sramError addr.toNat double).sramConsumer addr.toNat (sid.map BitVec.toNat)
      else s.sramError addr.toNat double) := by
  simp only [execSramEccRead, hin, hpow, hchk, Bool.not_true, Bool.or_self, Bool.false_eq_true, if_false]

omit hon in
theorem execSramScrub_checked {addr : BitVec 48} {double : Bool} (hin : inSram addr.toNat = true)
    (hpow : s.sramPowered addr.toNat = true) (hchk : s.unchecked addr.toNat = false) (hscrub : s.flag MEMC.SCRUB_SR_EN = true) :
    execSramScrub addr double s = .next (s.sramError addr.toNat double) := by
  simp only [execSramScrub, hin, hpow, hchk, hscrub, Bool.not_true, Bool.or_self, Bool.false_eq_true, if_false]

/-! ## LPDDR (R613 to R615) -/

/-- A transfer by no consumer of the pixel path leaves only what the error itself does. -/
theorem execLpddrEccRead_other {addr : BitVec 48} {err : LpError} (hin : inLpddr addr.toNat = true)
    (hmet : s.blockFilled addr.toNat = true ∨ err = .linkWrite) : execLpddrEccRead addr err .other s = .next (s.lpError addr.toNat err) := by
  have hskip : ¬(!inLpddr addr.toNat || !s.domainOn .lpddr || !(s.blockFilled addr.toNat || decide (err = .linkWrite))) = true := by
    rcases hmet with hmet | hmet <;> simp [hin, hon, hmet]
  rw [execLpddrEccRead, if_neg hskip]
  exact congrArg _ (ite_self _)

theorem execLpddrPatrolScrub_met {addr : BitVec 48} {double : Bool} (hin : inLpddr addr.toNat = true) (hmet : s.blockFilled addr.toNat = true)
    (hscrub : s.flag MEMC.SCRUB_LP_EN = true) :
    execLpddrPatrolScrub addr double s = .next (s.lpError addr.toNat (if double then .inlineBad else .inlineFixed)) := by
  simp only [execLpddrPatrolScrub, hin, hon, hmet, hscrub, Bool.not_true, Bool.or_self, Bool.false_eq_true, if_false]

/-- The pass below the top of LPDDR: the block at the watermark is filled, and the watermark rises. -/
theorem execZeroFillBlock_running (hrun : s.flag MEMC.INITSTAT_RUNNING = true) (htop : s.watermark + 0x10000 < lpddrTop) :
    let wm := s.watermark + 0x10000
    execZeroFillBlock s = .next (({ s with memx := { s.memx with filled := s.memx.filled.filter fun b => decide (wm ≤ 0x10000 * b) } }).setFlds
      [(MEMC.INITWML_WM, wm), (MEMC.INITWMH_WM, wm / 2 ^ 32)]) := by
  have hmin : min (s.watermark + 0x10000) lpddrTop = s.watermark + 0x10000 := Nat.min_eq_left (Nat.le_of_lt htop)
  simp only [execZeroFillBlock, hon, hrun, hmin, if_neg (Nat.ne_of_lt htop), Bool.not_true, Bool.or_self, Bool.false_eq_true, if_false]

theorem execFillOnWrite_first {addr : BitVec 48} (hin : inLpddr addr.toNat = true) (hfresh : s.blockFilled addr.toNat = false) :
    execFillOnWrite addr s = .next ({ s with memx := { s.memx with filled := s.memx.filled ++ [addr.toNat / 0x10000] } }.bump
      MEMC.INITSTAT_FOWBLK 1) := by
  have hfill : (inLpddr addr.toNat && !s.blockFilled addr.toNat) = true := by rw [hin, hfresh]; rfl
  rw [execFillOnWrite, if_pos hon, State.fillBlock, if_pos hfill]

end

/-! ## The counters of MEMC (R625) -/

/-- The registers that hold the counters. -/
def memCounters : List Nat := MEMC.SRCNT :: (List.range 4).flatMap fun n => [MEMC.LCNTA n, MEMC.LCNTB n]

theorem State.clearMemCounters_eq : s.clearMemCounters = s.zeroRegs memCounters := rfl

theorem mem_memCounters {a : Nat} : a ∈ memCounters ↔ a = MEMC.SRCNT ∨ ∃ n < 4, a = MEMC.LCNTA n ∨ a = MEMC.LCNTB n := by
  simp [memCounters]

end

/-! ## The statement -/

/-- Settles O60: an SRAM word by whether its error is corrected, an LPDDR word by its error, the rest by its command. -/
theorem memoryErrors : Obligations.MemoryErrors := by
  unfold Obligations.MemoryErrors
  intro s addr channel hon a ch
  refine ⟨fun sid hin hpow hchk => ?_, fun hin hmet => ?_, fun hin => execLpddrEccRead_other hon hin (.inr rfl), congrArg _ (if_pos hon),
    fun hrun htop => execZeroFillBlock_running hon hrun htop, fun hin hfresh => execFillOnWrite_first hon hin hfresh, congrArg _ (if_pos hon),
    ⟨s.clearMemCounters, congrArg _ (if_pos hon), ?_⟩⟩
  · have hread (double : Bool) := execSramEccRead_checked (double := double) (sid := sid) hin hpow hchk
    have hscrub (double : Bool) := execSramScrub_checked (double := double) hin hpow hchk
    simp only [State.sramError_single hon, State.sramError_double hon, Bool.forall_bool, Bool.false_eq_true, if_false, if_true] at hread hscrub
    obtain ⟨hfixed, hbad⟩ := hread
    exact ⟨hfixed, hbad, fun hen => ⟨hscrub.1 hen, hscrub.2 hen⟩⟩
  · have hread (err : LpError) : exec (.lpddrEccRead addr err .other) s = _ := execLpddrEccRead_other hon hin (.inl hmet)
    have hscrub (double : Bool) := execLpddrPatrolScrub_met (double := double) hon hin hmet
    exact ⟨hread .linkFixed, hread .inlineFixed, hread .inlineBad, hread .linkRetried, hread .linkRead,
      fun hen => ⟨hscrub false hen, hscrub true hen⟩⟩
  · have hreg (x : Nat) : s.clearMemCounters.reg x = if x ∈ memCounters then 0 else s.reg x := by
      rw [State.clearMemCounters_eq, State.reg_zeroRegs]
    have hzero {x : Nat} (hx : x = MEMC.SRCNT ∨ ∃ n < 4, x = MEMC.LCNTA n ∨ x = MEMC.LCNTB n) : s.clearMemCounters.reg x = 0 :=
      (hreg x).trans (if_pos (mem_memCounters.mpr hx))
    refine ⟨hzero (.inl rfl), fun n hn => ⟨hzero (.inr ⟨n, hn, .inl rfl⟩), hzero (.inr ⟨n, hn, .inr rfl⟩)⟩, rfl, fun x hsr hl => ?_⟩
    refine (hreg x).trans (if_neg (mt mem_memCounters.mp ?_))
    rintro (hx | ⟨n, hn, hx | hx⟩)
    · exact hsr hx
    · exact (hl n hn).1 hx
    · exact (hl n hn).2 hx

end Sys2Proof.Machine
end

section
/-!
PROOF. Flips in a pair: the proposal and its DIGEST, the answer or its timeout, the epoch and the TDONE of the partner
(spec/16_config_sets.md R470, spec/17_pairing.md R485, R502, R503).
-/
namespace Sys2Proof.Machine

section
variable {s : State} {cs : List Crumb}

/-! ## A proposal of the partner (R470, R502) -/

/-- With no flip of its own the device keeps the proposal until the DIGEST comes. -/
theorem execPeerFlipPropose_heard (hears : s.peerHears = true) (ht : pcType cs = 7) (hm : s.mirrors = true) (hflip : s.cfg.flip = none) :
    let c := crumbAt cs 1
    execPeerFlipPropose cs s = .next (s.setPair { s.pair with
      proposed := some (pcNum cs, pcArg cs, bitsOf c 7 0, bitsOf c 15 8, bitsOf c 31 16, crumbAt cs 2) }) := by
  rw [execPeerFlipPropose, State.onPairCtl_of_hears hears ht]
  simp only [hm, hflip, Option.any_none, Bool.not_true, Bool.false_eq_true, false_and, or_self, if_false]

/-- The flip that a proposal makes on the device that answers it. -/
def remoteFlip (now num gen ekind pace epoch : Nat) : Flip :=
  { chan := 64, tag := 0, epoch := if ekind = 0 then some epoch else none, pace := if ekind = 0 then none else some pace, admitted := now,
    reached := false, todo := [], done := [], moves := [], failed := none, remote := true, wait := 0, tdone := 0, num := num, gen := gen }

/-- The state once a proposal has met its DIGEST. -/
def State.unproposed (s : State) : State := s.setPair { s.pair with proposed := none }

theorem State.unproposed_cfg : s.unproposed.cfg = s.cfg := State.setPair_cfg ..

theorem State.unproposed_flipPending (hflip : s.cfg.flip = none) : s.unproposed.flipPending = false := by
  have hnone : s.unproposed.pair.proposed = none := rfl
  simp only [State.flipPending, hnone, State.unproposed_cfg, hflip, Option.isSome_none, Bool.or_self]

section
variable {gen ekind fl pace epoch : Nat} (hears : s.peerHears = true) (ht : pcType cs = 0x0C)
  (hprop : s.pair.proposed = some (pcNum cs, gen, ekind, fl, pace, epoch)) (hflip : s.cfg.flip = none)
include hears ht hprop hflip

/-- A DIGEST of other bits than the shadow's ends the proposal. -/
theorem execPeerDigest_differs (hdiff : crumbsBytes ((cs.drop 1).take 6) ≠ CfgSet.digest s.cfg.shadow) :
    execPeerDigest cs s = .next (s.unproposed.pairCtl 8 1 (pcNum cs) 0xFE800000 []) := by
  have hpend := State.unproposed_flipPending hflip
  rw [← State.unproposed_cfg (s := s)] at hdiff
  rw [State.unproposed] at *
  rw [execPeerDigest, State.onPairCtl_of_hears hears ht]
  simp only [hprop, hpend, ne_eq, not_true_eq_false, Bool.false_eq_true, if_false, if_pos (bne_iff_ne.mpr hdiff)]

/-- One of the same bits takes it to admission, whose refusal is the answer. -/
theorem execPeerDigest_refused (hsame : crumbsBytes ((cs.drop 1).take 6) = CfgSet.digest s.cfg.shadow) {st d : Nat}
    (hadm : s.unproposed.admission s.unproposed.cfg.shadow s.unproposed.pairView = some (st, d)) :
    execPeerDigest cs s = .next (s.unproposed.pairCtl 8 1 (pcNum cs) (d ||| 0x00800000) []) := by
  have hpend := State.unproposed_flipPending hflip
  have hbits : ¬(crumbsBytes ((cs.drop 1).take 6) != CfgSet.digest s.unproposed.cfg.shadow) = true := by
    rw [bne_iff_ne, not_not, State.unproposed_cfg, hsame]
  rw [State.unproposed] at *
  rw [execPeerDigest, State.onPairCtl_of_hears hears ht]
  simp only [hprop, hpend, hadm, ne_eq, not_true_eq_false, Bool.false_eq_true, if_false, if_neg hbits]

/-- An admitted proposal is answered, and its flip goes on. -/
theorem execPeerDigest_admitted (hsame : crumbsBytes ((cs.drop 1).take 6) = CfgSet.digest s.cfg.shadow)
    (hadm : s.unproposed.admission s.unproposed.cfg.shadow s.unproposed.pairView = none) :
    let y := (s.unproposed.admitFlip (remoteFlip s.now (pcNum cs) gen ekind pace epoch)).pairCtl 8 0 (pcNum cs) 0 []
    ∀ g, y.cfg.flip = some g → execPeerDigest cs s = .next (y.flipGo g none) := by
  intro y g hg
  have hpend := State.unproposed_flipPending hflip
  have hbits : ¬(crumbsBytes ((cs.drop 1).take 6) != CfgSet.digest s.unproposed.cfg.shadow) = true := by
    rw [bne_iff_ne, not_not, State.unproposed_cfg, hsame]
  have hnow : s.now = s.unproposed.now := rfl
  subst y
  rw [hnow, remoteFlip] at *
  rw [State.unproposed] at *
  rw [execPeerDigest, State.onPairCtl_of_hears hears ht]
  simp only [hprop, hpend, hadm, hg, ne_eq, not_true_eq_false, Bool.false_eq_true, if_false, if_neg hbits]

end

/-! ## The answer to the own proposal (R470, R502) -/

section
variable {f : Flip} (hasked : s.flipAsked = some f)
include hasked

theorem execPeerFlipAnswer_asked (hears : s.peerHears = true) (ht : pcType cs = 8) (hnum : f.num = pcNum cs) :
    execPeerFlipAnswer cs s = .next (
      if pcCode cs = 0 then (s.setCfg { s.cfg with flip := some { f with wait := 3 } }).flipGo { f with wait := 3 } (s.running f.chan 0x0805 f.tag)
      else (s.releaseFlip f).finish f.chan 0x0805 f.tag (if bit (pcArg cs) 23 then 0x0809 else 0x080A) (pcArg cs) []) := by
  rw [execPeerFlipAnswer, State.onPairCtl_of_hears hears ht]
  simp only [hasked, hnum, ne_eq, not_true_eq_false, if_false]

theorem execPeerFlipAnswerTimeout_late (hlate : f.admitted + 1000000 ≤ s.now) :
    execPeerFlipAnswerTimeout s = .next ((s.releaseFlip f).finish f.chan 0x0805 f.tag 0x0809 0x0080FFFF []) := by
  simp only [execPeerFlipAnswerTimeout, hasked, if_pos hlate]

end

/-! ## The epoch and the TDONE of the partner (R503) -/

section
variable {f : Flip} (hears : s.peerHears = true) (hflip : s.cfg.flip = some f)
include hears hflip

theorem execPeerFlipEpoch_awaited (ht : pcType cs = 9) (hremote : f.remote = true) (hreached : f.reached = false) :
    execPeerFlipEpoch cs s = .next (s.flipReach (crumbAt cs 1)) := by
  rw [execPeerFlipEpoch, State.onPairCtl_of_hears hears ht]
  simp only [hflip, hremote, hreached, Bool.not_false, Bool.and_self, if_true]

theorem execPeerFlipDone_awaited (ht : pcType cs = 0x0A) (hremote : f.remote = false) (hwait : f.wait = 3) :
    let g := { f with peer := crumbAt cs 1, wait := 0 }
    let u := s.setCfg { s.cfg with flip := some g }
    execPeerFlipDone cs s = .next (if f.tdone ≠ 0 then u.flipAnswer g else u) := by
  rw [execPeerFlipDone, State.onPairCtl_of_hears hears ht]
  simp only [hflip, hremote, hwait, ne_eq, not_true_eq_false, Bool.false_eq_true, or_self, if_false]

end
end

/-! ## The statement -/

/-- Settles O55: each message by the flip that it meets, a DIGEST by the comparison and then by admission. -/
theorem pairFlips : Obligations.PairFlips := by
  unfold Obligations.PairFlips
  intro s cs hears x c num
  refine ⟨fun ht hm hflip => execPeerFlipPropose_heard hears ht hm hflip,
    fun gen ekind fl pace epoch ht hprop hflip => ?_, fun f ht hasked hnum => ?_,
    fun f hasked hlate => execPeerFlipAnswerTimeout_late hasked hlate,
    fun f ht hflip hremote hreached => execPeerFlipEpoch_awaited hears hflip ht hremote hreached, fun f ht hflip hremote hwait => ?_⟩
  · exact ⟨fun hdiff => execPeerDigest_differs hears ht hprop hflip hdiff,
      fun hsame st d hadm => execPeerDigest_refused hears ht hprop hflip hsame hadm,
      fun hsame hadm => execPeerDigest_admitted hears ht hprop hflip hsame hadm⟩
  · have hans : exec (.peerFlipAnswer cs) s = _ := execPeerFlipAnswer_asked hasked hears ht hnum
    exact ⟨fun hc => hans.trans (congrArg _ (if_pos hc)), fun hc => hans.trans (congrArg _ (if_neg hc))⟩
  · have hdone : exec (.peerFlipDone cs) s = _ := execPeerFlipDone_awaited hears hflip ht hremote hwait
    exact ⟨fun hz => hdone.trans (congrArg _ (if_neg (not_not.mpr hz))), fun hz => hdone.trans (congrArg _ (if_pos hz))⟩

end Sys2Proof.Machine
end

section
/-!
PROOF. The ends of the long commands, and of a switch between the CPX pairs (spec/16_config_sets.md R463, R473, spec/18_rotation_bist.md R524,
R525, spec/19_faults.md R549, spec/24_security.md R630, R631).
-/
namespace Sys2Proof.Machine

section
variable {s : State} {r : Req}

/-! ## Sets: CFG_LOAD and CFG_EXPORT (R463) -/

theorem State.loadFinish_read {c : CfgSet} (h : readImage (s.bytes r.base (r.arg 0 4)) (s.fld (MBX.CST_LEVEL r.ch)) = .ok c) :
    s.loadFinish r = (s.setShadow c).done r (bytesAt (s.bytes r.base (r.arg 0 4)) 0x10 8) := by
  simp only [State.loadFinish, h]

theorem State.loadFinish_faulty {off : Nat} (h : readImage (s.bytes r.base (r.arg 0 4)) (s.fld (MBX.CST_LEVEL r.ch)) = .error off) :
    s.loadFinish r = s.refuse r 0x080C off := by
  simp only [State.loadFinish, h]

theorem State.exportFinish_fits :
    let b := CfgSet.image (if r.arg 0 1 = 0 then s.cfg.active else s.cfg.shadow)
    b.length ≤ 67108864 →
      s.exportFinish r = (s.poke 0x110000000 b).done r (leBytes 8 0x110000000 ++ leBytes 4 b.length ++ leBytes 4 (s.fld GLB.CFGGEN_GEN)) := by
  intro b hlen
  have hfits : ¬64 * 2 ^ 20 < b.length := by omega
  simp only [b] at hfits
  rw [State.exportFinish, if_neg hfits, layout, layout, layout, layout, List.append_nil, List.append_assoc]

/-! ## UPD_FLASH (R455, R630) -/

section
variable {back : List Byte} (hsec : s.sys.secDead = false)
  (hgood : verifyImage s.fuses.rootRev (some s.fuses.fwSvn) 1 (s.bytes r.base (r.arg 4 4)) = 0)
include hsec hgood

/-- What was read back after programming decides. -/
theorem State.flashFinish_verified :
    let u := { s with sys := { s.sys with flash := s.sys.flash.set (r.arg 0 1) back } }
    s.flashFinish r back =
      if verifyImage s.fuses.rootRev (some s.fuses.fwSvn) 1 back = 0 ∧ back.take (s.bytes r.base (r.arg 4 4)).length = s.bytes r.base (r.arg 4 4)
      then u.done r [] else u.refuse r 0x0D02 0 := by
  simp only [State.flashFinish, State.imageFor, hsec, hgood, Bool.false_eq_true, if_false]

end

/-! ## A switch of the CPX pairs (R473, R549) -/

theorem State.switchVerified_good (hopen : s.mbx.paused = false) (hsec : s.sys.secDead = false)
    (hgood : verifyImage s.fuses.rootRev (some s.fuses.fwSvn) 1 (s.bytes r.base (r.arg 0 4)) = 0) :
    let u := { s with mbx := { s.mbx with paused := true } }
    s.switchVerified r = u.abortRuns (fun x => x.opcode != 0x0D02) 2 u.mbx.runs := by
  simp only [State.switchVerified, State.imageFor, hopen, hsec, hgood, Bool.false_eq_true, if_false]

theorem execCpxSwitchTimeout_switching (h : s.switching = some r) : execCpxSwitchTimeout s = .next (s.switchFails.report 0x0603 0 0) := by
  rw [execCpxSwitchTimeout, h, Option.isSome_some, if_pos rfl]

theorem execNewPairReady_switching {i : Image} (h : s.switching = some r) (hruns : s.cpxRuns = true)
    (hpair : s.sys.pairA = .standby ∨ s.sys.pairB = .standby) (hi : s.sys.image = some i) :
    let img := s.bytes r.base (r.arg 0 4)
    let range := Config.pairRange img
    let u := { s with sys := { s.sys with pairA := s.sys.pairB, pairB := s.sys.pairA, image := some (imageOf s.fuses.rootRev i.slot img) }
                      mbx := { s.mbx with paused := false } }
    execNewPairReady s = .next ((u.setFlds [(GLB.BUILD_BUILD, Config.buildOf (imageSection img 1)), (PEER.PLEVEL_PMIN, range.1.toNat),
      (PEER.PLEVEL_PMAX, range.2.toNat)]).done r []) := by
  have hstandby : (s.sys.pairA == .standby || s.sys.pairB == .standby) = true := by
    rw [Bool.or_eq_true, beq_iff_eq, beq_iff_eq]
    exact hpair
  simp only [execNewPairReady, h, hruns, hstandby, hi, State.imageFor, State.swapPairs, Bool.not_true, Bool.or_self, Bool.false_eq_true, if_false]

/-! ## UPD_PROG_ADD (R360 to R362, R631) -/

/-- The keys that sign kernel binaries for the running image. -/
def State.kernelKeys (s : State) : List (List Byte) :=
  match s.sys.image with
  | some i => i.kernelKeys
  | none => []

section
variable (hsec : s.sys.secDead = false)
include hsec

theorem State.progFinish_malformed (hbad : kernelGood (s.bytes r.base (r.arg 0 4)) = false) : s.progFinish r = s.refuse r 0x0D01 1 := by
  simp only [State.progFinish, State.imageFor, hsec, hbad, Bool.not_false, Bool.false_eq_true, if_false, if_true]

section
variable (hgood : kernelGood (s.bytes r.base (r.arg 0 4)) = true)
  (hsigned : verifyKernel s.kernelKeys s.fuses.kbSvn (s.bytes r.base (r.arg 0 4)) = 0)
include hgood hsigned

theorem State.progFinish_noPlace
    (hplace : storePlace (s.progs.filter fun x => x.progid != fieldAt (s.bytes r.base (r.arg 0 4)) 0x0C 4)
      (kEnd (s.bytes r.base (r.arg 0 4))) = none) :
    s.progFinish r = s.refuse r 0x0D04 0 := by
  cases hi : s.sys.image
  all_goals
    simp only [State.kernelKeys, hi] at hsigned
    simp only [State.progFinish, State.imageFor, hi, hsec, hgood, hsigned, hplace, Bool.not_true, Bool.false_eq_true, if_false]

/-- A place is found: the count and the bytes of the store decide. -/
theorem State.progFinish_placed {a : Nat} :
    let b := s.bytes r.base (r.arg 0 4)
    let id := fieldAt b 0x0C 4
    let rest := s.progs.filter fun x => x.progid != id
    storePlace rest (kEnd b) = some a →
      s.progFinish r = if 64 ≤ rest.length ∨ storeSize < ((rest.map (·.len)).foldl (· + ·) 0) + kEnd b then s.refuse r 0x0D04 0
        else ({ s with progs := rest ++ [Binary.mk id a (kEnd b)] }.poke a (b.take (kEnd b))).done r (leBytes 4 id) := by
  intro b id rest hplace
  simp only [b, id, rest] at hplace ⊢
  cases hi : s.sys.image
  all_goals
    simp only [State.kernelKeys, hi] at hsigned
    simp only [State.progFinish, State.imageFor, hi, hsec, hgood, hsigned, hplace, Bool.not_true, Bool.false_eq_true, if_false]
    congr 1

end
end

/-! ## SVC_BIST (R525) -/

theorem State.bistFinish_answers {results : List BistResult} :
    let l := results.filter fun b => bit (r.arg 0 4) (bistScope b.part)
    let v := s.retireFailed l
    let u := if bit (r.arg 0 4) 1 ∧ (v.sys.pairA = .standby ∨ v.sys.pairB = .standby) then v.swapPairs else v
    let bytes := l.flatMap BistResult.bytes
    s.bistFinish r results = (u.poke (resultBuf r.ch) bytes).done r (leBytes 8 (resultBuf r.ch) ++ leBytes 4 bytes.length) := by
  simp only [State.bistFinish, State.toBuffer, layout, List.append_nil]

/-! ## SVC_FUSE (R524, R631) -/

/-- The kernel binaries blow at most 64 fuses. -/
theorem State.fuseFinish_blows {i : Image} (hi : s.sys.image = some i) :
    let f := s.blown
    let ret := s.keeper.retired.filter fun x => !f.retired.contains x
    let rep := s.keeper.repairs.filter fun x => !f.repairs.contains x
    ∃ kb, kb ≤ 64 ∧ s.fuseFinish r = { s with blown :=
      { rootRev := f.rootRev ||| i.revoke, fwSvn := max f.fwSvn (min i.svn 64), kbSvn := max f.kbSvn kb,
        retired := f.retired ++ ret, repairs := f.repairs ++ rep } }.done r (leBytes 4 (ret.length + rep.length)) := by
  intro f ret rep
  cases hstore : s.storeSvn with
  | none => exact ⟨0, Nat.zero_le _, by simp only [State.fuseFinish, hi, hstore, f, ret, rep]⟩
  | some v => exact ⟨min v 64, Nat.min_le_right .., by simp only [State.fuseFinish, hi, hstore, f, ret, rep]⟩

/-! ## The command that the firmware ends (R436) -/

section
variable {ch : Chan} {op tag : BitVec 16} {back : List Byte} {results : List BistResult}

/-- The end of the internal work of a running command, by its opcode. -/
def State.longEnd (s : State) (r : Req) (back : List Byte) (results : List BistResult) : Nat → State
  | 0x0801 => s.loadFinish r
  | 0x0807 => s.exportFinish r
  | 0x0D01 => s.flashFinish r back
  | 0x0D02 => s.switchVerified r
  | 0x0D03 => s.progFinish r
  | 0x0E03 => s.bistFinish r results
  | 0x0E04 => s.fuseFinish r
  | _ => s

/-- FINAL_RESPONSE finds its running command while a CPX pair runs. -/
theorem execFinalResponse_found (hfound : s.mbx.runs.find? (fun r => r.ch == ch.val && r.opcode == op.toNat && r.tag == tag.toNat) = some r)
    (hruns : s.cpxRuns = true) : execFinalResponse ch op tag back results s = .next (s.longEnd r back results op.toNat) := by
  simp only [execFinalResponse, hfound, hruns, Bool.not_true, Bool.false_eq_true, if_false]
  congr 1

end
end

/-! ## The statement -/

/-- Settles O52: each end by the lemma of its command, and the switch by the command that is in its pause. -/
theorem longCommandEnds : Obligations.LongCommandEnds := by
  unfold Obligations.LongCommandEnds
  intro s ch op tag back results r ends outcome
  have hfound (h : ends) : outcome = .next (s.longEnd r back results op.toNat) := execFinalResponse_found h.1 h.2
  clear_value outcome
  refine ⟨fun h hop => ?_, fun h hop => ?_, fun h hop hsec => ?_, fun h hop hopen hsec hgood => ?_, fun h hop hsec => ?_, fun h hop => ?_,
    fun i h hop hi => ?_, fun x hx => execCpxSwitchTimeout_switching hx,
    fun x i hx hruns hpair hi => execNewPairReady_switching hx hruns hpair hi⟩
  · intro b
    have hload : outcome = .next (s.loadFinish r) := by simp only [hfound h, hop, BitVec.reduceToNat, State.longEnd]
    exact ⟨fun c hc => hload.trans (congrArg _ (State.loadFinish_read hc)),
      fun off hoff => hload.trans (congrArg _ (State.loadFinish_faulty hoff))⟩
  · intro b hlen
    have hexport : outcome = .next (s.exportFinish r) := by simp only [hfound h, hop, BitVec.reduceToNat, State.longEnd]
    exact hexport.trans (congrArg _ (State.exportFinish_fits hlen))
  · intro img hgood u
    have hflash : outcome = .next (s.flashFinish r back) := by simp only [hfound h, hop, BitVec.reduceToNat, State.longEnd]
    rw [State.flashFinish_verified hsec hgood] at hflash
    exact ⟨fun hback hsame => hflash.trans (congrArg _ (if_pos ⟨hback, hsame⟩)),
      fun hback => hflash.trans (congrArg _ (if_neg fun both => hback both.1))⟩
  · have hswitch : outcome = .next (s.switchVerified r) := by simp only [hfound h, hop, BitVec.reduceToNat, State.longEnd]
    exact hswitch.trans (congrArg _ (State.switchVerified_good hopen hsec hgood))
  · intro b id rest keys
    have hprog : outcome = .next (s.progFinish r) := by simp only [hfound h, hop, BitVec.reduceToNat, State.longEnd]
    refine ⟨fun hbad => hprog.trans (congrArg _ (State.progFinish_malformed hsec hbad)), fun hgood hsigned =>
      ⟨fun hplace => hprog.trans (congrArg _ (State.progFinish_noPlace hsec hgood hsigned hplace)), fun a hplace => ?_⟩⟩
    rw [State.progFinish_placed hsec hgood hsigned hplace] at hprog
    exact ⟨fun hfull => hprog.trans (congrArg _ (if_pos hfull)), fun hfree => hprog.trans (congrArg _ (if_neg hfree))⟩
  · intro l v u bytes
    simp only [hfound h, hop, BitVec.reduceToNat, State.longEnd, State.bistFinish_answers, l, v, u, bytes]
  · have hfuse : outcome = .next (s.fuseFinish r) := by simp only [hfound h, hop, BitVec.reduceToNat, State.longEnd]
    obtain ⟨kb, hkb, heq⟩ := State.fuseFinish_blows (r := r) hi
    exact ⟨kb, hkb, hfuse.trans (congrArg _ heq)⟩

end Sys2Proof.Machine
end
